-- ==== Sys2Proof/Word.lean ====
section
/-! DEFINITION. The word types of the PS1608 model: a register is 32 bits (R5), memory is addressed in bytes,
and a device time of a record is 64 bits (R8). -/

namespace Sys2Proof

/-- A register word (R5: every register is 32 bits wide and little-endian). -/
abbrev Word := BitVec 32

/-- One byte of a record, of a bank or of the non-volatile store. -/
abbrev Byte := BitVec 8

/-- A device time as records carry it (R8): seconds in bits [63:32], 2^-32 s in bits [31:0]. -/
abbrev DevTime := Nat

end Sys2Proof
end

