-- ==== Sys2Proof/Machine/Bits.lean ====
section
/-! DEFINITION. Bit fields, sign extension, byte order (R303: multi-byte fields are little-endian) and IEEE 754
binary32/binary64 conversions used by the record formats (R303: rounded to nearest even). -/

namespace Sys2Proof.Machine

/-- The low `w` bits of `v` as a two's-complement number. -/
def toSigned (w v : Nat) : Int :=
  let m := v % 2 ^ w
  if 2 * m < 2 ^ w then (m : Int) else (m : Int) - (2 ^ w : Nat)

/-- An integer as `w` bits of two's complement. -/
def ofSigned (w : Nat) (i : Int) : Nat := (i % ((2 ^ w : Nat) : Int)).toNat

/-- Bit `i` of a number. -/
def bitAt (v i : Nat) : Bool := v.testBit i

/-- 1 for true, 0 for false. -/
def b2n (b : Bool) : Nat := if b then 1 else 0

/-- The little-endian `n` bytes of a number (R303). -/
def leBytes : Nat → Nat → List Byte
  | 0, _ => []
  | n + 1, v => BitVec.ofNat 8 v :: leBytes n (v / 256)

/-- The number that little-endian bytes spell (R303). -/
def ofLe : List Byte → Nat
  | [] => 0
  | b :: bs => b.toNat + 256 * ofLe bs

/-- The big-endian `n` bytes of a number (signatures and keys, R436). -/
def beBytes (n v : Nat) : List Byte := (leBytes n v).reverse

/-- The number that big-endian bytes spell. -/
def ofBe (bs : List Byte) : Nat := ofLe bs.reverse

/-- `n` bytes from offset `o` of a byte list, as a little-endian number; bytes past the end read 0. -/
def leAt (bs : List Byte) (o n : Nat) : Nat := ofLe ((bs.drop o).take n)

/-- `n` zero bytes (R303: reserved bytes read 0). -/
def zeros (n : Nat) : List Byte := List.replicate n 0

/-- The list without repeats of the set bits of `v` below `n`, ascending. -/
def bitsOf (n v : Nat) : List Nat := (List.range n).filter (fun i => v.testBit i)

/-- The mask that has the bits of a list set. -/
def maskOf (l : List Nat) : Nat := l.foldl (fun a i => a ||| 2 ^ i) 0

/-- Ceiling of a quotient. -/
def cdiv (a b : Nat) : Nat := (a + b - 1) / b

/-- Add and saturate at the largest value of `w` bits. -/
def satAdd (w a b : Nat) : Nat := min (a + b) (2 ^ w - 1)

/-- Limit an integer to [lo, hi]. -/
def clampInt (lo hi x : Int) : Int := max lo (min hi x)

/-! ### Floating point -/

/-- Nearest integer, ties to even, of a non-negative fraction `n / d`. -/
def roundEvenNat (n d : Nat) : Nat :=
  let q := n / d
  let r := n % d
  if 2 * r < d then q else if 2 * r > d then q + 1 else if q % 2 = 0 then q else q + 1

/-- Nearest integer of a rational, halves to even. -/
def roundEven (x : Rat) : Int :=
  if x.num < 0 then - (roundEvenNat x.num.natAbs x.den : Int) else (roundEvenNat x.num.natAbs x.den : Int)

/-- Truncation of a rational towards zero. -/
def truncRat (x : Rat) : Int := Int.tdiv x.num x.den

/-- 2 to an integer power, as a rational. -/
def pow2 (e : Int) : Rat := if e < 0 then 1 / ((2 ^ e.natAbs : Nat) : Rat) else ((2 ^ e.natAbs : Nat) : Rat)

/-- 10 to an integer power, as a rational. -/
def pow10 (e : Int) : Rat := if e < 0 then 1 / ((10 ^ e.natAbs : Nat) : Rat) else ((10 ^ e.natAbs : Nat) : Rat)

/-- The exponent `e` with 2^e ≤ n/d < 2^(e+1), for a positive fraction. -/
def expOf (n d : Nat) : Int :=
  let e : Int := (n.log2 : Int) - (d.log2 : Int)
  if pow2 e ≤ (n : Rat) / (d : Rat) then e else e - 1

/-- Round a rational to a binary float with `p` fraction bits and least normal exponent `emin`: the nearest
representable value, ties to even (overflow is left to the encoder). -/
def roundFloat (p : Nat) (emin : Int) (x : Rat) : Rat :=
  if x.num = 0 then 0 else
  let e := max (expOf x.num.natAbs x.den) emin
  let u := pow2 (e - p)
  (roundEven (x / u) : Rat) * u

/-- Round to IEEE 754 binary32. -/
def round32 (x : Rat) : Rat := roundFloat 23 (-126) x

/-- Round to IEEE 754 binary64. -/
def round64 (x : Rat) : Rat := roundFloat 52 (-1022) x

/-- The quiet NaN that marks a value as not defined (R176, R303). -/
def nan32 : Nat := 0x7FC00000

/-- IEEE 754 binary32 bits of a rational, rounded to nearest even (R303). -/
def f32bits (x : Rat) : Nat :=
  let r := round32 x
  if r.num = 0 then 0 else
  let sgn : Nat := if r.num < 0 then 2 ^ 31 else 0
  let n := r.num.natAbs
  let e := expOf n r.den
  if e > 127 then sgn + 0x7F800000
  else if e < -126 then sgn + (roundEvenNat (n * 2 ^ 149) r.den)
  else sgn + (e + 127).toNat * 2 ^ 23 + (((n : Rat) / (r.den : Rat) / pow2 e - 1) * 8388608).num.natAbs

/-- The rational of binary32 bits; `none` for an infinity or a NaN. -/
def f32val (b : Nat) : Option Rat :=
  let e : Nat := (b / 2 ^ 23) % 256
  let m : Nat := b % 2 ^ 23
  let s : Rat := if b.testBit 31 then -1 else 1
  if e = 255 then none
  else if e = 0 then some (s * (m : Rat) * pow2 (-149))
  else some (s * ((m + 2 ^ 23 : Nat) : Rat) * pow2 ((e : Int) - 150))

/-- A defined value as binary32 bits, and the NaN of R176 for a value that is not defined. -/
def f32opt : Option Rat → Nat
  | some x => f32bits x
  | none => nan32

/-- Bisection for the integer square root over `fuel` bits. -/
def isqrtGo (n : Nat) : Nat → Nat → Nat
  | 0, acc => acc
  | f + 1, acc =>
    let t := acc + 2 ^ f
    isqrtGo n f (if t * t ≤ n then t else acc)

/-- The integer square root, rounded down. -/
def isqrt (n : Nat) : Nat := isqrtGo n (n.log2 / 2 + 1) 0

/-- The nearest binary32 bits of the square root of a non-negative rational: √(n/d) is taken with 40 bits below
the binary32 fraction and a sticky bit, so the rounding is that of the exact root. -/
def f32sqrt (x : Rat) : Nat :=
  if x.num ≤ 0 then 0 else
  let n := x.num.natAbs
  let e := expOf n x.den
  let k : Int := 70 - e / 2
  let y : Rat := x * pow2 (2 * k)
  let fl := y.num.natAbs / y.den
  let r := isqrt fl
  let exact := decide (r * r = fl) && decide (y.den = 1)
  let q : Rat := ((2 * r + (if exact then 0 else 1) : Nat) : Rat) / 2
  f32bits (q * pow2 (-k))

/-- The square root of a rational as a rational, truncated 64 bits below its leading bit. The slice carries its
values with at least 48 significant bits (R146); it is used where a product of roots is formed. -/
def sqrtRat (x : Rat) : Rat :=
  if x.num ≤ 0 then 0 else
  let k : Int := 64 - expOf x.num.natAbs x.den / 2
  let y : Rat := x * pow2 (2 * k)
  ((isqrt (y.num.natAbs / y.den) : Nat) : Rat) * pow2 (-k)

/-- The cube root of a non-negative integer, rounded down (bisection over `fuel` bits). -/
def icbrtGo (n : Nat) : Nat → Nat → Nat
  | 0, acc => acc
  | f + 1, acc =>
    let t := acc + 2 ^ f
    icbrtGo n f (if t * t * t ≤ n then t else acc)

/-- The cube root of a rational, truncated to a multiple of 2^-40 (Plt of R188). -/
def cbrtRat (x : Rat) : Rat :=
  if x.num ≤ 0 then 0 else
  let y : Rat := x * pow2 120
  ((icbrtGo (y.num.natAbs / y.den) 80 0 : Nat) : Rat) * pow2 (-40)

/-! ### Elementary functions

Numbers that are not rational are formed to a fixed precision far below the last place that a record or a register shows (DESIGN
CHOICE, log entry 68). -/

/-- π to 60 digits. -/
def piRat : Rat := 3141592653589793238462643383279502884197169399375105820974944 / 10 ^ 60

/-- ln 10 to 60 digits. -/
def ln10Rat : Rat := 2302585092994045684017991454684364207601101488628772976033328 / 10 ^ 60

/-- The partial sum of Σ t_k, where t_(k+1) = t_k × x / (d_k), over `fuel` terms from term `k`. -/
def powSeries (x : Rat) (d : Nat → Rat) : Nat → Nat → Rat → Rat
  | 0, _, _ => 0
  | f + 1, k, t => t + powSeries x d f (k + 1) (t * x / d k)

/-- e^x, for 0 ≤ x ≤ 3. -/
def expRat (x : Rat) : Rat := powSeries x (fun k => ((k + 1 : Nat) : Rat)) 70 0 1

/-- cos x and sin x, for |x| ≤ 2π. -/
def cosRat (x : Rat) : Rat := powSeries (-(x * x)) (fun k => (((2 * k + 1) * (2 * k + 2) : Nat) : Rat)) 50 0 1
def sinRat (x : Rat) : Rat := powSeries (-(x * x)) (fun k => (((2 * k + 2) * (2 * k + 3) : Nat) : Rat)) 50 0 x

/-- 10^x. -/
def exp10 (x : Rat) : Rat := pow10 x.floor * expRat ((x - (x.floor : Rat)) * ln10Rat)

/-- The next digits of log10 x for 1 ≤ x < 10, in units of 2^-fuel: x is squared once a digit and kept to 2^-300. -/
def log10Go : Nat → Rat → Nat → Nat
  | 0, _, acc => acc
  | f + 1, x, acc =>
    let y := ((x * x * pow2 300).floor : Rat) * pow2 (-300)
    if 10 ≤ y then log10Go f (y / 10) (2 * acc + 1) else log10Go f y (2 * acc)

/-- log10 x of a positive number, truncated to 2^-128. -/
def log10Rat (x : Rat) : Rat :=
  let e0 : Int := (expOf x.num.natAbs x.den) * 30103 / 100000
  let e : Int := if 10 ≤ x * pow10 (-e0) then e0 + 1 else if x * pow10 (-e0) < 1 then e0 - 1 else e0
  (e : Rat) + ((log10Go 128 (x * pow10 (-e)) 0 : Nat) : Rat) * pow2 (-128)

/-- tan(θ/2) from tan θ, for |θ| < 90°. -/
def halfTan (t : Rat) : Rat := t / (1 + sqrtRat (1 + t * t))

/-- The argument of x + jy in degrees, in (−180, 180]; 0 for 0. -/
def argDeg (x y : Rat) : Rat :=
  if y = 0 then (if x < 0 then 180 else 0)
  else
    let t := halfTan (halfTan (halfTan (y / (sqrtRat (x * x + y * y) + x))))
    let ang := powSeries (-(t * t)) (fun k => ((2 * k + 3 : Nat) : Rat) / ((2 * k + 1 : Nat) : Rat)) 60 0 t
    16 * ang * 180 / piRat

end Sys2Proof.Machine
end

