-- ==== Sys2Proof/Machine/Crypto.lean ====
section
/-! DEFINITION. The algorithms that the spec names by their standards: CRC-32C (R305), SHA-256 (R444), HMAC-SHA-256,
ECDSA on P-256 with deterministic nonces (R436). Their constants are those of the standards (PRESUMED, log entry 6:
the spec names the standard and gives no constant). -/

namespace Sys2Proof.Machine

/-! ### CRC-32C (R305) -/

/-- `n` bit steps of the reflected CRC-32C polynomial. -/
def crcBits : Nat → Nat → Nat
  | 0, c => c
  | n + 1, c => crcBits n (if c % 2 = 1 then (c / 2) ^^^ 0x82F63B78 else c / 2)

/-- CRC-32C with reflected input and output, initial value and final XOR 0xFFFF_FFFF (R305). -/
def crc32c (bs : List Byte) : Nat :=
  (bs.foldl (fun c b => crcBits 8 (c ^^^ b.toNat)) 0xFFFFFFFF) ^^^ 0xFFFFFFFF

/-! ### SHA-256 -/

/-- Rotate a 32-bit number right. -/
def rotr (n x : Nat) : Nat := (x / 2 ^ n) ||| ((x % 2 ^ n) * 2 ^ (32 - n))

/-- Reduce to 32 bits. -/
def m32 (x : Nat) : Nat := x % 4294967296

/-- The eight 32-bit words of a 256-bit number, most significant first. -/
def words8 (x : Nat) : List Nat := (List.range 8).map (fun i => x / 2 ^ (224 - 32 * i) % 2 ^ 32)

/-- The round constants of SHA-256, eight to a row of 256 bits: row r holds those of rounds 8 r to 8 r + 7. -/
def shaRows : List Nat :=
  [0x428a2f9871374491b5c0fbcfe9b5dba53956c25b59f111f1923f82a4ab1c5ed5,
   0xd807aa9812835b01243185be550c7dc372be5d7480deb1fe9bdc06a7c19bf174,
   0xe49b69c1efbe47860fc19dc6240ca1cc2de92c6f4a7484aa5cb0a9dc76f988da,
   0x983e5152a831c66db00327c8bf597fc7c6e00bf3d5a7914706ca635114292967,
   0x27b70a852e1b21384d2c6dfc53380d13650a7354766a0abb81c2c92e92722c85,
   0xa2bfe8a1a81a664bc24b8b70c76c51a3d192e819d6990624f40e3585106aa070,
   0x19a4c1161e376c082748774c34b0bcb5391c0cb34ed8aa4a5b9cca4f682e6ff3,
   0x748f82ee78a5636f84c878148cc7020890befffaa4506cebbef9a3f7c67178f2]

/-- The round constants in round order. -/
def shaK : List Nat := shaRows.flatMap words8

/-- The eight working words of SHA-256. -/
structure ShaSt where
  a : Nat
  b : Nat
  c : Nat
  d : Nat
  e : Nat
  f : Nat
  g : Nat
  h : Nat
  deriving DecidableEq, Repr

/-- The initial hash value, as one 256-bit number. -/
def shaStart : Nat := 0x6a09e667bb67ae853c6ef372a54ff53a510e527f9b05688c1f83d9ab5be0cd19

/-- The working words of a 256-bit number. -/
def ShaSt.ofNat (x : Nat) : ShaSt :=
  let w : Nat → Nat := fun i => x / 2 ^ (224 - 32 * i) % 2 ^ 32
  ⟨w 0, w 1, w 2, w 3, w 4, w 5, w 6, w 7⟩

/-- The initial hash value as working words. -/
def shaInit : ShaSt := ShaSt.ofNat shaStart

/-- One round. -/
def shaRound (s : ShaSt) (kw : Nat) : ShaSt :=
  let s1 := rotr 6 s.e ^^^ rotr 11 s.e ^^^ rotr 25 s.e
  let ch := (s.e &&& s.f) ^^^ ((4294967295 - s.e) &&& s.g)
  let t1 := s.h + s1 + ch + kw
  let s0 := rotr 2 s.a ^^^ rotr 13 s.a ^^^ rotr 22 s.a
  let mj := (s.a &&& s.b) ^^^ (s.a &&& s.c) ^^^ (s.b &&& s.c)
  ⟨m32 (t1 + s0 + mj), s.a, s.b, s.c, m32 (s.d + t1), s.e, s.f, s.g⟩

/-- The next message-schedule word from the last sixteen. -/
def shaNext (w : List Nat) : Nat :=
  let w0 := w.getD 0 0
  let w1 := w.getD 1 0
  let w9 := w.getD 9 0
  let w14 := w.getD 14 0
  let s0 := rotr 7 w1 ^^^ rotr 18 w1 ^^^ (w1 / 8)
  let s1 := rotr 17 w14 ^^^ rotr 19 w14 ^^^ (w14 / 1024)
  m32 (w0 + s0 + w9 + s1)

/-- Rounds over the constants, with the window of the sixteen schedule words now in force. -/
def shaRounds : List Nat → List Nat → ShaSt → ShaSt
  | [], _, s => s
  | k :: ks, w, s => shaRounds ks (w.drop 1 ++ [shaNext w]) (shaRound s (k + w.getD 0 0))

/-- The sixteen big-endian words of a block. -/
def shaWords : Nat → List Byte → List Nat
  | 0, _ => []
  | n + 1, bs => ofBe (bs.take 4) :: shaWords n (bs.drop 4)

/-- Add one 64-byte block to the hash. -/
def shaBlock (h : ShaSt) (blk : List Byte) : ShaSt :=
  let r := shaRounds shaK (shaWords 16 blk) h
  ⟨m32 (h.a + r.a), m32 (h.b + r.b), m32 (h.c + r.c), m32 (h.d + r.d),
   m32 (h.e + r.e), m32 (h.f + r.f), m32 (h.g + r.g), m32 (h.h + r.h)⟩

/-- Add `n` blocks. -/
def shaBlocks : Nat → List Byte → ShaSt → ShaSt
  | 0, _, h => h
  | n + 1, bs, h => shaBlocks n (bs.drop 64) (shaBlock h (bs.take 64))

/-- The padded message. -/
def shaPad (bs : List Byte) : List Byte :=
  let n := bs.length
  bs ++ (0x80 : Byte) :: zeros ((119 - n % 64) % 64) ++ beBytes 8 (8 * n)

/-- SHA-256 in output order. -/
def sha256 (bs : List Byte) : List Byte :=
  let p := shaPad bs
  let h := shaBlocks (p.length / 64) p shaInit
  beBytes 4 h.a ++ beBytes 4 h.b ++ beBytes 4 h.c ++ beBytes 4 h.d ++
  beBytes 4 h.e ++ beBytes 4 h.f ++ beBytes 4 h.g ++ beBytes 4 h.h

/-- HMAC-SHA-256 for keys of at most 64 bytes. -/
def hmac (key msg : List Byte) : List Byte :=
  let k := key ++ zeros (64 - key.length)
  sha256 (k.map (fun b => b ^^^ 0x5C) ++ sha256 (k.map (fun b => b ^^^ 0x36) ++ msg))

/-! ### ECDSA on P-256 -/

/-- The field prime of P-256. -/
def p256P : Nat := 0xFFFFFFFF00000001000000000000000000000000FFFFFFFFFFFFFFFFFFFFFFFF
/-- The group order of P-256. -/
def p256N : Nat := 0xFFFFFFFF00000000FFFFFFFFFFFFFFFFBCE6FAADA7179E84F3B9CAC2FC632551
/-- The constant b of P-256. -/
def p256B : Nat := 0x5AC635D8AA3A93E7B3EBBD55769886BC651D06B0CC53B0F63BCE3C3E27D2604B

/-- A point of the curve; none is the point at infinity. -/
abbrev Pt := Option (Nat × Nat)

/-- The base point. -/
def p256G : Pt :=
  some (0x6B17D1F2E12C4247F8BCE6E563A440F277037D812DEB33A0F4A13945D898C296,
        0x4FE342E2FE1A7F9B8EE7EB4A7C0F9E162BCE33576B315ECECBB6406837BF51F5)

/-- Modular power by `fuel` bits of the exponent. -/
def powMod (m : Nat) : Nat → Nat → Nat → Nat → Nat
  | 0, _, _, acc => acc
  | f + 1, b, e, acc => powMod m f (b * b % m) (e / 2) (if e % 2 = 1 then acc * b % m else acc)

/-- Inverse modulo a prime below 2^256. -/
def invMod (m a : Nat) : Nat := powMod m 256 (a % m) (m - 2) 1

/-- Point addition. -/
def ptAdd : Pt → Pt → Pt
  | none, q => q
  | p, none => p
  | some (x1, y1), some (x2, y2) =>
    let p := p256P
    if x1 = x2 ∧ (y1 + y2) % p = 0 then none else
    let l := if x1 = x2 then (3 * x1 * x1 + p - 3) * invMod p (2 * y1) % p
             else (y2 + p - y1) * invMod p (x2 + p - x1) % p
    let x3 := (l * l + 2 * p - x1 - x2) % p
    some (x3, (l * (x1 + p - x3) + p - y1) % p)

/-- Scalar multiple by `fuel` bits. -/
def ptMul : Nat → Nat → Pt → Pt → Pt
  | 0, _, _, acc => acc
  | f + 1, k, q, acc => ptMul f (k / 2) (ptAdd q q) (if k % 2 = 1 then ptAdd acc q else acc)

/-- `k` times the base point. -/
def ptMulG (k : Nat) : Pt := ptMul 256 k p256G none

/-- The point lies on the curve. -/
def onCurve (x y : Nat) : Bool :=
  decide (x < p256P) && decide (y < p256P) && decide (y * y % p256P = (x * x * x + (p256P - 3) * x + p256B) % p256P)

/-- The public key of a secret key, 64 bytes x ‖ y. -/
def pubKey (d : Nat) : List Byte :=
  match ptMulG d with
  | none => zeros 64
  | some (x, y) => beBytes 32 x ++ beBytes 32 y

/-- The deterministic nonce of RFC 6979 with HMAC-SHA-256, from the secret key and the message hash; a candidate out
of range is retried at most `fuel` times. -/
def detNonceGo : Nat → List Byte → List Byte → Nat
  | 0, _, v => ofBe v % (p256N - 1) + 1
  | f + 1, k, v =>
    let v1 := hmac k v
    let c := ofBe v1
    if 1 ≤ c ∧ c < p256N then c
    else
      let k2 := hmac k (v1 ++ [0])
      detNonceGo f k2 (hmac k2 v1)

/-- The deterministic nonce (RFC 6979). -/
def detNonce (d : Nat) (hash : List Byte) : Nat :=
  let x := beBytes 32 d
  let h := beBytes 32 (ofBe hash % p256N)
  let v0 : List Byte := List.replicate 32 1
  let k0 : List Byte := zeros 32
  let k1 := hmac k0 (v0 ++ [0] ++ x ++ h)
  let v1 := hmac k1 v0
  let k2 := hmac k1 (v1 ++ [1] ++ x ++ h)
  detNonceGo 4 k2 (hmac k2 v1)

/-- ECDSA signature r ‖ s over a message (its SHA-256), with the deterministic nonce. -/
def ecdsaSign (d : Nat) (msg : List Byte) : List Byte :=
  let hash := sha256 msg
  let k := detNonce d hash
  let r := match ptMulG k with
    | none => 0
    | some (x, _) => x % p256N
  let s := invMod p256N k * (ofBe hash + r * d) % p256N
  beBytes 32 r ++ beBytes 32 s

/-- ECDSA verification of r ‖ s over a message under a public key x ‖ y. -/
def ecdsaVerify (pub msg sig : List Byte) : Bool :=
  let x := ofBe (pub.take 32)
  let y := ofBe ((pub.drop 32).take 32)
  let r := ofBe (sig.take 32)
  let s := ofBe ((sig.drop 32).take 32)
  let z := ofBe (sha256 msg)
  let w := invMod p256N s
  let pt := ptAdd (ptMulG (z * w % p256N)) (ptMul 256 (r * w % p256N) (some (x, y)) none)
  onCurve x y && decide (0 < r) && decide (r < p256N) && decide (0 < s) && decide (s < p256N) &&
  match pt with
  | none => false
  | some (px, _) => decide (px % p256N = r)

end Sys2Proof.Machine
end

