-- ==== Sys2Proof/Config.lean ====
section
/-! DEFINITION. The free values of the model: constants without a body, so that nothing can be proved of what they are.
A value that the spec leaves open is one of these applied to the state's counter `free`, or to the operands it
depends on (log entry 5). -/

namespace Sys2Proof.Config

/-- The n-th free bit: an outcome that the spec leaves open ("may or may not"). -/
opaque freeBool : Nat → Bool

/-- The n-th free number. -/
opaque freeNat : Nat → Nat

/-- The n-th free byte: TRNG output (R432), wrapped key bytes (R435). -/
opaque freeByte : Nat → Byte

/-- The n-th free value of a result that the spec does not state. -/
opaque freeRat : Nat → Rat

/-- Block 1 of a flickermeter (R186), whose filter the spec does not give: its state after a corrected sample, and its output. -/
opaque flickDecimate : List Rat → Rat → List Rat × Rat

/-- Block 4 of a flickermeter for a lamp (R186), whose filters the spec names and does not give: the state after a squared normalised
input, and its output. -/
opaque flickWeight : Nat → List Rat → Rat → List Rat × Rat

end Sys2Proof.Config
end

