-- ==== Sys2Proof/Machine/RegMap.lean ====
section
/-! DEFINITION. The register map of BAR0 below 0x2000 (R492, R493 and the register tables of chapters 3 to 22): every
register with its offset, its array stride, and its fields with their bits, access type (Table 0-3) and reset value.
A field is named by the manual's register and field name. -/

namespace Sys2Proof.Machine

/-- Access types (Table 0-3). A KS field is listed as RO: a register write never changes it (R7). -/
inductive Acc where
  | rw | ro | w1c | wo | rws
  deriving DecidableEq, Repr

/-- A register field: register offset, least bit, width. -/
structure Fld where
  off : Nat
  lo : Nat
  w : Nat
  deriving DecidableEq, Repr

/-- The key under which the state lists a field's value. -/
def Fld.key (f : Fld) : Nat := f.off * 32 + f.lo

/-- A field of a register table row: least bit, width, access type, reset value. -/
structure FldRow where
  lo : Nat
  w : Nat
  acc : Acc
  rst : Nat
  deriving DecidableEq, Repr

/-- A row of a register table: `count` registers `stride` bytes apart from offset `base`, all with the same fields. -/
structure RegRow where
  base : Nat
  stride : Nat
  count : Nat
  fields : List FldRow
  deriving DecidableEq, Repr

/-- The offset lies on one of the row's registers. -/
def RegRow.has (r : RegRow) (off : Nat) : Bool :=
  decide (r.base ≤ off) && decide ((off - r.base) % r.stride = 0) && decide ((off - r.base) / r.stride < r.count)

/-- The Id block, 0x0000 to 0x00FF. -/
def regsId : List RegRow := [
  /- ID_VENDOR_DEV -/ ⟨0x0000, 4, 1, [⟨0, 16, .ro, 0x1fd3⟩, ⟨16, 16, .ro, 0⟩]⟩,
  /- ID_REV -/ ⟨0x0004, 4, 1, [⟨0, 8, .ro, 1⟩, ⟨8, 8, .ro, 1⟩, ⟨16, 8, .ro, 1⟩]⟩,
  /- ID_UID_LO -/ ⟨0x0008, 4, 1, [⟨0, 32, .ro, 0⟩]⟩,
  /- ID_UID_HI -/ ⟨0x000C, 4, 1, [⟨0, 32, .ro, 0⟩]⟩,
  /- CAPS_CH -/ ⟨0x0010, 4, 1, [⟨0, 16, .ro, 0⟩, ⟨16, 8, .ro, 0⟩, ⟨24, 1, .ro, 1⟩, ⟨25, 1, .ro, 0⟩]⟩,
  /- CAPS_MISC -/ ⟨0x0014, 4, 1, [⟨0, 2, .ro, 0⟩, ⟨2, 3, .ro, 0⟩, ⟨16, 7, .ro, 0⟩]⟩,
  /- CAPS_BANK_LO -/ ⟨0x0018, 4, 1, [⟨0, 32, .ro, 0⟩]⟩,
  /- CAPS_BANK_HI -/ ⟨0x001C, 4, 1, [⟨0, 32, .ro, 0⟩]⟩,
  /- FUSE_CH -/ ⟨0x0020, 4, 1, [⟨0, 16, .ro, 0⟩, ⟨16, 8, .ro, 0⟩, ⟨25, 1, .ro, 0⟩]⟩,
  /- FUSE_MISC -/ ⟨0x0024, 4, 1, [⟨0, 2, .ro, 0⟩, ⟨2, 3, .ro, 0⟩]⟩,
  /- FUSE_BANK_LO -/ ⟨0x0028, 4, 1, [⟨0, 32, .ro, 0⟩]⟩,
  /- FUSE_BANK_HI -/ ⟨0x002C, 4, 1, [⟨0, 32, .ro, 0⟩]⟩,
  /- FENCE_CH -/ ⟨0x0030, 4, 1, [⟨0, 16, .ro, 0⟩, ⟨16, 8, .ro, 0⟩]⟩,
  /- FENCE_MISC -/ ⟨0x0034, 4, 1, [⟨0, 2, .ro, 0⟩, ⟨2, 3, .ro, 0⟩, ⟨16, 16, .ro, 0⟩]⟩,
  /- FENCE_BANK_LO -/ ⟨0x0038, 4, 1, [⟨0, 32, .ro, 0⟩]⟩,
  /- FENCE_BANK_HI -/ ⟨0x003C, 4, 1, [⟨0, 32, .ro, 0⟩]⟩,
  /- RST_STAT -/ ⟨0x0040, 4, 1, [⟨0, 3, .ro, 0⟩, ⟨3, 1, .ro, 0⟩, ⟨4, 1, .ro, 0⟩, ⟨5, 1, .ro, 0⟩, ⟨8, 2, .ro, 0⟩, ⟨10, 2, .ro, 0⟩, ⟨16, 8, .ro, 0⟩]⟩,
  /- RST_AUTO -/ ⟨0x0044, 4, 1, [⟨0, 2, .rws, 0⟩, ⟨8, 8, .rws, 0⟩]⟩,
  /- RST_TREADY_LO -/ ⟨0x0048, 4, 1, [⟨0, 32, .ro, 0⟩]⟩,
  /- RST_TREADY_HI -/ ⟨0x004C, 4, 1, [⟨0, 32, .ro, 0⟩]⟩,
  /- RST_DUR -/ ⟨0x0050, 4, 1, [⟨0, 16, .ro, 0⟩]⟩,
  /- RST_COUNT -/ ⟨0x0054, 4, 1, [⟨0, 32, .ro, 0⟩]⟩,
  /- STRAP -/ ⟨0x0058, 4, 1, [⟨0, 2, .ro, 0⟩, ⟨2, 1, .ro, 0⟩, ⟨3, 1, .ro, 0⟩, ⟨4, 1, .ro, 0⟩, ⟨8, 1, .ro, 0⟩, ⟨9, 1, .ro, 0⟩, ⟨10, 1, .ro, 0⟩, ⟨11, 1, .ro, 0⟩, ⟨16, 8, .ro, 0⟩, ⟨24, 8, .ro, 0⟩]⟩,
  /- ID_MAGIC -/ ⟨0x005C, 4, 1, [⟨0, 32, .ro, 0x4c495350⟩]⟩,
  /- INT_STAT -/ ⟨0x0060, 4, 1, [⟨0, 1, .w1c, 0⟩, ⟨1, 1, .w1c, 0⟩, ⟨2, 1, .w1c, 0⟩, ⟨3, 1, .w1c, 0⟩, ⟨4, 1, .w1c, 0⟩, ⟨5, 1, .w1c, 0⟩, ⟨6, 1, .w1c, 0⟩, ⟨7, 1, .w1c, 0⟩, ⟨8, 1, .w1c, 0⟩, ⟨9, 1, .w1c, 0⟩, ⟨10, 1, .w1c, 0⟩, ⟨11, 1, .w1c, 0⟩, ⟨12, 1, .w1c, 0⟩, ⟨13, 1, .w1c, 0⟩, ⟨14, 1, .w1c, 0⟩]⟩,
  /- INT_EN -/ ⟨0x0064, 4, 1, [⟨0, 15, .rw, 0x7fff⟩]⟩,
  /- INT_SET -/ ⟨0x0068, 4, 1, [⟨0, 15, .wo, 0⟩]⟩,
  /- SCRATCH -/ ⟨0x006C, 4, 1, [⟨0, 32, .rw, 0⟩]⟩,
  /- ERR_CE -/ ⟨0x0080, 4, 1, [⟨0, 32, .ro, 0⟩]⟩,
  /- ERR_CE_LAST -/ ⟨0x0084, 4, 1, [⟨0, 8, .ro, 0⟩, ⟨8, 16, .ro, 0⟩]⟩,
  /- ERR_UE -/ ⟨0x0088, 4, 1, [⟨0, 32, .ro, 0⟩]⟩,
  /- ERR_UE_LAST -/ ⟨0x008C, 4, 1, [⟨0, 8, .ro, 0⟩, ⟨8, 16, .ro, 0⟩]⟩,
  /- ERR_INTEG -/ ⟨0x0090, 4, 1, [⟨0, 32, .ro, 0⟩]⟩,
  /- ERR_DROP -/ ⟨0x0094, 4, 1, [⟨0, 32, .ro, 0⟩]⟩,
  /- ERR_SUMM -/ ⟨0x0098, 4, 1, [⟨0, 16, .ro, 0⟩, ⟨16, 8, .ro, 0⟩, ⟨24, 1, .ro, 0⟩]⟩,
  /- WDOG_CTRL -/ ⟨0x009C, 4, 1, [⟨0, 16, .rws, 0x3e8⟩]⟩,
  /- WDOG_STAT -/ ⟨0x00A0, 4, 1, [⟨0, 12, .ro, 0⟩, ⟨16, 4, .ro, 0⟩]⟩]

/-- The Clk block, 0x0100 to 0x01FF. -/
def regsClk : List RegRow := [
  /- CLK_STAT -/ ⟨0x0100, 4, 1, [⟨0, 1, .ro, 0⟩, ⟨1, 1, .ro, 0⟩, ⟨2, 1, .ro, 0⟩, ⟨3, 1, .ro, 0⟩, ⟨4, 1, .ro, 0⟩, ⟨5, 1, .ro, 0⟩]⟩,
  /- CLK_EVT -/ ⟨0x0104, 4, 1, [⟨0, 1, .w1c, 0⟩, ⟨1, 1, .w1c, 0⟩, ⟨2, 1, .w1c, 0⟩, ⟨3, 1, .w1c, 0⟩]⟩]

/-- The Afe block, 0x0200 to 0x03FF. -/
def regsAfe : List RegRow := [
  /- AFE_REF -/ ⟨0x0200, 4, 1, [⟨0, 1, .rws, 0⟩, ⟨1, 1, .ro, 0⟩, ⟨2, 1, .ro, 0⟩, ⟨16, 16, .ro, 0⟩]⟩,
  /- AFE_STATUS -/ ⟨0x0204, 4, 1, [⟨0, 16, .w1c, 0⟩, ⟨16, 16, .w1c, 0⟩]⟩,
  /- AFE_ERR -/ ⟨0x0208, 4, 1, [⟨0, 1, .w1c, 0⟩, ⟨1, 1, .w1c, 0⟩, ⟨2, 1, .w1c, 0⟩, ⟨16, 16, .ro, 0⟩]⟩,
  /- AFE_CH_CFG -/ ⟨0x0210, 4, 16, [⟨0, 1, .rw, 0⟩, ⟨1, 3, .rws, 0⟩, ⟨4, 2, .rws, 0⟩, ⟨6, 1, .rws, 0⟩]⟩,
  /- AFE_CHK_CTRL -/ ⟨0x0250, 4, 1, [⟨0, 16, .rw, 0⟩, ⟨16, 1, .rw, 0⟩, ⟨17, 3, .rw, 4⟩, ⟨20, 1, .wo, 0⟩]⟩,
  /- AFE_CHK_STATUS -/ ⟨0x0254, 4, 1, [⟨0, 1, .ro, 0⟩, ⟨1, 1, .w1c, 0⟩, ⟨16, 16, .ro, 0⟩]⟩,
  /- AFE_CHK_OFS -/ ⟨0x0280, 16, 16, [⟨0, 32, .ro, 0⟩]⟩,
  /- AFE_CHK_REF -/ ⟨0x0284, 16, 16, [⟨0, 32, .ro, 0⟩]⟩,
  /- AFE_CHK_TONE -/ ⟨0x0288, 16, 16, [⟨0, 24, .ro, 0⟩]⟩,
  /- AFE_CHK_RES -/ ⟨0x028C, 16, 16, [⟨0, 1, .ro, 0⟩, ⟨1, 1, .ro, 0⟩, ⟨2, 1, .ro, 0⟩, ⟨3, 1, .ro, 0⟩]⟩]

/-- The Prof block, 0x0400 to 0x05FF. -/
def regsProf : List RegRow := [
  /- PROF_CH_CFG -/ ⟨0x0400, 4, 16, [⟨0, 4, .rws, 2⟩, ⟨16, 16, .ro, 0x210c⟩]⟩,
  /- PROF_GRP_STATUS -/ ⟨0x0440, 4, 1, [⟨0, 1, .ro, 0⟩, ⟨1, 1, .ro, 0⟩, ⟨2, 1, .ro, 0⟩, ⟨3, 1, .ro, 0⟩]⟩,
  /- PROF_ERR -/ ⟨0x0444, 4, 1, [⟨0, 1, .w1c, 0⟩, ⟨1, 1, .w1c, 0⟩, ⟨2, 1, .w1c, 0⟩, ⟨3, 1, .w1c, 0⟩, ⟨4, 1, .w1c, 0⟩, ⟨5, 1, .w1c, 0⟩]⟩,
  /- THR_HI -/ ⟨0x0480, 16, 16, [⟨0, 24, .rw, 0x7fffff⟩]⟩,
  /- THR_LO -/ ⟨0x0484, 16, 16, [⟨0, 24, .rw, 0x800000⟩]⟩,
  /- THR_CFG -/ ⟨0x0488, 16, 16, [⟨0, 8, .rw, 1⟩, ⟨8, 1, .rw, 0⟩, ⟨9, 1, .rw, 0⟩, ⟨10, 1, .rw, 0⟩, ⟨12, 20, .rw, 0⟩]⟩,
  /- THR_STAT -/ ⟨0x048C, 16, 16, [⟨0, 1, .ro, 0⟩, ⟨1, 1, .ro, 0⟩, ⟨2, 1, .w1c, 0⟩, ⟨3, 1, .w1c, 0⟩, ⟨4, 1, .w1c, 0⟩]⟩,
  /- EVT_PIN_MASK -/ ⟨0x0580, 4, 4, [⟨0, 32, .rw, 0⟩]⟩,
  /- EVT_PIN_CTRL -/ ⟨0x0590, 4, 1, [⟨0, 4, .rw, 0⟩, ⟨4, 4, .ro, 0⟩]⟩]

/-- The Sar block, 0x0600 to 0x07FF. -/
def regsSar : List RegRow := [
  /- SAR_CAL_CTRL -/ ⟨0x0600, 4, 1, [⟨0, 8, .rw, 0⟩, ⟨8, 1, .rw, 0⟩, ⟨9, 1, .wo, 0⟩, ⟨16, 8, .rw, 0x14⟩]⟩,
  /- SAR_CAL_STATUS -/ ⟨0x0604, 4, 1, [⟨0, 1, .ro, 0⟩, ⟨1, 1, .w1c, 0⟩, ⟨2, 1, .w1c, 0⟩, ⟨3, 1, .ro, 0⟩, ⟨4, 1, .ro, 0⟩, ⟨8, 8, .ro, 0⟩, ⟨16, 8, .ro, 0⟩]⟩,
  /- TSAR_CTRL -/ ⟨0x0608, 4, 1, [⟨0, 8, .rw, 0⟩, ⟨8, 8, .ro, 0⟩, ⟨16, 8, .ro, 0⟩]⟩,
  /- TSAR_ERR -/ ⟨0x060C, 4, 1, [⟨0, 8, .w1c, 0⟩, ⟨8, 8, .w1c, 0⟩, ⟨16, 1, .w1c, 0⟩]⟩,
  /- TSAR_MAP -/ ⟨0x0610, 4, 1, [⟨0, 4, .rw, 0⟩, ⟨4, 4, .rw, 1⟩, ⟨8, 4, .rw, 2⟩, ⟨12, 4, .rw, 3⟩, ⟨16, 4, .rw, 8⟩, ⟨20, 4, .rw, 9⟩, ⟨24, 4, .rw, 0xa⟩, ⟨28, 4, .rw, 0xb⟩]⟩,
  /- FAST_PIN_CTRL -/ ⟨0x0614, 4, 1, [⟨0, 16, .rw, 0⟩, ⟨16, 16, .rw, 0⟩]⟩,
  /- FAST_PIN_CFG -/ ⟨0x0618, 4, 1, [⟨0, 12, .rw, 0x14⟩, ⟨12, 2, .rw, 0⟩, ⟨14, 2, .ro, 0⟩]⟩,
  /- FAST_DROP -/ ⟨0x061C, 4, 1, [⟨0, 32, .ro, 0⟩]⟩,
  /- HSAR_SEQ_CTRL -/ ⟨0x0620, 4, 1, [⟨0, 1, .rw, 0⟩, ⟨16, 16, .ro, 0⟩]⟩,
  /- HSAR_URG -/ ⟨0x0624, 4, 1, [⟨0, 5, .rw, 1⟩, ⟨8, 1, .wo, 0⟩, ⟨9, 1, .ro, 0⟩, ⟨10, 1, .w1c, 0⟩, ⟨11, 1, .w1c, 0⟩, ⟨16, 5, .rw, 1⟩]⟩,
  /- HSAR_URG_RES -/ ⟨0x0628, 4, 1, [⟨0, 16, .ro, 0⟩, ⟨16, 1, .ro, 0⟩]⟩,
  /- HSAR_PFI_RES -/ ⟨0x062C, 4, 1, [⟨0, 16, .ro, 0⟩, ⟨16, 1, .ro, 0⟩, ⟨17, 1, .w1c, 0⟩]⟩,
  /- HSAR_CAL -/ ⟨0x0630, 4, 1, [⟨0, 16, .ro, 0⟩, ⟨16, 16, .ro, 0x8000⟩]⟩,
  /- TSAR_CAL_A -/ ⟨0x0640, 16, 8, [⟨0, 16, .ro, 0⟩, ⟨16, 16, .ro, 0x8000⟩]⟩,
  /- TSAR_CAL_B -/ ⟨0x0644, 16, 8, [⟨0, 16, .ro, 0⟩, ⟨16, 16, .ro, 0x8000⟩]⟩,
  /- TSAR_SKEW -/ ⟨0x0648, 16, 8, [⟨0, 16, .ro, 0⟩, ⟨16, 16, .ro, 0⟩]⟩,
  /- TSAR_CALT -/ ⟨0x064C, 16, 8, [⟨0, 16, .ro, 0⟩]⟩,
  /- FAST_LVL -/ ⟨0x06C0, 8, 8, [⟨0, 11, .rw, 0x7ff⟩, ⟨16, 11, .rw, 0⟩]⟩,
  /- FAST_DVDT -/ ⟨0x06C4, 8, 8, [⟨0, 12, .rw, 0xfff⟩, ⟨16, 1, .rw, 0⟩, ⟨17, 1, .rw, 0⟩, ⟨18, 1, .ro, 0⟩, ⟨19, 1, .ro, 0⟩]⟩,
  /- HSAR_SEQ -/ ⟨0x0700, 4, 1, [⟨0, 5, .ro, 0⟩, ⟨5, 1, .ro, 1⟩, ⟨6, 3, .ro, 1⟩]⟩,
  /- HSAR_SEQ -/ ⟨0x0704, 4, 1, [⟨0, 5, .ro, 1⟩, ⟨5, 1, .ro, 1⟩, ⟨6, 3, .ro, 1⟩]⟩,
  /- HSAR_SEQ -/ ⟨0x0708, 4, 1, [⟨0, 5, .ro, 2⟩, ⟨5, 1, .ro, 1⟩, ⟨6, 3, .ro, 1⟩]⟩,
  /- HSAR_SEQ -/ ⟨0x070C, 4, 1, [⟨0, 5, .ro, 3⟩, ⟨5, 1, .ro, 1⟩, ⟨6, 3, .ro, 1⟩]⟩,
  /- HSAR_SEQ -/ ⟨0x0710, 4, 1, [⟨0, 5, .ro, 4⟩, ⟨5, 1, .ro, 1⟩, ⟨6, 3, .ro, 1⟩]⟩,
  /- HSAR_SEQ -/ ⟨0x0714, 4, 1, [⟨0, 5, .ro, 6⟩, ⟨5, 1, .ro, 1⟩, ⟨6, 3, .ro, 1⟩]⟩,
  /- HSAR_SEQ -/ ⟨0x0718, 4, 1, [⟨0, 5, .rw, 5⟩, ⟨5, 1, .rw, 1⟩, ⟨6, 3, .rw, 1⟩]⟩,
  /- HSAR_SEQ -/ ⟨0x071C, 4, 25, [⟨0, 5, .rw, 0⟩, ⟨5, 1, .rw, 0⟩, ⟨6, 3, .rw, 0⟩]⟩,
  /- HSAR_RES -/ ⟨0x0780, 4, 32, [⟨0, 16, .ro, 0⟩, ⟨16, 1, .ro, 0⟩, ⟨17, 1, .ro, 0⟩, ⟨18, 1, .ro, 0⟩, ⟨24, 8, .ro, 0⟩]⟩]

/-- The Time block, 0x0800 to 0x09FF. -/
def regsTime : List RegRow := [
  /- TIME_CTRL -/ ⟨0x0800, 4, 1, [⟨0, 1, .rws, 0⟩, ⟨1, 4, .rws, 6⟩]⟩,
  /- TIME_STATUS -/ ⟨0x0804, 4, 1, [⟨0, 3, .ro, 0⟩, ⟨3, 1, .ro, 0⟩, ⟨4, 1, .ro, 0⟩, ⟨5, 1, .ro, 0⟩, ⟨6, 1, .ro, 0⟩, ⟨7, 1, .ro, 0⟩, ⟨8, 1, .ro, 0⟩]⟩,
  /- TIME_NOW_LO -/ ⟨0x0808, 4, 1, [⟨0, 32, .ro, 0⟩]⟩,
  /- TIME_NOW_HI -/ ⟨0x080C, 4, 1, [⟨0, 32, .ro, 0⟩]⟩,
  /- TIME_HWM_LO -/ ⟨0x0810, 4, 1, [⟨0, 32, .ro, 0⟩]⟩,
  /- TIME_HWM_HI -/ ⟨0x0814, 4, 1, [⟨0, 32, .ro, 0⟩]⟩,
  /- TIME_ADJ -/ ⟨0x0818, 4, 1, [⟨0, 32, .ro, 0⟩]⟩,
  /- PPS_OFFSET -/ ⟨0x081C, 4, 1, [⟨0, 32, .rws, 0⟩]⟩,
  /- PPS_LAST_LO -/ ⟨0x0820, 4, 1, [⟨0, 32, .ro, 0⟩]⟩,
  /- PPS_LAST_HI -/ ⟨0x0824, 4, 1, [⟨0, 32, .ro, 0⟩]⟩,
  /- PPS_ERR -/ ⟨0x0828, 4, 1, [⟨0, 32, .ro, 0⟩]⟩,
  /- PPS_CNT -/ ⟨0x082C, 4, 1, [⟨0, 16, .ro, 0⟩, ⟨16, 16, .ro, 0⟩]⟩,
  /- LEAP_AT -/ ⟨0x0830, 4, 1, [⟨0, 32, .ro, 0⟩]⟩,
  /- LEAP_CTRL -/ ⟨0x0834, 4, 1, [⟨0, 1, .ro, 0⟩]⟩,
  /- HALT_STAT -/ ⟨0x0838, 4, 1, [⟨0, 16, .ro, 0⟩]⟩,
  /- HALT_LAST -/ ⟨0x083C, 4, 1, [⟨0, 32, .ro, 0⟩]⟩,
  /- FREQ_CFG -/ ⟨0x0880, 64, 2, [⟨0, 1, .rws, 0⟩, ⟨1, 3, .rws, 0⟩, ⟨8, 24, .rws, 0x66666⟩]⟩,
  /- FREQ_STAT -/ ⟨0x0884, 64, 2, [⟨0, 2, .ro, 0⟩, ⟨2, 1, .ro, 0⟩, ⟨3, 1, .ro, 0⟩, ⟨4, 1, .w1c, 0⟩]⟩,
  /- FREQ_NOW -/ ⟨0x0888, 64, 2, [⟨0, 32, .ro, 0⟩]⟩,
  /- FREQ_10S -/ ⟨0x088C, 64, 2, [⟨0, 32, .ro, 0⟩]⟩,
  /- FREQ_10S_T -/ ⟨0x0890, 64, 2, [⟨0, 32, .ro, 0⟩]⟩,
  /- FREQ_10S_FL -/ ⟨0x0894, 64, 2, [⟨0, 16, .ro, 0⟩, ⟨16, 1, .ro, 0⟩, ⟨17, 1, .ro, 0⟩, ⟨18, 1, .ro, 0⟩, ⟨19, 1, .ro, 0⟩]⟩,
  /- RSMP_STAT -/ ⟨0x0898, 64, 2, [⟨0, 16, .ro, 0⟩, ⟨16, 1, .ro, 0⟩, ⟨17, 1, .ro, 0⟩, ⟨18, 1, .ro, 0⟩]⟩]

/-- The Met block, 0x0A00 to 0x0BFF. -/
def regsMet : List RegRow := [
  /- MET_CTRL -/ ⟨0x0A00, 4, 1, [⟨0, 1, .rws, 0⟩, ⟨1, 1, .rws, 0⟩, ⟨8, 1, .rws, 0⟩]⟩,
  /- CAL_CTRL -/ ⟨0x0A04, 4, 1, [⟨0, 1, .rws, 0⟩, ⟨1, 1, .rws, 0⟩, ⟨4, 1, .ro, 0⟩, ⟨5, 1, .ro, 0⟩]⟩,
  /- CAL_ID -/ ⟨0x0A08, 4, 1, [⟨0, 16, .ro, 0⟩, ⟨16, 16, .ro, 0⟩]⟩,
  /- MET_ERR -/ ⟨0x0A0C, 4, 1, [⟨0, 1, .w1c, 0⟩, ⟨1, 1, .w1c, 0⟩, ⟨2, 1, .w1c, 0⟩]⟩,
  /- MET_STAT -/ ⟨0x0A10, 4, 2, [⟨0, 1, .ro, 0⟩, ⟨1, 3, .ro, 0⟩, ⟨4, 1, .ro, 0⟩, ⟨5, 3, .ro, 0⟩, ⟨8, 1, .ro, 0⟩]⟩,
  /- MET_CREEP -/ ⟨0x0A18, 4, 2, [⟨0, 32, .rws, 0⟩]⟩,
  /- MET_ESEL -/ ⟨0x0A20, 4, 1, [⟨0, 3, .rw, 0⟩, ⟨4, 2, .rw, 0⟩, ⟨8, 1, .rw, 0⟩]⟩,
  /- MET_EVAL_FRAC -/ ⟨0x0A24, 4, 1, [⟨0, 32, .ro, 0⟩]⟩,
  /- MET_EVAL_LO -/ ⟨0x0A28, 4, 1, [⟨0, 32, .ro, 0⟩]⟩,
  /- MET_EVAL_HI -/ ⟨0x0A2C, 4, 1, [⟨0, 16, .ro, 0⟩, ⟨16, 8, .ro, 0⟩, ⟨24, 8, .ro, 0⟩]⟩,
  /- MET_EVAL_T_LO -/ ⟨0x0A30, 4, 1, [⟨0, 32, .ro, 0⟩]⟩,
  /- MET_EVAL_T_HI -/ ⟨0x0A34, 4, 1, [⟨0, 32, .ro, 0⟩]⟩,
  /- CF_CFG -/ ⟨0x0A60, 16, 4, [⟨0, 1, .rws, 0⟩, ⟨1, 1, .rws, 0⟩, ⟨2, 1, .rws, 0⟩, ⟨3, 2, .rws, 3⟩, ⟨8, 8, .rws, 1⟩]⟩,
  /- CF_CONST -/ ⟨0x0A64, 16, 4, [⟨0, 30, .rws, 0x2710⟩]⟩,
  /- CF_STAT -/ ⟨0x0A68, 16, 4, [⟨0, 24, .ro, 0⟩, ⟨24, 1, .w1c, 0⟩, ⟨25, 1, .ro, 0⟩]⟩,
  /- CF_COUNT -/ ⟨0x0A6C, 16, 4, [⟨0, 32, .ro, 0⟩]⟩,
  /- CF_LOST -/ ⟨0x0AA0, 4, 4, [⟨0, 32, .ro, 0⟩]⟩,
  /- CAL_SCALE -/ ⟨0x0B00, 16, 16, [⟨0, 32, .rws, 0x71afd4a⟩]⟩,
  /- CAL_CFG -/ ⟨0x0B04, 16, 16, [⟨0, 4, .rws, 0xf⟩, ⟨16, 10, .rws, 0⟩]⟩,
  /- CAL_OFS -/ ⟨0x0B08, 16, 16, [⟨0, 24, .rws, 0⟩]⟩]

/-- The Spec block, 0x0C00 to 0x0CFF. -/
def regsSpec : List RegRow := [
  /- SPEC_CFG -/ ⟨0x0C00, 4, 2, [⟨0, 1, .rws, 1⟩, ⟨1, 1, .rws, 0⟩, ⟨2, 1, .rws, 0⟩, ⟨3, 1, .rws, 1⟩, ⟨4, 1, .rws, 0⟩, ⟨5, 1, .rws, 0⟩, ⟨6, 1, .rws, 0⟩]⟩,
  /- SPEC_STAT -/ ⟨0x0C08, 4, 2, [⟨0, 1, .ro, 0⟩, ⟨1, 3, .ro, 0⟩, ⟨4, 3, .ro, 0⟩, ⟨16, 16, .ro, 0⟩]⟩,
  /- SPEC_ERR -/ ⟨0x0C10, 4, 1, [⟨0, 1, .w1c, 0⟩, ⟨1, 1, .w1c, 0⟩, ⟨2, 1, .w1c, 0⟩, ⟨3, 1, .w1c, 0⟩, ⟨4, 1, .w1c, 0⟩]⟩,
  /- SPEC_MEM -/ ⟨0x0C14, 4, 1, [⟨0, 16, .ro, 0⟩, ⟨16, 16, .ro, 0⟩]⟩,
  /- SUPRA_CTRL -/ ⟨0x0C18, 4, 1, [⟨0, 8, .rws, 0⟩, ⟨8, 1, .rws, 0⟩]⟩,
  /- MSV_F -/ ⟨0x0C20, 4, 8, [⟨0, 22, .rws, 0⟩, ⟨31, 1, .rws, 0⟩]⟩,
  /- SUPRA_SCALE -/ ⟨0x0C40, 4, 8, [⟨0, 32, .rws, 0x3a000000⟩]⟩]

/-- The Evt block, 0x0D00 to 0x0DFF. -/
def regsEvt : List RegRow := [
  /- EVT_UDIN -/ ⟨0x0D00, 4, 2, [⟨0, 32, .rws, 0x38270⟩]⟩,
  /- EVT_CFG -/ ⟨0x0D08, 4, 2, [⟨0, 1, .rws, 0⟩]⟩,
  /- EVT_THR -/ ⟨0x0D10, 8, 2, [⟨0, 16, .rws, 0x2328⟩, ⟨16, 16, .rws, 0x2af8⟩]⟩,
  /- EVT_THR2 -/ ⟨0x0D14, 8, 2, [⟨0, 16, .rws, 0x1f4⟩, ⟨16, 16, .rws, 0x1f4⟩]⟩,
  /- EVT_MSV -/ ⟨0x0D20, 4, 2, [⟨0, 16, .rws, 0⟩]⟩,
  /- EVT_STAT -/ ⟨0x0D28, 4, 2, [⟨0, 1, .ro, 0⟩, ⟨1, 1, .ro, 0⟩, ⟨2, 1, .ro, 0⟩, ⟨3, 1, .ro, 0⟩, ⟨4, 1, .ro, 0⟩, ⟨5, 1, .ro, 0⟩, ⟨16, 16, .ro, 0⟩]⟩,
  /- EVT_ERR -/ ⟨0x0D30, 4, 1, [⟨0, 1, .w1c, 0⟩]⟩,
  /- TRN_CFG -/ ⟨0x0D34, 4, 1, [⟨0, 8, .rw, 8⟩]⟩,
  /- CAP_CTRL -/ ⟨0x0D40, 4, 1, [⟨0, 1, .rw, 0⟩, ⟨1, 1, .rw, 0⟩, ⟨8, 4, .rw, 0⟩]⟩,
  /- CAP_SRC -/ ⟨0x0D44, 4, 1, [⟨0, 16, .rw, 0⟩, ⟨16, 8, .rw, 0⟩]⟩,
  /- CAP_PRE -/ ⟨0x0D48, 4, 1, [⟨0, 32, .rw, 0⟩]⟩,
  /- CAP_POST -/ ⟨0x0D4C, 4, 1, [⟨0, 32, .rw, 0x3e8⟩]⟩,
  /- CAP_TRIG -/ ⟨0x0D50, 4, 1, [⟨0, 1, .rw, 0⟩, ⟨1, 1, .rw, 0⟩, ⟨2, 1, .rw, 0⟩, ⟨3, 1, .rw, 0⟩, ⟨4, 1, .rw, 0⟩, ⟨5, 1, .rw, 1⟩, ⟨6, 1, .rw, 1⟩]⟩,
  /- CAP_THRMASK -/ ⟨0x0D54, 4, 1, [⟨0, 32, .rw, 0⟩]⟩,
  /- CAP_FASTMASK -/ ⟨0x0D58, 4, 1, [⟨0, 16, .rw, 0⟩]⟩,
  /- CAP_DEPTH -/ ⟨0x0D5C, 4, 1, [⟨0, 32, .ro, 0⟩]⟩,
  /- CAP_STAT -/ ⟨0x0D60, 4, 1, [⟨0, 2, .ro, 0⟩, ⟨16, 16, .ro, 0⟩]⟩,
  /- CAP_ERR -/ ⟨0x0D64, 4, 1, [⟨0, 1, .w1c, 0⟩, ⟨1, 1, .w1c, 0⟩, ⟨2, 1, .w1c, 0⟩, ⟨3, 1, .w1c, 0⟩, ⟨4, 1, .w1c, 0⟩]⟩,
  /- CAP_MISSED -/ ⟨0x0D68, 4, 1, [⟨0, 32, .ro, 0⟩]⟩,
  /- CAP_TRIG_T_LO -/ ⟨0x0D70, 4, 1, [⟨0, 32, .ro, 0⟩]⟩,
  /- CAP_TRIG_T_HI -/ ⟨0x0D74, 4, 1, [⟨0, 32, .ro, 0⟩]⟩]

/-- The Agg block, 0x0E00 to 0x0FFF. -/
def regsAgg : List RegRow := [
  /- AGG_CTRL -/ ⟨0x0E00, 4, 1, [⟨0, 1, .rw, 1⟩, ⟨1, 1, .rw, 1⟩, ⟨8, 8, .rw, 0⟩]⟩,
  /- AGG_STAT -/ ⟨0x0E04, 4, 1, [⟨0, 1, .ro, 0⟩, ⟨1, 1, .ro, 0⟩, ⟨2, 1, .ro, 0⟩, ⟨3, 1, .ro, 0⟩, ⟨16, 12, .ro, 0⟩]⟩,
  /- AGG_QMAX -/ ⟨0x0E08, 4, 1, [⟨0, 12, .ro, 0⟩, ⟨16, 16, .ro, 0⟩]⟩,
  /- STAT_CTRL -/ ⟨0x0E10, 4, 1, [⟨0, 1, .rw, 0⟩]⟩,
  /- STAT_LOAD -/ ⟨0x0E14, 4, 1, [⟨0, 16, .ro, 0⟩, ⟨16, 16, .ro, 0x3000⟩]⟩,
  /- STAT_ERR -/ ⟨0x0E18, 4, 1, [⟨0, 1, .w1c, 0⟩, ⟨1, 1, .w1c, 0⟩, ⟨2, 1, .w1c, 0⟩, ⟨3, 1, .w1c, 0⟩, ⟨4, 1, .w1c, 0⟩, ⟨5, 1, .w1c, 0⟩, ⟨6, 1, .w1c, 0⟩]⟩,
  /- STAT_DSEL -/ ⟨0x0E1C, 4, 1, [⟨0, 12, .rw, 0⟩]⟩,
  /- STAT_DESC0 -/ ⟨0x0E20, 4, 1, [⟨0, 24, .rw, 0⟩, ⟨24, 2, .rw, 0⟩, ⟨26, 1, .rw, 0⟩, ⟨27, 2, .rw, 0⟩, ⟨31, 1, .rw, 0⟩]⟩,
  /- STAT_DESC1 -/ ⟨0x0E24, 4, 1, [⟨0, 20, .rw, 0⟩, ⟨20, 4, .rw, 4⟩]⟩,
  /- STAT_DESC2 -/ ⟨0x0E28, 4, 1, [⟨0, 32, .rw, 0⟩]⟩,
  /- STAT_DESC3 -/ ⟨0x0E2C, 4, 1, [⟨0, 32, .rw, 0x3f800000⟩]⟩,
  /- STAT_HSTAT -/ ⟨0x0E30, 4, 1, [⟨0, 1, .ro, 0⟩, ⟨1, 1, .ro, 0⟩, ⟨2, 1, .ro, 0⟩, ⟨3, 1, .ro, 0⟩, ⟨4, 1, .ro, 0⟩]⟩,
  /- STAT_HN -/ ⟨0x0E34, 4, 1, [⟨0, 32, .ro, 0⟩]⟩,
  /- STAT_HSEQ -/ ⟨0x0E38, 4, 1, [⟨0, 32, .ro, 0⟩]⟩,
  /- STAT_HNDEF -/ ⟨0x0E3C, 4, 1, [⟨0, 32, .ro, 0⟩]⟩,
  /- STAT_LASTSEQ -/ ⟨0x0E40, 4, 4, [⟨0, 32, .ro, 0⟩]⟩,
  /- STAT_BANKMAP -/ ⟨0x0E50, 4, 4, [⟨0, 6, .ro, 0⟩, ⟨7, 1, .ro, 0⟩, ⟨8, 6, .ro, 0⟩, ⟨15, 1, .ro, 0⟩, ⟨16, 6, .ro, 0⟩, ⟨23, 1, .ro, 0⟩, ⟨24, 6, .ro, 0⟩, ⟨31, 1, .ro, 0⟩]⟩,
  /- STAT_SPARE -/ ⟨0x0E60, 4, 1, [⟨0, 7, .ro, 0⟩]⟩]

/-- The Bil block, 0x1000 to 0x13FF. -/
def regsBil : List RegRow := [
  /- BIL_CTRL -/ ⟨0x1000, 4, 1, [⟨0, 1, .rws, 0⟩, ⟨1, 1, .rws, 0⟩, ⟨2, 1, .rws, 0⟩]⟩,
  /- BIL_CFG -/ ⟨0x1008, 4, 2, [⟨0, 3, .rws, 3⟩, ⟨4, 4, .rws, 1⟩, ⟨8, 2, .rws, 2⟩, ⟨16, 5, .rws, 1⟩]⟩,
  /- BIL_STAT -/ ⟨0x1010, 4, 2, [⟨0, 4, .ro, 0⟩, ⟨4, 1, .ro, 0⟩, ⟨16, 16, .ro, 0⟩]⟩,
  /- BIL_DONE_LO -/ ⟨0x1018, 8, 2, [⟨0, 32, .ro, 0⟩]⟩,
  /- BIL_DONE_HI -/ ⟨0x101C, 8, 2, [⟨0, 32, .ro, 0⟩]⟩,
  /- BIL_ERR -/ ⟨0x1028, 4, 1, [⟨0, 1, .w1c, 0⟩, ⟨1, 1, .w1c, 0⟩, ⟨2, 1, .w1c, 0⟩, ⟨3, 1, .w1c, 0⟩, ⟨4, 1, .w1c, 0⟩, ⟨5, 1, .w1c, 0⟩]⟩,
  /- BIL_CAL_ADDR -/ ⟨0x1040, 4, 1, [⟨0, 9, .rw, 0⟩, ⟨16, 1, .rw, 0⟩]⟩,
  /- BIL_CAL_DATA -/ ⟨0x1044, 4, 1, [⟨0, 32, .rws, 0⟩]⟩,
  /- BIL_CAL_CTRL -/ ⟨0x1048, 4, 1, [⟨0, 1, .rws, 0⟩, ⟨1, 1, .ro, 0⟩, ⟨2, 1, .ro, 0⟩, ⟨16, 16, .ro, 0⟩]⟩,
  /- BIL_PCAL_ACT_LO -/ ⟨0x1050, 4, 1, [⟨0, 32, .rws, 0⟩]⟩,
  /- BIL_PCAL_ACT_HI -/ ⟨0x1054, 4, 1, [⟨0, 32, .rws, 0⟩]⟩,
  /- BIL_SEL -/ ⟨0x1060, 4, 1, [⟨0, 2, .rw, 0⟩, ⟨2, 1, .rw, 0⟩, ⟨4, 3, .rw, 0⟩, ⟨8, 3, .rw, 0⟩, ⟨12, 4, .rw, 0⟩]⟩,
  /- BIL_VAL0 -/ ⟨0x1064, 4, 1, [⟨0, 32, .ro, 0⟩]⟩,
  /- BIL_VAL1 -/ ⟨0x1068, 4, 1, [⟨0, 32, .ro, 0⟩]⟩,
  /- BIL_VAL2 -/ ⟨0x106C, 4, 1, [⟨0, 32, .ro, 0⟩]⟩,
  /- BIL_VAL3 -/ ⟨0x1070, 4, 1, [⟨0, 32, .ro, 0⟩]⟩,
  /- BIL_VAL4 -/ ⟨0x1074, 4, 1, [⟨0, 16, .ro, 0⟩, ⟨16, 1, .ro, 0⟩, ⟨17, 1, .ro, 0⟩]⟩,
  /- BIL_SNAP -/ ⟨0x1080, 4, 2, [⟨0, 4, .ro, 0⟩, ⟨16, 16, .ro, 0⟩]⟩]

/-- The Ring block, 0x1400 to 0x17FF. -/
def regsRing : List RegRow := [
  /- RING_TABLE_BASE_LO -/ ⟨0x1400, 4, 1, [⟨12, 20, .rw, 0⟩]⟩,
  /- RING_TABLE_BASE_HI -/ ⟨0x1404, 4, 1, [⟨0, 32, .rw, 0⟩]⟩,
  /- RING_ENABLE_LO -/ ⟨0x1408, 4, 1, [⟨0, 32, .wo, 0⟩]⟩,
  /- RING_ENABLE_HI -/ ⟨0x140C, 4, 1, [⟨0, 32, .wo, 0⟩]⟩,
  /- RING_ON_LO -/ ⟨0x1410, 4, 1, [⟨0, 32, .ro, 0⟩]⟩,
  /- RING_ON_HI -/ ⟨0x1414, 4, 1, [⟨0, 32, .ro, 0⟩]⟩,
  /- RING_HALT_LO -/ ⟨0x1418, 4, 1, [⟨0, 32, .ro, 0⟩]⟩,
  /- RING_HALT_HI -/ ⟨0x141C, 4, 1, [⟨0, 32, .ro, 0⟩]⟩,
  /- LINK_STAT -/ ⟨0x1420, 4, 1, [⟨0, 2, .ro, 0⟩, ⟨2, 2, .ro, 0⟩, ⟨4, 1, .ro, 0⟩, ⟨5, 1, .ro, 0⟩, ⟨6, 1, .ro, 0⟩, ⟨7, 1, .ro, 0⟩]⟩,
  /- DMA_CFG -/ ⟨0x1424, 4, 1, [⟨0, 3, .rw, 3⟩, ⟨3, 1, .rws, 0⟩]⟩,
  /- RESERVE_STAT -/ ⟨0x1428, 4, 1, [⟨0, 9, .ro, 0⟩, ⟨16, 9, .ro, 0⟩]⟩,
  /- HOST_ERR -/ ⟨0x142C, 4, 1, [⟨0, 1, .w1c, 0⟩, ⟨1, 1, .w1c, 0⟩, ⟨2, 1, .w1c, 0⟩, ⟨3, 1, .w1c, 0⟩, ⟨4, 1, .w1c, 0⟩, ⟨5, 1, .w1c, 0⟩]⟩,
  /- RING_STAT -/ ⟨0x1500, 4, 64, [⟨0, 2, .ro, 0⟩, ⟨8, 8, .ro, 0⟩, ⟨16, 4, .ro, 0⟩]⟩,
  /- MBOX_CMD -/ ⟨0x1600, 4, 16, [⟨0, 32, .rw, 0⟩]⟩,
  /- MBOX_CTRL -/ ⟨0x1640, 4, 1, [⟨0, 1, .wo, 0⟩]⟩,
  /- MBOX_STATUS -/ ⟨0x1644, 4, 1, [⟨0, 1, .ro, 0⟩, ⟨1, 1, .w1c, 0⟩, ⟨2, 1, .w1c, 0⟩, ⟨8, 8, .ro, 0⟩]⟩,
  /- MBOX_DETAIL -/ ⟨0x1648, 4, 1, [⟨0, 32, .ro, 0⟩]⟩,
  /- MBOX_DATA -/ ⟨0x1700, 4, 32, [⟨0, 32, .rw, 0⟩]⟩]

/-- The Bank block, 0x1800 to 0x19FF. -/
def regsBank : List RegRow := [
  /- BANK_OWNER -/ ⟨0x1800, 4, 1, [⟨0, 3, .rw, 0⟩, ⟨3, 1, .wo, 0⟩, ⟨4, 3, .rw, 0⟩, ⟨7, 1, .wo, 0⟩, ⟨8, 3, .rw, 0⟩, ⟨11, 1, .wo, 0⟩, ⟨12, 3, .rw, 0⟩, ⟨15, 1, .wo, 0⟩, ⟨16, 3, .rw, 0⟩, ⟨19, 1, .wo, 0⟩, ⟨20, 3, .rw, 0⟩, ⟨23, 1, .wo, 0⟩, ⟨24, 3, .rw, 0⟩, ⟨27, 1, .wo, 0⟩, ⟨28, 3, .rw, 0⟩, ⟨31, 1, .wo, 0⟩]⟩,
  /- BANK_OWNER -/ ⟨0x1804, 4, 1, [⟨0, 3, .rw, 0⟩, ⟨3, 1, .wo, 0⟩, ⟨4, 3, .rw, 0⟩, ⟨7, 1, .wo, 0⟩, ⟨8, 3, .rw, 0⟩, ⟨11, 1, .wo, 0⟩, ⟨12, 3, .rw, 0⟩, ⟨15, 1, .wo, 0⟩, ⟨16, 3, .rw, 0⟩, ⟨19, 1, .wo, 0⟩, ⟨20, 3, .rw, 0⟩, ⟨23, 1, .wo, 0⟩, ⟨24, 3, .rw, 0⟩, ⟨27, 1, .wo, 0⟩, ⟨28, 3, .rw, 0⟩, ⟨31, 1, .wo, 0⟩]⟩,
  /- BANK_OWNER -/ ⟨0x1808, 4, 1, [⟨0, 3, .rw, 1⟩, ⟨3, 1, .wo, 0⟩, ⟨4, 3, .rw, 1⟩, ⟨7, 1, .wo, 0⟩, ⟨8, 3, .rw, 1⟩, ⟨11, 1, .wo, 0⟩, ⟨12, 3, .rw, 1⟩, ⟨15, 1, .wo, 0⟩, ⟨16, 3, .rw, 1⟩, ⟨19, 1, .wo, 0⟩, ⟨20, 3, .rw, 1⟩, ⟨23, 1, .wo, 0⟩, ⟨24, 3, .rw, 1⟩, ⟨27, 1, .wo, 0⟩, ⟨28, 3, .rw, 1⟩, ⟨31, 1, .wo, 0⟩]⟩,
  /- BANK_OWNER -/ ⟨0x180C, 4, 1, [⟨0, 3, .rw, 1⟩, ⟨3, 1, .wo, 0⟩, ⟨4, 3, .rw, 1⟩, ⟨7, 1, .wo, 0⟩, ⟨8, 3, .rw, 1⟩, ⟨11, 1, .wo, 0⟩, ⟨12, 3, .rw, 1⟩, ⟨15, 1, .wo, 0⟩, ⟨16, 3, .rw, 1⟩, ⟨19, 1, .wo, 0⟩, ⟨20, 3, .rw, 1⟩, ⟨23, 1, .wo, 0⟩, ⟨24, 3, .rw, 1⟩, ⟨27, 1, .wo, 0⟩, ⟨28, 3, .rw, 1⟩, ⟨31, 1, .wo, 0⟩]⟩,
  /- BANK_OWNER -/ ⟨0x1810, 4, 1, [⟨0, 3, .rw, 1⟩, ⟨3, 1, .wo, 0⟩, ⟨4, 3, .rw, 1⟩, ⟨7, 1, .wo, 0⟩, ⟨8, 3, .rw, 1⟩, ⟨11, 1, .wo, 0⟩, ⟨12, 3, .rw, 1⟩, ⟨15, 1, .wo, 0⟩, ⟨16, 3, .rw, 1⟩, ⟨19, 1, .wo, 0⟩, ⟨20, 3, .rw, 1⟩, ⟨23, 1, .wo, 0⟩, ⟨24, 3, .rw, 1⟩, ⟨27, 1, .wo, 0⟩, ⟨28, 3, .rw, 1⟩, ⟨31, 1, .wo, 0⟩]⟩,
  /- BANK_OWNER -/ ⟨0x1814, 4, 1, [⟨0, 3, .rw, 1⟩, ⟨3, 1, .wo, 0⟩, ⟨4, 3, .rw, 1⟩, ⟨7, 1, .wo, 0⟩, ⟨8, 3, .rw, 1⟩, ⟨11, 1, .wo, 0⟩, ⟨12, 3, .rw, 1⟩, ⟨15, 1, .wo, 0⟩, ⟨16, 3, .rw, 1⟩, ⟨19, 1, .wo, 0⟩, ⟨20, 3, .rw, 1⟩, ⟨23, 1, .wo, 0⟩, ⟨24, 3, .rw, 1⟩, ⟨27, 1, .wo, 0⟩, ⟨28, 3, .rw, 1⟩, ⟨31, 1, .wo, 0⟩]⟩,
  /- BANK_OWNER -/ ⟨0x1818, 4, 1, [⟨0, 3, .rw, 2⟩, ⟨3, 1, .wo, 0⟩, ⟨4, 3, .rw, 2⟩, ⟨7, 1, .wo, 0⟩, ⟨8, 3, .rw, 2⟩, ⟨11, 1, .wo, 0⟩, ⟨12, 3, .rw, 2⟩, ⟨15, 1, .wo, 0⟩, ⟨16, 3, .rw, 2⟩, ⟨19, 1, .wo, 0⟩, ⟨20, 3, .rw, 2⟩, ⟨23, 1, .wo, 0⟩, ⟨24, 3, .rw, 2⟩, ⟨27, 1, .wo, 0⟩, ⟨28, 3, .rw, 2⟩, ⟨31, 1, .wo, 0⟩]⟩,
  /- BANK_OWNER -/ ⟨0x181C, 4, 1, [⟨0, 3, .rw, 2⟩, ⟨3, 1, .wo, 0⟩, ⟨4, 3, .rw, 2⟩, ⟨7, 1, .wo, 0⟩, ⟨8, 3, .rw, 2⟩, ⟨11, 1, .wo, 0⟩, ⟨12, 3, .rw, 2⟩, ⟨15, 1, .wo, 0⟩, ⟨16, 3, .rw, 3⟩, ⟨19, 1, .wo, 0⟩, ⟨20, 3, .rw, 3⟩, ⟨23, 1, .wo, 0⟩, ⟨24, 3, .rw, 3⟩, ⟨27, 1, .wo, 0⟩, ⟨28, 3, .rw, 3⟩, ⟨31, 1, .wo, 0⟩]⟩,
  /- BANK_PWR -/ ⟨0x1820, 4, 4, [⟨0, 2, .rw, 0⟩, ⟨2, 2, .rw, 0⟩, ⟨4, 2, .rw, 0⟩, ⟨6, 2, .rw, 0⟩, ⟨8, 2, .rw, 0⟩, ⟨10, 2, .rw, 0⟩, ⟨12, 2, .rw, 0⟩, ⟨14, 2, .rw, 0⟩, ⟨16, 2, .rw, 0⟩, ⟨18, 2, .rw, 0⟩, ⟨20, 2, .rw, 0⟩, ⟨22, 2, .rw, 0⟩, ⟨24, 2, .rw, 0⟩, ⟨26, 2, .rw, 0⟩, ⟨28, 2, .rw, 0⟩, ⟨30, 2, .rw, 0⟩]⟩,
  /- BANK_PEND_LO -/ ⟨0x1830, 4, 1, [⟨0, 32, .ro, 0⟩]⟩,
  /- BANK_PEND_HI -/ ⟨0x1834, 4, 1, [⟨0, 32, .ro, 0⟩]⟩,
  /- BANK_ERR -/ ⟨0x1838, 4, 1, [⟨0, 1, .w1c, 0⟩, ⟨1, 1, .w1c, 0⟩, ⟨2, 1, .w1c, 0⟩, ⟨3, 1, .w1c, 0⟩, ⟨4, 1, .w1c, 0⟩]⟩,
  /- CW_CFG -/ ⟨0x1880, 8, 1, [⟨0, 6, .rw, 0x10⟩, ⟨8, 7, .rw, 0x20⟩, ⟨31, 1, .rw, 1⟩]⟩,
  /- CW_STAT -/ ⟨0x1884, 8, 16, [⟨0, 7, .ro, 0⟩, ⟨7, 1, .ro, 0⟩]⟩,
  /- CW_CFG -/ ⟨0x1888, 8, 15, [⟨0, 6, .rw, 0⟩, ⟨8, 7, .rw, 0⟩, ⟨31, 1, .rw, 0⟩]⟩,
  /- MTEST_CTRL -/ ⟨0x1900, 4, 1, [⟨0, 1, .rw, 1⟩]⟩,
  /- MTEST_STAT -/ ⟨0x1904, 4, 1, [⟨0, 6, .ro, 0⟩, ⟨6, 7, .ro, 0⟩, ⟨13, 1, .ro, 0⟩]⟩,
  /- MTEST_PASS -/ ⟨0x1908, 4, 1, [⟨0, 32, .ro, 0⟩]⟩,
  /- MTEST_DEFER -/ ⟨0x190C, 4, 1, [⟨0, 32, .ro, 0⟩]⟩,
  /- MTEST_FAIL -/ ⟨0x1910, 4, 1, [⟨0, 6, .ro, 0⟩, ⟨6, 13, .ro, 0⟩, ⟨19, 9, .ro, 0⟩, ⟨31, 1, .ro, 0⟩]⟩,
  /- ABP_CFG -/ ⟨0x1940, 4, 1, [⟨0, 1, .rw, 0⟩, ⟨1, 1, .rw, 0⟩, ⟨4, 4, .rw, 0⟩]⟩,
  /- ABP_MAP -/ ⟨0x1944, 4, 4, [⟨0, 6, .rw, 0⟩, ⟨7, 1, .rw, 0⟩, ⟨8, 6, .rw, 0⟩, ⟨15, 1, .rw, 0⟩, ⟨16, 6, .rw, 0⟩, ⟨23, 1, .rw, 0⟩, ⟨24, 6, .rw, 0⟩, ⟨31, 1, .rw, 0⟩]⟩,
  /- ABP_ERR -/ ⟨0x1954, 4, 1, [⟨0, 1, .w1c, 0⟩, ⟨1, 1, .w1c, 0⟩, ⟨2, 1, .w1c, 0⟩, ⟨3, 1, .w1c, 0⟩]⟩,
  /- ABP_COLL -/ ⟨0x1958, 4, 1, [⟨0, 32, .ro, 0⟩]⟩,
  /- ABP_MISS_ADDR -/ ⟨0x195C, 4, 1, [⟨0, 20, .ro, 0⟩, ⟨31, 1, .ro, 0⟩]⟩]

/-- The Nvm block, 0x1A00 to 0x1BFF. -/
def regsNvm : List RegRow := [
  /- NVM_CTRL -/ ⟨0x1A00, 4, 1, [⟨0, 1, .wo, 0⟩]⟩,
  /- NVM_STAT -/ ⟨0x1A04, 4, 1, [⟨0, 1, .ro, 0⟩, ⟨1, 1, .ro, 0⟩, ⟨2, 1, .ro, 0⟩, ⟨3, 1, .ro, 0⟩, ⟨4, 1, .ro, 0⟩, ⟨8, 8, .ro, 0⟩]⟩,
  /- NVM_ERR -/ ⟨0x1A08, 4, 1, [⟨0, 1, .w1c, 0⟩, ⟨1, 1, .w1c, 0⟩, ⟨2, 1, .w1c, 0⟩]⟩,
  /- NVM_CKSEQ -/ ⟨0x1A0C, 4, 1, [⟨0, 32, .ro, 0⟩]⟩,
  /- NVM_LGSTAT -/ ⟨0x1A10, 4, 1, [⟨0, 2, .ro, 0⟩, ⟨16, 16, .ro, 0⟩]⟩,
  /- NVM_TSAVE_LO -/ ⟨0x1A14, 4, 1, [⟨0, 32, .ro, 0⟩]⟩,
  /- NVM_TSAVE_HI -/ ⟨0x1A18, 4, 1, [⟨0, 32, .ro, 0⟩]⟩,
  /- NVM_CE -/ ⟨0x1A1C, 4, 1, [⟨0, 32, .ro, 0⟩]⟩,
  /- NVM_UE -/ ⟨0x1A20, 4, 1, [⟨0, 32, .ro, 0⟩]⟩,
  /- NVM_RETIRED -/ ⟨0x1A24, 4, 1, [⟨0, 11, .ro, 0⟩, ⟨16, 16, .ro, 0⟩]⟩]

/-- The Slice block, 0x1C00 to 0x1CFF. -/
def regsSlice : List RegRow := [
  /- SLICE_STAT -/ ⟨0x1C00, 4, 1, [⟨0, 2, .ro, 0⟩, ⟨2, 2, .ro, 1⟩, ⟨4, 2, .ro, 2⟩, ⟨8, 3, .ro, 0⟩, ⟨12, 1, .ro, 0⟩, ⟨13, 1, .ro, 0⟩, ⟨14, 1, .ro, 0⟩]⟩,
  /- SLICE_CTRL -/ ⟨0x1C04, 4, 1, [⟨0, 1, .rws, 0⟩]⟩,
  /- SLICE_ERR -/ ⟨0x1C08, 4, 1, [⟨0, 1, .w1c, 0⟩, ⟨1, 1, .w1c, 0⟩, ⟨2, 1, .w1c, 0⟩]⟩,
  /- SLICE_SWCNT -/ ⟨0x1C0C, 4, 1, [⟨0, 16, .ro, 0⟩, ⟨16, 16, .ro, 0⟩]⟩,
  /- SLICE_LAST -/ ⟨0x1C10, 4, 1, [⟨0, 3, .ro, 0⟩, ⟨4, 2, .ro, 3⟩, ⟨6, 2, .ro, 3⟩, ⟨8, 3, .ro, 0⟩, ⟨11, 1, .ro, 0⟩, ⟨16, 16, .ro, 0⟩]⟩,
  /- SLICE_LAST_T_LO -/ ⟨0x1C14, 4, 1, [⟨0, 32, .ro, 0⟩]⟩,
  /- SLICE_LAST_T_HI -/ ⟨0x1C18, 4, 1, [⟨0, 32, .ro, 0⟩]⟩,
  /- SLICE_MISMATCH -/ ⟨0x1C1C, 4, 1, [⟨0, 4, .ro, 0⟩, ⟨4, 1, .ro, 0⟩]⟩,
  /- SLICE_CKSEQ -/ ⟨0x1C20, 4, 1, [⟨0, 32, .ro, 0⟩]⟩,
  /- SLICE_RPLY -/ ⟨0x1C24, 4, 1, [⟨0, 16, .ro, 0⟩, ⟨16, 16, .ro, 0⟩]⟩]

/-- The Sec block, 0x1D00 to 0x1DFF. -/
def regsSec : List RegRow := [
  /- SEC_STAT -/ ⟨0x1D00, 4, 1, [⟨0, 2, .ro, 0⟩, ⟨2, 1, .ro, 0⟩, ⟨3, 1, .ro, 0⟩, ⟨4, 1, .ro, 0⟩, ⟨5, 1, .ro, 0⟩, ⟨6, 1, .ro, 0⟩, ⟨7, 1, .ro, 0⟩, ⟨16, 8, .ro, 0⟩]⟩,
  /- SEC_ERR -/ ⟨0x1D04, 4, 1, [⟨0, 1, .w1c, 0⟩, ⟨1, 1, .w1c, 0⟩, ⟨2, 1, .w1c, 0⟩, ⟨3, 1, .w1c, 0⟩, ⟨4, 1, .w1c, 0⟩, ⟨5, 1, .w1c, 0⟩, ⟨6, 1, .w1c, 0⟩, ⟨7, 1, .w1c, 0⟩, ⟨8, 1, .w1c, 0⟩, ⟨9, 1, .w1c, 0⟩]⟩,
  /- SEC_NONCE -/ ⟨0x1D10, 4, 4, [⟨0, 32, .ro, 0⟩]⟩,
  /- SEC_SESSION -/ ⟨0x1D20, 4, 1, [⟨0, 32, .ro, 0⟩]⟩,
  /- SEC_SESS_T -/ ⟨0x1D24, 4, 1, [⟨0, 16, .ro, 0⟩, ⟨16, 16, .ro, 0⟩]⟩,
  /- SEC_MCOUNT_LO -/ ⟨0x1D28, 4, 1, [⟨0, 32, .ro, 0⟩]⟩,
  /- SEC_MCOUNT_HI -/ ⟨0x1D2C, 4, 1, [⟨0, 32, .ro, 0⟩]⟩,
  /- SEC_SEAL_CFG -/ ⟨0x1D30, 4, 1, [⟨0, 8, .rws, 0xc8⟩, ⟨16, 9, .rws, 0x100⟩]⟩,
  /- SEC_SIGCNT -/ ⟨0x1D34, 4, 1, [⟨0, 32, .ro, 0⟩]⟩,
  /- SEC_CERT_LEN -/ ⟨0x1D38, 4, 1, [⟨0, 13, .ro, 0⟩]⟩,
  /- SEC_OWNER_PFX -/ ⟨0x1D3C, 4, 1, [⟨0, 8, .ro, 0⟩]⟩,
  /- SEC_OWNER -/ ⟨0x1D40, 4, 8, [⟨0, 32, .ro, 0⟩]⟩,
  /- SEC_DEVX -/ ⟨0x1D60, 4, 8, [⟨0, 32, .ro, 0⟩]⟩,
  /- SEC_DEVY -/ ⟨0x1D80, 4, 8, [⟨0, 32, .ro, 0⟩]⟩]

/-- The Ket block, 0x1E00 to 0x1EFF. -/
def regsKet : List RegRow := [
  /- KET_STAT -/ ⟨0x1E00, 4, 1, [⟨0, 1, .ro, 0⟩, ⟨1, 1, .ro, 0⟩, ⟨2, 1, .ro, 0⟩, ⟨3, 1, .ro, 0⟩, ⟨4, 1, .ro, 0⟩, ⟨5, 1, .ro, 0⟩]⟩,
  /- KET_FLAGS -/ ⟨0x1E04, 4, 1, [⟨0, 12, .ro, 0x800⟩, ⟨16, 12, .ro, 0⟩]⟩,
  /- KET_SWCFG -/ ⟨0x1E08, 4, 1, [⟨0, 4, .rws, 0xf⟩, ⟨4, 2, .rws, 1⟩]⟩,
  /- KET_LOOPCFG -/ ⟨0x1E0C, 4, 1, [⟨0, 8, .rws, 0⟩]⟩,
  /- KET_ENVCFG -/ ⟨0x1E10, 4, 1, [⟨0, 8, .rws, 0xd8⟩, ⟨8, 8, .rws, 0x55⟩, ⟨16, 8, .rws, 0x28⟩]⟩,
  /- KET_TRIM -/ ⟨0x1E14, 4, 1, [⟨0, 9, .rws, 0⟩]⟩,
  /- KET_RATE -/ ⟨0x1E18, 4, 1, [⟨0, 32, .ro, 0⟩]⟩,
  /- KET_ESEL -/ ⟨0x1E1C, 4, 1, [⟨0, 4, .rw, 0⟩]⟩,
  /- KET_ECNT -/ ⟨0x1E20, 4, 1, [⟨0, 16, .ro, 0⟩, ⟨16, 8, .ro, 0⟩]⟩,
  /- KET_EFIRST_LO -/ ⟨0x1E24, 4, 1, [⟨0, 32, .ro, 0⟩]⟩,
  /- KET_EFIRST_HI -/ ⟨0x1E28, 4, 1, [⟨0, 32, .ro, 0⟩]⟩,
  /- KET_ELAST_LO -/ ⟨0x1E2C, 4, 1, [⟨0, 32, .ro, 0⟩]⟩,
  /- KET_ELAST_HI -/ ⟨0x1E30, 4, 1, [⟨0, 32, .ro, 0⟩]⟩,
  /- KET_RTC_LO -/ ⟨0x1E34, 4, 1, [⟨17, 15, .ro, 0⟩]⟩,
  /- KET_RTC_HI -/ ⟨0x1E38, 4, 1, [⟨0, 32, .ro, 0⟩]⟩,
  /- KET_PLOSS_LO -/ ⟨0x1E3C, 4, 1, [⟨0, 32, .ro, 0⟩]⟩,
  /- KET_PLOSS_HI -/ ⟨0x1E40, 4, 1, [⟨0, 32, .ro, 0⟩]⟩,
  /- KET_PREST_LO -/ ⟨0x1E44, 4, 1, [⟨0, 32, .ro, 0⟩]⟩,
  /- KET_PREST_HI -/ ⟨0x1E48, 4, 1, [⟨0, 32, .ro, 0⟩]⟩,
  /- KET_PCNT -/ ⟨0x1E4C, 4, 1, [⟨0, 16, .ro, 0⟩]⟩,
  /- KET_BIST_CTRL -/ ⟨0x1E50, 4, 1, [⟨0, 12, .rw, 0⟩, ⟨16, 1, .wo, 0⟩]⟩,
  /- KET_BIST_RES -/ ⟨0x1E54, 4, 1, [⟨0, 12, .ro, 0⟩, ⟨16, 12, .ro, 0⟩, ⟨28, 1, .w1c, 0⟩]⟩,
  /- KET_ASENSE -/ ⟨0x1E58, 4, 1, [⟨0, 2, .rw, 0⟩, ⟨2, 1, .rw, 0⟩]⟩,
  /- KET_SRC -/ ⟨0x1E80, 4, 11, [⟨0, 1, .rws, 0⟩, ⟨1, 2, .rws, 0⟩, ⟨3, 1, .rws, 0⟩, ⟨4, 1, .rws, 0⟩, ⟨8, 8, .rws, 1⟩, ⟨16, 12, .rws, 1⟩]⟩,
  /- KET_SRC -/ ⟨0x1EAC, 4, 1, [⟨0, 1, .ro, 1⟩, ⟨1, 2, .ro, 0⟩, ⟨3, 1, .ro, 0⟩, ⟨4, 1, .ro, 0⟩, ⟨8, 8, .ro, 1⟩, ⟨16, 12, .ro, 1⟩]⟩]

/-- The Arb block, 0x1F00 to 0x1FFF. -/
def regsArb : List RegRow := [
  /- ARB_CTRL -/ ⟨0x1F00, 4, 1, [⟨0, 1, .rw, 1⟩, ⟨1, 1, .wo, 0⟩, ⟨2, 1, .wo, 0⟩]⟩,
  /- ARB_WEIGHT_RT -/ ⟨0x1F04, 4, 1, [⟨0, 4, .rw, 4⟩, ⟨4, 4, .rw, 2⟩, ⟨8, 4, .rw, 4⟩, ⟨12, 4, .rw, 1⟩, ⟨16, 4, .rw, 4⟩, ⟨20, 4, .rw, 8⟩]⟩,
  /- ARB_WEIGHT_BK -/ ⟨0x1F08, 4, 1, [⟨0, 4, .rw, 8⟩, ⟨4, 4, .rw, 4⟩, ⟨8, 4, .rw, 2⟩, ⟨12, 4, .rw, 2⟩, ⟨16, 4, .rw, 4⟩, ⟨20, 4, .rw, 1⟩]⟩,
  /- ARB_ERR -/ ⟨0x1F0C, 4, 1, [⟨0, 1, .w1c, 0⟩]⟩,
  /- ARB_SEL -/ ⟨0x1F10, 4, 1, [⟨0, 7, .rw, 0⟩]⟩,
  /- ARB_CNT -/ ⟨0x1F20, 4, 12, [⟨0, 32, .ro, 0⟩]⟩,
  /- ARB_LAT -/ ⟨0x1F60, 4, 12, [⟨0, 16, .ro, 0⟩, ⟨16, 16, .ro, 0⟩]⟩,
  /- ARB_BOUND -/ ⟨0x1F90, 4, 12, [⟨0, 16, .ro, 0⟩]⟩,
  /- ARB_STAT -/ ⟨0x1FC0, 4, 1, [⟨0, 1, .ro, 0⟩, ⟨8, 4, .ro, 0⟩]⟩]

/-- Every register below 0x2000 (R493). -/
def regMap : List RegRow :=
  regsId ++ regsClk ++ regsAfe ++ regsProf ++ regsSar ++ regsTime ++ regsMet ++ regsSpec ++ regsEvt ++ regsAgg ++ regsBil ++ regsRing ++ regsBank ++ regsNvm ++ regsSlice ++ regsSec ++ regsKet ++ regsArb

/-- The block of rows that an offset lies in: the same rows as `regMap`, looked up by the ranges of Table 22-1. -/
def regBlock (off : Nat) : List RegRow :=
  if off < 0x0100 then regsId else
  if off < 0x0200 then regsClk else
  if off < 0x0400 then regsAfe else
  if off < 0x0600 then regsProf else
  if off < 0x0800 then regsSar else
  if off < 0x0A00 then regsTime else
  if off < 0x0C00 then regsMet else
  if off < 0x0D00 then regsSpec else
  if off < 0x0E00 then regsEvt else
  if off < 0x1000 then regsAgg else
  if off < 0x1400 then regsBil else
  if off < 0x1800 then regsRing else
  if off < 0x1A00 then regsBank else
  if off < 0x1C00 then regsNvm else
  if off < 0x1D00 then regsSlice else
  if off < 0x1E00 then regsSec else
  if off < 0x1F00 then regsKet else
  if off < 0x2000 then regsArb else
  []

/-- The row of an offset; none for a reserved offset (R6). -/
def regRow (off : Nat) : Option RegRow := (regBlock off).find? (fun r => r.has off)

/-- The reset value of the field with a key (0 for what the tables do not list). -/
def fldReset (k : Nat) : Nat :=
  match regRow (k / 32) with
  | none => 0
  | some r => match r.fields.find? (fun f => f.lo == k % 32) with
    | none => 0
    | some f => f.rst

end Sys2Proof.Machine
end

