-- ==== Sys2Proof/Machine/Fields.lean ====
section
/-! DEFINITION. The register fields by the manual's names: REGISTER_FIELD, and a function of the index for an array
register (MGA is group 0, MGB group 1). -/

namespace Sys2Proof.Machine

abbrev ID_VENDOR_DEV_VENDOR : Fld := ⟨0x0000, 0, 16⟩
abbrev ID_VENDOR_DEV_DEVICE : Fld := ⟨0x0000, 16, 16⟩
abbrev ID_REV_REVID : Fld := ⟨0x0004, 0, 8⟩
abbrev ID_REV_STEP : Fld := ⟨0x0004, 8, 8⟩
abbrev ID_REV_ROMVER : Fld := ⟨0x0004, 16, 8⟩
abbrev ID_UID_LO_UID : Fld := ⟨0x0008, 0, 32⟩
abbrev ID_UID_HI_UID : Fld := ⟨0x000C, 0, 32⟩
abbrev CAPS_CH_CH : Fld := ⟨0x0010, 0, 16⟩
abbrev CAPS_CH_TR : Fld := ⟨0x0010, 16, 8⟩
abbrev CAPS_CH_GRP_A : Fld := ⟨0x0010, 24, 1⟩
abbrev CAPS_CH_GRP_B : Fld := ⟨0x0010, 25, 1⟩
abbrev CAPS_MISC_LANE : Fld := ⟨0x0014, 0, 2⟩
abbrev CAPS_MISC_SLICE : Fld := ⟨0x0014, 2, 3⟩
abbrev CAPS_MISC_NBANK : Fld := ⟨0x0014, 16, 7⟩
abbrev CAPS_BANK_LO_BANK : Fld := ⟨0x0018, 0, 32⟩
abbrev CAPS_BANK_HI_BANK : Fld := ⟨0x001C, 0, 32⟩
abbrev FUSE_CH_CH : Fld := ⟨0x0020, 0, 16⟩
abbrev FUSE_CH_TR : Fld := ⟨0x0020, 16, 8⟩
abbrev FUSE_CH_GRP_B : Fld := ⟨0x0020, 25, 1⟩
abbrev FUSE_MISC_LANE : Fld := ⟨0x0024, 0, 2⟩
abbrev FUSE_MISC_SLICE : Fld := ⟨0x0024, 2, 3⟩
abbrev FUSE_BANK_LO_BANK : Fld := ⟨0x0028, 0, 32⟩
abbrev FUSE_BANK_HI_BANK : Fld := ⟨0x002C, 0, 32⟩
abbrev FENCE_CH_CH : Fld := ⟨0x0030, 0, 16⟩
abbrev FENCE_CH_TR : Fld := ⟨0x0030, 16, 8⟩
abbrev FENCE_MISC_LANE : Fld := ⟨0x0034, 0, 2⟩
abbrev FENCE_MISC_SLICE : Fld := ⟨0x0034, 2, 3⟩
abbrev FENCE_MISC_RUNCOUNT : Fld := ⟨0x0034, 16, 16⟩
abbrev FENCE_BANK_LO_BANK : Fld := ⟨0x0038, 0, 32⟩
abbrev FENCE_BANK_HI_BANK : Fld := ⟨0x003C, 0, 32⟩
abbrev RST_STAT_CAUSE : Fld := ⟨0x0040, 0, 3⟩
abbrev RST_STAT_READY : Fld := ⟨0x0040, 3, 1⟩
abbrev RST_STAT_SAVED : Fld := ⟨0x0040, 4, 1⟩
abbrev RST_STAT_FENCED : Fld := ⟨0x0040, 5, 1⟩
abbrev RST_STAT_AUTO_RUN : Fld := ⟨0x0040, 8, 2⟩
abbrev RST_STAT_AUTO_REF : Fld := ⟨0x0040, 10, 2⟩
abbrev RST_STAT_AUTO_PAIRS : Fld := ⟨0x0040, 16, 8⟩
abbrev RST_AUTO_GROUPS : Fld := ⟨0x0044, 0, 2⟩
abbrev RST_AUTO_PAIRS : Fld := ⟨0x0044, 8, 8⟩
abbrev RST_TREADY_LO_FRAC : Fld := ⟨0x0048, 0, 32⟩
abbrev RST_TREADY_HI_SEC : Fld := ⟨0x004C, 0, 32⟩
abbrev RST_DUR_US : Fld := ⟨0x0050, 0, 16⟩
abbrev RST_COUNT_COUNT : Fld := ⟨0x0054, 0, 32⟩
abbrev STRAP_MODE : Fld := ⟨0x0058, 0, 2⟩
abbrev STRAP_IOV0 : Fld := ⟨0x0058, 2, 1⟩
abbrev STRAP_IOV1 : Fld := ⟨0x0058, 3, 1⟩
abbrev STRAP_CORECLK_SEL : Fld := ⟨0x0058, 4, 1⟩
abbrev STRAP_MODE_RSVD : Fld := ⟨0x0058, 8, 1⟩
abbrev STRAP_IOV0_MISMATCH : Fld := ⟨0x0058, 9, 1⟩
abbrev STRAP_IOV1_MISMATCH : Fld := ⟨0x0058, 10, 1⟩
abbrev STRAP_SPI_CORE_XO : Fld := ⟨0x0058, 11, 1⟩
abbrev STRAP_VDDIO0_MEAS : Fld := ⟨0x0058, 16, 8⟩
abbrev STRAP_VDDIO1_MEAS : Fld := ⟨0x0058, 24, 8⟩
abbrev ID_MAGIC_MAGIC : Fld := ⟨0x005C, 0, 32⟩
abbrev INT_STAT_MBOX : Fld := ⟨0x0060, 0, 1⟩
abbrev INT_STAT_READY : Fld := ⟨0x0060, 1, 1⟩
abbrev INT_STAT_SWITCH : Fld := ⟨0x0060, 2, 1⟩
abbrev INT_STAT_SLICE_LOST : Fld := ⟨0x0060, 3, 1⟩
abbrev INT_STAT_WEDGE : Fld := ⟨0x0060, 4, 1⟩
abbrev INT_STAT_UE : Fld := ⟨0x0060, 5, 1⟩
abbrev INT_STAT_FENCE : Fld := ⟨0x0060, 6, 1⟩
abbrev INT_STAT_NVM : Fld := ⟨0x0060, 7, 1⟩
abbrev INT_STAT_ABP : Fld := ⟨0x0060, 8, 1⟩
abbrev INT_STAT_RING_HALT : Fld := ⟨0x0060, 9, 1⟩
abbrev INT_STAT_LINK : Fld := ⟨0x0060, 10, 1⟩
abbrev INT_STAT_RESERVE : Fld := ⟨0x0060, 11, 1⟩
abbrev INT_STAT_TAMPER : Fld := ⟨0x0060, 12, 1⟩
abbrev INT_STAT_TIME : Fld := ⟨0x0060, 13, 1⟩
abbrev INT_STAT_REF : Fld := ⟨0x0060, 14, 1⟩
abbrev INT_EN_EN : Fld := ⟨0x0064, 0, 15⟩
abbrev INT_SET_SET : Fld := ⟨0x0068, 0, 15⟩
abbrev SCRATCH_DATA : Fld := ⟨0x006C, 0, 32⟩
abbrev ERR_CE_COUNT : Fld := ⟨0x0080, 0, 32⟩
abbrev ERR_CE_LAST_REGION : Fld := ⟨0x0084, 0, 8⟩
abbrev ERR_CE_LAST_WORD : Fld := ⟨0x0084, 8, 16⟩
abbrev ERR_UE_COUNT : Fld := ⟨0x0088, 0, 32⟩
abbrev ERR_UE_LAST_REGION : Fld := ⟨0x008C, 0, 8⟩
abbrev ERR_UE_LAST_WORD : Fld := ⟨0x008C, 8, 16⟩
abbrev ERR_INTEG_COUNT : Fld := ⟨0x0090, 0, 32⟩
abbrev ERR_DROP_COUNT : Fld := ⟨0x0094, 0, 32⟩
abbrev ERR_SUMM_COUNT : Fld := ⟨0x0098, 0, 16⟩
abbrev ERR_SUMM_OPEN : Fld := ⟨0x0098, 16, 8⟩
abbrev ERR_SUMM_ANCHOR_HOLD : Fld := ⟨0x0098, 24, 1⟩
abbrev WDOG_CTRL_GRACE : Fld := ⟨0x009C, 0, 16⟩
abbrev WDOG_STAT_WEDGED : Fld := ⟨0x00A0, 0, 12⟩
abbrev WDOG_STAT_FIRST : Fld := ⟨0x00A0, 16, 4⟩
abbrev CLK_STAT_META_LOCK : Fld := ⟨0x0100, 0, 1⟩
abbrev CLK_STAT_TPLL_LOCK : Fld := ⟨0x0100, 1, 1⟩
abbrev CLK_STAT_CORE_LOCK : Fld := ⟨0x0100, 2, 1⟩
abbrev CLK_STAT_CORE_SRC : Fld := ⟨0x0100, 3, 1⟩
abbrev CLK_STAT_XO_HALT : Fld := ⟨0x0100, 4, 1⟩
abbrev CLK_STAT_REFCLK_LOST : Fld := ⟨0x0100, 5, 1⟩
abbrev CLK_EVT_XO_STOPPED : Fld := ⟨0x0104, 0, 1⟩
abbrev CLK_EVT_XO_RESUMED : Fld := ⟨0x0104, 1, 1⟩
abbrev CLK_EVT_CORE_SWITCH : Fld := ⟨0x0104, 2, 1⟩
abbrev CLK_EVT_TPLL_UNLOCK : Fld := ⟨0x0104, 3, 1⟩
abbrev AFE_REF_SEL : Fld := ⟨0x0200, 0, 1⟩
abbrev AFE_REF_REF_RDY : Fld := ⟨0x0200, 1, 1⟩
abbrev AFE_REF_REF_FAULT : Fld := ⟨0x0200, 2, 1⟩
abbrev AFE_REF_VREF_MEAS : Fld := ⟨0x0200, 16, 16⟩
abbrev AFE_STATUS_OVR : Fld := ⟨0x0204, 0, 16⟩
abbrev AFE_STATUS_INTSAT : Fld := ⟨0x0204, 16, 16⟩
abbrev AFE_ERR_CFG_RUNNING : Fld := ⟨0x0208, 0, 1⟩
abbrev AFE_ERR_CFG_INVALID : Fld := ⟨0x0208, 1, 1⟩
abbrev AFE_ERR_CHK_REJECT : Fld := ⟨0x0208, 2, 1⟩
abbrev AFE_ERR_STUCK : Fld := ⟨0x0208, 16, 16⟩
abbrev AFE_CH_CFG_EN (n : Nat) : Fld := ⟨0x0210 + 4 * n, 0, 1⟩
abbrev AFE_CH_CFG_GAIN (n : Nat) : Fld := ⟨0x0210 + 4 * n, 1, 3⟩
abbrev AFE_CH_CFG_SENSOR (n : Nat) : Fld := ⟨0x0210 + 4 * n, 4, 2⟩
abbrev AFE_CH_CFG_INTEG_FNOM (n : Nat) : Fld := ⟨0x0210 + 4 * n, 6, 1⟩
abbrev AFE_CHK_CTRL_CHMASK : Fld := ⟨0x0250, 0, 16⟩
abbrev AFE_CHK_CTRL_PROFILE : Fld := ⟨0x0250, 16, 1⟩
abbrev AFE_CHK_CTRL_NAVG : Fld := ⟨0x0250, 17, 3⟩
abbrev AFE_CHK_CTRL_GO : Fld := ⟨0x0250, 20, 1⟩
abbrev AFE_CHK_STATUS_BUSY : Fld := ⟨0x0254, 0, 1⟩
abbrev AFE_CHK_STATUS_DONE : Fld := ⟨0x0254, 1, 1⟩
abbrev AFE_CHK_STATUS_FAILMASK : Fld := ⟨0x0254, 16, 16⟩
abbrev AFE_CHK_OFS_OFS (n : Nat) : Fld := ⟨0x0280 + 16 * n, 0, 32⟩
abbrev AFE_CHK_REF_REF (n : Nat) : Fld := ⟨0x0284 + 16 * n, 0, 32⟩
abbrev AFE_CHK_TONE_TONE_PP (n : Nat) : Fld := ⟨0x0288 + 16 * n, 0, 24⟩
abbrev AFE_CHK_RES_VALID (n : Nat) : Fld := ⟨0x028C + 16 * n, 0, 1⟩
abbrev AFE_CHK_RES_OFS_FAIL (n : Nat) : Fld := ⟨0x028C + 16 * n, 1, 1⟩
abbrev AFE_CHK_RES_REF_FAIL (n : Nat) : Fld := ⟨0x028C + 16 * n, 2, 1⟩
abbrev AFE_CHK_RES_TONE_FAIL (n : Nat) : Fld := ⟨0x028C + 16 * n, 3, 1⟩
abbrev PROF_CH_CFG_PROFILE (n : Nat) : Fld := ⟨0x0400 + 4 * n, 0, 4⟩
abbrev PROF_CH_CFG_TAU (n : Nat) : Fld := ⟨0x0400 + 4 * n, 16, 16⟩
abbrev PROF_GRP_STATUS_A_MONITOR : Fld := ⟨0x0440, 0, 1⟩
abbrev PROF_GRP_STATUS_B_MONITOR : Fld := ⟨0x0440, 1, 1⟩
abbrev PROF_GRP_STATUS_A_MIXED : Fld := ⟨0x0440, 2, 1⟩
abbrev PROF_GRP_STATUS_B_MIXED : Fld := ⟨0x0440, 3, 1⟩
abbrev PROF_ERR_CFG_RUNNING : Fld := ⟨0x0444, 0, 1⟩
abbrev PROF_ERR_CFG_INVALID : Fld := ⟨0x0444, 1, 1⟩
abbrev PROF_ERR_RATE_A : Fld := ⟨0x0444, 2, 1⟩
abbrev PROF_ERR_RATE_B : Fld := ⟨0x0444, 3, 1⟩
abbrev PROF_ERR_ALIGN_A : Fld := ⟨0x0444, 4, 1⟩
abbrev PROF_ERR_ALIGN_B : Fld := ⟨0x0444, 5, 1⟩
abbrev THR_HI_LEVEL (n : Nat) : Fld := ⟨0x0480 + 16 * n, 0, 24⟩
abbrev THR_LO_LEVEL (n : Nat) : Fld := ⟨0x0484 + 16 * n, 0, 24⟩
abbrev THR_CFG_PERSIST (n : Nat) : Fld := ⟨0x0488 + 16 * n, 0, 8⟩
abbrev THR_CFG_HI_EN (n : Nat) : Fld := ⟨0x0488 + 16 * n, 8, 1⟩
abbrev THR_CFG_LO_EN (n : Nat) : Fld := ⟨0x0488 + 16 * n, 9, 1⟩
abbrev THR_CFG_ABS (n : Nat) : Fld := ⟨0x0488 + 16 * n, 10, 1⟩
abbrev THR_CFG_HYST (n : Nat) : Fld := ⟨0x0488 + 16 * n, 12, 20⟩
abbrev THR_STAT_HI_STATE (n : Nat) : Fld := ⟨0x048C + 16 * n, 0, 1⟩
abbrev THR_STAT_LO_STATE (n : Nat) : Fld := ⟨0x048C + 16 * n, 1, 1⟩
abbrev THR_STAT_HI_SEEN (n : Nat) : Fld := ⟨0x048C + 16 * n, 2, 1⟩
abbrev THR_STAT_LO_SEEN (n : Nat) : Fld := ⟨0x048C + 16 * n, 3, 1⟩
abbrev THR_STAT_CHATTER (n : Nat) : Fld := ⟨0x048C + 16 * n, 4, 1⟩
abbrev EVT_PIN_MASK_MASK (n : Nat) : Fld := ⟨0x0580 + 4 * n, 0, 32⟩
abbrev EVT_PIN_CTRL_INV : Fld := ⟨0x0590, 0, 4⟩
abbrev EVT_PIN_CTRL_STATE : Fld := ⟨0x0590, 4, 4⟩
abbrev SAR_CAL_CTRL_PAIRMASK : Fld := ⟨0x0600, 0, 8⟩
abbrev SAR_CAL_CTRL_HSAR : Fld := ⟨0x0600, 8, 1⟩
abbrev SAR_CAL_CTRL_GO : Fld := ⟨0x0600, 9, 1⟩
abbrev SAR_CAL_CTRL_DTEMP : Fld := ⟨0x0600, 16, 8⟩
abbrev SAR_CAL_STATUS_BUSY : Fld := ⟨0x0604, 0, 1⟩
abbrev SAR_CAL_STATUS_DONE : Fld := ⟨0x0604, 1, 1⟩
abbrev SAR_CAL_STATUS_REJECT : Fld := ⟨0x0604, 2, 1⟩
abbrev SAR_CAL_STATUS_HSAR_VALID : Fld := ⟨0x0604, 3, 1⟩
abbrev SAR_CAL_STATUS_HSAR_FAIL : Fld := ⟨0x0604, 4, 1⟩
abbrev SAR_CAL_STATUS_VALID : Fld := ⟨0x0604, 8, 8⟩
abbrev SAR_CAL_STATUS_FAIL : Fld := ⟨0x0604, 16, 8⟩
abbrev TSAR_CTRL_EN : Fld := ⟨0x0608, 0, 8⟩
abbrev TSAR_CTRL_ON : Fld := ⟨0x0608, 8, 8⟩
abbrev TSAR_CTRL_TDRIFT : Fld := ⟨0x0608, 16, 8⟩
abbrev TSAR_ERR_UNCAL : Fld := ⟨0x060C, 0, 8⟩
abbrev TSAR_ERR_MAP_RUNNING : Fld := ⟨0x060C, 8, 8⟩
abbrev TSAR_ERR_MAP_INVALID : Fld := ⟨0x060C, 16, 1⟩
abbrev TSAR_MAP_CH (n : Nat) : Fld := ⟨0x0610, 4 * n, 4⟩
abbrev FAST_PIN_CTRL_MASK0 : Fld := ⟨0x0614, 0, 16⟩
abbrev FAST_PIN_CTRL_MASK1 : Fld := ⟨0x0614, 16, 16⟩
abbrev FAST_PIN_CFG_HOLD : Fld := ⟨0x0618, 0, 12⟩
abbrev FAST_PIN_CFG_INV : Fld := ⟨0x0618, 12, 2⟩
abbrev FAST_PIN_CFG_STATE : Fld := ⟨0x0618, 14, 2⟩
abbrev FAST_DROP_COUNT : Fld := ⟨0x061C, 0, 32⟩
abbrev HSAR_SEQ_CTRL_NULL : Fld := ⟨0x0620, 0, 1⟩
abbrev HSAR_SEQ_CTRL_SKIPPED : Fld := ⟨0x0620, 16, 16⟩
abbrev HSAR_URG_INPUT : Fld := ⟨0x0624, 0, 5⟩
abbrev HSAR_URG_GO : Fld := ⟨0x0624, 8, 1⟩
abbrev HSAR_URG_BUSY : Fld := ⟨0x0624, 9, 1⟩
abbrev HSAR_URG_DONE : Fld := ⟨0x0624, 10, 1⟩
abbrev HSAR_URG_REJECT : Fld := ⟨0x0624, 11, 1⟩
abbrev HSAR_URG_PFI_INPUT : Fld := ⟨0x0624, 16, 5⟩
abbrev HSAR_URG_RES_VALUE : Fld := ⟨0x0628, 0, 16⟩
abbrev HSAR_URG_RES_UNCAL : Fld := ⟨0x0628, 16, 1⟩
abbrev HSAR_PFI_RES_VALUE : Fld := ⟨0x062C, 0, 16⟩
abbrev HSAR_PFI_RES_UNCAL : Fld := ⟨0x062C, 16, 1⟩
abbrev HSAR_PFI_RES_NEW : Fld := ⟨0x062C, 17, 1⟩
abbrev HSAR_CAL_OFFSET : Fld := ⟨0x0630, 0, 16⟩
abbrev HSAR_CAL_GAIN : Fld := ⟨0x0630, 16, 16⟩
abbrev TSAR_CAL_A_OFFSET (n : Nat) : Fld := ⟨0x0640 + 16 * n, 0, 16⟩
abbrev TSAR_CAL_A_GAIN (n : Nat) : Fld := ⟨0x0640 + 16 * n, 16, 16⟩
abbrev TSAR_CAL_B_OFFSET (n : Nat) : Fld := ⟨0x0644 + 16 * n, 0, 16⟩
abbrev TSAR_CAL_B_GAIN (n : Nat) : Fld := ⟨0x0644 + 16 * n, 16, 16⟩
abbrev TSAR_SKEW_TRIM (n : Nat) : Fld := ⟨0x0648 + 16 * n, 0, 16⟩
abbrev TSAR_SKEW_RESID (n : Nat) : Fld := ⟨0x0648 + 16 * n, 16, 16⟩
abbrev TSAR_CALT_TCAL (n : Nat) : Fld := ⟨0x064C + 16 * n, 0, 16⟩
abbrev FAST_LVL_LEVEL (n : Nat) : Fld := ⟨0x06C0 + 8 * n, 0, 11⟩
abbrev FAST_LVL_HYST (n : Nat) : Fld := ⟨0x06C0 + 8 * n, 16, 11⟩
abbrev FAST_DVDT_STEP (n : Nat) : Fld := ⟨0x06C4 + 8 * n, 0, 12⟩
abbrev FAST_DVDT_LVL_EN (n : Nat) : Fld := ⟨0x06C4 + 8 * n, 16, 1⟩
abbrev FAST_DVDT_DVDT_EN (n : Nat) : Fld := ⟨0x06C4 + 8 * n, 17, 1⟩
abbrev FAST_DVDT_LVL_STATE (n : Nat) : Fld := ⟨0x06C4 + 8 * n, 18, 1⟩
abbrev FAST_DVDT_DVDT_STATE (n : Nat) : Fld := ⟨0x06C4 + 8 * n, 19, 1⟩
abbrev HSAR_SEQ_INPUT (n : Nat) : Fld := ⟨0x0700 + 4 * n, 0, 5⟩
abbrev HSAR_SEQ_EN (n : Nat) : Fld := ⟨0x0700 + 4 * n, 5, 1⟩
abbrev HSAR_SEQ_ORDER (n : Nat) : Fld := ⟨0x0700 + 4 * n, 6, 3⟩
abbrev HSAR_RES_VALUE (n : Nat) : Fld := ⟨0x0780 + 4 * n, 0, 16⟩
abbrev HSAR_RES_VALID (n : Nat) : Fld := ⟨0x0780 + 4 * n, 16, 1⟩
abbrev HSAR_RES_MISSED (n : Nat) : Fld := ⟨0x0780 + 4 * n, 17, 1⟩
abbrev HSAR_RES_UNCAL (n : Nat) : Fld := ⟨0x0780 + 4 * n, 18, 1⟩
abbrev HSAR_RES_COUNT (n : Nat) : Fld := ⟨0x0780 + 4 * n, 24, 8⟩
abbrev TIME_CTRL_PPS_EN : Fld := ⟨0x0800, 0, 1⟩
abbrev TIME_CTRL_LOOP : Fld := ⟨0x0800, 1, 4⟩
abbrev TIME_STATUS_STATE : Fld := ⟨0x0804, 0, 3⟩
abbrev TIME_STATUS_STEP_NEEDED : Fld := ⟨0x0804, 3, 1⟩
abbrev TIME_STATUS_SLEWING : Fld := ⟨0x0804, 4, 1⟩
abbrev TIME_STATUS_SHADOW : Fld := ⟨0x0804, 5, 1⟩
abbrev TIME_STATUS_LEAP_PEND : Fld := ⟨0x0804, 6, 1⟩
abbrev TIME_STATUS_RELOADED : Fld := ⟨0x0804, 7, 1⟩
abbrev TIME_STATUS_HALTED : Fld := ⟨0x0804, 8, 1⟩
abbrev TIME_NOW_LO_FRAC : Fld := ⟨0x0808, 0, 32⟩
abbrev TIME_NOW_HI_SEC : Fld := ⟨0x080C, 0, 32⟩
abbrev TIME_HWM_LO_FRAC : Fld := ⟨0x0810, 0, 32⟩
abbrev TIME_HWM_HI_SEC : Fld := ⟨0x0814, 0, 32⟩
abbrev TIME_ADJ_ADJ : Fld := ⟨0x0818, 0, 32⟩
abbrev PPS_OFFSET_OFS : Fld := ⟨0x081C, 0, 32⟩
abbrev PPS_LAST_LO_FRAC : Fld := ⟨0x0820, 0, 32⟩
abbrev PPS_LAST_HI_SEC : Fld := ⟨0x0824, 0, 32⟩
abbrev PPS_ERR_E : Fld := ⟨0x0828, 0, 32⟩
abbrev PPS_CNT_ACCEPTED : Fld := ⟨0x082C, 0, 16⟩
abbrev PPS_CNT_REJECTED : Fld := ⟨0x082C, 16, 16⟩
abbrev LEAP_AT_SEC : Fld := ⟨0x0830, 0, 32⟩
abbrev LEAP_CTRL_SIGN : Fld := ⟨0x0834, 0, 1⟩
abbrev HALT_STAT_COUNT : Fld := ⟨0x0838, 0, 16⟩
abbrev HALT_LAST_SEC : Fld := ⟨0x083C, 0, 32⟩
abbrev FREQ_CFG_FNOM (n : Nat) : Fld := ⟨0x0880 + 64 * n, 0, 1⟩
abbrev FREQ_CFG_REF (n : Nat) : Fld := ⟨0x0880 + 64 * n, 1, 3⟩
abbrev FREQ_CFG_MINAMP (n : Nat) : Fld := ⟨0x0880 + 64 * n, 8, 24⟩
abbrev FREQ_STAT_STATE (n : Nat) : Fld := ⟨0x0884 + 64 * n, 0, 2⟩
abbrev FREQ_STAT_OUTRANGE (n : Nat) : Fld := ⟨0x0884 + 64 * n, 2, 1⟩
abbrev FREQ_STAT_EVERLOCKED (n : Nat) : Fld := ⟨0x0884 + 64 * n, 3, 1⟩
abbrev FREQ_STAT_REFERR (n : Nat) : Fld := ⟨0x0884 + 64 * n, 4, 1⟩
abbrev FREQ_NOW_F (n : Nat) : Fld := ⟨0x0888 + 64 * n, 0, 32⟩
abbrev FREQ_10S_F (n : Nat) : Fld := ⟨0x088C + 64 * n, 0, 32⟩
abbrev FREQ_10S_T_SEC (n : Nat) : Fld := ⟨0x0890 + 64 * n, 0, 32⟩
abbrev FREQ_10S_FL_N (n : Nat) : Fld := ⟨0x0894 + 64 * n, 0, 16⟩
abbrev FREQ_10S_FL_VALID (n : Nat) : Fld := ⟨0x0894 + 64 * n, 16, 1⟩
abbrev FREQ_10S_FL_HALT (n : Nat) : Fld := ⟨0x0894 + 64 * n, 17, 1⟩
abbrev FREQ_10S_FL_TIMESTEP (n : Nat) : Fld := ⟨0x0894 + 64 * n, 18, 1⟩
abbrev FREQ_10S_FL_FHOLD (n : Nat) : Fld := ⟨0x0894 + 64 * n, 19, 1⟩
abbrev RSMP_STAT_WINDOWS (n : Nat) : Fld := ⟨0x0898 + 64 * n, 0, 16⟩
abbrev RSMP_STAT_OVERLAP (n : Nat) : Fld := ⟨0x0898 + 64 * n, 16, 1⟩
abbrev RSMP_STAT_FHOLD (n : Nat) : Fld := ⟨0x0898 + 64 * n, 17, 1⟩
abbrev RSMP_STAT_FCLAMP (n : Nat) : Fld := ⟨0x0898 + 64 * n, 18, 1⟩
abbrev MET_CTRL_SMODE_A : Fld := ⟨0x0A00, 0, 1⟩
abbrev MET_CTRL_SMODE_B : Fld := ⟨0x0A00, 1, 1⟩
abbrev MET_CTRL_ECLR : Fld := ⟨0x0A00, 8, 1⟩
abbrev CAL_CTRL_COMMIT_A : Fld := ⟨0x0A04, 0, 1⟩
abbrev CAL_CTRL_COMMIT_B : Fld := ⟨0x0A04, 1, 1⟩
abbrev CAL_CTRL_PEND_A : Fld := ⟨0x0A04, 4, 1⟩
abbrev CAL_CTRL_PEND_B : Fld := ⟨0x0A04, 5, 1⟩
abbrev CAL_ID_ID_A : Fld := ⟨0x0A08, 0, 16⟩
abbrev CAL_ID_ID_B : Fld := ⟨0x0A08, 16, 16⟩
abbrev MET_ERR_CAL_RANGE : Fld := ⟨0x0A0C, 0, 1⟩
abbrev MET_ERR_CF_RUNNING : Fld := ⟨0x0A0C, 1, 1⟩
abbrev MET_ERR_ECLR_RUNNING : Fld := ⟨0x0A0C, 2, 1⟩
abbrev MET_STAT_RUN (n : Nat) : Fld := ⟨0x0A10 + 4 * n, 0, 1⟩
abbrev MET_STAT_PHASE_LOST (n : Nat) : Fld := ⟨0x0A10 + 4 * n, 1, 3⟩
abbrev MET_STAT_STOT_LOST (n : Nat) : Fld := ⟨0x0A10 + 4 * n, 4, 1⟩
abbrev MET_STAT_CREEP (n : Nat) : Fld := ⟨0x0A10 + 4 * n, 5, 3⟩
abbrev MET_STAT_NOMINAL (n : Nat) : Fld := ⟨0x0A10 + 4 * n, 8, 1⟩
abbrev MET_CREEP_THRESH (n : Nat) : Fld := ⟨0x0A18 + 4 * n, 0, 32⟩
abbrev MET_ESEL_QTY : Fld := ⟨0x0A20, 0, 3⟩
abbrev MET_ESEL_PHASE : Fld := ⟨0x0A20, 4, 2⟩
abbrev MET_ESEL_GROUP : Fld := ⟨0x0A20, 8, 1⟩
abbrev MET_EVAL_FRAC_FRAC : Fld := ⟨0x0A24, 0, 32⟩
abbrev MET_EVAL_LO_COUNT_LO : Fld := ⟨0x0A28, 0, 32⟩
abbrev MET_EVAL_HI_COUNT_HI : Fld := ⟨0x0A2C, 0, 16⟩
abbrev MET_EVAL_HI_WRAP : Fld := ⟨0x0A2C, 16, 8⟩
abbrev MET_EVAL_HI_TOP : Fld := ⟨0x0A2C, 24, 8⟩
abbrev MET_EVAL_T_LO_FRAC : Fld := ⟨0x0A30, 0, 32⟩
abbrev MET_EVAL_T_HI_SEC : Fld := ⟨0x0A34, 0, 32⟩
abbrev CF_CFG_EN (n : Nat) : Fld := ⟨0x0A60 + 16 * n, 0, 1⟩
abbrev CF_CFG_INV (n : Nat) : Fld := ⟨0x0A60 + 16 * n, 1, 1⟩
abbrev CF_CFG_GROUP (n : Nat) : Fld := ⟨0x0A60 + 16 * n, 2, 1⟩
abbrev CF_CFG_PHASE (n : Nat) : Fld := ⟨0x0A60 + 16 * n, 3, 2⟩
abbrev CF_CFG_QMASK (n : Nat) : Fld := ⟨0x0A60 + 16 * n, 8, 8⟩
abbrev CF_CONST_C (n : Nat) : Fld := ⟨0x0A64 + 16 * n, 0, 30⟩
abbrev CF_STAT_OWED (n : Nat) : Fld := ⟨0x0A68 + 16 * n, 0, 24⟩
abbrev CF_STAT_OVERRATE (n : Nat) : Fld := ⟨0x0A68 + 16 * n, 24, 1⟩
abbrev CF_STAT_ACTIVE (n : Nat) : Fld := ⟨0x0A68 + 16 * n, 25, 1⟩
abbrev CF_COUNT_COUNT (n : Nat) : Fld := ⟨0x0A6C + 16 * n, 0, 32⟩
abbrev CF_LOST_LOST (n : Nat) : Fld := ⟨0x0AA0 + 4 * n, 0, 32⟩
abbrev CAL_SCALE_SCALE (n : Nat) : Fld := ⟨0x0B00 + 16 * n, 0, 32⟩
abbrev CAL_CFG_E (n : Nat) : Fld := ⟨0x0B04 + 16 * n, 0, 4⟩
abbrev CAL_CFG_PH (n : Nat) : Fld := ⟨0x0B04 + 16 * n, 16, 10⟩
abbrev CAL_OFS_OFS (n : Nat) : Fld := ⟨0x0B08 + 16 * n, 0, 24⟩
abbrev SPEC_CFG_EN (n : Nat) : Fld := ⟨0x0C00 + 4 * n, 0, 1⟩
abbrev SPEC_CFG_GROUPS (n : Nat) : Fld := ⟨0x0C00 + 4 * n, 1, 1⟩
abbrev SPEC_CFG_PHASE (n : Nat) : Fld := ⟨0x0C00 + 4 * n, 2, 1⟩
abbrev SPEC_CFG_BANDS (n : Nat) : Fld := ⟨0x0C00 + 4 * n, 3, 1⟩
abbrev SPEC_CFG_THD50 (n : Nat) : Fld := ⟨0x0C00 + 4 * n, 4, 1⟩
abbrev SPEC_CFG_LAMP (n : Nat) : Fld := ⟨0x0C00 + 4 * n, 5, 1⟩
abbrev SPEC_CFG_DELTA (n : Nat) : Fld := ⟨0x0C00 + 4 * n, 6, 1⟩
abbrev SPEC_STAT_RUN (n : Nat) : Fld := ⟨0x0C08 + 4 * n, 0, 1⟩
abbrev SPEC_STAT_FSETTLE (n : Nat) : Fld := ⟨0x0C08 + 4 * n, 1, 3⟩
abbrev SPEC_STAT_FRUN (n : Nat) : Fld := ⟨0x0C08 + 4 * n, 4, 3⟩
abbrev SPEC_STAT_WINDOWS (n : Nat) : Fld := ⟨0x0C08 + 4 * n, 16, 16⟩
abbrev SPEC_ERR_CFG_RUNNING : Fld := ⟨0x0C10, 0, 1⟩
abbrev SPEC_ERR_CFG_INVALID : Fld := ⟨0x0C10, 1, 1⟩
abbrev SPEC_ERR_NOBANK_A : Fld := ⟨0x0C10, 2, 1⟩
abbrev SPEC_ERR_NOBANK_B : Fld := ⟨0x0C10, 3, 1⟩
abbrev SPEC_ERR_NOBANK_T : Fld := ⟨0x0C10, 4, 1⟩
abbrev SPEC_MEM_NEED : Fld := ⟨0x0C14, 0, 16⟩
abbrev SPEC_MEM_HAVE : Fld := ⟨0x0C14, 16, 16⟩
abbrev SUPRA_CTRL_EN : Fld := ⟨0x0C18, 0, 8⟩
abbrev SUPRA_CTRL_MAX : Fld := ⟨0x0C18, 8, 1⟩
abbrev MSV_F_F (n : Nat) : Fld := ⟨0x0C20 + 4 * n, 0, 22⟩
abbrev MSV_F_EN (n : Nat) : Fld := ⟨0x0C20 + 4 * n, 31, 1⟩
abbrev SUPRA_SCALE_SCALE (n : Nat) : Fld := ⟨0x0C40 + 4 * n, 0, 32⟩
abbrev EVT_UDIN_UDIN (n : Nat) : Fld := ⟨0x0D00 + 4 * n, 0, 32⟩
abbrev EVT_CFG_DELTA (n : Nat) : Fld := ⟨0x0D08 + 4 * n, 0, 1⟩
abbrev EVT_THR_DIP (n : Nat) : Fld := ⟨0x0D10 + 8 * n, 0, 16⟩
abbrev EVT_THR_SWELL (n : Nat) : Fld := ⟨0x0D10 + 8 * n, 16, 16⟩
abbrev EVT_THR2_INT (n : Nat) : Fld := ⟨0x0D14 + 8 * n, 0, 16⟩
abbrev EVT_THR2_RVC (n : Nat) : Fld := ⟨0x0D14 + 8 * n, 16, 16⟩
abbrev EVT_MSV_THR (n : Nat) : Fld := ⟨0x0D20 + 4 * n, 0, 16⟩
abbrev EVT_STAT_IN_DIP (n : Nat) : Fld := ⟨0x0D28 + 4 * n, 0, 1⟩
abbrev EVT_STAT_IN_SWELL (n : Nat) : Fld := ⟨0x0D28 + 4 * n, 1, 1⟩
abbrev EVT_STAT_IN_INT (n : Nat) : Fld := ⟨0x0D28 + 4 * n, 2, 1⟩
abbrev EVT_STAT_IN_RVC (n : Nat) : Fld := ⟨0x0D28 + 4 * n, 3, 1⟩
abbrev EVT_STAT_STEADY (n : Nat) : Fld := ⟨0x0D28 + 4 * n, 4, 1⟩
abbrev EVT_STAT_IN_MSV (n : Nat) : Fld := ⟨0x0D28 + 4 * n, 5, 1⟩
abbrev EVT_STAT_COUNT (n : Nat) : Fld := ⟨0x0D28 + 4 * n, 16, 16⟩
abbrev EVT_ERR_CFG_INVALID : Fld := ⟨0x0D30, 0, 1⟩
abbrev TRN_CFG_NMAX : Fld := ⟨0x0D34, 0, 8⟩
abbrev CAP_CTRL_AUTOREARM : Fld := ⟨0x0D40, 0, 1⟩
abbrev CAP_CTRL_EXTEND : Fld := ⟨0x0D40, 1, 1⟩
abbrev CAP_CTRL_CW : Fld := ⟨0x0D40, 8, 4⟩
abbrev CAP_SRC_SD : Fld := ⟨0x0D44, 0, 16⟩
abbrev CAP_SRC_TR : Fld := ⟨0x0D44, 16, 8⟩
abbrev CAP_PRE_US : Fld := ⟨0x0D48, 0, 32⟩
abbrev CAP_POST_US : Fld := ⟨0x0D4C, 0, 32⟩
abbrev CAP_TRIG_DIP : Fld := ⟨0x0D50, 0, 1⟩
abbrev CAP_TRIG_SWELL : Fld := ⟨0x0D50, 1, 1⟩
abbrev CAP_TRIG_INT : Fld := ⟨0x0D50, 2, 1⟩
abbrev CAP_TRIG_RVC : Fld := ⟨0x0D50, 3, 1⟩
abbrev CAP_TRIG_MSV : Fld := ⟨0x0D50, 4, 1⟩
abbrev CAP_TRIG_GRP_A : Fld := ⟨0x0D50, 5, 1⟩
abbrev CAP_TRIG_GRP_B : Fld := ⟨0x0D50, 6, 1⟩
abbrev CAP_THRMASK_MASK : Fld := ⟨0x0D54, 0, 32⟩
abbrev CAP_FASTMASK_MASK : Fld := ⟨0x0D58, 0, 16⟩
abbrev CAP_DEPTH_US : Fld := ⟨0x0D5C, 0, 32⟩
abbrev CAP_STAT_STATE : Fld := ⟨0x0D60, 0, 2⟩
abbrev CAP_STAT_CAPID : Fld := ⟨0x0D60, 16, 16⟩
abbrev CAP_ERR_TOO_DEEP : Fld := ⟨0x0D64, 0, 1⟩
abbrev CAP_ERR_NO_BANK : Fld := ⟨0x0D64, 1, 1⟩
abbrev CAP_ERR_NO_SRC : Fld := ⟨0x0D64, 2, 1⟩
abbrev CAP_ERR_BUSY : Fld := ⟨0x0D64, 3, 1⟩
abbrev CAP_ERR_CFG_ARMED : Fld := ⟨0x0D64, 4, 1⟩
abbrev CAP_MISSED_COUNT : Fld := ⟨0x0D68, 0, 32⟩
abbrev CAP_TRIG_T_LO_FRAC : Fld := ⟨0x0D70, 0, 32⟩
abbrev CAP_TRIG_T_HI_SEC : Fld := ⟨0x0D74, 0, 32⟩
abbrev AGG_CTRL_EN_A : Fld := ⟨0x0E00, 0, 1⟩
abbrev AGG_CTRL_EN_B : Fld := ⟨0x0E00, 1, 1⟩
abbrev AGG_CTRL_SUPRA : Fld := ⟨0x0E00, 8, 8⟩
abbrev AGG_STAT_OVL_A : Fld := ⟨0x0E04, 0, 1⟩
abbrev AGG_STAT_OVL_B : Fld := ⟨0x0E04, 1, 1⟩
abbrev AGG_STAT_DRAINING : Fld := ⟨0x0E04, 2, 1⟩
abbrev AGG_STAT_HELD : Fld := ⟨0x0E04, 3, 1⟩
abbrev AGG_STAT_QDEPTH : Fld := ⟨0x0E04, 16, 12⟩
abbrev AGG_QMAX_QHWM : Fld := ⟨0x0E08, 0, 12⟩
abbrev AGG_QMAX_DRAIN_MAX : Fld := ⟨0x0E08, 16, 16⟩
abbrev STAT_CTRL_EN : Fld := ⟨0x0E10, 0, 1⟩
abbrev STAT_LOAD_LOAD : Fld := ⟨0x0E14, 0, 16⟩
abbrev STAT_LOAD_LIMIT : Fld := ⟨0x0E14, 16, 16⟩
abbrev STAT_ERR_BADDESC : Fld := ⟨0x0E18, 0, 1⟩
abbrev STAT_ERR_OVERLAP : Fld := ⟨0x0E18, 1, 1⟩
abbrev STAT_ERR_NOBANK : Fld := ⟨0x0E18, 2, 1⟩
abbrev STAT_ERR_OVERLOAD : Fld := ⟨0x0E18, 3, 1⟩
abbrev STAT_ERR_NO_RING : Fld := ⟨0x0E18, 4, 1⟩
abbrev STAT_ERR_LEVEL : Fld := ⟨0x0E18, 5, 1⟩
abbrev STAT_ERR_BANKLOSS : Fld := ⟨0x0E18, 6, 1⟩
abbrev STAT_DSEL_INDEX : Fld := ⟨0x0E1C, 0, 12⟩
abbrev STAT_DESC0_QID : Fld := ⟨0x0E20, 0, 24⟩
abbrev STAT_DESC0_LEVEL : Fld := ⟨0x0E20, 24, 2⟩
abbrev STAT_DESC0_LOG : Fld := ⟨0x0E20, 26, 1⟩
abbrev STAT_DESC0_FLAGPOL : Fld := ⟨0x0E20, 27, 2⟩
abbrev STAT_DESC0_EN : Fld := ⟨0x0E20, 31, 1⟩
abbrev STAT_DESC1_BASE : Fld := ⟨0x0E24, 0, 20⟩
abbrev STAT_DESC1_LOG2N : Fld := ⟨0x0E24, 20, 4⟩
abbrev STAT_DESC2_LOWER : Fld := ⟨0x0E28, 0, 32⟩
abbrev STAT_DESC3_WIDTH : Fld := ⟨0x0E2C, 0, 32⟩
abbrev STAT_HSTAT_SAT : Fld := ⟨0x0E30, 0, 1⟩
abbrev STAT_HSTAT_UNDER : Fld := ⟨0x0E30, 1, 1⟩
abbrev STAT_HSTAT_OVER : Fld := ⟨0x0E30, 2, 1⟩
abbrev STAT_HSTAT_POISON : Fld := ⟨0x0E30, 3, 1⟩
abbrev STAT_HSTAT_LOST : Fld := ⟨0x0E30, 4, 1⟩
abbrev STAT_HN_N : Fld := ⟨0x0E34, 0, 32⟩
abbrev STAT_HSEQ_SEQ : Fld := ⟨0x0E38, 0, 32⟩
abbrev STAT_HNDEF_COUNT : Fld := ⟨0x0E3C, 0, 32⟩
abbrev STAT_LASTSEQ_SEQ (n : Nat) : Fld := ⟨0x0E40 + 4 * n, 0, 32⟩
abbrev STAT_BANKMAP_BANK (n : Nat) : Fld := ⟨0x0E50 + 4 * (n / 4), 8 * (n % 4) + 0, 6⟩
abbrev STAT_BANKMAP_VALID (n : Nat) : Fld := ⟨0x0E50 + 4 * (n / 4), 8 * (n % 4) + 7, 1⟩
abbrev STAT_SPARE_COUNT : Fld := ⟨0x0E60, 0, 7⟩
abbrev BIL_CTRL_CLOSE_A : Fld := ⟨0x1000, 0, 1⟩
abbrev BIL_CTRL_CLOSE_B : Fld := ⟨0x1000, 1, 1⟩
abbrev BIL_CTRL_TCLR : Fld := ⟨0x1000, 2, 1⟩
abbrev BIL_CFG_DEM_L (n : Nat) : Fld := ⟨0x1008 + 4 * n, 0, 3⟩
abbrev BIL_CFG_NSUB (n : Nat) : Fld := ⟨0x1008 + 4 * n, 4, 4⟩
abbrev BIL_CFG_BMODE (n : Nat) : Fld := ⟨0x1008 + 4 * n, 8, 2⟩
abbrev BIL_CFG_BDAY (n : Nat) : Fld := ⟨0x1008 + 4 * n, 16, 5⟩
abbrev BIL_STAT_TARIFF (n : Nat) : Fld := ⟨0x1010 + 4 * n, 0, 4⟩
abbrev BIL_STAT_HOLD (n : Nat) : Fld := ⟨0x1010 + 4 * n, 4, 1⟩
abbrev BIL_STAT_PERIOD (n : Nat) : Fld := ⟨0x1010 + 4 * n, 16, 16⟩
abbrev BIL_DONE_LO_FRAC (n : Nat) : Fld := ⟨0x1018 + 8 * n, 0, 32⟩
abbrev BIL_DONE_HI_SEC (n : Nat) : Fld := ⟨0x101C + 8 * n, 0, 32⟩
abbrev BIL_ERR_CFG_RUNNING : Fld := ⟨0x1028, 0, 1⟩
abbrev BIL_ERR_CFG_INVALID : Fld := ⟨0x1028, 1, 1⟩
abbrev BIL_ERR_CAL_INVALID : Fld := ⟨0x1028, 2, 1⟩
abbrev BIL_ERR_ACT_PAST : Fld := ⟨0x1028, 3, 1⟩
abbrev BIL_ERR_TCLR_RUNNING : Fld := ⟨0x1028, 4, 1⟩
abbrev BIL_ERR_SPLIT_BAD : Fld := ⟨0x1028, 5, 1⟩
abbrev BIL_CAL_ADDR_ADDR : Fld := ⟨0x1040, 0, 9⟩
abbrev BIL_CAL_ADDR_SEL : Fld := ⟨0x1040, 16, 1⟩
abbrev BIL_CAL_DATA_DATA : Fld := ⟨0x1044, 0, 32⟩
abbrev BIL_CAL_CTRL_PCOMMIT : Fld := ⟨0x1048, 0, 1⟩
abbrev BIL_CAL_CTRL_PVALID : Fld := ⟨0x1048, 1, 1⟩
abbrev BIL_CAL_CTRL_AVALID : Fld := ⟨0x1048, 2, 1⟩
abbrev BIL_CAL_CTRL_AID : Fld := ⟨0x1048, 16, 16⟩
abbrev BIL_PCAL_ACT_LO_FRAC : Fld := ⟨0x1050, 0, 32⟩
abbrev BIL_PCAL_ACT_HI_SEC : Fld := ⟨0x1054, 0, 32⟩
abbrev BIL_SEL_KIND : Fld := ⟨0x1060, 0, 2⟩
abbrev BIL_SEL_GROUP : Fld := ⟨0x1060, 2, 1⟩
abbrev BIL_SEL_TARIFF : Fld := ⟨0x1060, 4, 3⟩
abbrev BIL_SEL_QTY : Fld := ⟨0x1060, 8, 3⟩
abbrev BIL_SEL_SNAP : Fld := ⟨0x1060, 12, 4⟩
abbrev BIL_VAL0_V0 : Fld := ⟨0x1064, 0, 32⟩
abbrev BIL_VAL1_V1 : Fld := ⟨0x1068, 0, 32⟩
abbrev BIL_VAL2_V2 : Fld := ⟨0x106C, 0, 32⟩
abbrev BIL_VAL3_V3 : Fld := ⟨0x1070, 0, 32⟩
abbrev BIL_VAL4_PERIOD : Fld := ⟨0x1074, 0, 16⟩
abbrev BIL_VAL4_VALID : Fld := ⟨0x1074, 16, 1⟩
abbrev BIL_VAL4_POISON : Fld := ⟨0x1074, 17, 1⟩
abbrev BIL_SNAP_COUNT (n : Nat) : Fld := ⟨0x1080 + 4 * n, 0, 4⟩
abbrev BIL_SNAP_PERIOD (n : Nat) : Fld := ⟨0x1080 + 4 * n, 16, 16⟩
abbrev RING_TABLE_BASE_LO_BASE : Fld := ⟨0x1400, 12, 20⟩
abbrev RING_TABLE_BASE_HI_BASE : Fld := ⟨0x1404, 0, 32⟩
abbrev RING_ENABLE_LO_EN : Fld := ⟨0x1408, 0, 32⟩
abbrev RING_ENABLE_HI_EN : Fld := ⟨0x140C, 0, 32⟩
abbrev RING_ON_LO_ON : Fld := ⟨0x1410, 0, 32⟩
abbrev RING_ON_HI_ON : Fld := ⟨0x1414, 0, 32⟩
abbrev RING_HALT_LO_HALT : Fld := ⟨0x1418, 0, 32⟩
abbrev RING_HALT_HI_HALT : Fld := ⟨0x141C, 0, 32⟩
abbrev LINK_STAT_WIDTH : Fld := ⟨0x1420, 0, 2⟩
abbrev LINK_STAT_SPEED : Fld := ⟨0x1420, 2, 2⟩
abbrev LINK_STAT_UP : Fld := ⟨0x1420, 4, 1⟩
abbrev LINK_STAT_SERVED : Fld := ⟨0x1420, 5, 1⟩
abbrev LINK_STAT_LOST : Fld := ⟨0x1420, 6, 1⟩
abbrev LINK_STAT_L1 : Fld := ⟨0x1420, 7, 1⟩
abbrev DMA_CFG_CTO : Fld := ⟨0x1424, 0, 3⟩
abbrev DMA_CFG_W2EN : Fld := ⟨0x1424, 3, 1⟩
abbrev RESERVE_STAT_USED : Fld := ⟨0x1428, 0, 9⟩
abbrev RESERVE_STAT_HWM : Fld := ⟨0x1428, 16, 9⟩
abbrev HOST_ERR_BADACC : Fld := ⟨0x142C, 0, 1⟩
abbrev HOST_ERR_DB_OFF : Fld := ⟨0x142C, 1, 1⟩
abbrev HOST_ERR_W2_MISS : Fld := ⟨0x142C, 2, 1⟩
abbrev HOST_ERR_CTO : Fld := ⟨0x142C, 3, 1⟩
abbrev HOST_ERR_UR_RX : Fld := ⟨0x142C, 4, 1⟩
abbrev HOST_ERR_POISON_RX : Fld := ⟨0x142C, 5, 1⟩
abbrev RING_STAT_STATE (n : Nat) : Fld := ⟨0x1500 + 4 * n, 0, 2⟩
abbrev RING_STAT_ERR (n : Nat) : Fld := ⟨0x1500 + 4 * n, 8, 8⟩
abbrev RING_STAT_CLASS (n : Nat) : Fld := ⟨0x1500 + 4 * n, 16, 4⟩
abbrev MBOX_CMD_CMD (n : Nat) : Fld := ⟨0x1600 + 4 * n, 0, 32⟩
abbrev MBOX_CTRL_GO : Fld := ⟨0x1640, 0, 1⟩
abbrev MBOX_STATUS_BUSY : Fld := ⟨0x1644, 0, 1⟩
abbrev MBOX_STATUS_DONE : Fld := ⟨0x1644, 1, 1⟩
abbrev MBOX_STATUS_REJECT : Fld := ⟨0x1644, 2, 1⟩
abbrev MBOX_STATUS_STATUS : Fld := ⟨0x1644, 8, 8⟩
abbrev MBOX_DETAIL_DETAIL : Fld := ⟨0x1648, 0, 32⟩
abbrev MBOX_DATA_DATA (n : Nat) : Fld := ⟨0x1700 + 4 * n, 0, 32⟩
abbrev BANK_OWNER_OWNER (n : Nat) : Fld := ⟨0x1800 + 4 * (n / 8), 4 * (n % 8) + 0, 3⟩
abbrev BANK_OWNER_CLR (n : Nat) : Fld := ⟨0x1800 + 4 * (n / 8), 4 * (n % 8) + 3, 1⟩
abbrev BANK_PWR_STATE (n : Nat) : Fld := ⟨0x1820 + 4 * (n / 16), 2 * (n % 16) + 0, 2⟩
abbrev BANK_PEND_LO_PEND : Fld := ⟨0x1830, 0, 32⟩
abbrev BANK_PEND_HI_PEND : Fld := ⟨0x1834, 0, 32⟩
abbrev BANK_ERR_INUSE : Fld := ⟨0x1838, 0, 1⟩
abbrev BANK_ERR_PENDING : Fld := ⟨0x1838, 1, 1⟩
abbrev BANK_ERR_BADCODE : Fld := ⟨0x1838, 2, 1⟩
abbrev BANK_ERR_CW_INVALID : Fld := ⟨0x1838, 3, 1⟩
abbrev BANK_ERR_CW_BUSY : Fld := ⟨0x1838, 4, 1⟩
abbrev CW_CFG_FIRST (n : Nat) : Fld := ⟨0x1880 + 8 * n, 0, 6⟩
abbrev CW_CFG_COUNT (n : Nat) : Fld := ⟨0x1880 + 8 * n, 8, 7⟩
abbrev CW_CFG_EN (n : Nat) : Fld := ⟨0x1880 + 8 * n, 31, 1⟩
abbrev CW_STAT_MEMBERS (n : Nat) : Fld := ⟨0x1884 + 8 * n, 0, 7⟩
abbrev CW_STAT_INUSE (n : Nat) : Fld := ⟨0x1884 + 8 * n, 7, 1⟩
abbrev MTEST_CTRL_EN : Fld := ⟨0x1900, 0, 1⟩
abbrev MTEST_STAT_BANK : Fld := ⟨0x1904, 0, 6⟩
abbrev MTEST_STAT_REGION : Fld := ⟨0x1904, 6, 7⟩
abbrev MTEST_STAT_ACTIVE : Fld := ⟨0x1904, 13, 1⟩
abbrev MTEST_PASS_COUNT : Fld := ⟨0x1908, 0, 32⟩
abbrev MTEST_DEFER_COUNT : Fld := ⟨0x190C, 0, 32⟩
abbrev MTEST_FAIL_BANK : Fld := ⟨0x1910, 0, 6⟩
abbrev MTEST_FAIL_WORD : Fld := ⟨0x1910, 6, 13⟩
abbrev MTEST_FAIL_BIT : Fld := ⟨0x1910, 19, 9⟩
abbrev MTEST_FAIL_VALID : Fld := ⟨0x1910, 31, 1⟩
abbrev ABP_CFG_EN : Fld := ⟨0x1940, 0, 1⟩
abbrev ABP_CFG_WMODE : Fld := ⟨0x1940, 1, 1⟩
abbrev ABP_CFG_WIN : Fld := ⟨0x1940, 4, 4⟩
abbrev ABP_MAP_BANK (n : Nat) : Fld := ⟨0x1944 + 4 * (n / 4), 8 * (n % 4) + 0, 6⟩
abbrev ABP_MAP_EN (n : Nat) : Fld := ⟨0x1944 + 4 * (n / 4), 8 * (n % 4) + 7, 1⟩
abbrev ABP_ERR_MISS : Fld := ⟨0x1954, 0, 1⟩
abbrev ABP_ERR_UE : Fld := ⟨0x1954, 1, 1⟩
abbrev ABP_ERR_COLL : Fld := ⟨0x1954, 2, 1⟩
abbrev ABP_ERR_WINLOST : Fld := ⟨0x1954, 3, 1⟩
abbrev ABP_COLL_COUNT : Fld := ⟨0x1958, 0, 32⟩
abbrev ABP_MISS_ADDR_ADDR : Fld := ⟨0x195C, 0, 20⟩
abbrev ABP_MISS_ADDR_WRITE : Fld := ⟨0x195C, 31, 1⟩
abbrev NVM_CTRL_SAVE : Fld := ⟨0x1A00, 0, 1⟩
abbrev NVM_STAT_BUSY : Fld := ⟨0x1A04, 0, 1⟩
abbrev NVM_STAT_CFG_DEFAULT : Fld := ⟨0x1A04, 1, 1⟩
abbrev NVM_STAT_CAL_DEFAULT : Fld := ⟨0x1A04, 2, 1⟩
abbrev NVM_STAT_CFG_COPY : Fld := ⟨0x1A04, 3, 1⟩
abbrev NVM_STAT_DEGRADED : Fld := ⟨0x1A04, 4, 1⟩
abbrev NVM_STAT_QDEPTH : Fld := ⟨0x1A04, 8, 8⟩
abbrev NVM_ERR_VERIFY : Fld := ⟨0x1A08, 0, 1⟩
abbrev NVM_ERR_CFG_LOST : Fld := ⟨0x1A08, 1, 1⟩
abbrev NVM_ERR_JOURNAL_AHEAD : Fld := ⟨0x1A08, 2, 1⟩
abbrev NVM_CKSEQ_SEQ : Fld := ⟨0x1A0C, 0, 32⟩
abbrev NVM_LGSTAT_RESULT : Fld := ⟨0x1A10, 0, 2⟩
abbrev NVM_LGSTAT_AGE : Fld := ⟨0x1A10, 16, 16⟩
abbrev NVM_TSAVE_LO_FRAC : Fld := ⟨0x1A14, 0, 32⟩
abbrev NVM_TSAVE_HI_SEC : Fld := ⟨0x1A18, 0, 32⟩
abbrev NVM_CE_COUNT : Fld := ⟨0x1A1C, 0, 32⟩
abbrev NVM_UE_COUNT : Fld := ⟨0x1A20, 0, 32⟩
abbrev NVM_RETIRED_PAGE : Fld := ⟨0x1A24, 0, 11⟩
abbrev NVM_RETIRED_COUNT : Fld := ⟨0x1A24, 16, 16⟩
abbrev SLICE_STAT_ACTIVE : Fld := ⟨0x1C00, 0, 2⟩
abbrev SLICE_STAT_CHECKER : Fld := ⟨0x1C00, 2, 2⟩
abbrev SLICE_STAT_CADDY : Fld := ⟨0x1C00, 4, 2⟩
abbrev SLICE_STAT_FENCED : Fld := ⟨0x1C00, 8, 3⟩
abbrev SLICE_STAT_SWITCHING : Fld := ⟨0x1C00, 12, 1⟩
abbrev SLICE_STAT_UNCOMPARED : Fld := ⟨0x1C00, 13, 1⟩
abbrev SLICE_STAT_LOST : Fld := ⟨0x1C00, 14, 1⟩
abbrev SLICE_CTRL_TRIAL : Fld := ⟨0x1C04, 0, 1⟩
abbrev SLICE_ERR_TRIAL_REFUSED : Fld := ⟨0x1C08, 0, 1⟩
abbrev SLICE_ERR_CKPT_FALLBACK : Fld := ⟨0x1C08, 1, 1⟩
abbrev SLICE_ERR_CADDY_FAIL : Fld := ⟨0x1C08, 2, 1⟩
abbrev SLICE_SWCNT_COUNT : Fld := ⟨0x1C0C, 0, 16⟩
abbrev SLICE_SWCNT_TRIALS : Fld := ⟨0x1C0C, 16, 16⟩
abbrev SLICE_LAST_CAUSE : Fld := ⟨0x1C10, 0, 3⟩
abbrev SLICE_LAST_OLD_ACTIVE : Fld := ⟨0x1C10, 4, 2⟩
abbrev SLICE_LAST_OLD_CHECKER : Fld := ⟨0x1C10, 6, 2⟩
abbrev SLICE_LAST_PASS : Fld := ⟨0x1C10, 8, 3⟩
abbrev SLICE_LAST_RESTART : Fld := ⟨0x1C10, 11, 1⟩
abbrev SLICE_LAST_GAP_US : Fld := ⟨0x1C10, 16, 16⟩
abbrev SLICE_LAST_T_LO_FRAC : Fld := ⟨0x1C14, 0, 32⟩
abbrev SLICE_LAST_T_HI_SEC : Fld := ⟨0x1C18, 0, 32⟩
abbrev SLICE_MISMATCH_PORT : Fld := ⟨0x1C1C, 0, 4⟩
abbrev SLICE_MISMATCH_GROUP : Fld := ⟨0x1C1C, 4, 1⟩
abbrev SLICE_CKSEQ_SEQ : Fld := ⟨0x1C20, 0, 32⟩
abbrev SLICE_RPLY_DEPTH_US : Fld := ⟨0x1C24, 0, 16⟩
abbrev SLICE_RPLY_BACKLOG_MAX : Fld := ⟨0x1C24, 16, 16⟩
abbrev SEC_STAT_KEY : Fld := ⟨0x1D00, 0, 2⟩
abbrev SEC_STAT_OWNER : Fld := ⟨0x1D00, 2, 1⟩
abbrev SEC_STAT_SESSION : Fld := ⟨0x1D00, 3, 1⟩
abbrev SEC_STAT_SPORT : Fld := ⟨0x1D00, 4, 1⟩
abbrev SEC_STAT_LOCK : Fld := ⟨0x1D00, 5, 1⟩
abbrev SEC_STAT_DBG : Fld := ⟨0x1D00, 6, 1⟩
abbrev SEC_STAT_TRNG_OK : Fld := ⟨0x1D00, 7, 1⟩
abbrev SEC_STAT_SIGQ : Fld := ⟨0x1D00, 16, 8⟩
abbrev SEC_ERR_AUTH : Fld := ⟨0x1D04, 0, 1⟩
abbrev SEC_ERR_NONCE : Fld := ⟨0x1D04, 1, 1⟩
abbrev SEC_ERR_NO_OWNER : Fld := ⟨0x1D04, 2, 1⟩
abbrev SEC_ERR_OWNER_SET : Fld := ⟨0x1D04, 3, 1⟩
abbrev SEC_ERR_SESSION_BUSY : Fld := ⟨0x1D04, 4, 1⟩
abbrev SEC_ERR_TRNG_FAIL : Fld := ⟨0x1D04, 5, 1⟩
abbrev SEC_ERR_LOCKED : Fld := ⟨0x1D04, 6, 1⟩
abbrev SEC_ERR_SEAL_CFG : Fld := ⟨0x1D04, 7, 1⟩
abbrev SEC_ERR_SESS_TIMEOUT : Fld := ⟨0x1D04, 8, 1⟩
abbrev SEC_ERR_NO_SESSION : Fld := ⟨0x1D04, 9, 1⟩
abbrev SEC_NONCE_NONCE (n : Nat) : Fld := ⟨0x1D10 + 4 * n, 0, 32⟩
abbrev SEC_SESSION_NUMBER : Fld := ⟨0x1D20, 0, 32⟩
abbrev SEC_SESS_T_LEFT : Fld := ⟨0x1D24, 0, 16⟩
abbrev SEC_SESS_T_CHANGES : Fld := ⟨0x1D24, 16, 16⟩
abbrev SEC_MCOUNT_LO_COUNT : Fld := ⟨0x1D28, 0, 32⟩
abbrev SEC_MCOUNT_HI_COUNT : Fld := ⟨0x1D2C, 0, 32⟩
abbrev SEC_SEAL_CFG_AGE : Fld := ⟨0x1D30, 0, 8⟩
abbrev SEC_SEAL_CFG_COUNT : Fld := ⟨0x1D30, 16, 9⟩
abbrev SEC_SIGCNT_COUNT : Fld := ⟨0x1D34, 0, 32⟩
abbrev SEC_CERT_LEN_LEN : Fld := ⟨0x1D38, 0, 13⟩
abbrev SEC_OWNER_PFX_PFX : Fld := ⟨0x1D3C, 0, 8⟩
abbrev SEC_OWNER_X (n : Nat) : Fld := ⟨0x1D40 + 4 * n, 0, 32⟩
abbrev SEC_DEVX_X (n : Nat) : Fld := ⟨0x1D60 + 4 * n, 0, 32⟩
abbrev SEC_DEVY_Y (n : Nat) : Fld := ⟨0x1D80 + 4 * n, 0, 32⟩
abbrev KET_STAT_LOCK : Fld := ⟨0x1E00, 0, 1⟩
abbrev KET_STAT_ALARM : Fld := ⟨0x1E00, 1, 1⟩
abbrev KET_STAT_ZEROISED : Fld := ⟨0x1E00, 2, 1⟩
abbrev KET_STAT_BUSY : Fld := ⟨0x1E00, 3, 1⟩
abbrev KET_STAT_BIST_BUSY : Fld := ⟨0x1E00, 4, 1⟩
abbrev KET_STAT_RATE_VALID : Fld := ⟨0x1E00, 5, 1⟩
abbrev KET_FLAGS_FLAG : Fld := ⟨0x1E04, 0, 12⟩
abbrev KET_FLAGS_COND : Fld := ⟨0x1E04, 16, 12⟩
abbrev KET_SWCFG_NORM_OPEN : Fld := ⟨0x1E08, 0, 4⟩
abbrev KET_SWCFG_PERIOD : Fld := ⟨0x1E08, 4, 2⟩
abbrev KET_LOOPCFG_MODE : Fld := ⟨0x1E0C, 0, 8⟩
abbrev KET_ENVCFG_TLO : Fld := ⟨0x1E10, 0, 8⟩
abbrev KET_ENVCFG_THI : Fld := ⟨0x1E10, 8, 8⟩
abbrev KET_ENVCFG_VTH : Fld := ⟨0x1E10, 16, 8⟩
abbrev KET_TRIM_TRIM : Fld := ⟨0x1E14, 0, 9⟩
abbrev KET_RATE_RATE : Fld := ⟨0x1E18, 0, 32⟩
abbrev KET_ESEL_SRC : Fld := ⟨0x1E1C, 0, 4⟩
abbrev KET_ECNT_COUNT : Fld := ⟨0x1E20, 0, 16⟩
abbrev KET_ECNT_WCOUNT : Fld := ⟨0x1E20, 16, 8⟩
abbrev KET_EFIRST_LO_FRAC : Fld := ⟨0x1E24, 0, 32⟩
abbrev KET_EFIRST_HI_SEC : Fld := ⟨0x1E28, 0, 32⟩
abbrev KET_ELAST_LO_FRAC : Fld := ⟨0x1E2C, 0, 32⟩
abbrev KET_ELAST_HI_SEC : Fld := ⟨0x1E30, 0, 32⟩
abbrev KET_RTC_LO_SUB : Fld := ⟨0x1E34, 17, 15⟩
abbrev KET_RTC_HI_SEC : Fld := ⟨0x1E38, 0, 32⟩
abbrev KET_PLOSS_LO_FRAC : Fld := ⟨0x1E3C, 0, 32⟩
abbrev KET_PLOSS_HI_SEC : Fld := ⟨0x1E40, 0, 32⟩
abbrev KET_PREST_LO_FRAC : Fld := ⟨0x1E44, 0, 32⟩
abbrev KET_PREST_HI_SEC : Fld := ⟨0x1E48, 0, 32⟩
abbrev KET_PCNT_COUNT : Fld := ⟨0x1E4C, 0, 16⟩
abbrev KET_BIST_CTRL_MASK : Fld := ⟨0x1E50, 0, 12⟩
abbrev KET_BIST_CTRL_GO : Fld := ⟨0x1E50, 16, 1⟩
abbrev KET_BIST_RES_PASS : Fld := ⟨0x1E54, 0, 12⟩
abbrev KET_BIST_RES_TESTED : Fld := ⟨0x1E54, 16, 12⟩
abbrev KET_BIST_RES_DONE : Fld := ⟨0x1E54, 28, 1⟩
abbrev KET_ASENSE_LOOP : Fld := ⟨0x1E58, 0, 2⟩
abbrev KET_ASENSE_EN : Fld := ⟨0x1E58, 2, 1⟩
abbrev KET_SRC_EN (n : Nat) : Fld := ⟨0x1E80 + 4 * n, 0, 1⟩
abbrev KET_SRC_ALARM (n : Nat) : Fld := ⟨0x1E80 + 4 * n, 1, 2⟩
abbrev KET_SRC_LOCK (n : Nat) : Fld := ⟨0x1E80 + 4 * n, 3, 1⟩
abbrev KET_SRC_ZERO (n : Nat) : Fld := ⟨0x1E80 + 4 * n, 4, 1⟩
abbrev KET_SRC_N (n : Nat) : Fld := ⟨0x1E80 + 4 * n, 8, 8⟩
abbrev KET_SRC_W (n : Nat) : Fld := ⟨0x1E80 + 4 * n, 16, 12⟩
abbrev ARB_CTRL_CNT_EN : Fld := ⟨0x1F00, 0, 1⟩
abbrev ARB_CTRL_CNT_CLR : Fld := ⟨0x1F00, 1, 1⟩
abbrev ARB_CTRL_LAT_CLR : Fld := ⟨0x1F00, 2, 1⟩
abbrev ARB_WEIGHT_RT_W (n : Nat) : Fld := ⟨0x1F04, 4 * n, 4⟩
abbrev ARB_WEIGHT_BK_W (n : Nat) : Fld := ⟨0x1F08, 4 * n, 4⟩
abbrev ARB_ERR_WEIGHT : Fld := ⟨0x1F0C, 0, 1⟩
abbrev ARB_SEL_TARGET : Fld := ⟨0x1F10, 0, 7⟩
abbrev ARB_CNT_COUNT (n : Nat) : Fld := ⟨0x1F20 + 4 * n, 0, 32⟩
abbrev ARB_LAT_MAX (n : Nat) : Fld := ⟨0x1F60 + 4 * n, 0, 16⟩
abbrev ARB_LAT_AGED (n : Nat) : Fld := ⟨0x1F60 + 4 * n, 16, 16⟩
abbrev ARB_BOUND_BOUND (n : Nat) : Fld := ⟨0x1F90 + 4 * n, 0, 16⟩
abbrev ARB_STAT_LASTGASP : Fld := ⟨0x1FC0, 0, 1⟩
abbrev ARB_STAT_RESV : Fld := ⟨0x1FC0, 8, 4⟩

end Sys2Proof.Machine
end

