-- ==== Sys2Proof/Machine/SMap.lean ====
section
/-! DEFINITION. A sparse map from keys to values in ONE canonical form: keys strictly rising, and no entry equal to what
an unlisted key reads as. Register fields, bank memory, the non-volatile store and the statistics tables are held so. -/

namespace Sys2Proof.Machine

/-- A sparse map: listed (key, value) pairs, keys strictly rising. -/
abbrev SMap (α : Type) := List (Nat × α)

/-- The value at a key: the listed one, or the default `d k` of an unlisted key. -/
def SMap.get {α : Type} (d : Nat → α) : SMap α → Nat → α
  | [], k => d k
  | (a, v) :: m, k => if a = k then v else SMap.get d m k

/-- The map without the entry of a key. -/
def SMap.erase {α : Type} : SMap α → Nat → SMap α
  | [], _ => []
  | (a, v) :: m, k => if a = k then SMap.erase m k else (a, v) :: SMap.erase m k

/-- Insert an entry before the first larger key. -/
def SMap.insert {α : Type} : SMap α → Nat → α → SMap α
  | [], k, v => [(k, v)]
  | (a, w) :: m, k, v => if k < a then (k, v) :: (a, w) :: m else (a, w) :: SMap.insert m k v

/-- Put a value at a key; writing what an unlisted key reads as removes the entry. -/
def SMap.set {α : Type} [DecidableEq α] (d : Nat → α) (m : SMap α) (k : Nat) (v : α) : SMap α :=
  if v = d k then SMap.erase m k else SMap.insert (SMap.erase m k) k v

/-- The canonical form from a least key on. -/
def SMap.wfFrom {α : Type} [DecidableEq α] (d : Nat → α) : Nat → SMap α → Bool
  | _, [] => true
  | lo, (a, v) :: m => decide (lo ≤ a) && decide (v ≠ d a) && SMap.wfFrom d (a + 1) m

/-- The canonical form of a whole map. -/
def SMap.wf {α : Type} [DecidableEq α] (d : Nat → α) (m : SMap α) : Bool := SMap.wfFrom d 0 m

/-- Remove every entry whose key lies in [lo, lo + n): those keys read their defaults again. -/
def SMap.clearRange {α : Type} (m : SMap α) (lo n : Nat) : SMap α :=
  m.filter (fun e => decide (e.1 < lo) || decide (lo + n ≤ e.1))

/-- A memory as plain data: the bytes that differ from 0, by address. -/
abbrev Memory := SMap Byte

/-- The canonical form of a memory: addresses strictly rising, and no listed byte equal to 0, which an unlisted
address reads as. -/
def Memory.wf (m : Memory) : Bool := SMap.wf (fun _ => 0) m

end Sys2Proof.Machine
end

