-- ==== Sys2Proof/Syntax.lean ====
section
/-! DEFINITION. The commands of the block: one constructor for each row of the spec's command table. The table gives the
rows no operands, so the operands are the model's own (log entry 1): what reaches the device from outside with the
command (a written word, a sample, a pulse width, the bytes of a ring entry), or the outcome of an analogue or numeric
unit that the model does not compute (log entries 20 and 21). -/

namespace Sys2Proof

/-- The two register ports (R278). -/
inductive Port where
  | pcie | spi
  deriving DecidableEq, Repr

/-- The levels of the strap balls, and of TESTEN, at a release (R38, R39). -/
structure Straps where
  mode : Fin 4
  iov0 : Bool
  iov1 : Bool
  coreclkSel : Bool
  testen : Bool := false
  deriving DecidableEq, Repr

/-- What a read of host memory by DMA gives (R296). -/
inductive DmaRead where
  | data (bytes : List Byte)
  | failed
  deriving DecidableEq, Repr

/-- How a read of the device failed: its completion timed out, came with Unsupported Request or Completer Abort, or was poisoned
(R296, Table 12-8). -/
inductive DmaFail where
  | timeout | unsupported | poisoned
  deriving DecidableEq, Repr

/-- Which read of the device failed (R296, Table 12-5). -/
inductive DmaReadOf where
  | command | buffer | ringEntry (n : Fin 64)
  deriving DecidableEq, Repr

/-- What the DEC-TED decoder finds in a word it reads (R343 to R345). -/
inductive Ecc where
  | ok | corrected | uncorrectable | misdelivered
  deriving DecidableEq, Repr

/-- A JTAG instruction (R454, R455); `debug` is the group of locked debug instructions. -/
inductive JtagIr where
  | idcode | bypass | samplePreload | extest | clamp | secchal | debug
  deriving DecidableEq, Repr

/-- A request that a fabric master presents: master, target code, 0 read, 1 write, 2 partial write (R351). -/
structure FabPresent where
  master : Fin 12
  target : Nat
  kind : Fin 3
  deriving DecidableEq, Repr

/-- The fundamental of a phase over a cycle, as the slice forms it (Table 7-1): P1, Q1 and |V1| × |I1|. -/
structure Phasor where
  p1 : Rat := 0
  q1 : Rat := 0
  vi : Rat := 0
  deriving DecidableEq, Repr

/-- What reaches a channel's decimation chain in the modulator periods of an output period, oldest first (log entry 20): the
differential input at the balls in volts, in runs of equal periods (R58, R61, R89); under a profile F0 to F5, whose ROM
coefficients are not given (R79), the filter's response in volts for the sample; and the codes by which modulator and chain depart
from R58 (noise, rounding, a stuck modulator). -/
structure ChIn where
  volts : List (Rat × Nat) := []
  value : Rat := 0
  noise : Int := 0
  deriving DecidableEq, Repr

/-- The outcome of a pair's self-calibration (Table 5-9): offsets in 1/16 code, gains with 0x8000 = 1, trim in 0.5 ps,
residual skew in 0.1 ps. -/
structure SarRes where
  offA : Int
  gainA : Nat
  offB : Int
  gainB : Nat
  trim : Int
  resid : Nat
  deriving DecidableEq, Repr

/-- The outcome of the house converter's self-calibration: offset in 1/16 code, gain, whether it passed. -/
structure HsarRes where
  off : Int
  gain : Nat
  ok : Bool
  deriving DecidableEq, Repr

/-- A register of the fast path (Table 5-8). -/
inductive FastReg where
  | lvl (n : Fin 8) | dvdt (n : Fin 8) | pinCtrl | pinCfg
  deriving DecidableEq, Repr

/-- What an uncorrectable word held (Table 14-6): samples of a channel or of a transient input, in the FIFO before CORE or
in the replay ring, captured samples, SPEC data of channels of a group's oldest window or of an input's run, running sums of a
level by value key, 32-byte payload spans of a record in the reserve (its place in the ring's queue) or of the record staged next. -/
inductive UeHit where
  | samples (n : Fin 16) (si count : Nat) (fifo : Bool)
  | transient (n : Fin 8) (idx count : Nat)
  | capture (src : Fin 24) (idx count : Nat)
  | spec (g : Fin 2) (chans : BitVec 8)
  | supra (n : Fin 8)
  | running (g : Fin 2) (level : Fin 3) (keys : List Nat)
  | reserve (ring : Fin 64) (item : Nat) (spans : List Nat)
  | staged (ring : Fin 64) (spans : List Nat)
  deriving DecidableEq, Repr

/-- The commands, in the order of the spec's table. -/
inductive Instr where
  /-- POWER_ON_RESET (R43). -/
  | powerOnReset (ns : Nat)
  /-- POR_SUPPLIES_SETTLED (R43). -/
  | porSuppliesSettled
  /-- RESET_N_ASSERT (R480). -/
  | resetNAssert (ns : Nat)
  /-- PERST_N_ASSERT (R271). -/
  | perstNAssert (ns : Nat)
  /-- HOT_RESET (R271). -/
  | hotReset
  /-- FULL_RESET_SAVE_DONE (R480). -/
  | fullResetSaveDone
  /-- RESET_RELEASE (R483). -/
  | resetRelease (straps : Straps)
  /-- STARTUP_READY (R484). -/
  | startupReady (t : Nat) (badBanks : List (Fin 64)) (badLanes : List (Fin 2))
  /-- PFI_REGISTER (R52). -/
  | pfiRegister (ns : Nat)
  /-- LAST_GASP_SAVE_DONE (R517). -/
  | lastGaspSaveDone
  /-- PFI_RELEASE_RESTART (R409). -/
  | pfiReleaseRestart
  /-- REFCLK_STOP (R15). -/
  | refclkStop
  /-- CORE_PLL_RELOCK (R15). -/
  | corePllRelock
  /-- DECIMATOR_OUTPUT_SAMPLE (R14). -/
  | decimatorOutputSample (g : Fin 2) (xs : List ChIn) (vref : Rat)
  /-- CORE_STALL_GAP_RECORD (R16). -/
  | coreStallGapRecord (n : Fin 24)
  /-- FIRST_SAMPLE_DELIVERED (R82). -/
  | firstSampleDelivered (g : Fin 2) (xs : List ChIn) (vref : Rat)
  /-- STUCK_MODULATOR_FENCE (R78). -/
  | stuckModulatorFence (n : Fin 16)
  /-- THRESHOLD_ASSERT (R90). -/
  | thresholdAssert (n : Fin 16) (low : Bool)
  /-- THRESHOLD_DEASSERT (R90). -/
  | thresholdDeassert (n : Fin 16) (low : Bool)
  /-- THRESHOLD_REG_WRITE (R92). -/
  | thresholdRegWrite (n : Fin 16) (r : Fin 3) (value : Word)
  /-- AFE_CH_CFG_WRITE (R63). -/
  | afeChCfgWrite (port : Port) (n : Fin 16) (value : Word)
  /-- AFE_REF_SEL_WRITE (R74). -/
  | afeRefSelWrite (port : Port) (value : Word)
  /-- REF_READY (R75). -/
  | refReady
  /-- AFE_CHECK_GO (R69). -/
  | afeCheckGo (value : Word)
  /-- CHECK_SELECTOR_MOVE (R69). -/
  | checkSelectorMove (codes : List (List Int))
  /-- AFE_CHECK_DONE (R69). -/
  | afeCheckDone (codes : List (List Int))
  /-- PROF_CFG_WRITE (R83). -/
  | profCfgWrite (port : Port) (n : Fin 16) (value : Word)
  /-- START (R294). -/
  | start
  /-- STOP (R294). -/
  | stop
  /-- TSAR_ENABLE (R103). -/
  | tsarEnable (pairs : BitVec 8)
  /-- TSAR_PAIR_START (R103). -/
  | tsarPairStart (n : Fin 8) (t : Nat) (x : Int)
  /-- TSAR_DISABLE (R103). -/
  | tsarDisable (pairs : BitVec 8)
  /-- TSAR_PAIR_STOP (R103). -/
  | tsarPairStop (n : Fin 8)
  /-- TRANSIENT_SAMPLE (R100). -/
  | transientSample (n : Fin 8) (x : Int)
  /-- FASTEVT_HOLD_EXPIRE (R112). -/
  | fastevtHoldExpire (m : Fin 2)
  /-- TRANSIENT_ANCHOR_LATCH (R104). -/
  | transientAnchorLatch (n : Fin 8) (t : Nat)
  /-- TSAR_MAP_WRITE (R105). -/
  | tsarMapWrite (value : Word)
  /-- SARCAL_GO (R106). -/
  | sarcalGo (value : Word)
  /-- SARCAL_DONE (R106). -/
  | sarcalDone (pairs : List SarRes) (house : HsarRes) (temp : Int)
  /-- HSAR_PASS_TICK (R116). -/
  | hsarPassTick
  /-- HSAR_CONVERSION_DONE (R116). -/
  | hsarConversionDone (value : Int)
  /-- HSAR_FILTER_PUBLISH (R121). -/
  | hsarFilterPublish (i : Fin 32)
  /-- HSAR_URGENT_GO (R118). -/
  | hsarUrgentGo (value : Word)
  /-- HSAR_URGENT_DONE (R118). -/
  | hsarUrgentDone (value : Int)
  /-- HSAR_SEQ_WRITE (R122). -/
  | hsarSeqWrite (i : Option (Fin 32)) (value : Word)
  /-- PPS_EDGE (R130). -/
  | ppsEdge (t : Nat)
  /-- SLEW_END (R130). -/
  | slewEnd
  /-- HOLDOVER_ENTRY (R131). -/
  | holdoverEntry
  /-- SET_TIME_NOW (R132). -/
  | setTimeNow (block : List Byte)
  /-- SET_TIME_AT_PPS (R132). -/
  | setTimeAtPps (block : List Byte)
  /-- AT_PPS_TIMEOUT (R132). -/
  | atPpsTimeout
  /-- SET_TIME_OFFSET (R132). -/
  | setTimeOffset (block : List Byte)
  /-- SET_TIME_LEAP (R135). -/
  | setTimeLeap (block : List Byte)
  /-- SHADOW_SPAN_END (R134). -/
  | shadowSpanEnd
  /-- LEAP_SECOND (R135). -/
  | leapSecond
  /-- XO_HALT (R142). -/
  | xoHalt
  /-- XO_RESUME (R143). -/
  | xoResume
  /-- HALT_TIME_RELOAD (R143). -/
  | haltTimeReload (cycles : Nat)
  /-- TPLL_UNLOCK (R500). -/
  | tpllUnlock
  /-- TPLL_RELOCK (R500). -/
  | tpllRelock
  /-- CYCLE_BOUNDARY (R147). -/
  | cycleBoundary (g : Fin 2) (t : Nat) (rot : List Rat) (amp freq : Nat)
  /-- HALF_CYCLE_BOUNDARY (R148). -/
  | halfCycleBoundary (g : Fin 2) (t : Nat)
  /-- FREQ_10S_CLOSE (R138). -/
  | freq10sClose (g : Fin 2)
  /-- RESAMPLER_WINDOW_END (R140). -/
  | resamplerWindowEnd (g : Fin 2) (t : Nat) (pts : List (List Rat))
  /-- TEN_MIN_TICK (R140). -/
  | tenMinTick
  /-- ACCUMULATION_STEP_CLOSE (R149). -/
  | accumulationStepClose (g : Fin 2)
  /-- CYCLE_INTERVAL_CLOSE (R224). -/
  | cycleIntervalClose (g : Fin 2)
  /-- STAT_INCREMENT_APPLY (R246). -/
  | statIncrementApply
  /-- STAT_QUEUE_DRAINED (R247). -/
  | statQueueDrained
  /-- STAT_DSEL_WRITE (R248). -/
  | statDselWrite (value : Word)
  /-- STAT_DESC_COMMIT (R239). -/
  | statDescCommit (value : Word)
  /-- SNAPSHOT_STATS (R243). -/
  | snapshotStats
  /-- PERCENTILE (R242). -/
  | percentile
  /-- HARM_RECORD_COMPLETE (R196). -/
  | harmRecordComplete (g : Fin 2)
  /-- SUPRA_RECORD_COMPLETE (R191). -/
  | supraRecordComplete (n : Fin 8) (xs : List (List Rat))
  /-- FLICKER_SETTLE_END (R188). -/
  | flickerSettleEnd (g : Fin 2)
  /-- TRANSIENT_RECORD (R209). -/
  | transientRecord
  /-- TBURST_RECORD (R210). -/
  | tburstRecord (n : Fin 8)
  /-- CAPTURE_ARM (R215). -/
  | captureArm
  /-- CAPTURE_FORCE (R216). -/
  | captureForce
  /-- CAPTURE_WINDOW_END (R219). -/
  | captureWindowEnd
  /-- CAPTURE_READOUT_DONE (R219). -/
  | captureReadoutDone
  /-- MET_ESEL_LATCH (R160). -/
  | metEselLatch (value : Word)
  /-- ENERGY_CLEAR (R159). -/
  | energyClear (port : Port) (value : Word)
  /-- CAL_CONSTANT_WRITE (R161). -/
  | calConstantWrite (port : Port) (n : Fin 16) (r : Fin 3) (value : Word)
  /-- CAL_COMMIT (R161). -/
  | calCommit (port : Port) (value : Word)
  /-- CAL_COMMIT_APPLY (R162). -/
  | calCommitApply (g : Fin 2)
  /-- CF_CFG_WRITE (R170). -/
  | cfCfgWrite (port : Port) (m : Fin 4) (const : Bool) (value : Word)
  /-- CF_PULSE (R168). -/
  | cfPulse (m : Fin 4)
  /-- CF_PULSE_END (R168). -/
  | cfPulseEnd (m : Fin 4)
  /-- TARIFF_CLEAR (R252). -/
  | tariffClear (port : Port) (value : Word)
  /-- BILLING_CLOSE_REQUEST (R261). -/
  | billingCloseRequest (port : Port) (value : Word)
  /-- CALENDAR_WORD_WRITE (R253). -/
  | calendarWordWrite (port : Port) (value : Word)
  /-- CALENDAR_COMMIT (R255). -/
  | calendarCommit (port : Port) (value : Word)
  /-- BIL_SEL_LATCH (R269). -/
  | bilSelLatch (value : Word)
  /-- LINK_TRAINED (R270). -/
  | linkTrained (x2 gen2 : Bool)
  /-- LINK_DOWN (R271). -/
  | linkDown
  /-- LINK_SERVICE_CHANGE (R272). -/
  | linkServiceChange (bme d0 pmeEn clrPme : Bool)
  /-- REGISTER_WRITE (R278). -/
  | registerWrite (off : Nat) (words : List Word) (full : Bool)
  /-- LO_REGISTER_READ (R144). -/
  | loRegisterRead (port : Port) (off n : Nat) (full : Bool)
  /-- BAR2_READ (R279). -/
  | bar2Read (off : Fin 16777216) (n : Fin 513) (ecc : Ecc) (dc : Nat)
  /-- BAR2_WRITE (R279). -/
  | bar2Write (off : Fin 16777216) (bytes : List Byte) (be dc : Nat)
  /-- RING_ENABLE (R284). -/
  | ringEnable (port : Port) (hi : Bool) (mask : Word)
  /-- RING_ENTRY_READ_DONE (R284). -/
  | ringEntryReadDone (n : Fin 64) (res : DmaRead)
  /-- DOORBELL (R288). -/
  | doorbell (n : Fin 64) (index : Word)
  /-- WRITE_BACK (R289). -/
  | writeBack (n : Fin 64)
  /-- RING_INTERRUPT_TIMER (R281). -/
  | ringInterruptTimer (n : Fin 64)
  /-- COMMAND_FETCH (R290). -/
  | commandFetch (entry : List Byte)
  /-- DMA_READ_TIMEOUT (R296). -/
  | dmaReadTimeout (what : DmaReadOf) (how : DmaFail)
  /-- NVM_READ (R402). -/
  | nvmRead (ce : Nat) (ue : List Nat)
  /-- NVM_WRITE (R402). -/
  | nvmWrite (data : List Byte)
  /-- SEAL_NOW (R450). -/
  | sealNow
  /-- OPEN_SEAL_SESSION (R439). -/
  | openSealSession (block : List Byte)
  /-- OWNER_INSTALL (R438). -/
  | ownerInstall (block : List Byte)
  /-- CLOSE_SEAL_SESSION (R441). -/
  | closeSealSession
  /-- SESSION_TIMEOUT (R441). -/
  | sessionTimeout
  /-- READ_CERT (R434). -/
  | readCert
  /-- TAMPER_CLEAR (R474). -/
  | tamperClear (block : List Byte)
  /-- FULL_RESET (R295). -/
  | fullReset
  /-- SPI_FRAME (R297). -/
  | spiFrame (header : Word) (words : List Word) (reads : Nat)
  /-- MAILBOX_GO (R298). -/
  | mailboxGo (port : Port)
  /-- MAILBOX_EXECUTE (R298). -/
  | mailboxExecute (ce : Nat) (ue : List Nat)
  /-- FABRIC_ACCESS_COMPLETE (R352). -/
  | fabricAccessComplete (reqs : List FabPresent) (ecc : Ecc) (word : Nat) (hits : List UeHit)
  /-- REQUEST_AGE_RISE (R357). -/
  | requestAgeRise (m : Fin 12)
  /-- MASTER_WEDGED (R348). -/
  | masterWedged (m : Fin 12)
  /-- WATCHDOG_RESET (R348). -/
  | watchdogReset
  /-- ARB_WEIGHT_WRITE (R360). -/
  | arbWeightWrite (rt : Bool) (value : Word)
  /-- ARB_COUNTER_CLEAR (R368). -/
  | arbCounterClear (cntEn : Bool)
  /-- ARB_LATENCY_CLEAR (R368). -/
  | arbLatencyClear (cntEn : Bool)
  /-- SLICE_CHECKPOINT (R419). -/
  | sliceCheckpoint
  /-- SLICE_MISMATCH (R421). -/
  | sliceMismatch (port : Fin 6) (group : Fin 2) (missing : Bool)
  /-- SLICE_STALL (R417). -/
  | sliceStall (group : Fin 2)
  /-- CADDY_LOADED (R421). -/
  | caddyLoaded
  /-- CADDY_LOAD_TIMEOUT (R426). -/
  | caddyLoadTimeout
  /-- SLICE_SELFTEST_DONE (R421). -/
  | sliceSelftestDone (pass : BitVec 3)
  /-- SWITCHOVER_END (R422). -/
  | switchoverEnd (gapUs backlogUs : Nat)
  /-- SLICE_TRIAL_REQUEST (R430). -/
  | sliceTrialRequest (port : Port) (value : Word)
  /-- BANK_HANDOVER (R373). -/
  | bankHandover (k : Fin 8) (value : Word)
  /-- BANK_HANDOVER_COMPLETE (R373). -/
  | bankHandoverComplete (b : Fin 64)
  /-- BANK_POWER_CHANGE (R377). -/
  | bankPowerChange (k : Fin 4) (value : Word)
  /-- BANK_POWER_CHANGE_COMPLETE (R377). -/
  | bankPowerChangeComplete (b : Fin 64)
  /-- WINDOW_CONFIG_WRITE (R379). -/
  | windowConfigWrite (n : Fin 16) (value : Word)
  /-- MTEST_REGION_START (R381). -/
  | mtestRegionStart
  /-- MTEST_STEP (R382). -/
  | mtestStep (fail : Option (Fin 8192 × Fin 275))
  /-- MTEST_REGION_TIMEOUT (R384). -/
  | mtestRegionTimeout
  /-- ABP_WRITE (R388). -/
  | abpWrite (addr : BitVec 20) (be : BitVec 4) (data : Word) (dc : Nat)
  /-- ABP_READ (R388). -/
  | abpRead (addr : BitVec 20) (be : BitVec 4) (ecc : Ecc) (dc : Nat)
  /-- ABP_ACCESS_COMPLETE (R387). -/
  | abpAccessComplete
  /-- NVM_WRITE_OP_DONE (R394). -/
  | nvmWriteOpDone (fail : Option (Fin 8))
  /-- ENERGY_CHECKPOINT (R403). -/
  | energyCheckpoint
  /-- CONFIG_SAVE (R405). -/
  | configSave
  /-- TRNG_READY (R432). -/
  | trngReady
  /-- TRNG_HEALTH_FAIL (R432). -/
  | trngHealthFail
  /-- SEAL_AGE_TIMER (R446). -/
  | sealAgeTimer (n : Fin 64)
  /-- SEAL_SIGNED (R447). -/
  | sealSigned
  /-- JTAG_SECCHAL (R455). -/
  | jtagSecchal
  /-- DEBUG_CONSENT (R455). -/
  | debugConsent (block : List Byte)
  /-- DEBUG_UNLOCK (R456). -/
  | debugUnlock (block key : List Byte)
  /-- MAIN_POWER_LOSS (R460). -/
  | mainPowerLoss (cycles : Nat)
  /-- MAIN_POWER_RESTORE (R460). -/
  | mainPowerRestore (cycles : Nat)
  /-- KETTLE_COLD_START (R461). -/
  | kettleColdStart
  /-- KETTLE_OFFSET_REFRESH (R459). -/
  | kettleOffsetRefresh (cycles : Nat)
  /-- KETTLE_RATE_MEASURE (R459). -/
  | kettleRateMeasure (counts : Nat)
  /-- TAMPER_SWITCH_SAMPLE (R463). -/
  | tamperSwitchSample (isOpen : BitVec 4) (cycles : Nat)
  /-- TAMPER_LOOP_SAMPLE (R464). -/
  | tamperLoopSample (k : Fin 4) (level : Bool) (cycles : Nat)
  /-- KETTLE_ENV_MEASURE (R466). -/
  | kettleEnvMeasure (temp : Int) (millivolts : Nat) (cycles : Nat)
  /-- ALARM_PULSE_END (R469). -/
  | alarmPulseEnd
  /-- KETTLE_WRITE (R478). -/
  | kettleWrite (port : Port) (off : Fin 256) (value : Word)
  /-- KETTLE_WRITE_COMPLETE (R478). -/
  | kettleWriteComplete (cycles : Nat)
  /-- KETTLE_ASENSE_WRITE (R465). -/
  | kettleAsenseWrite (value : Word)
  /-- KETTLE_BIST_GO (R475). -/
  | kettleBistGo (mask : BitVec 12)
  /-- KETTLE_BIST_DONE (R475). -/
  | kettleBistDone (cycles : Nat)
  /-- INT_STAT_CLEAR (R498). -/
  | intStatClear (value : Word)
  /-- INT_EN_WRITE (R499). -/
  | intEnWrite (value : Word)
  /-- INT_SET (R498). -/
  | intSet (value : Word)
  /-- META_PLL_UNLOCK (R500). -/
  | metaPllUnlock
  /-- CORE_PLL_UNLOCK (R500). -/
  | corePllUnlock
  /-- LINK_L1_TRANSITION (R273). -/
  | linkL1Transition (enter : Bool)
  /-- FAST_COMPARATOR_WRITE (R112). -/
  | fastComparatorWrite (r : FastReg) (value : Word)
  /-- TIME_CTRL_WRITE (R131). -/
  | timeCtrlWrite (port : Port) (value : Word)
  /-- MSI_X_MASK_CHANGE (R280). -/
  | msiXMaskChange (en fmask : Bool) (v : Fin 32) (addr : Nat) (data : Word) (masked : Bool)
  /-- JTAG_INSTRUCTION_LOAD (R454). -/
  | jtagInstructionLoad (ir : JtagIr)
  deriving DecidableEq, Repr

end Sys2Proof
end

