-- ==== Sys2Proof/Machine/State.lean ====
section
/-! DEFINITION. The state of the PS1608 as plain data, its reset value, and the reasons for which a command can stop. -/

namespace Sys2Proof.Machine

/-! ### Records and rings -/

/-- A record as it is formed (R304): everything of its header but SEQ, RING, CHAIN and HCRC, and its payload. -/
structure Rec where
  cls : Nat
  src : Nat
  flags : Nat := 0
  tStart : DevTime
  tEnd : DevTime
  si : Nat := 0
  count : Nat := 0
  aux : Nat := 0
  payload : List Byte := []
  /-- of an aggregate: its defined values for the histograms, (QID, binary32 bits) (R235, R236); no part of the record -/
  vals : List (Nat × Nat) := []
  deriving DecidableEq, Repr

/-- A gap that waits to be written on a lossy stream (R336). -/
structure Gap where
  cause : Nat
  tStart : DevTime
  tEnd : DevTime
  si : Nat
  count : Nat
  deriving DecidableEq, Repr

/-- A stream: one source on one ring (R24, R326). -/
structure Stream where
  src : Nat
  /-- the stream has had its first record since the start-up (R334) -/
  opened : Bool
  /-- the instant up to which the stream's visible records cover its source (R334) -/
  covT : DevTime
  /-- pending gaps, oldest first (R336) -/
  gaps : List Gap
  deriving DecidableEq, Repr

/-- What waits in the lossless reserve (R337, R340): a record with its place, or a SUMMARY with
what it folds and the 32-byte payload spans that an uncorrectable word lost (R345). -/
inductive QItem where
  | placed (seq : Nat) (r : Rec)
  | summary (seq : Nat) (folding : Bool) (recs : List Rec) (bad : List Nat)
  deriving DecidableEq, Repr

/-- Ring states (Table 12-9). -/
inductive RingState where
  | off | on | halted | refused
  deriving DecidableEq, Repr

/-- One ring (R282 to R289, R326 to R340, R444). -/
structure Ring where
  st : RingState := .off
  /-- an enable request waits for its entry (R284) -/
  waiting : Bool := false
  /-- the entry read for a waiting request; its read was retried (R296) -/
  entry : Option DmaRead := none
  retried : Bool := false
  err : Nat := 0
  cls : Nat := 0
  base : Nat := 0
  wb : Nat := 0
  log2 : Nat := 6
  vec : Nat := 0
  irq : Bool := false
  param : Nat := 0
  mod : Nat := 0
  tmo : Nat := 0
  /-- the device's index, the host's index, and the device index that the last write-back showed -/
  dev : Nat := 0
  host : Nat := 0
  pub : Nat := 0
  /-- the index that the last message covered, and when the oldest unsignalled entry became visible (R281) -/
  sig : Nat := 0
  oldest : Option DevTime := none
  /-- lossless records that wait in the reserve, in place order (R337) -/
  q : List QItem := []
  /-- formed records that wait for their order (R329) -/
  hold : List Rec := []
  /-- the chain value after the last record written, and after the last visible one (R445) -/
  chain : List Byte := []
  visChain : List Byte := []
  /-- 32-byte payload spans of the record staged next that an uncorrectable word lost (R345) -/
  bad : List Nat := []
  /-- the SEQ of the next place, of the last record written, and of the last visible record (R330, R331) -/
  nextSeq : Nat := 0
  wSeq : Nat := 0xFFFFFFFF
  lastVis : Nat := 0xFFFFFFFF
  /-- sources and ends of the records written and not yet visible -/
  unvis : List (Nat × DevTime) := []
  /-- BIL records written and not yet visible (R264) -/
  bilU : List Rec := []
  /-- the stored SEQ reservation (R332) -/
  resv : Nat := 0
  /-- the ring halted while the device could issue no memory request: its write-back word is due (R272, R289) -/
  wbDue : Bool := false
  /-- SEQ of the opening record, SEQ_LAST of the last seal since start-up, when the oldest unsealed record became
  visible (R446) -/
  openSeq : Nat := 0
  sealed : Option Nat := none
  sealOld : Option DevTime := none
  /-- the instant at which the ring went on (R285) -/
  onT : DevTime := 0
  streams : List Stream := []
  deriving DecidableEq, Repr

/-- One DMA write or message of the device, as it reaches the host (R275: in the order in which it is issued). -/
inductive DmaWr where
  /-- a record: ring, first index, the bytes of its entries -/
  | record (ring idx : Nat) (bytes : List Byte)
  /-- a write-back word: ring, its 64-bit value (R289) -/
  | writeBack (ring val : Nat)
  /-- an MSI-X message: vector, address, data -/
  | msix (vec addr data : Nat)
  /-- bytes written to a command's BUF -/
  | buffer (addr : Nat) (bytes : List Byte)
  deriving DecidableEq, Repr

/-- One entry of the MSI-X table (R280): address, data, mask bit. -/
structure MsixEntry where
  addr : Nat := 0
  data : Nat := 0
  masked : Bool := true
  deriving DecidableEq, Repr

/-- The endpoint's configuration that rings depend on (R270 to R274, R280). -/
structure Link where
  bme : Bool := false
  d0 : Bool := true
  pmeEn : Bool := false
  pmeStatus : Bool := false
  msixEn : Bool := false
  msixMask : Bool := false
  msix : Vector MsixEntry 32 := Vector.replicate 32 {}
  pba : Nat := 0
  /-- the link went down since the last full reset: rings stay without service (R271) -/
  dead : Bool := false
  /-- BAR2 exists (R279): DMA_CFG.W2EN at the last full reset -/
  bar2 : Bool := false
  deriving DecidableEq, Repr

/-! ### Commands -/

/-- Where a command came from. -/
inductive CmdVia where
  | ring (idx : Nat)
  | mailbox (port : Port)
  deriving DecidableEq, Repr

/-- A command that is executing: its entry, its way, and the next SEQ of each ring when it began (R292). -/
structure Cmd where
  entry : List Byte
  via : CmdVia
  seq0 : Vector Nat 64
  deriving DecidableEq, Repr

/-- A completion that waits until the records its command caused are visible (R292, OP3). -/
structure Cpl where
  r : Rec
  /-- (ring, SEQ) that must be visible -/
  marks : List (Nat × Nat)
  /-- groups whose FIRST samples must carry SIs (START) -/
  first : List Nat
  /-- rings whose seals must be visible, with the SEQ that the seal must cover (R450, R441) -/
  seals : List (Nat × Nat)
  /-- the owner record (R438, R439), or the archive entry of the SESSION record (R442), must be stored -/
  owner : Bool := false
  arch : Bool := false
  /-- of a mailbox command: status, DETAIL, results (R298) -/
  mbox : Option (Nat × Nat × List Byte) := none
  deriving DecidableEq, Repr

/-- The command unit (R290, R298). -/
structure CmdSt where
  cur : Option Cmd := none
  cpl : Option Cpl := none
  /-- the fetch in progress, or the read of the executing command's BUF, was retried (R296) -/
  retried : Bool := false
  /-- port of the mailbox GO that waits -/
  mboxPort : Port := .pcie
  deriving DecidableEq, Repr

/-! ### Reset -/

/-- Where the device stands between power-on and operation (R43, R479 to R484, R407 to R409). -/
inductive Phase where
  /-- power-on reset: a main supply is out of range -/
  | por
  /-- in reset, state lost, waiting for its release -/
  | inReset
  /-- start-up sequence running (Table 21-3) -/
  | startup
  | ready
  /-- the save of a full reset is running (R335) -/
  | saving
  /-- the last-gasp save is running (R407) -/
  | gasp
  /-- in reset after a last gasp, until PFI has been low (R409, R517) -/
  | gaspHeld
  deriving DecidableEq, Repr

/-- Reset state that no register holds. -/
structure RstSt where
  phase : Phase := .inReset
  /-- the cause of the reset in progress or of the last one (Table 21-1) -/
  cause : Nat := 0
  /-- device time was loaded and the stored state was loaded since the release (R407) -/
  loaded : Bool := false
  /-- a save was applied at this start-up -/
  saved : Bool := false
  /-- the rings' series resumed at their reservations (R332) -/
  skip : Bool := false
  /-- the Kettle recorded a loss of main power (Table 1-5) -/
  powerLoss : Bool := false
  /-- device time at the release -/
  tRelease : Nat := 0
  /-- start-up steps that have ended since the release: slice tests, SARCAL -/
  sliceDone : Bool := false
  sarDone : Bool := false
  /-- LOG records that start-up forms at readiness: kind, payload (R268, R485) -/
  logs : List (Nat × List Byte) := []
  /-- the last gasp ran in this power cycle (R407) -/
  gasped : Bool := false
  /-- T_SAVE that the LOG RESET record reports, T_LOST (R333) -/
  tSave : DevTime := 0
  tLost : DevTime := 0
  tReady : DevTime := 0
  /-- a group was started since the last full reset (R454) -/
  grpStarted : Bool := false
  /-- the level of TESTEN at the last release that was tried (R38) -/
  testen : Bool := false
  deriving DecidableEq, Repr

/-- What the device does with an output ball (Table 2-2): it drives a level, or leaves the ball high impedance. -/
inductive Drive where
  | hiZ | low | high
  deriving DecidableEq, Repr

/-- What the device keeps over every reset and loss of power beside the store's pages (log entry 12). -/
structure Persist where
  /-- full resets since manufacture (RCOUNT, R333) -/
  rcount : Nat := 0
  /-- device time at which the last reset began -/
  tLost : DevTime := 0
  /-- records of each ring number formed but never visible (NDISC) -/
  ndisc : Vector Nat 64 := Vector.replicate 64 0
  /-- (ring, source, instant up to which its visible records covered it) -/
  covered : List (Nat × Nat × DevTime) := []
  deriving DecidableEq, Repr

/-! ### Fabric, banks, aux bank port -/

/-- Access kinds on the fabric (Table 15-1). -/
inductive FabKind where
  | read | write | partWrite
  deriving DecidableEq, Repr

/-- A master's head: the oldest of its requests not yet granted (R351, R357). -/
structure FabReq where
  tgt : Nat
  kind : FabKind
  since : Nat
  age : Nat
  deriving DecidableEq, Repr

/-- The Nypol fabric (R350 to R359). -/
structure Fab where
  /-- CORE cycles since the release of the last full reset (R354) -/
  cycle : Nat := 0
  heads : Vector (Option FabReq) 12 := Vector.replicate 12 none
  deficit : Vector Nat 12 := Vector.replicate 12 0
  /-- the master whose turn it is in class RT and in class BK, once its turn has begun (R356) -/
  turnRt : Option Nat := none
  turnBk : Option Nat := none
  /-- where each class's round robin goes on -/
  nextRt : Nat := 0
  nextBk : Nat := 6
  /-- the first cycle at which a target is no longer busy -/
  busy : SMap Nat := []
  /-- the last cycle in which a request was presented for a target, plus 1 -/
  used : SMap Nat := []
  /-- reservations (target, master), oldest first (R358) -/
  resv : List (Nat × Nat) := []
  /-- conflict counters by 16 × target + master (R368) -/
  cnt : SMap Nat := []
  deriving DecidableEq, Repr

/-- A handover or power change in progress for a bank (R373, R377). -/
inductive BankPend where
  | owner (bank new : Nat) (clr : Bool)
  | power (bank new : Nat)
  deriving DecidableEq, Repr

/-- The background test's region (R381 to R384). -/
structure MTest where
  active : Bool := false
  bank : Nat := 0
  region : Nat := 0
  /-- the next region in test order, 128 × bank + region -/
  next : Nat := 0
  /-- steps taken of 44 -/
  step : Nat := 0
  deriving DecidableEq, Repr

/-- An entry of the aux port's write buffer: word address, byte lanes written, bytes (R388). -/
structure AbpEntry where
  word : Nat
  mask : Nat
  data : List Byte
  deriving DecidableEq, Repr

/-- A busy access of the aux bank port. -/
structure AbpAcc where
  write : Bool
  addr : Nat
  word : Nat
  lane : Nat
  be : Nat
  data : Nat
  ecc : Ecc
  /-- the read returns undefined data (R390) -/
  undef : Bool
  deriving DecidableEq, Repr

/-- The last access of the aux port or of BAR2 to a bank, for collisions (R390). -/
structure LastAcc where
  cycle : Nat
  word32 : Nat
  be : Nat
  write : Bool
  deriving DecidableEq, Repr

/-- The aux bank port (R386 to R390). -/
structure Abp where
  wbuf : List AbpEntry := []
  rbuf : Option Nat := none
  busy : Option AbpAcc := none
  /-- the data driven for the last read -/
  dout : Nat := 0
  lastAux : Option LastAcc := none
  lastBar2 : Option LastAcc := none
  /-- the data returned for the last BAR2 read, none for a poisoned completion -/
  bar2Out : Option (List Byte) := some []
  deriving DecidableEq, Repr

/-! ### The non-volatile store -/

/-- A write of consecutive words into one page, wrapping in the page (R394, R396). -/
structure NvmWr where
  page : Nat
  word : Nat
  bytes : List Byte
  deriving DecidableEq, Repr

/-- What a store request is for. -/
inductive NvmKind where
  | lastGasp | journal | calibration (slot : Nat) | checkpoint (ring : Fin 2) (slot : Nat) | highCell
  | snapshot (g : Fin 2) (slot : Nat) | calendar (slot : Nat) | config (copy : Fin 2) | archive | host
  /-- the security engine's records (Table 19-1): the owner record, the seal counter's reservation, both device key records -/
  | owner (slot : Nat) | seals (slot : Nat) | devKey
  deriving DecidableEq, Repr

/-- A queued store request: its priority class (R395), its operations (each of up to 8 pages, R394), and for a record
its payload and sequence number, from which a failed write is made again (R400). -/
structure NvmReq where
  cls : Nat
  kind : NvmKind
  ops : List (List NvmWr)
  payload : List Byte := []
  seq : Nat := 0
  page : Nat := 0
  deriving DecidableEq, Repr

/-- The non-volatile store and its controller (R392 to R400). -/
structure Nvm where
  bytes : SMap Byte := []
  queue : List NvmReq := []
  running : Option NvmReq := none
  /-- first pages of retired slots, newest first (R400) -/
  retired : List Nat := []
  /-- first pages of protected slots (R403) -/
  guarded : List Nat := []
  /-- the checkpoint ring whose turn it is, and the sequence number of the next record of each kind:
  0 checkpoint, 1 last gasp, 2 calibration, 3 calendar, 4 configuration, 5 and 6 snapshots, 7 journal, 8 owner, 9 seal reservation -/
  ckTurn : Fin 2 := 0
  seqs : Vector Nat 10 := Vector.replicate 10 1
  /-- the slot after the one last written: CKA, CKB, last gasp, calibration, calendar, configuration, snapshots of
  MGA and MGB, owner, seal reservation -/
  slots : Vector Nat 10 := Vector.replicate 10 0
  /-- archive entries that wait for the next checkpoint, and the next archive entry (R406) -/
  arch : List (List Byte) := []
  archPos : Nat := 0
  journalPos : Nat := 0
  deriving DecidableEq, Repr

/-! ### Trust -/

/-- An open seal session (R439). -/
structure Session where
  port : Port
  number : Nat
  /-- seconds left -/
  left : Nat
  /-- the change list, entries of 12 bytes (R440) -/
  changes : List (List Byte)
  deriving DecidableEq, Repr

/-- A seal being signed (R446). -/
structure Signing where
  ring : Nat
  cause : Nat
  seqFirst : Nat
  seqLast : Nat
  chain : List Byte
  time : DevTime
  deriving DecidableEq, Repr

/-- What manufacture fixes in a die. -/
structure Chip where
  /-- the part is a PS0804 (R1) -/
  ps0804 : Bool := false
  uid : Nat := 0
  /-- the device's secret key (R433) -/
  devKey : Nat := 1
  /-- the certificate chain (R434) -/
  cert : List Byte := []
  /-- SHA-256 of the debug authority's public key (R455) -/
  debugHash : List Byte := []
  /-- Subsystem IDs come from the stored configuration (Table 12-1) -/
  subsystem : Nat := 0
  deriving DecidableEq, Repr

/-- The security engine (R432 to R456). -/
structure Sec where
  zeroised : Bool := false
  dbg : Bool := false
  trngOk : Bool := false
  trngFail : Bool := false
  /-- the owner's key: prefix and X (R438), with its install time -/
  owner : Option (Nat × Nat) := none
  installT : DevTime := 0
  /-- session number of the last session (owner record) -/
  sessNo : Nat := 0
  /-- the owner record as the store holds it: key, install time, session number (R435, R438) -/
  stOwner : Option (Nat × Nat) := none
  stT : DevTime := 0
  stNo : Nat := 0
  nonce : List Byte := []
  session : Option Session := none
  /-- MCOUNT of the next seal, its stored reservation, and whether the next reservation is being stored (R448) -/
  mcount : Nat := 0
  mres : Nat := 0
  mdue : Bool := false
  /-- SHA-256 of the previous seal's first 0xA0 payload bytes (PREV, R447) -/
  prev : List Byte := []
  /-- seals due in order: (ring, cause) -/
  due : List (Nat × Nat) := []
  signing : Option Signing := none
  sigCount : Nat := 0
  /-- a consent block was accepted in the unlock sequence (R455) -/
  consent : Bool := false
  /-- a debug unlock waits for its seals before the key is zeroised (R456) -/
  unlocking : Bool := false
  /-- the JTAG instruction in force and the bytes last shifted out -/
  ir : JtagIr := .idcode
  jtagOut : List Byte := []
  /-- a close of a session waits for the SESSION record's seal: SEQ of the record (R441) -/
  closeSeq : Option Nat := none
  deriving DecidableEq, Repr

/-! ### The Kettle -/

/-- One tamper source: flag, evidence, Strainer window and delivery mark (R467, R468, R473). -/
structure KSrc where
  flag : Bool := false
  count : Nat := 0
  tFirst : DevTime := 0
  tLast : DevTime := 0
  /-- RTC count at which the open window began; none = no window -/
  t0 : Option Nat := none
  c : Nat := 0
  /-- delivery mark: alarmed or counted on backup power, or alarmed during a reset or start-up (R473, R476); whether it
  alarmed; whether main power was absent -/
  mark : Bool := false
  marked : Bool := false
  backup : Bool := true
  deriving DecidableEq, Repr

/-- One loop: LFSR, episode, consecutive matches (R464). -/
structure KLoop where
  lfsr : Nat
  episode : Bool := false
  /-- consecutive matches, saturating at 16; 16 = a mismatch starts an episode -/
  good : Nat := 16
  deriving DecidableEq, Repr

/-- The Kettle domain (R458 to R478). Its settings are register fields. -/
structure Kettle where
  /-- main power present -/
  main : Bool := true
  /-- RTC count in Kettle cycles (seconds × 32768 + cycles), and the trim accumulator (R459) -/
  rtc : Nat := 0
  acc : Nat := 0
  /-- Kettle time = RTC count + offset, modulo 2^64; valid after the first write since a cold start -/
  offset : Nat := 0
  valid : Bool := false
  hwm : DevTime := 0
  src : Vector KSrc 12 := (Vector.replicate 12 {}).set 11 { flag := true, count := 1, t0 := some 0, c := 1, mark := true, marked := true, backup := false }
  /-- debounced state of each switch is abnormal; the last sample differed from it -/
  swAbn : Vector Bool 4 := Vector.replicate 4 false
  swDiff : Vector Bool 4 := Vector.replicate 4 false
  loop : Vector KLoop 4 := #v[⟨1, false, 16⟩, ⟨2, false, 16⟩, ⟨3, false, 16⟩, ⟨4, false, 16⟩]
  tempOut : Bool := false
  vbatLow : Bool := false
  ploss : DevTime := 0
  prest : DevTime := 0
  pcnt : Nat := 0
  /-- a loss was recorded since the last start-up used it -/
  lost : Bool := false
  zeroDemand : Bool := false
  zeroised : Bool := false
  /-- an ALARM_N pulse is running -/
  pulse : Bool := false
  /-- writes that wait in the Kettle port: (offset, value), oldest first (R478) -/
  writes : List (Nat × Word) := []
  /-- sources under self-test (R475) -/
  bist : Option Nat := none
  bistMark : Nat := 0
  /-- what the inverted decisions of the sources under test see: switches, loops, temperature, VBAT -/
  bistAbn : Vector Bool 4 := Vector.replicate 4 false
  bistDiff : Vector Bool 4 := Vector.replicate 4 false
  bistLoop : Vector KLoop 4 := #v[⟨1, false, 16⟩, ⟨2, false, 16⟩, ⟨3, false, 16⟩, ⟨4, false, 16⟩]
  bistTemp : Bool := false
  bistVbat : Bool := false
  deriving DecidableEq, Repr

/-! ### Device time -/

/-- Device time and its discipline (R124, R130 to R135, R142). -/
structure TimeSt where
  /-- device time in units of 2^-64 s (96 bits) -/
  t : Nat := 0
  /-- SLEW: −1, 0 or 1 (times 10 ppm), and the amount of the slew in progress, in 2^-64 s -/
  slew : Int := 0
  slewLeft : Nat := 0
  /-- device time at which the slew began, in 2^-64 s -/
  slewT : Nat := 0
  /-- timestamp of the last accepted edge; none = none since PPS_EN was set -/
  lastEdge : Option DevTime := none
  /-- consecutive accepted edges with |e| below 1 µs -/
  good : Nat := 0
  /-- seconds field of a SET_TIME AT_PPS that waits for its edge -/
  atPps : Option Nat := none
  /-- device time at which the halt in progress was declared; from then to the reload device time stands (R142, R143) -/
  haltT : DevTime := 0
  frozen : Bool := false
  /-- CORE has no clock (R15, R16, R500) -/
  coreStop : Bool := false
  /-- a halt was declared while CORE ran from XO: its closures wait for the restart (R142) -/
  lateHalt : Bool := false
  /-- a halt's closures wait for the end of a switch-over (R428) -/
  haltDue : Bool := false
  /-- the last 10-min tick taken -/
  lastTick : DevTime := 0
  deriving DecidableEq, Repr

/-! ### Front end (R69 to R73) -/

/-- The check engine: channels under check, the selector's position (Table 3-4: 0 NORMAL, 1 SHORTED, 2 REFCHK, 3 TONE), the Steep
profile and NAVG of the check (R69, R73), and the means of SHORTED and REFCHK by channel. -/
structure Chk where
  mask : Nat := 0
  pos : Nat := 0
  steep : Nat := 8
  navg : Nat := 4
  ofs : List Int := []
  ref : List Int := []
  deriving DecidableEq, Repr

/-! ### Groups and channels -/

/-- A group's time-base anchors from one tick on (R126): group SI there, T_a of its eight channels in 2^-64 s, P_a. -/
structure Anchor where
  n : Nat
  ta : List Nat
  p : Nat
  deriving DecidableEq, Repr

/-- An output tick of a group: group SI, device time of its samples (the lead's, R133), P_a, the first of its free values,
and the eight samples as words (status × 2^24 + code); none = no sample of that channel. -/
structure Tick where
  si : Nat
  t : DevTime
  p : Nat
  fr : Nat
  smp : List (Option Nat)
  deriving DecidableEq, Repr

/-- A time step that takes effect at a group SI (R133): the SI, Δ in 2^-64 s, the step's instant before it, and TIME_HWM when the
step begins or leaves a shadow span (R134). -/
structure PStep where
  n : Nat
  d : Int
  tS : DevTime
  hwm : Option DevTime := none
  deriving DecidableEq, Repr

/-- One threshold comparator (R90 to R95); its state is THR_STAT's field. -/
structure Thr where
  /-- samples of the running qualifying run, and the SI of its first sample -/
  cnt : Nat := 0
  runFirst : Nat := 0
  /-- a transition is decided on this SI and not yet made -/
  due : Option Nat := none
  /-- the whole second now counted, its transitions recorded, and what it withheld: assertions, deassertions, deciding SI
  of the first -/
  sec : Nat := 0
  n : Nat := 0
  wa : Nat := 0
  wd : Nat := 0
  wFirst : Nat := 0
  deriving DecidableEq, Repr

/-- A sigma-delta channel. -/
structure Chan where
  /-- the next SI (R9) -/
  si : Nat := 0
  /-- channel SI minus group SI, fixed at START (R18) -/
  off : Int := 0
  /-- the first SI that its SMP stream, and its threshold stream, have not yet covered -/
  smpCov : Nat := 0
  thrCov : Nat := 0
  hi : Thr := {}
  lo : Thr := {}
  /-- samples discarded at a full sample FIFO (R16), and the runs of them that await their gap: first SI, count -/
  disc : Nat := 0
  lost : List (Nat × Nat) := []
  /-- gap records of its SMP stream that wait for the pieces before them (R310) -/
  wait : List Rec := []
  /-- end of its last production and its cause; none = no sample since the reset -/
  endT : Option DevTime := none
  endCause : Nat := 5
  /-- fenced while its group runs: the first SI that its FENCED gaps have not covered (R78) -/
  fen : Option Nat := none
  /-- the chain (R58, R61, R79, R81): the input of the last 8 modulator periods before the last output, and the periods that have
  passed from the last marked period to 8 periods before that output; none = no period marked since START -/
  late : List (Rat × Nat) := []
  quiet : Option Nat := none
  /-- the integrator (R64 to R66): its last input and its output, in codes -/
  ix : Int := 0
  iy : Rat := 0
  deriving DecidableEq, Repr

/-- A completed cycle: its bounds and the fundamental of its phases (Table 7-1). -/
structure CycleVal where
  a : DevTime
  b : DevTime
  ph : List Phasor
  /-- phases suppressed in the cycle (bits 0 to 2) and the total (bit 3) (R158) -/
  creep : Nat := 0
  deriving DecidableEq, Repr

/-- An accumulation step that has ended and is not yet accumulated (R149, R150): bounds, first group SI, samples, duration in 2^-64 s, and
for each phase E_P in Ws with its sign; the cycle's values: measured mask, P and Q1 and S per phase, S_e. -/
structure StepEnd where
  a : DevTime
  b : DevTime
  si : Nat
  k : Nat
  d : Nat
  ep : List Rat
  /-- duration of the samples that hold each phase, in 2^-64 s -/
  dp : List Nat
  meas : Nat
  /-- phases suppressed in the cycle (R158) -/
  creep : Nat
  p : List Rat
  q : List Rat
  sp : List Rat
  /-- with SMODE 1, S_e; 0 from the loss of a channel on (R153) -/
  se : Option Rat
  flags : Nat
  /-- the cycle completes with this step -/
  last : Bool
  deriving DecidableEq, Repr

/-- A running resampler window (R140, R141): its start, FHOLD, FCLAMP, the tick that cuts its records (R226), the flags that
it has from its opening and since (R229, R232), CAL_ID of its samples, the channels it covers, and whether a fenced bank
took part of its points of a channel (R385, R345). -/
structure Window where
  a : DevTime
  fhold : Bool := false
  fclamp : Bool := false
  tick : Option DevTime := none
  flags : Nat := 0
  cal : Nat := 0
  mask : Nat := 0
  lostCh : Nat := 0
  deriving DecidableEq, Repr

/-- What the CYC record of a window gave the aggregation engine: group SI range, samples past the tick, flags, the channels
that ran throughout, its values. Values are keyed kind × 65536 + element × 256 + index as in Table 10-5; a value of the RMS
method is held as its square. -/
structure Civ where
  si : Nat
  n : Nat
  ovr : Nat
  flags : Nat
  chmask : Nat
  vals : List (Nat × Rat)
  deriving DecidableEq, Repr

/-- A window that has ended and whose CYC or HARM record, or whose aggregation, is outstanding. `short` is the flag of what
ended it short (R183), 0 for a full window; `npts` its point count (R140); `pts` the points of the eight channels of a full one (R139). -/
structure WinDone where
  w : Window
  b : DevTime
  short : Nat := 0
  npts : Nat := 0
  pts : List (List Rat) := []
  civ : Option Civ := none
  spec : Option (List (Nat × Rat)) := none
  deriving DecidableEq, Repr

/-- A running aggregate of a level (R225 to R228): T_START, instant of its first sample, nominal end, SI range, true end,
constituents, flags, AUX bits 8 to 10, CAL_ID, channels with a block, running sums and weights by value key, NC of the eight channels. -/
structure Lvl where
  isOpen : Bool := false
  a : DevTime := 0
  t0 : DevTime := 0
  e : DevTime := 0
  si : Nat := 0
  n : Nat := 0
  ovr : Nat := 0
  wend : DevTime := 0
  cnt : Nat := 0
  flags : Nat := 0
  aux : Nat := 0
  cal : Nat := 0
  chmask : Nat := 0
  sum : SMap Rat := []
  wt : SMap Rat := []
  nc : List Nat := [0, 0, 0, 0, 0, 0, 0, 0]
  /-- value keys whose running sums were lost (R345) -/
  dead : List Nat := []
  /-- nominal start, plus 1, of the last record emitted for the level (R230); 0 = none -/
  lastNom : Nat := 0
  deriving DecidableEq, Repr

/-- The calibration constants of a channel: SCALE, E and PH, OFS (Table 7-5). -/
structure CalSet where
  scale : Nat := 119209290
  e : Nat := 0xF
  ph : Nat := 0
  ofs : Nat := 0
  deriving DecidableEq, Repr

/-! ### Voltage events (R200 to R213) -/

/-- A monitored channel's part in an event (R203): it met the start condition, its own condition holds, when it first did,
when it last ended, its extreme. -/
structure EvPart where
  took : Bool := false
  on : Bool := false
  start : DevTime := 0
  stop : DevTime := 0
  ext : Option Rat := none
  deriving DecidableEq, Repr

/-- A dip, swell or interruption in progress: its start, its extreme and that value's channel, the parts of the three
monitored channels. -/
structure Ev where
  start : DevTime
  ext : Rat
  extCh : Nat
  parts : List EvPart
  deriving DecidableEq, Repr

/-- A candidate rapid voltage change (R206): the means before its start, and the values since then. -/
structure RvcCand where
  start : DevTime
  pre : List (Option Rat)
  vals : List (DevTime × List (Option Rat))
  deriving DecidableEq, Repr

/-- A signalling event in progress (R207). -/
structure MsvEv where
  start : DevTime
  ext : Rat
  ph : Nat
  deriving DecidableEq, Repr

/-- The event engine's state for a group. -/
structure Evs where
  /-- voltage events are raised (R200, R208) -/
  on : Bool := false
  /-- settings sampled at START: DELTA, Udin in mV, thresholds in 0.01 % of it -/
  delta : Bool := false
  udin : Nat := 0
  dipThr : Nat := 0
  swellThr : Nat := 0
  intThr : Nat := 0
  rvcThr : Nat := 0
  msvThr : Nat := 0
  /-- monitored channels that are evaluated (bits 0 to 2) -/
  act : Nat := 0
  dip : Option Ev := none
  swell : Option Ev := none
  intr : Option Ev := none
  cand : Option RvcCand := none
  /-- the values from which steadiness is decided, oldest first, at most N -/
  hist : List (List (Option Rat)) := []
  msv : List (Option MsvEv) := [none, none, none, none]
  /-- the first group SI that the voltage event stream has not covered (R211) -/
  cov : Nat := 0
  /-- spans of dips, swells and interruptions that open intervals may still overlap (R205), by kind; none = in progress -/
  spans : List (Nat × DevTime × Option DevTime) := []
  deriving DecidableEq, Repr

/-- A flickermeter (R186 to R188). -/
structure Meter where
  /-- states of the filters of block 1 and of block 4 -/
  dec : List Rat := []
  lamp : List Rat := []
  /-- the mean square of the carrier (block 2) and P_inst (block 5), each behind its filter's last input -/
  mean : Rat × Rat := (0, 0)
  sens : Rat × Rat := (0, 0)
  /-- P_inst at 2 kS/s over the windows not yet reported -/
  top : List (DevTime × Rat) := []
  /-- classified samples of the 10-min interval, by class -/
  cls : SMap Nat := []
  deriving DecidableEq, Repr

/-- A measurement group. -/
structure Grp where
  running : Bool := false
  monitor : Bool := false
  /-- the first sample after START or a restart is awaited, and the restart's cause: 0 START, 1 halt -/
  await : Option Nat := none
  /-- the group was started since the reset -/
  started : Bool := false
  /-- channels that the last START started (bits 0 to 7), lead, profile codes sampled at START -/
  mask : Nat := 0
  lead : Nat := 0
  prof : List Nat := [2, 2, 2, 2, 2, 2, 2, 2]
  /-- device time of START or of the restart, in 2^-64 s -/
  startT : Nat := 0
  /-- settings sampled at START: FNOM, REF, SMODE -/
  fnom : Nat := 0
  ref : Nat := 0
  smode : Nat := 0
  /-- next group SI (R18) -/
  si : Nat := 0
  /-- anchors, newest first; a new one is due with a cause, and the sum of steps not yet in the anchors, in 2^-64 s -/
  anchors : List Anchor := []
  due : Option Nat := none
  delta : Int := 0
  /-- a 10-min tick whose anchor is due at the first sample at or after it -/
  tickDue : Option DevTime := none
  /-- ticks delivered that open windows still need, oldest first -/
  ticks : List Tick := []
  /-- samples that wait in the sample FIFO while CORE has no clock (R16) -/
  fifo : List Tick := []
  /-- end of the last production under its anchor and its cause, for the gap at the restart; none = no sample yet -/
  endT : Option DevTime := none
  endCause : Nat := 5
  /-- a shadow span's first group SI, and the TIME_HWM at which it ends (R134) -/
  shadow : Option (Nat × DevTime) := none
  /-- time steps that take effect at coming group SIs, in order (R133) -/
  step : List PStep := []
  /-- runs of group SIs of which every sample found the FIFO full (R16, R25): first SI, count -/
  stall : List (Nat × Nat) := []
  /-- such runs that lie in intervals not yet formed -/
  gone : List (Nat × Nat) := []
  /-- the last locked frequency, in 2^-24 Hz; 0 = none since START (R137) -/
  lockF : Nat := 0
  /-- start of the cycle in progress, half-cycle boundaries (newest first), instants at which steps are cut -/
  cycA : DevTime := 0
  /-- the instant from which nominal boundaries follow (R147), in 2^-64 s -/
  nomBase : Nat := 0
  nominal : Bool := true
  halves : List DevTime := []
  /-- the squares of the last half-cycle RMS values of the eight channels (R148) -/
  half : List (Option Rat) := []
  cuts : List DevTime := []
  /-- completed cycles that open windows overlap, and steps that have ended -/
  cycs : List CycleVal := []
  steps : List StepEnd := []
  /-- cycles with the amplitude at or above MINAMP in a row (R137) -/
  ampRun : Nat := 0
  /-- the first state other than LOCKED in the 10 s interval, 0 = none; its start, its crossings, its flags -/
  f10St : Nat := 0
  f10A : Option DevTime := none
  f10First : Option DevTime := none
  f10Last : Option DevTime := none
  f10N : Nat := 0
  f10Flags : Nat := 0
  /-- AUX bits of the running 10 s interval: 0x400 CALCHG (R232) -/
  f10Aux : Nat := 0
  /-- open resampler windows, oldest first (at most two) -/
  wins : List Window := []
  /-- the start of the interval at whose first sample waiting commits take effect, and how many of them (R162) -/
  calAt : Option (DevTime × Nat) := none
  /-- calibration sets of the eight channels before a commit, used for samples below a group SI, oldest first -/
  calOld : List (Nat × List CalSet) := []
  /-- channels fenced while the group ran (bits 0 to 7), and lost for the current interval -/
  fenced : Nat := 0
  /-- the first group SI of the run, and whether the run has ended (R146) -/
  run0 : Nat := 0
  ended : Bool := false
  /-- the 0.5 Hz high-pass of the phase voltages of integrated currents (R67): last input and output before the ticks held -/
  hp : List (Rat × Rat) := [(0, 0), (0, 0), (0, 0)]
  /-- the instant at which S_e was lost since START (R153) -/
  stotAt : Option DevTime := none
  /-- flags that the next intervals carry (R229) -/
  openFlags : Nat := 0
  ev : Evs := {}
  /-- windows that have ended, oldest first -/
  wdone : List WinDone := []
  /-- the spectral engine processes the group (R173), the group is aggregated (R222) -/
  spec : Bool := false
  agg : Bool := false
  /-- a gap that covers the group's SPC stream while the engine does not process it: cause, first SI not covered (R197, R385) -/
  specGap : Option (Nat × Nat) := none
  /-- the first SIs that the CYC, AGG, SPC and BIL streams, and the EVT stream, of a monitor-mode run have not covered -/
  monSi : Nat := 0
  monEvt : Nat := 0
  /-- the three flickermeters, the group SI of the next sample that they take, and Pst of intervals that have ended -/
  meters : Vector Meter 3 := Vector.replicate 3 {}
  flk : Nat := 0
  psts : List (List (Option Rat)) := []
  /-- short, 10-min and 2-h levels -/
  lvls : Vector Lvl 3 := Vector.replicate 3 {}
  /-- no slice processes the group (R427); the first SIs that its CYC, AGG (levels 0 to 3), BIL and EVT streams have not covered -/
  lost : Bool := false
  lostFrom : List Nat := [0, 0, 0, 0, 0, 0, 0]
  /-- the group SIs of the last rebuild whose words were replayed: from, to (R422) -/
  rep : Nat × Nat := (0, 0)
  deriving DecidableEq, Repr

/-! ### Capture (R214 to R220) -/

/-- A trigger of a capture. -/
structure CapTrig where
  kind : Nat
  src : Nat
  t : DevTime
  deriving DecidableEq, Repr

/-- A captured sample: source, index (not wrapped), its device time, the instant one past it, its word. -/
structure CapSmp where
  src : Nat
  idx : Nat
  t : DevTime
  e : DevTime
  w : Nat
  deriving DecidableEq, Repr

/-- The capture engine; its state is CAP_STAT.STATE. -/
structure Cap where
  armT : DevTime := 0
  trigs : List CapTrig := []
  /-- the instant of the CORE cycle that opened the window, in 2^-64 s (R217) -/
  decT : Nat := 0
  wEnd : DevTime := 0
  buf : List CapSmp := []
  /-- spans in which a source produced nothing -/
  gaps : List (Nat × Gap) := []
  /-- samples were overwritten or lost up to here -/
  since : DevTime := 0
  /-- instants of steps and halts since the engine was armed, with their flag (R220) -/
  marks : List (DevTime × Nat) := []
  deriving DecidableEq, Repr

/-! ### Metrology -/

/-- A commit that waits for its first sample (R162): the eight sets, the CAL_ID it gives, the sequence number of the record that
stores it, and whether it has been stored (R165). -/
structure Commit where
  sets : List CalSet
  id : Nat
  seq : Nat
  stored : Bool := false
  deriving DecidableEq, Repr

/-- A CF output's state beside its registers (R167, R168): residue, spacing and width in CORE cycles (2 ns). -/
structure CfOut where
  residue : Nat := 0
  /-- pulse spacing in seconds -/
  spacing : Rat := 0
  width : Nat := 1000
  /-- INV in force until EN is next set, after a write that cleared EN (R170); none = CF_CFG.INV is in force -/
  inv : Option Bool := none
  deriving DecidableEq, Repr

/-- The metrology engine's state. -/
structure Met where
  /-- active constants of the 16 channels, and the commits of each group that wait, in order (R161 to R163) -/
  cal : Vector CalSet 16 := Vector.replicate 16 {}
  calPend : Vector (List Commit) 2 := Vector.replicate 2 []
  /-- the 64 accumulators in 2^-32 mWh, by 32 × group + 8 × phase index + quantity code (R156), and their remainders -/
  acc : SMap Nat := []
  rem : SMap Rat := []
  /-- accumulators that carry POISON (R268) -/
  poison : List Nat := []
  /-- the end of the last step accumulated, per group (R160) -/
  doneT : Vector DevTime 2 := Vector.replicate 2 0
  /-- CAL_ID of the active constants of each group (R165) -/
  actId : Vector Nat 2 := Vector.replicate 2 0
  cf : Vector CfOut 4 := Vector.replicate 4 {}
  /-- a step has closed since the start-up: owed pulses may be emitted (R411) -/
  cfGo : Bool := false
  deriving DecidableEq, Repr

/-! ### Statistics (R233 to R248) -/

/-- A histogram: its descriptor as the words of STAT_DESC0 to STAT_DESC3, its status and counts. -/
structure Hist where
  d0 : Nat := 0
  d1 : Nat := 0x400000
  d2 : Nat := 0
  d3 : Nat := 0x3F800000
  sat : Bool := false
  under : Bool := false
  above : Bool := false
  poison : Bool := false
  lost : Bool := false
  n : Nat := 0
  hseq : Nat := 0
  hndef : Nat := 0
  deriving DecidableEq, Repr

/-- An aggregate that took its place on a ring of its level: level, SEQ, source, flags, values (R236, R341). -/
structure AggIn where
  lvl : Nat
  seq : Nat
  src : Nat
  flags : Nat
  vals : List (Nat × Nat)
  deriving DecidableEq, Repr

/-- What waits for the cells (R245): an increment of a histogram with the value's binary32 bits (none = not counted), or the
end of an aggregate's increments, with its level and SEQ. -/
inductive StatItem where
  | inc (hist : Nat) (x : Option Nat)
  | mark (lvl seq : Nat)
  deriving DecidableEq, Repr

/-- The statistics engine beside its registers. -/
structure StatSt where
  /-- cells by cell index -/
  cells : SMap Nat := []
  hists : SMap Hist := []
  /-- staging of STAT_DESC1 to STAT_DESC3 -/
  stag1 : Nat := 0x400000
  stag2 : Nat := 0
  stag3 : Nat := 0x3F800000
  waits : List StatItem := []
  /-- device time at which the drain in progress began -/
  drainT : Option DevTime := none
  /-- levels whose ring went on since the reset (R241) -/
  lvlOn : Nat := 0
  /-- descriptor commits written during a drain: histogram, words (R247) -/
  commits : List (Nat × List Nat) := []
  deriving DecidableEq, Repr

/-! ### Tariffs, demand, billing (R249 to R268) -/

/-- The running demand sub-interval: start, group SI range, shortened (R259), flags, CAL_ID, whether a commit fell in it. -/
structure Sub where
  a : DevTime
  si : Nat := 0
  n : Nat := 0
  short : Bool := false
  flags : Nat := 0
  cal : Nat := 0
  calchg : Bool := false
  deriving DecidableEq, Repr

/-- A stored billing snapshot: its BILLCLOSE payload, and whether every value in it is marked POISON (R412). -/
structure Snap where
  body : List Byte
  poison : Bool := false
  deriving DecidableEq, Repr

/-- The latest billing instant that a group handled (Table 17-4): the instant, its actions, the tariffs before and after it, the
group's accumulators there. -/
structure BilInst where
  t : DevTime
  acts : Nat
  oldT : Nat
  newT : Nat
  acc : List Nat
  deriving DecidableEq, Repr

/-- The billing state of a group. -/
structure Bil where
  /-- sampled at START: L in minutes, k, BMODE, BDAY -/
  lmin : Nat := 15
  k : Nat := 1
  bmode : Nat := 2
  bday : Nat := 1
  /-- tariff registers and those marked POISON, maximum demands and their instants, by 8 × tariff + quantity code -/
  treg : SMap Nat := []
  poison : List Nat := []
  maxd : SMap Nat := []
  maxT : SMap Nat := []
  /-- tariff in force, 0 to 7 -/
  tariff : Nat := 0
  sub : Option Sub := none
  /-- low 64 bits of the eight total accumulators at the sub-interval boundaries of the window, newest first -/
  bnds : List (List Nat) := []
  /-- a sub-interval opens with the first step that begins at or after this instant; whether its window restarts -/
  openAt : Option DevTime := none
  fresh : Bool := true
  /-- flags of the next sub-interval to open (R25) -/
  openFl : Nat := 0
  /-- production resumed: missed instants are handled at the next step close (R267) -/
  resume : Bool := false
  /-- instants that end a sub-interval early: fences (R259) -/
  cuts : List DevTime := []
  /-- the instant of a requested close (R261) -/
  close : Option DevTime := none
  /-- stored snapshots, newest first -/
  snaps : List Snap := []
  /-- the latest instant handled since the start-up -/
  inst : Option BilInst := none
  deriving DecidableEq, Repr

/-- Tariff calendars (R253 to R256): the images by word address; the committed activation instant of the passive image and
the instant of the last activation; the slots that hold them; the image before the last activation, still used by the
groups of a mask until their steps reach it. -/
structure Calendars where
  act : SMap Nat := []
  pas : SMap Nat := []
  old : SMap Nat := []
  pasT : DevTime := 0
  actT : DevTime := 0
  actPage : Option Nat := none
  pasPage : Option Nat := none
  useOld : Nat := 0
  deriving DecidableEq, Repr

/-! ### Transient pairs and the house converter (chapter 5) -/

/-- A running supraharmonic level of an input (R222, R227): nominal start, T_START, transient index range, Σ M_j, runs,
flags, Σ M_j B²_ij by band, nominal start plus 1 of the last record emitted. -/
structure SupLvl where
  isOpen : Bool := false
  nom : DevTime := 0
  a : DevTime := 0
  si : Nat := 0
  n : Nat := 0
  m : Nat := 0
  runs : Nat := 0
  flags : Nat := 0
  sums : List Rat := []
  lastNom : Nat := 0
  deriving DecidableEq, Repr

/-- A transient pair. -/
structure Tsar where
  /-- the next transient index, not wrapped (R19, R192); it produced samples since the reset -/
  idx : Nat := 0
  used : Bool := false
  /-- anchors, newest first; a new one is due with a cause, the sum of steps not yet in the anchors, a tick whose anchor is
  due -/
  anchors : List Anchor := []
  due : Option Nat := none
  delta : Int := 0
  tickDue : Option DevTime := none
  /-- a clear of EN stops the pair with this as its next index, one past a sample of half B (R103) -/
  stop : Option Nat := none
  /-- the last transient anchor latched: index, device time in 2^-64 s (R104) -/
  lat : Option (Nat × Nat) := none
  /-- the code of the sample before (R111) -/
  prev : Option Int := none
  /-- the gap cause of the stop in force, and the instant at which it began -/
  cause : Nat := 5
  endT : DevTime := 0
  /-- samples in the transient FIFO while CORE has no clock: index, word; runs discarded: first index, count -/
  fifo : List (Nat × Nat) := []
  lost : List (Nat × Nat) := []
  /-- discarded runs with their gap, which the supraharmonic streams have not taken -/
  holes : List (Nat × Nat) := []
  /-- samples of the SMP record being filled: index, word -/
  smp : List (Nat × Nat) := []
  /-- the first index that the EVT stream has not covered -/
  evCov : Nat := 0
  /-- the whole second now counted, entries of it, and what it withheld: level, dv/dt, last index (R210) -/
  sec : Nat := 0
  cnt : Nat := 0
  wl : Nat := 0
  wd : Nat := 0
  last : Nat := 0
  /-- the first index of the shadow span in progress -/
  shadow : Option Nat := none
  /-- supraharmonics: the index at which continuous production began, the first index that the SPC stream has not covered,
  the flag of the run's opening, the cause of a gap before it -/
  supFrom : Nat := 0
  supCov : Nat := 0
  supFlag : Nat := 0
  supCause : Nat := 5
  /-- the engine does not process the enabled input: cause and first index of the gap (R197, R385) -/
  supGap : Option (Nat × Nat) := none
  agg : Bool := false
  lvls : Vector SupLvl 2 := Vector.replicate 2 {}
  deriving DecidableEq, Repr

/-- An entry of the fast event FIFO (R114, R209): input, dv/dt or level, transient index, code, code before, LEVEL or STEP in
force, LOST mark, channel in TSAR_MAP. -/
structure FastEntry where
  pair : Fin 8
  dvdt : Bool
  idx : Nat
  code : Int
  prev : Int
  thr : Nat
  lost : Bool
  ch : Nat
  deriving DecidableEq, Repr

/-- A post-filter (R121, R122): conversions of the running window (pass, value), those of the whole windows since the
restart, newest first, whether the running window began after the restart. -/
structure HFilt where
  cur : List (Nat × Int) := []
  hist : List (List (Nat × Int)) := []
  live : Bool := false
  deriving DecidableEq, Repr

/-- The SAR converters. -/
structure Sar where
  /-- pairs and house converter that the running SARCAL calibrates -/
  calP : Nat := 0
  calH : Bool := false
  /-- pairs whose enable was held and that have not started since (R109) -/
  held : Nat := 0
  /-- conversions of start-up that are done, of three (R516); none = they are not due -/
  boot : Option Nat := none
  pairs : Vector Tsar 8 := Vector.replicate 8 {}
  fastq : List FastEntry := []
  fastLost : Bool := false
  /-- the house converter: the entry in its slot, the urgent conversion that runs (of a PFI?, input), those that wait -/
  pos : Option Nat := none
  urg : Option (Bool × Nat) := none
  wReg : Option Nat := none
  wPfi : Option Nat := none
  /-- a new pass begins when the urgent conversion completes (R117) -/
  newPass : Bool := false
  /-- passes since the common window tick of the release or of the last change of NULL -/
  pass : Nat := 0
  flt : Vector HFilt 32 := Vector.replicate 32 {}
  /-- entries whose window has ended and whose result is outstanding -/
  pubDue : Nat := 0
  deriving DecidableEq, Repr

/-! ### Slices (chapter 18) -/

/-- A checkpoint copy (R419): its sequence number, device time of its step end, checkpoint SIs, and the metrology and billing
state in it. -/
structure SliceCopy where
  seq : Nat
  t : DevTime
  si : List Nat
  met : Met
  bil : Vector Bil 2
  deriving DecidableEq, Repr

/-- A switch-over in progress (R421, R426): cause of Table 18-6, device time of the freeze, the slices that held the roles (3 =
none), the Caddy's load, the self-test results of the old active slice and the old checker, whether roles are assigned,
whether the rebuild restarted, the group SIs at the freeze. -/
structure Switch where
  cause : Nat
  t0 : DevTime
  oldA : Nat
  oldC : Nat
  caddy : Nat
  loaded : Bool := false
  test : Option (Bool × Bool) := none
  assigned : Bool := false
  restart : Bool := false
  deriving DecidableEq, Repr

/-- The redundant slices. -/
structure Slices where
  /-- a trial was accepted and waits for the next current copy (R430) -/
  trial : Bool := false
  sw : Option Switch := none
  /-- the current copy and the one before it; the current copy holds an uncorrectable word (R420) -/
  cur : Option SliceCopy := none
  old : Option SliceCopy := none
  bad : Bool := false
  /-- entries in the sample replay ring, newest first: device time of a tick, entries of it; at most 24,576 in all (R418) -/
  rply : List (DevTime × Nat) := []
  deriving DecidableEq, Repr

/-! ### The whole machine -/

/-- Reasons for a fault: none. No command of this block ends in a fault (log entry 3). -/
inductive Fault where
  deriving DecidableEq, Repr

/-- Reasons for a refusal. -/
inductive Refusal where
  /-- raised by the arm of a command that has no meaning yet; safe: nothing is claimed of the command -/
  | notModelled (mnemonic : String)
  deriving DecidableEq, Repr

/-- The state of the block. -/
structure State where
  /-- commands that wait, first in, first out -/
  pending : List Instr := []
  chip : Chip := {}
  rst : RstSt := {}
  persist : Persist := {}
  /-- register fields by `Fld.key` -/
  regs : SMap Nat := []
  /-- latched _HI registers by 65536 × port + offset, plus 1 (R278) -/
  latch : SMap Nat := []
  /-- the words that the last register read through PCIe and through SPI returned -/
  rdPcie : List Nat := []
  rdSpi : List Nat := []
  link : Link := {}
  rings : Vector Ring 64 := Vector.replicate 64 {}
  /-- what the LOG stream (R285, R340; SEQs come when the ring goes on) and the SEC stream formed while their ring is off -/
  heldLog : List QItem := []
  heldSec : List Rec := []
  cmd : CmdSt := {}
  /-- every record formed since the release, oldest first (the model's own, log entry 4) -/
  formed : List Rec := []
  /-- every DMA write issued, oldest first (the model's own, log entry 4) -/
  out : List DmaWr := []
  /-- the device time of a source's first sample after start-up, plus 1 (R334) -/
  first : SMap Nat := []
  /-- the start of a source's oldest interval not yet formed, plus 1, by `openKey` (R329) -/
  openT : SMap Nat := []
  fab : Fab := {}
  /-- bank contents by byte address, bank × 256 KiB + offset (R369) -/
  mem : Memory := []
  bankPend : List BankPend := []
  mtest : MTest := {}
  abp : Abp := {}
  nvm : Nvm := {}
  sec : Sec := {}
  ket : Kettle := {}
  time : TimeSt := {}
  chk : Chk := {}
  grp : Vector Grp 2 := Vector.replicate 2 {}
  chan : Vector Chan 16 := Vector.replicate 16 {}
  cap : Cap := {}
  met : Met := {}
  stat : StatSt := {}
  /-- supraharmonic inputs that the spectral engine processes (R189) -/
  supraOn : Nat := 0
  bil : Vector Bil 2 := Vector.replicate 2 {}
  cals : Calendars := {}
  /-- BIL records that wait for their journal entry: its sequence number, the record (R404) -/
  bilOut : List (Nat × Rec) := []
  /-- BIL records saved and not yet visible, for the ring that carries them (R264) -/
  bilSaved : List Rec := []
  /-- writes to the blocks 0x0A00 and 0x1000 that wait for the end of a switch-over (R428): port, offset, value -/
  deferW : List (Port × Nat × Word) := []
  sar : Sar := {}
  slc : Slices := {}
  /-- free values drawn so far (the model's own counter, log entry 5) -/
  free : Nat := 0
  deriving DecidableEq, Repr

/-- The machine right after reset: a power-on reset has just been released, and every field has the value that the
spec states for it or that a log entry names. -/
def State.reset : State := {}

end Sys2Proof.Machine
end

