-- ==== Sys2Proof/Machine/Ops.lean ====
section
/-! DEFINITION. The named operations over registers, interrupts and free values that every family uses. -/

namespace Sys2Proof.Machine

/-! ### Register fields -/

/-- A register field's value. -/
def State.gf (s : State) (f : Fld) : Nat := SMap.get fldReset s.regs f.key

/-- Set a register field; the value is cut to the field's width. -/
def State.sf (s : State) (f : Fld) (v : Nat) : State := { s with regs := SMap.set fldReset s.regs f.key (v % 2 ^ f.w) }

/-- A one-bit field as a Bool. -/
def State.gb (s : State) (f : Fld) : Bool := decide (s.gf f = 1)

/-- Set a one-bit field from a Bool. -/
def State.sb (s : State) (f : Fld) (b : Bool) : State := s.sf f (b2n b)

/-- A field as a two's-complement number. -/
def State.gi (s : State) (f : Fld) : Int := toSigned f.w (s.gf f)

/-- Set a field from an integer. -/
def State.si (s : State) (f : Fld) (v : Int) : State := s.sf f (ofSigned f.w v)

/-- Set several fields in order. -/
def State.sfs (s : State) : List (Fld × Nat) → State
  | [] => s
  | (f, v) :: l => State.sfs (s.sf f v) l

/-- Add to a counter field that saturates. -/
def State.incSat (s : State) (f : Fld) (n : Nat) : State := s.sf f (min (s.gf f + n) (2 ^ f.w - 1))

/-- Add to a counter field that wraps. -/
def State.incWrap (s : State) (f : Fld) (n : Nat) : State := s.sf f (s.gf f + n)

/-- Bit `i` of a mask field. -/
def State.mbit (s : State) (f : Fld) (i : Nat) : Bool := (s.gf f).testBit i

/-- Set or clear bit `i` of a mask field. -/
def State.smbit (s : State) (f : Fld) (i : Nat) (b : Bool) : State :=
  let v := s.gf f
  s.sf f (if b then v ||| 2 ^ i else if v.testBit i then v ^^^ 2 ^ i else v)

/-- A 64-bit value held in a _LO and a _HI register. -/
def State.g64 (s : State) (lo hi : Fld) : Nat := s.gf lo + 2 ^ 32 * s.gf hi

/-- Set a 64-bit value held in a _LO and a _HI register. -/
def State.s64 (s : State) (lo hi : Fld) (v : Nat) : State := (s.sf lo v).sf hi (v / 2 ^ 32)

/-! ### Free values -/

/-- The next free bit, and the state that has drawn it. -/
def State.drawBool (s : State) : Bool × State := (Config.freeBool s.free, { s with free := s.free + 1 })

/-- The next free number. -/
def State.drawNat (s : State) : Nat × State := (Config.freeNat s.free, { s with free := s.free + 1 })

/-- The next `n` free bytes. -/
def State.drawBytes (s : State) (n : Nat) : List Byte × State :=
  ((List.range n).map (fun i => Config.freeByte (s.free + i)), { s with free := s.free + n })

/-- The next free result. -/
def State.drawRat (s : State) : Rat × State := (Config.freeRat s.free, { s with free := s.free + 1 })

/-- A low or high pulse of `ns` on a ball with a reject limit `lo` and a register limit `hi` (both in ns): below the one
it is ignored, from the other on it registers, and between them it may or may not (a free bit). -/
def State.pulse (s : State) (ns lo hi : Nat) : Bool × State :=
  if ns < lo then (false, s) else if hi ≤ ns then (true, s) else s.drawBool

/-! ### Parts and units (R1, R494 to R496) -/

/-- FUSE_CH (R496): the PS0804 reads 0x02F0_FF00, the PS1608 0. -/
def Chip.fuseCh (c : Chip) : Nat := if c.ps0804 then 0x02F0FF00 else 0

/-- Channel n is fused absent. -/
def State.chFused (s : State) (n : Nat) : Bool := s.chip.fuseCh.testBit n
/-- Transient input n and pair TSARn are fused absent. -/
def State.trFused (s : State) (n : Nat) : Bool := s.chip.fuseCh.testBit (16 + n)
/-- Group g is fused absent; MGA never is. -/
def State.grpFused (s : State) (g : Nat) : Bool := decide (g = 1) && s.chip.ps0804

/-- Channel n is fenced. -/
def State.chFenced (s : State) (n : Nat) : Bool := s.mbit FENCE_CH_CH n
/-- Pair n is fenced. -/
def State.trFenced (s : State) (n : Nat) : Bool := s.mbit FENCE_CH_TR n
/-- Channel n is neither fused nor fenced. -/
def State.chPresent (s : State) (n : Nat) : Bool := !s.chFused n && !s.chFenced n
/-- Pair n is neither fused nor fenced. -/
def State.trPresent (s : State) (n : Nat) : Bool := !s.trFused n && !s.trFenced n
/-- Bank b is fenced. -/
def State.bankFenced (s : State) (b : Nat) : Bool :=
  if b < 32 then s.mbit FENCE_BANK_LO_BANK b else s.mbit FENCE_BANK_HI_BANK (b - 32)
/-- Slice n is fenced. -/
def State.sliceFenced (s : State) (n : Nat) : Bool := s.mbit FENCE_MISC_SLICE n

/-! ### Phases -/

/-- Start-up has completed and no reset has begun: commands are served and records are formed (R484). -/
def State.isReady (s : State) : Bool := decide (s.rst.phase = .ready)
/-- Registers are served: from readiness until a save completes (R297, R517). -/
def State.serving (s : State) : Bool :=
  decide (s.rst.phase = .ready) || decide (s.rst.phase = .gasp) || decide (s.rst.phase = .saving)
/-- The device is in a reset: no power, or not released (R43, R409, R480). -/
def State.inReset (s : State) : Bool :=
  decide (s.rst.phase = .por) || decide (s.rst.phase = .inReset) || decide (s.rst.phase = .gaspHeld)
/-- MODE[1:0] = 0b10, or 0b11 which is taken as 0b10 (Table 2-3): SPI only. -/
def State.spiOnly (s : State) : Bool := decide (2 ≤ s.gf STRAP_MODE)
/-- Records are formed: at readiness, with rings (R300, R484). -/
def State.forms (s : State) : Bool := s.isReady && !s.spiOnly

/-! ### Time of a record -/

/-- Device time truncated to 2^-32 s (R22). -/
def State.now (s : State) : DevTime := (s.time.t / 2 ^ 32) % 2 ^ 64

/-- The time a record about "now" carries: TIME_HWM during a shadow span (R134), else device time. -/
def State.stamp (s : State) : DevTime := if s.gb TIME_STATUS_SHADOW then max s.now s.ket.hwm else s.now

/-! ### Interrupts (R280, R281, R498, R499) -/

/-- The field of INT_STAT bit k. -/
def intBit (k : Nat) : Fld := ⟨0x60, k, 1⟩

/-- E = INT_STAT AND INT_EN is non-zero (R499). -/
def State.intE (s : State) : Bool := (List.range 15).any (fun k => s.gb (intBit k) && s.mbit INT_EN_EN k)

/-- The device may issue a memory request: the link is up and has not gone down since the last full reset, Bus Master Enable
is 1 and the function is in D0 (R271, R272). -/
def State.mayDma (s : State) : Bool := s.gb LINK_STAT_UP && !s.link.dead && s.link.bme && s.link.d0

/-- A DMA write or message leaves, where the device may issue one (R272). -/
def State.issue (s : State) (w : DmaWr) : State := if s.mayDma then { s with out := s.out ++ [w] } else s

/-- Vector v can be sent: MSI-X enabled, function and vector not masked, and a message may be issued. -/
def State.vecOpen (s : State) (v : Fin 32) : Bool := s.link.msixEn && !s.link.msixMask && !s.link.msix[v].masked && s.mayDma

/-- Send vector v, or set its pending bit while it is masked or while no message may be issued (log entry 64); nothing while
MSI-X is disabled (R280). -/
def State.sendVec (s : State) (v : Fin 32) : State :=
  if !s.link.msixEn then s
  else if s.vecOpen v then s.issue (.msix v s.link.msix[v].addr s.link.msix[v].data)
  else { s with link := { s.link with pba := s.link.pba ||| 2 ^ v.val } }

/-- Send vector 0 when E rose from zero (R499). -/
def State.intEdge (s0 s : State) : State := if !s0.intE && s.intE then s.sendVec 0 else s

/-- A cause of INT_STAT bit k (R498, R499). -/
def State.raise (s : State) (k : Nat) : State := State.intEdge s (s.sf (intBit k) 1)

/-! ### HI latches (R278) -/

/-- The key of a port's latch for a register offset. -/
def latchKey (p : Port) (off : Nat) : Nat := (if p = .pcie then 0 else 65536) + off

/-- Latch a _HI register for a port. -/
def State.setLatch (s : State) (p : Port) (off v : Nat) : State :=
  { s with latch := SMap.set (fun _ => 0) s.latch (latchKey p off) (v + 1) }

/-- Lists of bits. -/
def fins (n : Nat) : List (Fin n) := List.finRange n

end Sys2Proof.Machine
end

