-- ==== Sys2Proof/Machine/Store.lean ====
section
/-! DEFINITION. The non-volatile store: bytes and pages, records and slot rings, the controller's queue and its write
operations (chapter 17, R392 to R401). -/

namespace Sys2Proof.Machine

/-- The byte at an address of the store; a byte that nothing has written reads 0 (log entry 11). -/
def Nvm.byte (v : Nvm) (a : Nat) : Byte := SMap.get (fun _ => 0) v.bytes a

/-- `n` bytes from an address. -/
def Nvm.read (v : Nvm) (a n : Nat) : List Byte := (List.range n).map (fun i => v.byte (a + i))

/-- Write one word at a position of a page: the positions wrap in the page (R396). -/
def Nvm.writeWord (v : Nvm) (page pos : Nat) (bs : List Byte) : Nvm :=
  (List.range 8).foldl (fun v i =>
    { v with bytes := SMap.set (fun _ => 0) v.bytes (256 * page + 8 * (pos % 32) + i) (bs.getD i 0) }) v

/-- Write the first `k` words of a page write (R394, R396, R397). -/
def Nvm.writeSome (v : Nvm) (w : NvmWr) (k : Nat) : Nvm :=
  (List.range (min k (w.bytes.length / 8))).foldl (fun v i =>
    v.writeWord w.page (w.word + i) ((w.bytes.drop (8 * i)).take 8)) v

/-- Write a whole page write. -/
def Nvm.writeAll (v : Nvm) (w : NvmWr) : Nvm := v.writeSome w 32

/-! ### Records (R398) -/

/-- A page of a record: 248 payload bytes, the sequence number, the CRC over them and the page number. -/
def pageBytes (payload : List Byte) (seq page : Nat) : List Byte :=
  let b := payload ++ zeros (248 - payload.length) ++ leBytes 4 seq
  b ++ leBytes 4 (crc32c (b ++ leBytes 2 page))

/-- The page writes of a record of `n` pages from a page. -/
def recordWrites (payload : List Byte) (seq page : Nat) : Nat → List NvmWr
  | 0 => []
  | n + 1 => { page := page, word := 0, bytes := pageBytes (payload.take 248) seq page } ::
      recordWrites (payload.drop 248) seq (page + 1) n

/-- Cut page writes into operations, each inside one aligned group of 8 pages (R394). -/
def groupOps : List NvmWr → List (List NvmWr)
  | [] => []
  | w :: l =>
    match groupOps l with
    | [] => [[w]]
    | [] :: r => [w] :: r
    | (a :: g) :: r => if a.page / 8 = w.page / 8 then (w :: a :: g) :: r else [w] :: (a :: g) :: r

/-- A page of the store passes its CRC. -/
def Nvm.pageOk (v : Nvm) (page : Nat) : Bool :=
  let b := v.read (256 * page) 252
  decide (leAt (v.read (256 * page + 252) 4) 0 4 = crc32c (b ++ leBytes 2 page))

/-- The sequence number that a page carries. -/
def Nvm.pageSeq (v : Nvm) (page : Nat) : Nat := ofLe (v.read (256 * page + 248) 4)

/-- A record of `n` pages is valid: every page passes and all carry one sequence number (R398). -/
def Nvm.recOk (v : Nvm) (page n : Nat) : Bool :=
  (List.range n).all (fun i => v.pageOk (page + i) && v.pageSeq (page + i) == v.pageSeq page)

/-- The payload of a record of `n` pages. -/
def Nvm.recPayload (v : Nvm) (page n : Nat) : List Byte := (List.range n).flatMap (fun i => v.read (256 * (page + i)) 248)

/-- The newest valid record among slots given by their first pages, each of `n` pages: (page, sequence number). -/
def Nvm.newest (v : Nvm) (n : Nat) (pages : List Nat) : Option (Nat × Nat) :=
  pages.foldl (fun b p =>
    if v.recOk p n then
      match b with
      | none => some (p, v.pageSeq p)
      | some (_, q) => if q < v.pageSeq p then some (p, v.pageSeq p) else b
    else b) none

/-! ### Slot rings (Table 17-2, R399) -/

/-- A slot ring: first page, slots, pages of a slot. Rings 0 to 9: CKA, CKB, last gasp, calibration, calendars,
configuration, snapshots of MGA, of MGB, the owner record, the seal counter's reservation (Tables 17-2, 19-1). -/
def slotRing : Nat → Nat × Nat × Nat
  | 0 => (0x2E0, 8, 32)
  | 1 => (0x3E0, 8, 32)
  | 2 => (0x2D0, 2, 8)
  | 3 => (0x680, 8, 1)
  | 4 => (0x2A0, 4, 8)
  | 5 => (0x040, 2, 304)
  | 6 => (0x4E0, 13, 16)
  | 7 => (0x5B0, 13, 16)
  | 8 => (0x002, 2, 1)
  | _ => (0x004, 4, 1)

/-- The first page of a slot. -/
def slotPage (r k : Nat) : Nat := (slotRing r).1 + (slotRing r).2.2 * k

/-- The first pages of a ring's slots. -/
def slotPages (r : Nat) : List Nat := (List.range (slotRing r).2.1).map (slotPage r)

/-- Slots of a ring that are not retired. -/
def Nvm.usable (v : Nvm) (r : Nat) : List Nat := (slotPages r).filter (fun p => !v.retired.contains p)

/-- The slot for the next record of a ring: the first from the one after the last written that is neither retired nor
protected (R399, R403). -/
def Nvm.nextSlot (v : Nvm) (r : Fin 10) : Nat :=
  let n := (slotRing r).2.1
  let c := (List.range n).map (fun i => (v.slots[r] + i) % n)
  (c.find? (fun k => !v.retired.contains (slotPage r k) && !v.guarded.contains (slotPage r k))).getD (v.slots[r] % n)

/-- Which slot ring a request writes. -/
def NvmKind.ring : NvmKind → Option (Fin 10)
  | .checkpoint r _ => some ⟨r.val, by omega⟩
  | .lastGasp => some 2
  | .calibration _ => some 3
  | .calendar _ => some 4
  | .config _ => some 5
  | .snapshot g _ => some ⟨6 + g.val, by omega⟩
  | .owner _ => some 8
  | .seals _ => some 9
  | _ => none

/-- The slot of a request. -/
def NvmKind.slot : NvmKind → Nat
  | .checkpoint _ k => k
  | .calibration k => k
  | .calendar k => k
  | .config c => c.val
  | .snapshot _ k => k
  | .owner k => k
  | .seals k => k
  | _ => 0

/-- The same request in another slot. -/
def NvmKind.moveTo : NvmKind → Nat → NvmKind
  | .checkpoint r _, k => .checkpoint r k
  | .calibration _, k => .calibration k
  | .calendar _, k => .calendar k
  | .config _, k => .config (if k % 2 = 0 then 0 else 1)
  | .snapshot g _, k => .snapshot g k
  | .owner _, k => .owner k
  | .seals _, k => .seals k
  | x, _ => x

/-! ### The controller's queue (R395) -/

/-- The request that the controller takes next: the lowest class, in order of arrival within it. -/
def nvmPick : List NvmReq → Option NvmReq
  | [] => none
  | r :: l =>
    match nvmPick l with
    | none => some r
    | some b => if r.cls ≤ b.cls then some r else some b

/-- Remove the first request of the class that is taken. -/
def nvmDrop (c : Nat) : List NvmReq → List NvmReq
  | [] => []
  | r :: l => if r.cls = c then l else r :: nvmDrop c l

/-- Take the next request when no operation runs. -/
def Nvm.next (v : Nvm) : Nvm :=
  match v.running with
  | some _ => v
  | none =>
    match nvmPick v.queue with
    | none => v
    | some r => { v with running := some r, queue := nvmDrop r.cls v.queue }

/-- Queue a request. -/
def State.nvmQueue (s : State) (r : NvmReq) : State := { s with nvm := Nvm.next { s.nvm with queue := s.nvm.queue ++ [r] } }

/-- Put the rest of a request that has operations left ahead of its class, and take the next. -/
def Nvm.requeue (v : Nvm) (r : NvmReq) : Nvm := Nvm.next { v with running := none, queue := r :: v.queue }

/-- Queue a record of a slot ring: it takes the ring's next slot and the kind's next sequence number. -/
def State.storeRecord (s : State) (ring seqKind : Fin 10) (cls : Nat) (mk : Nat → NvmKind) (payload : List Byte) : State :=
  let v := s.nvm
  let k := v.nextSlot ring
  let seq := v.seqs[seqKind]
  let page := slotPage ring k
  let ops := groupOps (recordWrites payload seq page (min (slotRing ring).2.2 (max 1 (cdiv payload.length 248))))
  let v := { v with seqs := v.seqs.set seqKind (seq + 1), slots := v.slots.set ring ((k + 1) % (slotRing ring).2.1) }
  State.nvmQueue { s with nvm := v } { cls := cls, kind := mk k, ops := ops, payload := payload, seq := seq, page := page }

/-- Abandon the running operation and every queued request (R397, R408): in each page the words whose programming had
completed are new, and so may be the word in progress: how many is a free value. -/
def State.nvmAbandon (s : State) : State :=
  match s.nvm.running with
  | none => { s with nvm := { s.nvm with queue := [] } }
  | some r =>
    let s := (r.ops.headD []).foldl (fun s w =>
      let (k, s) := State.drawNat s
      { s with nvm := s.nvm.writeSome w (k % (w.bytes.length / 8 + 1)) }) s
    { s with nvm := { s.nvm with running := none, queue := [] } }

/-- A failed verify of a device record (R400): the slot is retired, the record is written again into the next slot,
VERIFY is set and the interrupt raised. A request that is no slot record is written again as it stands. -/
def State.nvmFail (s : State) (r : NvmReq) : State :=
  let s := (s.sf NVM_ERR_VERIFY 1).raise 7
  match r.kind.ring with
  | none => { s with nvm := Nvm.requeue s.nvm r }
  | some ring =>
    let v : Nvm := { s.nvm with retired := r.page :: s.nvm.retired }
    let k := v.nextSlot ring
    let page := slotPage ring k
    let ops := groupOps (recordWrites r.payload r.seq page (min (slotRing ring).2.2 (max 1 (cdiv r.payload.length 248))))
    let v : Nvm := { v with slots := v.slots.set ring ((k + 1) % (slotRing ring).2.1) }
    let s := { s with nvm := Nvm.requeue v { r with ops := ops, page := page, kind := r.kind.moveTo k } }
    let s := if (v.usable ring).length ≤ 1 then s.sf NVM_STAT_DEGRADED 1 else s
    (s.sf NVM_RETIRED_PAGE r.page).incSat NVM_RETIRED_COUNT 1

/-! ### The log archive (R406) -/

/-- Queue the waiting archive entries: three to a page, the oldest overwritten. -/
def State.archFlush (s : State) : State :=
  s.nvm.arch.foldl (fun s e =>
    let p := s.nvm.archPos
    let page := 0x688 + p / 3
    let old := s.nvm.read (256 * page) 192
    let k := p % 3
    let body := old.take (64 * k) ++ e ++ old.drop (64 * k + 64)
    State.nvmQueue { s with nvm := { s.nvm with archPos := (p + 1) % 360 } }
      { cls := 7, kind := .archive, ops := [[{ page := page, word := 0, bytes := pageBytes body p page }]] })
    { s with nvm := { s.nvm with arch := [] } }

/-! ### The security region (R435, Table 19-1) -/

/-- Queue the owner record: compressed key, install time, session number (R438, R439). -/
def State.storeOwner (s : State) : State :=
  let (p, x) := s.sec.owner.getD (0, 0)
  s.storeRecord 8 8 6 NvmKind.owner (leBytes 1 p ++ beBytes 32 x ++ leBytes 8 s.sec.installT ++ leBytes 4 s.sec.sessNo)

/-- The owner record's write is complete. A stored key stays (R438). -/
def State.ownerStored (s : State) (b : List Byte) : State :=
  let key := if leAt b 0 1 = 0 then none else some (leAt b 0 1, ofBe ((b.drop 1).take 32))
  { s with sec := { s.sec with stOwner := s.sec.stOwner.or key, stT := leAt b 33 8, stNo := leAt b 41 4 } }

/-- Queue the next reservation of the seal counter, 2^20 above the stored one (R448). -/
def State.storeSeals (s : State) : State :=
  if s.sec.mdue then s
  else State.storeRecord { s with sec := { s.sec with mdue := true } } 9 9 6 NvmKind.seals (leBytes 8 (s.sec.mres + 2 ^ 20))

/-- A reservation's write is complete. -/
def State.sealsStored (s : State) (b : List Byte) : State := { s with sec := { s.sec with mres := max s.sec.mres (leAt b 0 8), mdue := false } }

/-- Queue the overwrite of both device key records with zeros, the public key fields kept (R452). -/
def State.storeKeyZero (s : State) : State :=
  let body := pubKey s.chip.devKey ++ zeros 60
  s.nvmQueue { cls := 6, kind := .devKey, ops := [[{ page := 0, word := 0, bytes := pageBytes body 2 0 }, { page := 1, word := 0, bytes := pageBytes body 2 1 }]] }

/-! ### The configuration record (R405) -/

/-- The ranges of BAR0 whose RW and RWS fields the configuration record holds. -/
def cfgStored (off : Nat) : Bool :=
  (0x200 ≤ off && off < 0x1400) || (0x1800 ≤ off && off < 0x1A00) || off ≥ 0x1F00 || off = 0x44 || off = 0x9C || off = 0x1D30

/-- A field that the configuration record holds: RW or RWS, no trigger (a trigger reads 0); of DMA_CFG only W2EN. The
calibration constants have their own record, the calendar data word is an image access. -/
def cfgField (off : Nat) (f : FldRow) : Bool :=
  (f.acc == .rw || f.acc == .rws) && cfgStored off && off != 0x1044 && !(off = 0xA00 && f.lo = 8) && off != 0xA04 &&
  off != 0x1000 && off != 0x1048 && !(0xB00 ≤ off && off < 0xC00) && off != 0xA20 && off != 0x1040 && off != 0x1060 &&
  !(0xE1C ≤ off && off < 0xE30)

/-- The registers of a row. -/
def RegRow.offs (r : RegRow) : List Nat := (List.range r.count).map (fun i => r.base + r.stride * i)

/-- The value of a register word from its listed fields. -/
def State.rawWord (s : State) (off : Nat) : Nat :=
  match regRow off with
  | none => 0
  | some r => (r.fields.map (fun f => s.gf ⟨off, f.lo, f.w⟩ * 2 ^ f.lo)).sum

/-- The 4096 histogram descriptors as bytes (R405). -/
def State.histBytes (s : State) : List Byte :=
  (List.range 4096).flatMap (fun i =>
    let h := SMap.get (fun _ => {}) s.stat.hists i
    leBytes 4 h.d0 ++ leBytes 4 h.d1 ++ leBytes 4 h.d2 ++ leBytes 4 h.d3)

/-- Load the descriptors (R241): counts and status start afresh. -/
def State.histLoad (s : State) (bs : List Byte) : State :=
  (List.range 4096).foldl (fun s i =>
    let h : Hist := { d0 := leAt bs (16 * i) 4, d1 := leAt bs (16 * i + 4) 4, d2 := leAt bs (16 * i + 8) 4, d3 := leAt bs (16 * i + 12) 4 }
    { s with stat := { s.stat with hists := SMap.set (fun _ => {}) s.stat.hists i h } }) s

/-- The stored fields of every register as bytes: for each register in offset order its word, cut to those fields. -/
def State.cfgBytes (s : State) : List Byte :=
  (regMap.flatMap (fun r =>
    if r.fields.any (cfgField r.base) then
      r.offs.flatMap (fun o => leBytes 4 ((r.fields.map (fun f => if cfgField o f then s.gf ⟨o, f.lo, f.w⟩ * 2 ^ f.lo else 0)).sum))
    else [])) ++ leBytes 4 (s.gf DMA_CFG_W2EN) ++ s.histBytes

/-- Load the stored fields from bytes. -/
def State.cfgLoad (s : State) (bs : List Byte) : State :=
  let r := regMap.foldl (fun (acc : State × List Byte) r =>
    if r.fields.any (cfgField r.base) then
      r.offs.foldl (fun (acc : State × List Byte) o =>
        (r.fields.foldl (fun s f => if cfgField o f then s.sf ⟨o, f.lo, f.w⟩ (leAt acc.2 0 4 / 2 ^ f.lo) else s) acc.1, acc.2.drop 4)) acc
    else acc) (s, bs)
  (r.1.sf DMA_CFG_W2EN (leAt r.2 0 4)).histLoad (r.2.drop 4)

end Sys2Proof.Machine
end

