-- ==== Sys2Proof/Machine/Queue.lean ====
section
/-! DEFINITION. Codes of records; the histograms' descriptors and the update queue of the statistics engine (R234 to R236, R244, R245). -/

namespace Sys2Proof.Machine

/-! ### Class codes (Table 12-4), flags (Table 13-2), gap causes (Table 1-5) -/

abbrev clsCMD : Nat := 0
abbrev clsCPL : Nat := 1
abbrev clsSMP : Nat := 2
abbrev clsCYC : Nat := 3
abbrev clsAGG : Nat := 4
abbrev clsEVT : Nat := 5
abbrev clsCAP : Nat := 6
abbrev clsSPC : Nat := 7
abbrev clsSTA : Nat := 8
abbrev clsBIL : Nat := 9
abbrev clsSEC : Nat := 10
abbrev clsLOG : Nat := 11

abbrev flGap : Nat := 1
abbrev flFlagged : Nat := 2
abbrev flHalt : Nat := 4
abbrev flReplayed : Nat := 8
abbrev flUncompared : Nat := 16
abbrev flPoison : Nat := 32
abbrev flTimestep : Nat := 64
abbrev flReset : Nat := 128
abbrev flPartial : Nat := 256
abbrev flSummary : Nat := 512

abbrev gapReset : Nat := 1
abbrev gapPowerLoss : Nat := 2
abbrev gapHalt : Nat := 3
abbrev gapFenced : Nat := 4
abbrev gapStopped : Nat := 5
abbrev gapSliceLost : Nat := 6
abbrev gapCoreStall : Nat := 7
abbrev gapUncorrectable : Nat := 8
abbrev gapRingFull : Nat := 9

/-- No sample source (Table 1-4). -/
abbrev srcNone : Nat := 0xFFFF
/-- The source id of a group. -/
def srcGrp (g : Nat) : Nat := 0x20 + g
/-- The source id of a transient input. -/
def srcTr (n : Nat) : Nat := 0x10 + n

/-! ### Histograms -/

/-- Histogram i, and a change of it. -/
def State.hist (s : State) (i : Nat) : Hist := SMap.get (fun _ => {}) s.stat.hists i
def State.setHist (s : State) (i : Nat) (f : Hist → Hist) : State :=
  { s with stat := { s.stat with hists := SMap.set (fun _ => {}) s.stat.hists i (f (s.hist i)) } }

/-- Descriptor fields (Table 10-8). -/
def Hist.qid (h : Hist) : Nat := h.d0 % 2 ^ 24
def Hist.level (h : Hist) : Nat := h.d0 / 2 ^ 24 % 4
def Hist.log (h : Hist) : Bool := h.d0.testBit 26
def Hist.flagPol (h : Hist) : Nat := h.d0 / 2 ^ 27 % 4
def Hist.en (h : Hist) : Bool := h.d0.testBit 31
def Hist.base (h : Hist) : Nat := h.d1 % 2 ^ 20
def Hist.log2n (h : Hist) : Nat := h.d1 / 2 ^ 20 % 16
def Hist.size (h : Hist) : Nat := 2 ^ h.log2n
def Hist.kind (h : Hist) : Nat := h.qid / 65536 % 128
def Hist.elem (h : Hist) : Nat := h.qid / 256 % 256
def Hist.index (h : Hist) : Nat := h.qid % 256
def Hist.group (h : Hist) : Nat := h.qid / 2 ^ 23

/-- A kind's number of elements (Table 10-5). -/
def kindElems : Nat → Nat
  | 0 => 8 | 1 => 3 | 2 => 1 | 3 => 4 | 4 => 4 | 5 => 4 | 6 => 4 | 7 => 4
  | 0x10 => 8 | 0x11 => 8 | 0x12 => 8 | 0x13 => 8 | 0x14 => 8 | 0x15 => 8 | 0x16 => 8
  | 0x20 => 2 | 0x21 => 2 | 0x22 => 3 | 0x30 => 1 | 0x31 => 3 | 0x32 => 3 | 0x40 => 8 | 0x41 => 8 | 0x42 => 8
  | _ => 0

/-! ### The update queue -/

/-- The elements of a histogram's kind that an aggregate of a source holds. -/
def Hist.elems (h : Hist) (src : Nat) : List Nat :=
  if decide (0x40 ≤ h.kind) then (if 0x10 ≤ src ∧ src < 0x18 ∧ (h.elem = 0xFF ∨ h.elem = src - 0x10) then [src - 0x10] else [])
  else if src = srcGrp h.group then (if h.elem = 0xFF then List.range (kindElems h.kind) else [h.elem]) else []

/-- A histogram admits a value of an aggregate's flags (FLAGPOL). -/
def Hist.admits (h : Hist) (flags : Nat) : Bool := match h.flagPol with | 1 => !flags.testBit 1 | 2 => flags.testBit 1 | _ => true

/-- The items of an aggregate (R236): one for each value that an enabled histogram of its level names. -/
def State.statItems (s : State) (a : AggIn) : List StatItem :=
  (s.stat.hists.flatMap (fun e =>
    if e.2.en && e.2.level == a.lvl then
      (e.2.elems a.src).map (fun el =>
        let q := e.2.qid - 256 * e.2.elem + 256 * el
        StatItem.inc e.1 (if e.2.admits a.flags then (a.vals.find? (fun v => v.1 == q)).map Prod.snd else none))
    else [])) ++ [.mark a.lvl a.seq]

/-- An item is an increment. -/
def StatItem.isInc : StatItem → Bool
  | .inc _ _ => true
  | .mark _ _ => false

/-- Ends of aggregates at the front state their SEQs (R244), at most `fuel`. -/
def State.statMarks : Nat → State → State
  | 0, s => s
  | k + 1, s =>
    match s.stat.waits with
    | .mark l q :: r => State.statMarks k (State.sf { s with stat := { s.stat with waits := r } } (STAT_LASTSEQ_SEQ (l % 4)) q)
    | _ => s

/-- Increments that wait, the queue's depth and its high-water mark (R245). -/
def State.statDepth (s : State) : State :=
  let n := (s.stat.waits.filter StatItem.isInc).length
  let q := min n 2048
  let s := if n ≠ 0 ∧ !s.gb AGG_STAT_DRAINING then State.sf { s with stat := { s.stat with drainT := some s.now } } AGG_STAT_DRAINING 1 else s
  s.sfs [(AGG_STAT_QDEPTH, q), (AGG_QMAX_QHWM, max (s.gf AGG_QMAX_QHWM) q)]

/-- An aggregate that has its place reaches the engine, with the increments of every histogram that it feeds; none is queued while
STAT_CTRL.EN is 0 (R239, R245). -/
def State.statTake (s : State) (a : AggIn) : State :=
  if !s.gb STAT_CTRL_EN || s.spiOnly then s
  else
    let w := s.stat.waits ++ s.statItems a
    (State.statMarks w.length { s with stat := { s.stat with waits := w } }).statDepth

/-- The ring of a level goes on for the first time since the reset: the histograms that the stored configuration enabled count from the
SEQ after its opening record (R241). -/
def State.statRingOn (s : State) (lvl seq : Nat) : State :=
  if s.stat.lvlOn.testBit lvl then s
  else
    let hs := s.stat.hists.map (fun e => if e.2.en && e.2.level == lvl then (e.1, { e.2 with hseq := seq }) else e)
    { s with stat := { s.stat with lvlOn := s.stat.lvlOn ||| 2 ^ lvl, hists := hs } }

end Sys2Proof.Machine
end

