-- ==== Sys2Proof/Machine/Record.lean ====
section
/-! DEFINITION. Records: their bytes (chapter 13), their places on the rings, the lossless reserve, gaps, SUMMARY
records, write-back and completions (chapters 12 and 14). -/

namespace Sys2Proof.Machine

/-- The flag bits of either word. -/
def orFlags (a b : Nat) : Nat := a ||| b

/-! ### Bytes -/

/-- Ring entries that a record occupies (R302). -/
def Rec.entries (r : Rec) : Nat := 1 + cdiv r.payload.length 64

/-- The first 60 header bytes (Table 13-1). -/
def Rec.head60 (r : Rec) (seq ring : Nat) (chain8 : List Byte) : List Byte :=
  leBytes 4 seq ++ leBytes 1 r.cls ++ leBytes 1 ring ++ leBytes 2 r.flags ++ leBytes 8 r.tStart ++ leBytes 8 r.tEnd ++
  leBytes 6 r.si ++ leBytes 2 r.src ++ leBytes 4 r.count ++ leBytes 4 r.payload.length ++ zeros 8 ++ chain8 ++
  leBytes 4 r.aux

/-- The 64-byte header (R304, R305). -/
def Rec.header (r : Rec) (seq ring : Nat) (chain : List Byte) : List Byte :=
  let h := r.head60 seq ring (chain.take 8)
  h ++ leBytes 4 (crc32c h)

/-- The bytes of a record's entries: header, payload, zeros to the end of the last entry (R302). -/
def Rec.bytes (r : Rec) (hdr : List Byte) : List Byte :=
  hdr ++ r.payload ++ zeros (64 * (r.entries - 1) - r.payload.length)

/-- A record in the form a SUMMARY digests: SEQ, CHAIN and HCRC read 0 (R340). -/
def Rec.digestBytes (r : Rec) (ring : Nat) : List Byte := r.head60 0 ring (zeros 8) ++ zeros 4 ++ r.payload

/-- The SUMMARY record of the records it condenses (R308, R340). -/
def summaryRec (seq ring : Nat) (recs : List Rec) : Rec :=
  match recs with
  | [] => { cls := clsLOG, src := srcNone, tStart := 0, tEnd := 0, flags := flSummary }
  | a :: _ =>
    { cls := a.cls, src := a.src, flags := recs.foldl (fun f r => f ||| r.flags) flSummary,
      tStart := a.tStart, tEnd := (recs.getLastD a).tEnd, si := a.si,
      count := (recs.map Rec.count).sum % 2 ^ 32, aux := 0,
      payload := leBytes 4 recs.length ++ leBytes 4 (maskOf ((recs.map (fun r => r.aux % 256)).filter (· < 32))) ++
        leBytes 4 seq ++ zeros 4 ++ sha256 (recs.flatMap (fun r => r.digestBytes ring)) }

/-- A record some of whose 32-byte payload spans were lost in the reserve or in staging (R345, Table 14-6): it carries POISON, and
every byte of each lost span reads 0xFF. -/
def Rec.blank (r : Rec) (spans : List Nat) : Rec :=
  if spans.isEmpty then r
  else { r with flags := r.flags ||| flPoison
                payload := (List.range r.payload.length).map (fun i => if spans.contains (i / 32) then (0xFF : Byte) else r.payload.getD i 0) }

/-- A LOG record of a kind and subkind about now (R323). -/
def State.logRec (s : State) (kind sub : Nat) (payload : List Byte) : Rec :=
  { cls := clsLOG, src := srcNone, tStart := s.stamp, tEnd := s.stamp, aux := kind + 256 * sub, payload := payload }

/-! ### Rings -/

/-- Change one ring. -/
def State.setRing (s : State) (n : Fin 64) (f : Ring → Ring) : State := { s with rings := s.rings.set n (f s.rings[n]) }

/-- Fabric master m is wedged (R348). -/
def State.wedged (s : State) (m : Nat) : Bool := s.mbit WDOG_STAT_WEDGED m

/-- The host is served: link up since the last full reset, Bus Master Enable, D0 (R271, R272), records may become
visible (R517), and neither DMA write nor the security engine, which gives each record its chain value, is wedged (R348, Table 15-5). -/
def State.served (s : State) : Bool :=
  s.mayDma && s.isReady && !s.wedged 6 && !s.wedged 8

/-- The streams of a class depend on a wedged master and are no longer fed (R348, Tables 15-2, 15-5): SPC on the spectral engine, EVT
on the event engine, CAP on the capture engine, CYC and AGG on the aggregation engine and the event engine's verdict, STA on the
statistics. -/
def State.starved (s : State) (cls : Nat) : Bool :=
  if cls = clsSPC then s.wedged 2
  else if cls = clsEVT then s.wedged 3
  else if cls = clsCAP then s.wedged 4
  else if cls = clsCYC ∨ cls = clsAGG then s.wedged 3 || s.wedged 5
  else cls == clsSTA && s.wedged 5

/-- Entries free on a device-written ring (R286). -/
def Ring.free (r : Ring) : Nat := 2 ^ r.log2 - (r.dev + 2 ^ 32 - r.host) % 2 ^ 32

/-- A ring carries the stream of a class, source and level (R283, Table 12-4). -/
def Ring.carries (r : Ring) (cls src lvl : Nat) : Bool :=
  (decide (r.st = .on) || decide (r.st = .halted)) && decide (r.cls = cls) &&
  match cls with
  | 2 => if src < 16 then r.param.testBit src else decide (src < 24) && r.param.testBit src
  | 3 => decide (32 ≤ src) && r.param.testBit (src - 32)
  | 4 => decide (r.param % 4 = lvl)
  | 5 => if src < 24 then r.param.testBit src else decide (32 ≤ src) && r.param.testBit (src - 8)
  | 7 => if src < 24 then r.param.testBit (src - 8) else decide (32 ≤ src) && r.param.testBit (src - 32)
  | 9 => decide (32 ≤ src) && r.param.testBit (src - 32)
  | _ => true

/-- The ring that carries a stream, if any. -/
def State.carrier (s : State) (cls src lvl : Nat) : Option (Fin 64) :=
  (fins 64).find? (fun n => s.rings[n].carries cls src lvl)

/-- Lossy classes (Table 12-4). -/
def isLossy (cls : Nat) : Bool := cls == 2 || cls == 3 || cls == 6 || cls == 7

/-- Classes whose records wait for their T_START order (R329). -/
def isHeld (cls : Nat) : Bool := cls == 3 || cls == 4 || cls == 7 || cls == 9

/-- An opening record (R333). -/
def Rec.isOpening (r : Rec) : Bool := r.flags == flReset && r.src == srcNone && r.payload.length == 32

/-- A record of the protected share (Table 14-4). -/
def Rec.isProtected (r : Rec) : Bool := r.cls == clsSEC || r.cls == clsCPL || r.isOpening || (r.cls == clsLOG && r.aux % 256 == 1)

/-- Bytes of the reserve that an item takes: whole entries. -/
def QItem.size : QItem → Nat
  | .placed _ r => 64 * r.entries
  | .summary _ _ _ _ => 128

/-- The item counts in the general share. -/
def QItem.general : QItem → Bool
  | .placed _ r => !r.isProtected
  | .summary _ _ _ _ => false

/-- An ANCHOR record that waits. -/
def QItem.anchor : QItem → Bool
  | .placed _ r => r.cls == clsLOG && r.aux % 256 == 1
  | .summary _ _ _ _ => false

/-- Everything that waits in the reserve. -/
def State.waitingItems (s : State) : List QItem :=
  s.rings.toList.flatMap (fun r => r.q) ++ s.heldLog ++ s.heldSec.map (QItem.placed 0)

/-- Bytes used of the general share. -/
def State.generalUsed (s : State) : Nat := ((s.waitingItems.filter QItem.general).map QItem.size).sum

/-- RESERVE_STAT.USED: KiB of all three shares, rounded up. -/
def State.reserveKiB (s : State) : Nat := cdiv ((s.waitingItems.map QItem.size).sum) 1024

/-- Bytes of waiting ANCHOR records (R339). -/
def State.anchorBytes (s : State) : Nat := ((s.waitingItems.filter QItem.anchor).map QItem.size).sum

/-- SUMMARY records now open (ERR_SUMM.OPEN). -/
def State.openSummaries (s : State) : Nat :=
  (s.waitingItems.filter (fun i => match i with | .summary _ f _ _ => f | .placed _ _ => false)).length

/-- A waiting LOG record was raised by the Kettle (R274). -/
def State.tamperWaits (s : State) : Bool :=
  s.waitingItems.any (fun i => match i with
    | .placed _ r => r.cls == clsLOG && r.aux % 256 == 0x20
    | .summary _ _ l _ => l.any (fun r => r.cls == clsLOG && r.aux % 256 == 0x20))

/-- WAKE_N is asserted (R274): D3hot with PME_En, and the reserve half full or a Kettle record waiting. -/
def State.wake (s : State) : Bool := !s.link.d0 && s.link.pmeEn && (decide (128 ≤ s.reserveKiB) || s.tamperWaits)

/-- Keep PME_Status (R274). -/
def State.pmeUpd (s : State) : State := if s.wake then { s with link := { s.link with pmeStatus := true } } else s

/-- Keep RESERVE_STAT.HWM, PME_Status and ANCHOR_HOLD after a change of what waits (R274, R339, R340). -/
def State.reserveUpd (s0 : State) : State :=
  let s := s0.pmeUpd
  let s := s.sf RESERVE_STAT_HWM (max (s.gf RESERVE_STAT_HWM) (min s.reserveKiB 256))
  let a := s.anchorBytes
  if s.gb ERR_SUMM_ANCHOR_HOLD then (if a < 16384 then s.sf ERR_SUMM_ANCHOR_HOLD 0 else s)
  else if 32768 ≤ a then (s.sf ERR_SUMM_ANCHOR_HOLD 1).raise 11 else s

/-! ### Writing into a ring -/

/-- Write a record into its ring's next entries: header with CHAIN and HCRC, the chain extended (R286, R302, R444,
R445). -/
def State.writeRec (s : State) (n : Fin 64) (seq : Nat) (r0 : Rec) : State :=
  let g := s.rings[n]
  let r := r0.blank g.bad
  let h := r.header seq n g.chain
  let s := { s with out := s.out ++ [DmaWr.record n g.dev (r.bytes h)] }
  s.setRing n (fun g =>
    { g with
      dev := (g.dev + r.entries) % 2 ^ 32
      wSeq := seq
      bad := []
      chain := sha256 (g.chain ++ h ++ r.payload)
      unvis := g.unvis ++ [(r.src, r.tEnd)]
      bilU := if r.cls = clsBIL ∧ r.src ≠ srcNone ∧ r.flags % 2 = 0 then g.bilU ++ [r] else g.bilU })

/-- Write waiting lossless records in place order as entries free (R337), at most `fuel` of them. -/
def State.pump (n : Fin 64) : Nat → State → State
  | 0, s => s
  | k + 1, s =>
    let g := s.rings[n]
    match g.q with
    | [] => s
    | i :: q =>
      let seq := match i with | .placed q _ => q | .summary q _ _ _ => q
      let r := match i with | .placed _ r => r | .summary q _ l b => (summaryRec q n l).blank b
      if s.served && decide (g.st = .on) && decide (r.entries ≤ g.free) then
        State.pump n k (State.writeRec (s.setRing n (fun g => { g with q := q })) n seq r)
      else s

/-- Write what waits on a ring. -/
def State.pumpRing (s : State) (n : Fin 64) : State := (State.pump n s.rings[n].q.length s).reserveUpd

/-- Take the next place on a ring (R327, R330). -/
def State.takePlace (s : State) (n : Fin 64) : State :=
  s.setRing n (fun g => { g with nextSeq := (g.nextSeq + 1) % 2 ^ 32 })

/-- An aggregate that has its place, or is folded, feeds the histograms with the SEQ that it has there (R236, R341). -/
def State.aggNote (s : State) (n : Fin 64) (seq : Nat) (r : Rec) : State :=
  if r.cls = clsAGG ∧ r.flags % 2 = 0 then
    s.statTake { lvl := s.rings[n].param % 4, seq := seq, src := r.src, flags := r.flags, vals := r.vals }
  else s

/-- A ring can take a record at once: it is served and on, and has the record's entries free. -/
def State.takes (s : State) (n : Fin 64) (r : Rec) : Bool := s.served && decide (s.rings[n].st = .on) && decide (r.entries ≤ s.rings[n].free)

/-- A record finds the general share of the reserve full (R340). -/
def State.generalFull (s : State) (r : Rec) : Bool := decide (163840 < s.generalUsed + 64 * r.entries)

/-- A record joins the open SUMMARY it belongs to. -/
def QItem.fold (r : Rec) (i : QItem) : QItem :=
  match i with
  | .summary q true l b => .summary q true (l ++ [r]) b
  | i => i

/-- A LOG record waits while the LOG ring is off (R285); one that finds the general share full is folded into the stream's
SUMMARY, which takes its place when the ring goes on (R340). -/
def State.holdLog (s : State) (r : Rec) : State :=
  let open_ : QItem → Bool := fun i => match i with | .summary _ f _ _ => f | .placed _ _ => false
  if !r.isProtected && s.heldLog.any open_ then { s with heldLog := s.heldLog.map (QItem.fold r) }
  else if !r.isProtected && s.generalFull r then
    ((State.incSat { s with heldLog := s.heldLog ++ [.summary 0 true [r] []] } ERR_SUMM_COUNT 1).raise 11).reserveUpd
  else State.reserveUpd { s with heldLog := s.heldLog ++ [.placed 0 r] }

/-- A lossless record takes its place and enters the queue towards its ring (R327, R337); when it must wait and the general
share is full it is folded into its stream's SUMMARY (R340). -/
def State.placeLossless (s : State) (n : Fin 64) (r : Rec) : State :=
  let g := s.rings[n]
  let mine : QItem → Bool := fun i =>
    match i with
    | .summary _ true (a :: _) _ => a.src == r.src
    | _ => false
  if !r.isProtected && g.q.any mine then
    let seq := match g.q.find? mine with
      | some (.summary q _ _ _) => q
      | _ => 0
    (s.setRing n (fun g => { g with q := g.q.map (fun i => if mine i then i.fold r else i) })).aggNote n seq r
  else if !r.isProtected && !(g.q.isEmpty && s.takes n r) && s.generalFull r then
    let seq := g.nextSeq
    let s := (s.takePlace n).setRing n (fun g => { g with q := g.q ++ [.summary seq true [r] []] })
    (((s.incSat ERR_SUMM_COUNT 1).raise 11).reserveUpd).aggNote n seq r
  else
    let seq := g.nextSeq
    let s := (s.takePlace n).setRing n (fun g => { g with q := g.q ++ [.placed seq r] })
    (s.pumpRing n).aggNote n seq r

/-- The GAP record of a pending gap (R28, R306). -/
def gapRec (cls src : Nat) (g : Gap) : Rec :=
  { cls := cls, src := src, flags := flGap, tStart := g.tStart, tEnd := g.tEnd, si := g.si, count := g.count, aux := g.cause }

/-- Write a record that takes its place now (a lossy record that finds its entries free). -/
def State.writeNow (s : State) (n : Fin 64) (r : Rec) : State :=
  let seq := s.rings[n].nextSeq
  (s.takePlace n).writeRec n seq r

/-- A stream's pending gaps. -/
def Ring.gapsOf (g : Ring) (src : Nat) : List Gap :=
  match g.streams.find? (fun t => t.src == src) with
  | some t => t.gaps
  | none => []

/-- Change a stream's entry. -/
def Ring.setStream (g : Ring) (src : Nat) (f : Stream → Stream) : Ring :=
  { g with streams := g.streams.map (fun t => if t.src == src then f t else t) }

/-- Extend a gap over a further range (R336). -/
def Gap.extend (a b : Gap) : Gap :=
  { a with cause := min a.cause b.cause, tEnd := max a.tEnd b.tEnd, count := (a.count + b.count) % 2 ^ 32 }

/-- Hold a gap on a stream: a RING_FULL gap at the tail grows, and the sixteenth gap takes in what follows (R336). -/
def addGap (l : List Gap) (g : Gap) : List Gap :=
  match l.getLast? with
  | none => [g]
  | some z =>
    if (z.cause == gapRingFull && g.cause == gapRingFull) || 16 ≤ l.length then l.dropLast ++ [z.extend g]
    else l ++ [g]

/-- Write the gaps at the front of a stream's list while entries are free, up to and without a RING_FULL gap at the
tail unless `all` (R336). -/
def State.writeGaps (n : Fin 64) (cls src : Nat) (all : Bool) : List Gap → State → State
  | [], s => s.setRing n (fun g => g.setStream src (fun t => { t with gaps := [] }))
  | g :: l, s =>
    if s.served && decide (s.rings[n].st = .on) && decide (1 ≤ s.rings[n].free) &&
        (all || !(g.cause == gapRingFull && l.isEmpty)) then
      State.writeGaps n cls src all l (s.writeNow n (gapRec cls src g))
    else s.setRing n (fun r => r.setStream src (fun t => { t with gaps := g :: l }))

/-- Write every pending gap of another cause than RING_FULL that the ring has entries for (R336). -/
def State.pumpGaps (s : State) (n : Fin 64) : State :=
  s.rings[n].streams.foldl (fun s t => if t.gaps.isEmpty then s else State.writeGaps n s.rings[n].cls t.src false t.gaps s) s

/-- A lossy record: written with the gaps before it when all entries are free, else dropped into the pending gap
(R336). A GAP record of another cause is held and never dropped. -/
def State.placeLossy (s : State) (n : Fin 64) (r : Rec) : State :=
  let g := s.rings[n]
  let gaps := g.gapsOf r.src
  let own : Gap := { cause := r.aux % 256, tStart := r.tStart, tEnd := r.tEnd, si := r.si, count := r.count }
  if r.flags % 2 = 1 then
    (s.setRing n (fun g => g.setStream r.src (fun t => { t with gaps := addGap t.gaps own }))).pumpGaps n
  else if s.served && decide (g.st = .on) && decide (gaps.length + r.entries ≤ g.free) then
    (State.writeGaps n r.cls r.src true gaps s).writeNow n r
  else
    (s.setRing n (fun g => g.setStream r.src (fun t =>
      { t with gaps := addGap t.gaps { own with cause := gapRingFull } }))).incSat ERR_DROP_COUNT 1

/-- A formed record takes its place, or is dropped or folded. -/
def State.place (s : State) (n : Fin 64) (r : Rec) : State :=
  if isLossy r.cls then s.placeLossy n r else s.placeLossless n r

/-! ### Order holds (R329) -/

/-- The key of a source's open interval of a class and level. -/
def openKey (cls lvl src : Nat) : Nat := (cls * 16 + lvl) * 65536 + src

/-- Note the start of a source's oldest open interval, or that it has none. -/
def State.setOpen (s : State) (cls lvl src : Nat) (t : Option DevTime) : State :=
  { s with openT := SMap.set (fun _ => 0) s.openT (openKey cls lvl src) (match t with | none => 0 | some t => t + 1) }

/-- The least start among the open intervals that a ring's records can still come from. -/
def State.orderBound (s : State) (n : Fin 64) : Option DevTime :=
  let g := s.rings[n]
  let l := s.openT.filter (fun e => g.carries (e.1 / 65536 / 16) (e.1 % 65536) (e.1 / 65536 % 16))
  (l.map (fun e => e.2 - 1)).min?

/-- Insert a record among the held ones by T_START, then source. -/
def insHold (r : Rec) : List Rec → List Rec
  | [] => [r]
  | a :: l => if r.tStart < a.tStart || (r.tStart == a.tStart && r.src < a.src) then r :: a :: l else a :: insHold r l

/-- Place the held records of a ring whose turn has come, at most `fuel`. -/
def State.releaseGo (n : Fin 64) : Nat → State → State
  | 0, s => s
  | k + 1, s =>
    match s.rings[n].hold with
    | [] => s
    | r :: l =>
      let ok := match s.orderBound n with
        | none => true
        | some b => decide (r.tStart ≤ b)
      if ok then State.releaseGo n k (State.place (s.setRing n (fun g => { g with hold := l })) n r) else s

/-- Place what may be placed on every ring with holds. -/
def State.release (s : State) : State :=
  (fins 64).foldl (fun s n => State.releaseGo n s.rings[n].hold.length s) s

/-! ### Forming a record -/

/-- The reset gap that opens a stream (R334). -/
def State.openingGap (s : State) (n : Fin 64) (r : Rec) : Rec :=
  let cov := match s.persist.covered.find? (fun c => c.1 == n.val && c.2.1 == r.src) with
    | some c => c.2.2
    | none => s.rst.tLost
  let e := match SMap.get (fun _ => 0) s.first r.src with
    | 0 => r.tStart
    | t + 1 => t
  gapRec r.cls r.src { cause := if s.rst.powerLoss then gapPowerLoss else gapReset, tStart := cov, tEnd := e, si := 0, count := 0 }

/-- Data-ring classes (R326). -/
def isData (cls : Nat) : Bool := 2 ≤ cls && cls ≤ 9 && cls != clsSTA

/-- Offer a formed record to its ring: the stream's opening gap first (R334), then the order hold (R329). -/
def State.offer (s : State) (n : Fin 64) (r : Rec) : State :=
  let s :=
    if s.rings[n].streams.any (fun t => t.src == r.src) then s
    else
      let s1 := s.setRing n (fun g => { g with streams := g.streams ++ [{ src := r.src, opened := true, covT := 0, gaps := [] }] })
      if isData r.cls && r.src != srcNone then s1.place n (s.openingGap n r) else s1
  if isHeld r.cls then
    State.releaseGo n (s.rings[n].hold.length + 1) (s.setRing n (fun g => { g with hold := insHold r g.hold }))
  else s.place n r

/-- Interval classes take only intervals that opened after their ring's enable (R285). -/
def Ring.tooOld (g : Ring) (r : Rec) : Bool :=
  (r.cls == clsCYC || r.cls == clsAGG || r.cls == clsSPC) && r.flags % 2 == 0 && decide (r.tStart < g.onT)

/-- An entry of the log archive: the header and the first 16 payload bytes, as 64 bytes (R406). The header stands in it without
BUF and CHAIN, which are 0 in a record that has no place yet (log entry 12). -/
def archEntry (r : Rec) : List Byte :=
  let h := r.header 0 0 (zeros 8)
  h.take 0x28 ++ h.drop 0x38 ++ (r.payload.take 16 ++ zeros (16 - (r.payload.take 16).length))

/-- Kinds of LOG record that enter the archive (R406). -/
def archKind (k : Nat) : Bool := [0x02, 0x03, 0x05, 0x09, 0x0A, 0x0D, 0x0E, 0x20].contains k

/-- A record formed in a shadow span carries TIME_HWM in place of a lower time, and TIMESTEP (R134). -/
def State.shadowed (s : State) (r : Rec) : Rec :=
  if s.gb TIME_STATUS_SHADOW then
    { r with tStart := max r.tStart s.ket.hwm, tEnd := max r.tEnd s.ket.hwm, flags := r.flags ||| flTimestep }
  else r

/-- A record with content computed from a slice's words carries UNCOMPARED while no checker runs (R415); that of a cycle interval
or an aggregate has it from its windows. -/
def State.sliced (s : State) (r : Rec) : Rec :=
  if s.gb SLICE_STAT_UNCOMPARED && r.flags % 2 == 0 && (r.cls == clsBIL || (r.cls == clsEVT && 0x20 ≤ r.src && r.src < 0x22)) then
    { r with flags := r.flags ||| flUncompared }
  else r

/-- Form a record of a level: it reaches the ring that carries its stream; a LOG or SEC record waits while its ring is
off (R285); with no ring, a data record is not kept. Without rings at all, LOG records go to the archive (R442). Streams of a wedged
master are not fed. -/
def State.emitL (s : State) (lvl : Nat) (r0 : Rec) : State :=
  let r := s.sliced (s.shadowed r0)
  if !s.isReady || s.starved r.cls then s
  else if s.spiOnly then
    if r.cls = clsLOG then State.archFlush { s with nvm := { s.nvm with arch := s.nvm.arch ++ [archEntry r] } } else s
  else
    let s := { s with formed := s.formed ++ [r] }
    let s := if r.cls = clsLOG && archKind (r.aux % 256) then { s with nvm := { s.nvm with arch := s.nvm.arch ++ [archEntry r] } } else s
    match s.carrier r.cls r.src lvl with
    | some n => if s.rings[n].tooOld r then s else s.offer n r
    | none =>
      if r.cls = clsLOG then s.holdLog r
      else if r.cls = clsSEC then ({ s with heldSec := s.heldSec ++ [r] }).reserveUpd
      else s

/-- Form a record of a class without levels. -/
def State.emit (s : State) (r : Rec) : State := s.emitL 0 r

/-- Form records in order. -/
def State.emits (s : State) (l : List Rec) : State := l.foldl State.emit s

/-- Form a LOG record of a kind. -/
def State.log (s : State) (kind sub : Nat) (payload : List Byte) : State := s.emit (s.logRec kind sub payload)

/-- A GAP record on every ring that carries a stream of a source in one of the named classes (and, for AGG, on every
level). -/
def State.gapOn (s : State) (classes : List Nat) (src : Nat) (g : Gap) : State :=
  classes.foldl (fun s c => if c = clsAGG then [0, 1, 2, 3].foldl (fun s l => s.emitL l (gapRec c src g)) s else s.emit (gapRec c src g)) s

/-! ### Refused sealed writes (R7, R515) -/

/-- The LOG CFG_REJECT record of a refused sealed write: offset, port, value (Table 13-10). -/
def State.cfgReject (s : State) (p : Port) (off : Nat) (v : Word) : State :=
  s.log 4 0 (leBytes 2 off ++ leBytes 1 (if p = .spi then 1 else 0) ++ [0] ++ leBytes 4 v.toNat)

/-- A sealed write from this port is handled now: a session of this port is open and no metrology lock is in force
(R440, R471). -/
def State.sealOpen (s : State) (p : Port) : Bool :=
  match s.sec.session with
  | some ss => ss.port == p && !s.gb KET_STAT_LOCK
  | none => false

/-- List an accepted sealed write in the session's change list (R440). -/
def State.sealList (s : State) (p : Port) (off : Nat) (v : Word) (ctx : Nat) : State :=
  match s.sec.session with
  | some ss =>
    let e := leBytes 2 off ++ leBytes 1 (if p = .spi then 1 else 0) ++ [0] ++ leBytes 4 v.toNat ++ leBytes 4 ctx
    { s with sec := { s.sec with session := some { ss with changes := ss.changes ++ [e] } } }
  | none => s

/-- A write to a register with sealed fields (R515): when it reaches none of them only `plain` applies; when it does,
it is ignored and logged outside a session, and inside one `inside` handles it and says whether it was accepted. -/
def State.rws (s : State) (p : Port) (off : Nat) (v : Word) (ctx : Nat) (reaches : Bool) (plain : State → State)
    (inside : State → Bool × State) : State :=
  if !reaches then plain s
  else if s.sealOpen p then
    let r := inside s
    if r.1 then r.2.sealList p off v ctx else r.2
  else s.cfgReject p off v

/-! ### Completions (R290 to R292, R298, R325) -/

/-- A SEQ is visible on its ring. -/
def Ring.visible (g : Ring) (seq : Nat) : Bool := decide ((g.lastVis + 2 ^ 32 - seq) % 2 ^ 32 < 2 ^ 31)

/-- A ring does not go on taking records: off, refused or halted. -/
def State.notOn (s : State) (n : Nat) : Bool := if h : n < 64 then decide (s.rings[n].st ≠ .on) else true

/-- A request of a kind waits in the store's controller or runs. -/
def State.storing (s : State) (p : NvmKind → Bool) : Bool := (s.nvm.running.toList ++ s.nvm.queue).any (fun r => p r.kind)

/-- What a waiting completion waits for is there (R292): a ring that is not on does not hold it back. -/
def State.cplReady (s : State) (c : Cpl) : Bool :=
  c.marks.all (fun m => s.notOn m.1 || (if h : m.1 < 64 then s.rings[m.1].visible m.2 else true)) &&
  c.first.isEmpty && c.seals.all (fun e => s.notOn e.1) &&
  !(c.owner && s.storing (fun k => match k with | .owner _ => true | _ => false)) &&
  !(c.arch && s.storing (fun k => decide (k = .archive)))

/-- The places that rings gave since a command began: (ring, its newest place). -/
def State.marksSince (s : State) (seq0 : Vector Nat 64) : List (Nat × Nat) :=
  ((fins 64).filter (fun n => s.rings[n].nextSeq ≠ seq0[n] && s.rings[n].cls != clsCPL && decide (s.rings[n].st = .on))).map
    (fun n => (n.val, (s.rings[n].nextSeq + 2 ^ 32 - 1) % 2 ^ 32))

/-- Write bytes into MBOX_DATA from byte 0. -/
def State.mboxData (s : State) (bs : List Byte) : State :=
  (List.range 32).foldl (fun s i => if 4 * i < bs.length then s.sf (MBOX_DATA_DATA i) (leAt bs (4 * i) 4) else s) s

/-- Place a waiting completion once it may, or write a mailbox command's status and results (R298). -/
def State.tryCpl (s : State) : State :=
  match s.cmd.cpl with
  | none => s
  | some c =>
    if !s.cplReady c then s
    else
      let s := { s with cmd := { s.cmd with cpl := none } }
      let s := if s.gb AGG_STAT_HELD then s.sf AGG_STAT_HELD 0 else s
      match c.mbox with
      | none => s.emit c.r
      | some (status, detail, results) =>
        ((s.mboxData results).sfs [(MBOX_STATUS_STATUS, status), (MBOX_DETAIL_DETAIL, detail), (MBOX_STATUS_BUSY, 0), (MBOX_STATUS_DONE, 1)]).raise 0

/-- Complete a command: status of Table 12-6, DETAIL, results; what else it waits for (R292, R298). -/
def State.finishC (s : State) (status detail : Nat) (results : List Byte) (waits : Cpl → Cpl) : State :=
  match s.cmd.cur with
  | none => s
  | some c =>
    let (idx, mbox) := match c.via with
      | .mailbox _ => (0, some (status, detail, results))
      | .ring idx => (idx, none)
    let r : Rec := { cls := clsCPL, src := srcNone, tStart := s.stamp, tEnd := s.stamp,
                     aux := status + 256 * leAt c.entry 0 1 + 65536 * leAt c.entry 2 2,
                     payload := leBytes 4 idx ++ leBytes 4 detail ++ results }
    ({ s with cmd := { s.cmd with cur := none, cpl := some (waits { r := r, marks := s.marksSince c.seq0, first := [], seals := [], mbox := mbox }) } }).tryCpl

/-- Complete a command that waits for groups' FIRST samples or for rings' seals. -/
def State.finishW (s : State) (status detail : Nat) (results : List Byte) (first : List Nat) (seals : List (Nat × Nat)) :
    State :=
  s.finishC status detail results (fun c => { c with first := first, seals := seals })

/-- Complete a command that waits for nothing but its records. -/
def State.finish (s : State) (status detail : Nat) (results : List Byte) : State := s.finishW status detail results [] []

/-- The write-back word of a ring (R289). -/
def Ring.wbWord (g : Ring) : Nat :=
  g.dev + 2 ^ 32 * (match g.st with | .off => 0 | .on => 1 | .halted => 2 | .refused => 3) + 2 ^ 40 * g.err

/-- The entries written become visible (R326): the streams of their records are covered up to them. -/
def Ring.shown (g0 : Ring) (now : DevTime) : Ring :=
  let g := g0.unvis.foldl (fun (g : Ring) e => g.setStream e.1 (fun t => { t with covT := max t.covT e.2 })) g0
  { g with
    pub := g.dev, lastVis := if g.cls = clsCMD ∨ g.unvis = [] then g.lastVis else g.wSeq, visChain := g.chain, unvis := [], bilU := []
    sealOld := if g.cls = clsCMD then none else if g.unvis = [] then g.sealOld else some (g.sealOld.getD now), wbDue := false }

/-- The write-back publishes the entries written. -/
def State.publish (s : State) (n : Fin 64) : State :=
  let s := s.setRing n (fun g => g.shown s.now)
  s.issue (.writeBack n s.rings[n].wbWord)

end Sys2Proof.Machine
end

