-- ==== Sys2Proof/Machine/Trust.lean ====
section
/-! DEFINITION. Seals, signed blocks, seal sessions, the TRNG, and the JTAG port (chapter 19): the operations and the
commands of the security engine. -/

namespace Sys2Proof.Machine

/-! ### Nonces (R432, R437) -/

/-- Draw a fresh nonce; none is issued after a TRNG failure. -/
def State.newNonce (s : State) : State :=
  if s.sec.trngFail then { s with sec := { s.sec with nonce := [] } } else
  let (b, s) := s.drawBytes 16
  { s with sec := { s.sec with nonce := b } }

/-! ### Seals (R446 to R452) -/

/-- The SEC ring, if it is on or halted. -/
def State.ringOf (s : State) (cls : Nat) : Option (Fin 64) := s.carrier cls srcNone 0

/-- A seal of ring n waits in the reserve (R338). -/
def State.sealWaits (s : State) (n : Nat) : Bool :=
  s.waitingItems.any (fun i => match i with
    | .placed _ r => r.cls == clsSEC && !r.isOpening && leAt r.payload 0 1 == n
    | .summary _ _ _ _ => false)

/-- Ring n has a visible record above the SEQ_LAST of its last seal. -/
def Ring.unsealed (g : Ring) : Bool :=
  (decide (g.st = .on) || decide (g.st = .halted)) && g.cls != clsCMD && g.cls != clsSEC &&
  match g.sealed with
  | none => g.visible g.openSeq
  | some q => g.lastVis != q

/-- Visible records not yet sealed. -/
def Ring.unsealedCount (g : Ring) : Nat :=
  match g.sealed with
  | none => (g.lastVis + 2 ^ 32 + 1 - g.openSeq) % 2 ^ 32
  | some q => (g.lastVis + 2 ^ 32 - q) % 2 ^ 32

/-- Begin signing the oldest due seal: its contents are fixed (R446). It waits while CORE has no clock (R451), while the engine is wedged (R348), and until the store
holds a reservation above MCOUNT (R448). -/
def State.startSign (s : State) : State :=
  match s.sec.signing, s.sec.due with
  | none, (n, c) :: l =>
    if s.time.coreStop || s.wedged 8 || decide (s.sec.mres ≤ s.sec.mcount) || !s.forms then s
    else if h : n < 64 then
      let g := s.rings[n]
      let first := match g.sealed with | none => g.openSeq | some q => (q + 1) % 2 ^ 32
      let sg : Signing := { ring := n, cause := c, seqFirst := first, seqLast := g.lastVis, chain := g.visChain, time := s.stamp }
      let s := { s with sec := { s.sec with signing := some sg, due := l } }
      s.setRing ⟨n, h⟩ (fun g => { g with sealed := some g.lastVis, sealOld := none })
    else { s with sec := { s.sec with due := l } }
  | _, _ => s

/-- A seal of ring n becomes due with a cause, unless one is due or in signing or waits in the reserve (R338, R446). -/
def State.makeDue (s : State) (n : Fin 64) (cause : Nat) : State :=
  if s.forms && s.rings[n].unsealed && !s.sealWaits n && !s.sec.due.any (fun d => d.1 == n.val) &&
      (match s.sec.signing with | some g => g.ring != n.val | none => true) then
    State.startSign { s with sec := { s.sec with due := s.sec.due ++ [(n.val, cause)] } }
  else s

/-- The seal payload before its signature (Table of R321): bytes 0x00 to 0x5F. -/
def Signing.body (g : Signing) (mcount : Nat) (prev : List Byte) : List Byte :=
  leBytes 1 g.ring ++ zeros 3 ++ leBytes 4 g.seqFirst ++ leBytes 4 g.seqLast ++ zeros 4 ++ leBytes 8 mcount ++
  leBytes 8 g.time ++ g.chain ++ prev

/-- "SVETVA-S" and "SVETVA-C" as bytes. -/
def svetvaS : List Byte := [0x53, 0x56, 0x45, 0x54, 0x56, 0x41, 0x2D, 0x53]
def svetvaC : List Byte := [0x53, 0x56, 0x45, 0x54, 0x56, 0x41, 0x2D, 0x43]

/-- The device key signs no more: zeroised or debug-unlocked (R452, R456). -/
def State.unsigned (s : State) : Bool := s.sec.zeroised || s.sec.dbg

/-- A seal of a ring up to SEQ `last` answers what a completion waits for: a seal of that ring that covers a SEQ. -/
def sealMeets (ring last : Nat) (e : Nat × Nat) : Bool := e.1 == ring && decide ((last + 2 ^ 32 - e.2) % 2 ^ 32 < 2 ^ 31)

/-- Note in a waiting completion that a ring's seal up to `last` has taken a place (R450); one that does not reach the SEQ waited
for is followed by another. -/
def State.cplSealed (s : State) (ring last : Nat) : State :=
  match s.cmd.cpl with
  | none => s
  | some c =>
    if c.seals.any (fun e => e.1 == ring) then
      let m := match s.ringOf clsSEC with
        | some n => [(n.val, (s.rings[n].nextSeq + 2 ^ 32 - 1) % 2 ^ 32)]
        | none => []
      let left := c.seals.filter (fun e => !sealMeets ring last e)
      let s := State.tryCpl { s with cmd := { s.cmd with cpl := some { c with marks := c.marks ++ m, seals := left } } }
      left.foldl (fun (s : State) (e : Nat × Nat) => if h : e.1 < 64 then (if e.1 = ring then s.makeDue ⟨e.1, h⟩ 3 else s) else s) s
    else s

/-- The signature of the seal in signing is complete: the seal record takes its place on the SEC ring, MCOUNT counts, and
the next due seal begins (R447, R448). -/
def State.sealFinish (s : State) : State :=
  match s.sec.signing with
  | none => s
  | some g =>
    let prev := if s.sec.prev = [] then zeros 32 else s.sec.prev
    let b := g.body s.sec.mcount prev
    let sig := if s.unsigned then zeros 64 else ecdsaSign s.chip.devKey (svetvaS ++ leBytes 8 s.chip.uid ++ b)
    let p := b ++ sig
    let r : Rec := { cls := clsSEC, src := srcNone, tStart := g.time, tEnd := g.time, aux := g.cause, payload := p }
    let mc := s.sec.mcount + 1
    let s := { s with sec := { s.sec with signing := none, prev := sha256 p, mcount := mc, sigCount := s.sec.sigCount + 1 } }
    let s := if s.sec.mres < mc + 2 ^ 19 then s.storeSeals else s
    ((s.emit r).cplSealed g.ring g.seqLast).startSign

/-- The debug unlock's last steps once its seals are signed (R456): zeroise, fuse, open. -/
def State.unlockEnd (s : State) : State :=
  if s.sec.unlocking && s.sec.signing.isNone && s.sec.due.isEmpty then
    State.storeKeyZero { s with sec := { s.sec with unlocking := false, zeroised := true, dbg := true } }
  else s

/-- Zeroise the device key (R452): a signature in progress is abandoned and its seal formed unsigned; the key records are
overwritten. -/
def State.zeroise (s : State) : State := (State.sealFinish { s with sec := { s.sec with zeroised := true } }).storeKeyZero

/-! ### Signed blocks (R436, R437) -/

/-- The point of a compressed key. -/
def decompress (pfx x : Nat) : List Byte :=
  let p := p256P
  let y := powMod p 256 ((x * x * x + (p - 3) * x + p256B) % p) ((p + 1) / 4) 1
  let y := if y % 2 = pfx % 2 then y else p - y
  beBytes 32 x ++ beBytes 32 y

/-- The owner's public key. -/
def State.ownerKey (s : State) : List Byte :=
  match s.sec.owner with
  | some (p, x) => decompress p x
  | none => []

/-- A block's kind, PARAM and nonce. -/
def blkKind (b : List Byte) : Nat := leAt b 0 1
def blkParam (b : List Byte) : List Byte := (b.drop 0x20).take 32
def blkNonce (b : List Byte) : List Byte := (b.drop 0x10).take 16

/-- The checks of R437 but the signature: UID, nonce in force, kind, PFX and reserved bytes, PARAM. -/
def State.blkFields (s : State) (b : List Byte) (kind : Nat) (paramOk : Bool) : Bool :=
  decide (b.length = 128) && decide (leAt b 8 8 = s.chip.uid) && decide (s.sec.nonce ≠ []) && decide (blkNonce b = s.sec.nonce) &&
  decide (blkKind b = kind) && (if kind = 1 then leAt b 1 1 == 2 || leAt b 1 1 == 3 else leAt b 1 1 == 0) &&
  decide ((b.drop 2).take 6 = zeros 6) && paramOk

/-- A block is accepted (R437): its fields and its signature over bytes 0x00 to 0x3F under the key. -/
def State.blkAccept (s : State) (b : List Byte) (kind : Nat) (paramOk : Bool) (key : List Byte) : Bool :=
  s.blkFields b kind paramOk && ecdsaVerify key (b.take 64) (b.drop 64)

/-- Verify a block: the nonce is renewed whether it passes or fails, and a failure sets AUTH, and NONCE when the nonce
did not match. The result, the SEC_ERR bits set, and the state. -/
def State.verify (s : State) (b : List Byte) (kind : Nat) (paramOk : Bool) (key : List Byte) : Bool × Nat × State :=
  if s.blkAccept b kind paramOk key then (true, 0, s.newNonce)
  else
    let bad := decide (blkNonce b ≠ s.sec.nonce)
    let s1 := (s.sf SEC_ERR_AUTH 1)
    let s2 := if bad then s1.sf SEC_ERR_NONCE 1 else s1
    (false, if bad then 3 else 1, s2.newNonce)

/-! ### Sessions (R438 to R441) -/

/-- Open a session: number, port, timeout, LOG SESSION record of subkind 1 (R439). -/
def State.openSession (s : State) (p : Port) (timeout : Nat) : State :=
  let n := s.sec.sessNo + 1
  let s := { s with sec := { s.sec with sessNo := n, session := some { port := p, number := n, left := timeout, changes := [] } } }
  (s.storeOwner).log 0x0E 1 (leBytes 4 n ++ leBytes 4 0)

/-- The fields of a channel's calibration constants as a set, and back. -/
def State.calShadow (s : State) (c : Nat) : CalSet :=
  { scale := s.gf (CAL_SCALE_SCALE c), e := s.gf (CAL_CFG_E c), ph := s.gf (CAL_CFG_PH c), ofs := s.gf (CAL_OFS_OFS c) }
def State.setCalShadow (s : State) (c : Nat) (k : CalSet) : State :=
  s.sfs [(CAL_SCALE_SCALE c, k.scale), (CAL_CFG_E c, k.e), (CAL_CFG_PH c, k.ph), (CAL_OFS_OFS c, k.ofs)]

/-- Step 1 of R441: shadow copies are set to the active copies, or to the values of a written commit. -/
def State.calShadowReset (s : State) : State :=
  (fins 16).foldl (fun (s : State) (c : Fin 16) =>
    let g : Fin 2 := if c.val < 8 then 0 else 1
    let k := match s.met.calPend[g].getLast? with
      | some l => l.sets.getD (c.val % 8) {}
      | none => s.met.cal[c]
    s.setCalShadow c k) s

/-- Queue the configuration record into the older copy (R405). -/
def State.configSave (s : State) : State := s.storeRecord 5 4 6 (fun k => .config (if k = 0 then 0 else 1)) s.cfgBytes

/-- The SEQ that a LOG record just formed took, with its ring. -/
def State.lastLog (s : State) : List (Nat × Nat) :=
  match s.ringOf clsLOG with
  | some n => [(n.val, (s.rings[n].nextSeq + 2 ^ 32 - 1) % 2 ^ 32)]
  | none => []

/-- Close the open session (R441): shadows, configuration record, LOG SESSION record of subkind 2, and a seal of the LOG
ring due once that record is visible. -/
def State.closeSession (s : State) : State :=
  match s.sec.session with
  | none => s
  | some ss =>
    let s := (s.calShadowReset).configSave
    let s := { s with sec := { s.sec with session := none } }
    let s := (s.log 0x0E 2 (leBytes 4 ss.number ++ leBytes 4 ss.changes.length ++ sha256 ss.changes.flatten))
    { s with sec := { s.sec with closeSeq := (s.lastLog.head?).map Prod.snd } }

/-- The port of a command: rings are PCIe. -/
def Cmd.port (c : Cmd) : Port := match c.via with | .ring _ => .pcie | .mailbox p => p

/-- OPEN_SEAL_SESSION with any block (R438, R439, R471). -/
def State.doOpen (s : State) (c : Cmd) (b : List Byte) : State :=
  let k := blkKind b
  if b.length ≠ 128 then s.finish 2 0 []
  else if s.sec.trngFail then s.finish 3 0 []
  else
    let set := k = 1 && s.sec.owner.isSome
    let no := k ≠ 1 && s.sec.owner.isNone
    let busy := s.sec.session.isSome
    let lock := s.gb KET_STAT_LOCK
    if k = 2 ∧ 3600 < leAt b 0x20 4 then s.finish 2 0 []
    else if set || no || busy || lock then
      let s := if no then s.sf SEC_ERR_NO_OWNER 1 else s
      let s := if set then s.sf SEC_ERR_OWNER_SET 1 else s
      let s := if busy then s.sf SEC_ERR_SESSION_BUSY 1 else s
      let s := if lock then s.sf SEC_ERR_LOCKED 1 else s
      s.finish 3 ((if no then 4 else 0) + (if set then 8 else 0) + (if busy then 16 else 0) + (if lock then 64 else 0)) []
    else if k = 1 then
      let x := ofBe (blkParam b)
      let (ok, bits, s) := s.verify b 1 true (decompress (leAt b 1 1) x)
      if ok then
        let s := { s with sec := { s.sec with owner := some (leAt b 1 1, x), installT := s.now } }
        let s := s.openSession c.port 600
        s.finishC 0 0 (leBytes 4 s.sec.sessNo) (fun c => { c with owner := true })
      else s.finish 4 bits []
    else
      let t := leAt b 0x20 4
      let (ok, bits, s) := s.verify b 2 (decide ((b.drop 0x24).take 28 = zeros 28)) s.ownerKey
      if ok then
        let s := s.openSession c.port (if t = 0 then 600 else t)
        s.finishC 0 0 (leBytes 4 s.sec.sessNo) (fun c => { c with owner := true })
      else s.finish 4 bits []

/-- CLOSE_SEAL_SESSION (R441, R442). -/
def State.doClose (s : State) : State :=
  match s.sec.session with
  | none => (s.sf SEC_ERR_NO_SESSION 1).finish 3 0x200 []
  | some ss =>
    let s := s.closeSession
    s.finishC 0 0 (leBytes 4 ss.number) (fun c => { c with seals := s.lastLog, arch := s.spiOnly })

/-- The places of the seals of some rings that wait in the reserve (R450). -/
def State.sealsHeld (s : State) (l : List Nat) : List (Nat × Nat) :=
  match s.ringOf clsSEC with
  | none => []
  | some n => s.rings[n].q.filterMap (fun i => match i with
    | .placed q r => if !r.isOpening && l.contains (leAt r.payload 0 1) then some (n.val, q) else none
    | .summary _ _ _ _ => none)

/-- SEAL_NOW (R450): the named rings that are on, with an unsealed visible record. -/
def State.doSealNow (s : State) (c : Cmd) : State :=
  let mask := leAt c.entry 0x10 8
  let named : List (Fin 64) := (fins 64).filter (fun (n : Fin 64) => mask.testBit n && (decide (s.rings[n].st = .on)) && s.rings[n].cls != clsCMD && s.rings[n].cls != clsSEC)
  let open1 : List (Fin 64) := named.filter (fun n => s.rings[n].unsealed || s.sec.due.any (fun d => d.1 == n.val) ||
    (match s.sec.signing with | some g => g.ring == n.val | none => false))
  let held := s.sealsHeld (named.map Fin.val)
  let s := open1.foldl (fun s n => s.makeDue n 3) s
  s.finishC 0 0 (leBytes 8 (maskOf (open1.map Fin.val))) (fun c => { c with seals := open1.map (fun n => (n.val, s.rings[n].lastVis)), marks := c.marks ++ held })

/-- READ_CERT (R434, R299, R456). -/
def State.doReadCert (s : State) (c : Cmd) : State :=
  let off := leAt c.entry 0x10 4
  let len := leAt c.entry 0x14 4
  let mb := match c.via with | .mailbox _ => true | .ring _ => false
  if s.sec.dbg then s.finish 3 0 []
  else if s.chip.cert.length < off + len || (mb && 128 < len) then s.finish 2 0 []
  else
    let d := (s.chip.cert.drop off).take len
    if mb then s.finish 0 0 d
    else (s.issue (.buffer (leAt c.entry 8 8) d)).finish 0 0 (leBytes 4 len)

/-! ### The commands -/

/-- The opcode of the ring command that is executing. -/
def State.curOp (s : State) : Option (Nat × Cmd) :=
  match s.cmd.cur with
  | some c => (match c.via with | .ring _ => some (leAt c.entry 0 1, c) | .mailbox _ => none)
  | none => none

/-- Run an operation on the executing ring command when its opcode is `op`. -/
def State.onCmd (s : State) (op : Nat) (f : State → Cmd → State) : State :=
  match s.curOp with
  | some (o, c) => if o = op && s.isReady then f s c else s
  | none => s

/-- SEAL_NOW. -/
def execSealNow (s : State) : Host.Outcome State Fault Refusal := .next (s.onCmd 9 State.doSealNow)

/-- OPEN_SEAL_SESSION with a block other than INSTALL. -/
def execOpenSealSession (block : List Byte) (s : State) : Host.Outcome State Fault Refusal :=
  .next (if blkKind block = 1 then s else s.onCmd 0x0B (fun s c => s.doOpen c block))

/-- OPEN_SEAL_SESSION with an INSTALL block. -/
def execOwnerInstall (block : List Byte) (s : State) : Host.Outcome State Fault Refusal :=
  .next (if blkKind block = 1 then s.onCmd 0x0B (fun s c => s.doOpen c block) else s)

/-- CLOSE_SEAL_SESSION. -/
def execCloseSealSession (s : State) : Host.Outcome State Fault Refusal := .next (s.onCmd 0x0C (fun s _ => s.doClose))

/-- The open session reaches its timeout (R441). -/
def execSessionTimeout (s : State) : Host.Outcome State Fault Refusal :=
  .next (if s.sec.session.isSome && s.isReady then (s.closeSession).sf SEC_ERR_SESS_TIMEOUT 1 else s)

/-- READ_CERT. -/
def execReadCert (s : State) : Host.Outcome State Fault Refusal := .next (s.onCmd 0x0D State.doReadCert)

/-- A TRNG health test fails (R432). -/
def execTrngHealthFail (s : State) : Host.Outcome State Fault Refusal :=
  .next (({ s with sec := { s.sec with trngOk := false, trngFail := true, nonce := [] } }).sf SEC_ERR_TRNG_FAIL 1)

/-- The oldest unsealed visible record of ring n reaches AGE (R446). -/
def execSealAgeTimer (n : Fin 64) (s : State) : Host.Outcome State Fault Refusal := .next (s.makeDue n 1)

/-- A seal's signature completes (R447). From the start of a reset or a last gasp no signing goes on (R451). -/
def execSealSigned (s : State) : Host.Outcome State Fault Refusal :=
  .next (if s.forms && !s.time.coreStop then (s.sealFinish).unlockEnd else s)

/-- SECCHAL shifts out the UID and the nonce, while the device is locked (R455). -/
def execJtagSecchal (s : State) : Host.Outcome State Fault Refusal :=
  .next (if s.sec.dbg then s
    else { s with sec := { s.sec with ir := .secchal, jtagOut := leBytes 8 s.chip.uid ++ s.sec.nonce, consent := false } })

/-- A DEBUG_CONSENT block is shifted in: verified under the owner key; success keeps the nonce (R455, R456). -/
def execDebugConsent (block : List Byte) (s : State) : Host.Outcome State Fault Refusal :=
  .next (if s.sec.dbg || decide (s.sec.ir ≠ .secchal) || s.sec.owner.isNone then s
    else if s.blkAccept block 6 (decide (blkParam block = zeros 32)) s.ownerKey then
      { s with sec := { s.sec with consent := true } }
    else State.newNonce { s with sec := { s.sec with consent := false } })

/-- A DEBUG_UNLOCK block signed with the debug authority's key (R455, R456): every ring with an unsealed record gets a
seal, then the key is zeroised, the fuse blown and the debug instructions opened. -/
def execDebugUnlock (block key : List Byte) (s : State) : Host.Outcome State Fault Refusal :=
  .next (if s.sec.dbg || decide (s.sec.ir ≠ .secchal) then s
    else if (s.sec.owner.isNone || s.sec.consent) && decide (sha256 key = s.chip.debugHash) &&
        s.blkAccept block 5 (decide (blkParam block = zeros 32)) key then
      let s := State.newNonce { s with sec := { s.sec with consent := false } }
      let s := (fins 64).foldl (fun s n => s.makeDue n 3) s
      State.unlockEnd { s with sec := { s.sec with unlocking := true } }
    else State.newNonce { s with sec := { s.sec with consent := false } })

/-- A JTAG instruction is loaded (R454): EXTEST and CLAMP act as BYPASS unless no owner is installed and no group was
started since the last full reset; the debug instructions need the unlock. -/
def execJtagInstructionLoad (ir : JtagIr) (s : State) : Host.Outcome State Fault Refusal :=
  let eff := match ir with
    | .extest => if s.sec.owner.isNone && !s.rst.grpStarted then JtagIr.extest else .bypass
    | .clamp => if s.sec.owner.isNone && !s.rst.grpStarted then JtagIr.clamp else .bypass
    | .debug => if s.sec.dbg then JtagIr.debug else .bypass
    | .secchal => if s.sec.dbg then JtagIr.bypass else .secchal
    | i => i
  .next { s with sec := { s.sec with ir := eff, jtagOut := if eff = .secchal then s.sec.jtagOut else [] } }

end Sys2Proof.Machine
end

