-- ==== Sys2Proof/Machine/Link.lean ====
section
/-! DEFINITION. The host link: link state, ring enable, doorbells, write-back, interrupts of rings, command fetch and the
mailbox (chapter 12, with the recoveries of chapter 14). -/

namespace Sys2Proof.Machine

/-! ### Link state (R270 to R274) -/

/-- SERVED of LINK_STAT: bus mastering allowed and D0 (R272). -/
def State.setServed (s : State) : State := s.sb LINK_STAT_SERVED (s.link.bme && s.link.d0)

/-- The link completes training (R270): x1 when lane 1 is fenced or only one lane trains, no link when lane 0 is fenced, in SPI only,
during a reset, or once REFCLK is lost (R15). A link that trains again after DL_Down leaves the rings without service until the
next full reset (R271, log entry 62). -/
def execLinkTrained (x2 gen2 : Bool) (s : State) : Host.Outcome State Fault Refusal :=
  .next (if s.mbit FENCE_MISC_LANE 0 || s.spiOnly || s.inReset || s.gb CLK_STAT_REFCLK_LOST then s
    else
      let w := if x2 && !s.mbit FENCE_MISC_LANE 1 then 2 else 1
      (s.sfs [(LINK_STAT_WIDTH, w), (LINK_STAT_SPEED, if gen2 then 2 else 1), (LINK_STAT_UP, 1)]).setServed)

/-- Table 12-1 beside the capabilities that the model's state holds: what the endpoint advertises and no more. -/
structure EndpointCaps where
  classCode : Nat := 0x118000
  vendor : Nat
  device : Nat
  revision : Nat
  subsystem : Nat
  serial : Nat
  /-- bytes: largest payload supported, largest read request issued -/
  maxPayload : Nat := 256
  maxReadReq : Nat := 512
  tags : Nat := 32
  msixVectors : Nat := 32
  d3hot : Bool := true
  pmeFromD3hot : Bool := true
  aspmL1 : Bool := true
  aspmL0s : Bool := false
  l1Substates : Bool := false
  msi : Bool := false
  intx : Bool := false
  aer : Bool := true
  flr : Bool := false
  ats : Bool := false
  sriov : Bool := false
  /-- sizes of BAR0 and BAR2 in bytes, 0 = absent (R277, R279) -/
  bar0 : Nat := 0x4000
  bar2 : Nat
  deriving DecidableEq, Repr

/-- What the endpoint answers to a configuration request of its capabilities; none = Configuration Request Retry Status, until the
device is ready after a reset (R271). -/
def State.endpointCaps (s : State) : Option EndpointCaps :=
  if s.serving && s.gb LINK_STAT_UP then
    some { vendor := s.gf ID_VENDOR_DEV_VENDOR, device := (if s.chip.ps0804 then 0x0804 else 0x1608), revision := s.gf ID_REV_REVID
           subsystem := s.chip.subsystem, serial := s.chip.uid, bar2 := if s.link.bar2 then 0x1000000 else 0 }
  else none

/-- The data link goes down (R271): all DMA stops, LOST is set and the LINK interrupt raised; rings stay without
service until the next full reset. -/
def State.linkLost (s : State) : State :=
  (({ s with link := { s.link with dead := true } }).sfs
    [(LINK_STAT_WIDTH, 0), (LINK_STAT_SPEED, 0), (LINK_STAT_UP, 0), (LINK_STAT_L1, 0), (LINK_STAT_LOST, 1)]).raise 10

/-- DL_Down other than by a reset (R271). -/
def execLinkDown (s : State) : Host.Outcome State Fault Refusal := .next (if s.gb LINK_STAT_UP then s.linkLost else s)

/-- The link enters or leaves ASPM L1 (R273). -/
def execLinkL1Transition (enter : Bool) (s : State) : Host.Outcome State Fault Refusal :=
  .next (if s.gb LINK_STAT_UP then s.sb LINK_STAT_L1 enter else s)

/-! ### Enabling a ring (R282 to R285, R333) -/

/-- The fields of a ring-table entry (Table 12-3). -/
def entryRing (b : List Byte) : Ring :=
  { base := leAt b 0 8, wb := leAt b 8 8, log2 := leAt b 16 1, cls := leAt b 17 1, vec := leAt b 18 1,
    irq := (leAt b 19 1).testBit 0, param := leAt b 20 4, mod := leAt b 24 2, tmo := leAt b 26 2 }

/-- The least LOG2SZ of a class (Table 12-4). -/
def minLog2 : Nat → Nat
  | 2 => 7 | 3 => 8 | 4 => 9 | 6 => 8 | 7 => 9 | 8 => 8 | 9 => 7 | 11 => 7 | _ => 6

/-- The PARAM bits that a class defines (Table 12-4). -/
def paramMask : Nat → Nat
  | 2 => 0x00FFFFFF | 3 => 3 | 4 => 3 | 5 => 0x03FFFFFF | 7 => 0xFF03 | 9 => 3 | _ => 0

/-- Units that a PARAM names and the part has fused: FUSE_CH has the same layout for SMP and EVT; groups elsewhere. -/
def State.paramFused (s : State) (cls p : Nat) : Bool :=
  match cls with
  | 2 => p &&& s.chip.fuseCh % 2 ^ 24 != 0
  | 5 => p &&& s.chip.fuseCh != 0
  | 3 | 9 => s.grpFused 1 && p.testBit 1
  | 7 => (s.grpFused 1 && p.testBit 1) || ((p / 256) &&& (s.chip.fuseCh / 65536 % 256) != 0)
  | _ => false

/-- A ring already on carries the entry's single class, level or a source of it (R283). -/
def State.ringDup (s : State) (e : Ring) : Bool :=
  (fins 64).any (fun (n : Fin 64) =>
    let g := s.rings[n]
    (decide (g.st = .on) || decide (g.st = .halted)) && g.cls == e.cls &&
    match e.cls with
    | 2 | 3 | 5 | 7 | 9 => g.param &&& e.param != 0
    | 4 => g.param == e.param
    | _ => true)

/-- The error code of an entry (Table 12-5); 0 when it is in order. Where several hold, the lowest code (log entry 7). -/
def State.entryErr (s : State) (d : DmaRead) : Nat :=
  match d with
  | .data b =>
    let e := entryRing b
    if e.base % 4096 ≠ 0 ∨ e.wb % 8 ≠ 0 then 1
    else if e.log2 < 6 ∨ 16 < e.log2 ∨ e.log2 < minLog2 e.cls then 2
    else if 11 < e.cls then 3
    else if 31 < e.vec then 4
    else if s.ringDup e then 5
    else if (([2, 3, 5, 7, 9].contains e.cls && e.param == 0) || e.param != e.param &&& paramMask e.cls || s.paramFused e.cls e.param) then 6
    else if leAt b 19 1 / 2 ≠ 0 ∨ leAt b 28 4 ≠ 0 then 7
    else if 2 ≤ e.cls && e.cls ≤ 9 && !(fins 64).any (fun (n : Fin 64) => decide (s.rings[n].st = .on) && s.rings[n].cls == clsLOG) then 8
    else 0
  | _ => 9

/-- The opening record of ring n (R333, Table 14-3). -/
def State.openingRec (s : State) (n : Fin 64) : Rec :=
  let g := s.rings[n]
  let skip := s.rst.skip
  let cov := (s.persist.covered.filter (fun c => c.1 == n.val)).map (fun c => c.2.2)
  let saved := (s.bilSaved.filter (fun r => g.carries r.cls r.src 0)).map Rec.tStart
  let t := (cov ++ saved).foldl min s.rst.tLost
  { cls := g.cls, src := srcNone, flags := flReset, tStart := t, tEnd := t,
    payload := leBytes 4 g.lastVis ++ leBytes 4 s.persist.rcount ++ leBytes 1 s.rst.cause ++ leBytes 1 (b2n s.rst.saved) ++
      leBytes 1 (b2n skip) ++ [0] ++ leBytes 4 (if skip then 0xFFFFFFFF else s.persist.ndisc[n]) ++ leBytes 8 s.rst.tLost ++
      leBytes 8 s.rst.tReady }

/-- The chain value before a ring's opening record (R445). -/
def State.chainInit (s : State) (n : Fin 64) (seq : Nat) : List Byte :=
  sha256 (svetvaC ++ leBytes 8 s.chip.uid ++ leBytes 1 n ++ zeros 3 ++ leBytes 4 s.persist.rcount ++ leBytes 4 seq)

/-- A TAMPER record of source k (R323, R470, R473). -/
def State.tamperRec (s : State) (k event resp : Nat) (backup : Bool) (e : KSrc) : Rec :=
  s.logRec 0x20 0 (leBytes 1 k ++ leBytes 1 event ++ leBytes 1 resp ++ leBytes 1 (b2n backup) ++ leBytes 4 e.count ++
    leBytes 8 e.tFirst ++ leBytes 8 e.tLast)

/-- A source's configured response as the TAMPER record carries it (R470). -/
def State.ketResp (s : State) (k : Nat) : Nat :=
  s.gf (KET_SRC_ALARM k) + 4 * s.gf (KET_SRC_LOCK k) + 8 * s.gf (KET_SRC_ZERO k)

/-- The backup TAMPER records of every marked source, and the marks cleared (R473). -/
def State.backupTamper (s : State) : List Rec × State :=
  let l := (fins 12).filter (fun (k : Fin 12) => s.ket.src[k].mark)
  (l.map (fun (k : Fin 12) => s.tamperRec k 1 (if s.ket.src[k].marked then s.ketResp k else 0) s.ket.src[k].backup s.ket.src[k]),
   { s with ket := { s.ket with src := s.ket.src.map (fun e => { e with mark := false, marked := false }) } })

/-- What waited for the LOG ring reaches it: a record is offered, and a SUMMARY takes its place now (R340). -/
def State.offerItem (s : State) (n : Fin 64) : QItem → State
  | .placed _ r => s.offer n r
  | .summary _ f l b =>
    let seq := s.rings[n].nextSeq
    ((s.takePlace n).setRing n (fun g => { g with q := g.q ++ [.summary seq f l b] })).pumpRing n

/-- A ring goes on (R284, R286, R333): its settings, indices 0, its write-back word; a device-written ring gets its opening
record, then what waited for it: LOG and SEC records (R285), saved BIL records (R264). -/
def State.ringOn (s : State) (n : Fin 64) (e : Ring) : State :=
  let s := s.setRing n (fun g =>
    { g with
      st := .on, waiting := false, entry := none, err := 0, cls := e.cls, base := e.base, wb := e.wb, log2 := e.log2
      vec := e.vec, irq := e.irq, param := e.param, mod := e.mod, tmo := e.tmo, dev := 0, host := 0, pub := 0, sig := 0
      oldest := none, onT := s.now, openSeq := g.nextSeq, sealed := none, sealOld := none, streams := [], unvis := [], bilU := []
      chain := s.chainInit n g.nextSeq, visChain := s.chainInit n g.nextSeq })
  let s := s.issue (.writeBack n s.rings[n].wbWord)
  if e.cls = clsCMD then s
  else
    let s := s.place n (s.openingRec n)
    let s := if e.cls = clsAGG then s.statRingOn (e.param % 4) s.rings[n].nextSeq else s
    if e.cls = clsLOG then
      let (b, s) := s.backupTamper
      let h := s.heldLog
      let s := { s with heldLog := [], formed := s.formed ++ b }
      (b.map (QItem.placed 0) ++ h).foldl (fun s i => s.offerItem n i) s
    else if e.cls = clsSEC then
      let h := s.heldSec
      h.foldl (fun s r => s.offer n r) { s with heldSec := [] }
    else if e.cls = clsBIL then
      let (mine, rest) := s.bilSaved.partition (fun r => s.rings[n].carries r.cls r.src 0)
      mine.foldl (fun s r => s.place n r) { s with bilSaved := rest }
    else s

/-- The order in which the rings of one enable are taken (R284): CPL, CMD, LOG, SEC, the others by number. -/
def ringRank (cls n : Nat) : Nat :=
  match cls with
  | 1 => 0 | 0 => 1 | 11 => 2 | 10 => 3 | _ => 4 + n

/-- Insert a ring by its rank. -/
def insRank (k : Nat) (n : Fin 64) : List (Nat × Fin 64) → List (Nat × Fin 64)
  | [] => [(k, n)]
  | (j, m) :: l => if k < j then (k, n) :: (j, m) :: l else (j, m) :: insRank k n l

/-- Enable or refuse one ring whose entry has been read. -/
def State.ringDecide (s : State) (n : Fin 64) : State :=
  match s.rings[n].entry with
  | none => s
  | some d =>
    match s.entryErr d, d with
    | 0, .data b => s.ringOn n (entryRing b)
    | e, _ => s.setRing n (fun g => { g with st := .refused, waiting := false, entry := none, err := e })

/-- Once every waiting ring's entry has been read, take the rings in their order. -/
def State.ringsDecide (s : State) : State :=
  let w : List (Fin 64) := (fins 64).filter (fun (n : Fin 64) => s.rings[n].waiting)
  if w.all (fun n => s.rings[n].entry.isSome) then
    let l := w.foldl (fun (l : List (Nat × Fin 64)) (n : Fin 64) =>
      let c := match s.rings[n].entry with | some (.data b) => leAt b 17 1 | _ => 255
      insRank (ringRank c n) n l) []
    l.foldl (fun s p => s.ringDecide p.2) s
  else s

/-- A write of RING_ENABLE_LO or _HI (R284): rings off or refused wait for their entries. -/
def State.wrRingEnable (s : State) (hi : Bool) (v : Word) : State :=
  (fins 32).foldl (fun (s : State) (i : Fin 32) =>
    if v.toNat.testBit i.val then
      let n : Fin 64 := if hi then ⟨32 + i.val, by omega⟩ else ⟨i.val, by omega⟩
      let g := s.rings[n]
      if (decide (g.st = .off) || decide (g.st = .refused)) && !g.waiting then
        s.setRing n (fun g => { g with waiting := true, entry := none, retried := false, st := .off, err := 0 })
      else s
    else s) s

/-- RING_ENABLE written through a port. -/
def execRingEnable (_port : Port) (hi : Bool) (mask : Word) (s : State) : Host.Outcome State Fault Refusal :=
  .next (if s.serving && !s.spiOnly then s.wrRingEnable hi mask else s)

/-- The entry of a waiting ring has been read (R284). -/
def execRingEntryReadDone (n : Fin 64) (res : DmaRead) (s : State) : Host.Outcome State Fault Refusal :=
  .next (if s.served && !s.wedged 7 && s.rings[n].waiting && s.rings[n].entry.isNone then
    (s.setRing n (fun g => { g with entry := some res, retried := false })).ringsDecide
  else s)

/-! ### Doorbells and write-back (R287 to R289, R281) -/

/-- Send a ring's vector and take its entries as signalled. -/
def State.ringSend (s : State) (n : Fin 64) : State :=
  let s := s.setRing n (fun g => { g with sig := g.pub, oldest := none })
  if h : s.rings[n].vec < 32 then s.sendVec ⟨s.rings[n].vec, h⟩ else s

/-- After a write-back: the ring's vector, by MOD or a TMO of 0 (R281). -/
def State.ringIrq (s : State) (n : Fin 64) : State :=
  let g := s.rings[n]
  if g.irq && g.pub != g.sig then
    if max g.mod 1 ≤ (g.pub + 2 ^ 32 - g.sig) % 2 ^ 32 || g.tmo == 0 then s.ringSend n
    else s.setRing n (fun g => { g with oldest := some (g.oldest.getD s.now) })
  else s

/-- What follows when records become visible: seals by count and of a session's close, and waiting completions. -/
def State.afterVisible (s : State) (n : Fin 64) : State :=
  let g := s.rings[n]
  let s := if g.unsealed && decide (s.gf SEC_SEAL_CFG_COUNT ≤ g.unsealedCount) then s.makeDue n 2 else s
  let s :=
    match s.sec.closeSeq with
    | some q => if g.cls == clsLOG && g.visible q then ({ s with sec := { s.sec with closeSeq := none } }).makeDue n 3 else s
    | none => s
  let s :=
    match s.cmd.cpl with
    | some c => c.seals.foldl (fun (s : State) (e : Nat × Nat) => if h : e.1 < 64 then s.makeDue ⟨e.1, h⟩ 3 else s) s
    | none => s
  s.tryCpl

/-- Write a halted ring's write-back word, at once or when the device may issue it again (R272, R289). -/
def State.haltWb (s : State) (n : Fin 64) : State :=
  if s.mayDma then (s.publish n).afterVisible n else s.setRing n (fun g => { g with wbDue := true })

/-- Halt a ring with an error code and write its write-back word (R289, R346). -/
def State.haltRing (s : State) (n : Fin 64) (err : Nat) : State :=
  ((s.setRing n (fun g => { g with st := .halted, err := err })).haltWb n).raise 9

/-- Send the messages whose vectors are open now (R280). -/
def State.msixFlush (s : State) : State :=
  (fins 32).foldl (fun (s : State) (k : Fin 32) =>
    if s.link.pba.testBit k && s.vecOpen k then
      State.sendVec { s with link := { s.link with pba := s.link.pba ^^^ 2 ^ k.val } } k
    else s) s

/-- Let everything go on that waits for the host's service. -/
def State.resume (s : State) : State :=
  let s := (fins 64).foldl (fun (s : State) (n : Fin 64) => if s.rings[n].wbDue then s.haltWb n else (State.pumpRing s n).pumpGaps n) s
  s.msixFlush.tryCpl

/-- A doorbell value is accepted (R288). -/
def Ring.dbOk (g : Ring) (v : Nat) : Bool :=
  if g.cls = clsCMD then
    decide ((g.host + 2 ^ 32 - g.dev) % 2 ^ 32 ≤ (v + 2 ^ 32 - g.dev) % 2 ^ 32) && decide ((v + 2 ^ 32 - g.dev) % 2 ^ 32 ≤ 2 ^ g.log2)
  else decide ((v + 2 ^ 32 - g.host) % 2 ^ 32 ≤ (g.dev + 2 ^ 32 - g.host) % 2 ^ 32)

/-- A doorbell write. A ring that is not on ignores it and sets DB_OFF; a bad value halts the ring. -/
def State.wrDoorbell (s : State) (n : Fin 64) (index : Word) : State :=
  let g := s.rings[n]
  if g.st ≠ .on then s.sf HOST_ERR_DB_OFF 1
  else if g.dbOk index.toNat then
    let s := s.setRing n (fun g => { g with host := index.toNat })
    if g.cls = clsCMD then s else (((s.pumpRing n).pumpGaps n).tryCpl)
  else s.haltRing n 0x10

/-- A doorbell write reaches the device. -/
def execDoorbell (n : Fin 64) (index : Word) (s : State) : Host.Outcome State Fault Refusal :=
  .next (if s.serving && !s.spiOnly then s.wrDoorbell n index else s)

/-- The host writes Bus Master Enable, the D-state or PME_En, or writes 1 to PME_Status (R272, R274): service stops or resumes;
entering D0 releases WAKE_N. Until the device is ready it answers configuration requests with Configuration Request Retry
Status, so that nothing changes (R271). -/
def execLinkServiceChange (bme d0 pmeEn clrPme : Bool) (s : State) : Host.Outcome State Fault Refusal :=
  .next (if !s.serving || !s.gb LINK_STAT_UP then s
    else
      let s := State.setServed { s with link := { s.link with bme := bme, d0 := d0, pmeEn := pmeEn, pmeStatus := s.link.pmeStatus && !clrPme } }
      if s.mayDma then s.resume else s.pmeUpd)

/-- The host writes MSI-X Enable, Function Mask and one table entry (R280): a message that a mask held back is sent when
its vector is open. -/
def execMsiXMaskChange (en fmask : Bool) (v : Fin 32) (addr : Nat) (data : Word) (masked : Bool) (s : State) :
    Host.Outcome State Fault Refusal :=
  .next (if s.serving && s.gb LINK_STAT_UP then
    State.msixFlush { s with link := { s.link with msixEn := en, msixMask := fmask, msix := s.link.msix.set v { addr := addr, data := data.toNat, masked := masked } } }
  else s)

/-- The device writes ring n's write-back word (R289). -/
def execWriteBack (n : Fin 64) (s : State) : Host.Outcome State Fault Refusal :=
  let g := s.rings[n]
  .next (if s.served && decide (g.st = .on) && g.dev != g.pub then ((s.publish n).ringIrq n).afterVisible n else s)

/-- TMO has passed since the oldest unsignalled entry became visible (R281). -/
def execRingInterruptTimer (n : Fin 64) (s : State) : Host.Outcome State Fault Refusal :=
  let g := s.rings[n]
  .next (if s.served && decide (g.st = .on) && g.irq && g.oldest.isSome && g.pub != g.sig then s.ringSend n else s)

/-! ### Command fetch (R290 to R293, R324) -/

/-- ARG bytes that an opcode uses (Table 13-12). -/
def argUsed : Nat → Nat
  | 1 | 2 => 1 | 3 => 9 | 4 => 36 | 7 | 8 | 9 | 13 => 8 | 10 => 16 | _ => 0

/-- Opcodes with a buffer. -/
def hasBuf (op : Nat) : Bool := [7, 8, 10, 11, 13, 14].contains op
/-- Opcodes with a signed block. -/
def hasBlock (op : Nat) : Bool := [10, 11, 14].contains op

/-- The check of a command entry: none = its CRC fails; some 0 = in order; else the status it completes with. Through
the mailbox BUF is not used. -/
def entryStatus (e : List Byte) (mbox : Bool) : Option Nat :=
  let op := leAt e 0 1
  let buf := leAt e 8 8
  let len := leAt e 4 2
  if e.length ≠ 64 ∨ crc32c (e.take 60) ≠ leAt e 60 4 then none
  else if op = 0 ∨ 15 < op then some 1
  else if leAt e 1 1 ≠ 0 ∨ leAt e 6 2 ≠ 0 ∨ 4096 < len ∨ buf % 4 ≠ 0 ∨ ((e.drop (0x10 + argUsed op)).take (44 - argUsed op)).any (· ≠ 0) then some 2
  else if !hasBuf op && (buf ≠ 0 || len ≠ 0) then some 2
  else if hasBlock op && len ≠ 128 && !mbox then some 2
  else if (op = 7 ∨ op = 8 ∨ op = 13) && leAt e 0x14 4 ≠ len && !mbox then some 2
  else if op = 10 && (3 < leAt e 0x10 1 || leAt e 0x11 7 ≠ 0) then some 2
  else if (op = 1 ∨ op = 2) && 3 < leAt e 0x10 1 then some 2
  else some 0

/-- The CMD ring that is on. -/
def State.cmdRing (s : State) : Option (Fin 64) :=
  (fins 64).find? (fun (n : Fin 64) => decide (s.rings[n].st = .on) && s.rings[n].cls == clsCMD)
/-- The CPL ring that is on. -/
def State.cplRing (s : State) : Option (Fin 64) :=
  (fins 64).find? (fun (n : Fin 64) => decide (s.rings[n].st = .on) && s.rings[n].cls == clsCPL)

/-- The next command may be fetched (R290, R298): the CMD ring holds an entry, the CPL ring has 4 free entries and no
completion waits, and no command, nor a mailbox command, is executing or waiting. -/
def State.canFetch (s : State) : Bool :=
  s.served && !s.wedged 7 && s.cmd.cur.isNone && s.cmd.cpl.isNone && !s.gb MBOX_STATUS_BUSY &&
  (match s.cmdRing with | some n => s.rings[n].host != s.rings[n].dev | none => false) &&
  (match s.cplRing with | some n => decide (4 ≤ s.rings[n].free) && s.rings[n].q.isEmpty | none => false)

/-- The next SEQ of every ring. -/
def State.seqs (s : State) : Vector Nat 64 := s.rings.map (fun g => g.nextSeq)

/-- The next command is fetched and checked (R290, R293): a bad CRC halts the CMD ring, an unknown opcode or a bad
argument completes, and any other command begins to execute. -/
def execCommandFetch (entry : List Byte) (s : State) : Host.Outcome State Fault Refusal :=
  .next (if s.canFetch then
    match s.cmdRing with
    | none => s
    | some n =>
      let idx := s.rings[n].dev
      match entryStatus entry false with
      | none => s.haltRing n 0x11
      | some st =>
        let s := s.setRing n (fun g => { g with dev := (g.dev + 1) % 2 ^ 32 })
        let s := { s with cmd := { s.cmd with cur := some { entry := entry, via := .ring idx, seq0 := s.seqs }, retried := false } }
        if st = 0 then s else s.finish st 0 []
  else s)

/-- The read named is one that the device has issued: the fetch of the next command, of the executing command's BUF, or of a
waiting ring's entry. -/
def State.reading (s : State) (what : DmaReadOf) : Bool :=
  s.served && !s.wedged 7 && match what with
    | .command => s.canFetch
    | .buffer => (match s.curOp with | some (op, _) => [8, 10, 11, 14].contains op | none => false)
    | .ringEntry n => s.rings[n].waiting && s.rings[n].entry.isNone

/-- The read was retried before; and note that it is now. -/
def State.wasRetried (s : State) : DmaReadOf → Bool
  | .ringEntry n => s.rings[n].retried
  | _ => s.cmd.retried
def State.setRetried (s : State) (b : Bool) : DmaReadOf → State
  | .ringEntry n => s.setRing n (fun g => { g with retried := b })
  | _ => { s with cmd := { s.cmd with retried := b } }

/-- The HOST_ERR bit of a failed read (Table 12-8). -/
def dmaFailBit : DmaFail → Fld
  | .timeout => HOST_ERR_CTO
  | .unsupported => HOST_ERR_UR_RX
  | .poisoned => HOST_ERR_POISON_RX

/-- A device read times out or fails (R296): it is retried once; a second failure ends the command with DMA_ERR, halts
the CMD ring with DMA, or refuses the waiting ring with TABLE. -/
def State.readFailed (s : State) (what : DmaReadOf) (how : DmaFail) : State :=
  let s := s.sf (dmaFailBit how) 1
  if !s.wasRetried what then s.setRetried true what
  else
    let s := s.setRetried false what
    match what with
    | .command => match s.cmdRing with | some n => s.haltRing n 0x12 | none => s
    | .buffer => s.finish 0x0A 0 []
    | .ringEntry n => (s.setRing n (fun g => { g with entry := some .failed })).ringsDecide

/-- A device read fails. -/
def execDmaReadTimeout (what : DmaReadOf) (how : DmaFail) (s : State) : Host.Outcome State Fault Refusal :=
  .next (if s.reading what then s.readFailed what how else s)

/-- MBOX_CTRL.GO (R298): ignored with REJECT while BUSY, else the mailbox command waits. -/
def State.wrMboxGo (s : State) (p : Port) : State :=
  if s.gb MBOX_STATUS_BUSY then s.sf MBOX_STATUS_REJECT 1
  else ({ s with cmd := { s.cmd with mboxPort := p } }).sf MBOX_STATUS_BUSY 1

/-- A write of MBOX_CTRL.GO. -/
def execMailboxGo (port : Port) (s : State) : Host.Outcome State Fault Refusal :=
  .next (if s.serving then s.wrMboxGo port else s)

end Sys2Proof.Machine
end

