-- ==== Sys2Proof/Machine/Fabric.lean ====
section
/-! DEFINITION. The Nypol fabric (chapter 15): slots, reservations, age levels and deficit round robin, weights, bounds
and counters; which bank serves which master (R371, R372); the watchdog of the masters (R348). -/

namespace Sys2Proof.Machine

/-! ### Masters and targets -/

/-- Class RT masters are 0 to 5, class BK masters 6 to 11 (Table 15-2). -/
def isRT (m : Nat) : Bool := decide (m < 6)

/-- The owner codes that admit a master to a bank (Tables 15-2, 16-1). -/
def ownerAdmits (owner m : Nat) : Bool :=
  m == 11 ||
  match owner with
  | 0 => m == 5
  | 1 => m == 4
  | 2 => m == 2
  | 3 => m == 6 || m == 7
  | 4 => m == 10
  | 5 => m == 6 || m == 7 || m == 10
  | _ => false

/-- The bank of a pending change. -/
def BankPend.bank : BankPend → Nat
  | .owner b _ _ => b
  | .power b _ => b

/-- A handover or power change is in progress for a bank. -/
def State.bankPending (s : State) (b : Nat) : Bool := s.bankPend.any (fun p => p.bank == b)

/-- A bank is ON and not fenced. -/
def State.bankOn (s : State) (b : Nat) : Bool := decide (s.gf (BANK_PWR_STATE b) = 0) && !s.bankFenced b

/-- A bank serves a master's request (R372). -/
def State.bankServes (s : State) (b m : Nat) : Bool :=
  decide (b < 64) && ownerAdmits (s.gf (BANK_OWNER_OWNER b)) m && s.bankOn b && !s.bankPending b

/-- A master may present a request of a kind (0 read, 1 write, 2 partial write) for a target (Tables 15-1, 15-2, R372). -/
def State.fabAllowed (s : State) (m t k : Nat) : Bool :=
  if t < 64 then s.bankServes t m
  else
    match m, t with
    | 0, 0x42 => k == 0
    | 0, 0x43 | 0, 0x45 | 0, 0x46 => k != 0
    | 1, 0x42 => k == 0
    | 2, 0x45 | 3, 0x45 | 4, 0x45 => k != 0
    | 5, 0x46 | 5, 0x45 => true
    | 6, 0x45 => k == 0
    | 6, 0x44 => true
    | 7, 0x45 => k != 0
    | 8, 0x45 | 8, 0x44 => k == 0
    | 9, 0x43 => k == 0
    | 9, 0x45 => true
    | _, _ => false

/-- The weight in force of master m (R360). -/
def State.fabWeight (s : State) (m : Nat) : Nat := if m < 6 then s.gf (ARB_WEIGHT_RT_W m) else s.gf (ARB_WEIGHT_BK_W (m - 6))

/-- T of R361 for master m. -/
def State.fabBound (s : State) (m : Nat) : Nat :=
  if m < 6 then 5 * (((List.range 6).map s.fabWeight).sum - s.fabWeight m) + 148
  else cdiv (10 * (((List.range 6).map (fun i => s.fabWeight (6 + i))).sum - s.fabWeight m)) 3 + 133

/-- The rules of R364 are in force: during a last gasp and the save of a full reset. -/
def State.lastGasp (s : State) : Bool := decide (s.rst.phase = .gasp) || decide (s.rst.phase = .saving)

/-! ### The slot arbiter (R354 to R358) -/

/-- The cycle from which a target is free. -/
def Fab.busyUntil (f : Fab) (t : Nat) : Nat := SMap.get (fun _ => 0) f.busy t

/-- The master whose reservation a target serves first. -/
def Fab.resvFor (f : Fab) (t : Nat) : Option Nat := (f.resv.find? (fun r => r.1 == t)).map Prod.snd

/-- A target is ready for a master's request in this cycle (R354, R358). -/
def Fab.ready (f : Fab) (m t : Nat) : Bool :=
  decide (f.busyUntil t ≤ f.cycle) && (match f.resvFor t with | none => true | some r => r == m)

/-- Masters that R364 grants nothing. -/
def gaspBarred (m : Nat) : Bool := [2, 4, 6, 7, 10, 11].contains m

/-- Master m's head is eligible. -/
def Fab.eligible (f : Fab) (gasp : Bool) (m : Fin 12) : Bool :=
  match f.heads[m] with
  | none => false
  | some r => f.ready m r.tgt && !(gasp && gaspBarred m)

/-- Master m presents a request of age level 0. -/
def Fab.level0 (f : Fab) (m : Fin 12) : Bool := match f.heads[m] with | some r => r.age == 0 | none => false

/-- The masters of a class, in id order. -/
def classMasters (rt : Bool) : List (Fin 12) := (fins 12).filter (fun (m : Fin 12) => isRT m.val == rt)

/-- Step 1 of R355: the oldest reservation of the class whose request is eligible. -/
def Fab.pickResv (f : Fab) (gasp rt : Bool) : Option (Fin 12) :=
  (f.resv.filterMap (fun r => if h : r.2 < 12 then some (⟨r.2, h⟩ : Fin 12) else none)).find?
    (fun m => isRT m.val == rt && f.eligible gasp m)

/-- Step 2 of R355: the highest age level, then the earliest presented, then the lower id; the loser of a tie rises one
level (R357). -/
def Fab.pickAged (f : Fab) (gasp rt : Bool) : Option (Fin 12) × Fab :=
  let c := (classMasters rt).filter (fun m => f.eligible gasp m && !f.level0 m)
  let better : Fin 12 → Fin 12 → Bool := fun a b =>
    match f.heads[a], f.heads[b] with
    | some x, some y => x.age > y.age || (x.age == y.age && x.since < y.since)
    | _, _ => false
  let best := c.foldl (fun (b : Option (Fin 12)) m => match b with | none => some m | some k => bif better m k then some m else b) none
  match best with
  | none => (none, f)
  | some b =>
    let ties := c.filter (fun m => m ≠ b && !better b m && !better m b)
    (some b, ties.foldl (fun (f : Fab) (m : Fin 12) =>
      match f.heads[m] with
      | some r => { f with heads := f.heads.set m (some { r with age := min 3 (r.age + 1) }) }
      | none => f) f)

/-- The next master of the class, from `p` on, that is presenting a request. -/
def Fab.nextPresenting (f : Fab) (rt : Bool) (p : Nat) : Option (Fin 12) :=
  let b := if rt then 0 else 6
  ((List.range 6).filterMap (fun i => let k := b + (p - b + i) % 6; if h : k < 12 then some (⟨k, h⟩ : Fin 12) else none)).find?
    (fun m => f.heads[m].isSome)

/-- The class's turn and pointer. -/
def Fab.turn (f : Fab) (rt : Bool) : Option Nat := if rt then f.turnRt else f.turnBk
def Fab.ptr (f : Fab) (rt : Bool) : Nat := if rt then f.nextRt else f.nextBk
def Fab.setTurn (f : Fab) (rt : Bool) (t : Option Nat) (p : Nat) : Fab :=
  if rt then { f with turnRt := t, nextRt := p } else { f with turnBk := t, nextBk := p }

/-- End master m's turn (R356): its deficit is lost when it presents nothing, and the pointer moves on. -/
def Fab.endTurn (f : Fab) (rt : Bool) (m : Fin 12) : Fab :=
  let f := if f.heads[m].isNone then { f with deficit := f.deficit.set m 0 } else f
  f.setTurn rt none ((if rt then 0 else 6) + (m.val - (if rt then 0 else 6) + 1) % 6)

/-- Deficit round robin at level 0 (R356, R358), over at most `fuel` turns. -/
def Fab.drr (w : Nat → Nat) (gasp rt : Bool) : Nat → Fab → Option (Fin 12) × Fab
  | 0, f => (none, f)
  | k + 1, f =>
    match f.turn rt with
    | none =>
      match f.nextPresenting rt (f.ptr rt) with
      | none => (none, f)
      | some m =>
        let f := { f with deficit := f.deficit.set m (min (2 * w m) (f.deficit[m] + w m)) }
        Fab.drr w gasp rt k (f.setTurn rt (some m.val) m.val)
    | some t =>
      if h : t < 12 then
        let m : Fin 12 := ⟨t, h⟩
        match f.heads[m] with
        | none => Fab.drr w gasp rt k (f.endTurn rt m)
        | some r =>
          if r.age ≠ 0 then Fab.drr w gasp rt k (f.endTurn rt m)
          else if f.eligible gasp m && 0 < f.deficit[m] then
            let f := { f with deficit := f.deficit.set m (f.deficit[m] - 1) }
            (some m, if f.deficit[m] = 0 then f.endTurn rt m else f)
          else
            let f := if !f.ready m r.tgt && !(gasp && gaspBarred m.val) && !f.resv.any (fun x => x.2 == m.val) then { f with resv := f.resv ++ [(r.tgt, m.val)] } else f
            Fab.drr w gasp rt k (f.endTurn rt m)
      else (none, f.setTurn rt none 0)

/-- The choice of a class (R355): reservations, then aged requests, then the round robin. -/
def Fab.pick (f : Fab) (w : Nat → Nat) (gasp rt : Bool) : Option (Fin 12) × Fab :=
  match f.pickResv gasp rt with
  | some m => (some m, { f with deficit := f.deficit.set m (f.deficit[m] - 1) })
  | none =>
    match f.pickAged gasp rt with
    | (some m, f) => (some m, { f with deficit := f.deficit.set m (f.deficit[m] - 1) })
    | (none, f) => Fab.drr w gasp rt 8 f

/-- Class RT has first call on the cycle (R354). -/
def rtSlot (c : Nat) : Bool := c % 5 == 0 || c % 5 == 2

/-- Conflict counts of one cycle (R368). -/
def Fab.countConflicts (f : Fab) : Fab :=
  (fins 12).foldl (fun (f : Fab) (m : Fin 12) =>
    match f.heads[m] with
    | some r => if f.ready m r.tgt then f
        else { f with cnt := SMap.set (fun _ => 0) f.cnt (16 * r.tgt + m.val) (satAdd 32 (SMap.get (fun _ => 0) f.cnt (16 * r.tgt + m.val)) 1) }
    | none => f) f

/-- One CORE cycle of the slot arbiter: the grant, if any. While R364 holds, master 9 goes first in every slot. -/
def Fab.cycleStep (f : Fab) (w : Nat → Nat) (gasp cnt : Bool) : Option (Fin 12) × Fab :=
  let f := if cnt then f.countConflicts else f
  if gasp && f.eligible gasp 9 then (some 9, f)
  else
    let rt := rtSlot f.cycle
    match f.pick w gasp rt with
    | (some m, f) => (some m, f)
    | (none, f) => f.pick w gasp (!rt)

/-- Busy time and completion delay of an access (Table 15-1, R352). -/
def FabKind.busy : FabKind → Nat
  | .read => 2 | .write => 2 | .partWrite => 6
def FabKind.delay : FabKind → Nat
  | .read => 6 | .write => 4 | .partWrite => 8

/-- A kind by its number. -/
def fabKind : Nat → FabKind
  | 0 => .read | 1 => .write | _ => .partWrite

/-- Grant a master's head: the target is busy, the reservation released. -/
def Fab.grant (f : Fab) (m : Fin 12) (r : FabReq) : Fab :=
  { f with
    heads := f.heads.set m none
    busy := SMap.set (fun _ => 0) f.busy r.tgt (f.cycle + r.kind.busy)
    used := SMap.set (fun _ => 0) f.used r.tgt (f.cycle + 1)
    resv := f.resv.filter (fun x => x.2 != m.val) }

/-- Run cycles until a grant, at most `fuel`: the granted master, its request and the cycle of the grant. -/
def Fab.runToGrant (w : Nat → Nat) (gasp cnt : Bool) : Nat → Fab → Option (Fin 12 × FabReq × Nat) × Fab
  | 0, f => (none, f)
  | k + 1, f =>
    match f.cycleStep w gasp cnt with
    | (some m, g) =>
      match g.heads[m] with
      | some r => (some (m, r, g.cycle), { g.grant m r with cycle := g.cycle + 1 })
      | none => (none, { g with cycle := g.cycle + 1 })
    | (none, g) => Fab.runToGrant w gasp cnt k { g with cycle := g.cycle + 1 }

/-- Present a request as a master's head, when it has none and may (R351, R353). -/
def State.fabPresent (s : State) (p : FabPresent) : State :=
  if s.fab.heads[p.master].isNone && s.fabAllowed p.master p.target p.kind && !s.wedged p.master then
    { s with fab := { s.fab with
        heads := s.fab.heads.set p.master (some { tgt := p.target, kind := fabKind p.kind, since := s.fab.cycle, age := 0 })
        used := SMap.set (fun _ => 0) s.fab.used p.target (s.fab.cycle + 1) } }
  else s

/-- The requests are presented, and the arbiter runs to its next grant; the granted access completes and its latency is
kept (R352, R368). A target is busy for at most 32 cycles, so 64 cycles reach a grant. The granted target is answered. -/
def State.fabRun (s : State) (reqs : List FabPresent) : Option Nat × State :=
  let s := reqs.foldl State.fabPresent s
  match Fab.runToGrant s.fabWeight s.lastGasp (s.gb ARB_CTRL_CNT_EN) 64 s.fab with
  | (some (m, r, c), f) =>
    let s := { s with fab := f }
    let lat := c + r.kind.delay - r.since
    (some r.tgt, s.sf (ARB_LAT_MAX m) (max (s.gf (ARB_LAT_MAX m)) (min lat 65535)))
  | (none, f) => (none, { s with fab := f })

/-- A waiting request has waited 256 more cycles (R357): it rises one level, up to 3. -/
def execRequestAgeRise (m : Fin 12) (s : State) : Host.Outcome State Fault Refusal :=
  match s.fab.heads[m] with
  | none => .next s
  | some r =>
    if 3 ≤ r.age then .next s
    else
      let s := { s with fab := { s.fab with
        heads := s.fab.heads.set m (some { r with age := r.age + 1 })
        cycle := max s.fab.cycle (r.since + 256 * (r.age + 1)) } }
      .next (if r.age = 0 then s.incSat (ARB_LAT_AGED m) 1 else s)

/-- A fabric master has made no progress for 10 ms (R348): masters 2 to 11. -/
def execMasterWedged (m : Fin 12) (s : State) : Host.Outcome State Fault Refusal :=
  .next (if m.val < 2 || s.wedged m then s
    else
      let s := if s.gf WDOG_STAT_WEDGED = 0 then s.sf WDOG_STAT_FIRST m else s
      (s.smbit WDOG_STAT_WEDGED m true).raise 4)

/-! ### Weights and counters (R360, R368) -/

/-- The least weight of an RT master (Table 15-2). -/
def minWeight : Nat → Nat
  | 0 => 3 | 1 => 2 | 2 => 2 | 3 => 1 | 4 => 2 | 5 => 4 | _ => 1

/-- The six weights of a written word. -/
def weightsOf (v : Nat) : List Nat := (List.range 6).map (fun i => v / 16 ^ i % 16)

/-- A written ARB_WEIGHT value is accepted (R360). -/
def weightsOk (rt : Bool) (v : Nat) : Bool :=
  let l := weightsOf v
  l.all (· ≠ 0) && (!rt || ((List.range 6).all (fun i => decide (minWeight i ≤ l.getD i 0)) && decide (l.sum ≤ 24)))

/-- A write of ARB_WEIGHT_RT or ARB_WEIGHT_BK: it takes effect, or is ignored with ARB_ERR.WEIGHT. -/
def State.wrArbWeight (s : State) (rt : Bool) (v : Word) : State :=
  if weightsOk rt v.toNat then
    s.sfs ((List.range 6).map (fun i => (if rt then ARB_WEIGHT_RT_W i else ARB_WEIGHT_BK_W i, (weightsOf v.toNat).getD i 0)))
  else s.sf ARB_ERR_WEIGHT 1

/-- Clear every conflict counter. -/
def State.clrConflicts (s : State) : State := { s with fab := { s.fab with cnt := [] } }

/-- Clear every ARB_LATm. -/
def State.clrLatencies (s : State) : State := s.sfs ((List.range 12).flatMap (fun m => [(ARB_LAT_MAX m, 0), (ARB_LAT_AGED m, 0)]))

/-- A write of ARB_CTRL. -/
def State.wrArbCtrl (s : State) (v : Word) : State :=
  let s := s.sb ARB_CTRL_CNT_EN (v.toNat.testBit 0)
  let s := if v.toNat.testBit 1 then s.clrConflicts else s
  if v.toNat.testBit 2 then s.clrLatencies else s

/-- A weight write. -/
def execArbWeightWrite (rt : Bool) (value : Word) (s : State) : Host.Outcome State Fault Refusal :=
  .next (if s.serving then s.wrArbWeight rt value else s)

/-- A write of ARB_CTRL.CNT_CLR, CNT_EN as written beside it. -/
def execArbCounterClear (cntEn : Bool) (s : State) : Host.Outcome State Fault Refusal :=
  .next (if s.serving then s.wrArbCtrl (BitVec.ofNat 32 (2 + b2n cntEn)) else s)

/-- A write of ARB_CTRL.LAT_CLR. -/
def execArbLatencyClear (cntEn : Bool) (s : State) : Host.Outcome State Fault Refusal :=
  .next (if s.serving then s.wrArbCtrl (BitVec.ofNat 32 (4 + b2n cntEn)) else s)

end Sys2Proof.Machine
end

