-- ==== Sys2Proof/Machine/Kettle.lean ====
section
/-! DEFINITION. The Kettle (chapter 20): its clock and time, the tamper sources with their Strainers and sticky evidence,
responses, alarms on backup power, clearing, self-test, and the Kettle port. -/

namespace Sys2Proof.Machine

/-! ### Clock and Kettle time (R458, R459) -/

/-- The RTC after `n` Kettle cycles, with the trim accumulator of R459. -/
def State.ketRun (s : State) (n : Nat) : State :=
  let t := s.gi KET_TRIM_TRIM
  let a := s.ket.acc + n * t.natAbs
  let k := a / 1000000
  let rtc := if 0 ≤ t then s.ket.rtc + n + k else s.ket.rtc + n - k
  { s with ket := { s.ket with rtc := rtc % 2 ^ 47, acc := a % 1000000 } }

/-- Kettle time: RTC count plus offset, to one Kettle cycle (R459, R478). -/
def Kettle.time (k : Kettle) : DevTime := ((k.rtc * 2 ^ 17 + k.offset) % 2 ^ 64) / 2 ^ 17 * 2 ^ 17

/-- Rewrite the offset so that Kettle time equals device time (R459). -/
def State.ketOffset (s : State) : State :=
  { s with ket := { s.ket with offset := (s.now + 2 ^ 64 - s.ket.rtc * 2 ^ 17 % 2 ^ 64) % 2 ^ 64, valid := true } }

/-! ### Sources (R462 to R466, Table 20-1) -/

/-- The condition of source k is present (Table 20-1). -/
def State.ketCond (s : State) (k : Nat) : Bool :=
  if h : k < 4 then s.ket.swAbn[k]
  else if h : k < 8 then s.ket.loop[k - 4].episode
  else if k = 8 then s.ket.tempOut
  else if k = 9 then s.ket.vbatLow
  else if k = 10 then s.gb TIME_STATUS_HALTED
  else false

/-- Source k is flagged. -/
def Kettle.flagged (kt : Kettle) (k : Nat) : Bool := if h : k < 12 then kt.src[k].flag else false

/-- The mask of the flagged sources. -/
def State.ketFlags (s : State) : Nat := maskOf ((List.range 12).filter s.ket.flagged)

/-- The metrology lock is in force (R471). -/
def State.ketLock (s : State) : Bool := (List.range 12).any (fun k => s.ket.flagged k && s.gb (KET_SRC_LOCK k))

/-- ALARM_N is asserted (R470): a flagged source at level, or a pulse that runs. -/
def State.ketAlarm (s : State) : Bool :=
  s.ket.pulse || (List.range 12).any (fun k => s.ket.flagged k && decide (s.gf (KET_SRC_ALARM k) = 2))

/-- Refresh the device's copy of the Kettle's registers (R478). -/
def State.ketCopy (s : State) : State :=
  s.sfs [(KET_STAT_LOCK, b2n s.ketLock), (KET_STAT_ALARM, b2n s.ketAlarm), (KET_STAT_ZEROISED, b2n s.ket.zeroised),
    (KET_STAT_BUSY, b2n (!s.ket.writes.isEmpty)), (KET_STAT_BIST_BUSY, b2n s.ket.bist.isSome), (KET_FLAGS_FLAG, s.ketFlags),
    (KET_FLAGS_COND, maskOf ((List.range 12).filter s.ketCond)), (KET_RTC_LO_SUB, s.ket.rtc % 32768),
    (KET_RTC_HI_SEC, s.ket.rtc / 32768), (KET_PLOSS_LO_FRAC, s.ket.ploss % 2 ^ 32), (KET_PLOSS_HI_SEC, s.ket.ploss / 2 ^ 32),
    (KET_PREST_LO_FRAC, s.ket.prest % 2 ^ 32), (KET_PREST_HI_SEC, s.ket.prest / 2 ^ 32), (KET_PCNT_COUNT, s.ket.pcnt)]

/-- After a Kettle decision: the copy is refreshed, and an open session closes at the onset of the lock (R441, R471). -/
def State.ketSync (s : State) : State :=
  let old := s.gb KET_STAT_LOCK
  let s := s.ketCopy
  if !old && s.gb KET_STAT_LOCK && s.isReady then s.closeSession else s

/-! ### Events, Strainer and evidence (R467, R468), responses (R469 to R473) -/

/-- The evidence of a source after an event at RTC count `t` and Kettle time `kt` with window `w` cycles. -/
def KSrc.event (e : KSrc) (t : Nat) (kt : DevTime) (w : Nat) : KSrc :=
  let fresh := match e.t0 with
    | none => true
    | some a => decide (a + w ≤ t)
  { e with
    tFirst := if e.count = 0 then kt else e.tFirst
    tLast := kt
    count := min (e.count + 1) 0xFFFF
    t0 := if fresh then some t else e.t0
    c := if fresh then 1 else e.c + 1 }

/-- The zeroise response (R472): at once with main power, else a demand. -/
def State.ketZero (s : State) : State :=
  if s.ket.main then (State.zeroise { s with ket := { s.ket with zeroised := true } })
  else { s with ket := { s.ket with zeroDemand := true } }

/-- An event of source k is decided in this Kettle cycle (R467 to R473, R476). A source under test only notes it
(R475). -/
def State.ketEvent (s : State) (k : Fin 12) : State :=
  if !s.gb (KET_SRC_EN k) then s
  else if (match s.ket.bist with | some m => m.testBit k | none => false) then s
  else
    let e := s.ket.src[k].event s.ket.rtc s.ket.time (32768 * s.gf (KET_SRC_W k))
    let alarm := !e.flag && decide (s.gf (KET_SRC_N k) ≤ e.c)
    let live := s.ket.main && s.isReady
    let mark := !s.ket.main || (alarm && !live)
    let e : KSrc := { e with
      flag := e.flag || alarm
      backup := if mark then (e.mark && e.backup) || !s.ket.main else e.backup
      mark := e.mark || mark
      marked := e.marked || (mark && alarm) }
    let s := { s with ket := { s.ket with src := s.ket.src.set k e, pulse := s.ket.pulse || (alarm && decide (s.gf (KET_SRC_ALARM k) = 1)) } }
    if !alarm then s
    else
      let s := if live then (s.emit (s.tamperRec k 1 (s.ketResp k) false e)).raise 12 else s
      if s.gb (KET_SRC_ZERO k) then s.ketZero else s

/-- Source k is under test (R475). -/
def State.ketTested (s : State) (k : Nat) : Bool := match s.ket.bist with | some m => m.testBit k | none => false

/-- The event path of a source under test decided an event. -/
def State.bistHit (s : State) (k : Nat) : State :=
  if s.ketTested k then { s with ket := { s.ket with bistMark := s.ket.bistMark ||| 2 ^ k } } else s

/-! ### Switches (R463) -/

/-- A sample of a switch: the debounced state, whether the last sample differed, and whether the abnormal state was
entered. -/
def swStep (abn diff isAbn : Bool) : Bool × Bool × Bool :=
  if isAbn = abn then (abn, false, false) else if diff then (isAbn, false, isAbn) else (abn, true, false)

/-- One switch is sampled. -/
def State.ketSwitch (s : State) (isOpen : BitVec 4) (k : Fin 4) : State :=
  if !s.gb (KET_SRC_EN k) then s
  else
    let isAbn := isOpen.getLsbD k != s.mbit KET_SWCFG_NORM_OPEN k
    let (a, d, ev) := swStep s.ket.swAbn[k] s.ket.swDiff[k] isAbn
    let (ta, td, tev) := swStep s.ket.bistAbn[k] s.ket.bistDiff[k] (!isAbn)
    let s := { s with ket := { s.ket with swAbn := s.ket.swAbn.set k a, swDiff := s.ket.swDiff.set k d, bistAbn := s.ket.bistAbn.set k ta, bistDiff := s.ket.bistDiff.set k td } }
    let s := if tev then s.bistHit k else s
    if ev then s.ketEvent ⟨k.val, by omega⟩ else s

/-- Each enabled switch is strobed and sampled; `isOpen` has a bit set for each ball that reads open. -/
def execTamperSwitchSample (isOpen : BitVec 4) (cycles : Nat) (s : State) : Host.Outcome State Fault Refusal :=
  .next ((fins 4).foldl (fun s k => s.ketSwitch isOpen k) (s.ketRun cycles)).ketSync

/-! ### Loops (R464) -/

/-- A comparison of a loop: its state after it, and whether an episode starts. -/
def KLoop.step (l : KLoop) (mismatch : Bool) : KLoop × Bool :=
  if mismatch then
    if !l.episode && decide (16 ≤ l.good) then ({ l with episode := true, good := 0 }, true) else ({ l with good := 0 }, false)
  else
    let g := min (l.good + 1) 16
    ({ l with good := g, episode := l.episode && decide (g < 16) }, false)

/-- The LFSR of x^15 + x^14 + 1 after one bit; its driven bit is bit 14. -/
def lfsrNext (v : Nat) : Nat := (2 * v) % 2 ^ 15 + b2n (v.testBit 14 != v.testBit 13)

/-- `n` distinct values of 1 to 32,767, each free (R464: drawn from the TRNG). -/
def State.seeds (s : State) : Nat → List Nat × State
  | 0 => ([], s)
  | n + 1 =>
    let (l, s) := s.seeds n
    let (d, s) := s.drawNat
    ((l.foldl (fun v _ => if l.contains v then v % 32767 + 1 else v) (1 + d % 32767)) :: l, s)

/-- Each loop's LFSR is seeded at a start-up (R464). -/
def State.seedLoops (s : State) : State :=
  let (l, s) := s.seeds 4
  { s with ket := { s.ket with loop := Vector.ofFn (fun k : Fin 4 => { s.ket.loop[k] with lfsr := l.getD k.val 1 }) } }

/-- The mode of loop k (R464). -/
def State.loopMode (s : State) (k : Nat) : Nat := s.gf KET_LOOPCFG_MODE / 4 ^ k % 4

/-- The return of loop k is compared at the end of its strobe or bit period. -/
def execTamperLoopSample (k : Fin 4) (level : Bool) (cycles : Nat) (s : State) : Host.Outcome State Fault Refusal :=
  let s := s.ketRun cycles
  .next (if !s.gb (KET_SRC_EN (4 + k.val)) then s
    else
      let l := s.ket.loop[k]
      let mis := if s.loopMode k = 0 then !level else level != l.lfsr.testBit 14
      let (l1, ev) := l.step mis
      let (l2, tev) := s.ket.bistLoop[k].step (!mis)
      let l1 := if s.loopMode k = 0 then l1 else { l1 with lfsr := lfsrNext l1.lfsr }
      let s := { s with ket := { s.ket with loop := s.ket.loop.set k l1, bistLoop := s.ket.bistLoop.set k l2 } }
      let s := if tev then s.bistHit (4 + k.val) else s
      (if ev then s.ketEvent ⟨4 + k.val, by omega⟩ else s).ketSync)

/-! ### Temperature and VBAT (R466) -/

/-- The Kettle measures its temperature in °C and VBAT in mV. -/
def execKettleEnvMeasure (temp : Int) (millivolts : Nat) (cycles : Nat) (s : State) : Host.Outcome State Fault Refusal :=
  let s := s.ketRun cycles
  let lo := s.gi KET_ENVCFG_TLO
  let hi := s.gi KET_ENVCFG_THI
  let out := decide (temp < lo) || decide (hi < temp)
  let tout := decide (temp < hi) || decide (lo < temp)
  let low := decide (millivolts < 1800 + 10 * s.gf KET_ENVCFG_VTH)
  let en8 := s.gb (KET_SRC_EN 8)
  let en9 := s.gb (KET_SRC_EN 9)
  let ev8 := en8 && out && !s.ket.tempOut
  let ev9 := en9 && low && !s.ket.vbatLow
  let s := if en8 && tout && !s.ket.bistTemp then s.bistHit 8 else s
  let s := if en9 && !low && !s.ket.bistVbat then s.bistHit 9 else s
  let s := { s with ket := { s.ket with tempOut := en8 && out, vbatLow := en9 && low, bistTemp := en8 && tout, bistVbat := en9 && !low } }
  let s := if ev8 then s.ketEvent 8 else s
  .next (if ev9 then s.ketEvent 9 else s).ketSync

/-! ### Power (R460, R461) -/

/-- The Kettle declares main power lost: Kettle time stored, counted; a pending write is lost with the port (R476). -/
def execMainPowerLoss (cycles : Nat) (s : State) : Host.Outcome State Fault Refusal :=
  let s := s.ketRun cycles
  .next (if !s.ket.main then s
    else
      let k := { s.ket with
        main := false
        ploss := s.ket.time
        pcnt := min (s.ket.pcnt + 1) 0xFFFF
        lost := true
        writes := []
        bist := none }
      State.ketSync { s with ket := k })

/-- The Kettle declares main power restored. -/
def execMainPowerRestore (cycles : Nat) (s : State) : Host.Outcome State Fault Refusal :=
  let s := s.ketRun cycles
  let k := { s.ket with main := true, prest := s.ket.time }
  .next (if s.ket.main then s else State.ketSync { s with ket := k })

/-- The Kettle's registers at their cold-start values (Table 20-5). -/
def State.ketRegsReset (s : State) : State :=
  { s with regs := SMap.clearRange s.regs (0x1E00 * 32) (0x100 * 32) }

/-- A Kettle cold start (R461): state lost, source 11 fires. -/
def execKettleColdStart (s : State) : Host.Outcome State Fault Refusal :=
  let s := s.ketRegsReset
  let k : Kettle := { main := s.ket.main, src := Vector.replicate 12 {} }
  .next (State.ketEvent { s with ket := k } 11).ketSync

/-- Once per second of device time, while META runs, the offset is rewritten (R459); the open session's timeout counts
(R439, R441). -/
def execKettleOffsetRefresh (cycles : Nat) (s : State) : Host.Outcome State Fault Refusal :=
  let s := s.ketRun cycles
  .next (if !s.isReady || s.time.frozen || !s.ket.main then s
    else
      let s := s.ketOffset
      ({ s with sec := { s.sec with session := s.sec.session.map (fun (ss : Session) => { ss with left := ss.left - 1 }) } }).ketCopy)

/-- A 1000 s measurement of the trimmed RTC ends: `counts` RTC counts have passed in 1000 s of device time (R459). The
error is given in 0.01 ppm, to the nearest. -/
def execKettleRateMeasure (counts : Nat) (s : State) : Host.Outcome State Fault Refusal :=
  .next (if !s.isReady || s.time.frozen || !s.ket.main then s
    else (s.si KET_RATE_RATE (roundEven (((counts : Rat) / 32768000 - 1) * 100000000))).sf KET_STAT_RATE_VALID 1)

/-- The 100 ms ALARM_N pulse expires (R469, R470). -/
def execAlarmPulseEnd (s : State) : Host.Outcome State Fault Refusal :=
  .next (State.ketSync { s with ket := { s.ket with pulse := false } })

/-! ### Self-test (R475) -/

/-- A self-test of the enabled sources of a mask starts: it needs main power, and a GO while one runs is ignored. -/
def State.bistStart (s : State) (mask : Nat) : State :=
  let s := s.sf KET_BIST_CTRL_MASK mask
  if s.ket.bist.isSome || !s.ket.main then s
  else
    let m := maskOf ((List.range 11).filter (fun k => mask.testBit k && s.gb (KET_SRC_EN k)))
    let hit := if m.testBit 10 && !s.gb TIME_STATUS_HALTED then 2 ^ 10 else 0
    let k := { s.ket with
      bist := some m
      bistMark := hit
      bistAbn := s.ket.swAbn
      bistDiff := Vector.replicate 4 false
      bistLoop := s.ket.loop
      bistTemp := s.ket.tempOut
      bistVbat := s.ket.vbatLow }
    State.ketCopy { s with ket := k }

/-- The self-test ends: PASS, TESTED and DONE are written, one record of event 3 per source is emitted, and a condition
that is present is decided as an event. -/
def execKettleBistDone (cycles : Nat) (s : State) : Host.Outcome State Fault Refusal :=
  let s := s.ketRun cycles
  match s.ket.bist with
  | none => .next s
  | some m =>
    let s := s.sfs [(KET_BIST_RES_PASS, s.ket.bistMark &&& m), (KET_BIST_RES_TESTED, m), (KET_BIST_RES_DONE, 1)]
    let mark := s.ket.bistMark
    let s := { s with ket := { s.ket with bist := none } }
    let l := (fins 12).filter (fun (k : Fin 12) => m.testBit k.val)
    let s := l.foldl (fun (s : State) (k : Fin 12) => s.emit (s.tamperRec k 3 (b2n (mark.testBit k.val)) false s.ket.src[k])) s
    .next (l.foldl (fun (s : State) (k : Fin 12) => if s.ketCond k then s.ketEvent k else s) s).ketSync

/-! ### The Kettle port (R478) -/

/-- A write of KET_ASENSE (R465): setting EN for a loop whose source is enabled is ignored. -/
def State.asenseApply (s : State) (v : Nat) : State :=
  if v.testBit 2 && s.gb (KET_SRC_EN (4 + v % 4)) then s else s.sfs [(KET_ASENSE_LOOP, v % 4), (KET_ASENSE_EN, v / 4)]

/-- The decision state of a source whose enable changes starts afresh (R464: a loop's first mismatch starts an
episode). -/
def State.ketFresh (s : State) (k : Nat) : State :=
  let e := { s.ket with
      swAbn := if h : k < 4 then s.ket.swAbn.set k false else s.ket.swAbn
      swDiff := if h : k < 4 then s.ket.swDiff.set k false else s.ket.swDiff
      loop := if h : 4 ≤ k ∧ k < 8 then s.ket.loop.set (k - 4) { s.ket.loop[k - 4] with episode := false, good := 16 } else s.ket.loop
      tempOut := if k = 8 then false else s.ket.tempOut
      vbatLow := if k = 9 then false else s.ket.vbatLow }
  { s with ket := e }

/-- A write of KET_SRCs of s < 11. -/
def State.ketSrcApply (s : State) (k v : Nat) : State :=
  let en := v.testBit 0
  let ch := en != s.gb (KET_SRC_EN k)
  let s := if en && ch && decide (4 ≤ k ∧ k < 8) && s.gb KET_ASENSE_EN && decide (s.gf KET_ASENSE_LOOP = k - 4) then s.sf KET_ASENSE_EN 0 else s
  let s := if ch then s.ketFresh k else s
  let s := if v / 2 % 4 = 3 then s else s.sf (KET_SRC_ALARM k) (v / 2)
  let n := v / 256 % 256
  let w := v / 65536 % 4096
  s.sfs [(KET_SRC_EN k, v), (KET_SRC_LOCK k, v / 8), (KET_SRC_ZERO k, v / 16), (KET_SRC_N k, max n 1), (KET_SRC_W k, min (max w 1) 3600)]

/-- A write takes effect in the Kettle (Table 20-5, with its clamps). -/
def State.ketApply (s : State) (off v : Nat) : State :=
  if off = 0x1E08 then s.sfs [(KET_SWCFG_NORM_OPEN, v), (KET_SWCFG_PERIOD, v / 16)]
  else if off = 0x1E0C then
    s.sf KET_LOOPCFG_MODE (((List.range 4).map (fun k => (if v / 4 ^ k % 4 = 3 then s.loopMode k else v / 4 ^ k % 4) * 4 ^ k)).sum)
  else if off = 0x1E10 then s.sfs [(KET_ENVCFG_TLO, v), (KET_ENVCFG_THI, v / 256), (KET_ENVCFG_VTH, max (v / 65536 % 256) 20)]
  else if off = 0x1E14 then s.si KET_TRIM_TRIM (clampInt (-200) 200 (toSigned 9 v))
  else if off = 0x1E1C then s.sf KET_ESEL_SRC v
  else if off = 0x1E50 then (if v.testBit 16 then s.bistStart (v % 4096) else s.sf KET_BIST_CTRL_MASK v)
  else if off = 0x1E54 then (if v.testBit 28 then s.sf KET_BIST_RES_DONE 0 else s)
  else if off = 0x1E58 then s.asenseApply v
  else if 0x1E80 ≤ off ∧ off < 0x1EAC ∧ off % 4 = 0 then s.ketSrcApply ((off - 0x1E80) / 4 % 12) v
  else s

/-- Offsets of the Kettle block that hold sealed fields. -/
def ketSealed (off : Nat) : Bool := decide (0x1E08 ≤ off ∧ off < 0x1E18) || decide (0x1E80 ≤ off ∧ off < 0x1EAC)

/-- Offsets of the Kettle block that a write can change. -/
def ketWritable (off : Nat) : Bool := ketSealed off || [0x1E1C, 0x1E50, 0x1E54, 0x1E58].contains off

/-- Put a write into the Kettle port: it waits behind an earlier one, and BUSY is set. -/
def State.ketQueue (s : State) (off : Nat) (v : Word) : State :=
  (State.sf { s with ket := { s.ket with writes := s.ket.writes ++ [(off, v)] } } KET_STAT_BUSY 1)

/-- A write to a register of the Kettle block (R478, R515): the value a sealed field would otherwise keep is the one after
the writes that wait. -/
def State.wrKettle (s : State) (p : Port) (off : Nat) (v : Word) : State :=
  if !ketWritable off || !s.ket.main then s
  else
    let later := s.ket.writes.foldl (fun s w => State.ketApply s w.1 w.2.toNat) s
    let reaches := ketSealed off && decide ((later.ketApply off v.toNat).regs ≠ later.regs)
    s.rws p off v 0 reaches (fun s => if ketSealed off then s else s.ketQueue off v) (fun s => (true, s.ketQueue off v))

/-- A write to a Kettle register. -/
def execKettleWrite (port : Port) (off : Fin 256) (value : Word) (s : State) : Host.Outcome State Fault Refusal :=
  .next (if s.serving then s.wrKettle port (0x1E00 + off.val) value else s)

/-- The oldest write in the Kettle port takes effect. -/
def execKettleWriteComplete (cycles : Nat) (s : State) : Host.Outcome State Fault Refusal :=
  let s := s.ketRun cycles
  match s.ket.writes with
  | [] => .next s
  | w :: l => .next (State.ketApply { s with ket := { s.ket with writes := l } } w.1 w.2.toNat).ketSync

/-- A write of KET_ASENSE with no other write in the port, whole: through the port and into effect. -/
def execKettleAsenseWrite (value : Word) (s : State) : Host.Outcome State Fault Refusal :=
  .next (if s.serving && s.ket.main && s.ket.writes.isEmpty then s.asenseApply value.toNat else s)

/-- A write of KET_BIST_CTRL with GO, with no other write in the port, whole. -/
def execKettleBistGo (mask : BitVec 12) (s : State) : Host.Outcome State Fault Refusal :=
  .next (if s.serving && s.ket.main && s.ket.writes.isEmpty then s.bistStart mask.toNat else s)

/-! ### Clearing (R474, R443) -/

/-- Clear one source; the record of event 2 carries the evidence that the clear ends (log entry 30). -/
def State.ketClear (s : State) (k : Fin 12) : State :=
  let r := s.tamperRec k 2 (s.ketResp k) false s.ket.src[k]
  State.emit { s with ket := { s.ket with src := s.ket.src.set k {} } } r

/-- TAMPER_CLEAR with its block (R443, R474). -/
def State.doTamperClear (s : State) (b : List Byte) : State :=
  if b.length ≠ 128 then s.finish 2 0 []
  else if s.sec.trngFail then s.finish 3 0 []
  else if s.sec.owner.isNone then (s.sf SEC_ERR_NO_OWNER 1).finish 3 4 []
  else
    let (ok, bits, s) := s.verify b 4 (decide ((b.drop 0x24).take 28 = zeros 28)) s.ownerKey
    if !ok then s.finish 4 bits []
    else
      let m := leAt b 0x20 4
      let l := (fins 12).filter (fun (k : Fin 12) => m.testBit k.val && !s.ketCond k)
      let s := (l.foldl State.ketClear s).ketSync
      s.finish 0 0 (leBytes 4 (maskOf (l.map Fin.val)))

/-- TAMPER_CLEAR. -/
def execTamperClear (block : List Byte) (s : State) : Host.Outcome State Fault Refusal :=
  .next (s.onCmd 0x0E (fun s _ => s.doTamperClear block))

end Sys2Proof.Machine
end

