-- ==== Sys2Proof/Machine/Interrupt.lean ====
section
/-! DEFINITION. The interrupt registers (R498, R499). -/

namespace Sys2Proof.Machine

/-- A write to INT_STAT, INT_EN or INT_SET that leaves E non-zero sends vector 0 (R499). -/
def State.intAfterWrite (s : State) : State := if s.intE then s.sendVec 0 else s

/-- A write of INT_STAT clears the bits written 1 (R498). -/
def State.wrIntStat (s : State) (v : Word) : State :=
  ((List.range 15).foldl (fun s k => if v.toNat.testBit k then s.sf (intBit k) 0 else s) s).intAfterWrite

/-- A write of INT_EN. -/
def State.wrIntEn (s : State) (v : Word) : State := (s.sf INT_EN_EN v.toNat).intAfterWrite

/-- A write of INT_SET sets the bits as their causes would (R498). -/
def State.wrIntSet (s : State) (v : Word) : State :=
  ((List.range 15).foldl (fun s k => if v.toNat.testBit k then s.sf (intBit k) 1 else s) s).intAfterWrite

/-- A write of INT_STAT. -/
def execIntStatClear (value : Word) (s : State) : Host.Outcome State Fault Refusal :=
  .next (if s.serving then s.wrIntStat value else s)

/-- A write of INT_EN. -/
def execIntEnWrite (value : Word) (s : State) : Host.Outcome State Fault Refusal :=
  .next (if s.serving then s.wrIntEn value else s)

/-- A write of INT_SET. -/
def execIntSet (value : Word) (s : State) : Host.Outcome State Fault Refusal :=
  .next (if s.serving then s.wrIntSet value else s)

end Sys2Proof.Machine
end

