-- ==== Sys2Proof/Machine/Window.lean ====
section
/-! DEFINITION. Circular windows over the memory banks (R378, R379). -/

namespace Sys2Proof.Machine

/-! ### Windows (R378, R379) -/

/-- The range of window n. -/
def State.cwRange (s : State) (n : Nat) : List Nat := (List.range (s.gf (CW_CFG_COUNT n))).map (fun i => s.gf (CW_CFG_FIRST n) + i)

/-- The member banks of window n: ON and not fenced, ascending. -/
def State.cwMembers (s : State) (n : Nat) : List Nat :=
  if s.gb (CW_CFG_EN n) then (s.cwRange n).filter (fun b => decide (b < 64) && s.bankOn b) else []

/-- Window n is in use by the capture engine. -/
def State.cwInUseCap (s : State) (n : Nat) : Bool := decide (s.gf CAP_CTRL_CW = n) && decide (s.gf CAP_STAT_STATE ≠ 0)
/-- Window n is in use by the aux bank port. -/
def State.cwInUseAbp (s : State) (n : Nat) : Bool := s.gb ABP_CFG_EN && s.gb ABP_CFG_WMODE && decide (s.gf ABP_CFG_WIN = n)
/-- Window n is in use (R379). -/
def State.cwInUse (s : State) (n : Nat) : Bool := s.cwInUseCap n || s.cwInUseAbp n
/-- Bank b lies in the range of a window in use. -/
def State.bankInWindow (s : State) (b : Nat) : Bool := (List.range 16).any (fun n => s.cwInUse n && (s.cwRange n).contains b)

end Sys2Proof.Machine
end

