-- ==== Sys2Proof/Machine/Afe.lean ====
section
/-! DEFINITION. The analogue front end's registers, the channel check, profile and threshold settings (chapters 3 and 4):
what a write changes, and the check engine. -/

namespace Sys2Proof.Machine

/-! ### Channels and groups -/

/-- A voltage channel (Table 0-4): V1 to V3 and VN of each group. -/
def isVoltage (n : Nat) : Bool := decide (n % 8 < 4)

/-- The group of a channel. -/
def grpOf (n : Nat) : Fin 2 := if n < 8 then 0 else 1

/-- Channel n runs: its group runs and its last START started it. -/
def State.chRuns (s : State) (n : Nat) : Bool := s.grp[grpOf n].running && s.grp[grpOf n].mask.testBit (n % 8)

/-- A START of a group is pending: the command at its head of line names the group and has not executed (R71, R72). -/
def State.startPending (s : State) (g : Nat) : Bool :=
  match s.cmd.cur with
  | some c => leAt c.entry 0 1 == 1 && (leAt c.entry 0x10 1).testBit g
  | none => false

/-! ### AFE_CHn_CFG and AFE_REF (R62, R63, R77) -/

/-- A write of AFE_CHn_CFG. -/
def State.wrAfeCh (s : State) (p : Port) (n : Nat) (v : Word) : State :=
  let w := v.toNat
  let en := w % 2
  let gain := if isVoltage n then 0 else w / 2 % 8
  let sensor := w / 16 % 4
  let fnom := w / 64 % 2
  if !s.chPresent n then s
  else
    let enCh := decide (en ≠ s.gf (AFE_CH_CFG_EN n))
    let reach := decide (gain ≠ s.gf (AFE_CH_CFG_GAIN n)) || decide (sensor ≠ s.gf (AFE_CH_CFG_SENSOR n)) ||
      decide (fnom ≠ s.gf (AFE_CH_CFG_INTEG_FNOM n))
    let enBad := enCh && s.grp[grpOf n].running
    let plain : State → State := fun s => if enBad then s.sf AFE_ERR_CFG_RUNNING 1 else s.sf (AFE_CH_CFG_EN n) en
    let inside : State → Bool × State := fun s =>
      let running := s.chRuns n || enBad
      let invalid := decide (6 ≤ gain) || (isVoltage n && decide (sensor ≠ 0))
      if running || invalid then
        let s := if running then s.sf AFE_ERR_CFG_RUNNING 1 else s
        (false, if invalid then s.sf AFE_ERR_CFG_INVALID 1 else s)
      else (true, s.sfs [(AFE_CH_CFG_EN n, en), (AFE_CH_CFG_GAIN n, gain), (AFE_CH_CFG_SENSOR n, sensor), (AFE_CH_CFG_INTEG_FNOM n, fnom)])
    s.rws p (0x210 + 4 * n) v 0 reach plain inside

/-- A write of AFE_CHn_CFG. -/
def execAfeChCfgWrite (port : Port) (n : Fin 16) (value : Word) (s : State) : Host.Outcome State Fault Refusal :=
  .next (if s.serving then s.wrAfeCh port n value else s)

/-- A write of AFE_REF: an accepted change of SEL clears REF_RDY until the reference has settled (R75). -/
def State.wrAfeRef (s : State) (p : Port) (v : Word) : State :=
  let sel := v.toNat % 2
  s.rws p 0x200 v 0 (decide (sel ≠ s.gf AFE_REF_SEL)) id (fun s =>
    if (List.range 16).any s.chRuns then (false, s.sf AFE_ERR_CFG_RUNNING 1)
    else (true, s.sfs [(AFE_REF_SEL, sel), (AFE_REF_REF_RDY, 0)]))

/-- A write of AFE_REF. -/
def execAfeRefSelWrite (port : Port) (value : Word) (s : State) : Host.Outcome State Fault Refusal :=
  .next (if s.serving then s.wrAfeRef port value else s)

/-- At start-up, the house converter has made its start-up conversions (R516); later there is nothing to wait for. -/
def State.sarSettled (s : State) : Bool := decide (s.rst.phase ≠ .startup) || s.rst.sarDone

/-- The reference has settled (R75), at start-up after the conversions of R516: starts that it held may execute. -/
def execRefReady (s : State) : Host.Outcome State Fault Refusal :=
  .next (if !s.inReset && s.sarSettled then s.sf AFE_REF_REF_RDY 1 else s)

/-! ### The channel check (R68 to R73) -/

/-- Clear the results of the channels of a mask, as each check does at its start. -/
def State.chkClear (s : State) (mask : Nat) : State :=
  (bitsOf 16 mask).foldl (fun s n =>
    s.sfs [(AFE_CHK_RES_VALID n, 0), (AFE_CHK_RES_OFS_FAIL n, 0), (AFE_CHK_RES_REF_FAIL n, 0), (AFE_CHK_RES_TONE_FAIL n, 0)]) s

/-- A write of AFE_CHK_CTRL, with its GO (R69, R71). CHMASK, PROFILE and NAVG of a write whose GO is refused are stored all the same,
and a GO that leaves no channel runs an empty check (DESIGN CHOICE, log entry 65); the running check keeps the PROFILE and NAVG with
which it began. -/
def State.wrChk (s : State) (v : Word) : State :=
  let w := v.toNat
  let s := s.sfs [(AFE_CHK_CTRL_CHMASK, w), (AFE_CHK_CTRL_PROFILE, w / 2 ^ 16), (AFE_CHK_CTRL_NAVG, w / 2 ^ 17)]
  if !w.testBit 20 then s
  else if s.gb AFE_CHK_STATUS_BUSY then s.sf AFE_ERR_CHK_REJECT 1
  else
    let m := w % 2 ^ 16
    let s := s.chkClear m
    let out := (bitsOf 16 m).filter (fun n => s.chRuns n || !s.chPresent n || s.startPending (n / 8))
    let s := if out.isEmpty then s else s.sf AFE_ERR_CHK_REJECT 1
    let c : Chk := { mask := maskOf ((bitsOf 16 m).filter (fun n => !out.contains n)), steep := 8 + w / 2 ^ 16 % 2, navg := w / 2 ^ 17 % 8 }
    State.sf { s with chk := c } AFE_CHK_STATUS_BUSY 1

/-- A write of AFE_CHK_CTRL. -/
def execAfeCheckGo (value : Word) (s : State) : Host.Outcome State Fault Refusal :=
  .next (if s.serving then s.wrChk value else s)

/-- K of a check (R69): 2^NAVG samples, NAVG 7 as 6. -/
def Chk.count (c : Chk) : Nat := 2 ^ min c.navg 6

/-- Samples of one tone period (R69): 8 with S0, 4 with S1. -/
def Chk.period (c : Chk) : Nat := if c.steep = 8 then 8 else 4

/-- Every channel under check has given the first sample after the move and `k` more. -/
def Chk.full (c : Chk) (k : Nat) (codes : List (List Int)) : Bool := (bitsOf 16 c.mask).all (fun n => (codes.getD n []).length == k + 1)

/-- The mean of the samples after the first (R69); a mean that is no whole code goes up or down by a free bit (log entry 65). -/
def chkMean (up : Bool) (l : List Int) : Int :=
  let k : Int := ((l.length - 1 : Nat) : Int)
  let x := (l.drop 1).sum
  x / k + (if x % k = 0 then 0 else if up then 1 else 0)

/-- The means of the 16 channels. -/
def State.chkMeans (s : State) (codes : List (List Int)) : List Int := (List.range 16).map (fun n => chkMean (Config.freeBool (s.free + n)) (codes.getD n []))

/-- The selectors of the channels under check move to the next position at an output-period boundary; `codes` are the samples of
the 16 channels in the position that they leave, which has given its number of them (R69). -/
def execCheckSelectorMove (codes : List (List Int)) (s : State) : Host.Outcome State Fault Refusal :=
  let c := s.chk
  .next (if !s.gb AFE_CHK_STATUS_BUSY then s
    else if c.pos = 0 then { s with chk := { c with pos := 1 } }
    else if c.pos = 1 && c.full c.count codes then { s with chk := { c with pos := 2, ofs := s.chkMeans codes }, free := s.free + 16 }
    else if c.pos = 2 && c.full c.count codes then { s with chk := { c with pos := 3, ref := s.chkMeans codes }, free := s.free + 16 }
    else s)

/-- SHORTED misses its limit: |mean| ≤ 4194 (Table 3-4). -/
def chkOfsFail (m : Int) : Bool := decide (4194 < m.natAbs)

/-- REFCHK misses its limit: within ±0.5 % of 2,516,582 × 1.2 V / VREF_MEAS, with VREF_MEAS in 100 µV; it is missed where VREF_MEAS
is 0 (DESIGN CHOICE, log entry 65). -/
def chkRefFail (m : Int) (vref : Nat) : Bool :=
  let x : Rat := 2516582 * 12000 / (vref : Rat)
  vref == 0 || decide ((m : Rat) < x * 995 / 1000) || decide (x * 1005 / 1000 < (m : Rat))

/-- TONE misses its limit: within ±2 % of 1,677,722. -/
def chkToneFail (pp : Nat) : Bool := decide ((pp : Rat) < 1677722 * 98 / 100) || decide ((1677722 : Rat) * 102 / 100 < (pp : Rat))

/-- Write one channel's check results. -/
def State.chkResult (s : State) (n : Nat) (ofs ref : Int) (tone : Nat) : State :=
  let vref := s.gf AFE_REF_VREF_MEAS
  let s := (s.si (AFE_CHK_OFS_OFS n) ofs).si (AFE_CHK_REF_REF n) ref
  s.sfs [(AFE_CHK_TONE_TONE_PP n, tone), (AFE_CHK_RES_VALID n, 1), (AFE_CHK_RES_OFS_FAIL n, b2n (chkOfsFail ofs)),
    (AFE_CHK_RES_REF_FAIL n, b2n (chkRefFail ref vref)), (AFE_CHK_RES_TONE_FAIL n, b2n (chkToneFail tone))]

/-- A channel's last check failed a limit. -/
def State.chkFailed (s : State) (n : Nat) : Bool :=
  s.gb (AFE_CHK_RES_OFS_FAIL n) || s.gb (AFE_CHK_RES_REF_FAIL n) || s.gb (AFE_CHK_RES_TONE_FAIL n)

/-- Write the results of the channels of a mask. -/
def State.chkResults (s : State) (mask : Nat) (ofs ref : List Int) (tone : List Nat) : State :=
  (bitsOf 16 mask).foldl (fun s n => s.chkResult n (ofs.getD n 0) (ref.getD n 0) (tone.getD n 0)) s

/-- Largest minus smallest code of the samples after the first. -/
def chkSpan (l : List Int) : Nat :=
  match l.drop 1 with
  | [] => 0
  | a :: r => (r.foldl max a - r.foldl min a).toNat

/-- The check completes with the samples of the 16 channels in TONE: the selectors return to NORMAL, results and FAILMASK are
written, DONE is set (R69). -/
def execAfeCheckDone (codes : List (List Int)) (s : State) : Host.Outcome State Fault Refusal :=
  let c := s.chk
  .next (if s.gb AFE_CHK_STATUS_BUSY && decide (c.pos = 3) && c.full c.period codes && s.sarSettled then
    let s := s.chkResults c.mask c.ofs c.ref ((List.range 16).map (fun n => chkSpan (codes.getD n [])))
    let s := { s with chk := {} }
    s.sfs [(AFE_CHK_STATUS_FAILMASK, maskOf ((bitsOf 16 c.mask).filter s.chkFailed)), (AFE_CHK_STATUS_BUSY, 0), (AFE_CHK_STATUS_DONE, 1)]
  else s)

/-! ### Profiles (R79, R81, R83) -/

/-- A profile code of Table 4-1. -/
def profOk (c : Nat) : Bool := decide (c < 6) || c == 8 || c == 9

/-- D of a profile. -/
def profD : Nat → Nat
  | 0 => 32 | 1 => 64 | 2 => 128 | 3 => 128 | 4 => 256 | 5 => 512 | 8 => 1536 | _ => 3072

/-- The group delay in half modulator periods (Table 4-2). -/
def profTau : Nat → Nat
  | 0 => 1069 | 1 => 2188 | 2 => 8460 | 3 => 8587 | 4 => 17163 | 5 => 16909 | 8 => 1551 | _ => 3087

/-- CIC order and FIR taps of a profile; a Steep one has neither. -/
def profN : Nat → Nat
  | 0 => 3 | 1 => 4 | 2 => 4 | 3 => 5 | 4 => 5 | 5 => 3 | _ => 1
def profT : Nat → Nat
  | 0 => 31 | 1 => 31 | 2 => 63 | 3 => 63 | 4 => 63 | 5 => 31 | _ => 1

/-- A Steep profile. -/
def profSteep (c : Nat) : Bool := c == 8 || c == 9

/-- The filter window in modulator periods (R61): N(D − 1) + (T − 1) D + 1; for a Steep profile D. -/
def profSpan (c : Nat) : Nat := profN c * (profD c - 1) + (profT c - 1) * profD c + 1

/-- A write of PROF_CHn_CFG (R83, R99). -/
def State.wrProf (s : State) (p : Port) (n : Nat) (v : Word) : State :=
  let c := v.toNat % 16
  if !s.chPresent n then s
  else s.rws p (0x400 + 4 * n) v 0 (decide (c ≠ s.gf (PROF_CH_CFG_PROFILE n))) id (fun s =>
    let running := s.grp[grpOf n].running
    let invalid := !profOk c
    if running || invalid then
      let s := if running then s.sf PROF_ERR_CFG_RUNNING 1 else s
      (false, if invalid then s.sf PROF_ERR_CFG_INVALID 1 else s)
    else (true, s.sf (PROF_CH_CFG_PROFILE n) c))

/-- A write of PROF_CHn_CFG. -/
def execProfCfgWrite (port : Port) (n : Fin 16) (value : Word) (s : State) : Host.Outcome State Fault Refusal :=
  .next (if s.serving then s.wrProf port n value else s)

end Sys2Proof.Machine
end

