-- ==== Sys2Proof/Machine/Capture.lean ====
section
/-! DEFINITION. The capture engine (R214 to R220): arming, triggers, the circular record of samples, and readout. -/

namespace Sys2Proof.Machine

/-- Cut a list into pieces of at most `n`. -/
def chunks {α : Type} (n : Nat) : Nat → List α → List (List α)
  | 0, _ => []
  | _, [] => []
  | k + 1, l => l.take n :: chunks n k (l.drop n)

/-- Pieces of at most `n` items. -/
def pieces {α : Type} (n : Nat) (l : List α) : List (List α) := chunks n l.length l

/-! ### Sources, banks and depth (R214, R379) -/

/-- A source is selected in CAP_SRC. -/
def State.capSel (s : State) (src : Nat) : Bool := if src < 16 then s.mbit CAP_SRC_SD src else decide (src < 24) && s.mbit CAP_SRC_TR (src - 16)

/-- The engine's banks: the members of its window that CAPT owns. -/
def State.capBanks (s : State) : List Nat := (s.cwMembers (s.gf CAP_CTRL_CW)).filter (fun b => decide (s.gf (BANK_OWNER_OWNER b) = 1))

/-- The summed byte rate of the selected sources, in bytes per second (R214). -/
def State.capRate (s : State) : Nat :=
  ((List.range 16).map (fun n => if s.mbit CAP_SRC_SD n then 4 * (6144000 / profD (s.gf (PROF_CH_CFG_PROFILE n))) else 0)).sum +
  ((List.range 8).map (fun n => if s.mbit CAP_SRC_TR n then 40960000 else 0)).sum

/-- The depth D in µs. -/
def State.capDepth (s : State) : Nat := 262144 * s.capBanks.length * 1000000 / s.capRate

/-- A number of µs in 2^-32 s, truncated. -/
def usTime (us : Nat) : DevTime := us * 2 ^ 32 / 1000000

/-! ### Registers (R215) -/

/-- A register of Table 9-7 is writable while the engine is idle. Otherwise CFG_ARMED is set and the write is ignored, that of CAP_ERR
too. -/
def State.capWritable (s : State) (f : State → State) : State :=
  if s.gf CAP_STAT_STATE = 0 then f s else s.sf CAP_ERR_CFG_ARMED 1

/-! ### Arming and triggers (R215 to R217) -/

/-- Arm the engine at this instant. -/
def State.capArm (s : State) : State :=
  State.sf { s with cap := { armT := s.now, since := s.now } } CAP_STAT_STATE 1

/-- The CAP_ERR bits that refuse an ARM. -/
def State.capRefusal (s : State) : Nat :=
  b2n (decide (s.capDepth < s.gf CAP_PRE_US + s.gf CAP_POST_US) && s.capRate != 0 && !s.capBanks.isEmpty) + 2 * b2n s.capBanks.isEmpty +
  4 * b2n (s.capRate == 0) + 8 * b2n (decide (s.gf CAP_STAT_STATE ≠ 0))

/-- Set CAP_ERR bits 0 to 3 from a mask. -/
def State.capErr (s : State) (m : Nat) : State :=
  [(0, CAP_ERR_TOO_DEEP), (1, CAP_ERR_NO_BANK), (2, CAP_ERR_NO_SRC), (3, CAP_ERR_BUSY)].foldl
    (fun s e => if m.testBit e.1 then s.sf e.2 1 else s) s

/-- CAPTURE_ARM. -/
def State.doArm (s : State) : State :=
  let m := s.capRefusal
  if m = 0 then s.capArm.finish 0 0 [] else (s.capErr m).finish 3 m []

/-- The order of Table 9-5 among the kinds of Table 13-4. -/
def capRank (kind : Nat) : Nat := if kind ≤ 4 then 0 else if kind = 5 then 1 else if kind ≤ 7 then 2 else if kind ≤ 9 then 3 else 4

/-- A trigger opens the window in place of another one decided in the same CORE cycle. -/
def CapTrig.beats (x y : CapTrig) : Bool := decide (x.t < y.t) || (decide (x.t = y.t) && decide (capRank x.kind < capRank y.kind))

/-- The end of the window that a trigger list gives; the window never exceeds D. -/
def State.capEnd (s : State) (l : List CapTrig) : DevTime :=
  let post := usTime (s.gf CAP_POST_US)
  match l with
  | [] => s.cap.wEnd
  | a :: r =>
    let lim := a.t - usTime (s.gf CAP_PRE_US) + usTime s.capDepth
    if s.gb CAP_CTRL_EXTEND then r.foldl (fun e x => max e (min (x.t + post) lim)) (a.t + post) else a.t + post

/-- The capture's trigger list: its first trigger opens the window. -/
def State.capList (s : State) (l : List CapTrig) : State :=
  let s := { s with cap := { s.cap with trigs := l, wEnd := s.capEnd l } }
  s.s64 CAP_TRIG_T_LO_FRAC CAP_TRIG_T_HI_SEC ((l.head?.map CapTrig.t).getD 0)

/-- A trigger is decided (R216, R217): it opens the window, joins the list, or counts as missed. Triggers decided at one instant of the
device-time counter are decided in one CORE cycle (log entry 70). -/
def State.capTrigger (s : State) (kind src : Nat) (t : DevTime) : State :=
  let st := s.gf CAP_STAT_STATE
  let x : CapTrig := { kind := kind, src := src, t := t }
  if ¬(st = 1 ∨ st = 2) ∨ t < s.cap.armT then s.incSat CAP_MISSED_COUNT 1
  else if st = 1 then
    (State.sfs { s with cap := { s.cap with decT := s.time.t } } [(CAP_STAT_STATE, 2), (CAP_STAT_CAPID, s.gf CAP_STAT_CAPID + 1)]).capList [x]
  else
    let first := decide (s.cap.decT = s.time.t) && (match s.cap.trigs with | a :: _ => x.beats a | [] => false)
    if first then
      (let s := if 8 ≤ s.cap.trigs.length then s.incSat CAP_MISSED_COUNT 1 else s
       s.capList ((x :: s.cap.trigs).take 8))
    else if s.cap.trigs.length < 8 then s.capList (s.cap.trigs ++ [x])
    else s.incSat CAP_MISSED_COUNT 1

/-- A voltage event, RVC candidate or signalling start triggers when CAP_TRIG selects its kind and group: kinds 1 to 5 of
Table 13-4. -/
def State.capEvent (s : State) (kind g : Nat) (t : DevTime) : State :=
  let f := match kind with
    | 1 => CAP_TRIG_DIP | 2 => CAP_TRIG_SWELL | 3 => CAP_TRIG_INT | 4 => CAP_TRIG_RVC | _ => CAP_TRIG_MSV
  if s.gb f && s.gb (if g = 0 then CAP_TRIG_GRP_A else CAP_TRIG_GRP_B) then s.capTrigger kind g t else s

/-- CAPTURE_FORCE: refused with BUSY when the engine is not armed. -/
def State.doForce (s : State) : State :=
  if s.gf CAP_STAT_STATE = 1 then
    let s := s.capTrigger 0x0A 0xFF s.now
    s.finish 0 0 (leBytes 4 (s.gf CAP_STAT_CAPID))
  else (s.sf CAP_ERR_BUSY 1).finish 3 8 []

/-! ### Recording -/

/-- A produced sample of a source enters the circular record while the engine is armed or in post-trigger: what is older
than D is overwritten (R215). -/
def State.capSample (s : State) (src idx : Nat) (t e : DevTime) (w : Nat) : State :=
  let st := s.gf CAP_STAT_STATE
  if (st = 1 ∨ st = 2) && s.capSel src then
    let old := if st = 1 then t - usTime s.capDepth else s.cap.since
    let buf := if st = 1 then s.cap.buf.filter (fun x => decide (old ≤ x.t)) else s.cap.buf
    { s with cap := { s.cap with buf := buf ++ [{ src := src, idx := idx, t := t, e := e, w := w }], since := max s.cap.since old } }
  else s

/-- A span in which a source produced nothing lies in the record (R219). -/
def State.capGap (s : State) (src : Nat) (g : Gap) : State :=
  let st := s.gf CAP_STAT_STATE
  if (st = 1 ∨ st = 2) && s.capSel src then { s with cap := { s.cap with gaps := s.cap.gaps ++ [(src, g)] } } else s

/-- A step or a halt at the present instant may lie in the window (R220). -/
def State.capFlag (s : State) (fl : Nat) : State :=
  if s.gf CAP_STAT_STATE = 0 then s else { s with cap := { s.cap with marks := s.cap.marks ++ [(s.now, fl)] } }

/-- A bank of the engine is fenced (R380): which samples it held is not said, so how many of the oldest are gone is a free
value; what is gone inside an open window is covered by a FENCED gap. -/
def State.capBankLost (s : State) (b : Nat) : State :=
  let st := s.gf CAP_STAT_STATE
  if (st = 1 ∨ st = 2 ∨ st = 3) && (s.cwRange (s.gf CAP_CTRL_CW)).contains b then
    let (k, s) := s.drawNat
    let buf := s.cap.buf.drop (k % (s.cap.buf.length + 1))
    let since := match buf with | a :: _ => max s.cap.since a.t | [] => s.now
    let gone := s.cap.buf.take (k % (s.cap.buf.length + 1))
    let s := { s with cap := { s.cap with buf := buf, since := since } }
    if st = 1 then s
    else
      (List.range 24).foldl (fun (s : State) (src : Nat) =>
        match gone.filter (fun x => x.src == src) with
        | [] => s
        | a :: l =>
          let z := (a :: l).getLastD a
          { s with cap := { s.cap with gaps := s.cap.gaps ++ [(src, { cause := gapFenced, tStart := a.t, tEnd := z.e, si := a.idx % 2 ^ 48, count := l.length + 1 })] } }) s
  else s

/-! ### Commands -/

/-- The last record of a capture has been written: the engine arms again or goes idle (R219). -/
def execCaptureReadoutDone (s : State) : Host.Outcome State Fault Refusal :=
  .next (if s.gf CAP_STAT_STATE = 3 then
    (if s.gb CAP_CTRL_AUTOREARM then s.capArm else State.sf { s with cap := {} } CAP_STAT_STATE 0)
  else s)

/-- CAPTURE_ARM. -/
def execCaptureArm (s : State) : Host.Outcome State Fault Refusal := .next (s.onCmd 5 (fun s _ => s.doArm))

/-- CAPTURE_FORCE. -/
def execCaptureForce (s : State) : Host.Outcome State Fault Refusal := .next (s.onCmd 6 (fun s _ => s.doForce))

end Sys2Proof.Machine
end

