-- ==== Sys2Proof/Machine/Group.lean ====
section
/-! DEFINITION. Sigma-delta groups: the time base and its anchors (R21, R22, R124 to R129), output ticks and the sample FIFO
(R14, R16), sample records (R310), and the threshold comparators (R90 to R96). -/

namespace Sys2Proof.Machine

/-! ### The time base (R124 to R129) -/

/-- The exact counter increment before rounding, in 2^-64 s per META cycle. -/
def State.incExact (s : State) : Rat :=
  ((2 ^ 64 : Nat) : Rat) / 98304000 * (1 + (s.gi TIME_ADJ_ADJ : Rat) / ((2 ^ 40 : Nat) : Rat) + (s.time.slew : Rat) / 100000)

/-- The nearest multiple of 5 of a positive number, the lower of two equally near (R124). -/
def nearest5 (x : Rat) : Nat :=
  let q := x / 5
  let n := q.num.natAbs / q.den
  if (n : Rat) + 1 / 2 < q then 5 * (n + 1) else 5 * n

/-- The counter increment I of R124. -/
def State.inc (s : State) : Nat := nearest5 s.incExact

/-- Device time reaches `t` (2^-64 s) with the event that happens then; TIME_HWM follows (R134). -/
def State.timeTo (s : State) (t : Nat) : State :=
  let t := max s.time.t t
  { s with time := { s.time with t := t }, ket := { s.ket with hwm := max s.ket.hwm (t / 2 ^ 32 % 2 ^ 64) } }

/-- Change one group, one channel. -/
def State.setGrp (s : State) (g : Fin 2) (f : Grp → Grp) : State := { s with grp := s.grp.set g (f s.grp[g]) }
def State.setChan (s : State) (n : Fin 16) (f : Chan → Chan) : State := { s with chan := s.chan.set n (f s.chan[n]) }

/-- Channel c of group g. -/
def chanOf (g : Fin 2) (c : Fin 8) : Fin 16 := ⟨8 * g.val + c.val, by omega⟩

/-- The anchor in force at group SI n. -/
def Grp.anchorAt (g : Grp) (n : Nat) : Anchor := (g.anchors.find? (fun a => decide (a.n ≤ n))).getD { n := 0, ta := [], p := 0 }

/-- T of channel c at group SI n under an anchor, in 2^-64 s (R126). -/
def Anchor.full (a : Anchor) (c n : Nat) : Nat := ((a.ta.getD c 0 : Int) + ((n : Int) - (a.n : Int)) * (a.p : Int)).toNat

/-- T truncated to 2^-32 s (R22). -/
def Anchor.time (a : Anchor) (c n : Nat) : DevTime := a.full c n / 2 ^ 32 % 2 ^ 64

/-- T of channel c at group SI n. -/
def Grp.time (g : Grp) (c n : Nat) : DevTime := (g.anchorAt n).time c n

/-- The instant one past group SI n under the anchor in force at n (R23). -/
def Grp.timeAfter (g : Grp) (c n : Nat) : DevTime := (g.anchorAt n).time c (n + 1)

/-- The group SI of a channel's SI. -/
def Chan.grpSi (c : Chan) (si : Nat) : Nat := ((si : Int) - c.off).toNat

/-- T of channel n's SI, and one past it. -/
def State.chT (s : State) (n : Fin 16) (si : Nat) : DevTime := s.grp[grpOf n].time (n.val % 8) (s.chan[n].grpSi si)
def State.chTAfter (s : State) (n : Fin 16) (si : Nat) : DevTime := s.grp[grpOf n].timeAfter (n.val % 8) (s.chan[n].grpSi si)

/-- The instant at which a run of `k` samples from SI `si` ends; for an empty run, the instant of its first SI. -/
def State.chTEnd (s : State) (n : Fin 16) (si k : Nat) : DevTime := if k = 0 then s.chT n si else s.chTAfter n (si + k - 1)

/-- The ANCHOR record of a group (R129, R322). -/
def State.anchorRec (s : State) (g : Fin 2) (a : Anchor) (cause : Nat) : Rec :=
  let gr := s.grp[g]
  let cs := (fins 8).filter (fun (c : Fin 8) => gr.mask.testBit c.val)
  { cls := clsLOG, src := srcGrp g, si := a.n, tStart := a.time gr.lead a.n, tEnd := a.time gr.lead a.n, aux := 1,
    payload := leBytes 1 cs.length ++ leBytes 1 cause ++ zeros 6 ++
      cs.flatMap (fun (c : Fin 8) => leBytes 2 (8 * g.val + c.val) ++ leBytes 2 (profTau (gr.prof.getD c 2)) ++ zeros 4 ++
        leBytes 8 (((a.n : Int) + s.chan[chanOf g c].off).toNat) ++ leBytes 12 (a.ta.getD c 0) ++ zeros 4 ++ leBytes 8 a.p) }

/-- A waiting tick ANCHOR of a source (R339). -/
def QItem.tickAnchor (src : Nat) : QItem → Bool
  | .placed _ r => r.cls == clsLOG && r.aux % 256 == 1 && r.src == src && (r.payload.getD 1 0) == 3
  | .summary _ _ _ _ => false

/-- A tick ANCHOR takes the place and SEQ of a waiting one of its source (R339). -/
def QItem.retick (r : Rec) (i : QItem) : QItem :=
  match i with
  | .placed q x => if QItem.tickAnchor r.src (.placed q x) then .placed q r else i
  | i => i

/-- Emit an ANCHOR record: while I is held, one of a tick takes the place of a waiting tick ANCHOR of its source (R339). -/
def State.anchorEmit (s : State) (r : Rec) : State :=
  let x := s.shadowed r
  let wait : List QItem → Bool := fun l => s.gb ERR_SUMM_ANCHOR_HOLD && (r.payload.getD 1 0) == 3 && l.any (QItem.tickAnchor r.src)
  match s.carrier clsLOG r.src 0 with
  | some n =>
    if wait s.rings[n].q then { s.setRing n (fun g => { g with q := g.q.map (QItem.retick x) }) with formed := s.formed ++ [x] }
    else s.emit r
  | none => if wait s.heldLog then { s with heldLog := s.heldLog.map (QItem.retick x), formed := s.formed ++ [x] } else s.emit r

/-- Publish an anchor of a group. -/
def State.publishAnchor (s : State) (g : Fin 2) (a : Anchor) (cause : Nat) : State :=
  let s := s.setGrp g (fun gr => { gr with anchors := a :: gr.anchors, due := none, delta := 0 })
  s.anchorEmit (s.anchorRec g a cause)

/-- D of a running group: that of its lead's profile. -/
def Grp.d (g : Grp) : Nat := profD (g.prof.getD g.lead 2)

/-- k of R82: the first output tick used. -/
def Grp.firstTick (g : Grp) : Nat :=
  ((List.range 8).map (fun c => if g.mask.testBit c then cdiv (profTau (g.prof.getD c 2)) g.d else 0)).foldl max 0

/-- The first anchor after START or a restart (R126 to R128). -/
def State.firstAnchor (s : State) (g : Fin 2) : Anchor :=
  let gr := s.grp[g]
  let out := gr.startT + gr.firstTick * gr.d * 16 * s.inc
  { n := gr.si, ta := (List.range 8).map (fun c => out - 8 * profTau (gr.prof.getD c 2) * s.inc), p := 16 * gr.d * s.inc }

/-- A later anchor at group SI n: T continues, moved by the steps not yet in it (R128, R133). -/
def State.nextAnchor (s : State) (g : Fin 2) (n : Nat) : Anchor :=
  let gr := s.grp[g]
  let a := gr.anchorAt n
  { n := n, ta := (List.range 8).map (fun c => ((a.full c n : Int) + gr.delta).toNat), p := 16 * gr.d * s.inc }

/-! ### Sample records (R310) -/

/-- The samples of a channel in a list of ticks from an SI on, as runs of consecutive indices: (channel SI, words). -/
def smpRuns (c : Nat) (off : Int) (cov : Nat) : List Tick → List (Nat × List Nat)
  | [] => []
  | t :: l =>
    let si := ((t.si : Int) + off).toNat
    let r := smpRuns c off cov l
    match t.smp.getD c none with
    | none => r
    | some w =>
      if si < cov then r
      else match r with
        | (a, ws) :: r' => if a = si + 1 then (si, w :: ws) :: r' else (si, [w]) :: (a, ws) :: r'
        | [] => [(si, [w])]

/-- One SMP record of consecutive samples. -/
def State.smpRec (s : State) (n : Fin 16) (flags si : Nat) (ws : List Nat) : Rec :=
  { cls := clsSMP, src := n, flags := flags, tStart := s.chT n si, tEnd := s.chTEnd n si ws.length, si := si % 2 ^ 48, count := ws.length,
    aux := ws.foldl (fun a w => a ||| w / 2 ^ 24) 0, payload := ws.flatMap (leBytes 4) }

/-- Cut a run into pieces of at most 960 samples, each with its first SI. -/
def smpPieces (si : Nat) (ws : List Nat) : List (Nat × List Nat) :=
  let ps := pieces 960 ws
  (List.range ps.length).map (fun i => (si + 960 * i, ps.getD i []))

/-- Release the samples of channel n whose ticks lie before an instant (all of them with none), with flags; then the gap
records that waited behind them. -/
def State.smpRelease (s : State) (n : Fin 16) (upto : Option DevTime) (flags : Nat) : State :=
  let gr := s.grp[grpOf n]
  let ch := s.chan[n]
  let ts := gr.ticks.filter (fun t => match upto with | some b => decide (t.t < b) | none => true)
  let runs := (smpRuns (n.val % 8) ch.off ch.smpCov ts).filter (fun r => !r.2.isEmpty)
  let recs := runs.flatMap (fun r => (smpPieces r.1 r.2).map (fun p => s.smpRec n flags p.1 p.2))
  let cov := match ts.getLast? with
    | some t => max ch.smpCov (((t.si : Int) + ch.off).toNat + 1)
    | none => ch.smpCov
  let (now, later) := ch.wait.partition (fun r => match upto with | some b => decide (r.tStart < b) | none => true)
  let out := (recs ++ now).foldl (fun l r => insHold r l) []
  let s := s.setChan n (fun c => { c with smpCov := cov, wait := later })
  if gr.shadow.isSome then s.emits now else s.emits out

/-- A gap record on channel n's SMP stream: it waits behind pieces that the slices hold (R310). -/
def State.smpGap (s : State) (n : Fin 16) (g : Gap) : State :=
  let gr := s.grp[grpOf n]
  let r := gapRec clsSMP n g
  if gr.running && !gr.monitor && !gr.lost then s.setChan n (fun c => { c with wait := c.wait ++ [r] })
  else (s.smpRelease n none 0).emit r

/-- The samples of a channel that its SMP stream has not covered. -/
def State.smpLeft (s : State) (n : Fin 16) : Nat := s.chan[n].si - s.chan[n].smpCov

/-! ### Threshold comparators (R90 to R95) -/

/-- Fields of the high or the low comparator of channel n. -/
def thrState (n : Nat) (low : Bool) : Fld := if low then THR_STAT_LO_STATE n else THR_STAT_HI_STATE n
def thrSeen (n : Nat) (low : Bool) : Fld := if low then THR_STAT_LO_SEEN n else THR_STAT_HI_SEEN n
def thrEn (n : Nat) (low : Bool) : Fld := if low then THR_CFG_LO_EN n else THR_CFG_HI_EN n
def thrLevel (n : Nat) (low : Bool) : Fld := if low then THR_LO_LEVEL n else THR_HI_LEVEL n

/-- One comparator of a channel, and a change of it. -/
def Chan.thr (c : Chan) (low : Bool) : Thr := if low then c.lo else c.hi
def State.setThr (s : State) (n : Fin 16) (low : Bool) (f : Thr → Thr) : State :=
  s.setChan n (fun c => if low then { c with lo := f c.lo } else { c with hi := f c.hi })

/-- The comparator's input of a sample (R90). -/
def thrInput (abs : Bool) (code : Int) : Int := if abs then min code.natAbs (2 ^ 23 - 1) else code

/-- The sample takes part in the qualifying run of the next transition (R90). -/
def State.thrHit (s : State) (n : Nat) (low : Bool) (code : Int) : Bool :=
  let x := thrInput (s.gb (THR_CFG_ABS n)) code
  let lv := s.gi (thrLevel n low)
  let hy : Int := s.gf (THR_CFG_HYST n)
  match low, s.gb (thrState n low) with
  | false, false => decide (lv < x)
  | false, true => decide (x < lv - hy)
  | true, false => decide (x < lv)
  | true, true => decide (lv + hy < x)

/-- PERSIST, with 0 as 1. -/
def State.thrPersist (s : State) (n : Nat) : Nat := max 1 (s.gf (THR_CFG_PERSIST n))

/-- A comparator evaluates a sample: a transition is decided when the run is long enough. -/
def State.thrSample (s : State) (n : Fin 16) (low : Bool) (si : Nat) (code : Int) : State :=
  if !s.gb (thrEn n low) then s
  else
    let hit := s.thrHit n low code
    let k := s.thrPersist n
    s.setThr n low (fun t =>
      if !hit then { t with cnt := 0 }
      else
        let first := if t.cnt = 0 then si else t.runFirst
        if k ≤ t.cnt + 1 then { t with cnt := 0, runFirst := first, due := some si } else { t with cnt := t.cnt + 1, runFirst := first })

/-- A record of a channel's threshold stream, of the SIs from one past its previous record to `last` (none when it lies
before): AUX, payload. -/
def State.thrRec (s : State) (n : Fin 16) (aux : Nat) (last1 : Nat) (payload : List Byte) : State :=
  let cov := s.chan[n].thrCov
  let k := last1 - cov
  let r : Rec := { cls := clsEVT, src := n, tStart := s.chT n cov, tEnd := s.chTEnd n cov k, si := cov % 2 ^ 48, count := k, aux := aux, payload := payload }
  State.emit (s.setChan n (fun c => { c with thrCov := max cov last1 })) r

/-- The payload of a threshold record (R317); counts of withheld transitions above 65,535 are shown as 65,535 (DESIGN CHOICE, log
entry 65). -/
def State.thrPayload (s : State) (n : Nat) (low : Bool) (cause na nd runFirst : Nat) : List Byte :=
  leBytes 1 (b2n low) ++ leBytes 1 (s.gf (thrState n low)) ++ leBytes 1 cause ++ leBytes 1 (s.gf (THR_CFG_PERSIST n)) ++
    leBytes 4 (ofSigned 32 (s.gi (thrLevel n low))) ++ leBytes 4 (s.gf (THR_CFG_HYST n)) ++ leBytes 2 (min na 65535) ++ leBytes 2 (min nd 65535) ++
    leBytes 8 (runFirst % 2 ^ 48)

/-- The CHATTER record of a comparator with withheld transitions, up to one before SI `last1` (R95). -/
def State.thrChatter (s : State) (n : Fin 16) (low : Bool) (last1 : Nat) : State :=
  let t := s.chan[n].thr low
  if t.wa + t.wd = 0 then s
  else
    let p := s.thrPayload n low 0 t.wa t.wd t.wFirst
    ((s.thrRec n 2 last1 p).setThr n low (fun t => { t with wa := 0, wd := 0 })).sf (THR_STAT_CHATTER n) 1

/-- A decided transition is made (R90, R94, R95, R216). -/
def State.thrMake (s : State) (n : Fin 16) (low : Bool) : State :=
  let t := s.chan[n].thr low
  match t.due with
  | none => s
  | some si =>
    let up := !s.gb (thrState n low)
    let sec := s.chT n si / 2 ^ 32
    let s := s.setThr n low (fun t => { t with due := none, n := if t.sec = sec then t.n else 0, sec := sec })
    let s := s.sb (thrState n low) up
    let s := if up then s.sf (thrSeen n low) 1 else s
    let s :=
      if (s.chan[n].thr low).n < 2 then
        (s.thrRec n 1 (si + 1) (s.thrPayload n low 0 0 0 t.runFirst)).setThr n low (fun t => { t with n := t.n + 1 })
      else s.setThr n low (fun t =>
        { t with wa := t.wa + b2n up, wd := t.wd + b2n (!up), wFirst := if t.wa + t.wd = 0 then si else t.wFirst })
    if up && s.mbit CAP_THRMASK_MASK (2 * n.val + b2n low) then s.capTrigger (if low then 7 else 6) n (s.chT n si) else s

/-- Make the decided transitions of a group's channels, in channel order, high before low. -/
def State.thrSettle (s : State) (g : Fin 2) : State :=
  (fins 8).foldl (fun (s : State) (c : Fin 8) => (s.thrMake (chanOf g c) false).thrMake (chanOf g c) true) s

/-- Make the decided transitions up to a comparator. -/
def State.thrSettleTo (s : State) (n : Fin 16) (low : Bool) : State :=
  (fins 8).foldl (fun (s : State) (c : Fin 8) =>
    if 8 * (grpOf n).val + c.val < n.val then (s.thrMake (chanOf (grpOf n) c) false).thrMake (chanOf (grpOf n) c) true
    else if 8 * (grpOf n).val + c.val = n.val then
      (let s := s.thrMake n false
       if low then s.thrMake n true else s)
    else s) s

/-- A comparator asserts (R90): its persistence count was reached. -/
def execThresholdAssert (n : Fin 16) (low : Bool) (s : State) : Host.Outcome State Fault Refusal :=
  .next (if ((s.chan[n].thr low).due).isSome && !s.gb (thrState n low) then s.thrSettleTo n low else s)

/-- A comparator deasserts (R90). -/
def execThresholdDeassert (n : Fin 16) (low : Bool) (s : State) : Host.Outcome State Fault Refusal :=
  .next (if ((s.chan[n].thr low).due).isSome && s.gb (thrState n low) then s.thrSettleTo n low else s)

/-- A forced deassertion (R93): cause 1 STOP, 2 FENCE, 3 DISABLE, 4 HALT. Its count starts at zero. -/
def State.thrForce (s : State) (n : Fin 16) (low : Bool) (cause : Nat) : State :=
  let last1 := s.chan[n].si
  let s := if s.gb (thrState n low) then
      let s := s.thrChatter n low last1
      let s := s.sf (thrState n low) 0
      s.thrRec n 1 last1 (s.thrPayload n low cause 0 0 last1)
    else s
  s.setThr n low (fun t => { t with cnt := 0, due := none })

/-- The start of a full reset deasserts every comparator without a record (R93). -/
def State.thrDrop (s : State) : State :=
  (fins 16).foldl (fun (s : State) (n : Fin 16) =>
    ((s.sfs [(THR_STAT_HI_STATE n, 0), (THR_STAT_LO_STATE n, 0)]).setThr n false (fun _ => {})).setThr n true (fun _ => {})) s

/-- The threshold stream of a channel that produced samples ends or reaches a tick: an EVAL record covers what is left, up
to one before SI `last1` (R211). -/
def State.thrEval (s : State) (n : Fin 16) (last1 flags : Nat) : State :=
  let cov := s.chan[n].thrCov
  let k := last1 - cov
  let r : Rec := { cls := clsEVT, src := n, flags := flags, tStart := s.chT n cov, tEnd := s.chTEnd n cov k, si := cov % 2 ^ 48, count := k, aux := 0x30 }
  State.emit (s.setChan n (fun c => { c with thrCov := max cov last1 })) r

/-- What closes a channel's threshold stream at an end of production: forced deassertions, CHATTER records, EVAL. -/
def State.thrEnd (s : State) (n : Fin 16) (cause flags : Nat) : State :=
  let last1 := s.chan[n].si
  let s := (s.thrMake n false).thrMake n true
  let s := (s.thrForce n false cause).thrChatter n false last1
  let s := (s.thrForce n true cause).thrChatter n true last1
  s.thrEval n last1 flags

/-- A write of THR_HIn, THR_LOn or THR_CFGn (R92, R99): what the samples before it decided is made first, in channel order (R94). -/
def State.wrThr (s : State) (n : Fin 16) (r : Nat) (v : Word) : State :=
  let w := v.toNat
  let s := s.thrSettleTo n true
  if !s.chPresent n then s
  else if r = 0 then s.sf (THR_HI_LEVEL n) w
  else if r = 1 then s.sf (THR_LO_LEVEL n) w
  else
    let reset := decide (w % 256 ≠ s.gf (THR_CFG_PERSIST n)) || decide (w / 1024 % 2 ≠ s.gf (THR_CFG_ABS n))
    let s := if !w.testBit 8 && s.gb (THR_CFG_HI_EN n) then s.thrForce n false 3 else s
    let s := if !w.testBit 9 && s.gb (THR_CFG_LO_EN n) then s.thrForce n true 3 else s
    let s := if reset || (w.testBit 8 && !s.gb (THR_CFG_HI_EN n)) then s.setThr n false (fun t => { t with cnt := 0 }) else s
    let s := if reset || (w.testBit 9 && !s.gb (THR_CFG_LO_EN n)) then s.setThr n true (fun t => { t with cnt := 0 }) else s
    s.sfs [(THR_CFG_PERSIST n, w), (THR_CFG_HI_EN n, w / 256), (THR_CFG_LO_EN n, w / 512), (THR_CFG_ABS n, w / 1024), (THR_CFG_HYST n, w / 4096)]

/-- A write of a threshold register of channel n: 0 THR_HI, 1 THR_LO, 2 THR_CFG. -/
def execThresholdRegWrite (n : Fin 16) (r : Fin 3) (value : Word) (s : State) : Host.Outcome State Fault Refusal :=
  .next (if s.serving then s.wrThr n r value else s)

/-- EVT_PIN_CTRL.STATE (R96): for each pin the OR of its selected comparators. -/
def State.evtPins (s : State) : Nat :=
  maskOf ((List.range 4).filter (fun p => (List.range 16).any (fun c =>
    (s.mbit (EVT_PIN_MASK_MASK p) (2 * c) && s.gb (THR_STAT_HI_STATE c)) || (s.mbit (EVT_PIN_MASK_MASK p) (2 * c + 1) && s.gb (THR_STAT_LO_STATE c)))))

/-! ### The decimation chain (R57, R58, R61, R64 to R66, R79) -/

/-- Runs of an input: their periods in all, the first `k` of them, what follows those. -/
def runLen (l : List (Rat × Nat)) : Nat := (l.map Prod.snd).sum
def runTake : Nat → List (Rat × Nat) → List (Rat × Nat)
  | _, [] => []
  | k, (v, n) :: l => if k ≤ n then [(v, k)] else (v, n) :: runTake (k - n) l
def runDrop : Nat → List (Rat × Nat) → List (Rat × Nat)
  | _, [] => []
  | k, (v, n) :: l => if n ≤ k then runDrop (k - n) l else (v, n - k) :: l

/-- Exactly `k` periods of an input: what a command gives beyond them is cut, and where it gives fewer the balls are at 0 V (log
entry 20). -/
def runFit (k : Nat) (l : List (Rat × Nat)) : List (Rat × Nat) := runTake k l ++ [(0, k - runLen l)]

/-- The mean of an input over its periods. -/
def runMean (l : List (Rat × Nat)) : Rat := (l.map (fun e => e.1 * (e.2 : Rat))).sum / (runLen l : Rat)

/-- G of a GAIN code (Table 3-1). -/
def gainOf (code : Nat) : Nat := 2 ^ min code 5

/-- V_FS for a reference voltage, in volts (R57). -/
def fullScale (vref : Rat) : Rat := vref * 5 / 12

/-- The modulator marks a period: the input times the gain lies beyond ±110 % of full scale (R61). -/
def marked (vref : Rat) (gain : Nat) (v : Rat) : Bool :=
  let x := v * (gain : Rat) * 10
  let lim := fullScale vref * 11
  decide (lim < x) || decide (x < -lim)

/-- The code of a differential input, saturated at ±0x466666 (R58). -/
def codeOf (vref : Rat) (gain : Nat) (v : Rat) (noise : Int) : Int :=
  let x : Rat := 4194304 * v * (gain : Rat) / fullScale vref
  clampInt (-4613734) 4613734 (x.floor + noise)

/-- Periods since the last marked one, after more periods of input. -/
def quietAfter (vref : Rat) (gain : Nat) (q : Option Nat) (l : List (Rat × Nat)) : Option Nat :=
  l.foldl (fun (q : Option Nat) (e : Rat × Nat) => if e.2 = 0 then q else if marked vref gain e.1 then some 0 else q.map (· + e.2)) q

/-- What leaves a channel's chain for a sample: its code, OVR, INTSAT. -/
structure ChOut where
  code : Int
  ovr : Bool
  sat : Bool

/-- The integrator's range (R65). -/
def intMax : Int := 2 ^ 23 - 1

/-- The bilinear form of ω_n / (s + ω_c) at a rate of `fs` Hz, after input `x` (R64): x1 is the input before, y1 the output before. -/
def integStep (fnom fs : Nat) (x1 : Int) (y1 : Rat) (x : Int) : Rat :=
  let wn : Rat := 2 * piRat * (if fnom = 0 then 50 else 60)
  let k : Rat := 2 * (fs : Rat)
  (wn * ((x + x1 : Int) : Rat) + (k - piRat) * y1) / (k + piRat)

/-- The Rogowski integrator takes a code (R65): the offset correction comes before it, its output is clamped and held in 24 bits; an
output that is no whole code goes up or down by a free bit (log entry 66). -/
def State.integrate (s : State) (n : Fin 16) (fs : Nat) (code : Int) : Int × Bool × State :=
  let x := code - toSigned 24 s.met.cal[n].ofs
  let y := integStep (s.gf (AFE_CH_CFG_INTEG_FNOM n)) fs s.chan[n].ix s.chan[n].iy x
  let sat := decide ((intMax : Rat) < y) || decide (y < (-intMax : Int))
  let y := max ((-intMax : Int) : Rat) (min (intMax : Rat) y)
  let up : Int := if y.den = 1 then 0 else if Config.freeBool s.free then 1 else 0
  (y.floor + up, sat, { s.setChan n (fun c => { c with ix := x, iy := y }) with free := s.free + 1 })

/-- A channel's chain over `k` modulator periods: the code of R58, OVR of R61 and, with SENSOR 0b11, the integrator. A Steep profile
averages the D periods that end 8 before the output (R79, R81). -/
def State.chain (s : State) (n : Fin 16) (prof k : Nat) (x : ChIn) (vref : Rat) : ChOut × State :=
  let ch := s.chan[n]
  let gain := gainOf (s.gf (AFE_CH_CFG_GAIN n))
  let all := ch.late ++ runFit k x.volts
  let now := runTake (runLen all - 8) all
  let q := quietAfter vref gain ch.quiet now
  let d := profD prof
  let v := if profSteep prof then runMean (runDrop (runLen now - d) now) else x.value
  let s := s.setChan n (fun c => { c with late := runDrop (runLen all - 8) all, quiet := q })
  let ovr := match q with | some k => decide (k < profSpan prof) | none => false
  let code := codeOf vref gain v x.noise
  if s.gf (AFE_CH_CFG_SENSOR n) = 3 then
    let (y, sat, s) := s.integrate n (6144000 / d) code
    ({ code := y, ovr := ovr, sat := sat }, s)
  else ({ code := code, ovr := ovr, sat := false }, s)

/-- START, and the restart after a halt, begin a channel's chain and its integrator anew (R66, R82, R143). -/
def State.chainStart (s : State) (n : Fin 16) : State := s.setChan n (fun c => { c with late := [], quiet := none, ix := 0, iy := 0 })

/-! ### Output ticks (R14, R82) -/

/-- The status of a sample of channel n (Tables 3-2, 4-6). The 2.25 s of INTSETTLE run from START, or from the restart after a
halt, to the sample's input instant (DESIGN CHOICE, log entry 65). -/
def State.smpStatus (s : State) (n : Fin 16) (ovr sat first : Bool) (t : DevTime) : Nat :=
  let integ := s.gf (AFE_CH_CFG_SENSOR n) = 3
  let settle := integ && decide (t < s.grp[grpOf n].startT / 2 ^ 32 + 9663676416)
  let hi := s.gb (THR_STAT_HI_STATE n) != (s.chan[n].hi.due).isSome
  let lo := s.gb (THR_STAT_LO_STATE n) != (s.chan[n].lo.due).isSome
  b2n ovr + 2 * b2n sat + 4 * b2n settle + 8 * b2n (s.gb AFE_REF_REF_FAULT) + 16 * b2n hi + 32 * b2n lo + 64 * b2n first

/-- One channel's sample: its chain, status flags, comparators, its SI; the word, or none for a fenced channel. -/
def State.chSample (s : State) (g : Fin 2) (c : Fin 8) (k : Nat) (x : ChIn) (vref : Rat) (first : Bool) : Option Nat × State :=
  let n := chanOf g c
  let gr := s.grp[g]
  if !gr.mask.testBit c then (none, s)
  else
    let si := s.chan[n].si
    let t := s.chT n si
    if gr.fenced.testBit c then (none, s.setChan n (fun ch => { ch with si := si + 1 }))
    else
      let (o, s) := s.chain n (gr.prof.getD c 2) k x vref
      let s := if o.ovr then s.smbit AFE_STATUS_OVR n true else s
      let s := if o.sat then s.smbit AFE_STATUS_INTSAT n true else s
      let s := if t / 2 ^ 32 ≠ (s.chan[n].hi).sec then s.thrChatter n false si else s
      let s := if t / 2 ^ 32 ≠ (s.chan[n].lo).sec then s.thrChatter n true si else s
      let s := (s.thrSample n false si o.code).thrSample n true si o.code
      let st := s.smpStatus n o.ovr o.sat first t
      (some (st * 2 ^ 24 + ofSigned 24 o.code), s.setChan n (fun ch => { ch with si := si + 1 }))

/-- Samples now in the sample FIFO. -/
def State.fifoUsed (s : State) : Nat :=
  ((s.grp.toList.flatMap (fun g => g.fifo)).map (fun t => (t.smp.filter Option.isSome).length)).sum

/-- Add an index to runs of indices (first, count), the newest run last. -/
def runAdd (l : List (Nat × Nat)) (i : Nat) : List (Nat × Nat) :=
  match l.getLast? with
  | some (a, k) => if a + k = i then l.dropLast ++ [(a, k + 1)] else l ++ [(i, 1)]
  | none => [(i, 1)]

/-- The part of runs below an index. -/
def runBelow (i : Nat) (l : List (Nat × Nat)) : List (Nat × Nat) :=
  (l.map (fun r => (r.1, min r.2 (i - r.1)))).filter (fun r => r.2 != 0)

/-- A sample that finds the FIFO full is discarded and counted (R16). -/
def State.chDiscard (s : State) (n : Fin 16) : State :=
  s.setChan n (fun c => { c with disc := c.disc + 1, lost := runAdd c.lost (c.si - 1) })

/-- A tick of which every sample was discarded: the intervals that would hold it are short of it (R25). -/
def State.tickLost (s : State) (g : Fin 2) (si : Nat) : State :=
  let s := s.setGrp g (fun gr => { gr with
    stall := runAdd gr.stall si
    gone := runAdd gr.gone si
    wins := gr.wins.map (fun w => { w with flags := w.flags ||| flPartial })
    f10Flags := if gr.f10A.isSome then gr.f10Flags ||| flPartial else gr.f10Flags })
  { s with bil := s.bil.set g { s.bil[g] with sub := s.bil[g].sub.map (fun u => { u with flags := u.flags ||| flPartial }) } }

/-- The newest entries of the sample replay ring, at most `n` (R418). -/
def keepNewest : Nat → List (DevTime × Nat) → List (DevTime × Nat)
  | _, [] => []
  | n, (t, k) :: l => if n = 0 then [] else if k ≤ n then (t, k) :: keepNewest (n - k) l else [(t, n)]

/-- A tick enters CORE: the replay path takes it, the capture engine records it, and in monitor mode full SMP records
close. -/
def State.tickIn (s : State) (g : Fin 2) (t : Tick) : State :=
  let s := s.setGrp g (fun gr => { gr with ticks := gr.ticks ++ [t] })
  let k := (t.smp.filter Option.isSome).length
  let s := if k = 0 then s else { s with slc := { s.slc with rply := keepNewest 24576 ((t.t, k) :: s.slc.rply) } }
  let s := (fins 8).foldl (fun (s : State) (c : Fin 8) =>
    match t.smp.getD c none with
    | some w =>
      let si := ((t.si : Int) + s.chan[chanOf g c].off).toNat
      s.capSample (chanOf g c) si (s.chT (chanOf g c) si) (s.chTAfter (chanOf g c) si) w
    | none => s) s
  if s.grp[g].monitor || s.grp[g].lost then
    let s := (fins 8).foldl (fun (s : State) (c : Fin 8) =>
      if s.grp[g].mask.testBit c.val && 960 ≤ s.smpLeft (chanOf g c) then s.smpRelease (chanOf g c) none 0 else s) s
    s.setGrp g (fun gr => { gr with ticks := gr.ticks.filter (fun (x : Tick) => (gr.lost && (gr.wins.map Window.a ++ gr.wdone.map (fun d => d.w.a)).any (fun a => decide (a ≤ x.t))) || (fins 8).any (fun (c : Fin 8) =>
      gr.mask.testBit c.val && decide (s.chan[chanOf g c].smpCov ≤ ((x.si : Int) + s.chan[chanOf g c].off).toNat))) })
  else s

/-- The steps that device time has made and a group's anchor has not (R133). -/
def Grp.ahead (gr : Grp) : Int := (gr.step.map PStep.d).sum

/-- Modulator periods of a tick: D, and for the first one all since START (R82). -/
def Grp.tickPeriods (gr : Grp) (first : Bool) : Nat := if first then gr.firstTick * gr.d else gr.d

/-- One output tick of a running group: anchors due at it, its samples, and the FIFO while CORE has no clock. -/
def State.groupTick (s : State) (g : Fin 2) (xs : List ChIn) (vref : Rat) (first : Bool) : State :=
  let s := s.thrSettle g
  let n := s.grp[g].si
  let s := match s.grp[g].due with
    | some cause => if first then s else s.publishAnchor g (s.nextAnchor g n) cause
    | none => s
  let gr := s.grp[g]
  let t := gr.time gr.lead n
  let s := s.timeTo (((gr.anchorAt n).full gr.lead n + 8 * profTau (gr.prof.getD gr.lead 2) * s.inc : Nat) + gr.ahead).toNat
  let s := if SMap.get (fun _ => 0) s.first (srcGrp g) = 0 then { s with first := SMap.set (fun _ => 0) s.first (srcGrp g) (t + 1) } else s
  let (ws, s) := (fins 8).foldl (fun (acc : List (Option Nat) × State) (c : Fin 8) =>
    let (w, s) := acc.2.chSample g c (gr.tickPeriods first) (xs.getD c {}) vref first
    let s := if w.isSome && SMap.get (fun _ => 0) s.first (chanOf g c) = 0 then
        { s with first := SMap.set (fun _ => 0) s.first (chanOf g c) (s.chT (chanOf g c) (s.chan[chanOf g c].si - 1) + 1) } else s
    (acc.1 ++ [w], s)) ([], s)
  let tk : Tick := { si := n, t := t, p := (gr.anchorAt n).p, fr := s.free, smp := ws }
  let s := { s.setGrp g (fun gr => { gr with si := n + 1 }) with free := s.free + 16 }
  if s.time.coreStop then
    let used := s.fifoUsed
    let (kept, s) := (fins 8).foldl (fun (acc : List (Option Nat) × State) (c : Fin 8) =>
      match tk.smp.getD c none with
      | none => (acc.1 ++ [none], acc.2)
      | some w =>
        if used + (acc.1.filter Option.isSome).length < 1024 then (acc.1 ++ [some w], acc.2)
        else (acc.1 ++ [none], acc.2.chDiscard (chanOf g c))) ([], s)
    if ws.any Option.isSome && kept.all Option.isNone then s.tickLost g n
    else s.setGrp g (fun gr => { gr with fifo := gr.fifo ++ [{ tk with smp := kept }] })
  else s.tickIn g tk

/-- CORE runs again: the sample FIFO drains. -/
def State.fifoDrain (s : State) : State :=
  (fins 2).foldl (fun (s : State) (g : Fin 2) =>
    let l := s.grp[g].fifo
    l.foldl (fun s t => s.tickIn g t) (s.setGrp g (fun gr => { gr with fifo := [] }))) s

/-- The discarded runs of channel n become gap records with cause CORE_STALL (R16). What lies in a shadow span in progress is
covered at the span's end (R28, R134). -/
def State.chStall (s : State) (n : Fin 16) : State :=
  let s1 := s.setChan n (fun c => { c with lost := [] })
  let cut := match s.grp[grpOf n].shadow with
    | some (i, _) => runBelow ((i : Int) + s.chan[n].off).toNat s.chan[n].lost
    | none => s.chan[n].lost
  cut.foldl (fun s r =>
    let g : Gap := { cause := gapCoreStall, tStart := s.chT n r.1, tEnd := s.chTEnd n r.1 r.2, si := r.1 % 2 ^ 48, count := r.2 }
    (s.smpGap n g).capGap n g) s1

end Sys2Proof.Machine
end

