-- ==== Sys2Proof/Machine/Met.lean ====
section
/-! DEFINITION. The Dravhan metrology engine (chapter 7): corrected samples, cycle values, accumulation steps, energies,
calibration and CF outputs. -/

namespace Sys2Proof.Machine

/-! ### Instants of a group's SIs -/

/-- T of the lead at group SI n, and the instant at which a run of `k` samples from `n` ends (R23). -/
def State.grT (s : State) (g : Fin 2) (n : Nat) : DevTime := s.grp[g].time s.grp[g].lead n
def State.grTEnd (s : State) (g : Fin 2) (n k : Nat) : DevTime := if k = 0 then s.grT g n else s.grp[g].timeAfter s.grp[g].lead (n + k - 1)

/-- The cycle [a, b) of a group holds a sample that the last rebuild replayed (R26, R422). -/
def State.replayed (s : State) (g : Fin 2) (a b : DevTime) : Bool :=
  let r := s.grp[g].rep
  decide (r.1 < r.2) && decide (a < s.grT g r.2) && decide (s.grT g r.1 < b)

/-! ### Sample correction (R87, R146) -/

/-- The constants of channel c of group g that apply at group SI n. -/
def State.calAt (s : State) (g : Fin 2) (c : Fin 8) (n : Nat) : CalSet :=
  match s.grp[g].calOld.find? (fun e => decide (n < e.1)) with
  | some e => e.2.getD c {}
  | none => s.met.cal[chanOf g c]

/-- PH as a signed number of 1/256 output samples. -/
def CalSet.phase (k : CalSet) : Int := toSigned 10 k.ph

/-- The total correction of R87 of channel c, in 1/256 output samples. -/
def Grp.correction (g : Grp) (c : Nat) (k : CalSet) : Int :=
  128 * ((profTau (g.prof.getD c 2) : Int) - (profTau (g.prof.getD g.lead 2) : Int)) / (g.d : Int) + k.phase

/-- The sample of a channel nearest to a group SI in its run, among the ticks held (R146): none when it is not held. -/
def Grp.nearest (gr : Grp) (c : Nat) (n : Int) : Option (Nat × Nat) :=
  let m := max (gr.run0 : Int) n
  let ts := gr.ticks.filter (fun t => (t.smp.getD c none).isSome)
  let last := match ts.getLast? with | some t => t.si | none => 0
  let m := if gr.ended || gr.fenced.testBit c then min m (last : Int) else m
  (ts.find? (fun t => decide ((t.si : Int) = m))).map (fun t => (t.si, (t.smp.getD c none).getD 0))

/-- A sample's code less the offset (R146, step 1). -/
def State.lessOffset (s : State) (g : Fin 2) (c : Fin 8) (n w : Nat) : Rat :=
  let ofs : Int := if s.gf (AFE_CH_CFG_SENSOR (chanOf g c)) = 3 then 0 else toSigned 24 (s.calAt g c n).ofs
  ((toSigned 24 w - ofs : Int) : Rat)

/-- The corrected value y of channel c at a tick (R146): offset, delay, scale. A delay of whole samples takes the sample that it
names, the nearest one of the run at its ends. The fractional delay filter is not given, so the value that it delivers is free, as is
that of a neighbour beyond a time step (log entry 19). -/
def State.corrected (s : State) (g : Fin 2) (t : Tick) (c : Fin 8) : Option Rat :=
  match t.smp.getD c none with
  | none => none
  | some w =>
    let k := s.calAt g c t.si
    let d := s.grp[g].correction c k
    let x : Rat :=
      if d = 0 then s.lessOffset g c t.si w
      else if d % 256 ≠ 0 then Config.freeRat (t.fr + c.val)
      else match s.grp[g].nearest c ((t.si : Int) + d / 256) with
        | some (n, v) => s.lessOffset g c n v
        | none => Config.freeRat (t.fr + c.val)
    some (x * (k.scale : Rat) * pow10 (-(k.e : Int)))

/-- The current of phase p is integrated. -/
def State.integrated (s : State) (g : Fin 2) (p : Fin 3) : Bool := decide (s.gf (AFE_CH_CFG_SENSOR (chanOf g ⟨4 + p.val, by omega⟩)) = 3)

/-- One step of the high-pass s / (s + ω_c), ω_c = 2π × 0.5 Hz, in the bilinear form of the integrator's leak, at `fs` Hz (R67): its
last input and output. -/
def hpStep (fs : Nat) (st : Rat × Rat) (x : Rat) : Rat × Rat :=
  let k : Rat := 2 * (fs : Rat)
  (x, (k * (x - st.1) + (k - piRat) * st.2) / (k + piRat))

/-- The high-pass over ticks: its state after them, and its output by group SI. -/
def State.hpRun (s : State) (g : Fin 2) (p : Fin 3) : List Tick → (Rat × Rat) → List (Nat × Rat) → (Rat × Rat) × List (Nat × Rat)
  | [], st, out => (st, out)
  | t :: l, st, out =>
    match s.corrected g t ⟨p.val, by omega⟩ with
    | none => State.hpRun s g p l st out
    | some x =>
      let st := hpStep (6144000 / s.grp[g].d) st x
      State.hpRun s g p l st (out ++ [(t.si, st.2)])

/-- The voltage of a phase in the power path at a tick: after the high-pass when the phase's current is integrated (R67, R146). -/
def State.powerVolt (s : State) (g : Fin 2) (t : Tick) (p : Fin 3) : Option Rat :=
  let y := s.corrected g t ⟨p.val, by omega⟩
  if s.integrated g p then
    let o := (s.hpRun g p (s.grp[g].ticks.takeWhile (fun x => decide (x.si ≤ t.si))) (s.grp[g].hp.getD p.val (0, 0)) []).2
    y.map (fun _ => (o.getLast?.map Prod.snd).getD 0)
  else y

/-- Keep the ticks of a group from SI `n` on; the high-pass moves past the others. -/
def State.dropTicks (s : State) (g : Fin 2) (n : Nat) : State :=
  let gone := s.grp[g].ticks.takeWhile (fun t => decide (t.si < n))
  let hp := (fins 3).map (fun (p : Fin 3) => if s.integrated g p then (s.hpRun g p gone (s.grp[g].hp.getD p.val (0, 0)) []).1 else (0, 0))
  s.setGrp g (fun gr => { gr with ticks := gr.ticks.filter (fun t => decide (n ≤ t.si)), hp := hp })

/-! ### Sums over windows (Table 7-1) -/

/-- The ticks of a group in [a, b). -/
def Grp.window (g : Grp) (a b : DevTime) : List Tick := g.ticks.filter (fun t => decide (a ≤ t.t) && decide (t.t < b))

/-- The list without its absent values; none when one is absent or the list is empty. -/
def allSome {α : Type} (l : List (Option α)) : Option (List α) :=
  if l.isEmpty then none else l.foldr (fun x r => match x, r with | some x, some r => some (x :: r) | _, _ => none) (some [])

/-- The mean of a list. -/
def meanRat (l : List Rat) : Rat := l.sum / (l.length : Rat)

/-- The mean square of a channel over its samples in the window (0 where it has none). -/
def State.heldSq (s : State) (g : Fin 2) (ts : List Tick) (c : Fin 8) : Rat :=
  let l := ts.filterMap (fun t => s.corrected g t c)
  if l.isEmpty then 0 else meanRat (l.map (fun y => y * y))

/-- The mean square of the difference of two channels over the ticks that hold both. -/
def State.heldSqDiff (s : State) (g : Fin 2) (ts : List Tick) (c d : Fin 8) : Rat :=
  let l := ts.filterMap (fun t => match s.corrected g t c, s.corrected g t d with | some x, some y => some ((x - y) * (x - y)) | _, _ => none)
  if l.isEmpty then 0 else meanRat l

/-- The mean square of a channel that ran through the window. -/
def State.meanSq (s : State) (g : Fin 2) (ts : List Tick) (c : Fin 8) : Option Rat :=
  (allSome (ts.map (fun t => s.corrected g t c))).map (fun l => meanRat (l.map (fun y => y * y)))

/-- The mean square of the difference of two channels. -/
def State.meanSqDiff (s : State) (g : Fin 2) (ts : List Tick) (c d : Fin 8) : Option Rat :=
  match allSome (ts.map (fun t => s.corrected g t c)), allSome (ts.map (fun t => s.corrected g t d)) with
  | some x, some y => some (meanRat ((List.zip x y).map (fun e => (e.1 - e.2) * (e.1 - e.2))))
  | _, _ => none

/-- The mean square of the calculated neutral current (I_Nc). -/
def State.meanSqNc (s : State) (g : Fin 2) (ts : List Tick) : Option Rat :=
  match allSome (ts.map (fun t => s.corrected g t 4)), allSome (ts.map (fun t => s.corrected g t 5)), allSome (ts.map (fun t => s.corrected g t 6)) with
  | some x, some y, some z => some (meanRat ((List.zip x (List.zip y z)).map (fun e => (e.1 + e.2.1 + e.2.2) * (e.1 + e.2.1 + e.2.2))))
  | _, _, _ => none

/-- The voltage and the current channel of a phase. -/
def vCh (p : Fin 3) : Fin 8 := ⟨p.val, by omega⟩
def iCh (p : Fin 3) : Fin 8 := ⟨4 + p.val, by omega⟩

/-- The power products of a phase over ticks that hold both its samples. -/
def State.products (s : State) (g : Fin 2) (ts : List Tick) (p : Fin 3) : List (Rat × Nat) :=
  ts.filterMap (fun t =>
    match s.powerVolt g t p, s.corrected g t (iCh p) with
    | some v, some i => some (v * i, t.p)
    | _, _ => none)

/-- Phase p is measured (R145). -/
def State.measured (s : State) (g : Fin 2) (p : Fin 3) : Bool :=
  let gr := s.grp[g]
  gr.mask.testBit (vCh p) && gr.mask.testBit (iCh p) && !gr.fenced.testBit (vCh p) && !gr.fenced.testBit (iCh p)

/-- The ticks that hold every sample of a phase (R153: those before a fence). -/
def ticksOf (p : Fin 3) (ts : List Tick) : List Tick := ts.filter (fun t => (t.smp.getD (vCh p) none).isSome && (t.smp.getD (iCh p) none).isSome)

/-- S_p² of a cycle: U_p² × I_p² over the samples that hold the phase. -/
def State.appSq (s : State) (g : Fin 2) (ts : List Tick) (p : Fin 3) : Rat :=
  let l := ticksOf p ts
  s.heldSq g l (vCh p) * s.heldSq g l (iCh p)

/-- A sample of channel c lies in the ticks. -/
def chanHeld (ts : List Tick) (c : Nat) : Bool := ts.any (fun t => (t.smp.getD c none).isSome)

/-- U_e² and I_e² of a window (Table 7-1), each channel over its samples; one that did not run adds nothing. I_N is that of I·N while
it runs, else the calculated one. -/
def State.effSq (s : State) (g : Fin 2) (ts : List Tick) : Rat × Rat :=
  let u := s.heldSq g ts
  let d := s.heldSqDiff g ts
  let n := if chanHeld ts 7 then u 7 else (s.meanSqNc g ts).getD 0
  ((3 * (u 0 + u 1 + u 2) + d 0 1 + d 1 2 + d 2 0) / 18, (u 4 + u 5 + u 6 + n) / 3)

/-! ### Fundamentals (R151, Table 7-1) -/

/-- (cos φ, sin φ) of a phase given by tan(φ/2). -/
def unitOf (h : Rat) : Rat × Rat := ((1 - h * h) / (1 + h * h), 2 * h / (1 + h * h))

/-- Σ y e^(−jφ) over samples (y, tan(φ/2)). -/
def phasorSum (l : List (Rat × Rat)) : Rat × Rat :=
  ((l.map (fun e => e.1 * (unitOf e.2).1)).sum, -((l.map (fun e => e.1 * (unitOf e.2).2)).sum))

/-- The fundamental of a phase over ticks, with V1 and I1 as (√2 / K) Σ y e^(−jφ): `rot` gives tan(φ/2) at the ticks in order. -/
def State.phasor (s : State) (g : Fin 2) (ts : List Tick) (rot : Nat → Rat) (p : Fin 3) : Phasor :=
  let l := (List.zip ts (List.range ts.length)).filterMap (fun e =>
    match s.powerVolt g e.1 p, s.corrected g e.1 (iCh p) with
    | some v, some i => some (v, i, rot e.2)
    | _, _ => none)
  if l.isEmpty then {}
  else
    let v := phasorSum (l.map (fun e => (e.1, e.2.2)))
    let i := phasorSum (l.map (fun e => (e.2.1, e.2.2)))
    let k : Rat := 2 / ((l.length * l.length : Nat) : Rat)
    { p1 := k * (v.1 * i.1 + v.2 * i.2), q1 := k * (v.2 * i.1 - v.1 * i.2),
      vi := k * sqrtRat ((v.1 * v.1 + v.2 * v.2) * (i.1 * i.1 + i.2 * i.2)) }

/-! ### Cycles and accumulation steps (R147 to R150) -/

/-- The nominal period in 2^-64 s. -/
def Grp.period (g : Grp) : Rat := ((2 ^ 64 : Nat) : Rat) / (if g.fnom = 0 then 50 else 60)

/-- The k-th nominal boundary of a spacing after the base, truncated to 2^-32 s. -/
def Grp.nomAt (g : Grp) (sp : Rat) (k : Nat) : DevTime :=
  let x := ((g.nomBase : Nat) : Rat) + (k : Rat) * sp
  x.num.natAbs / x.den / 2 ^ 32

/-- The first nominal boundary of a spacing after an instant. -/
def Grp.nomAfter (g : Grp) (sp : Rat) (t : DevTime) : DevTime :=
  let q := (((t * 2 ^ 32 : Nat) : Rat) - ((g.nomBase : Nat) : Rat)) / sp
  let k := if q.num < 0 then 0 else q.num.natAbs / q.den
  if t < g.nomAt sp k then g.nomAt sp k else if t < g.nomAt sp (k + 1) then g.nomAt sp (k + 1) else g.nomAt sp (k + 2)

/-- Insert an instant into a rising list, once. -/
def insTime (t : DevTime) : List DevTime → List DevTime
  | [] => [t]
  | a :: l => if t < a then t :: a :: l else if t = a then a :: l else a :: insTime t l

/-- Cut the running steps of a group at an instant. -/
def State.cutStep (s : State) (g : Fin 2) (t : DevTime) : State := s.setGrp g (fun gr => { gr with cuts := insTime t gr.cuts })

/-- The pieces of [a, b) between cuts. -/
def spans (a b : DevTime) : List DevTime → List (DevTime × DevTime)
  | [] => [(a, b)]
  | c :: l => if a < c ∧ c < b then (a, c) :: spans c b l else spans a b l

/-- The phases of a mask function as a bit mask. -/
def mask3 (f : Fin 3 → Bool) : Nat := b2n (f 0) + 2 * b2n (f 1) + 4 * b2n (f 2)

/-- The cycle of a group that began at cycA ends at `b`; `rot` gives tan(φ/2) at its samples: its steps have ended (R149, R150), its
values are kept for the intervals it overlaps, CREEP is shown (R158). -/
def State.cycleEnd (s : State) (g : Fin 2) (b : DevTime) (rot : Nat → Rat) (flags : Nat) : State :=
  let gr := s.grp[g]
  let ts := gr.window gr.cycA b
  let ph := (fins 3).map (s.phasor g ts rot)
  let flags := flags ||| (if s.replayed g gr.cycA b then flReplayed else 0)
  let sq : Fin 3 → Rat := fun p => s.appSq g ts p
  let th : Rat := (s.gf (MET_CREEP_THRESH g) : Rat)
  let creep := mask3 (fun p => decide (sq p * 1000000 < th * th))
  let eff := s.effSq g ts
  let se : DevTime → Option Rat := fun e => if gr.smode ≠ 1 then none
    else match gr.stotAt with
      | some x => if e ≤ x then some (3 * sqrtRat (eff.1 * eff.2)) else some 0
      | none => some (3 * sqrtRat (eff.1 * eff.2))
  let pAll : List Rat := [0, 1, 2].map (fun (p : Fin 3) => let l := s.products g ts p; if l.isEmpty then 0 else meanRat (l.map Prod.fst))
  let qAll : List Rat := [0, 1, 2].map (fun (p : Fin 3) => (ph.getD p {}).q1)
  let sAll : List Rat := [0, 1, 2].map (fun (p : Fin 3) => sqrtRat (sq p))
  let sp := spans gr.cycA b gr.cuts
  let steps := sp.map (fun e =>
    let l := gr.window e.1 e.2
    let si := match gr.ticks.find? (fun t => decide (e.1 ≤ t.t)) with | some t => t.si | none => gr.si
    ({ a := e.1, b := e.2, si := si, k := l.length, d := (l.map Tick.p).sum,
       ep := [0, 1, 2].map (fun (p : Fin 3) => ((s.products g l p).map (fun x => x.1 * (x.2 : Rat) / ((2 ^ 64 : Nat) : Rat))).sum),
       dp := [0, 1, 2].map (fun (p : Fin 3) => ((ticksOf p l).map Tick.p).sum),
       meas := mask3 (fun p => !(ticksOf p l).isEmpty), creep := creep, p := pAll, q := qAll, sp := sAll, se := se e.2,
       flags := flags, last := decide (e.2 = b) } : StepEnd))
  let meas := mask3 (s.measured g)
  let sup := creep &&& meas
  let s := s.sf (MET_STAT_CREEP g) sup
  let cyc : CycleVal := { a := gr.cycA, b := b, ph := ph, creep := sup + 8 * b2n (meas != 0 && sup == meas) }
  s.setGrp g (fun gr => { gr with steps := gr.steps ++ steps, cycs := gr.cycs ++ [cyc], cycA := b, cuts := gr.cuts.filter (fun c => decide (b < c)) })

/-- A cycle that never completes ends at `b` with the samples that it holds (R150); the tracked phase at them is not known, so tan(φ/2)
there is a free value (log entry 21). -/
def State.cycleCut (s : State) (g : Fin 2) (b : DevTime) : State :=
  let k := s.free
  let n := (s.grp[g].window s.grp[g].cycA b).length
  State.cycleEnd { s with free := s.free + n } g b (fun i => Config.freeRat (k + i)) 0

/-! ### Energy (R154 to R158) -/

/-- The index of an accumulator. -/
def accIdx (g : Nat) (ph q : Nat) : Nat := 32 * g + 8 * ph + q

/-- An accumulator's count. -/
def State.acc (s : State) (i : Nat) : Nat := SMap.get (fun _ => 0) s.met.acc i

/-- Energy in Ws as quanta of 2^-32 mWh. -/
def quanta (e : Rat) : Rat := e * ((2 ^ 32 : Nat) : Rat) * 10 / 36

/-- Add a non-negative energy to an accumulator with one rounding, its remainder carried (R156); the count added. -/
def State.accAdd (s : State) (i : Nat) (e : Rat) : Nat × State :=
  let x := quanta e + SMap.get (fun _ => 0) s.met.rem i
  let n := (roundEven x).toNat
  (n, { s with met := { s.met with
    acc := SMap.set (fun _ => 0) s.met.acc i ((s.acc i + n) % 2 ^ 96)
    rem := SMap.set (fun _ => 0) s.met.rem i (x - (n : Rat)) } })

/-- The quadrant's reactive code (Table 7-2). -/
def quadCode (p q : Rat) : Nat := if p < 0 then (if q < 0 then 4 else 3) else (if q < 0 then 5 else 2)

/-- The additions of one phase index: (quantity code, energy in Ws). -/
def energyAdds (p q : Rat) (ep eq es : Rat) : List (Nat × Rat) :=
  let abs : Rat → Rat := fun x => if x < 0 then -x else x
  [(if p < 0 then 1 else 0, abs ep), (quadCode p q, abs eq), (if p < 0 then 7 else 6, es)]

/-- The energies of a step by phase index and quantity code. -/
def StepEnd.energies (e : StepEnd) : List (Nat × Nat × Rat) :=
  let d : Rat := (e.d : Rat) / ((2 ^ 64 : Nat) : Rat)
  let dp : Nat → Rat := fun p => (e.dp.getD p 0 : Rat) / ((2 ^ 64 : Nat) : Rat)
  let on := [0, 1, 2].filter (fun p => e.meas.testBit p && !e.creep.testBit p)
  let abs : Rat → Rat := fun x => if x < 0 then -x else x
  let phs := on.flatMap (fun p => (energyAdds (e.p.getD p 0) (e.q.getD p 0) (e.ep.getD p 0) (abs (e.q.getD p 0) * dp p) (e.sp.getD p 0 * dp p)).map
    (fun x => (p, x.1, x.2)))
  if on.isEmpty then phs
  else
    let sum := fun (l : List Rat) => (on.map (fun p => l.getD p 0)).sum
    let es := match e.se with
      | none => (on.map (fun p => e.sp.getD p 0 * dp p)).sum
      | some x => x * d
    phs ++ (energyAdds (sum e.p) (sum e.q) (sum e.ep) (abs (on.map (fun p => e.q.getD p 0 * dp p)).sum) es).map (fun x => (3, x.1, x.2))

/-- Accumulate a step: the increments of the 32 accumulators, by 8 × phase index + code. -/
def State.accumulate (s : State) (g : Fin 2) (e : StepEnd) : List (Nat × Nat) × State :=
  let r := e.energies.foldl (fun (acc : List (Nat × Nat) × State) x =>
    let (n, s) := acc.2.accAdd (accIdx g x.1 x.2.1) x.2.2
    (acc.1 ++ [(8 * x.1 + x.2.1, n)], s)) ([], s)
  (r.1, { r.2 with met := { r.2.met with doneT := r.2.met.doneT.set g e.b } })

/-! ### CF outputs (R166 to R171) -/

/-- A CF output's share of a step's increments. -/
def State.cfShare (s : State) (m : Nat) (incs : List (Nat × Nat)) : Nat :=
  ((incs.filter (fun x => decide (x.1 / 8 = s.gf (CF_CFG_PHASE m)) && s.mbit (CF_CFG_QMASK m) (x.1 % 8))).map Prod.snd).sum

/-- A step close of group g feeds its CF outputs (R167, R168, R169); d is the step's duration in 2^-64 s. -/
def State.cfClose (s : State) (g : Fin 2) (d : Nat) (incs : List (Nat × Nat)) : State :=
  (fins 4).foldl (fun (s : State) (m : Fin 4) =>
    if !s.gb (CF_CFG_EN m) || s.gf (CF_CFG_GROUP m) != g.val then s
    else
      let r := s.met.cf[m].residue + s.cfShare m incs * s.gf (CF_CONST_C m)
      let q := 1000000 * 2 ^ 32
      let o := s.gf (CF_STAT_OWED m) + r / q
      let exc := o - (2 ^ 24 - 1)
      let o := min o (2 ^ 24 - 1)
      let s := if exc = 0 then s else (s.incSat (CF_LOST_LOST m) exc).sf (CF_STAT_OVERRATE m) 1
      let sp : Rat := max (4 / 1000000) (if o = 0 then s.met.cf[m].spacing else (d : Rat) / ((2 ^ 64 : Nat) : Rat) / (o : Rat))
      let w := if (20 : Rat) / 1000 ≤ sp then 5000000 else (roundEven (sp / 2 * 500000000)).toNat
      State.sf { s with met := { s.met with cf := s.met.cf.set m { residue := r % q, spacing := sp, width := w } } } (CF_STAT_OWED m) o) s

/-- A switch-over of the slices is running: CF levels hold, and writes to the blocks 0x0A00 and 0x1000 wait (R171, R428). -/
def State.switching (s : State) : Bool := s.gb SLICE_STAT_SWITCHING

/-- A pulse of CF output m starts: one owed pulse is emitted. -/
def execCfPulse (m : Fin 4) (s : State) : Host.Outcome State Fault Refusal :=
  .next (if s.isReady && s.met.cfGo && s.gb (CF_CFG_EN m) && decide (0 < s.gf (CF_STAT_OWED m)) && !s.gb (CF_STAT_ACTIVE m) && !s.switching && !s.gb SLICE_STAT_LOST &&
      !s.grpFused (s.gf (CF_CFG_GROUP m)) then
    ((s.sf (CF_STAT_OWED m) (s.gf (CF_STAT_OWED m) - 1)).incWrap (CF_COUNT_COUNT m) 1).sf (CF_STAT_ACTIVE m) 1
  else s)

/-- The pulse in progress of CF output m ends. -/
def execCfPulseEnd (m : Fin 4) (s : State) : Host.Outcome State Fault Refusal :=
  .next (if s.switching then s else s.sf (CF_STAT_ACTIVE m) 0)

/-- INV in force (R170, R171). -/
def State.cfInv (s : State) (m : Fin 4) : Bool := s.met.cf[m].inv.getD (s.gb (CF_CFG_INV m))

/-- A write of CF_CFGm (R170). -/
def State.wrCfCfg (s : State) (p : Port) (m : Fin 4) (v : Word) : State :=
  let w := v.toNat
  let old := [s.gf (CF_CFG_EN m), s.gf (CF_CFG_INV m), s.gf (CF_CFG_GROUP m), s.gf (CF_CFG_PHASE m), s.gf (CF_CFG_QMASK m)]
  let new := [w % 2, w / 2 % 2, w / 4 % 2, w / 8 % 4, w / 256 % 256]
  let put : State → State := fun s => s.sfs [(CF_CFG_EN m, w), (CF_CFG_INV m, w / 2), (CF_CFG_GROUP m, w / 4), (CF_CFG_PHASE m, w / 8), (CF_CFG_QMASK m, w / 256)]
  let fresh : Option Bool → State → State := fun inv s => State.sf { s with met := { s.met with cf := s.met.cf.set m { inv := inv } } } (CF_STAT_OWED m) 0
  s.rws p (0xA60 + 16 * m.val) v 0 (decide (old ≠ new)) id (fun s =>
    if s.gb (CF_CFG_EN m) then
      if w.testBit 0 then (false, s.sf MET_ERR_CF_RUNNING 1)
      else
        let o := s.gf (CF_STAT_OWED m)
        (true, (fresh (some (s.cfInv m)) (put s)).log 8 0 (leBytes 1 m ++ zeros 3 ++ leBytes 4 o))
    else (true, if w.testBit 0 then fresh none (put s) else put s))

/-- A write of CF_CONSTm (R166, R170). -/
def State.wrCfConst (s : State) (p : Port) (m : Fin 4) (v : Word) : State :=
  let c := min (max (v.toNat % 2 ^ 30) 1) 1000000000
  s.rws p (0xA64 + 16 * m.val) v 0 (decide (c ≠ s.gf (CF_CONST_C m))) id (fun s =>
    if s.gb (CF_CFG_EN m) then (false, s.sf MET_ERR_CF_RUNNING 1) else (true, s.sf (CF_CONST_C m) c))

/-! ### Calibration (R161 to R165, R405) -/

/-- The calibration record's payload: the newest committed constants of every channel, and both CAL_IDs. -/
def State.calBytes (s : State) : List Byte :=
  (fins 16).flatMap (fun (n : Fin 16) =>
    let k := match s.met.calPend[grpOf n].getLast? with
      | some c => c.sets.getD (n.val % 8) {}
      | none => s.met.cal[n]
    leBytes 4 k.scale ++ leBytes 4 (k.e + 65536 * k.ph) ++ leBytes 4 k.ofs) ++ leBytes 2 (s.gf CAL_ID_ID_A) ++ leBytes 2 (s.gf CAL_ID_ID_B)

/-- CAL_ID of a group. -/
def calIdFld (g : Nat) : Fld := if g = 0 then CAL_ID_ID_A else CAL_ID_ID_B

/-- The active sets of a group. -/
def State.actSets (s : State) (g : Fin 2) : List CalSet := (fins 8).map (fun (c : Fin 8) => s.met.cal[chanOf g c])

/-- The shadow sets of a group. -/
def State.shadowSets (s : State) (g : Fin 2) : List CalSet := (fins 8).map (fun (c : Fin 8) => s.calShadow (chanOf g c))

/-- CAL_CTRL.PEND of a group: a shadow constant differs, or a commit waits. -/
def State.calPending (s : State) (g : Fin 2) : Bool := decide (s.shadowSets g ≠ s.actSets g) || !s.met.calPend[g].isEmpty

/-- A commit takes effect from group SI n: the active set changes and the LOG CAL_COMMIT record is emitted (R165). -/
def State.calApply (s : State) (g : Fin 2) (n : Nat) (c : Commit) : State :=
  let old := s.actSets g
  let oldId := s.met.actId[g]
  let set : CalSet → List Byte := fun k => leBytes 4 k.scale ++ leBytes 4 (k.e + 65536 * k.ph) ++ leBytes 4 k.ofs ++ zeros 4
  let body := (List.range 8).flatMap (fun i => set (old.getD i {}) ++ set (c.sets.getD i {}))
  let m := { s.met with
    cal := Vector.ofFn (fun i => if (grpOf i) = g then c.sets.getD (i.val % 8) {} else s.met.cal[i])
    actId := s.met.actId.set g c.id }
  let s := { s with met := m }
  let s := s.setGrp g (fun gr => { gr with
    calOld := if gr.running then gr.calOld ++ [(n, old)] else []
    f10Aux := if gr.f10A.isSome && gr.running && !gr.ended then 0x400 else gr.f10Aux })
  s.log 5 0 (leBytes 1 g ++ [0] ++ leBytes 2 oldId ++ leBytes 2 c.id ++ zeros 2 ++ leBytes 8 n ++ body)

/-- The number of waiting commits, from the first on, that have been stored. -/
def State.calReady (s : State) (g : Fin 2) : Nat := (s.met.calPend[g].takeWhile Commit.stored).length

/-- The first `k` waiting commits of a group take effect from group SI n, in order (R163). -/
def State.calApplyN (s : State) (g : Fin 2) (n k : Nat) : State :=
  let l := s.met.calPend[g]
  let s := { s with met := { s.met with calPend := s.met.calPend.set g (l.drop k) } }
  let s := s.setGrp g (fun gr => { gr with calAt := none })
  (l.take k).foldl (fun s c => s.calApply g n c) s

/-- The waiting commits whose interval has begun take effect at its first sample; the step is cut there (R149, R162). -/
def State.calSettle (s : State) (g : Fin 2) : State :=
  match s.grp[g].calAt with
  | none => s
  | some (a, k) =>
    let n := match s.grp[g].ticks.find? (fun t => decide (a ≤ t.t)) with
      | some t => t.si
      | none => s.grp[g].si
    (s.cutStep g a).calApplyN g n k

/-- The slices use the group's constants on its samples: it runs outside monitor mode. -/
def Grp.live (gr : Grp) : Bool := gr.running && !gr.monitor

/-- The stored commits of a group that is not live take effect at once (R162, R163). -/
def State.calRest (s : State) (g : Fin 2) : State :=
  if s.grp[g].live then s else s.calApplyN g s.grp[g].si (s.calReady g)

/-- The calibration record of a sequence number is stored: so are the commits up to it (R165). -/
def State.calStored (s : State) (seq : Nat) : State :=
  let mark := fun (l : List Commit) => l.map (fun c => if c.seq ≤ seq then { c with stored := true } else c)
  let s := { s with met := { s.met with calPend := s.met.calPend.map mark } }
  (s.calRest 0).calRest 1

/-- A commit of a group's shadow constants (R161 to R165): whether it was accepted. It takes effect once it has been stored. -/
def State.calCommit (s : State) (g : Fin 2) : Bool × State :=
  let gr := s.grp[g]
  let sets := s.shadowSets g
  if s.grpFused g then (false, s)
  else if gr.running && (List.range 8).any (fun c => gr.mask.testBit c && decide (512 < (gr.correction c (sets.getD c {})).natAbs)) then
    (false, s.sf MET_ERR_CAL_RANGE 1)
  else
    let s := s.incWrap (calIdFld g) 1
    let c : Commit := { sets := sets, id := s.gf (calIdFld g), seq := s.nvm.seqs[(2 : Fin 10)] }
    let s := { s with met := { s.met with calPend := s.met.calPend.set g (s.met.calPend[g] ++ [c]) } }
    (true, s.storeRecord 3 2 3 NvmKind.calibration s.calBytes)

/-- A write of CAL_CTRL (R161). -/
def State.wrCalCtrl (s : State) (p : Port) (v : Word) : State :=
  let a := v.toNat.testBit 0
  let b := v.toNat.testBit 1
  s.rws p 0xA04 v 0 (a || b) id (fun s =>
    let (oa, s) := if a then s.calCommit 0 else (false, s)
    let (ob, s) := if b then s.calCommit 1 else (false, s)
    (oa || ob, s))

/-- A write of a calibration constant's shadow: 0 CAL_SCALE, 1 CAL_CFG, 2 CAL_OFS (R161, R164). -/
def State.wrCal (s : State) (p : Port) (n : Fin 16) (r : Nat) (v : Word) : State :=
  let w := v.toNat
  let k := s.calShadow n
  let k' : CalSet := match r with
    | 0 => { k with scale := w }
    | 1 => { k with e := max (w % 16) 6, ph := w / 65536 % 1024 }
    | _ => { k with ofs := w % 2 ^ 24 }
  if !s.chPresent n then s
  else s.rws p (0xB00 + 16 * n.val + 4 * r) v 0 (decide (k' ≠ k)) id (fun s => (true, s.setCalShadow n k'))

/-- A waiting commit takes effect: the first cycle interval that R162 names has begun. -/
def execCalCommitApply (g : Fin 2) (s : State) : Host.Outcome State Fault Refusal :=
  .next (if s.isReady then s.calSettle g else s)

/-! ### Clears and readings (R159, R160) -/

/-- The 64 accumulators as 16-byte slots (R320). -/
def State.accSlots (s : State) (l : List Nat) : List Byte :=
  l.flatMap (fun i => leBytes 12 (s.acc i) ++ leBytes 4 (b2n (s.met.poison.contains i)))

/-- A write of MET_CTRL (R151, R159). -/
def State.wrMetCtrl (s : State) (p : Port) (v : Word) : State :=
  let w := v.toNat
  let clr := w.testBit 8
  s.rws p 0xA00 v 0 (clr || decide (w % 2 ≠ s.gf MET_CTRL_SMODE_A) || decide (w / 2 % 2 ≠ s.gf MET_CTRL_SMODE_B)) id (fun s =>
    if clr && (s.grp[(0 : Fin 2)].running || s.grp[(1 : Fin 2)].running) then (false, s.sf MET_ERR_ECLR_RUNNING 1)
    else
      let s := s.sfs [(MET_CTRL_SMODE_A, w), (MET_CTRL_SMODE_B, w / 2)]
      if clr then
        let b := s.accSlots (List.range 64)
        let cur := fun (g : Fin 2) (q : Nat) => s.acc (accIdx g 3 q)
        let bil := Vector.ofFn (fun (g : Fin 2) => { s.bil[g] with bnds := s.bil[g].bnds.map (fun l =>
          (List.range 8).map (fun q => (l.getD q 0 + 2 ^ 64 - cur g q % 2 ^ 64) % 2 ^ 64)) })
        (true, ({ s with met := { s.met with acc := [], rem := [], poison := [] }, bil := bil }).log 6 0 b)
      else (true, s))

/-! ### Lost channels (R153) -/

/-- What the fence of a channel of a running group at an instant loses: its phase, and S_e where SMODE needs the channel. -/
def State.metLost (s : State) (g : Fin 2) (c : Fin 8) (t : DevTime) : State :=
  let gr := s.grp[g]
  let s := if c.val % 4 < 3 then s.smbit (MET_STAT_PHASE_LOST g) (c.val % 4) true else s
  if gr.smode = 1 ∧ gr.mask.testBit c ∧ c.val ≠ 3 then
    (s.setGrp g (fun gr => { gr with stotAt := some (gr.stotAt.getD t) })).sf (MET_STAT_STOT_LOST g) 1
  else s

/-- The metrology side of a channel's fence while its group runs: the fence of a channel of a measured phase ends the step and the
demand sub-interval (R149, R259). `meas` is whether the channel's phase was measured before it. -/
def State.metFence (s : State) (g : Fin 2) (c : Fin 8) (t : DevTime) (meas : Bool) : State :=
  let s := if meas then
      (let s := s.cutStep g t
       { s with bil := s.bil.set g { s.bil[g] with cuts := s.bil[g].cuts ++ [t] } })
    else s
  s.metLost g c t

end Sys2Proof.Machine
end

