-- ==== Sys2Proof/Machine/Event.lean ====
section
/-! DEFINITION. The event engine (chapter 9): dips, swells, interruptions, rapid voltage changes and signalling events,
decided on half-cycle and window values. -/

namespace Sys2Proof.Machine

/-- Change a group's event state. -/
def State.setEv (s : State) (g : Fin 2) (f : Evs → Evs) : State := s.setGrp g (fun gr => { gr with ev := f gr.ev })

/-! ### Settings (R200, R208) -/

/-- A threshold in 0.01 % of Udin, in volts. -/
def Evs.volts (e : Evs) (x : Nat) : Rat := (e.udin : Rat) * (x : Rat) / 10000000

/-- The group channels that monitored channel c needs. -/
def evNeeds (delta : Bool) (c : Nat) : List Nat := if delta then [c, (c + 1) % 3] else [c]

/-- The settings satisfy R208's limits; a threshold of 0 disables its kind and is left out. -/
def evOk (dip swell int rvc : Nat) : Bool :=
  (int == 0 || dip == 0 || decide (int < dip)) && (int == 0 || decide (int < 10000)) && (dip == 0 || decide (dip < 10000)) &&
  (swell == 0 || (decide (10000 < swell) && decide (swell ≤ 20000))) && (rvc == 0 || (decide (100 ≤ rvc) && decide (rvc ≤ 1000)))

/-- Monitored channels that can be evaluated: every channel they need runs and none is fused or fenced. -/
def State.evAct (s : State) (g : Fin 2) (delta : Bool) : Nat :=
  maskOf ((List.range 3).filter (fun c => (evNeeds delta c).all (fun n => s.grp[g].mask.testBit n && s.chPresent (8 * g.val + n))))

/-- START samples the event settings of a group; settings outside R208's limits disable its voltage events. -/
def State.evStart (s : State) (g : Fin 2) : State :=
  let dip := s.gf (EVT_THR_DIP g)
  let sw := s.gf (EVT_THR_SWELL g)
  let it := s.gf (EVT_THR2_INT g)
  let rvc := s.gf (EVT_THR2_RVC g)
  let ok := evOk dip sw it rvc
  let udin := s.gf (EVT_UDIN_UDIN g)
  let delta := s.gb (EVT_CFG_DELTA g)
  let act := s.evAct g delta
  let s := s.setEv g (fun e =>
    { on := ok && udin != 0, delta := delta, udin := udin, dipThr := dip, swellThr := sw, intThr := it, rvcThr := rvc,
      msvThr := s.gf (EVT_MSV_THR g), act := act, cov := e.cov })
  if ok then s
  else (s.sf EVT_ERR_CFG_INVALID 1).log 0x0C 0 (leBytes 1 g.val ++ zeros 3 ++ leBytes 4 (dip + 65536 * sw) ++ leBytes 4 (it + 65536 * rvc))

/-! ### Records (R211, R213, R317) -/

/-- A record of a group's voltage event stream, of the SIs from one past the previous record up to one before `last1`. -/
def State.evRec (s : State) (g : Fin 2) (kind cause flags last1 : Nat) (payload : List Byte) : State :=
  let cov := s.grp[g].ev.cov
  let k := last1 - cov
  let rp := if s.grp[g].rep.1 < last1 && cov < s.grp[g].rep.2 then flReplayed else 0
  let r : Rec := { cls := clsEVT, src := srcGrp g, flags := flags ||| rp, tStart := s.grT g cov, tEnd := s.grTEnd g cov k, si := cov % 2 ^ 48, count := k,
                   aux := kind + 256 * cause, payload := payload }
  State.emit (s.setEv g (fun e => { e with cov := max cov last1 })) r

/-- An EVAL record of a group's voltage event stream. -/
def State.evEval (s : State) (g : Fin 2) (last1 flags : Nat) : State := s.evRec g 0x30 0 flags last1 []

/-- A channel block of the payload: extreme, duration, ΔUss. -/
def evBlock (ext : Nat) (dur : Nat) (duss : Nat) : List Byte := leBytes 4 ext ++ zeros 4 ++ leBytes 8 dur ++ leBytes 4 duss ++ zeros 4

/-- The voltage event payload (R317). -/
def State.evPayload (s : State) (g : Fin 2) (start fin ext extCh mask k cause : Nat) (blocks : List Byte) (thr : Rat) : List Byte :=
  leBytes 8 start ++ leBytes 8 fin ++ leBytes 8 (fin - start) ++ leBytes 4 ext ++ leBytes 1 extCh ++ leBytes 1 mask ++ leBytes 1 k ++
    leBytes 1 cause ++ leBytes 2 s.met.actId[g] ++ zeros 6 ++ blocks ++ leBytes 4 (f32bits ((s.grp[g].ev.udin : Rat) / 1000)) ++
    leBytes 4 (f32bits thr)

/-- The kind code of a start record: 0x10 dip, 0x12 swell, 0x14 interruption; its end record is one more. -/
def evThr (e : Evs) (kind : Nat) : Rat := e.volts (if kind = 0x10 then e.dipThr else if kind = 0x12 then e.swellThr else e.intThr)

/-- The mask of the channels that took part. -/
def Ev.mask (v : Ev) : Nat := maskOf ((List.range 3).filter (fun c => (v.parts.getD c {}).took))

/-- The record of an event: its start (`fin` none) or its end. -/
def State.evEmit (s : State) (g : Fin 2) (kind : Nat) (v : Ev) (fin : Option DevTime) (cause flags last1 : Nat) : State :=
  let blocks := (List.range 3).flatMap (fun c =>
    let p := v.parts.getD c {}
    let dur := match fin with
      | none => 0
      | some t => (if p.on then t else p.stop) - p.start
    if p.took then evBlock (f32opt p.ext) dur nan32 else evBlock nan32 0 nan32)
  let f := fin.getD 0
  let pay := s.evPayload g v.start f (f32bits v.ext) v.extCh v.mask 0 cause blocks (evThr s.grp[g].ev kind)
  let pay := match fin with
    | some _ => pay
    | none => pay.take 16 ++ zeros 8 ++ pay.drop 24
  s.evRec g (kind + b2n fin.isSome) cause flags last1 pay

/-! ### Dips, swells and interruptions (R202, R203) -/

/-- The start condition of a channel. -/
def evEnter (kind : Nat) (thr x : Rat) : Bool := if kind = 0x12 then decide (thr < x) else decide (x < thr)
/-- The end condition of a channel; `h` is 2 % of Udin. -/
def evLeave (kind : Nat) (thr h x : Rat) : Bool := if kind = 0x12 then decide (x ≤ thr - h) else decide (thr + h ≤ x)
/-- The more extreme of two values. -/
def evMore (kind : Nat) (x y : Rat) : Bool := if kind = 0x12 then decide (y < x) else decide (x < y)

/-- A channel's part after its next value. -/
def EvPart.step (p : EvPart) (kind : Nat) (thr h : Rat) (t : DevTime) (x : Rat) : EvPart :=
  let ext := match p.ext with
    | none => some x
    | some y => if evMore kind x y then some x else some y
  if evEnter kind thr x then { p with took := true, on := true, start := if p.took then p.start else t, ext := ext }
  else if p.on && evLeave kind thr h x then { p with on := false, stop := t, ext := ext }
  else { p with ext := ext }

/-- An event after the next value of its channels. -/
def Ev.step (v : Ev) (kind : Nat) (thr h : Rat) (t : DevTime) (vals : List (Option Rat)) : Ev :=
  let parts := (List.range 3).map (fun c =>
    match vals.getD c none with
    | some x => (v.parts.getD c {}).step kind thr h t x
    | none => v.parts.getD c {})
  let best := (List.range 3).foldl (fun (b : Rat × Nat) c =>
    match vals.getD c none with
    | some x => if evMore kind x b.1 then (x, c) else b
    | none => b) (v.ext, v.extCh)
  { v with parts := parts, ext := best.1, extCh := best.2 }

/-- An event that starts at a value. -/
def evNew (kind : Nat) (thr h : Rat) (t : DevTime) (vals : List (Option Rat)) : Ev :=
  let first := ((List.range 3).filterMap (fun c => (vals.getD c none).map (fun x => (x, c)))).head?.getD (0, 0)
  Ev.step { start := t, ext := first.1, extCh := first.2, parts := [{}, {}, {}] } kind thr h t vals

/-- The event in progress of a kind, and its change. -/
def Evs.cur (e : Evs) (kind : Nat) : Option Ev := if kind = 0x10 then e.dip else if kind = 0x12 then e.swell else e.intr
def Evs.put (e : Evs) (kind : Nat) (v : Option Ev) : Evs :=
  if kind = 0x10 then { e with dip := v } else if kind = 0x12 then { e with swell := v } else { e with intr := v }

/-- The kind's threshold is set. -/
def Evs.enabled (e : Evs) (kind : Nat) : Bool := (if kind = 0x10 then e.dipThr else if kind = 0x12 then e.swellThr else e.intThr) != 0

/-- The start condition of an event of a kind, on the values of the evaluated channels. -/
def Evs.starts (e : Evs) (kind : Nat) (vals : List (Option Rat)) : Bool :=
  let thr := evThr e kind
  let xs := vals.filterMap id
  if kind = 0x14 then !xs.isEmpty && xs.length == (bitsOf 3 e.act).length && xs.all (evEnter kind thr) else xs.any (evEnter kind thr)

/-- The end condition of an event in progress, after its step. -/
def Evs.ends (e : Evs) (kind : Nat) (v : Ev) (vals : List (Option Rat)) : Bool :=
  if kind = 0x14 then (vals.filterMap id).any (evLeave kind (evThr e kind) (e.volts 200)) else !v.parts.any EvPart.on

/-- The end of an event: its span ends, its record is emitted. -/
def State.evFinish (s : State) (g : Fin 2) (kind : Nat) (v : Ev) (t : DevTime) (cause flags last1 : Nat) : State :=
  let s := s.setEv g (fun e =>
    { e.put kind none with spans := e.spans.map (fun sp => if sp.1 = kind ∧ sp.2.2 = none then (kind, sp.2.1, some t) else sp) })
  s.evEmit g kind v (some t) cause flags last1

/-- The number of a kind in CAP_TRIG (Table 13-4). -/
def evTrig (kind : Nat) : Nat := if kind = 0x10 then 1 else if kind = 0x12 then 2 else 3

/-- The end test of a kind on a value. -/
def State.evTestEnd (s : State) (g : Fin 2) (kind : Nat) (t : DevTime) (last1 : Nat) (vals : List (Option Rat)) : State :=
  let e := s.grp[g].ev
  match e.cur kind with
  | none => s
  | some v =>
    let v' := v.step kind (evThr e kind) (e.volts 200) t vals
    if e.ends kind v' vals then s.evFinish g kind v' t 0 0 last1 else s.setEv g (fun e => e.put kind (some v'))

/-- The start test of a kind on a value; `was` says that an event of the kind was in progress before it. -/
def State.evTestStart (s : State) (g : Fin 2) (kind : Nat) (was : Bool) (t : DevTime) (last1 : Nat) (vals : List (Option Rat)) : State :=
  let e := s.grp[g].ev
  if was || !e.enabled kind || !e.starts kind vals then s
  else
    let v := evNew kind (evThr e kind) (e.volts 200) t vals
    let s := s.setEv g (fun e => e.put kind (some v))
    let s := (s.evEmit g kind v none 0 0 last1).incWrap (EVT_STAT_COUNT g) 1
    let s := s.setEv g (fun e => { e with spans := e.spans ++ [(kind, t, none)] })
    s.capEvent (evTrig kind) g t

/-! ### Rapid voltage changes (R206) -/

/-- N of R206. -/
def Grp.rvcN (gr : Grp) : Nat := if gr.fnom = 0 then 100 else 120

/-- The values of channel c in a history; none when one is absent. -/
def evCol (h : List (List (Option Rat))) (c : Nat) : Option (List Rat) := allSome (h.map (fun v => v.getD c none))

/-- All values lie within r of their mean. -/
def steadyVals (r : Rat) (l : List Rat) : Bool :=
  let m := meanRat l
  l.all (fun x => decide (x - m ≤ r) && decide (m - x ≤ r))

/-- Every evaluated channel is steady over a run of N values. -/
def Evs.steady (e : Evs) (n : Nat) (h : List (List (Option Rat))) : Bool :=
  h.length == n && (bitsOf 3 e.act).all (fun c => match evCol h c with | some l => steadyVals (e.volts e.rvcThr) l | none => false)

/-- The deviation of a value from a mean. -/
def devOf (x m : Option Rat) : Rat := match x, m with | some x, some m => (if x < m then m - x else x - m) | _, _ => 0

/-- The index of the last value before the first run of N values, after index i, in which a column is steady. -/
def rvcEndOf (n : Nat) (r : Rat) (col : List Rat) (i : Nat) : Option Nat :=
  (List.range col.length).find? (fun j => decide (i ≤ j) && decide (j + n < col.length) && steadyVals r ((col.drop (j + 1)).take n))

/-- The payload and span of a candidate that has ended: its values before the final run, and that run. -/
def State.rvcEmit (s : State) (g : Fin 2) (c : RvcCand) (last1 : Nat) : State :=
  let e := s.grp[g].ev
  let n := s.grp[g].rvcN
  let r := e.volts e.rvcThr
  let body := c.vals.take (c.vals.length - n)
  let run := (c.vals.drop (c.vals.length - n)).map Prod.snd
  let fin := (body.getLast?.map Prod.fst).getD c.start
  let dmax := (List.range 3).map (fun ch => (body.map (fun v => devOf (v.2.getD ch none) (c.pre.getD ch none))).foldl max 0)
  let big := (bitsOf 3 e.act).foldl (fun (b : Rat × Nat) ch => if b.1 < dmax.getD ch 0 then (dmax.getD ch 0, ch) else b) (0, 0)
  let mask := (bitsOf 3 e.act).filter (fun ch => decide (r < dmax.getD ch 0))
  let blocks := (List.range 3).flatMap (fun ch =>
    if mask.contains ch then
      let col := c.vals.map (fun v => (v.2.getD ch none).getD 0)
      let i := ((List.range col.length).find? (fun i => decide (r < devOf ((c.vals.getD i (0, [])).2.getD ch none) (c.pre.getD ch none)))).getD 0
      let j := (rvcEndOf n r col i).getD (c.vals.length - n - 1)
      let dur := (c.vals.getD j (fin, [])).1 - (c.vals.getD i (c.start, [])).1
      let uss := (meanRat ((evCol run ch).getD [0])) - (c.pre.getD ch none).getD 0
      evBlock (f32bits (dmax.getD ch 0)) dur (f32bits uss)
    else zeros 24)
  s.evRec g 0x16 0 0 last1 (s.evPayload g c.start fin (f32bits big.1) big.2 (maskOf mask) 0 0 blocks r)

/-- The rapid voltage change rules on a value while no dip, swell or interruption is in progress. -/
def State.rvcStep (s : State) (g : Fin 2) (t : DevTime) (last1 : Nat) (vals : List (Option Rat)) : State :=
  let e := s.grp[g].ev
  let n := s.grp[g].rvcN
  let r := e.volts e.rvcThr
  let hist := (e.hist ++ [vals]).drop (e.hist.length + 1 - n)
  let put : Option RvcCand → State → State := fun c s => s.setEv g (fun e => { e with cand := c, hist := hist })
  match e.cand with
  | some c =>
    let c := { c with vals := c.vals ++ [(t, vals)] }
    if n < c.vals.length ∧ e.steady n ((c.vals.drop (c.vals.length - n)).map Prod.snd) then
      put none (s.rvcEmit g c last1)
    else put (some c) s
  | none =>
    if e.steady n e.hist then
      let pre := (List.range 3).map (fun c => if e.act.testBit c then (evCol e.hist c).map meanRat else none)
      if (bitsOf 3 e.act).any (fun c => decide (r < devOf (vals.getD c none) (pre.getD c none))) then
        (put (some { start := t, pre := pre, vals := [(t, vals)] }) s).capEvent 4 g t
      else put none s
    else put none s

/-! ### A half-cycle value (R201, R202, R204) -/

/-- EVT_STATg follows the event state. -/
def State.evStat (s : State) (g : Fin 2) : State :=
  let e := s.grp[g].ev
  s.sfs [(EVT_STAT_IN_DIP g, b2n e.dip.isSome), (EVT_STAT_IN_SWELL g, b2n e.swell.isSome), (EVT_STAT_IN_INT g, b2n e.intr.isSome),
    (EVT_STAT_IN_RVC g, b2n e.cand.isSome), (EVT_STAT_STEADY g, b2n (e.rvcThr != 0 && e.steady s.grp[g].rvcN e.hist)),
    (EVT_STAT_IN_MSV g, b2n (e.msv.any Option.isSome))]

/-- The event engine tests a half-cycle value delivered with instant t; `last1` is one past the group SI of its last
sample, `vals` the three monitored values in volts. -/
def State.evValue (s : State) (g : Fin 2) (t : DevTime) (last1 : Nat) (vals0 : List (Option Rat)) : State :=
  let e0 := s.grp[g].ev
  if !e0.on || e0.act = 0 then s
  else
    let vals := (List.range 3).map (fun c => if e0.act.testBit c then vals0.getD c none else none)
    let s := [0x14, 0x10, 0x12].foldl (fun (s : State) k => s.evTestEnd g k t last1 vals) s
    let e1 := s.grp[g].ev
    let s := [0x10, 0x12, 0x14].foldl (fun (s : State) k => s.evTestStart g k (e0.cur k).isSome t last1 vals) s
    let e2 := s.grp[g].ev
    let busy := [0x10, 0x12, 0x14].any (fun k => (e0.cur k).isSome || (e1.cur k).isSome || (e2.cur k).isSome)
    let s := if busy then s.setEv g (fun e => { e with cand := none, hist := [] })
      else if e0.rvcThr = 0 then s
      else s.rvcStep g t last1 vals
    s.evStat g

/-- The three monitored half-cycle values of a window (R200, Table 7-1), in volts. -/
def State.halfValues (s : State) (g : Fin 2) (ts : List Tick) : List (Option Rat) :=
  let sq := if s.grp[g].ev.delta then [s.meanSqDiff g ts 0 1, s.meanSqDiff g ts 1 2, s.meanSqDiff g ts 2 0]
    else [s.meanSq g ts 0, s.meanSq g ts 1, s.meanSq g ts 2]
  sq.map (fun o => o.map sqrtRat)

/-- A half-cycle boundary at instant b: the window that began two boundaries earlier closes; the slice forms the half-cycle RMS values of
every channel that runs, and the voltages go to the event engine (R148, R201). -/
def State.halfEnd (s : State) (g : Fin 2) (b : DevTime) : State :=
  let gr := s.grp[g]
  let s1 := s.setGrp g (fun gr => { gr with halves := (b :: gr.halves).take 3 })
  match gr.halves with
  | _ :: a :: _ =>
    let ts := gr.window a b
    let s1 := s1.setGrp g (fun gr => { gr with half := (fins 8).map (fun (c : Fin 8) => s.meanSq g ts c) })
    match ts.getLast? with
    | some k => s1.evValue g b (k.si + 1) (s1.halfValues g ts)
    | none => s1
  | _ => s1

/-- A half-cycle boundary of a group, at the instant at which the tracker places it; while the tracker is not LOCKED it is
the nominal one (R147). Its samples have been delivered. -/
def execHalfCycleBoundary (g : Fin 2) (t : Nat) (s : State) : Host.Outcome State Fault Refusal :=
  let gr := s.grp[g]
  let last := gr.halves.head?.getD gr.cycA
  let b := if s.gf (FREQ_STAT_STATE g) = 3 then t else gr.nomAfter (gr.period / 2) last
  .next (if s.isReady && gr.running && !gr.monitor && !gr.lost && !s.gb SLICE_STAT_SWITCHING && gr.await.isNone && decide (last < b) && decide (b ≤ s.grT g gr.si) then (s.calSettle g).halfEnd g b else s)

/-! ### Signalling (R207) -/

/-- One signalling frequency of a window that ended at t, with its three phase values. -/
def State.msvStep (s : State) (g : Fin 2) (k : Nat) (t : DevTime) (last1 : Nat) (vals : List (Option Rat)) : State :=
  let e := s.grp[g].ev
  let thr := e.volts e.msvThr
  let xs := (List.range 3).filterMap (fun p => (vals.getD p none).map (fun x => (x, p)))
  if !e.on || e.msvThr = 0 || xs.isEmpty then s
  else
    let big := xs.foldl (fun (b : Rat × Nat) x => if b.1 < x.1 then x else b) (xs.headD (0, 0))
    let put : Option MsvEv → State → State := fun v s => s.setEv g (fun e => { e with msv := e.msv.set k v })
    match e.msv.getD k none with
    | none => if thr < big.1 then (put (some { start := t, ext := big.1, ph := big.2 }) s).capEvent 5 g t else s
    | some v =>
      let v := if v.ext < big.1 then { v with ext := big.1, ph := big.2 } else v
      if thr < big.1 then put (some v) s
      else (put none s).evRec g 0x17 0 0 last1 (s.evPayload g v.start t (f32bits v.ext) v.ph 0 k 0
        ((List.range 3).flatMap (fun _ => evBlock nan32 0 nan32)) thr)

/-! ### Ends of evaluation (R211, R212) -/

/-- Close the dip, swell and interruption in progress at the instant one past the group's last SI, and discard a
candidate. -/
def State.evClose (s : State) (g : Fin 2) (cause flags : Nat) : State :=
  let last1 := s.grp[g].si
  let t := s.grT g last1
  let s := [0x14, 0x10, 0x12].foldl (fun (s : State) k =>
    match s.grp[g].ev.cur k with
    | some v => s.evFinish g k v t cause flags last1
    | none => s) s
  s.setEv g (fun e => { e with cand := none })

/-- Close the signalling events in progress. -/
def State.msvClose (s : State) (g : Fin 2) (cause flags : Nat) : State :=
  let last1 := s.grp[g].si
  let t := s.grT g last1
  (List.range 4).foldl (fun (s : State) k =>
    match s.grp[g].ev.msv.getD k none with
    | some v =>
      (s.setEv g (fun e => { e with msv := e.msv.set k none })).evRec g 0x17 cause flags last1
        (s.evPayload g v.start t (f32bits v.ext) v.ph 0 k cause ((List.range 3).flatMap (fun _ => evBlock nan32 0 nan32)) (s.grp[g].ev.volts s.grp[g].ev.msvThr))
    | none => s) s

/-- What ends evaluation of a group for a cause (1 STOP, 2 HALT, 3 TIMESTEP): its events close; steadiness is rebuilt
later; at a STOP or a halt an EVAL record covers what is left. -/
def State.evEnd (s : State) (g : Fin 2) (cause flags : Nat) : State :=
  let s := (s.evClose g cause flags).msvClose g cause flags
  let s := s.setEv g (fun e => { e with hist := [] })
  let s := if cause = 3 then s else s.evEval g s.grp[g].si flags
  s.evStat g

/-- The monitored channels that need a fenced channel, before the first sample of a run. -/
def State.evDrop (s : State) (g : Fin 2) (c : Fin 8) : State :=
  s.setEv g (fun e => { e with act := maskOf ((bitsOf 3 e.act).filter (fun m => !(evNeeds e.delta m).contains c.val)) })

/-- The fence of channel c of a running group (R212): the events in progress close, and evaluation goes on without the
monitored channels that need it; when none is left an EVAL record ends evaluation. -/
def State.evFence (s : State) (g : Fin 2) (c : Fin 8) : State :=
  let e := s.grp[g].ev
  let lost := (bitsOf 3 e.act).filter (fun m => (evNeeds e.delta m).contains c.val)
  if lost.isEmpty then s
  else
    let s := s.evClose g 4 0
    let act := maskOf ((bitsOf 3 e.act).filter (fun m => !lost.contains m))
    let s := s.setEv g (fun e => { e with act := act })
    let s := if act = 0 then s.evEval g s.grp[g].si 0 else s
    s.evStat g

/-- A dip, swell or interruption overlaps [a, b) (R205). -/
def Evs.flagged (e : Evs) (a b : DevTime) : Bool :=
  e.spans.any (fun sp => decide (sp.2.1 < b) && (match sp.2.2 with | none => true | some t => decide (a < t)))

end Sys2Proof.Machine
end

