-- ==== Sys2Proof/Machine/Spectral.lean ====
section
/-! DEFINITION. The spectral engine on group windows (chapter 8): the transform of a window's points, bins and bands,
the HARM record, the flickermeters, and the banks it needs. -/

namespace Sys2Proof.Machine

/-! ### Keys of values (Table 10-5) -/

/-- The key of a value: kind, element, index. -/
def vkey (kind el ix : Nat) : Nat := kind * 65536 + el * 256 + ix

/-- A value of a list; none = not defined. -/
def vget (l : List (Nat × Rat)) (k : Nat) : Option Rat := (l.find? (fun e => e.1 == k)).map Prod.snd

/-- Kinds of the RMS method, held as squares (Table 10-2). -/
def isRms (kind : Nat) : Bool := [0, 1, 2, 0x11, 0x12, 0x13, 0x14, 0x16, 0x20, 0x22].contains kind

/-- The binary32 bits of a value of a key. -/
def vbits (l : List (Nat × Rat)) (kind el ix : Nat) : Nat :=
  match vget l (vkey kind el ix) with
  | some x => if isRms kind then f32sqrt x else f32bits x
  | none => nan32

/-! ### Bins (R174, R176) -/

/-- The upper passband edge of a profile in Hz (Table 4-1). -/
def profPass : Nat → Nat
  | 0 => 40000 | 1 => 20000 | 2 => 10000 | 3 => 10000 | 4 => 5000 | 5 => 2500 | _ => 0

/-- A window's spectrum: its duration W in 2^-32 s, C, FMAX in Hz, the rate of the group in Hz, the points of the eight channels, and
for a channel with an integrator its f_n in Hz. -/
structure Spectrum where
  dur : Nat
  c : Nat
  fmax : Nat
  rate : Nat
  pts : List (List Rat)
  integ : List (Option Nat)

/-- Complex product, sum and quotient. -/
def cmul (x y : Rat × Rat) : Rat × Rat := (x.1 * y.1 - x.2 * y.2, x.1 * y.2 + x.2 * y.1)
def cadd (x y : Rat × Rat) : Rat × Rat := (x.1 + y.1, x.2 + y.2)
def cdivide (x y : Rat × Rat) : Rat × Rat :=
  let q := y.1 * y.1 + y.2 * y.2
  ((x.1 * y.1 + x.2 * y.2) / q, (x.2 * y.1 - x.1 * y.2) / q)
def cabs (x : Rat × Rat) : Rat := sqrtRat (x.1 * x.1 + x.2 * x.2)

/-- X_k / K of a real sequence of length K, with a rectangular window (R173, R174). -/
def dftBin (xs : List Rat) (k : Nat) : Rat × Rat :=
  let n := xs.length
  let l := List.zip xs (List.range n)
  let ang := fun (i : Nat) => 2 * piRat * ((k * i % n : Nat) : Rat) / (n : Rat)
  ((l.map (fun e => e.1 * cosRat (ang e.2))).sum / (n : Rat), -((l.map (fun e => e.1 * sinRat (ang e.2))).sum / (n : Rat)))

/-- c(f) of R175 for a profile's rate f_s, with ω_c = 2π × 0.5 Hz. -/
def warpAt (rate : Nat) (f : Rat) : Rat × Rat :=
  let a := piRat * f / (rate : Rat)
  cdivide (piRat, 2 * (rate : Rat) * (sinRat a / cosRat a)) (0, 2 * piRat * f)

/-- f_k in Hz. -/
def Spectrum.freq (p : Spectrum) (k : Nat) : Rat := ((k * 2 ^ 32 : Nat) : Rat) / (p.dur : Rat)

/-- Bin k of a channel, X_k / K with the correction of R175, when f_k ≤ FMAX. -/
def Spectrum.bin (p : Spectrum) (ch k : Nat) : Option (Rat × Rat) :=
  if p.fmax * p.dur < k * 2 ^ 32 then none
  else
    let x := dftBin (p.pts.getD ch []) k
    match p.integ.getD ch none with
    | some fn =>
      if k = 0 then none
      else
        let q := cabs (warpAt p.rate (fn : Rat))
        let c := warpAt p.rate (p.freq k)
        some (cmul x (c.1 / q, c.2 / q))
    | none => some x

/-- Y_k² of a channel. -/
def Spectrum.sq (p : Spectrum) (ch k : Nat) : Option Rat :=
  (p.bin ch k).map (fun x => (if k = 0 then 1 else 2) * (x.1 * x.1 + x.2 * x.2))

/-- The sum of Y² over bins, each with a weight; not defined when a bin is not. -/
def Spectrum.sumSq (p : Spectrum) (ch : Nat) (l : List (Nat × Rat)) : Option Rat :=
  match allSome (l.map (fun e => (p.sq ch e.1).map (fun y => e.2 * y))) with
  | some xs => some xs.sum
  | none => none

/-- The bins of [a, b] with weight 1. -/
def ones (a b : Nat) : List (Nat × Rat) := (List.range (b + 1 - a)).map (fun i => (a + i, 1))

/-- Bins of the harmonic subgroup, interharmonic centred subgroup, group and interharmonic group of an order (Table 8-1). -/
def binsSg (c h : Nat) : List (Nat × Rat) := ones (c * h - 1) (c * h + 1)
def binsIsg (c h : Nat) : List (Nat × Rat) := ones (c * h + 2) (c * h + c - 2)
def binsG (c h : Nat) : List (Nat × Rat) := (c * h - c / 2, 1 / 2) :: (ones (c * h - c / 2 + 1) (c * h + c / 2 - 1) ++ [(c * h + c / 2, 1 / 2)])
def binsIg (c h : Nat) : List (Nat × Rat) := ones (c * h + 1) (c * h + c - 1)

/-- Bins of the band centred at `b` Hz (R179): b − 97.5 Hz ≤ k / W < b + 102.5 Hz. -/
def binsBand (dur b : Nat) : List (Nat × Rat) :=
  ((ones 0 2600).filter (fun e => decide ((2 * b - 195) * dur ≤ 2 * e.1 * 2 ^ 32) && decide (2 * e.1 * 2 ^ 32 < (2 * b + 205) * dur)))

/-- Bins of a signalling frequency f in 2^-8 Hz (R180). -/
def binsMsv (dur f : Nat) : List (Nat × Rat) :=
  let pos : Rat := (f : Rat) / 256 * (dur : Rat) / ((2 ^ 32 : Nat) : Rat)
  let m := pos.num.natAbs / pos.den
  let fr : Rat := pos - (m : Rat)
  if fr ≤ 5 / 100 then [(m, 1)] else if 95 / 100 ≤ fr then [(m + 1, 1)]
  else if m = 0 then ones 0 3 else ones (m - 1) (m + 2)

/-! ### Values of a window (R175 to R181) -/

/-- The values of a channel from its bins: DC, subgroups, THDS, groups, bands. -/
def State.chanSpec (s : State) (g : Fin 2) (p : Spectrum) (ch : Fin 8) : List (Nat × Rat) :=
  let c := p.c
  let opt := fun (k : Nat) (v : Option Rat) => match v with | some x => [(k, x)] | none => []
  let dc := opt (vkey 0x10 ch 0) ((p.sq ch 0).map sqrtRat)
  let sg := (List.range 50).flatMap (fun i => opt (vkey 0x11 ch (i + 1)) (p.sumSq ch (binsSg c (i + 1))))
  let isg := (List.range 50).flatMap (fun i => opt (vkey 0x12 ch i) (p.sumSq ch (binsIsg c i)))
  let gs := if s.gb (SPEC_CFG_GROUPS g) then
      (List.range 50).flatMap (fun i => opt (vkey 0x13 ch (i + 1)) (p.sumSq ch (binsG c (i + 1)))) ++
      (List.range 50).flatMap (fun i => opt (vkey 0x14 ch i) (p.sumSq ch (binsIg c i)))
    else []
  let bands := if s.gb (SPEC_CFG_BANDS g) then
      (List.range 35).flatMap (fun i => opt (vkey 0x16 ch i) (p.sumSq ch (binsBand p.dur (2100 + 200 * i))))
    else []
  dc ++ sg ++ isg ++ gs ++ bands

/-- THDS of a channel from subgroup squares (Table 8-1), in per cent. -/
def State.thds (s : State) (g : Fin 2) (l : List (Nat × Rat)) (ch : Nat) : Option Rat :=
  let hMax := if s.gb (SPEC_CFG_THD50 g) then 50 else 40
  match vget l (vkey 0x11 ch 1), allSome ((List.range (hMax - 1)).map (fun i => vget l (vkey 0x11 ch (i + 2)))) with
  | some y1, some ys => if y1 = 0 then none else some (sqrtRat (ys.sum / y1) * 100)
  | _, _ => none

/-- A derived ratio of sequence components: 100 × √(x / y), not defined when y is 0. -/
def seqRatio (x y : Option Rat) : Option Rat :=
  match x, y with
  | some x, some y => if y = 0 then none else some (sqrtRat (x / y) * 100)
  | _, _ => none

/-- a = e^(j2π/3). -/
def unitA : Rat × Rat := (-(1 / 2), sqrtRat 3 / 2)
def unitA2 : Rat × Rat := (-(1 / 2), -(sqrtRat 3 / 2))

/-- The squares of the sequence components of three phasors X / K (R181). -/
def symSq (v1 v2 v3 : Rat × Rat) : List Rat :=
  let sq := fun (z : Rat × Rat) => 2 * (z.1 * z.1 + z.2 * z.2) / 9
  [sq (cadd v1 (cadd v2 v3)), sq (cadd v1 (cadd (cmul unitA v2) (cmul unitA2 v3))), sq (cadd v1 (cadd (cmul unitA2 v2) (cmul unitA v3)))]

/-- The symmetrical components of voltages (`e` 0) or currents (`e` 1) of channels that were defined in the window. -/
def specSym (p : Spectrum) (ok : Nat → Bool) (e : Nat) : List (Nat × Rat) :=
  let ch := fun i => 4 * e + i
  match p.bin (ch 0) p.c, p.bin (ch 1) p.c, p.bin (ch 2) p.c with
  | some v1, some v2, some v3 =>
    let l := symSq v1 v2 v3
    if ok (ch 0) && ok (ch 1) && ok (ch 2) && l.getD 1 0 != 0 then (List.range 3).map (fun i => (vkey 0x20 e i, l.getD i 0)) else []
  | _, _, _ => []

/-- The derived values of a set of window values or of an aggregate: THDS, u0, u2, i0, i2. -/
def State.specDerived (s : State) (g : Fin 2) (l : List (Nat × Rat)) : List (Nat × Rat) :=
  let opt := fun (k : Nat) (v : Option Rat) => match v with | some x => [(k, x)] | none => []
  (List.range 8).flatMap (fun ch => opt (vkey 0x15 ch 0) (s.thds g l ch)) ++
  [0, 1].flatMap (fun e => [0, 2].flatMap (fun i => opt (vkey 0x21 e i) (seqRatio (vget l (vkey 0x20 e i)) (vget l (vkey 0x20 e 1)))))

/-- The largest error that the engine's arithmetic adds to a magnitude of a channel (R174): 10 ppm of its largest bin and 2^-30 of full
scale, which is 2^23 codes. -/
def State.specTol (s : State) (g : Fin 2) (p : Spectrum) (ch : Nat) : Rat :=
  let k : CalSet := if h : ch < 8 then s.calAt g ⟨ch, h⟩ s.grp[g].si else {}
  let top := ((List.range 6145).map (fun i => sqrtRat ((p.sq ch i).getD 0))).foldl max 0
  top / 100000 + (k.scale : Rat) * pow10 (-(k.e : Int)) / 128

/-- The engine's arithmetic adds a free error to each magnitude, within its bound for the channels that the value is formed from. -/
def State.specErr (s : State) (g : Fin 2) (p : Spectrum) (l : List (Nat × Rat)) : List (Nat × Rat) × State :=
  let tol := fun (key : Nat) =>
    let el := key / 256 % 256
    if key / 65536 = 0x20 then ((List.range 3).map (fun i => s.specTol g p (4 * el + i))).foldl max 0 else s.specTol g p el
  (l.zipIdx.map (fun e =>
    let (key, x) := e.1
    let b := tol key
    let d := max (-b) (min b (Config.freeRat (s.free + e.2)))
    if isRms (key / 65536) then (key, max 0 (sqrtRat x + d) * max 0 (sqrtRat x + d)) else (key, max 0 (x + d))),
   { s with free := s.free + l.length })

/-- The spectral values of a window; `ok` says which channels have defined values. -/
def State.specVals (s : State) (g : Fin 2) (p : Spectrum) (ok : Nat → Bool) : List (Nat × Rat) × State :=
  let chans := (fins 8).flatMap (fun (c : Fin 8) => if ok c.val then s.chanSpec g p c else [])
  let sym := specSym p ok 0 ++ specSym p ok 1
  let msv := (List.range 4).flatMap (fun k =>
    if s.gb (MSV_F_EN (4 * g.val + k)) then
      (List.range 3).flatMap (fun ph => if ok ph then
        (match p.sumSq ph (binsMsv p.dur (s.gf (MSV_F_F (4 * g.val + k)))) with | some x => [(vkey 0x22 ph k, x)] | none => []) else [])
    else [])
  let (l, s) := s.specErr g p (chans ++ sym ++ msv)
  (l ++ s.specDerived g l, s)

/-- The phase of order h of a channel in degrees (R178), reduced to (−180, 180]. -/
def harmPhase (x x1 : Rat × Rat) (h : Nat) : Rat :=
  let d := argDeg x.1 x.2 - (h : Rat) * argDeg x1.1 x1.2
  let q := (180 - d) / 360
  let k : Int := q.num / (q.den : Int)
  d + 360 * (k : Rat)

/-- The phase words of a channel block. The phase of a bin that is 0 is a free value. -/
def State.phaseWords (s : State) (g : Fin 2) (p : Spectrum) (ok : Nat → Bool) (ch : Nat) : List Nat :=
  let k0 := s.calAt g 0 s.grp[g].si
  let live : Option (Rat × Rat) := match p.bin 0 p.c with
    | some x =>
      let amp2 := 4 * (x.1 * x.1 + x.2 * x.2)
      let lim : Rat := (s.gf (FREQ_CFG_MINAMP g) : Rat) * (k0.scale : Rat) * pow10 (-(k0.e : Int))
      if ok 0 && decide (lim * lim ≤ amp2) then some x else none
    | none => none
  (List.range 50).map (fun i =>
    match live, p.bin ch (p.c * (i + 1)) with
    | some x1, some x =>
      if !ok ch then nan32
      else if x.1 = 0 ∧ x.2 = 0 then f32bits (Config.freeRat (s.free + 64 * ch + i)) else f32bits (harmPhase x x1 (i + 1))
    | _, _ => nan32)

/-- The words of a channel block for the options in force (R315); `phases` are its phase words. -/
def State.specBlock (s : State) (g : Fin 2) (l : List (Nat × Rat)) (ch : Nat) (phases : List Nat) : List Nat :=
  [vbits l 0x10 ch 0] ++ (List.range 50).map (fun i => vbits l 0x11 ch (i + 1)) ++ (List.range 50).map (fun i => vbits l 0x12 ch i) ++
  [vbits l 0x15 ch 0] ++
  (if s.gb (SPEC_CFG_GROUPS g) then (List.range 50).map (fun i => vbits l 0x13 ch (i + 1)) ++ (List.range 50).map (fun i => vbits l 0x14 ch i) else []) ++
  (if s.gb (SPEC_CFG_PHASE g) then phases else []) ++
  (if s.gb (SPEC_CFG_BANDS g) then (List.range 35).map (fun i => vbits l 0x16 ch i) else [])

/-- Unbalance and signalling words (Table 8-3). -/
def unbalWords (l : List (Nat × Rat)) : List Nat :=
  [0, 1].flatMap (fun e => (List.range 3).map (fun i => vbits l 0x20 e i) ++ [vbits l 0x21 e 0, vbits l 0x21 e 2])
def msvWords (l : List (Nat × Rat)) : List Nat := (List.range 4).flatMap (fun k => (List.range 3).map (fun p => vbits l 0x22 p k))

/-- OPTS of Table 8-3. -/
def State.specOpts (s : State) (g : Fin 2) : Nat :=
  s.gf (SPEC_CFG_GROUPS g) + 2 * s.gf (SPEC_CFG_PHASE g) + 4 * s.gf (SPEC_CFG_BANDS g) + 8 * s.gf (SPEC_CFG_THD50 g)

/-! ### Windows and their samples -/

/-- T_END of a window's records: the tick that cuts it, or its end (R226). -/
def WinDone.tEnd (d : WinDone) : DevTime := match d.w.tick with | some t => if t < d.b then t else d.b | none => d.b

/-- The ticks of a window. -/
def Grp.winTicks (gr : Grp) (d : WinDone) : List Tick := gr.window d.w.a d.b

/-- Group SI range and overrun of a window: first SI, samples before T_END, samples after it. -/
def Grp.winSi (gr : Grp) (d : WinDone) : Nat × Nat × Nat :=
  let ts := gr.winTicks d
  let n := (ts.filter (fun t => decide (t.t < d.tEnd))).length
  let first := match ts with
    | t :: _ => t.si
    | [] => gr.si
  (first, n, ts.length - n)

/-- A channel of the window has a sample at each of its ticks. -/
def chanWhole (ts : List Tick) (c : Nat) : Bool := !ts.isEmpty && ts.all (fun t => (t.smp.getD c none).isSome)

/-- C of the group: cycles in a full window. -/
def Grp.cyc (gr : Grp) : Nat := if gr.fnom = 0 then 10 else 12
/-- Points of a full window. -/
def Grp.points (gr : Grp) : Nat := 1024 * gr.cyc
/-- Whole cycles in a span. -/
def Grp.wholeCycles (gr : Grp) (a b : DevTime) : Nat := (gr.cycs.filter (fun c => decide (a ≤ c.a) && decide (c.b ≤ b))).length

/-- Change the first window that satisfies a test. -/
def updFirst (p : WinDone → Bool) (f : WinDone → WinDone) : List WinDone → List WinDone
  | [] => []
  | d :: l => if p d then f d :: l else d :: updFirst p f l

/-! ### Flicker (R186 to R188) -/

/-- Meters of a group that run: those whose channels run. -/
def State.meterMask (s : State) (g : Fin 2) : Nat :=
  let d := s.gb (SPEC_CFG_DELTA g)
  maskOf ((List.range 3).filter (fun m => (evNeeds d m).all (fun c => s.grp[g].mask.testBit c && !s.grp[g].fenced.testBit c)))

/-- The meters of a group start: their states are reset, and they settle for 120 s (R188). -/
def State.meterStart (s : State) (g : Fin 2) : State :=
  let m := s.meterMask g
  (s.setGrp g (fun gr => { gr with meters := Vector.replicate 3 {}, flk := gr.si })).sfs [(SPEC_STAT_FRUN g, m), (SPEC_STAT_FSETTLE g, m)]

/-- A meter whose channel was fenced no longer runs. -/
def State.meterSync (s : State) (g : Fin 2) : State :=
  let m := s.meterMask g
  if s.grp[g].spec then s.sfs [(SPEC_STAT_FRUN g, s.gf (SPEC_STAT_FRUN g) &&& m), (SPEC_STAT_FSETTLE g, s.gf (SPEC_STAT_FSETTLE g) &&& m)] else s

/-- The first 120 s of a group's meters have passed (R188). -/
def execFlickerSettleEnd (g : Fin 2) (s : State) : Host.Outcome State Fault Refusal :=
  .next (if s.isReady && s.grp[g].running then s.sf (SPEC_STAT_FSETTLE g) 0 else s)

/-- One step of a first-order low-pass with time constant `tau` in seconds at 2 kS/s, in its bilinear form (DESIGN CHOICE, log entry 69):
its last input and its output. -/
def lowStep (tau : Rat) (st : Rat × Rat) (x : Rat) : Rat × Rat :=
  (x, ((x + st.1) / 2000 + (2 * tau - 1 / 2000) * st.2) / (2 * tau + 1 / 2000))

/-- A meter takes a corrected sample; at 2 kS/s (`out`) its blocks 2 to 5 run and P_inst follows (R186). The squared input normalised to
a carrier of 0 is the free value `fr`. -/
def Meter.step (m : Meter) (lamp : Nat) (out : Bool) (y fr : Rat) : Meter :=
  let (dec, x) := Config.flickDecimate m.dec y
  if !out then { m with dec := dec }
  else
    let mean := lowStep (273 / 10) m.mean (x * x)
    let u := if mean.2 = 0 then fr else x * x / mean.2
    let (st, v) := Config.flickWeight lamp m.lamp u
    { m with dec := dec, mean := mean, lamp := st, sens := lowStep (3 / 10) m.sens (v * v) }

/-- The class of a P_inst: 512 a decade from 10^-4 on, the outer classes take what lies beyond (R187; log entry 69). -/
def flickClass (x : Rat) : Nat := if x ≤ pow10 (-4) then 0 else min 4095 ((log10Rat x + 4) * 512).floor.toNat

/-- The lower edge of a class. -/
def flickEdge (c : Nat) : Rat := exp10 ((c : Rat) / 512 - 4)

/-- The flickermeters take a group's sample (R186 to R188): those at group SIs that are multiples of 1/2000 s feed P_inst, those of
1/100 s the classifier (log entry 69). -/
def State.flickOne (s : State) (g : Fin 2) (t : Tick) : State :=
  let gr := s.grp[g]
  let dark := match gr.shadow with | some (i, _) => decide (i ≤ t.si) | none => false
  let out := decide (t.si % (3072 / gr.d) = 0)
  let cls := decide (t.si % (61440 / gr.d) = 0) && !dark
  let s1 := { s with free := s.free + 3 }
  s1.setGrp g (fun gr => { gr with meters := Vector.ofFn (fun (i : Fin 3) =>
    let m := gr.meters[i]
    let y := fun (c : Nat) => if h : c < 8 then s.corrected g t ⟨c, h⟩ else none
    let x := if s.gb (SPEC_CFG_DELTA g) then (match y i.val, y ((i.val + 1) % 3) with | some a, some b => some (a - b) | _, _ => none) else y i.val
    match x with
    | some x =>
      if !s.mbit (SPEC_STAT_FRUN g) i.val then m
      else
        let m := m.step (s.gf (SPEC_CFG_LAMP g)) out x (Config.freeRat (s.free + i.val))
        let m := if out then { m with top := m.top ++ [(t.t, m.sens.2)] } else m
        if cls && !s.mbit (SPEC_STAT_FSETTLE g) i.val then
          (let c := flickClass m.sens.2
           { m with cls := SMap.set (fun _ => 0) m.cls c (SMap.get (fun _ => 0) m.cls c + 1) })
        else m
    | none => m) })

/-- The meters take a group's samples below an SI. -/
def State.flickTo (s : State) (g : Fin 2) (lim : Nat) : State :=
  let gr := s.grp[g]
  if !gr.spec then s
  else
    let l := gr.ticks.filter (fun t => decide (gr.flk ≤ t.si) && decide (t.si < lim))
    (l.foldl (fun (s : State) t => s.flickOne g t) s).setGrp g (fun gr => { gr with flk := max gr.flk lim })

/-- The meters follow a group's ticks; the correction of a sample needs up to two later ones (R146). -/
def State.flickTick (s : State) (g : Fin 2) : State := s.flickTo g (s.grp[g].si - 3)

/-- Classified samples of a meter. -/
def Meter.count (m : Meter) : Nat := (m.cls.map Prod.snd).sum

/-- P_x: the level that x per cent of the classified samples exceed, interpolated within its class (R187); `left` is the number of
samples above it, `l` the classes from the highest down. -/
def pctLevel : Rat → List (Nat × Nat) → Rat
  | _, [] => 0
  | left, (c, k) :: l =>
    if left ≤ (k : Rat) then flickEdge (c + 1) - (flickEdge (c + 1) - flickEdge c) * left / (k : Rat) else pctLevel (left - (k : Rat)) l
def Meter.level (m : Meter) (x : Rat) : Rat := pctLevel ((m.count : Rat) * x / 100) m.cls.reverse

/-- Pst of a meter from its classes (R187, Table 8-2). -/
def Meter.pst (m : Meter) : Rat :=
  let avg := fun (l : List Rat) => meanRat (l.map m.level)
  sqrtRat (314 / 10000 * m.level (1 / 10) + 525 / 10000 * avg [7 / 10, 1, 3 / 2] + 657 / 10000 * avg [22 / 10, 3, 4] +
    28 / 100 * avg [6, 8, 10, 13, 17] + 8 / 100 * avg [30, 50, 80])

/-- The 10-min interval of the meters closes: Pst of each meter, defined from 30,000 classified samples on (R188). -/
def State.pstClose (s : State) (g : Fin 2) : State :=
  let s := s.flickTo g s.grp[g].si
  s.setGrp g (fun gr => { gr with
    psts := gr.psts ++ [gr.meters.toList.map (fun m => if 30000 ≤ m.count then some m.pst else none)]
    meters := gr.meters.map (fun m => { m with cls := [] }) })

/-! ### The HARM record (R182 to R185, R194, R314) -/

/-- The largest P_inst of a meter over a window. -/
def Meter.largest (m : Meter) (a b : DevTime) : Option Rat :=
  match (m.top.filter (fun e => decide (a ≤ e.1) && decide (e.1 < b))).map Prod.snd with
  | [] => none
  | x :: l => some (l.foldl max x)

/-- The spectrum of a full window, transformed with the settings of its group. -/
def State.winSpectrum (s : State) (g : Fin 2) (d : WinDone) : Spectrum :=
  let gr := s.grp[g]
  { dur := d.b - d.w.a, c := gr.cyc, fmax := profPass (gr.prof.getD gr.lead 2), rate := 6144000 / gr.d, pts := d.pts,
    integ := (List.range 8).map (fun c => if s.gf (AFE_CH_CFG_SENSOR (8 * g.val + c)) = 3 then
      some (if s.gf (AFE_CH_CFG_INTEG_FNOM (8 * g.val + c)) = 0 then 50 else 60) else none) }

/-- The HARM record of a window: transformed when it is full, else without values (R183). No slice computes it (R427), so that it is
never UNCOMPARED. -/
def State.harmRec (s : State) (g : Fin 2) (d : WinDone) : Rec × List (Nat × Rat) × State :=
  let gr := s.grp[g]
  let ts := gr.winTicks d
  let (si, n, ov) := gr.winSi d
  let ok := fun c => chanWhole ts c && !d.w.lostCh.testBit c
  let chs := bitsOf 8 d.w.mask
  let cycles := if d.short = 0 then gr.cyc else gr.wholeCycles d.w.a d.b
  let f1 : Rat := (cycles : Rat) * ((2 ^ 32 : Nat) : Rat) / ((d.b - d.w.a : Nat) : Rat)
  let head := fun (np : Nat) => leBytes 2 d.w.mask ++ leBytes 2 d.w.cal ++ leBytes 2 np ++ leBytes 2 (s.specOpts g) ++ leBytes 4 ov ++ zeros 4 ++ leBytes 8 d.b ++
    leBytes 4 (f32bits f1) ++ leBytes 4 (f32bits (profPass (gr.prof.getD gr.lead 2) : Rat))
  let flags := (d.w.flags - (d.w.flags &&& flUncompared)) ||| d.short ||| (if d.w.lostCh ≠ 0 then flPoison else 0)
  let (body, l, s) : List Byte × List (Nat × Rat) × State :=
    if d.short ≠ 0 then (head 0, [], s)
    else
      let sp := s.winSpectrum g d
      let (l, s) := s.specVals g sp ok
      let blocks := chs.flatMap (fun c => s.specBlock g l c (s.phaseWords g sp ok c))
      let pm := (fins 3).map (fun (m : Fin 3) => f32opt (gr.meters[m].largest d.w.a d.b))
      (head gr.points ++ (blocks ++ unbalWords l ++ msvWords l ++ pm).flatMap (leBytes 4), l, { s with free := s.free + 512 })
  ({ cls := clsSPC, src := srcGrp g, flags := flags, tStart := d.w.a, tEnd := d.tEnd, si := si, count := n,
     aux := 1 + 256 * b2n d.w.fhold + 512 * b2n d.w.fclamp, payload := body }, l, s)

/-- The start of the oldest window whose HARM record is outstanding orders the SPC ring (R196, R329). -/
def State.spcOpen (s : State) (g : Fin 2) : State :=
  let gr := s.grp[g]
  let l := (gr.wdone.filter (fun d => d.spec.isNone)).map (fun d => d.w.a) ++ gr.wins.map Window.a
  s.setOpen clsSPC 0 (srcGrp g) (if gr.spec then l.head? else none)

/-- The oldest outstanding window of a group gives its HARM record; the signalling values go to the event engine. -/
def State.harmDone (s : State) (g : Fin 2) : State :=
  match s.grp[g].wdone.find? (fun d => d.spec.isNone) with
  | none => s
  | some d =>
    let s := s.flickTo g (match s.grp[g].ticks.find? (fun t => decide (d.b ≤ t.t)) with | some t => t.si | none => s.grp[g].si)
    let (r, l, s) := s.harmRec g d
    let s := s.setGrp g (fun gr =>
      let gr := { gr with wdone := updFirst (fun d => d.spec.isNone) (fun d => { d with spec := some l, pts := [] }) gr.wdone }
      let low := ((gr.wdone.filter (fun d => d.spec.isNone)).map (fun d => d.w.a) ++ gr.wins.map Window.a).headD d.b
      { gr with meters := gr.meters.map (fun m => { m with top := m.top.filter (fun e => decide (low ≤ e.1)) }) })
    let s := (s.spcOpen g).incWrap (SPEC_STAT_WINDOWS g) 1
    let s := s.emit r
    let last1 := match (s.grp[g].winTicks d).getLast? with | some t => t.si + 1 | none => s.grp[g].si
    if d.short ≠ 0 then s
    else ((List.range 4).foldl (fun (s : State) k =>
      s.msvStep g k d.b last1 ((List.range 3).map (fun p => (vget l (vkey 0x22 p k)).map sqrtRat))) s).evStat g

/-- Complete every outstanding HARM record of a group. -/
def State.harmFlush (s : State) (g : Fin 2) : State :=
  (s.grp[g].wdone.filter (fun d => d.spec.isNone)).foldl (fun (s : State) _ => s.harmDone g) s

/-! ### Banks (R197, R385) -/

/-- KiB that a group needs: 120 or 144 per running channel. -/
def State.specNeedGrp (s : State) (g : Fin 2) : Nat := (if s.grp[g].fnom = 0 then 120 else 144) * (bitsOf 8 s.grp[g].mask).length

/-- KiB needed by the sources that the engine processes, with the fixed 320. -/
def State.specNeed (s : State) : Nat :=
  let n := ((fins 2).map (fun (g : Fin 2) => if s.grp[g].spec then s.specNeedGrp g else 0)).sum + 40 * (bitsOf 8 s.supraOn).length
  if n = 0 then 0 else n + 320

/-- KiB in healthy banks owned by SPEC. -/
def State.specHave (s : State) : Nat := 256 * ((List.range 64).filter (fun b => decide (s.gf (BANK_OWNER_OWNER b) = 2) && s.bankOn b)).length

/-- SPEC has no source: its banks may leave (Table 16-2). -/
def State.specIdle (s : State) : Bool := !s.grp[(0 : Fin 2)].spec && !s.grp[(1 : Fin 2)].spec && decide (s.supraOn = 0)

/-- Room for one more source of `need` KiB. -/
def State.specRoom (s : State) (need : Nat) : Bool :=
  decide ((if s.specNeed = 0 then 320 else s.specNeed) + need ≤ s.specHave)

/-- The NOBANK bit of a group. -/
def nobank (g : Fin 2) : Fld := if g = 0 then SPEC_ERR_NOBANK_A else SPEC_ERR_NOBANK_B

/-- The first SI that the SPC stream of a group has not covered. -/
def State.spcSi (s : State) (g : Fin 2) : Nat :=
  let gr := s.grp[g]
  match (gr.wdone.filter (fun d => d.spec.isNone)).map (fun d => d.w.a) ++ gr.wins.map Window.a with
  | a :: _ => (match gr.ticks.find? (fun t => decide (a ≤ t.t)) with | some t => t.si | none => gr.si)
  | [] => gr.si

/-- The engine stops processing a group: a gap of this cause covers its SPC stream from here on. -/
def State.specDrop (s : State) (g : Fin 2) (cause : Nat) : State :=
  let si := s.spcSi g
  let s := s.setGrp g (fun gr => { gr with spec := false, specGap := some (cause, si), wdone := gr.wdone.map (fun d => { d with spec := some (d.spec.getD []) }) })
  (s.sfs [(nobank g, 1), (SPEC_STAT_RUN g, 0), (SPEC_STAT_FRUN g, 0), (SPEC_STAT_FSETTLE g, 0)]).spcOpen g

/-- The gap that covers a group's SPC stream up to one before SI `last1` (R78, R197). -/
def State.specGapOut (s : State) (g : Fin 2) (last1 flags : Nat) : State :=
  match s.grp[g].specGap with
  | none => s
  | some (cause, si) =>
    let s1 := s.setGrp g (fun gr => { gr with specGap := some (cause, max si last1) })
    if last1 ≤ si then s1
    else
      let r := gapRec clsSPC (srcGrp g) { cause := cause, tStart := s.grT g si, tEnd := s.grTEnd g si (last1 - si), si := si % 2 ^ 48, count := last1 - si }
      s1.emit { r with flags := r.flags ||| flags }

/-- START of a group decides whether the engine processes it (R173, R197). -/
def State.specStart (s : State) (g : Fin 2) : State :=
  let s := s.setGrp g (fun gr => { gr with spec := false, specGap := none, meters := Vector.replicate 3 {}, psts := [] })
  let s := s.sfs [(SPEC_STAT_RUN g, 0), (SPEC_STAT_FRUN g, 0), (SPEC_STAT_FSETTLE g, 0), (SPEC_STAT_WINDOWS g, 0)]
  if !s.gb (SPEC_CFG_EN g) || s.grp[g].monitor then s
  else if s.specRoom (s.specNeedGrp g) then
    ((s.setGrp g (fun gr => { gr with spec := true })).sf (SPEC_STAT_RUN g) 1).meterStart g
  else (s.setGrp g (fun gr => { gr with specGap := some (gapStopped, gr.si) })).sf (nobank g) 1

/-- A SPEC bank is fenced (R385): which windows used it is not said, so a free bit for each group says whether its
outstanding windows did; then sources stop until what is left suffices: MGB before MGA. Supraharmonic inputs stop first; the
inputs to stop are answered, from T7 downwards. -/
def State.specBankLost (s : State) (_b : Nat) : State :=
  let s := (fins 2).foldl (fun (s : State) (g : Fin 2) =>
    let (hit, s) := s.drawBool
    if hit && s.grp[g].spec then s.setGrp g (fun gr =>
      { gr with
        wins := gr.wins.map (fun w => { w with lostCh := 255 })
        wdone := gr.wdone.map (fun d => if d.spec.isNone then { d with w := { d.w with lostCh := 255 } } else d) })
    else s) s
  let s := [7, 6, 5, 4, 3, 2, 1, 0].foldl (fun (s : State) n =>
    if s.specHave < s.specNeed ∧ s.supraOn.testBit n then ({ s with supraOn := s.supraOn ^^^ 2 ^ n }).sf SPEC_ERR_NOBANK_T 1 else s) s
  [(1 : Fin 2), 0].foldl (fun (s : State) (g : Fin 2) => if s.specHave < s.specNeed ∧ s.grp[g].spec then s.specDrop g gapFenced else s) s

/-! ### Registers (R199) -/

/-- A write of SPEC_CFGg. -/
def State.wrSpecCfg (s : State) (p : Port) (g : Fin 2) (v : Word) : State :=
  let w := v.toNat % 128
  let old := s.gf (SPEC_CFG_EN g) + 2 * s.gf (SPEC_CFG_GROUPS g) + 4 * s.gf (SPEC_CFG_PHASE g) + 8 * s.gf (SPEC_CFG_BANDS g) +
    16 * s.gf (SPEC_CFG_THD50 g) + 32 * s.gf (SPEC_CFG_LAMP g) + 64 * s.gf (SPEC_CFG_DELTA g)
  if s.grpFused g then s
  else s.rws p (0xC00 + 4 * g.val) v 0 (decide (w ≠ old)) id (fun s =>
    if s.grp[g].running then (false, s.sf SPEC_ERR_CFG_RUNNING 1)
    else (true, s.sfs [(SPEC_CFG_EN g, w), (SPEC_CFG_GROUPS g, w / 2), (SPEC_CFG_PHASE g, w / 4), (SPEC_CFG_BANDS g, w / 8),
      (SPEC_CFG_THD50 g, w / 16), (SPEC_CFG_LAMP g, w / 32), (SPEC_CFG_DELTA g, w / 64)]))

/-- A write of MSV_Fg_k: a frequency outside 5 to 9000 Hz is ignored. -/
def State.wrMsv (s : State) (p : Port) (g : Fin 2) (k : Nat) (v : Word) : State :=
  let f := v.toNat % 2 ^ 22
  let en := v.toNat / 2 ^ 31
  let i := 4 * g.val + k
  if s.grpFused g then s
  else s.rws p (0xC20 + 4 * i) v 0 (decide (f ≠ s.gf (MSV_F_F i)) || decide (en ≠ s.gf (MSV_F_EN i))) id (fun s =>
    let running := s.grp[g].running
    let bad := decide (f < 5 * 256) || decide (9000 * 256 < f)
    if running || bad then
      let s := if running then s.sf SPEC_ERR_CFG_RUNNING 1 else s
      (false, if bad then s.sf SPEC_ERR_CFG_INVALID 1 else s)
    else (true, s.sfs [(MSV_F_F i, f), (MSV_F_EN i, en)]))

end Sys2Proof.Machine
end

