-- ==== Sys2Proof/Machine/Interval.lean ====
section
/-! DEFINITION. Cycle intervals and aggregation (chapters 7 and 10): the CYC record, and the short, 10-min and 2-h levels. -/

namespace Sys2Proof.Machine

/-! ### Values of a cycle interval (R151, R152) -/

/-- The weighted mean of a component of a phase's fundamental over the cycles that overlap an interval, each cycle weighted
by its samples in the interval (R151). -/
def Grp.cycMean (gr : Grp) (ts : List Tick) (p : Fin 3) (f : Phasor → Rat) : Rat :=
  let l := gr.cycs.map (fun c => (f (c.ph.getD p {}), (ts.filter (fun t => decide (c.a ≤ t.t) && decide (t.t < c.b))).length))
  let n := (l.map Prod.snd).sum
  if n = 0 then 0 else (l.map (fun x => x.1 * (x.2 : Rat))).sum / (n : Rat)

/-- The quantities of a cycle interval: `u2`, `i2` mean squares, `p`, `q`, `p1`, `vi` by phase, measured mask, suppressed
mask (bit 3 the total). -/
structure CycQ where
  meas : Nat
  creep : Nat
  s : List Rat
  p : List Rat
  q : List Rat
  p1 : List Rat
  vi : List Rat
  ue : Option Rat
  ie : Option Rat
  sTot : Option Rat

/-- A sum over the phases of a mask. -/
def sumPh (m : Nat) (l : List Rat) : Rat := ((bitsOf 3 m).map (fun p => l.getD p 0)).sum

/-- The quantities of a window's ticks. -/
def State.cycQ (s : State) (g : Fin 2) (a b : DevTime) (ts : List Tick) : CycQ :=
  let gr := s.grp[g]
  let meas := mask3 (fun p => chanWhole ts (vCh p) && chanWhole ts (iCh p))
  let ovl := gr.cycs.filter (fun c => decide (c.a < b) && decide (a < c.b))
  let creep := ovl.foldl (fun m c => m ||| c.creep) 0
  let ph : List (Fin 3) := [0, 1, 2]
  let sl := ph.map (fun p => sqrtRat ((s.meanSq g ts (vCh p)).getD 0 * (s.meanSq g ts (iCh p)).getD 0))
  let pl := ph.map (fun p => let l := s.products g ts p; if l.isEmpty then 0 else meanRat (l.map Prod.fst))
  let eff := s.effSq g ts
  let uOk := (bitsOf 3 gr.mask).all (chanWhole ts)
  let iOk := (bitsOf 3 (gr.mask / 16)).all (fun p => chanWhole ts (4 + p)) && (!chanHeld ts 7 || chanWhole ts 7)
  let se := 3 * sqrtRat (eff.1 * eff.2)
  { meas := meas, creep := creep, s := sl, p := pl, q := ph.map (fun p => gr.cycMean ts p Phasor.q1), p1 := ph.map (fun p => gr.cycMean ts p Phasor.p1),
    vi := ph.map (fun p => gr.cycMean ts p Phasor.vi), ue := if uOk then some eff.1 else none, ie := if iOk then some eff.2 else none,
    sTot := if gr.smode = 1 then (if uOk && iOk && !s.gb (MET_STAT_STOT_LOST g) then some se else none) else (if meas = 0 then none else some (sumPh meas sl)) }

/-- A power factor: not defined at a zero denominator or when suppressed. -/
def pfOf (sup : Bool) (n d : Rat) : Option Rat := if sup || d = 0 then none else some (n / d)

/-- |x + jy|. -/
def hypot (x y : Rat) : Rat := sqrtRat (x * x + y * y)

/-- The values that a cycle interval passes to the aggregation engine (Table 10-2). -/
def State.cycVals (s : State) (g : Fin 2) (ts : List Tick) (q : CycQ) : List (Nat × Rat) :=
  let opt := fun (k : Nat) (v : Option Rat) => match v with | some x => [(k, x)] | none => []
  let ph := bitsOf 3 q.meas
  (fins 8).flatMap (fun (c : Fin 8) => opt (vkey 0 c 0) (s.meanSq g ts c)) ++
  opt (vkey 1 0 0) (s.meanSqDiff g ts 0 1) ++ opt (vkey 1 1 0) (s.meanSqDiff g ts 1 2) ++ opt (vkey 1 2 0) (s.meanSqDiff g ts 2 0) ++
  opt (vkey 2 0 0) (s.meanSqNc g ts) ++
  ph.flatMap (fun p => [(vkey 3 p 0, q.p.getD p 0), (vkey 4 p 0, q.q.getD p 0), (vkey 5 p 0, q.s.getD p 0), (vkey 8 p 0, q.p1.getD p 0)]) ++
  (if q.meas = 0 then [] else [(vkey 3 3 0, sumPh q.meas q.p), (vkey 4 3 0, sumPh q.meas q.q), (vkey 8 3 0, sumPh q.meas q.p1)]) ++
  opt (vkey 5 3 0) q.sTot

/-! ### The CYC record (R152, R224, R226, R312) -/

/-- The CYC payload. -/
def State.cycPayload (s : State) (g : Fin 2) (d : WinDone) (ts : List Tick) (cycles ov : Nat) (chmask : Nat) (q : CycQ) : List Byte :=
  let v := s.cycVals g ts q
  let dur := d.b - d.w.a
  let f1 : Rat := (cycles : Rat) * ((2 ^ 32 : Nat) : Rat) / (dur : Rat)
  let sup := fun p => q.creep.testBit p
  let pf := fun p => pfOf (sup p) (q.p.getD p 0) (q.s.getD p 0)
  let dpf := fun p => pfOf (sup p) (q.p1.getD p 0) (q.vi.getD p 0)
  let pT := sumPh q.meas q.p
  let qT := sumPh q.meas q.q
  let p1T := sumPh q.meas q.p1
  let sA := sumPh q.meas q.s
  let pfT := match q.sTot with | some x => pfOf (sup 3) pT x | none => none
  let dpfT := pfOf (sup 3) p1T (hypot p1T qT)
  let bit := fun (o : Option Rat) (i : Nat) (on : Bool) => if on && o.isNone then 2 ^ i else 0
  let pfnd := ((List.range 3).map (fun p => bit (pf p) p true + bit (dpf p) (p + 4) true)).sum + bit pfT 3 true + bit dpfT 7 true
  let sq := fun (o : Option Rat) => match o with | some x => f32sqrt x | none => nan32
  let m := fun (on : Bool) (x : Rat) => if on then f32bits x else nan32
  let pw := fun (o : Option Rat) => match o with | some x => f32bits x | none => 0
  let phW := (List.range 3).flatMap (fun p =>
    let on := q.meas.testBit p
    let sp := q.s.getD p 0
    let pp := q.p.getD p 0
    [m on pp, m on (q.q.getD p 0), m on (q.p1.getD p 0), m on sp, m on (sqrtRat (max 0 (sp * sp - pp * pp))), pw (pf p), pw (dpf p), 0])
  let se := match q.ue, q.ie with | some u, some i => f32bits (3 * sqrtRat (u * i)) | _, _ => nan32
  let n := match q.sTot with | some x => f32bits (sqrtRat (max 0 (x * x - pT * pT))) | none => nan32
  let tot := [f32bits pT, f32bits qT, f32bits p1T, f32bits sA, se, f32opt q.sTot, n, pw pfT, pw dpfT, sq q.ue, sq q.ie, 0]
  let rms := (List.range 8).map (fun c => vbits v 0 c 0) ++ [vbits v 1 0 0, vbits v 1 1 0, vbits v 1 2 0, vbits v 2 0 0]
  leBytes 2 chmask ++ leBytes 2 d.w.cal ++ leBytes 1 (q.meas + 8 * b2n q.sTot.isSome) ++ leBytes 1 pfnd ++ leBytes 1 q.creep ++ [0] ++
    leBytes 4 ov ++ zeros 4 ++ leBytes 8 d.b ++ leBytes 4 (f32bits f1) ++ zeros 4 ++ (rms ++ phW ++ tot).flatMap (leBytes 4)

/-- The CYC record of a window that has ended, and what the aggregation engine takes from it. -/
def State.cycRec (s : State) (g : Fin 2) (d : WinDone) : Rec × Civ :=
  let gr := s.grp[g]
  let ts := gr.winTicks d
  let (si, n, ov) := gr.winSi d
  let q := s.cycQ g d.w.a d.b ts
  let chmask := maskOf ((List.range 8).filter (chanWhole ts))
  let cycles := if d.short = 0 then gr.cyc else gr.wholeCycles d.w.a d.b
  let rp := s.replayed g d.w.a d.b || (gr.cycs.filter (fun c => decide (c.a < d.b) && decide (d.w.a < c.b))).any (fun c => s.replayed g c.a c.b)
  let flags := d.w.flags ||| d.short ||| (if gr.ev.flagged d.w.a d.b then flFlagged else 0) ||| (if rp then flReplayed else 0)
  ({ cls := clsCYC, src := srcGrp g, flags := flags, tStart := d.w.a, tEnd := d.tEnd, si := si % 2 ^ 48, count := n,
     aux := 1 + 256 * b2n d.w.fhold + 512 * b2n d.w.fclamp + 2048 * b2n (ov != 0) + 65536 * cycles,
     payload := s.cycPayload g d ts cycles ov chmask q },
   { si := si, n := n, ovr := ov, flags := flags, chmask := chmask, vals := s.cycVals g ts q })

/-! ### Levels (R222 to R232) -/

/-- Lengths of the 10-min and the 2-h interval in 2^-32 s. -/
def tenMin : Nat := 600 * 2 ^ 32
def twoHour : Nat := 7200 * 2 ^ 32

/-- Change a level of a group. -/
def State.setLvl (s : State) (g : Fin 2) (l : Fin 3) (f : Lvl → Lvl) : State := s.setGrp g (fun gr => { gr with lvls := gr.lvls.set l (f gr.lvls[l]) })

/-- Add a weighted value to a level's running sums. -/
def sumAdd (l : Lvl) (k : Nat) (x w : Rat) : Lvl :=
  { l with
    sum := SMap.set (fun _ => 0) l.sum k (SMap.get (fun _ => 0) l.sum k + x * w)
    wt := SMap.set (fun _ => 0) l.wt k (SMap.get (fun _ => 0) l.wt k + w) }

/-- Kinds that are aggregated from their constituents: the RMS kinds and the mean kinds. -/
def aggKind (kind : Nat) : Bool := isRms kind || [3, 4, 5, 8, 0x10].contains kind

/-- A constituent: its bounds, SI range, true end, flags, AUX bits, CAL_ID, channels, NC by channel, values. -/
structure Part where
  a : DevTime
  t0 : DevTime
  si : Nat
  n : Nat
  ovr : Nat
  wend : DevTime
  flags : Nat
  aux : Nat
  cal : Nat
  chmask : Nat
  nc : List Nat
  vals : List (Nat × Rat)

/-- The nominal start of a level's interval that holds an instant; for the short level the instant. -/
def nomStart (l : Nat) (t : DevTime) : DevTime := if l = 0 then t else if l = 1 then t / tenMin * tenMin else t / twoHour * twoHour

/-- Open a level with a constituent: nominal bounds, or the first sample's instant when a record of these bounds has left
(R229, R230). -/
def Lvl.start (l : Lvl) (lvl : Nat) (p : Part) : Lvl :=
  let nom := nomStart lvl p.a
  let again := lvl != 0 && l.lastNom == nom + 1
  { isOpen := true, a := if again then p.t0 else nom, t0 := p.t0, e := if lvl = 0 then 0 else nom + (if lvl = 1 then tenMin else twoHour), si := p.si,
    cal := p.cal, lastNom := l.lastNom, flags := if again then flPartial else 0 }

/-- Take a constituent into a level (R227, R228, R232). -/
def Lvl.add (l : Lvl) (p : Part) : Lvl :=
  let w : Nat → Rat := fun k => if isRms (k / 65536) then 1 else ((p.n + p.ovr : Nat) : Rat)
  let l := (p.vals.filter (fun e => aggKind (e.1 / 65536))).foldl (fun (l : Lvl) e => sumAdd l e.1 e.2 (w e.1)) l
  { l with
    n := l.n + p.n
    ovr := p.ovr
    wend := p.wend
    cnt := l.cnt + 1
    flags := l.flags ||| p.flags
    aux := l.aux ||| p.aux ||| (if l.cnt ≠ 0 ∧ l.cal ≠ p.cal then 0x400 else 0)
    cal := p.cal
    chmask := l.chmask ||| p.chmask
    nc := (List.range 8).map (fun c => l.nc.getD c 0 + p.nc.getD c 0) }

/-- The aggregated values of a level: means of the running sums, then the derived values. -/
def State.lvlVals (s : State) (g : Fin 2) (l : Lvl) : List (Nat × Rat) :=
  let base := (l.wt.filter (fun e => !l.dead.contains e.1)).map (fun e => (e.1, if e.2 = 0 then 0 else SMap.get (fun _ => 0) l.sum e.1 / e.2))
  let pf := (List.range 4).flatMap (fun p =>
    (match vget base (vkey 3 p 0), vget base (vkey 5 p 0) with
     | some x, some y => if y = 0 then [] else [(vkey 6 p 0, x / y)]
     | _, _ => []) ++
    (match vget base (vkey 8 p 0), vget base (vkey 4 p 0) with
     | some x, some y => (let h := hypot x y; if h = 0 then [] else [(vkey 7 p 0, x / h)])
     | _, _ => []))
  base ++ pf ++ s.specDerived g base

/-- The group AGG payload (R313): `fl` the Pst or Plt of the three meters, `fn` the n of each Plt. -/
def State.aggPayload (s : State) (g : Fin 2) (l : Lvl) (v : List (Nat × Rat)) (fl : List (Option Rat)) (fn : List Nat) : List Byte :=
  let blk := (bitsOf 8 l.chmask).flatMap (fun c => [l.nc.getD c 0, vbits v 0 c 0] ++ s.specBlock g v c (List.replicate 50 nan32))
  let nblk := 2 + (s.specBlock g v 0 (List.replicate 50 nan32)).length
  let pw := (List.range 3).flatMap (fun p => [3, 4, 5, 6, 7].map (fun k => vbits v k p 0)) ++ [3, 4, 5, 6, 7].map (fun k => vbits v k 3 0)
  let grpW := [vbits v 1 0 0, vbits v 1 1 0, vbits v 1 2 0, vbits v 2 0 0] ++ pw ++ unbalWords v ++ msvWords v ++
    (List.range 3).map (fun m => f32opt (fl.getD m none)) ++ (List.range 3).map (fun m => fn.getD m 0)
  leBytes 2 l.chmask ++ leBytes 2 l.cal ++ leBytes 2 (s.specOpts g) ++ leBytes 2 nblk ++ leBytes 4 l.ovr ++ zeros 4 ++ leBytes 8 l.wend ++
    (blk ++ grpW).flatMap (leBytes 4)

/-- QIDs and binary32 bits of an aggregate's values (R235). -/
def aggQids (g : Fin 2) (v : List (Nat × Rat)) (extra : List (Nat × Rat)) : List (Nat × Nat) :=
  ((v.filter (fun e => decide (e.1 / 65536 ≠ 8))).map (fun e => (2 ^ 23 * g.val + e.1, if isRms (e.1 / 65536) then f32sqrt e.2 else f32bits e.2))) ++
    extra.map (fun e => (2 ^ 23 * g.val + e.1, f32bits e.2))

/-- A level closes at an instant with the flags of what closes it: its AGG record, and its values for the level above. -/
def State.lvlClose (s : State) (g : Fin 2) (lv : Fin 3) (tEnd : DevTime) (flags : Nat) (fl : List (Option Rat)) (fn : List Nat) : State :=
  let l := s.grp[g].lvls[lv]
  let v := s.lvlVals g l
  let kind := lv.val + 1
  let fls := l.flags ||| flags
  let extra := (List.range 3).flatMap (fun m => match fl.getD m none with | some x => [(vkey (0x30 + lv.val) m 0, x)] | none => [])
  let tE := if lv.val = 0 then tEnd else l.e
  let r : Rec := { cls := clsAGG, src := srcGrp g, flags := fls, tStart := l.a, tEnd := tE, si := l.si % 2 ^ 48, count := l.n,
                   aux := kind + l.aux + 2048 * b2n (l.ovr != 0) + 65536 * min l.cnt 65535, payload := s.aggPayload g l v fl fn, vals := aggQids g v extra }
  let nom := nomStart lv.val l.a
  let s := s.setLvl g lv (fun _ => { lastNom := if (s.carrier clsAGG (srcGrp g) lv.val).isSome then nom + 1 else l.lastNom })
  s.emitL lv.val r

/-- Take a constituent into a level, opening it when it is not open. -/
def State.lvlAdd (s : State) (g : Fin 2) (lv : Fin 3) (p : Part) : State :=
  s.setLvl g lv (fun l => (if l.isOpen then l else l.start lv.val p).add p)

/-- A level's values as a constituent of the 2-h level. -/
def State.lvlPart (s : State) (g : Fin 2) (l : Lvl) (flags : Nat) : Part :=
  { a := l.a, t0 := l.t0, si := l.si, n := l.n, ovr := l.ovr, wend := l.wend, flags := l.flags ||| flags, aux := l.aux, cal := l.cal, chmask := l.chmask,
    nc := l.nc, vals := (s.lvlVals g l).filter (fun e => aggKind (e.1 / 65536)) }

/-- The keys under which the 2-h level sums Pst³ of the meters. -/
def pltKey (m : Nat) : Nat := vkey 0x31 m 0

/-- The 10-min value closes: its Pst, its record, and its part in the 2-h level. -/
def State.tenClose (s : State) (g : Fin 2) (tEnd : DevTime) (flags : Nat) : State :=
  let l := s.grp[g].lvls[(1 : Fin 3)]
  if !l.isOpen then s
  else
    let pst := s.grp[g].psts.headD [none, none, none]
    let s := s.setGrp g (fun gr => { gr with psts := gr.psts.tail })
    let p := s.lvlPart g l flags
    let s := s.lvlClose g 1 tEnd flags pst [0, 0, 0]
    let s := s.lvlAdd g 2 p
    s.setLvl g 2 (fun l => (List.range 3).foldl (fun (l : Lvl) m => match pst.getD m none with
      | some x => sumAdd l (pltKey m) (x * x * x) 1
      | none => l) l)

/-- The 2-h value closes with Plt and its n (R188). -/
def State.twoClose (s : State) (g : Fin 2) (tEnd : DevTime) (flags : Nat) : State :=
  let l := s.grp[g].lvls[(2 : Fin 3)]
  if !l.isOpen then s
  else
    let ns := (List.range 3).map (fun m => (SMap.get (fun _ => 0) l.wt (pltKey m)).num.natAbs)
    let plt := (List.range 3).map (fun m => if ns.getD m 0 = 0 then none
      else some (cbrtRat (SMap.get (fun _ => 0) l.sum (pltKey m) / ((ns.getD m 0 : Nat) : Rat))))
    let drop := fun (x : SMap Rat) => x.filter (fun e => decide (e.1 / 65536 ≠ 0x31))
    let s := s.setLvl g 2 (fun l => { l with sum := drop l.sum, wt := drop l.wt })
    s.lvlClose g 2 tEnd flags plt ns

/-- The short value closes. -/
def State.shortClose (s : State) (g : Fin 2) (tEnd : DevTime) (flags : Nat) : State :=
  if s.grp[g].lvls[(0 : Fin 3)].isOpen then s.lvlClose g 0 tEnd flags [none, none, none] [0, 0, 0] else s

/-- The 10-min tick at which a window's interval ends: the tick that cuts it, or its own end when that is a tick. -/
def WinDone.tickEnd (d : WinDone) : Option DevTime :=
  match d.w.tick with
  | some t => some t
  | none => if d.b % tenMin = 0 ∧ d.short = 0 then some d.b else none

/-- A window whose CYC and HARM parts are complete enters the levels (R225 to R227). -/
def State.aggTake (s : State) (g : Fin 2) (d : WinDone) (c : Civ) (spec : List (Nat × Rat)) : State :=
  if !s.grp[g].agg || c.n = 0 then s
  else
    let p : Part := { a := d.w.a, t0 := s.grT g c.si, si := c.si, n := c.n, ovr := c.ovr, wend := d.b, flags := c.flags, aux := 256 * b2n d.w.fhold + 512 * b2n d.w.fclamp,
                      cal := d.w.cal, chmask := d.w.mask, nc := (List.range 8).map (fun i => b2n (c.chmask.testBit i)), vals := c.vals ++ spec }
    let s := (s.lvlAdd g 0 p).lvlAdd g 1 p
    match d.tickEnd with
    | some t =>
      let s := (s.shortClose g t 0).tenClose g t 0
      if t % twoHour = 0 then s.twoClose g t 0 else s
    | none => if 15 ≤ s.grp[g].lvls[(0 : Fin 3)].cnt then s.shortClose g d.b 0 else s

/-- The starts of what a group still has to form order its CYC and AGG rings (R223, R329). -/
def State.aggOpen (s : State) (g : Fin 2) : State :=
  let gr := s.grp[g]
  let gr := if gr.lost then { gr with wdone := [], wins := [], agg := false } else gr
  let cyc := (gr.wdone.filter (fun d => d.civ.isNone)).map (fun d => d.w.a) ++ gr.wins.map Window.a
  let next := (gr.wdone.map (fun d => d.w.a) ++ gr.wins.map Window.a).head?
  let s := s.setOpen clsCYC 0 (srcGrp g) cyc.head?
  let lv := fun (s : State) (l : Fin 3) =>
    let x := s.grp[g].lvls[l]
    let t : Option DevTime := if !gr.agg then none else if x.isOpen then some x.a else next.map (fun a => nomStart l.val a)
    s.setOpen clsAGG l.val (srcGrp g) t
  lv (lv (lv s 0) 1) 2

/-- Every window at the front whose two parts are complete is aggregated, at most `fuel`. -/
def State.aggFeedGo (g : Fin 2) : Nat → State → State
  | 0, s => s
  | k + 1, s =>
    match s.grp[g].wdone with
    | d :: l =>
      (match d.civ, d.spec with
       | some c, some v => State.aggFeedGo g k ((s.setGrp g (fun gr => { gr with wdone := l })).aggTake g d c v)
       | _, _ => s)
    | [] => s

/-- Ticks, cycles, sets of constants and event spans that no outstanding window, half-cycle, cycle or flickermeter needs are dropped; two
more ticks stay for the correction of the next. -/
def State.prune (s : State) (g : Fin 2) : State :=
  let gr := s.grp[g]
  let low := (gr.cycA :: (gr.f10A.toList ++ gr.halves.drop 1 ++ gr.wins.map Window.a ++ gr.wdone.map (fun d => d.w.a))).foldl min gr.cycA
  let si := match gr.ticks.find? (fun t => decide (low ≤ t.t)) with | some t => t.si | none => gr.si
  let si := if gr.spec then min si gr.flk else si
  (s.dropTicks g (si - 2)).setGrp g (fun gr =>
    let si := match gr.ticks with | t :: _ => t.si | [] => gr.si
    { gr with
      gone := gr.gone.filter (fun r => decide (si < r.1 + r.2))
      cycs := gr.cycs.filter (fun c => decide (low < c.b))
      calOld := gr.calOld.filter (fun e => decide (si < e.1))
      ev := { gr.ev with spans := gr.ev.spans.filter (fun sp => match sp.2.2 with | none => true | some t => decide (low < t)) } })

/-- Feed the levels, order the rings, place what may be placed. -/
def State.aggFeed (s : State) (g : Fin 2) : State := (((State.aggFeedGo g s.grp[g].wdone.length s).aggOpen g).prune g).release

/-- The first window of a group without a CYC record gives one; the SMP pieces of its range are released (R310). -/
def State.cycDone (s : State) (g : Fin 2) : State :=
  match s.grp[g].wdone.find? (fun d => d.civ.isNone) with
  | none => s
  | some d =>
    let (r, c) := s.cycRec g d
    let s := s.setGrp g (fun gr => { gr with wdone := updFirst (fun d => d.civ.isNone) (fun d => { d with civ := some c }) gr.wdone })
    let s := s.aggOpen g
    let s := if c.n = 0 then s else s.emit r
    (bitsOf 8 s.grp[g].mask).foldl (fun (s : State) i =>
      if h : i < 8 then s.smpRelease (chanOf g ⟨i, h⟩) (some d.tEnd) (r.flags &&& (flFlagged ||| flReplayed)) else s) s

/-- Form every outstanding CYC record of a group. -/
def State.cycFlush (s : State) (g : Fin 2) : State :=
  (List.range (s.grp[g].wdone.filter (fun d => d.civ.isNone)).length).foldl (fun (s : State) _ => s.cycDone g) s

/-- A cycle interval closes: the last cycle that overlaps its window is complete and the event engine has decided every
half-cycle value before its end (R224). -/
def execCycleIntervalClose (g : Fin 2) (s : State) : Host.Outcome State Fault Refusal :=
  .next (match s.grp[g].wdone.find? (fun d => d.civ.isNone) with
    | some d =>
      if s.isReady && !s.switching && decide (d.b ≤ s.grp[g].cycA) && decide (d.b ≤ s.grp[g].halves.headD 0) then (s.cycDone g).aggFeed g else s
    | none => s)

/-- The spectral engine completes the transform of a group's oldest outstanding window. -/
def execHarmRecordComplete (g : Fin 2) (s : State) : Host.Outcome State Fault Refusal :=
  .next (if s.isReady && !s.wedged 2 && s.grp[g].spec && s.grp[g].wdone.any (fun d => d.spec.isNone) then (s.harmDone g).aggFeed g else s)

/-! ### Windows (R140, R141) -/

/-- RSMP_STATg shows the running windows. -/
def State.rsmpStat (s : State) (g : Fin 2) : State :=
  let w := s.grp[g].wins
  s.sfs [(RSMP_STAT_OVERLAP g, b2n (decide (2 ≤ w.length))), (RSMP_STAT_FHOLD g, b2n (w.any Window.fhold)), (RSMP_STAT_FCLAMP g, b2n (w.any Window.fclamp)),
    (if g = 0 then AGG_STAT_OVL_A else AGG_STAT_OVL_B, b2n (decide (2 ≤ w.length)))]

/-- The tracker is not LOCKED, or clamped, now: the running windows note it. -/
def State.winNote (s : State) (g : Fin 2) : State :=
  let hold := decide (s.gf (FREQ_STAT_STATE g) ≠ 3)
  let cl := s.gb (FREQ_STAT_OUTRANGE g)
  (s.setGrp g (fun gr => { gr with wins := gr.wins.map (fun w => { w with fhold := w.fhold || hold, fclamp := w.fclamp || cl }) })).rsmpStat g

/-- The flags that content computed now carries: UNCOMPARED while no checker runs (Table 13-2). -/
def State.sliceFlags (s : State) : Nat := if s.gb SLICE_STAT_UNCOMPARED then flUncompared else 0

/-- A window of a group opens (R140); waiting commits take effect at its first sample when no other window is open (R162).
None opens in a shadow span (R134). -/
def State.winOpen (s : State) (g : Fin 2) (a : DevTime) (flags : Nat) : State :=
  let gr := s.grp[g]
  if gr.shadow.isSome || gr.monitor then s
  else
    let k := if gr.wins.isEmpty then s.calReady g else 0
    let s := if k = 0 then s else s.setGrp g (fun gr => { gr with calAt := some (a, k) })
    let cal := match (s.met.calPend[g].take k).getLast? with | some c => c.id | none => s.met.actId[g]
    let w : Window := { a := a, flags := flags ||| gr.openFlags ||| s.sliceFlags, cal := cal, mask := gr.mask - (gr.mask &&& gr.fenced) }
    let s := s.setGrp g (fun gr => { gr with wins := gr.wins ++ [w], openFlags := 0 })
    ((s.winNote g).aggOpen g).spcOpen g

/-- The oldest running window of a group ends at an instant; `short` is the flag of what cuts it, 0 when it is full; `pts` are the
points of a full one. The points of a cycle in progress, of which there are fewer than 1024, are not known (R140). -/
def State.winEnd (s : State) (g : Fin 2) (b : DevTime) (short : Nat) (pts : List (List Rat)) : State :=
  match s.grp[g].wins with
  | [] => s
  | w :: l =>
    let np := if short = 0 then s.grp[g].points else 1024 * s.grp[g].wholeCycles w.a b + Config.freeNat s.free % 1024
    let s := { s with free := s.free + 1 }
    let none0 : Option Civ := if s.grp[g].lost then some { si := 0, n := 0, ovr := 0, flags := 0, chmask := 0, vals := [] } else none
    let d : WinDone := { w := w, b := b, short := short, npts := np, pts := if s.grp[g].spec then pts else [], civ := none0, spec := if s.grp[g].spec then none else some [] }
    let s := s.setGrp g (fun gr => { gr with wins := l, wdone := gr.wdone ++ [d] })
    let s := if short = 0 then s.incWrap (RSMP_STAT_WINDOWS g) 1 else s
    s.rsmpStat g

/-- A group's running window from `a` is full at instant t: the tracked phase has advanced by its 10 or 12 cycles since, one boundary a
cycle (R139, R140); while the tracker holds a frequency the boundaries are nominal and do not tell. -/
def Grp.winFull (gr : Grp) (w : Window) (t : DevTime) : Bool :=
  w.fhold || decide ((gr.cycs.filter (fun c => decide (w.a < c.b) && decide (c.b ≤ t))).length = gr.cyc)

/-- The points of a full window: 1024 a cycle for each of its channels. -/
def Grp.ptsOk (gr : Grp) (w : Window) (pts : List (List Rat)) : Bool :=
  (bitsOf 8 w.mask).all (fun c => (pts.getD c []).length == gr.points)

/-- The running window of a group reaches its full point count: t is the instant of the first point after it, `pts` the interpolated
points of the eight channels (log entry 21). The next window abuts, unless a second one runs since a tick. -/
def execResamplerWindowEnd (g : Fin 2) (t : Nat) (pts : List (List Rat)) (s : State) : Host.Outcome State Fault Refusal :=
  let gr := s.grp[g]
  .next (match gr.wins with
    | w :: l =>
      if s.isReady && gr.running && decide (w.a < t) && decide (t ≤ s.grT g gr.si) && gr.winFull w t && gr.ptsOk w pts then
        (let s := s.winEnd g t 0 pts
         if l.isEmpty then s.winOpen g t 0 else ((s.aggOpen g).spcOpen g))
      else s
    | [] => s)

end Sys2Proof.Machine
end

