-- ==== Sys2Proof/Machine/Stat.lean ====
section
/-! DEFINITION. The statistics engine (chapter 10): cells, histogram descriptors, increments, percentiles and snapshots. -/

namespace Sys2Proof.Machine

/-! ### Histograms and cells (R233 to R235) -/

/-- The map of R233: the physical bank of each logical bank. -/
def State.statMap (s : State) : List (Option Nat) :=
  (List.range 16).map (fun l => if s.gb (STAT_BANKMAP_VALID l) then some (s.gf (STAT_BANKMAP_BANK l)) else none)

/-- A cell's logical bank is served. -/
def State.cellOk (s : State) (c : Nat) : Bool := s.gb (STAT_BANKMAP_VALID (c / 65536))

/-- A cell's count; a cell in an invalid logical bank reads 0 (R318). -/
def State.cell (s : State) (c : Nat) : Nat := if s.cellOk c then SMap.get (fun _ => 0) s.stat.cells c else 0

/-- Clear a run of cells. -/
def State.cellsClear (s : State) (c n : Nat) : State := { s with stat := { s.stat with cells := SMap.clearRange s.stat.cells c n } }

/-- The ring of a level: on or halted. -/
def State.lvlRing (s : State) (lvl : Nat) : Option (Fin 64) :=
  (fins 64).find? (fun (n : Fin 64) => (decide (s.rings[n].st = .on) || decide (s.rings[n].st = .halted)) && decide (s.rings[n].cls = clsAGG) &&
    decide (s.rings[n].param % 4 = lvl))

/-- The SEQ that the next record on a level's ring will carry. -/
def State.lvlSeq (s : State) (lvl : Nat) : Nat := match s.lvlRing lvl with | some n => s.rings[n].nextSeq | none => 0

/-- What R239 clears of a histogram. -/
def State.histClear (s : State) (i : Nat) : State :=
  let h := s.hist i
  let s := s.cellsClear h.base h.size
  s.setHist i (fun h => { h with sat := false, under := false, above := false, n := 0, hseq := s.lvlSeq h.level })

/-- An element's index is in range, and the levels of a kind (Table 10-5). -/
def kindIndexOk (k ix : Nat) : Bool :=
  match k with
  | 0x11 => decide (1 ≤ ix) && decide (ix ≤ 50)
  | 0x12 => decide (ix < 50)
  | 0x13 => decide (1 ≤ ix) && decide (ix ≤ 50)
  | 0x14 => decide (ix < 50)
  | 0x16 => decide (ix < 35)
  | 0x20 => decide (ix < 3)
  | 0x21 => ix == 0 || ix == 2
  | 0x22 => decide (ix < 4)
  | 0x40 => true
  | 0x41 => true
  | 0x42 => decide (512 + ix ≤ 705)
  | _ => ix == 0

def kindLevel (k lvl : Nat) : Bool :=
  match k with
  | 0x30 => lvl == 3
  | 0x31 => lvl == 1
  | 0x32 => lvl == 2
  | 0x40 => lvl == 1 || lvl == 2
  | 0x41 => lvl == 1 || lvl == 2
  | 0x42 => lvl == 1 || lvl == 2
  | _ => decide (lvl < 3)

/-- A QID is one of Table 10-5, the wildcard element included. -/
def Hist.qidOk (h : Hist) : Bool :=
  decide (h.elem < kindElems h.kind ∨ (h.elem = 0xFF ∧ 0 < kindElems h.kind)) && kindIndexOk h.kind h.index && !(decide (0x40 ≤ h.kind) && h.group == 1)

/-- A histogram's share of the load (R238). -/
def Hist.load (h : Hist) : Nat := if h.en then (if h.elem = 0xFF then kindElems h.kind else 1) else 0

/-- STAT_LOAD.LOAD. -/
def State.statLoad (s : State) : Nat := (s.stat.hists.map (fun e => e.2.load)).sum

/-- The STAT_ERR bits that refuse a descriptor for histogram i, in the register's order (Table 10-4). -/
def State.descBad (s : State) (i : Nat) (h : Hist) : List Bool :=
  let lower := f32val h.d2
  let width := f32val h.d3
  let small : Option Rat → Bool := fun x => match x with | some x => decide (x ≤ 0) | none => true
  let bad := !h.qidOk || decide (h.log2n < 4) || decide (12 < h.log2n) || h.base % h.size != 0 || lower.isNone || (h.log && small lower) ||
    small width || h.flagPol == 3
  let overlap := s.stat.hists.any (fun e => e.1 != i && e.2.en && decide (e.2.base < h.base + h.size) && decide (h.base < e.2.base + e.2.size))
  [bad, overlap, !s.cellOk h.base, h.en && decide (12288 < s.statLoad - (s.hist i).load + h.load), h.en && (s.lvlRing h.level).isNone, !kindLevel h.kind h.level]

/-- The STAT_ERR bits in the same order. -/
def statErrs : List Fld := [STAT_ERR_BADDESC, STAT_ERR_OVERLAP, STAT_ERR_NOBANK, STAT_ERR_OVERLOAD, STAT_ERR_NO_RING, STAT_ERR_LEVEL]

/-- A committed descriptor takes effect, or is refused (R234, R239). -/
def State.descApply (s : State) (i : Nat) (d : List Nat) : State :=
  let h : Hist := { s.hist i with d0 := d.getD 0 0, d1 := d.getD 1 0, d2 := d.getD 2 0, d3 := d.getD 3 0 }
  let bad := s.descBad i h
  if bad.any id then (List.zip bad statErrs).foldl (fun (s : State) e => if e.1 then s.sf e.2 1 else s) s
  else
    let s := s.setHist i (fun _ => h)
    let s := if h.en then s.histClear i else s
    s.sf STAT_LOAD_LOAD s.statLoad

/-! ### Increments (R236, R237, R246) -/

/-- The bin of a value: the bin, and whether it fell below or above (R236). -/
def Hist.bin (h : Hist) (x : Rat) : Nat × Bool × Bool :=
  let lo := (f32val h.d2).getD 0
  let w := (f32val h.d3).getD 1
  let floor : Rat → Int := fun q => q.num / (q.den : Int)
  let k : Int :=
    if h.log then (if x ≤ 0 then -1 else floor (round64 (round64 (log10Rat (round64 (x / lo))) / w)))
    else floor (round64 (round64 (x - lo) / w))
  if k < 0 then (0, true, false) else if (h.size : Int) ≤ k then (h.size - 1, false, true) else (k.toNat, false, false)

/-- Apply an increment to its histogram (R236, R237). -/
def State.statInc (s : State) (i : Nat) (x : Option Nat) : State :=
  match x.bind f32val with
  | none => s.setHist i (fun h => { h with hndef := satAdd 32 h.hndef 1 })
  | some v =>
    let h := s.hist i
    let (k, un, ov) := h.bin v
    let c := h.base + k
    let old := s.cell c
    let s := if s.cellOk c && decide (old < 2 ^ 32 - 1) then { s with stat := { s.stat with cells := SMap.set (fun _ => 0) s.stat.cells c (old + 1) } } else s
    s.setHist i (fun h => { h with n := satAdd 32 h.n 1, under := h.under || un, above := h.above || ov, sat := h.sat || decide (2 ^ 32 - 1 ≤ old) })

/-- One increment is applied to its cell (R246), while the engine is enabled and no snapshot holds the updates. -/
def execStatIncrementApply (s : State) : Host.Outcome State Fault Refusal :=
  .next (if !s.gb STAT_CTRL_EN || s.gb AGG_STAT_HELD then s
    else match s.stat.waits with
    | .inc i x :: r =>
      let s := State.statInc { s with stat := { s.stat with waits := r } } i x
      (State.statMarks s.stat.waits.length s).statDepth
    | _ => s)

/-- The last waiting increment has been applied: the drain ends, and descriptor commits written during it take effect (R247). -/
def execStatQueueDrained (s : State) : Host.Outcome State Fault Refusal :=
  .next (if s.gb AGG_STAT_DRAINING && s.stat.waits.isEmpty then
    let us := match s.stat.drainT with
      | some t => (s.now - t) * 1000000 / 2 ^ 32
      | none => 0
    let c := s.stat.commits
    let s := { s with stat := { s.stat with drainT := none, commits := [] } }
    let s := s.sfs [(AGG_STAT_DRAINING, 0), (AGG_QMAX_DRAIN_MAX, max (s.gf AGG_QMAX_DRAIN_MAX) (min us 65535))]
    c.foldl (fun (s : State) e => s.descApply e.1 e.2) s
  else s)

/-! ### Descriptor registers (R248) -/

/-- A write of STAT_DSEL loads the staging from the selected descriptor. -/
def State.wrDsel (s : State) (v : Word) : State :=
  let i := v.toNat % 4096
  let h := s.hist i
  State.sf { s with stat := { s.stat with stag1 := h.d1, stag2 := h.d2, stag3 := h.d3 } } STAT_DSEL_INDEX i

/-- A write of STAT_DSEL. -/
def execStatDselWrite (value : Word) (s : State) : Host.Outcome State Fault Refusal :=
  .next (if s.serving then s.wrDsel value else s)

/-- A write of STAT_DESC1 to STAT_DESC3 changes the staging. -/
def State.wrDescStage (s : State) (r : Nat) (v : Word) : State :=
  let w := v.toNat
  match r with
  | 1 => { s with stat := { s.stat with stag1 := w % 2 ^ 24 } }
  | 2 => { s with stat := { s.stat with stag2 := w } }
  | _ => { s with stat := { s.stat with stag3 := w } }

/-- A write of STAT_DESC0 commits its value with the staging; during a drain it waits for its end (R247). -/
def State.wrDesc0 (s : State) (v : Word) : State :=
  let w := v.toNat
  let d := [w % 2 ^ 29 + w / 2 ^ 31 * 2 ^ 31, s.stat.stag1, s.stat.stag2, s.stat.stag3]
  let i := s.gf STAT_DSEL_INDEX
  if s.gb AGG_STAT_DRAINING then { s with stat := { s.stat with commits := s.stat.commits ++ [(i, d)] } } else s.descApply i d

/-- A write of STAT_DESC0. -/
def execStatDescCommit (value : Word) (s : State) : Host.Outcome State Fault Refusal :=
  .next (if s.serving then s.wrDesc0 value else s)

/-! ### Percentiles and snapshots (R242 to R244, R318, R319, R341) -/

/-- LASTSEQ[4]: 0 for a level that has no ring. -/
def State.lastSeqs (s : State) : List Byte :=
  (List.range 4).flatMap (fun l => leBytes 4 (if (s.lvlRing l).isSome then s.gf (STAT_LASTSEQ_SEQ l) else 0))

/-- A snapshot or percentile closes every open AGG SUMMARY (R341). -/
def State.closeAggSummaries (s : State) : State :=
  (fins 64).foldl (fun (s : State) (n : Fin 64) =>
    if s.rings[n].cls = clsAGG then s.setRing n (fun g => { g with q := g.q.map (fun i => match i with | .summary q _ l b => QItem.summary q false l b | _ => i) })
    else s) s

/-- The smallest bin whose cumulative count reaches a rank: the bin, its count, the count before it. -/
def pctBin (r : Nat) : Nat → Nat → List Nat → Nat × Nat × Nat
  | k, acc, [] => (k - 1, 0, acc)
  | k, acc, c :: l => if r ≤ acc + c then (k, c, acc) else pctBin r (k + 1) (acc + c) l

/-- The lower edge of bin k (R236). -/
def Hist.edge (h : Hist) (k : Nat) : Rat :=
  let lo := (f32val h.d2).getD 0
  let w := (f32val h.d3).getD 1
  if h.log then lo * exp10 ((k : Rat) * w) else lo + (k : Rat) * w

/-- One percentile's 12-byte result. -/
def Hist.pctl (h : Hist) (cells : List Nat) (mode p : Nat) : List Byte :=
  let n := cells.sum
  let r := max 1 (cdiv (p * n) 100000)
  let (k, c, before) := pctBin r 0 0 cells
  if n = 0 then leBytes 4 p ++ zeros 4 ++ leBytes 4 nan32
  else
    let lo := h.edge k
    let hi := h.edge (k + 1)
    let v : Rat := match mode with
      | 0 => hi
      | 1 => lo
      | _ => lo + (hi - lo) * (((r - before : Nat) : Rat) / (c : Rat))
    leBytes 4 p ++ leBytes 2 k ++ leBytes 1 (b2n (k == 0 && h.under) + 2 * b2n (k + 1 == h.size && h.above)) ++ [0] ++ leBytes 4 (f32bits v)

/-- The PCTL payload (R319). -/
def State.pctlBytes (s : State) (i mode np : Nat) (ps : List Nat) : List Byte :=
  let h := s.hist i
  let cells := (List.range h.size).map (fun k => s.cell (h.base + k))
  let res := (List.range np).flatMap (fun j => h.pctl cells mode (ps.getD j 0))
  s.lastSeqs ++ leBytes 2 i ++ leBytes 1 mode ++ leBytes 1 np ++ leBytes 4 (b2n h.sat + 2 * b2n h.poison + 4 * b2n h.lost) ++ leBytes 4 (min cells.sum (2 ^ 32 - 1)) ++
    res ++ zeros (96 - 12 * np)

/-- PERCENTILE; it waits while increments drain (R247). -/
def State.doPercentile (s : State) (c : Cmd) : State :=
  let a := fun o n => leAt c.entry (0x10 + o) n
  let i := a 0 2
  let mode := a 2 1
  let np := a 3 1
  let ps := (List.range 8).map (fun j => a (4 + 4 * j) 4)
  if s.gb AGG_STAT_DRAINING then s
  else if 4096 ≤ i ∨ 3 ≤ mode ∨ np = 0 ∨ 8 < np ∨ (ps.take np).any (fun p => decide (100000 < p)) ∨ (ps.drop np).any (fun p => decide (p ≠ 0)) then s.finish 2 0 []
  else
    let s := s.closeAggSummaries
    let b := s.pctlBytes i mode np ps
    match c.via with
    | .mailbox _ => s.finish 0 0 b
    | .ring _ =>
      match s.carrier clsSTA srcNone 0 with
      | none => s.finish 5 0 []
      | some _ =>
        let r : Rec := { cls := clsSTA, src := srcNone, tStart := s.stamp, tEnd := s.stamp, aux := 2, payload := b,
                         flags := if (s.hist i).poison then flPoison else 0 }
        (s.emit r).finish 0 0 b

/-- PERCENTILE. -/
def execPercentile (s : State) : Host.Outcome State Fault Refusal := .next (s.onCmd 4 (fun s c => s.doPercentile c))

/-- The records of a snapshot (R318): 2016 cells in each but the last. -/
def State.snapRecs (s : State) (first count : Nat) (clr : Bool) : List Rec :=
  let n := cdiv count 2016
  (List.range n).map (fun i =>
    let f := first + 2016 * i
    let k := min 2016 (count - 2016 * i)
    let cs := (List.range k).map (fun j => f + j)
    let bad := cs.any (fun c => !s.cellOk c)
    let poison := s.stat.hists.any (fun e => e.2.poison && decide (e.2.base < f + k) && decide (f < e.2.base + e.2.size))
    { cls := clsSTA, src := srcNone, tStart := s.stamp, tEnd := s.stamp, flags := if poison then flPoison else 0,
      aux := 1 + 256 * b2n (i + 1 == n) + 512 * b2n bad + 65536 * i,
      payload := s.lastSeqs ++ leBytes 4 f ++ leBytes 4 k ++ leBytes 1 (b2n clr) ++ zeros 7 ++ cs.flatMap (fun c => leBytes 4 (s.cell c)) })

/-- The histograms wholly inside a range restart (R243). -/
def State.snapClear (s : State) (first count : Nat) : State :=
  let s := s.cellsClear first count
  s.stat.hists.foldl (fun (s : State) e =>
    if first ≤ e.2.base ∧ e.2.base + e.2.size ≤ first + count then
      s.setHist e.1 (fun h => { h with n := 0, under := false, above := false, sat := false, hseq := s.lvlSeq h.level })
    else s) s

/-- SNAPSHOT_STATS; it waits while increments drain (R247). Updates are held until its records are out and it completes (R243). -/
def State.doSnapshot (s : State) (c : Cmd) : State :=
  let a := fun o n => leAt c.entry (0x10 + o) n
  let first := a 0 4
  let count := a 4 4
  let clr := a 8 1
  if s.gb AGG_STAT_DRAINING then s
  else match c.via with
  | .mailbox _ => s.finish 5 0 []
  | .ring _ =>
    if count = 0 ∨ 65536 < count ∨ 2 ^ 20 < first + count ∨ 1 < clr then s.finish 2 0 []
    else match s.carrier clsSTA srcNone 0 with
    | none => s.finish 5 0 []
    | some n =>
      let s1 := s.closeAggSummaries
      let recs := s1.snapRecs first count (clr == 1)
      let need := (recs.map Rec.entries).sum
      let queued := (s.rings[n].q.map QItem.size).sum / 64
      if s.rings[n].free < need + queued then s.finish 6 0 []
      else
        let s := s1.emits recs
        let s := if clr = 1 then s.snapClear first count else s
        (s.sf AGG_STAT_HELD 1).finish 0 0 []

/-- SNAPSHOT_STATS. -/
def execSnapshotStats (s : State) : Host.Outcome State Fault Refusal := .next (s.onCmd 3 (fun s c => s.doSnapshot c))

/-! ### Banks (R233, R240, R374) -/

/-- Healthy banks owned by STAT, ascending. -/
def State.statBanks (s : State) : List Nat := (List.range 64).filter (fun b => decide (s.gf (BANK_OWNER_OWNER b) = 0) && s.bankOn b)

/-- Put a map into STAT_BANKMAPk, and the count of spares. -/
def State.putMap (s : State) (m : List (Option Nat)) : State :=
  let s := (List.range 16).foldl (fun (s : State) l =>
    s.sfs [(STAT_BANKMAP_BANK l, (m.getD l none).getD 0), (STAT_BANKMAP_VALID l, b2n (m.getD l none).isSome)]) s
  s.sf STAT_SPARE_COUNT ((s.statBanks.filter (fun b => !m.contains (some b))).length)

/-- The map is rebuilt by R233; a histogram whose logical bank lies elsewhere now is cleared (R374), and disabled when its
cells no longer exist. -/
def State.statRemap (s : State) (old : List (Option Nat)) : State :=
  let bs := s.statBanks
  let m := (List.range 16).map (fun l => if l < bs.length then some (bs.getD l 0) else none)
  let s := s.putMap m
  let s := s.stat.hists.foldl (fun (s : State) e =>
    let l := e.2.base / 65536
    if m.getD l none = old.getD l none then s
    else
      let s := s.histClear e.1
      if (m.getD l none).isNone then s.setHist e.1 (fun h => { h with d0 := h.d0 % 2 ^ 31 }) else s) s
  s.sf STAT_LOAD_LOAD s.statLoad

/-- A STAT bank is fenced (R240): a spare takes its logical bank, or the logical bank is invalid; its histograms are LOST
and cleared, or disabled. The histograms named in the LOG record. -/
def State.statBankLost (s : State) (b : Nat) : List Nat × State :=
  let m := s.statMap
  match (List.range 16).find? (fun l => decide (m.getD l none = some b)) with
  | none => ([], s.sf STAT_SPARE_COUNT ((s.statBanks.filter (fun x => !m.contains (some x))).length))
  | some l =>
    let spare := s.statBanks.find? (fun x => !m.contains (some x))
    let hit := (s.stat.hists.filter (fun e => decide (e.2.base / 65536 = l))).map Prod.fst
    let s := s.putMap (m.set l spare)
    let s := hit.foldl (fun (s : State) i =>
      let s := s.setHist i (fun h => { h with lost := true })
      if spare.isSome then s.histClear i else s.setHist i (fun h => { h with d0 := h.d0 % 2 ^ 31 })) s
    let s := if spare.isNone then s.cellsClear (65536 * l) 65536 else s
    (hit, (s.sf STAT_LOAD_LOAD s.statLoad).sf STAT_ERR_BANKLOSS 1)

/-- An uncorrectable error in a cell word: the histograms whose cells share it are marked (R240). -/
def State.statPoison (s : State) (word : Nat) : State :=
  s.stat.hists.foldl (fun (s : State) e =>
    if e.2.base < 8 * word + 8 ∧ 8 * word < e.2.base + e.2.size then s.setHist e.1 (fun h => { h with poison := true }) else s) s

end Sys2Proof.Machine
end

