-- ==== Sys2Proof/Machine/Bill.lean ====
section
/-! DEFINITION. Tariffs, demand and billing (chapter 11), the energy checkpoint and the billing journal (R403, R404). -/

namespace Sys2Proof.Machine

/-! ### Local dates (R254) -/

/-- Year, month, day of a local day number counted from 2000-01-01. -/
def civil (day : Int) : Nat × Nat × Nat :=
  let z := (day + 730425).toNat
  let era := z / 146097
  let doe := z % 146097
  let yoe := (doe - doe / 1460 + doe / 36524 - doe / 146096) / 365
  let doy := doe - (365 * yoe + yoe / 4 - yoe / 100)
  let mp := (5 * doy + 2) / 153
  let d := doy - (153 * mp + 2) / 5 + 1
  let m := if mp < 10 then mp + 3 else mp - 9
  (yoe + 400 * era + b2n (decide (m ≤ 2)), m, d)

/-- The day number of a date from 2000-01-01. -/
def dayNumber (y m d : Nat) : Int :=
  let y := if m ≤ 2 then y - 1 else y
  let yoe := y % 400
  let doy := (153 * (if 2 < m then m - 3 else m + 9) + 2) / 5 + d - 1
  ((y / 400 * 146097 + yoe * 365 + yoe / 4 - yoe / 100 + doy : Nat) : Int) - 730425

/-- Days of a month; February has 29 in a leap year. -/
def monthDays (leap : Bool) (m : Nat) : Nat := if m = 2 then (if leap then 29 else 28) else if [4, 6, 9, 11].contains m then 30 else 31

/-- One minute in 2^-32 s. -/
def minuteT : Nat := 60 * 2 ^ 32

/-! ### Calendar images (R253, Table 11-1) -/

/-- A word of an image. -/
def imgWord (m : SMap Nat) (a : Nat) : Nat := SMap.get (fun _ => 0) m a

/-- The bits of an image word that are not reserved; reserved addresses hold nothing. -/
def imgMask (a : Nat) : Nat :=
  if a = 0 then 0x00FFFFFF else if a ≤ 8 then 0x80000FFF else if a ≤ 0x10 then 0x0FFFFFFF else if a ≤ 0x110 then 0x800077FF
  else if a ≤ 0x150 then 0x8F7F01FF else 0

/-- OFFSET in seconds. -/
def imgOffset (m : SMap Nat) : Int := toSigned 8 (imgWord m 0 / 65536) * 900

/-- Local seconds, local day number, and minute of the local day of a device time. -/
def localSec (m : SMap Nat) (t : DevTime) : Int := ((t / 2 ^ 32 : Nat) : Int) + imgOffset m
def localDay (m : SMap Nat) (t : DevTime) : Int := localSec m t / 86400
def localMinute (m : SMap Nat) (t : DevTime) : Nat := (localSec m t % 86400).toNat / 60

/-- The device time of a local midnight. -/
def midnight (m : SMap Nat) (day : Int) : DevTime := (day * 86400 - imgOffset m).toNat * 2 ^ 32

/-- Fields of a season or a special day: (DAY, MONTH). -/
def imgDate (w : Nat) : Nat × Nat := (w % 32, w / 32 % 16)

/-- The enabled seasons: (start date as 32 × month + day, WEEK), in ascending number. -/
def seasons (m : SMap Nat) : List (Nat × Nat) :=
  ((List.range 8).map (fun s => imgWord m (1 + s))).filterMap (fun w =>
    if w.testBit 31 then some (32 * (imgDate w).2 + (imgDate w).1, w / 512 % 8) else none)

/-- The latest of a list of dated entries; of two with one date the first (log entry 40). -/
def latest : List (Nat × Nat) → Option (Nat × Nat)
  | [] => none
  | a :: l =>
    match latest l with
    | none => some a
    | some b => if a.1 < b.1 then some b else some a

/-- The day profile of a local day: that of the first matching special day, else of the season's week profile. -/
def dayProfile (m : SMap Nat) (day : Int) : Nat :=
  let (y, mo, d) := civil day
  let hit := ((List.range 64).map (fun i => imgWord m (0x111 + i))).find? (fun w =>
    w.testBit 31 && imgDate w == (d, mo) && (w / 65536 % 128 == 0 || 2000 + w / 65536 % 128 == y))
  match hit with
  | some w => w / 2 ^ 24 % 16
  | none =>
    let l := seasons m
    let cur := match latest (l.filter (fun e => decide (e.1 ≤ 32 * mo + d))) with
      | some e => some e
      | none => latest l
    match cur with
    | some e => imgWord m (9 + e.2) / 16 ^ ((day + 5) % 7).toNat % 16
    | none => 0

/-- The tariff, 0 to 7, that an image gives at a device time (R254). -/
def imgTariff (m : SMap Nat) (t : DevTime) : Nat :=
  let p := dayProfile m (localDay m t)
  let now := localMinute m t
  let pts := ((List.range 16).map (fun j => imgWord m (0x011 + 16 * p + j))).filterMap (fun w =>
    if w.testBit 31 && decide (w % 2048 ≤ now) then some (w % 2048, w / 4096 % 8) else none)
  match latest pts with
  | some e => e.2
  | none => 0

/-- The calendar that group g follows: during an activation another group may already have the new one. -/
def State.calendar (s : State) (g : Fin 2) : SMap Nat := if s.cals.useOld.testBit g then s.cals.old else s.cals.act

/-- The tariff that group g's calendar gives; T1 while none was ever installed (R256). -/
def State.tariffAt (s : State) (g : Fin 2) (t : DevTime) : Nat :=
  if s.gb BIL_CAL_CTRL_AVALID && !(s.cals.useOld.testBit g && s.cals.old.isEmpty) then imgTariff (s.calendar g) t else 0

/-! ### Validation (R255) -/

/-- An image passes. -/
def imgValid (m : SMap Nat) : Bool :=
  let ws := (List.range 8).map (fun s => imgWord m (1 + s))
  let ss := ws.filter (fun w => w.testBit 31)
  let ds := ((List.range 64).map (fun i => imgWord m (0x111 + i))).filter (fun w => w.testBit 31)
  let dateOk := fun (leap : Bool) (w : Nat) => let (d, mo) := imgDate w
    decide (1 ≤ mo) && decide (mo ≤ 12) && decide (1 ≤ d) && decide (d ≤ monthDays leap mo)
  let leapOf := fun (w : Nat) => decide (w / 65536 % 128 % 4 = 0) && decide (w / 65536 % 128 ≠ 100)
  let off := toSigned 8 (imgWord m 0 / 65536)
  let reach := ss.flatMap (fun w => (List.range 7).map (fun d => imgWord m (9 + w / 512 % 8) / 16 ^ d % 16)) ++ ds.map (fun w => w / 2 ^ 24 % 16)
  let pts : Nat → List Nat := fun p => (((List.range 16).map (fun j => imgWord m (0x011 + 16 * p + j))).filter (fun w => w.testBit 31)).map (· % 2048)
  !ss.isEmpty && ss.all (dateOk true) && ds.all (fun w => dateOk (leapOf w) w) && decide (-48 ≤ off) && decide (off ≤ 56) &&
    reach.all (fun p => (pts p).contains 0) && (List.range 16).all (fun p => decide ((pts p).Nodup))

/-- The device time in BIL_PCAL_ACT. -/
def State.pcalAct (s : State) : DevTime := s.g64 BIL_PCAL_ACT_LO_FRAC BIL_PCAL_ACT_HI_SEC

/-- A committed image as its record's payload (R405). -/
def imgBytes (m : SMap Nat) (t : DevTime) : List Byte := (List.range 0x151).flatMap (fun a => leBytes 4 (imgWord m a)) ++ leBytes 8 t

/-- The image and its instant from a record's payload. -/
def imgLoad (bs : List Byte) : SMap Nat × DevTime :=
  ((List.range 0x151).foldl (fun m a => SMap.set (fun _ => 0) m a (leAt bs (4 * a) 4)) [], leAt bs 0x544 8)

/-- Guard a page, or no longer guard it. -/
def State.guard (s : State) (p : Nat) : State := { s with nvm := { s.nvm with guarded := p :: s.nvm.guarded } }
def State.unguard (s : State) (p : Nat) : State := { s with nvm := { s.nvm with guarded := s.nvm.guarded.filter (· != p) } }
def State.unguardOpt (s : State) : Option Nat → State
  | some p => s.unguard p
  | none => s

/-- A commit of the passive calendar (R255): whether it was accepted. -/
def State.calendarCommit (s : State) : Bool × State :=
  let t := s.pcalAct
  let okI := imgValid s.cals.pas
  let okT := decide (t % minuteT = 0) && decide (s.ket.hwm < t)
  let s := if okI then s else s.sf BIL_ERR_CAL_INVALID 1
  let s := if okT then s else s.sf BIL_ERR_ACT_PAST 1
  if !okI || !okT then (false, s)
  else
    let page := slotPage 4 (s.nvm.nextSlot 4)
    let s := s.storeRecord 4 3 6 NvmKind.calendar (imgBytes s.cals.pas t)
    let s := (s.unguardOpt s.cals.pasPage).guard page
    let s := { s with cals := { s.cals with pasT := t, pasPage := some page } }
    (true, (s.sf BIL_CAL_CTRL_PVALID 1).log 9 1 (leBytes 2 (s.gf BIL_CAL_CTRL_AID) ++ leBytes 2 (imgWord s.cals.pas 0) ++ zeros 4 ++ leBytes 8 t))

/-- The passive image becomes the active one (R256); the groups of a mask go on with the old one until their steps reach
the instant. -/
def State.calActivate (s : State) (later : Nat) : State :=
  let c := s.cals
  let oldId := s.gf BIL_CAL_CTRL_AID
  let newId := imgWord c.pas 0
  let s := s.unguardOpt c.actPage
  let s := { s with cals := { c with old := c.act, act := c.pas, actT := c.pasT, actPage := c.pasPage, pasPage := none, useOld := later } }
  (s.sfs [(BIL_CAL_CTRL_PVALID, 0), (BIL_CAL_CTRL_AVALID, 1), (BIL_CAL_CTRL_AID, newId)]).log 9 2
    (leBytes 2 oldId ++ leBytes 2 newId ++ zeros 4 ++ leBytes 8 c.pasT)

/-! ### Billing instants (R249, R257, R261) -/

/-- Change a group's billing state. -/
def State.setBil (s : State) (g : Fin 2) (f : Bil → Bil) : State := { s with bil := s.bil.set g (f s.bil[g]) }

/-- L in minutes by DEM_L; 0 for a refused code. -/
def demL : Nat → Nat
  | 0 => 1 | 1 => 5 | 2 => 10 | 3 => 15 | 4 => 30 | 5 => 60 | _ => 0

/-- A group's BIL_CFG passes at START (R257, R261). -/
def State.bilCfgOk (s : State) (g : Fin 2) : Bool :=
  let l := demL (s.gf (BIL_CFG_DEM_L g))
  let k := s.gf (BIL_CFG_NSUB g)
  let d := s.gf (BIL_CFG_BDAY g)
  decide (l ≠ 0) && decide (k ≠ 0) && decide (l % k = 0) && decide (s.gf (BIL_CFG_BMODE g) ≠ 3) && decide (1 ≤ d) && decide (d ≤ 28)

/-- BIL_DONE of a group. -/
def State.bilDone (s : State) (g : Nat) : DevTime := s.g64 (BIL_DONE_LO_FRAC g) (BIL_DONE_HI_SEC g)
def State.setBilDone (s : State) (g : Nat) (t : DevTime) : State := s.s64 (BIL_DONE_LO_FRAC g) (BIL_DONE_HI_SEC g) t

/-- A whole minute ends a demand sub-interval of a group. -/
def State.subBoundary (s : State) (g : Fin 2) (b : DevTime) : Bool :=
  let x := s.bil[g]
  decide (b % minuteT = 0) && decide (localMinute (s.calendar g) b % (x.lmin / max 1 x.k) = 0)

/-- The number of period boundaries of a group's mode from a fixed origin up to a local day, and the local day of the
latest one. -/
def periodIndex (bmode bday : Nat) (day : Int) : Int × Int :=
  if bmode = 1 then (day, day)
  else
    let (y, m, d) := civil day
    let i := 12 * y + m - 1 - (if d < bday then 1 else 0)
    ((i : Int), dayNumber (i / 12) (i % 12 + 1) bday)

/-- A whole minute closes a group's billing period by its mode. -/
def State.modeClose (s : State) (g : Fin 2) (b : DevTime) : Bool :=
  let x := s.bil[g]
  let cal := s.calendar g
  (x.bmode = 1 || x.bmode = 2) && decide (localMinute cal b = 0) && decide (b % minuteT = 0) &&
    (x.bmode = 1 || decide ((civil (localDay cal b)).2.2 = x.bday))

/-- The passive calendar activates at an instant for a group. -/
def State.activates (s : State) (g : Fin 2) (b : DevTime) : Bool :=
  (s.gb BIL_CAL_CTRL_PVALID && decide (s.cals.pasT ≤ b)) || (s.cals.useOld.testBit g && decide (s.cals.actT ≤ b))

/-- A whole minute is a billing instant of a group. -/
def State.billInstant (s : State) (g : Fin 2) (b : DevTime) : Bool :=
  decide (b % minuteT = 0) && decide (s.bilDone g < b) && s.grp[g].shadow.isNone &&
    (s.subBoundary g b || s.activates g b || s.tariffAt g b != s.bil[g].tariff || s.modeClose g b || s.bil[g].close == some b)

/-- A cycle of a group that ends at `b` is cut at the billing instant inside it (R149). -/
def State.cutBills (s : State) (g : Fin 2) (a b : DevTime) : State :=
  let m := (a / minuteT + 1) * minuteT
  if m < b && s.billInstant g m && !s.grp[g].monitor then s.cutStep g m else s

/-! ### The journal and the checkpoint (R268, R403, R404) -/

/-- Write a journal entry of the actions of both groups; its sequence number. -/
def State.journal (s : State) (actsA actsB : Nat) : Nat × State :=
  let e := s.nvm.journalPos % 64
  let seq := s.nvm.seqs[(7 : Fin 10)]
  let page := 0x2C0 + e / 8
  let word := 4 * (e % 8)
  let w := leBytes 8 (s.bilDone 0) ++ leBytes 8 (s.bilDone 1) ++ leBytes 4 seq ++ leBytes 4 (actsA + 16 * actsB)
  let bytes := w ++ leBytes 4 (crc32c (w ++ leBytes 4 (256 * page + 8 * word))) ++ zeros 4
  let s := { s with nvm := { s.nvm with journalPos := (e + 1) % 64, seqs := s.nvm.seqs.set 7 (seq + 1) } }
  (seq, s.nvmQueue { cls := 2, kind := .journal, ops := [[{ page := page, word := word, bytes := bytes }]], seq := seq })

/-- The value of split counter i: accumulators 0 to 63, tariff registers 64 to 191. -/
def State.counter (s : State) (i : Nat) : Nat :=
  if i < 64 then s.acc i
  else if i < 128 then SMap.get (fun _ => 0) s.bil[(0 : Fin 2)].treg (i - 64)
  else SMap.get (fun _ => 0) s.bil[(1 : Fin 2)].treg (i - 128)

/-- A high cell's word of H and HSEQ: the check value is the sum of its 16-bit parts (log entry 41). -/
def cellWord (h hs : Nat) : List Byte := leBytes 4 h ++ leBytes 2 hs ++ leBytes 2 (h % 65536 + h / 65536 + hs)

/-- A stored high cell: H, HSEQ, valid. -/
def Nvm.highCell (v : Nvm) (i : Nat) : Nat × Nat × Bool :=
  let b := v.read (256 * 0x2C8 + 8 * i) 8
  let h := leAt b 0 4
  let hs := leAt b 4 2
  (h, hs, decide (b = cellWord h hs))

/-- Queue the write of a high cell. -/
def State.putHigh (s : State) (i h hs : Nat) : State :=
  s.nvmQueue { cls := 4, kind := .highCell, ops := [[{ page := 0x2C8 + i / 32, word := i % 32, bytes := cellWord h hs }]] }

/-- H and HSEQ of a counter's high cell once every queued write of it is done. -/
def State.highNow (s : State) (i : Nat) : Nat × Nat :=
  let l := (s.nvm.running.toList ++ s.nvm.queue).flatMap (fun r => if r.kind = .highCell then r.ops.flatMap id else [])
  match (l.filter (fun w => decide (w.page = 0x2C8 + i / 32) && decide (w.word = i % 32))).getLast? with
  | some w => (leAt w.bytes 0 4, leAt w.bytes 4 2)
  | none => let (h, hs, _) := s.nvm.highCell i; (h, hs)

/-- The HSEQ that counter i's low record carries now: one ahead of the cell when the value carried into bit 64. -/
def State.lowSeq (s : State) (i : Nat) : Nat :=
  let (h, hs) := s.highNow i
  if s.counter i / 2 ^ 64 = h then hs else (hs + 1) % 65536

/-- The latest step close. -/
def State.tCap (s : State) : DevTime := max s.met.doneT[(0 : Fin 2)] s.met.doneT[(1 : Fin 2)]

/-- The eight total accumulators of a group, bits [63:0]. -/
def State.totals (s : State) (g : Nat) : List Nat := (List.range 8).map (fun q => s.acc (accIdx g 3 q) % 2 ^ 64)

/-- The CF part of a save: residue, owed count, reserved. -/
def State.cfBytes (s : State) : List Byte := (fins 4).flatMap (fun (m : Fin 4) => leBytes 8 s.met.cf[m].residue ++ leBytes 4 (s.gf (CF_STAT_OWED m)) ++ zeros 4)

/-- Maximum demands and their instants of a billing state. -/
def Bil.maxBytes (b : Bil) : List Byte :=
  (List.range 64).flatMap (fun i => leBytes 8 (SMap.get (fun _ => 0) b.maxd i) ++ leBytes 8 (SMap.get (fun _ => 0) b.maxT i))

/-- The checkpoint's payload (Table 17-3): the groups that close a billing period at T_CAP, with their maxima before the
reset. -/
def State.ckptBytes (s : State) (cause : Nat) (closing : Nat) (maxA maxB : List Byte) : List Byte :=
  let grp := fun (g : Fin 2) =>
    let b := s.bil[g]
    leBytes 8 (s.bilDone g) ++ leBytes 8 (match b.sub with | some x => x.a | none => 0) ++ leBytes 1 b.tariff ++ leBytes 1 b.bnds.length ++
      leBytes 2 (s.gf (BIL_STAT_PERIOD g)) ++ leBytes 2 s.met.actId[g] ++ leBytes 2 (s.gf BIL_CAL_CTRL_AID) ++ leBytes 1 (b2n (closing.testBit g)) ++ zeros 39
  let win := fun (g : Fin 2) => (List.range 16).flatMap (fun i => (List.range 8).flatMap (fun q => leBytes 8 ((s.bil[g].bnds.getD i []).getD q 0)))
  let body := leBytes 8 s.tCap ++ leBytes 1 cause ++ zeros 7 ++ grp 0 ++ grp 1 ++ s.cfBytes ++
    (fins 64).flatMap (fun (n : Fin 64) => leBytes 4 ((s.rings[n].nextSeq + 2 ^ 20) % 2 ^ 32)) ++
    (List.range 192).flatMap (fun i => leBytes 8 (s.counter i % 2 ^ 64) ++ leBytes 2 (s.lowSeq i) ++ zeros 6) ++
    win 0 ++ win 1 ++ maxA ++ maxB
  body ++ zeros (0x1F00 - body.length)

/-- A checkpoint is captured into the ring whose turn it is (R403), and the waiting archive entries are queued (R406). -/
def State.checkpointW (s : State) (cause closing : Nat) (maxA maxB : List Byte) : State :=
  let r := s.nvm.ckTurn
  let ring : Fin 10 := ⟨r.val, by omega⟩
  let page := slotPage ring (s.nvm.nextSlot ring)
  let body := s.ckptBytes cause closing maxA maxB
  let s := { s with
    rings := s.rings.map (fun (g : Ring) => { g with resv := (g.nextSeq + 2 ^ 20) % 2 ^ 32 })
    nvm := { s.nvm with ckTurn := 1 - r } }
  let s := s.storeRecord ring 0 4 (NvmKind.checkpoint r) body
  let s := if closing = 0 then s else s.guard page
  s.archFlush

/-- A checkpoint with no billing close. -/
def State.checkpoint (s : State) (cause : Nat) : State := s.checkpointW cause 0 s.bil[(0 : Fin 2)].maxBytes s.bil[(1 : Fin 2)].maxBytes

/-- The timer's capture (R403): where the current copy of the slices' state holds an uncorrectable word, the other copy is read (R420). -/
def State.ckptTimer (s : State) : State :=
  match (if s.slc.bad then s.slc.old else none) with
  | some c =>
    let v := State.checkpoint { s with met := c.met, bil := c.bil } 0
    State.sf { v with met := s.met, bil := s.bil } SLICE_ERR_CKPT_FALLBACK 1
  | none => s.checkpoint 0

/-- After a checkpoint is complete, the high cells of the counters whose low records carried are written (R268, R403). -/
def State.highCells (s : State) (body : List Byte) : State :=
  (List.range 192).foldl (fun (s : State) i =>
    let (h, hs) := s.highNow i
    let low := leAt body (0x1D8 + 16 * i) 2
    if low = hs then s else s.putHigh i ((h + 1) % 2 ^ 32) low) s

/-- Counters cleared from `lo` to below `hi`: their high cells hold 0 with the epoch unchanged. -/
def State.highClear (s : State) (lo hi : Nat) : State :=
  (List.range (hi - lo)).foldl (fun (s : State) i =>
    let (h, hs) := s.highNow (lo + i)
    if h = 0 then s else s.putHigh (lo + i) 0 hs) s

/-- The 500 ms timer of checkpoints. -/
def execEnergyCheckpoint (s : State) : Host.Outcome State Fault Refusal :=
  .next (if s.isReady && !s.gb TIME_STATUS_HALTED then s.ckptTimer else s)

/-! ### BIL records (R258, R263, R320) -/

/-- AUX of a BIL record. -/
def bilAux (kind : Nat) (short newmax missed calact calchg : Bool) (tariff : Nat) : Nat :=
  kind + 256 * b2n short + 512 * b2n newmax + 1024 * b2n missed + 2048 * b2n calact + 4096 * b2n calchg + 65536 * (tariff + 1)

/-- A maximum of tariff × 8 + code is replaced by a greater demand (R260). -/
def Bil.maxPut (b : Bil) (i d : Nat) (t : DevTime) : Bil :=
  if SMap.get (fun _ => 0) b.maxd i < d then
    { b with maxd := SMap.set (fun _ => 0) b.maxd i d, maxT := SMap.set (fun _ => 0) b.maxT i t }
  else b

/-- The running sub-interval closes at an instant (R258, R259): its DEMAND record, the maxima, the boundary value. -/
def State.subClose (s : State) (g : Fin 2) (b : DevTime) (short : Bool) (flags : Nat) : List Rec × State :=
  let x := s.bil[g]
  match x.sub with
  | none => ([], s)
  | some u =>
    let cur := s.totals g
    let n := min x.k x.bnds.length
    let dif := fun (l : List Nat) (q : Nat) => (cur.getD q 0 + 2 ^ 64 - l.getD q 0) % 2 ^ 64
    let e := (List.range 8).map (dif (x.bnds.headD []))
    let w := (List.range 8).map (dif (x.bnds.getD (n - 1) []))
    let d := w.map (fun v => v * 60 / (x.lmin * 2 ^ 32))
    let idx := fun q => 8 * x.tariff + q
    let y := (List.range 8).foldl (fun (y : Bil) q => y.maxPut (idx q) (d.getD q 0) b) x
    let newmax := decide (y.maxd ≠ x.maxd)
    let r : Rec :=
      { cls := clsBIL, src := srcGrp g, flags := u.flags ||| flags, tStart := u.a, tEnd := b, si := u.si % 2 ^ 48, count := u.n,
        aux := bilAux 1 (u.short || short) newmax false false u.calchg x.tariff,
        payload := d.flatMap (leBytes 8) ++ e.flatMap (leBytes 8) ++ leBytes 1 n ++ leBytes 1 (x.tariff + 1) ++ leBytes 2 u.cal ++ zeros 4 }
    ([r], s.setBil g (fun _ => { y with sub := none, bnds := (cur :: x.bnds).take (max 1 x.k) }))

/-- A sub-interval opens at an instant; a fresh window has the present value as its only boundary (R259). -/
def State.subOpen (s : State) (g : Fin 2) (a : DevTime) (si : Nat) (fresh : Bool) : State :=
  s.setBil g (fun x =>
    { x with
      sub := some { a := a, si := si, short := !s.subBoundary g a, flags := x.openFl, cal := s.met.actId[g] }
      openFl := 0
      bnds := if fresh || x.bnds.isEmpty then [s.totals g] else x.bnds
      openAt := none
      fresh := false })

/-- The order of a group's BIL stream: its next record cannot start before its running sub-interval, or before what waits
for the journal. -/
def State.bilOrder (s : State) (g : Fin 2) : State :=
  let w := (s.bilOut.filter (fun e => e.2.src == srcGrp g)).map (fun e => e.2.tStart)
  let t := match s.bil[g].sub with | some u => w ++ [u.a] | none => w
  s.setOpen clsBIL 0 (srcGrp g) t.min?

/-- Emit records that need no journal entry of their own: behind those that still wait for one. -/
def State.bilEmit (s : State) (g : Fin 2) (l : List Rec) : State :=
  match (s.bilOut.filter (fun e => e.2.src == srcGrp g)).getLast? with
  | some (q, _) => { s with bilOut := s.bilOut ++ l.map (fun r => (q, r)) }
  | none => ((s.bilOrder g).emits l).release

/-- A journal entry is stored: the records that waited for it leave, in order (R404). -/
def State.journalDone (s : State) (seq : Nat) : State :=
  let (now, later) := s.bilOut.partition (fun e => decide (e.1 ≤ seq))
  let s := { s with bilOut := later }
  ((((s.bilOrder 0).bilOrder 1).emits (now.map Prod.snd))).release

/-- The snapshot of a billing close (R262, Table 13-8). -/
def State.snapBytes (s : State) (g : Fin 2) (t : DevTime) (period missed : Nat) : List Byte :=
  let x := s.bil[g]
  leBytes 8 t ++ leBytes 2 period ++ leBytes 2 s.met.actId[g] ++ leBytes 2 (s.gf BIL_CAL_CTRL_AID) ++ leBytes 2 (min missed 65535) ++
    (List.range 64).flatMap (fun i => leBytes 12 (SMap.get (fun _ => 0) x.treg i) ++ leBytes 4 (b2n (x.poison.contains i))) ++
    s.accSlots ((List.range 32).map (fun i => 32 * g.val + i)) ++ x.maxBytes

/-- Keep a snapshot as the newest of 12 and show it in BIL_SNAP. -/
def State.snapKeep (s : State) (g : Fin 2) (p : Snap) : State :=
  let s := s.setBil g (fun x => { x with snaps := (p :: x.snaps).take 12 })
  s.sfs [(BIL_SNAP_COUNT g, s.bil[g].snaps.length), (BIL_SNAP_PERIOD g, leAt p.body 8 2)]

/-- Queue the store of a snapshot (R262, R395). -/
def State.snapStore (s : State) (g : Fin 2) (p : Snap) : State :=
  s.storeRecord (if g = 0 then 6 else 7) (if g = 0 then 5 else 6) 5 (NvmKind.snapshot g) (p.body ++ leBytes 1 (b2n p.poison))

/-- The billing period closes at an instant (R262): the maxima before the reset, the record. -/
def State.periodClose (s : State) (g : Fin 2) (b : DevTime) (si missed : Nat) (miss : Bool) : List Rec × List Byte × State :=
  let period := (s.gf (BIL_STAT_PERIOD g) + 1) % 65536
  let body := s.snapBytes g b period missed
  let maxOld := s.bil[g].maxBytes
  let s := (s.snapKeep g { body := body }).snapStore g { body := body }
  let s := s.setBil g (fun x => { x with maxd := [], maxT := [], close := x.close.filter (fun t => decide (b < t)) })

  let s := s.sf (BIL_STAT_PERIOD g) period
  let r : Rec := { cls := clsBIL, src := srcGrp g, tStart := b, tEnd := b, si := si % 2 ^ 48,
                   flags := if s.bil[g].poison.isEmpty then 0 else flPoison, aux := bilAux 3 false false miss false false s.bil[g].tariff, payload := body }
  ([r], maxOld, s)

/-! ### The actions of one instant (R263, R267) -/

/-- The TARIFF record of a switch or an activation. -/
def State.tariffRec (s : State) (g : Fin 2) (b : DevTime) (si old new : Nat) (calact : Bool) : Rec :=
  { cls := clsBIL, src := srcGrp g, tStart := b, tEnd := b, si := si % 2 ^ 48, aux := bilAux 2 false false false calact false new,
    payload := leBytes 1 (old + 1) ++ leBytes 1 (new + 1) ++ leBytes 2 (s.gf BIL_CAL_CTRL_AID) ++ zeros 4 ++ leBytes 8 b }

/-- The calendar activates for a group at or before an instant. -/
def State.actFor (s : State) (g : Fin 2) : State :=
  if s.cals.useOld.testBit g then { s with cals := { s.cals with useOld := s.cals.useOld ^^^ 2 ^ g.val } }
  else
    let o : Fin 2 := 1 - g
    s.calActivate (if s.grp[o].running && !s.grp[o].monitor then 2 ^ o.val else 0)

/-- The actions of R263 for an instant b of group g with the step's end decided: sub-interval close, activation, tariff
switch, billing close. `nom` is the instant that a billing close states, `miss` whether it is a missed one, `period`
whether a period closes. -/
def State.billActs (s : State) (g : Fin 2) (b : DevTime) (si : Nat) (sub : Bool) (period : Option DevTime) (nMiss : Nat) (miss : Bool) : State :=
  let (r1, s) := if sub then s.subClose g b false 0 else ([], s)
  let act := s.activates g b
  let s := if act then s.actFor g else s
  let old := s.bil[g].tariff
  let new := s.tariffAt g b
  let sw := decide (old ≠ new)
  let (r2, s) := if sw then s.subClose g b true 0 else ([], s)
  let s := if sw then (s.setBil g (fun x => { x with tariff := new, fresh := true })).sf (BIL_STAT_TARIFF g) (new + 1) else s
  let r3 := if sw || act then [s.tariffRec g b si old new act] else []
  let (r4, maxOld, s) := match period with
    | some t => s.periodClose g t si nMiss miss
    | none => ([], s.bil[g].maxBytes, s)
  let s := if (sub || sw) && s.bil[g].openAt.isNone then s.subOpen g b si sw else s
  let s := s.setBilDone g (max (s.bilDone g) b)
  let acts := b2n sub + 2 * b2n act + 4 * b2n sw + 8 * b2n period.isSome
  let i : BilInst := { t := b, acts := acts, oldT := old, newT := s.bil[g].tariff, acc := (List.range 32).map (fun i => s.acc (32 * g.val + i) % 2 ^ 64) }
  let s := s.setBil g (fun x => { x with inst := some i })
  let (q, s) := if g = 0 then s.journal acts 0 else s.journal 0 acts
  let s := { s with bilOut := s.bilOut ++ (r1 ++ r2 ++ r3 ++ r4).map (fun r => (q, r)) }
  let s := s.bilOrder g
  if g = 0 then s.checkpointW 1 (if period.isSome then 1 else 0) maxOld s.bil[(1 : Fin 2)].maxBytes
  else s.checkpointW 1 (if period.isSome then 2 else 0) s.bil[(0 : Fin 2)].maxBytes maxOld

/-- The calendars as they stand for group g once what activates at an instant has activated. -/
def State.withActive (s : State) (g : Fin 2) (b : DevTime) : State :=
  if !s.activates g b then s
  else if s.cals.useOld.testBit g then { s with cals := { s.cals with useOld := 0 } }
  else State.sf { s with cals := { s.cals with act := s.cals.pas, useOld := 0 } } BIL_CAL_CTRL_AVALID 1

/-- A whole minute was a billing instant of a group that device time has passed. -/
def State.wasInstant (s : State) (g : Fin 2) (b : DevTime) : Bool :=
  decide (s.bilDone g < b) && (s.subBoundary g b || s.modeClose g b || s.bil[g].close == some b || s.cals.pasT == b ||
    s.tariffAt g b != s.tariffAt g (b - minuteT))

/-- The latest billing instant of a group at or before an instant that is not handled yet: with whole-minute sub-intervals
that divide an hour, one lies within the last hour. -/
def State.lastInstant (s : State) (g : Fin 2) (a : DevTime) : Option DevTime :=
  ((List.range 61).map (fun i => (a / minuteT - i) * minuteT)).find? (fun b => s.wasInstant g b)

/-- Every instant that device time passed without handling is handled together, at the first step close after the
resumption and before its energy is added (R267). -/
def State.billMissed (s : State) (g : Fin 2) (a : DevTime) (si : Nat) : State :=
  if !s.bil[g].resume || s.grp[g].shadow.isSome then s
  else
    let s := s.setBil g (fun x => { x with resume := false })
    let v := s.withActive g a
    match v.lastInstant g a with
    | none => s
    | some b =>
      let x := s.bil[g]
      let cal := v.calendar g
      let i0 := periodIndex x.bmode x.bday (localDay cal (s.bilDone g))
      let i1 := periodIndex x.bmode x.bday (localDay cal b)
      let n := if x.bmode = 1 ∨ x.bmode = 2 then (i1.1 - i0.1).toNat else 0
      let byMode := midnight cal i1.2
      let req : Option DevTime := match x.close with | some t => if t ≤ b then some t else none | none => none
      let nom : Option DevTime := match req with
        | some t => some (if n = 0 then t else max t byMode)
        | none => if n = 0 then none else some byMode
      let extra := match req with | some t => if n ≠ 0 && v.modeClose g t then 0 else 1 | none => 0
      s.billActs g b si false nom (n + extra) true

/-! ### Activation while no group is processed (R256) -/

/-- The slices process a group: it runs, and not in monitor mode. -/
def State.processed (s : State) (g : Fin 2) : Bool := s.grp[g].running && !s.grp[g].monitor

/-- A period boundary of a group, by its mode or by request, lies after BIL_DONE and not after an instant. -/
def State.closeDue (s : State) (g : Fin 2) (b : DevTime) : Bool :=
  let x := s.bil[g]
  let cal := s.calendar g
  let i := fun (t : DevTime) => (periodIndex x.bmode x.bday (localDay cal t)).1
  ((x.bmode = 1 || x.bmode = 2) && decide (i (s.bilDone g) < i b)) || (match x.close with | some t => decide (t ≤ b) | none => false)

/-- A group that is not processed has handled an activation when no period boundary before it waits for the group's resumption
(log entry 71). -/
def State.actNote (s : State) (g : Fin 2) (b : DevTime) : State :=
  if s.bilDone g < b ∧ !s.closeDue g b then (s.setBilDone g b).setBil g (fun x => { x with tariff := s.tariffAt g b }) else s

/-- Device time has reached the activation instant while no group is processed, outside a halt or a shadow span: the calendar
activates there and then (R256). A group that is processed activates it with its step that ends there. -/
def State.calReach (s : State) : State :=
  if s.isReady && s.gb BIL_CAL_CTRL_PVALID && decide (s.cals.pasT ≤ s.now) && !s.time.frozen && !s.gb TIME_STATUS_SHADOW && !s.switching &&
      !s.gb SLICE_STAT_LOST && !s.processed 0 && !s.processed 1 then
    let b := s.cals.pasT
    let s := s.calActivate 0
    let old := (s.bilDone 0, s.bilDone 1)
    let s := (s.actNote 0 b).actNote 1 b
    (s.journal (if old.1 = s.bilDone 0 then 0 else 2) (if old.2 = s.bilDone 1 then 0 else 2)).2
  else s

/-- The end of an accumulated step is a billing instant (R263), or a fence that ends the sub-interval (R259). -/
def State.billEnd (s : State) (g : Fin 2) (e : StepEnd) : State :=
  let b := e.b
  let si := e.si + e.k
  let x := s.bil[g]
  if s.billInstant g b then
    let per := (s.withActive g b).modeClose g b || x.close == some b
    s.billActs g b si (s.subBoundary g b) (if per then some b else none) 0 false
  else if x.cuts.contains b then
    let (l, s) := s.subClose g b true 0
    let s := s.setBil g (fun x => { x with cuts := x.cuts.filter (· != b) })
    (if l.isEmpty then s else s.subOpen g b si false).bilEmit g l
  else s

/-- A sub-interval that waits for its first step opens with it. -/
def State.billOpen (s : State) (g : Fin 2) (e : StepEnd) : State :=
  match s.bil[g].openAt with
  | some t => if t ≤ e.a && s.grp[g].shadow.isNone then (s.subOpen g t e.si s.bil[g].fresh).bilOrder g else s
  | none => s

/-- The increments of a group's total accumulators go to the tariff in force and to the running sub-interval (R250). -/
def State.billAdd (s : State) (g : Fin 2) (e : StepEnd) (incs : List (Nat × Nat)) : State :=
  s.setBil g (fun x =>
    let tot := incs.filter (fun i => decide (24 ≤ i.1))
    let reg := tot.foldl (fun (m : SMap Nat) i =>
      let k := 8 * x.tariff + (i.1 - 24)
      SMap.set (fun _ => 0) m k ((SMap.get (fun _ => 0) m k + i.2) % 2 ^ 96)) x.treg
    { x with
      treg := reg
      sub := x.sub.map (fun u =>
        { u with
          n := u.n + e.k
          flags := u.flags ||| e.flags
          calchg := u.calchg || decide (u.cal ≠ s.met.actId[g])
          cal := s.met.actId[g] }) })

/-- An accumulation step closes (R149, R150, R155, R250, R263): its energies, the CF residues, the billing instant at its
end. -/
def State.stepClose (s : State) (g : Fin 2) (e : StepEnd) : State :=
  let s := s.billMissed g e.a e.si
  let s := s.billOpen g e
  let (incs, s) := s.accumulate g e
  let s := s.billAdd g e incs
  let s := s.cfClose g e.d incs
  let s := { s with met := { s.met with cfGo := true } }
  s.billEnd g e

/-- Every step of a group that has ended is closed, at most `fuel`. -/
def State.stepsGo (g : Fin 2) : Nat → State → State
  | 0, s => s
  | k + 1, s =>
    match s.grp[g].steps with
    | [] => s
    | e :: l => State.stepsGo g k (State.stepClose (s.setGrp g (fun gr => { gr with steps := l })) g e)

/-- Close every step that has ended. -/
def State.stepsSettle (s : State) (g : Fin 2) : State := State.stepsGo g s.grp[g].steps.length s

/-- An accumulation step of a group closes. -/
def execAccumulationStepClose (g : Fin 2) (s : State) : Host.Outcome State Fault Refusal :=
  .next (if s.isReady && !s.switching then State.stepsGo g 1 s else s)

/-! ### Starting and stopping -/

/-- Billing starts with a group's first sample (R257, R259, R267); `fl` states why its first sub-interval is short (R25). -/
def State.bilStart (s : State) (g : Fin 2) (t : DevTime) (fresh : Bool) (fl : Nat) : State :=
  let sh := s.grp[g].shadow.isSome
  let s := s.setBil g (fun x => { x with openAt := if sh then none else some t, fresh := fresh || x.fresh, openFl := fl, resume := true, cuts := [] })
  let ta := if sh then s.bil[g].tariff else (s.withActive g t).tariffAt g t
  s.sfs [(BIL_STAT_TARIFF g, ta + 1), (BIL_STAT_HOLD g, b2n sh)]

/-- BIL_CFG is sampled at START (R257). -/
def State.bilSample (s : State) (g : Fin 2) : State :=
  s.setBil g (fun x => { x with lmin := demL (s.gf (BIL_CFG_DEM_L g)), k := s.gf (BIL_CFG_NSUB g), bmode := s.gf (BIL_CFG_BMODE g), bday := s.gf (BIL_CFG_BDAY g) })

/-- The running sub-interval ends with its production, shortened, with the flag of the cause (R259, R266, R267). -/
def State.bilEnd (s : State) (g : Fin 2) (b : DevTime) (flags : Nat) : State :=
  match s.bil[g].sub with
  | none => s.bilOrder g
  | some u =>
    if u.a = b ∧ u.n = 0 then (s.setBil g (fun x => { x with sub := none })).bilOrder g
    else
      let (l, s) := s.subClose g b true flags
      s.bilEmit g l

/-- The group is no longer processed. -/
def State.bilOff (s : State) (g : Fin 2) : State := s.sfs [(BIL_STAT_TARIFF g, 0), (BIL_STAT_HOLD g, 0)]

/-! ### Registers (R252, R253, R255, R261, R269) -/

/-- A write to the blocks 0x0A00 and 0x1000 waits while a switch-over runs (R428). -/
def State.orDefer (s : State) (p : Port) (off : Nat) (v : Word) (f : State → State) : State :=
  if s.switching then { s with deferW := s.deferW ++ [(p, off, v)] } else f s

/-- The LOG TARIFF_CLEAR record of a group (R323). -/
def State.logTariff (s : State) (g : Fin 2) : State :=
  s.log 7 0 (leBytes 1 g ++ zeros 7 ++ (List.range 64).flatMap (fun i =>
    leBytes 12 (SMap.get (fun _ => 0) s.bil[g].treg i) ++ leBytes 4 (b2n (s.bil[g].poison.contains i))) ++ s.bil[g].maxBytes)

/-- Clear the tariff registers and maximum demands of a group, and PERIOD. -/
def State.tariffReset (s : State) (g : Fin 2) : State :=
  (s.setBil g (fun x => { x with treg := [], poison := [], maxd := [], maxT := [] })).sf (BIL_STAT_PERIOD g) 0

/-- A write of BIL_CTRL (R252, R261). -/
def State.wrBilCtrl (s : State) (p : Port) (v : Word) : State :=
  let w := v.toNat
  s.rws p 0x1000 v 0 (w % 8 ≠ 0) id (fun s =>
    let req := fun (s : State) (g : Fin 2) =>
      if w.testBit g && !s.grpFused g && s.bil[g].close.isNone then
        s.setBil g (fun x => { x with close := some ((s.now / minuteT + 1) * minuteT) })
      else s
    let s := req (req s 0) 1
    if w.testBit 2 then
      if s.grp[(0 : Fin 2)].running || s.grp[(1 : Fin 2)].running then (decide (w % 4 ≠ 0), s.sf BIL_ERR_TCLR_RUNNING 1)
      else (true, (((((s.logTariff 0).logTariff 1).tariffReset 0).tariffReset 1).highClear 64 192))
    else (true, s))

/-- A write of BIL_CFGg (R257). -/
def State.wrBilCfg (s : State) (p : Port) (g : Fin 2) (v : Word) : State :=
  let w := v.toNat
  let old := [s.gf (BIL_CFG_DEM_L g), s.gf (BIL_CFG_NSUB g), s.gf (BIL_CFG_BMODE g), s.gf (BIL_CFG_BDAY g)]
  let new := [w % 8, w / 16 % 16, w / 256 % 4, w / 65536 % 32]
  if s.grpFused g then s
  else s.rws p (0x1008 + 4 * g.val) v 0 (decide (old ≠ new)) id (fun s =>
    if s.grp[g].running then (false, s.sf BIL_ERR_CFG_RUNNING 1)
    else (true, s.sfs [(BIL_CFG_DEM_L g, w), (BIL_CFG_NSUB g, w / 16), (BIL_CFG_BMODE g, w / 256), (BIL_CFG_BDAY g, w / 65536)]))

/-- A write of BIL_CAL_DATA that changes the passive word at ADDR (R515) replaces it, and PVALID clears (R253, R255). -/
def State.wrBilCalData (s : State) (p : Port) (v : Word) : State :=
  let a := s.gf BIL_CAL_ADDR_ADDR
  if 0x150 < a then s
  else
    let w := v.toNat &&& imgMask a
    s.rws p 0x1044 v a (decide (w ≠ imgWord s.cals.pas a)) id (fun s =>
      (true, State.sf { s with cals := { s.cals with pas := SMap.set (fun _ => 0) s.cals.pas a w } } BIL_CAL_CTRL_PVALID 0))

/-- The word that BIL_CAL_DATA reads. -/
def State.rdBilCalData (s : State) : Nat := imgWord (if s.gb BIL_CAL_ADDR_SEL then s.cals.act else s.cals.pas) (s.gf BIL_CAL_ADDR_ADDR)

/-- A write of BIL_CAL_CTRL (R255). -/
def State.wrBilCalCtrl (s : State) (p : Port) (v : Word) : State :=
  s.rws p 0x1048 v 0 (v.toNat.testBit 0) id State.calendarCommit

/-- A write of BIL_SEL latches the selected value into BIL_VAL0 to BIL_VAL4 (Table 11-6). -/
def State.wrBilSel (s : State) (v : Word) : State :=
  let w := v.toNat
  let kind := w % 4
  let g : Fin 2 := if w.testBit 2 then 1 else 0
  let i := 8 * (w / 16 % 8) + w / 256 % 8
  let age := w / 4096 % 16
  let s := s.sfs [(BIL_SEL_KIND, w), (BIL_SEL_GROUP, w / 4), (BIL_SEL_TARIFF, w / 16), (BIL_SEL_QTY, w / 256), (BIL_SEL_SNAP, w / 4096)]
  let x := s.bil[g]
  let put := fun (v0 v1 v2 v3 period valid poison : Nat) => s.sfs [(BIL_VAL0_V0, v0), (BIL_VAL1_V1, v1), (BIL_VAL2_V2, v2), (BIL_VAL3_V3, v3),
    (BIL_VAL4_PERIOD, period), (BIL_VAL4_VALID, valid), (BIL_VAL4_POISON, poison)]
  let reg := fun (n period poison : Nat) => put n (n / 2 ^ 32) (n / 2 ^ 64) 0 period 1 poison
  let dem := fun (d t period poison : Nat) => put d (d / 2 ^ 32) t (t / 2 ^ 32) period 1 poison
  if s.grpFused g then put 0 0 0 0 0 0 0
  else match kind with
    | 0 => reg (SMap.get (fun _ => 0) x.treg i) 0 (b2n (x.poison.contains i))
    | 1 => dem (SMap.get (fun _ => 0) x.maxd i) (SMap.get (fun _ => 0) x.maxT i) 0 0
    | k =>
      match x.snaps[age]? with
      | none => put 0 0 0 0 0 0 0
      | some p =>
        let per := leAt p.body 8 2
        if k = 2 then reg (leAt p.body (0x10 + 16 * i) 12) per (if p.poison then 1 else leAt p.body (0x1C + 16 * i) 4 % 2)
        else dem (leAt p.body (0x610 + 16 * i) 8) (leAt p.body (0x618 + 16 * i) 8) per (b2n p.poison)

/-- A write of BIL_CTRL with TCLR. -/
def execTariffClear (port : Port) (value : Word) (s : State) : Host.Outcome State Fault Refusal :=
  .next (if s.serving then s.orDefer port 0x1000 value (fun s => s.wrBilCtrl port value) else s)

/-- A write of BIL_CTRL with CLOSE_A or CLOSE_B. -/
def execBillingCloseRequest (port : Port) (value : Word) (s : State) : Host.Outcome State Fault Refusal :=
  .next (if s.serving then s.orDefer port 0x1000 value (fun s => s.wrBilCtrl port value) else s)

/-- A write of BIL_CAL_DATA. -/
def execCalendarWordWrite (port : Port) (value : Word) (s : State) : Host.Outcome State Fault Refusal :=
  .next (if s.serving then s.orDefer port 0x1044 value (fun s => s.wrBilCalData port value) else s)

/-- A write of BIL_CAL_CTRL. -/
def execCalendarCommit (port : Port) (value : Word) (s : State) : Host.Outcome State Fault Refusal :=
  .next (if s.serving then s.orDefer port 0x1048 value (fun s => s.wrBilCalCtrl port value) else s)

/-- A write of BIL_SEL. -/
def execBilSelLatch (value : Word) (s : State) : Host.Outcome State Fault Refusal :=
  .next (if s.serving then s.orDefer .pcie 0x1060 value (fun s => s.wrBilSel value) else s)

/-! ### Writes of the metrology block (R159 to R161, R170) -/

/-- A write of MET_ESEL latches the selected accumulator, with every step whose cycle has completed, and the step-end time
(R160). -/
def State.wrMetEsel (s : State) (v : Word) : State :=
  let w := v.toNat
  let g : Fin 2 := if w.testBit 8 then 1 else 0
  let s := s.stepsSettle g
  let s := s.sfs [(MET_ESEL_QTY, w), (MET_ESEL_PHASE, w / 16), (MET_ESEL_GROUP, w / 256)]
  let n := if s.grpFused g then 0 else s.acc (accIdx g (w / 16 % 4) (w % 8))
  let t := if s.grpFused g then 0 else s.met.doneT[g]
  s.sfs [(MET_EVAL_FRAC_FRAC, n), (MET_EVAL_LO_COUNT_LO, n / 2 ^ 32), (MET_EVAL_HI_COUNT_HI, n / 2 ^ 64), (MET_EVAL_HI_WRAP, n / 2 ^ 80),
    (MET_EVAL_HI_TOP, n / 2 ^ 88), (MET_EVAL_T_LO_FRAC, t), (MET_EVAL_T_HI_SEC, t / 2 ^ 32)]

/-- A write of MET_ESEL latches the selected accumulator and its step-end time. -/
def execMetEselLatch (value : Word) (s : State) : Host.Outcome State Fault Refusal :=
  .next (if s.serving then s.orDefer .pcie 0xA20 value (fun s => s.wrMetEsel value) else s)

/-- A write of MET_CTRL; the high cells of cleared accumulators follow. -/
def State.metCtrl (s : State) (p : Port) (v : Word) : State :=
  let s' := s.wrMetCtrl p v
  if s'.met.acc.isEmpty && !s.met.acc.isEmpty then s'.highClear 0 64 else s'

/-- A write of MET_CTRL. -/
def execEnergyClear (port : Port) (value : Word) (s : State) : Host.Outcome State Fault Refusal :=
  .next (if s.serving then s.orDefer port 0xA00 value (fun s => s.metCtrl port value) else s)

/-- A write of CAL_SCALE, CAL_CFG or CAL_OFS of channel n. -/
def execCalConstantWrite (port : Port) (n : Fin 16) (r : Fin 3) (value : Word) (s : State) : Host.Outcome State Fault Refusal :=
  .next (if s.serving then s.orDefer port (0xB00 + 16 * n.val + 4 * r.val) value (fun s => s.wrCal port n r value) else s)

/-- A write of CAL_CTRL. -/
def execCalCommit (port : Port) (value : Word) (s : State) : Host.Outcome State Fault Refusal :=
  .next (if s.serving then s.orDefer port 0xA04 value (fun s => s.wrCalCtrl port value) else s)

/-- A write of CF_CFGm, or of CF_CONSTm. -/
def execCfCfgWrite (port : Port) (m : Fin 4) (const : Bool) (value : Word) (s : State) : Host.Outcome State Fault Refusal :=
  .next (if s.serving then
      s.orDefer port (0xA60 + 16 * m.val + (if const then 4 else 0)) value (fun s => if const then s.wrCfConst port m value else s.wrCfCfg port m value)
    else s)

end Sys2Proof.Machine
end

