-- ==== Sys2Proof/Machine/Sar.lean ====
section
/-! DEFINITION. The transient pairs, SARCAL, the fast comparators and the house converter (chapter 5), supraharmonics
(R189 to R195) and their aggregates (R222), and transient events (R209 to R211). -/

namespace Sys2Proof.Machine

/-! ### Pairs and their time base (R100 to R104, R126 to R129) -/

/-- Change the converters' state, and one pair. -/
def State.setSar (s : State) (f : Sar → Sar) : State := { s with sar := f s.sar }
def State.setTs (s : State) (n : Fin 8) (f : Tsar → Tsar) : State := s.setSar (fun x => { x with pairs := x.pairs.set n (f x.pairs[n]) })

/-- A pair's state. -/
abbrev State.ts (s : State) (n : Fin 8) : Tsar := s.sar.pairs[n]

/-- The pair produces samples. -/
def State.tsOn (s : State) (n : Nat) : Bool := s.mbit TSAR_CTRL_ON n
/-- The pair's EN bit. -/
def State.tsEn (s : State) (n : Nat) : Bool := s.mbit TSAR_CTRL_EN n

/-- The anchor in force at an index, its time there, and the time one past it. -/
def Tsar.anchorAt (x : Tsar) (i : Nat) : Anchor := (x.anchors.find? (fun a => decide (a.n ≤ i))).getD { n := 0, ta := [], p := 0 }
def Tsar.time (x : Tsar) (i : Nat) : DevTime := (x.anchorAt i).time 0 i
def Tsar.timeEnd (x : Tsar) (i k : Nat) : DevTime := if k = 0 then x.time i else (x.anchorAt (i + k - 1)).time 0 (i + k)

/-- The instant one past the last sample of a pair. -/
def Tsar.endTime (x : Tsar) : DevTime := if x.idx = 0 then x.time 0 else x.timeEnd (x.idx - 1) 1

/-- P_a of a transient input (R127). -/
def State.tsPeriod (s : State) : Nat := 24 * s.inc / 5

/-- Publish an anchor of a pair (R128, R129, R322). -/
def State.tsPublish (s : State) (n : Fin 8) (i t cause : Nat) : State :=
  let a : Anchor := { n := i, ta := [t], p := s.tsPeriod }
  let s := s.setTs n (fun x => { x with anchors := a :: x.anchors, due := none, delta := 0 })
  let body := leBytes 1 1 ++ leBytes 1 cause ++ zeros 6 ++ leBytes 2 (srcTr n) ++ leBytes 2 0 ++ zeros 4 ++ leBytes 8 (i % 2 ^ 48) ++
    leBytes 12 t ++ zeros 4 ++ leBytes 8 a.p
  s.anchorEmit { cls := clsLOG, src := srcTr n, si := i % 2 ^ 48, tStart := a.time 0 i, tEnd := a.time 0 i, aux := 1, payload := body }

/-! ### Sample, gap and event records of an input (R24, R103, R211, R310) -/

/-- A gap record of an input on one class, with further flags. -/
def tsGapRec (cls : Nat) (n : Fin 8) (cause : Nat) (a b : DevTime) (i k flags : Nat) : Rec :=
  let r := gapRec cls (srcTr n) { cause := cause, tStart := a, tEnd := b, si := i % 2 ^ 48, count := k }
  { r with flags := r.flags ||| flags }

/-- The discarded run of an input from index `a` on becomes a gap record with cause CORE_STALL (R16). What lies in a shadow span in
progress is covered at the span's end (R28, R134). -/
def State.tsLost (s : State) (n : Fin 8) (a k : Nat) : State :=
  let k := match (s.ts n).shadow with | some i => min k (i - a) | none => k
  if k = 0 then s
  else
    let g : Gap := { cause := gapCoreStall, tStart := (s.ts n).time a, tEnd := (s.ts n).timeEnd a k, si := a % 2 ^ 48, count := k }
    (s.gapOn [clsSMP] (srcTr n) g).capGap (srcTr n) g

/-- Close the SMP record of an input, with flags; nothing when it holds no sample. Discarded runs before it have their gaps first (R25). -/
def State.tsRelease (s : State) (n : Fin 8) (flags : Nat) : State :=
  let x := s.ts n
  match x.smp with
  | [] => s
  | (i, _) :: _ =>
    let k := x.smp.length
    let s := (x.lost.filter (fun r => decide (r.1 < i))).foldl (fun (s : State) r => s.tsLost n r.1 r.2) s
    let s := s.setTs n (fun y => { y with smp := [], lost := x.lost.filter (fun r => decide (i ≤ r.1)), holes := y.holes ++ x.lost.filter (fun r => decide (r.1 < i)) })
    s.emit { cls := clsSMP, src := srcTr n, flags := flags, tStart := x.time i, tEnd := x.timeEnd i k, si := i % 2 ^ 48, count := k,
             aux := x.smp.foldl (fun a e => a ||| e.2 / 2 ^ 12) 0, payload := x.smp.flatMap (fun e => leBytes 2 e.2) }

/-- An EVT record of an input covers the indices from one past its previous record to one before `last1` (R211). -/
def State.tsEvt (s : State) (n : Fin 8) (aux last1 flags : Nat) (payload : List Byte) : State :=
  let x := s.ts n
  let k := last1 - x.evCov
  let s := s.setTs n (fun x => { x with evCov := max x.evCov last1 })
  s.emit { cls := clsEVT, src := srcTr n, flags := flags, tStart := x.time x.evCov, tEnd := x.timeEnd x.evCov k, si := x.evCov % 2 ^ 48, count := k,
           aux := aux, payload := payload }

/-- The EVAL record of an input's event stream. -/
def State.tsEval (s : State) (n : Fin 8) (flags : Nat) : State := s.tsEvt n 0x30 (s.ts n).idx flags []

/-- The TBURST record of the entries that a second withheld (R210). -/
def State.tsBurst (s : State) (n : Fin 8) : State :=
  let x := s.ts n
  if x.wl + x.wd = 0 then s
  else
    let s := s.setTs n (fun x => { x with wl := 0, wd := 0 })
    s.tsEvt n 0x21 (x.last + 1) 0 (leBytes 4 x.wl ++ leBytes 4 x.wd ++ leBytes 8 (x.last % 2 ^ 48))

/-! ### Supraharmonics (R189 to R195) -/

/-- Transient indices of a window and of a run, and the filter's support on either side. -/
abbrev supWin : Nat := 102400
abbrev supRunLen : Nat := 4096000
abbrev supPad : Nat := 1024

/-- The first index of the input's next used window. -/
def Tsar.supNext (x : Tsar) : Nat := cdiv (max (x.supFrom + supPad) x.supCov) supWin * supWin

/-- The order of an input's records on its SPC and AGG rings. -/
def State.supOrder (s : State) (n : Fin 8) : State :=
  let x := s.ts n
  let on := s.supraOn.testBit n && s.tsOn n && x.shadow.isNone
  let t := x.time x.supNext
  let lv := fun (i : Fin 2) =>
    if !on || !x.agg then none else some (if x.lvls[i].isOpen then x.lvls[i].a else (if i = 0 then t / tenMin * tenMin else t / twoHour * twoHour))
  ((s.setOpen clsSPC 0 (srcTr n) (if on then some t else none)).setOpen clsAGG 1 (srcTr n) (lv 0)).setOpen clsAGG 2 (srcTr n) (lv 1)

/-- The nominal length of a supraharmonic level. -/
def supLen (i : Fin 2) : Nat := if i = 0 then tenMin else twoHour

/-- The binary32 bits of SCALE × √x for a SCALE given by its bits (R190): an infinite or NaN SCALE acts as IEEE 754 has it. -/
def supBits (scale : Nat) (x : Rat) : Nat :=
  match f32val scale with
  | some v => f32sqrt (x * v * v) + (if v < 0 ∧ x ≠ 0 then 2 ^ 31 else 0)
  | none => if scale % 2 ^ 23 = 0 ∧ x ≠ 0 then scale else nan32

/-- A level of an input closes: its SUPRA10 or SUPRA2H record and its values (R195, R222, R227, R232). -/
def State.supClose (s : State) (n : Fin 8) (i : Fin 2) (flags : Nat) : State :=
  let l := (s.ts n).lvls[i]
  if !l.isOpen then s
  else
    let sq := l.sums.map (fun x => if l.m = 0 then 0 else x / ((l.m : Nat) : Rat))
    let vals := (List.range 706).map (fun b => ((0x40 + b / 256) * 65536 + n.val * 256 + b % 256, supBits (s.gf (SUPRA_SCALE_SCALE n)) (sq.getD b 0)))
    let last := if (s.carrier clsAGG (srcTr n) (i.val + 1)).isSome then l.nom + 1 else l.lastNom
    let s := s.setTs n (fun x => { x with lvls := x.lvls.set i { lastNom := last } })
    s.emitL (i.val + 1)
      { cls := clsAGG, src := srcTr n, flags := l.flags ||| flags, tStart := l.a, tEnd := l.nom + supLen i, si := l.si % 2 ^ 48, count := l.n,
        aux := 5 + i.val + 65536 * min l.runs 65535, payload := leBytes 4 l.m ++ vals.flatMap (fun v => leBytes 4 v.2), vals := vals }

/-- A run enters a level. -/
def State.supAdd (s : State) (n : Fin 8) (i : Fin 2) (a : DevTime) (si k m flags : Nat) (sums : List Rat) : State :=
  s.setTs n (fun x =>
    let l := x.lvls[i]
    let nom := a / supLen i * supLen i
    let again := decide (l.lastNom = nom + 1)
    let l : SupLvl := if l.isOpen then l else
      { isOpen := true, nom := nom, a := if again then a else nom, si := si, flags := if again then flPartial else 0, lastNom := l.lastNom }
    let l := { l with n := l.n + k, m := l.m + m, runs := l.runs + 1, flags := l.flags ||| flags }
    let l := { l with sums := (List.range 706).map (fun b => l.sums.getD b 0 + sums.getD b 0) }
    { x with lvls := x.lvls.set i l })

/-- 2|X|² / 5120² of the 706 bands of a window of decimated samples (R190). -/
def supBands (xs : List Rat) : List Rat :=
  (List.range 706).map (fun b => let x := dftBin xs (45 + b); 2 * (x.1 * x.1 + x.2 * x.2))

/-- The SUPRA record of a run's used windows from index `w0` on, with the decimated samples of each window (R190, R195), and its part in
the levels, which hold the values before SCALE. -/
def State.supRecord (s : State) (n : Fin 8) (w0 m : Nat) (xs : List (List Rat)) (flags : Nat) : State :=
  let x := s.ts n
  let sc := s.gf (SUPRA_SCALE_SCALE n)
  let win := xs.map supBands
  let sums := (List.range 706).map (fun b => (win.map (fun w => w.getD b 0)).sum)
  let mean := sums.map (fun v => if m = 0 then 0 else v / (m : Rat))
  let best := (List.range 706).foldl (fun (a : Nat) b => if mean.getD a 0 < mean.getD b 0 then b else a) 0
  let maxs := (List.range 706).map (fun b => (win.map (fun w => w.getD b 0)).foldl max 0)
  let k := m * supWin
  let a := x.time w0
  let b := x.timeEnd w0 k
  let body := leBytes 1 m ++ [0] ++ leBytes 2 best ++ mean.flatMap (fun v => leBytes 4 (supBits sc v)) ++
    (if s.gb SUPRA_CTRL_MAX then maxs.flatMap (fun v => leBytes 4 (supBits sc v)) else [])
  let s := s.setTs n (fun x => { x with supCov := w0 + k, supFlag := 0 })
  let s := s.supOrder n
  let s := s.emit { cls := clsSPC, src := srcTr n, flags := flags, tStart := a, tEnd := b, si := w0 % 2 ^ 48, count := k, aux := 2, payload := body }
  if !x.agg then s
  else
    let one := fun (s : State) (i : Fin 2) =>
      let s := if (s.ts n).lvls[i].isOpen && decide ((s.ts n).lvls[i].nom + supLen i ≤ a) then s.supClose n i 0 else s
      let s := s.supAdd n i a w0 k m flags sums
      if (s.ts n).lvls[i].nom + supLen i ≤ b then s.supClose n i 0 else s
    ((one (one s 0) 1).supOrder n).release

/-- A gap covers the indices of the SPC stream, and of the aggregates, from the last covered one up to `to`. -/
def State.supGapTo (s : State) (n : Fin 8) (lim cause flags : Nat) : State :=
  let x := s.ts n
  if lim ≤ x.supCov then s
  else
    let k := lim - x.supCov
    let s := s.setTs n (fun x => { x with supCov := lim })
    let r := fun cls => tsGapRec cls n cause (x.time x.supCov) (x.timeEnd x.supCov k) x.supCov k flags
    let s := (s.supOrder n).emit (r clsSPC)
    if x.agg then (s.emitL 1 (r clsAGG)).emitL 2 (r clsAGG) else s

/-- Free decimated samples of `m` windows: a run whose transform no command has delivered when it is cut. -/
def State.supFree (s : State) (m : Nat) : List (List Rat) × State :=
  ((List.range m).map (fun j => (List.range 5120).map (fun b => Config.freeRat (s.free + 5120 * j + b))), { s with free := s.free + 5120 * m })

/-- The end of the run that holds an input's next used window. -/
def Tsar.supEnd (x : Tsar) : Nat := (x.supNext / supRunLen + 1) * supRunLen

/-- The run of the next used window gives its record, with the windows whose span and filter support lie below index `lim`. A record of the first run since a start
or a step carries the flag of what opened it; the run in which production was cut carries the flag `cut` (R193, R229). -/
def State.supRun (s : State) (n : Fin 8) (lim cut : Nat) (xs : Option (List (List Rat))) : State :=
  let x := s.ts n
  let w0 := x.supNext
  let e := min x.supEnd ((lim - supPad) / supWin * supWin)
  if e ≤ w0 then s
  else
    let m := (e - w0) / supWin
    let fl := (x.supFlag &&& (flPoison ||| flHalt ||| flTimestep ||| flReset ||| flPartial)) ||| (if lim < x.supEnd + supPad then cut else 0)
    let s := s.supGapTo n w0 x.supCause (if x.supFlag &&& flTimestep = 0 then 0 else flTimestep)
    let (xs, s) := match xs with
      | some xs => (xs, s)
      | none => s.supFree m
    s.supRecord n w0 m xs fl

/-- Outstanding runs, and the run that index `lim` cuts, give their records. -/
def State.supRuns (s : State) (n : Fin 8) (lim cut : Nat) : State :=
  let x := s.ts n
  (List.range ((lim - x.supNext) / supRunLen + 2)).foldl (fun (s : State) _ => s.supRun n lim cut none) s

/-- The input's supraharmonic production is cut: outstanding runs and the partial run give their records, the levels close
with the flag of the cut, and a gap covers the indices in no used window (R193). -/
def State.supCut (s : State) (n : Fin 8) (cut cause : Nat) : State :=
  if !s.supraOn.testBit n then s
  else
    let x := s.ts n
    let s := s.supRuns n x.idx cut
    let s := (s.supClose n 0 cut).supClose n 1 cut
    let cause := if (s.ts n).supCov ≤ x.supFrom then min cause x.supCause else cause
    s.supGapTo n x.idx cause (if cut = flTimestep then flTimestep else 0)

/-- Discarded indices end a run of windows (R16, R193): the windows before them give their records, and one gap covers what lies in no
used window, with the cause CORE_STALL. The run falls short of its 40 windows on either side (R25). -/
def State.supHole (s : State) (n : Fin 8) (a k : Nat) : State :=
  if !s.supraOn.testBit n then s
  else
    let s := s.supRuns n a flPartial
    (s.setTs n (fun x => { x with supFrom := a + k, supCause := gapCoreStall, supFlag := flPartial })).supOrder n

/-- The gap of an enabled input that the engine does not process, up to now (R197, R385). -/
def State.supGapOut (s : State) (n : Fin 8) : State :=
  match (s.ts n).supGap with
  | none => s
  | some (cause, _) => s.supGapTo n (s.ts n).idx cause 0

/-- The engine stops processing an input (R385). -/
def State.supDrop (s : State) (n : Fin 8) : State :=
  let x := s.ts n
  let s := s.setTs n (fun x => { x with supGap := some (gapFenced, x.supCov), lvls := Vector.replicate 2 {} })
  ((s.setOpen clsSPC 0 (srcTr n) none).setOpen clsAGG 1 (srcTr n) none).setOpen clsAGG 2 (srcTr n) none

/-- After a SPEC bank was fenced: inputs that stopped since `old`, and a free bit for each of the others whether its run
used the bank. -/
def State.supSync (s : State) (old : Nat) : State :=
  (fins 8).foldl (fun (s : State) (n : Fin 8) =>
    if old.testBit n && !s.supraOn.testBit n then s.supDrop n
    else if s.supraOn.testBit n then
      let (hit, s) := s.drawBool
      if hit then s.setTs n (fun x => { x with supFlag := x.supFlag ||| flPoison }) else s
    else s) s

/-- A run of 40 windows ends, or what a start or a discard left of it: the decimated samples of its used windows, 5120 each (R189; log
entry 22). A run with discarded indices waits for their gap. -/
def execSupraRecordComplete (n : Fin 8) (xs : List (List Rat)) (s : State) : Host.Outcome State Fault Refusal :=
  let x := s.ts n
  let e := x.supEnd
  .next (if s.isReady && !s.wedged 2 && s.supraOn.testBit n && s.tsOn n && x.shadow.isNone && decide (e + supPad ≤ x.idx) && (x.lost ++ x.holes).all (fun r => decide (e + supPad ≤ r.1)) &&
      decide (xs.length = (e - x.supNext) / supWin) && xs.all (fun w => w.length == 5120) then
    (s.supRun n (e + supPad) 0 (some xs)).release else s)

/-! ### Fast comparators and FASTEVT (R111 to R114) -/

/-- A comparator's state field. -/
def fastState (n : Nat) (dvdt : Bool) : Fld := if dvdt then FAST_DVDT_DVDT_STATE n else FAST_DVDT_LVL_STATE n

/-- FASTEVTm's OR of the selected comparators. -/
def State.fastAny (s : State) (m : Nat) : Bool :=
  let k := s.gf (if m = 0 then FAST_PIN_CTRL_MASK0 else FAST_PIN_CTRL_MASK1)
  (List.range 8).any (fun n => (k.testBit (2 * n) && s.gb (FAST_DVDT_LVL_STATE n)) || (k.testBit (2 * n + 1) && s.gb (FAST_DVDT_DVDT_STATE n)))

/-- The pins follow their comparators; a deassertion holds them for HOLD (R112). -/
def State.fastPins (s : State) : State :=
  [0, 1].foldl (fun (s : State) m =>
    if s.fastAny m then s.smbit FAST_PIN_CFG_STATE m true
    else if s.gf FAST_PIN_CFG_HOLD = 0 then s.smbit FAST_PIN_CFG_STATE m false
    else s) s

/-- The hold time after the last deassertion expires. -/
def execFastevtHoldExpire (m : Fin 2) (s : State) : Host.Outcome State Fault Refusal :=
  .next (if s.fastAny m then s else s.smbit FAST_PIN_CFG_STATE m false)

/-- |x| of a code, −2048 taken as 2047. -/
def fastMag (x : Int) : Nat := min x.natAbs 2047

/-- An assertion enters the fast event FIFO of 32 entries, or is dropped (R114); a selected one triggers a capture
(R216). -/
def State.fastEntry (s : State) (n : Fin 8) (dvdt : Bool) (i : Nat) (code prev : Int) : State :=
  let full := decide (32 ≤ s.sar.fastq.length)
  let s :=
    if full then (s.incWrap FAST_DROP_COUNT 1).setSar (fun x => { x with fastLost := true })
    else
      let pre : Int := if dvdt then prev else 0
      let thr := if dvdt then s.gf (FAST_DVDT_STEP n) else s.gf (FAST_LVL_LEVEL n)
      let e : FastEntry := { pair := n, dvdt := dvdt, idx := i, code := code, prev := pre, thr := thr, lost := s.sar.fastLost, ch := s.gf (TSAR_MAP_CH n) }
      s.setSar (fun x => { x with fastq := x.fastq ++ [e], fastLost := false })
  if !full && s.mbit CAP_FASTMASK_MASK (2 * n.val + b2n dvdt) then s.capTrigger (if dvdt then 9 else 8) n ((s.ts n).time i) else s

/-- The comparators of an input evaluate a sample (R111). -/
def State.fastSample (s : State) (n : Fin 8) (i : Nat) (x : Int) : State :=
  let prev := (s.ts n).prev
  let lv := fastMag x
  let s :=
    if !s.gb (FAST_DVDT_LVL_EN n) then s
    else if s.gb (FAST_DVDT_LVL_STATE n) then
      (if lv + s.gf (FAST_LVL_HYST n) < s.gf (FAST_LVL_LEVEL n) then s.sf (FAST_DVDT_LVL_STATE n) 0 else s)
    else if s.gf (FAST_LVL_LEVEL n) < lv then (s.sf (FAST_DVDT_LVL_STATE n) 1).fastEntry n false i x 0
    else s
  match prev with
  | none => s
  | some y =>
    let d := (x - y).natAbs
    if !s.gb (FAST_DVDT_DVDT_EN n) then s
    else if s.gf (FAST_DVDT_STEP n) < d then
      (if s.gb (FAST_DVDT_DVDT_STATE n) then s else (s.sf (FAST_DVDT_DVDT_STATE n) 1).fastEntry n true i x y)
    else s.sf (FAST_DVDT_DVDT_STATE n) 0

/-- Pairs neither fused nor fenced, as a mask. -/
def State.pairMask (s : State) : Nat := maskOf ((List.range 8).filter s.trPresent)

/-- Two bits for each pair of a mask (FAST_PIN_CTRL). -/
def twice (m : Nat) : Nat := maskOf ((bitsOf 8 m).flatMap (fun n => [2 * n, 2 * n + 1]))

/-- A written mask in which the bits outside `m` keep their old value: those of absent pairs (R123). -/
def keepBits (m old new : Nat) : Nat := (new &&& m) + (old - (old &&& m))

/-- A write of a fast path register (R112). -/
def State.wrFast (s : State) (r : FastReg) (v : Word) : State :=
  let w := v.toNat
  match r with
  | .lvl n => if !s.trPresent n then s else s.sfs [(FAST_LVL_LEVEL n, w), (FAST_LVL_HYST n, w / 65536)]
  | .dvdt n =>
    if !s.trPresent n then s
    else
      let s := s.sfs [(FAST_DVDT_STEP n, w), (FAST_DVDT_LVL_EN n, w / 65536), (FAST_DVDT_DVDT_EN n, w / 131072)]
      let s := if w.testBit 16 then s else s.sf (FAST_DVDT_LVL_STATE n) 0
      let s := if w.testBit 17 then s else s.sf (FAST_DVDT_DVDT_STATE n) 0
      s.fastPins
  | .pinCtrl =>
    let m := twice s.pairMask
    (s.sfs [(FAST_PIN_CTRL_MASK0, keepBits m (s.gf FAST_PIN_CTRL_MASK0) (w % 65536)),
      (FAST_PIN_CTRL_MASK1, keepBits m (s.gf FAST_PIN_CTRL_MASK1) (w / 65536))]).fastPins
  | .pinCfg => (s.sfs [(FAST_PIN_CFG_HOLD, w), (FAST_PIN_CFG_INV, w / 4096)]).fastPins

/-- A write of FAST_LVLn, FAST_DVDTn, FAST_PIN_CTRL or FAST_PIN_CFG. -/
def execFastComparatorWrite (r : FastReg) (value : Word) (s : State) : Host.Outcome State Fault Refusal :=
  .next (if s.serving then s.wrFast r value else s)

/-! ### Samples (R100 to R104, R16) -/

/-- A sample of an input reaches CORE: the SMP record fills and closes at 1920 samples, or at an index that does not follow (R24); the
capture engine records it. -/
def State.tsIn (s : State) (n : Fin 8) (i w : Nat) : State :=
  let s := s.capSample (srcTr n) i ((s.ts n).time i) ((s.ts n).timeEnd i 1) w
  let dark := match (s.ts n).shadow with | some a => decide (a ≤ i) | none => false
  if dark then s
  else
    let s := match (s.ts n).smp.getLast? with
      | some (j, _) => if j + 1 = i then s else s.tsRelease n 0
      | none => s
    let s := s.setTs n (fun x => { x with smp := x.smp ++ [(i, w)] })
    if 1920 ≤ (s.ts n).smp.length then s.tsRelease n 0 else s

/-- The transient FIFO while CORE has no clock: 64 entries of 16 samples; what finds it full is discarded (R16). -/
def State.tsFifo (s : State) (n : Fin 8) (i w : Nat) : State :=
  s.setTs n (fun x =>
    if x.fifo.length < 1024 then { x with fifo := x.fifo ++ [(i, w)] }
    else { x with lost := runAdd x.lost i })

/-- CORE runs again: the transient FIFOs drain. -/
def State.tsDrain (s : State) : State :=
  (fins 8).foldl (fun (s : State) (n : Fin 8) =>
    let l := (s.ts n).fifo
    l.foldl (fun s e => s.tsIn n e.1 e.2) (s.setTs n (fun x => { x with fifo := [] }))) s

/-- One sample of a running pair: the code of R101, its status, the comparators, its index. -/
def State.tsSample (s : State) (n : Fin 8) (v : Int) : State :=
  let i := (s.ts n).idx
  let tick : Bool := match (s.ts n).tickDue with
    | some b => decide (b ≤ (s.ts n).time i)
    | none => false
  let s := bif tick then s.setTs n (fun x => { x with tickDue := none, due := some 3 }) else s
  let s := match (s.ts n).due with
    | some cause =>
      let a := (s.ts n).anchorAt i
      s.tsPublish n i (((a.full 0 i : Int) + (s.ts n).delta).toNat) cause
    | none => s
  let x := clampInt (-2048) 2047 v
  let s := (s.timeTo ((s.ts n).anchorAt i |>.full 0 i)).calReach

  let s := if SMap.get (fun _ => 0) s.first (srcTr n) = 0 then { s with first := SMap.set (fun _ => 0) s.first (srcTr n) ((s.ts n).time i + 1) } else s
  let s := (s.fastSample n i x).fastPins
  let st := b2n (decide (x ≠ v)) + 2 * b2n (s.mbit TSAR_CTRL_TDRIFT n) + 4 * b2n (s.gb (FAST_DVDT_LVL_STATE n)) + 8 * b2n (s.gb (FAST_DVDT_DVDT_STATE n))
  let w := ofSigned 12 x + 4096 * st
  let s := s.setTs n (fun t => { t with idx := i + 1, prev := some x, used := true })
  if s.time.coreStop then s.tsFifo n i w else s.tsIn n i w

/-- A running pair's half produces a sample: the value of R101 before its limit. -/
def execTransientSample (n : Fin 8) (x : Int) (s : State) : Host.Outcome State Fault Refusal :=
  .next (if s.isReady && s.tsOn n && decide ((s.ts n).stop ≠ some (s.ts n).idx) && s.gb CLK_STAT_TPLL_LOCK && !s.gb TIME_STATUS_HALTED then s.tsSample n x else s)

/-- A transient anchor is latched: the next index of a pair on a META edge, and that edge's device time (R104). -/
def execTransientAnchorLatch (n : Fin 8) (t : Nat) (s : State) : Host.Outcome State Fault Refusal :=
  .next (if s.isReady && s.tsOn n && !s.gb TIME_STATUS_HALTED then s.setTs n (fun x => { x with lat := some (x.idx, t) }) else s)

/-- The event engine takes an entry: a TRANSIENT record, or one more that the second withholds. -/
def State.transientTake (s : State) (e : FastEntry) : State :=
  let n := e.pair
  let sec := (s.ts n).time e.idx / 2 ^ 32
  let s := if sec ≠ (s.ts n).sec then (s.tsBurst n).setTs n (fun x => { x with sec := sec, cnt := 0 }) else s
  if (s.ts n).cnt < max 1 (s.gf TRN_CFG_NMAX) then
    (s.setTs n (fun x => { x with cnt := x.cnt + 1 })).tsEvt n 0x20 (e.idx + 1) 0
      (leBytes 1 (b2n e.dvdt) ++ leBytes 1 (b2n e.lost) ++ leBytes 1 e.ch ++ [0] ++ leBytes 2 (ofSigned 16 e.code) ++ leBytes 2 (ofSigned 16 e.prev) ++
        leBytes 2 e.thr ++ zeros 6)
  else s.setTs n (fun x => { x with wl := x.wl + b2n (!e.dvdt), wd := x.wd + b2n e.dvdt, last := e.idx })

/-- The event engine takes every entry that waits. -/
def State.fastDrain (s : State) : State := s.sar.fastq.foldl State.transientTake (s.setSar (fun x => { x with fastq := [] }))

/-! ### Starting and stopping a pair (R103, R107 to R109, R189, R197) -/

/-- The input is no longer enabled: the spectral engine leaves it (R197). -/
def State.supOff (s : State) (n : Fin 8) : State :=
  { s with supraOn := if s.supraOn.testBit n then s.supraOn ^^^ 2 ^ n.val else s.supraOn }

/-- The pair's supraharmonic and aggregation settings are sampled at its enable (R189, R197, R222). -/
def State.supEnable (s : State) (n : Fin 8) : State :=
  let s := s.setTs n (fun x => { x with agg := s.mbit AGG_CTRL_SUPRA n, supGap := none, lvls := x.lvls.map (fun l => { lastNom := l.lastNom }) })
  let s := s.supOff n
  if !s.mbit SUPRA_CTRL_EN n then s.setTs n (fun x => { x with supCov := x.idx })
  else if s.specRoom 40 then { s with supraOn := s.supraOn ||| 2 ^ n.val }
  else (s.setTs n (fun x => { x with supGap := some (gapStopped, x.idx) })).sf SPEC_ERR_NOBANK_T 1

/-- Apply an enable of a pair that SARCAL does not hold. A pair that an earlier clear of EN has yet to stop samples its settings when it
has stopped. -/
def State.tsApply (s : State) (n : Fin 8) : State :=
  if s.mbit SAR_CAL_STATUS_VALID n then
    (let s := s.smbit TSAR_CTRL_EN n true
     if s.tsOn n then s else s.supEnable n)
  else (s.smbit TSAR_CTRL_EN n false).smbit TSAR_ERR_UNCAL n true

/-- Set EN bits: held while SARCAL calibrates the pair (R109). -/
def State.tsEnable (s : State) (m : Nat) : State :=
  (fins 8).foldl (fun (s : State) (n : Fin 8) =>
    if !m.testBit n || !s.trPresent n || s.tsEn n then s
    else if s.sar.calP.testBit n then (s.smbit TSAR_CTRL_EN n true).setSar (fun x => { x with held := x.held ||| 2 ^ n.val })
    else s.tsApply n) s

/-- Clear EN bits: a running pair stops after its next sample of half B (R103); a held enable is cancelled. -/
def State.tsDisable (s : State) (m : Nat) : State :=
  (fins 8).foldl (fun (s : State) (n : Fin 8) =>
    if !m.testBit n || !s.tsEn n then s
    else
      let s := (s.smbit TSAR_CTRL_EN n false).setSar (fun x => { x with held := if x.held.testBit n then x.held ^^^ 2 ^ n.val else x.held })
      if s.tsOn n then s.setTs n (fun x => { x with stop := some (x.stop.getD (x.idx / 2 * 2 + 2)) }) else s.supOff n) s

/-- A write of TSAR_CTRL sets EN bits. -/
def execTsarEnable (pairs : BitVec 8) (s : State) : Host.Outcome State Fault Refusal :=
  .next (if s.serving then s.tsEnable pairs.toNat else s)

/-- A write of TSAR_CTRL clears EN bits. -/
def execTsarDisable (pairs : BitVec 8) (s : State) : Host.Outcome State Fault Refusal :=
  .next (if s.serving then s.tsDisable pairs.toNat else s)

/-- The gap of a restart on every enabled stream of the input: SMP, EVT, CAP, and SPC and AGG with supraharmonics. -/
def State.tsRestartGap (s : State) (n : Fin 8) (a b : DevTime) : State :=
  let x := s.ts n
  let g : Gap := { cause := x.cause, tStart := a, tEnd := b, si := x.idx % 2 ^ 48, count := 0 }
  let s := (s.gapOn [clsSMP, clsEVT] (srcTr n) g).capGap (srcTr n) g
  if s.supraOn.testBit n || x.supGap.isSome then
    let s := s.emit (gapRec clsSPC (srcTr n) g)
    if x.agg then (s.emitL 1 (gapRec clsAGG (srcTr n) g)).emitL 2 (gapRec clsAGG (srcTr n) g) else s
  else s

/-- A pair starts with its first sample at `t` (2^-64 s): the anchor, the gap of a restart, the sample. -/
def State.tsStart (s : State) (n : Fin 8) (t : Nat) (v : Int) : State :=
  let x := s.ts n
  let fl := if !x.used then flReset else if x.cause = gapHalt then flHalt else flPartial
  let s := (s.smbit TSAR_CTRL_ON n true).setSar (fun x => { x with held := if x.held.testBit n then x.held ^^^ 2 ^ n.val else x.held })
  let s := s.setTs n (fun y =>
    { y with
      prev := none
      stop := none
      delta := 0
      due := none
      supFrom := y.idx
      supCause := if y.cause = gapHalt then gapHalt else gapStopped
      supFlag := fl
      shadow := if s.gb TIME_STATUS_SHADOW then some y.idx else none })
  let s := s.tsPublish n x.idx t (if x.used && x.cause = gapHalt then 4 else 0)
  let s := if x.used then s.tsRestartGap n x.endT ((s.ts n).time x.idx) else s
  (s.supOrder n).tsSample n v

/-- An enabled pair produces its first sample, from half A. -/
def execTsarPairStart (n : Fin 8) (t : Nat) (x : Int) (s : State) : Host.Outcome State Fault Refusal :=
  .next (if s.isReady && s.tsEn n && !s.tsOn n && !s.sar.calP.testBit n && s.mbit SAR_CAL_STATUS_VALID n && s.gb CLK_STAT_TPLL_LOCK &&
      !s.gb TIME_STATUS_HALTED then s.tsStart n t x else s)

/-- The shadow span ends: one gap covers its samples on the SMP, SPC and CAP streams, and on the aggregates. -/
def State.tsShadowEnd (s : State) (n : Fin 8) (hwm : DevTime) : State :=
  match (s.ts n).shadow with
  | none => s
  | some i =>
    let x := s.ts n
    let k := x.idx - i
    let r := fun cls => tsGapRec cls n gapStopped hwm hwm i k flTimestep
    let s := s.setTs n (fun x => { x with shadow := none, supFrom := x.idx, supCov := x.idx, supFlag := flTimestep, supCause := gapStopped })
    let s := if k = 0 then s
      else
        let s := (s.emit (r clsSMP)).capGap (srcTr n) { cause := gapStopped, tStart := hwm, tEnd := hwm, si := i % 2 ^ 48, count := k }
        if s.supraOn.testBit n || x.supGap.isSome then
          let s := s.emit (r clsSPC)
          if x.agg then (s.emitL 1 (r clsAGG)).emitL 2 (r clsAGG) else s
        else s
    s.supOrder n

/-- Production of a pair ends here: comparators deassert, the records of its streams close. -/
def State.tsEnd (s : State) (n : Fin 8) (cause : Nat) : State :=
  let fl := if cause = gapHalt then flHalt else 0
  let s := s.tsShadowEnd n s.ket.hwm
  let s := (s.sfs [(FAST_DVDT_LVL_STATE n, 0), (FAST_DVDT_DVDT_STATE n, 0)]).fastPins
  let s := ((s.tsRelease n fl).fastDrain).tsEval n fl
  let s := ((s.supCut n (if cause = gapHalt then flHalt else flPartial) (if cause = gapHalt then gapHalt else gapStopped)).supGapOut n)
  let s := s.setTs n (fun x => { x with cause := cause, endT := x.endTime, prev := none, shadow := none, stop := none })
  let s := s.smbit TSAR_CTRL_ON n false
  let s := if cause = gapHalt then s else if s.tsEn n then s.supEnable n else s.supOff n
  (s.supOrder n).release

/-- A pair whose EN was cleared stops after its next sample of half B; one enabled again meanwhile starts anew. -/
def execTsarPairStop (n : Fin 8) (s : State) : Host.Outcome State Fault Refusal :=
  .next (if s.isReady && s.tsOn n && decide ((s.ts n).stop = some (s.ts n).idx) then s.tsEnd n gapStopped else s)

/-- A write of TSAR_MAP (R105): each field of an enabled pair, and each that names an absent channel, keeps its value and sets its
error bit. A pair whose enable is held counts as disabled until it starts (R109). -/
def State.wrTsarMap (s : State) (v : Word) : State :=
  (fins 8).foldl (fun (s : State) (n : Fin 8) =>
    let c := v.toNat / 16 ^ n.val % 16
    if !s.trPresent n then s
    else
      let run := s.tsEn n && !s.sar.held.testBit n
      let bad := !s.chPresent c
      let s := if run then s.smbit TSAR_ERR_MAP_RUNNING n true else s
      let s := if bad then s.sf TSAR_ERR_MAP_INVALID 1 else s
      if run || bad then s else s.sf (TSAR_MAP_CH n) c) s

/-- A write of TSAR_MAP. -/
def execTsarMapWrite (value : Word) (s : State) : Host.Outcome State Fault Refusal :=
  .next (if s.serving then s.wrTsarMap value else s)

/-- A write of SUPRA_CTRL (R199): refused while a pair that it names, by its old or its new EN bits, is enabled. -/
def State.wrSupraCtrl (s : State) (p : Port) (v : Word) : State :=
  let w := v.toNat
  let keep := s.chip.fuseCh / 65536 % 256
  let en := w % 256 - (w % 256 &&& keep)
  s.rws p 0xC18 v 0 (decide (en ≠ s.gf SUPRA_CTRL_EN) || decide (w / 256 % 2 ≠ s.gf SUPRA_CTRL_MAX)) id (fun s =>
    if (en ||| s.gf SUPRA_CTRL_EN) &&& s.gf TSAR_CTRL_EN ≠ 0 then (false, s.sf SPEC_ERR_CFG_RUNNING 1)
    else (true, s.sfs [(SUPRA_CTRL_EN, en), (SUPRA_CTRL_MAX, w / 256)]))

/-- A write of SUPRA_SCALEn. -/
def State.wrSupraScale (s : State) (p : Port) (n : Fin 8) (v : Word) : State :=
  if s.trFused n then s
  else s.rws p (0xC40 + 4 * n.val) v 0 (decide (v.toNat ≠ s.gf (SUPRA_SCALE_SCALE n))) id (fun s =>
    if s.tsEn n then (false, s.sf SPEC_ERR_CFG_RUNNING 1) else (true, s.sf (SUPRA_SCALE_SCALE n) v.toNat))

/-! ### Time steps, shadow spans, ticks (R128, R133, R134, R193, R211) -/

/-- A step of `d` (2^-64 s) at a running pair: what its streams hold closes with TIMESTEP, and its next sample takes a new
anchor. -/
def State.tsStep (s : State) (n : Fin 8) (d : Int) : State :=
  if !s.tsOn n then s
  else
    let s := s.tsRelease n flTimestep
    let s := if (s.ts n).shadow.isNone then s.supCut n flTimestep gapStopped else s
    s.setTs n (fun x => { x with due := some 2, delta := x.delta + d, supFrom := x.idx, supFlag := flTimestep, supCause := gapStopped })

/-- A shadow span begins. -/
def State.tsShadow (s : State) (n : Fin 8) : State :=
  if s.tsOn n && (s.ts n).shadow.isNone then (s.setTs n (fun x => { x with shadow := some x.idx })).supOrder n else s

/-- A 10-min tick at a running pair: an anchor is due, an EVAL record, the gap of an input that is not processed. -/
def State.tsTick (s : State) (n : Fin 8) (b : DevTime) : State :=
  if !s.tsOn n then s
  else ((s.fastDrain.tsEval n 0).supGapOut n).setTs n (fun x => { x with tickDue := some b })

/-- Runs of discarded samples of an input become CORE_STALL gaps (R16), on the streams of its supraharmonics too. -/
def State.tsStall (s : State) (n : Fin 8) : State :=
  let l := (s.ts n).lost
  let s := match l, (s.ts n).smp with
    | r :: _, (i, _) :: _ => if i < r.1 then s.tsRelease n 0 else s
    | _, _ => s
  let s := l.foldl (fun (s : State) r => s.tsLost n r.1 r.2) (s.setTs n (fun x => { x with lost := [], holes := x.holes ++ l }))
  let h := (s.ts n).holes
  h.foldl (fun (s : State) r => if (s.ts n).supFrom ≤ r.1 then s.supHole n r.1 r.2 else s) (s.setTs n (fun x => { x with holes := [] }))

/-! ### Transient events (R209, R210) -/

/-- The oldest entry of the fast event FIFO is taken. -/
def execTransientRecord (s : State) : Host.Outcome State Fault Refusal :=
  .next (match s.sar.fastq with
    | e :: l => if s.isReady && !s.time.coreStop then (s.setSar (fun x => { x with fastq := l })).transientTake e else s
    | [] => s)

/-- The second in which an input's entries were withheld has ended. -/
def execTburstRecord (n : Fin 8) (s : State) : Host.Outcome State Fault Refusal :=
  .next (if s.isReady then s.tsBurst n else s)

/-! ### SARCAL (R106 to R109) -/

/-- A write of SAR_CAL_CTRL, with its GO. -/
def State.wrSarCal (s : State) (v : Word) : State :=
  let w := v.toNat
  let s := s.sfs [(SAR_CAL_CTRL_PAIRMASK, keepBits s.pairMask (s.gf SAR_CAL_CTRL_PAIRMASK) (w % 256)), (SAR_CAL_CTRL_HSAR, w / 256), (SAR_CAL_CTRL_DTEMP, w / 65536)]
  if !w.testBit 9 then s
  else if s.gb SAR_CAL_STATUS_BUSY then s.sf SAR_CAL_STATUS_REJECT 1
  else
    let named := bitsOf 8 (w % 256)
    let out := named.filter (fun n => s.tsEn n || s.tsOn n)
    let s := if out.isEmpty then s else s.sf SAR_CAL_STATUS_REJECT 1
    let run := maskOf (named.filter (fun n => !out.contains n && s.trPresent n))
    let h := w.testBit 8
    let s := s.setSar (fun x => { x with calP := run, calH := h, pos := if h then none else x.pos })
    s.sf SAR_CAL_STATUS_BUSY 1

/-- A write of SAR_CAL_CTRL. -/
def execSarcalGo (value : Word) (s : State) : Host.Outcome State Fault Refusal :=
  .next (if s.serving then s.wrSarCal value else s)

/-- A pair's calibration meets every criterion of R108. -/
def sarPass (r : SarRes) : Bool :=
  decide (r.resid ≤ 50) && decide (r.offA.natAbs ≤ 512) && decide (r.offB.natAbs ≤ 512) &&
    [r.gainA, r.gainB].all (fun g => decide (9 * 0x8000 ≤ 10 * g) && decide (10 * g ≤ 11 * 0x8000))

/-- Write a pair's factors. -/
def State.sarFactors (s : State) (n : Nat) (r : SarRes) (temp : Int) : State :=
  ((((s.si (TSAR_CAL_A_OFFSET n) r.offA).sf (TSAR_CAL_A_GAIN n) r.gainA).si (TSAR_CAL_B_OFFSET n) r.offB).sf (TSAR_CAL_B_GAIN n) r.gainB).si
    (TSAR_SKEW_TRIM n) r.trim |>.sf (TSAR_SKEW_RESID n) r.resid |>.si (TSAR_CALT_TCAL n) temp

/-- SARCAL ends for one pair. -/
def State.sarPair (s : State) (n : Nat) (r : SarRes) (temp : Int) : State :=
  if sarPass r then
    (((s.sarFactors n r temp).smbit SAR_CAL_STATUS_VALID n true).smbit SAR_CAL_STATUS_FAIL n false).smbit TSAR_CTRL_TDRIFT n false
  else s.smbit SAR_CAL_STATUS_FAIL n true

/-- SARCAL ends for the house converter: its factors, and every post-filter starts again (R122). -/
def State.sarHouse (s : State) (r : HsarRes) : State :=
  let s := if r.ok then ((s.si HSAR_CAL_OFFSET r.off).sf HSAR_CAL_GAIN r.gain).sfs [(SAR_CAL_STATUS_HSAR_VALID, 1), (SAR_CAL_STATUS_HSAR_FAIL, 0)]
    else s.sf SAR_CAL_STATUS_HSAR_FAIL 1
  let s := s.setSar (fun x => { x with flt := Vector.replicate 32 {}, pubDue := 0 })
  (List.range 32).foldl (fun (s : State) i => s.sf (HSAR_RES_VALID i) 0) s

/-- The LOG REF record (R76). -/
def State.logRef (s : State) : State :=
  s.log 0x0B (if s.gb AFE_REF_REF_FAULT then 1 else 2) (leBytes 2 (s.gf AFE_REF_VREF_MEAS) ++ zeros 2)

/-- A REFCAP result (R76): VREF_MEAS, and REF_FAULT outside 1.176 V to 1.224 V, with a LOG record at each change. -/
def State.refResult (s : State) (v : Nat) : State :=
  let bad := decide (v < 11760) || decide (12240 < v)
  let was := s.gb AFE_REF_REF_FAULT
  let s := (s.sf AFE_REF_VREF_MEAS v).sb AFE_REF_REF_FAULT bad
  if bad = was then s
  else
    let s := s.raise 14
    if s.isReady then s.logRef else s

/-- A VDDIO conversion of start-up enters STRAP (R497). -/
def State.strapMeas (s : State) (b v : Nat) : State :=
  let iov := s.gb (if b = 0 then STRAP_IOV0 else STRAP_IOV1)
  let s := s.sf (if b = 0 then STRAP_VDDIO0_MEAS else STRAP_VDDIO1_MEAS) (min 255 ((v + 100) / 200))
  s.sb (if b = 0 then STRAP_IOV0_MISMATCH else STRAP_IOV1_MISMATCH) (iov != decide (25000 ≤ v))

/-- SARCAL ends: the results of the pairs and of the house converter, the die temperature; at start-up the three conversions of R516
follow. -/
def State.sarDone (s : State) (pairs : List SarRes) (house : HsarRes) (temp : Int) : State :=
  let run := s.sar.calP
  let h := s.sar.calH
  let s := (bitsOf 8 run).foldl (fun (s : State) n => match pairs[n]? with | some r => s.sarPair n r temp | none => s.smbit SAR_CAL_STATUS_FAIL n true) s
  let s := if h then s.sarHouse house else s
  let s := s.setSar (fun x => { x with calP := 0, calH := false })
  let s := s.sfs [(SAR_CAL_STATUS_BUSY, 0), (SAR_CAL_STATUS_DONE, 1)]
  if s.rst.phase = .startup then s.setSar (fun x => { x with boot := some 0 })
  else (fins 8).foldl (fun (s : State) (n : Fin 8) => if run.testBit n && s.tsEn n then s.tsApply n else s) s

/-- A conversion of start-up completes (R516): REFCAP, then VDDIO0, then VDDIO1. -/
def State.bootConv (s : State) (k v : Nat) : State :=
  if k = 0 then (s.refResult v).setSar (fun x => { x with boot := some 1 })
  else if k = 1 then (s.strapMeas 0 v).setSar (fun x => { x with boot := some 2 })
  else (let s := (s.strapMeas 1 v).setSar (fun x => { x with boot := none })
        { s with rst := { s.rst with sarDone := true } })

/-- SARCAL ends; one that calibrates the house converter does not while an urgent conversion, which aborted it, runs (R120). -/
def execSarcalDone (pairs : List SarRes) (house : HsarRes) (temp : Int) (s : State) : Host.Outcome State Fault Refusal :=
  .next (if s.gb SAR_CAL_STATUS_BUSY && !(s.sar.calH && s.sar.urg.isSome) then s.sarDone pairs house temp else s)

/-! ### The house converter (R115 to R122) -/

/-- A code of Table 5-4. -/
def hsarCode (c : Nat) : Bool := decide (c ≤ 6) || (decide (8 ≤ c) && decide (c ≤ 0x10))

/-- The first enabled entry from an entry on. -/
def State.hsarNext (s : State) (i : Nat) : Option Nat := (List.range 32).find? (fun j => decide (i ≤ j) && s.gb (HSAR_SEQ_EN j))

/-- Entries of the running pass that have not been converted. -/
def State.hsarLeft (s : State) : Nat :=
  match s.sar.pos with
  | none => 0
  | some i => ((List.range 32).filter (fun j => decide (i ≤ j) && s.gb (HSAR_SEQ_EN j))).length

/-- Passes of a post-filter window. -/
def State.hsarWin (s : State) : Nat := if s.gb HSAR_SEQ_CTRL_NULL then 200 else 240

/-- The common window ends: every post-filter keeps what its window held. -/
def State.hsarWindow (s : State) : State :=
  s.setSar (fun x =>
    { x with
      flt := x.flt.map (fun f => { cur := [], hist := if f.live then (f.cur :: f.hist).take 4 else f.hist, live := true })
      pubDue := maskOf ((fins 32).filter (fun (j : Fin 32) => !x.flt[j].cur.isEmpty && s.gf (HSAR_SEQ_ORDER j) != 0) |>.map Fin.val) })

/-- A tick starts a new pass at entry 0 (R116, R117). -/
def execHsarPassTick (s : State) : Host.Outcome State Fault Refusal :=
  .next (if s.gb TIME_STATUS_HALTED || s.rst.phase == .por || s.rst.phase == .inReset then s
    else
      let p := s.sar.pass + 1
      let s := s.setSar (fun x => { x with pass := p })
      let s := if p % s.hsarWin = 0 then s.hsarWindow else s
      if s.sar.calH || s.sar.boot.isSome then s
      else
        let s := s.incSat HSAR_SEQ_CTRL_SKIPPED s.hsarLeft
        if s.sar.urg.isSome then s.setSar (fun x => { x with pos := none, newPass := true })
        else s.setSar (fun x => { x with pos := s.hsarNext 0, newPass := false }))

/-- The die temperature is compared with each calibrated pair's band (R110). -/
def State.tdrift (s : State) (t : Int) : State :=
  (List.range 8).foldl (fun (s : State) n =>
    if s.trPresent n && s.mbit SAR_CAL_STATUS_VALID n && decide (64 * max 1 (s.gf SAR_CAL_CTRL_DTEMP) < (t - s.gi (TSAR_CALT_TCAL n)).natAbs) then
      s.smbit TSAR_CTRL_TDRIFT n true else s) s

/-- An entry publishes a result (R121). -/
def State.hsarPut (s : State) (i : Nat) (v : Int) (missed : Bool) : State :=
  let s := s.si (HSAR_RES_VALUE i) v
  let s := (s.sfs [(HSAR_RES_VALID i, 1), (HSAR_RES_MISSED i, b2n missed), (HSAR_RES_UNCAL i, b2n (!s.gb SAR_CAL_STATUS_HSAR_VALID))]).incWrap (HSAR_RES_COUNT i) 1
  let s := if s.gf (HSAR_SEQ_INPUT i) = 0 then s.tdrift v else s
  if i = 5 then s.refResult (s.gf (HSAR_RES_VALUE 5)) else s

/-- A slot's conversion completes with a result in the unit of Table 5-4, one of start-up or one of the sequence, whose next enabled entry
starts. -/
def execHsarConversionDone (value : Int) (s : State) : Host.Outcome State Fault Refusal :=
  .next (if s.sar.urg.isSome || s.sar.calH || s.gb TIME_STATUS_HALTED then s
    else match s.sar.boot, s.sar.pos with
    | some k, _ => s.bootConv k value.toNat
    | none, none => s
    | none, some i =>
        let s := if h : i < 32 then
            (if s.gf (HSAR_SEQ_ORDER i) = 0 then s.hsarPut i value false
             else s.setSar (fun x => { x with flt := x.flt.set i (let f := x.flt[i]; { f with cur := f.cur ++ [(x.pass % s.hsarWin, value)] }) }))
          else s
        s.setSar (fun x => { x with pos := s.hsarNext (i + 1) }))

/-- Multiply a list of weights by one more boxcar of length `w`. -/
def boxConv (w : Nat) (l : List Nat) : List Nat :=
  (List.range (l.length + w - 1)).map (fun i => ((List.range l.length).filter (fun j => decide (j ≤ i) && decide (i < j + w))).foldl (fun a j => a + l.getD j 0) 0)

/-- The weights of a cascade of k boxcars of length w, by age in passes. -/
def boxWeights (w : Nat) : Nat → List Nat
  | 0 => [1]
  | k + 1 => boxConv w (boxWeights w k)

/-- The value of a post-filter of order k at the end of a window: the weighted mean of the conversions that its k windows
hold (log entry 43). -/
def filterValue (w k : Nat) (hist : List (List (Nat × Int))) : Option Int :=
  let wts := boxWeights w k
  let e := (List.range k).flatMap (fun j => (hist.getD j []).map (fun c => (wts.getD (j * w + (w - 1 - c.1)) 0, c.2)))
  let n : Nat := (e.map Prod.fst).sum
  if n = 0 then none else some (roundEven (((e.map (fun x => (x.1 : Int) * x.2)).sum : Rat) / (n : Rat)))

/-- Entry i publishes at the end of its window (R121, R122): from its k-th whole window on, nothing for a window without
conversions. -/
def execHsarFilterPublish (i : Fin 32) (s : State) : Host.Outcome State Fault Refusal :=
  .next (if !s.sar.pubDue.testBit i then s
    else
      let s := s.setSar (fun x => { x with pubDue := x.pubDue ^^^ 2 ^ i.val })
      let f := s.sar.flt[i]
      let k := s.gf (HSAR_SEQ_ORDER i)
      if f.hist.length < k || (f.hist.headD []).isEmpty then s
      else
        match filterValue s.hsarWin k f.hist with
        | none => s
        | some v => s.hsarPut i v (decide ((f.hist.headD []).length < s.hsarWin)))

/-- The urgent conversion that waits first begins; a house calibration in progress starts again after it (R118, R120). -/
def State.hsarUrgent (s : State) : State :=
  match s.sar.urg with
  | some _ => s
  | none =>
    match s.sar.wPfi, s.sar.wReg with
    | some c, _ => s.setSar (fun x => { x with urg := some (true, c), wPfi := none })
    | none, some c => s.setSar (fun x => { x with urg := some (false, c), wReg := none })
    | none, none => s

/-- A registered PFI requests its urgent conversion (R118). -/
def State.hsarPfi (s : State) : State := (s.setSar (fun x => { x with wPfi := some (s.gf HSAR_URG_PFI_INPUT) })).hsarUrgent

/-- A write of HSAR_URG, with its GO. -/
def State.wrHsarUrg (s : State) (v : Word) : State :=
  let w := v.toNat
  let s := if hsarCode (w % 32) then s.sf HSAR_URG_INPUT w else s
  let s := if hsarCode (w / 65536 % 32) then s.sf HSAR_URG_PFI_INPUT (w / 65536) else s
  let s := if w.testBit 10 then s.sf HSAR_URG_DONE 0 else s
  let s := if w.testBit 11 then s.sf HSAR_URG_REJECT 0 else s
  if !w.testBit 8 then s
  else if s.gb HSAR_URG_BUSY then s.sf HSAR_URG_REJECT 1
  else ((s.sf HSAR_URG_BUSY 1).setSar (fun x => { x with wReg := some (s.gf HSAR_URG_INPUT) })).hsarUrgent

/-- A write of HSAR_URG. -/
def execHsarUrgentGo (value : Word) (s : State) : Host.Outcome State Fault Refusal :=
  .next (if s.serving then s.wrHsarUrg value else s)

/-- An urgent conversion completes: its result, then the next that waits, or the sequence goes on. -/
def execHsarUrgentDone (value : Int) (s : State) : Host.Outcome State Fault Refusal :=
  .next (match s.sar.urg with
    | none => s
    | some (pfi, c) =>
      let s := if c = 0 then s.tdrift value else s
      let un := b2n (!s.gb SAR_CAL_STATUS_HSAR_VALID)
      let s := if pfi then (s.si HSAR_PFI_RES_VALUE value).sfs [(HSAR_PFI_RES_UNCAL, un), (HSAR_PFI_RES_NEW, 1)]
        else (s.si HSAR_URG_RES_VALUE value).sfs [(HSAR_URG_RES_UNCAL, un), (HSAR_URG_BUSY, 0), (HSAR_URG_DONE, 1)]
      let s := (s.setSar (fun x => { x with urg := none })).hsarUrgent
      if s.sar.urg.isSome then s
      else if s.sar.newPass && !s.sar.calH then s.setSar (fun x => { x with pos := s.hsarNext 0, newPass := false })
      else s)

/-- An entry's post-filter starts again (R122). -/
def State.hsarRestart (s : State) (i : Fin 32) : State :=
  (s.setSar (fun x => { x with flt := x.flt.set i {}, pubDue := if x.pubDue.testBit i then x.pubDue ^^^ 2 ^ i.val else x.pubDue })).sf (HSAR_RES_VALID i) 0

/-- A write of HSAR_SEQi: entries 0 to 5 are fixed; reserved codes and orders are ignored. -/
def State.wrHsarSeq (s : State) (i : Fin 32) (v : Word) : State :=
  let w := v.toNat
  if i.val < 6 then s
  else
    let inp := if hsarCode (w % 32) then w % 32 else s.gf (HSAR_SEQ_INPUT i)
    let ord := if w / 64 % 8 ≤ 4 then w / 64 % 8 else s.gf (HSAR_SEQ_ORDER i)
    let chg := decide (inp ≠ s.gf (HSAR_SEQ_INPUT i)) || decide (ord ≠ s.gf (HSAR_SEQ_ORDER i))
    let s := s.sfs [(HSAR_SEQ_INPUT i, inp), (HSAR_SEQ_EN i, w / 32), (HSAR_SEQ_ORDER i, ord)]
    if chg then s.hsarRestart i else s

/-- A write of HSAR_SEQ_CTRL: a change of NULL restarts every entry, and the common windows. -/
def State.wrHsarCtrl (s : State) (v : Word) : State :=
  let n := v.toNat % 2
  if n = s.gf HSAR_SEQ_CTRL_NULL then s
  else (fins 32).foldl (fun (s : State) (i : Fin 32) => s.hsarRestart i) ((s.sf HSAR_SEQ_CTRL_NULL n).setSar (fun x => { x with pass := 0 }))

/-- A write of HSAR_SEQi, or of HSAR_SEQ_CTRL. -/
def execHsarSeqWrite (i : Option (Fin 32)) (value : Word) (s : State) : Host.Outcome State Fault Refusal :=
  .next (if s.serving then (match i with | some i => s.wrHsarSeq i value | none => s.wrHsarCtrl value) else s)

end Sys2Proof.Machine
end

