-- ==== Sys2Proof/Machine/Banks.lean ====
section
/-! DEFINITION. Memory banks, circular windows, the background test, the aux bank port and BAR2 (chapter 16, R279). -/

namespace Sys2Proof.Machine

/-! ### Bank memory (R369, R370) -/

/-- Bytes of a bank. -/
abbrev bankBytes : Nat := 262144

/-- The byte at an address, bank × 256 KiB + offset: a bank that left OFF was cleared to zeros first (R375). -/
def State.memByte (s : State) (a : Nat) : Byte := SMap.get (fun _ => 0) s.mem a

/-- Write one byte. -/
def State.memSet (s : State) (a : Nat) (b : Byte) : State := { s with mem := SMap.set (fun _ => 0) s.mem a b }

/-- Read `n` bytes. -/
def State.memRead (s : State) (a n : Nat) : List Byte := (List.range n).map (fun i => s.memByte (a + i))

/-- Write the bytes of a list whose lane bit is set in `mask`. -/
def State.memWrite (s : State) (a mask : Nat) (bs : List Byte) : State :=
  (List.range bs.length).foldl (fun s i => if mask.testBit i then s.memSet (a + i) (bs.getD i 0) else s) s

/-- Clear a bank (R375). -/
def State.bankClear (s : State) (b : Nat) : State := { s with mem := SMap.clearRange s.mem (bankBytes * b) bankBytes }

/-! ### Writes of windows (R379) -/

/-- Set an error bit when its condition holds. -/
def State.errIf (s : State) (f : Fld) (c : Bool) : State := if c then s.sf f 1 else s

/-- A write of CWn_CFG (R379); every condition that refuses it sets its bit. -/
def State.wrCwCfg (s : State) (n : Nat) (v : Word) : State :=
  let f := v.toNat % 64
  let c := v.toNat / 256 % 128
  let en := v.toNat.testBit 31
  let owners := (List.range c).map (fun i => s.gf (BANK_OWNER_OWNER (f + i)))
  let busy := s.cwInUse n
  let bad := en && (decide (64 < f + c) || owners.any (fun o => o != owners.headD 0))
  let s := s.errIf BANK_ERR_CW_BUSY busy |>.errIf BANK_ERR_CW_INVALID bad
  if busy || bad then s else s.sfs [(CW_CFG_FIRST n, f), (CW_CFG_COUNT n, c), (CW_CFG_EN n, b2n en)]

/-- A write of CWn_CFG. -/
def execWindowConfigWrite (n : Fin 16) (value : Word) (s : State) : Host.Outcome State Fault Refusal :=
  .next (if s.serving then s.wrCwCfg n value else s)

/-! ### Handover and power (R373 to R377) -/

/-- Table 16-2: a bank may leave this owner. -/
def State.mayLeave (s : State) (o : Nat) : Bool :=
  match o with
  | 0 => !s.gb STAT_CTRL_EN
  | 1 => decide (s.gf CAP_STAT_STATE = 0)
  | 2 => s.specIdle
  | _ => true

/-- Table 16-2: a bank may join this owner. -/
def State.mayJoin (s : State) (o : Nat) : Bool := o != 0 || !s.gb STAT_CTRL_EN

/-- Waiting requests for a bank are answered as misses (R373 step 1); the background test's is not. -/
def State.missHeads (s : State) (b : Nat) : State :=
  { s with fab := { s.fab with
      heads := Vector.ofFn (fun m => match s.fab.heads[m] with
        | some r => if r.tgt = b ∧ m.val ≠ 11 then none else some r
        | none => none)
      resv := s.fab.resv.filter (fun r => r.1 != b || r.2 == 11) } }

/-- A region under test of the bank is restored untested (R373 step 3, R384). -/
def State.mtestDefer (s : State) (b : Nat) : State :=
  if s.mtest.active && s.mtest.bank == b then
    ({ s with mtest := { s.mtest with active := false } }).incSat MTEST_DEFER_COUNT 1
  else s

/-- Steps 1 to 3 of R373 for a bank, with the change noted. -/
def State.bankBegin (s : State) (p : BankPend) : State :=
  ({ s.missHeads p.bank with bankPend := s.bankPend ++ [p] }).mtestDefer p.bank

/-- The error bits of a request to change a bank; whether one of their conditions holds. -/
def State.bankErrs (s : State) (pend code busy use : Bool) : Bool × State :=
  (pend || code || busy || use,
    (((s.errIf BANK_ERR_PENDING pend).errIf BANK_ERR_BADCODE code).errIf BANK_ERR_CW_BUSY busy).errIf BANK_ERR_INUSE use)

/-- One bank of a BANK_OWNER write (R371, R373, R374, R376, R379): a field of a pending bank sets PENDING whatever it holds; every
condition that refuses a change sets its bit. -/
def State.ownerReq (s : State) (b new : Nat) (clr : Bool) : State :=
  let old := s.gf (BANK_OWNER_OWNER b)
  let change := new != old
  let (refused, s) := s.bankErrs (s.bankPending b) (decide (5 < new)) (change && s.bankInWindow b) (change && !(s.mayLeave old && s.mayJoin new))
  if refused || !change then s else s.bankBegin (.owner b new (clr || decide (new = 0)))

/-- A write of BANK_OWNERk. -/
def State.wrBankOwner (s : State) (k : Nat) (v : Word) : State :=
  (List.range 8).foldl (fun s j => s.ownerReq (8 * k + j) (v.toNat / 16 ^ j % 8) (v.toNat.testBit (4 * j + 3))) s

/-- One bank of a BANK_PWR write (R376, R377, R379), as a BANK_OWNER write. -/
def State.powerReq (s : State) (b new : Nat) : State :=
  let old := s.gf (BANK_PWR_STATE b)
  let change := new != old
  let (refused, s) := s.bankErrs (s.bankPending b) (decide (new = 3)) (change && s.bankInWindow b)
    (change && decide (old = 0) && !s.mayLeave (s.gf (BANK_OWNER_OWNER b)))
  if refused || !change then s else s.bankBegin (.power b new)

/-- A write of BANK_PWRk. -/
def State.wrBankPwr (s : State) (k : Nat) (v : Word) : State :=
  (List.range 16).foldl (fun s j => s.powerReq (16 * k + j) (v.toNat / 4 ^ j % 4)) s

/-- Perform one entry of the aux port's write buffer (R370, R388). -/
def State.abpPerform (s : State) (e : AbpEntry) : State :=
  let s := s.memWrite (32 * e.word) e.mask e.data
  if s.abp.rbuf = some e.word then { s with abp := { s.abp with rbuf := none } } else s

/-- Perform every entry of the write buffer in order. -/
def State.abpFlush (s : State) : State :=
  s.abp.wbuf.foldl State.abpPerform { s with abp := { s.abp with wbuf := [] } }

/-- A BANK_OWNER write. -/
def execBankHandover (k : Fin 8) (value : Word) (s : State) : Host.Outcome State Fault Refusal :=
  .next (if s.serving then s.wrBankOwner k value else s)

/-- The handover of bank b takes effect (R373): accepted aux writes performed, cleared if asked, the new owner in force,
and the map of STAT rebuilt (R374). -/
def execBankHandoverComplete (b : Fin 64) (s : State) : Host.Outcome State Fault Refusal :=
  match s.bankPend.find? (fun p => p.bank == b.val) with
  | some (.owner _ new clr) =>
    let s := s.abpFlush
    let old := s.statMap
    let s := if clr then s.bankClear b else s
    let s := ({ s with bankPend := s.bankPend.filter (fun p => p.bank != b.val) }).sf (BANK_OWNER_OWNER b) new
    .next (s.statRemap old)
  | _ => .next s

/-- A BANK_PWR write. -/
def execBankPowerChange (k : Fin 4) (value : Word) (s : State) : Host.Outcome State Fault Refusal :=
  .next (if s.serving then s.wrBankPwr k value else s)

/-- Bank b reaches its new power state (R377): OFF loses its contents; leaving OFF clears it. -/
def execBankPowerChangeComplete (b : Fin 64) (s : State) : Host.Outcome State Fault Refusal :=
  match s.bankPend.find? (fun p => p.bank == b.val) with
  | some (.power _ new) =>
    let s := s.abpFlush
    let old := s.statMap
    let s := if new = 2 || s.gf (BANK_PWR_STATE b) = 2 then s.bankClear b else s
    let s := ({ s with bankPend := s.bankPend.filter (fun p => p.bank != b.val) }).sf (BANK_PWR_STATE b) new
    .next (s.statRemap old)
  | _ => .next s

/-! ### Fencing at run time (R385, R495) -/

/-- Mark a unit fenced at run time: the FENCE bit, RUNCOUNT and INT_STAT.FENCE (R495). -/
def State.fenceBit (s : State) (f : Fld) (i : Nat) : State := ((s.smbit f i true).incSat FENCE_MISC_RUNCOUNT 1).raise 6

/-- The LOG UNIT_LOST record: unit type, unit, SI, histogram numbers (R323). -/
def State.unitLost (s : State) (ty unit si : Nat) (hist : List Nat) : State :=
  s.log 0x0A 0 (leBytes 1 ty ++ leBytes 1 unit ++ zeros 2 ++ leBytes 8 si ++ leBytes 4 hist.length ++ hist.flatMap (leBytes 2))

/-- The aux window loses a member: the port is disabled (R380). -/
def State.abpBankLost (s : State) (b : Nat) : State :=
  if (List.range 16).any (fun n => s.cwInUseAbp n && (s.cwRange n).contains b) then
    ((s.sf ABP_CFG_EN 0).sf ABP_ERR_WINLOST 1).raise 8
  else s

/-- Fence bank b (R385): the effects by owner (R240, R380, R385), then the UNIT_LOST record. -/
def State.fenceBank (s : State) (b : Nat) : State :=
  let o := s.gf (BANK_OWNER_OWNER b)
  let lostWin := s.abpBankLost b
  let s := if b < 32 then lostWin.fenceBit FENCE_BANK_LO_BANK b else lostWin.fenceBit FENCE_BANK_HI_BANK (b - 32)
  let (h, s) := if o = 0 then s.statBankLost b else ([], s)
  let s := if o = 1 then s.capBankLost b else s
  let s := if o = 2 then (s.specBankLost b).supSync s.supraOn else s
  s.unitLost 2 b 0 h

/-! ### The background test (R381 to R385) -/

/-- The test skips a bank that is not ON, fenced, or in a change (R381). -/
def State.mtestSkips (s : State) (b : Nat) : Bool := !s.bankOn b || s.bankPending b

/-- The next region to test from region number r (128 × bank + region), and whether a pass ended. -/
def State.mtestNext (s : State) : Nat → Nat → Bool → Option (Nat × Bool)
  | 0, _, _ => none
  | k + 1, r, w =>
    if 8192 ≤ r then State.mtestNext s k 0 true
    else if s.mtestSkips (r / 128) then State.mtestNext s k (128 * (r / 128 + 1)) w
    else some (r, w)

/-- The conditions of R359: no request in the last 256 cycles, and no reservation. -/
def State.bankIdle (s : State) (b : Nat) : Bool :=
  (let u := SMap.get (fun _ => 0) s.fab.used b; u == 0 || decide (u + 256 ≤ s.fab.cycle + 1)) &&
  (s.fab.resvFor b).isNone && !(fins 12).any (fun (m : Fin 12) => match s.fab.heads[m] with | some r => r.tgt == b | none => false)

/-- The background test starts its next region (R381). -/
def execMtestRegionStart (s : State) : Host.Outcome State Fault Refusal :=
  .next (if !s.gb MTEST_CTRL_EN || s.mtest.active || !s.isReady || s.lastGasp then s
    else
      match s.mtestNext 66 s.mtest.next false with
      | none => s
      | some (r, w) =>
        if s.bankIdle (r / 128) then
          let s := { s with mtest := { active := true, bank := r / 128, region := r % 128, next := r + 1, step := 0 } }
          let s := s.sfs [(MTEST_STAT_BANK, r / 128), (MTEST_STAT_REGION, r % 128)]
          if w then s.incWrap MTEST_PASS_COUNT 1 else s
        else s)

/-- A test step of at most 16 accesses runs (R359, R382); `fail` is the word and the bit of a March read that differed.
Requests for the region are served from the live copy, so the bank's contents stay as they are (R383). -/
def execMtestStep (fail : Option (Fin 8192 × Fin 275)) (s : State) : Host.Outcome State Fault Refusal :=
  .next (if !s.mtest.active || !s.bankIdle s.mtest.bank || s.lastGasp then s
    else
      let b := s.mtest.bank
      let s := { s with fab := { s.fab with busy := SMap.set (fun _ => 0) s.fab.busy b (s.fab.cycle + 32) } }
      match (if 4 ≤ s.mtest.step && s.mtest.step < 40 then fail else none) with
      | some (w, i) =>
        let s := { s with mtest := { s.mtest with active := false } }
        let s := s.sfs [(MTEST_FAIL_BANK, b), (MTEST_FAIL_WORD, w), (MTEST_FAIL_BIT, i), (MTEST_FAIL_VALID, 1)]
        s.fenceBank b
      | none =>
        if s.mtest.step = 43 then { s with mtest := { s.mtest with active := false, step := 0 } }
        else { s with mtest := { s.mtest with step := s.mtest.step + 1 } })

/-- The region has taken no step for 1 ms: it is restored untested (R384). -/
def execMtestRegionTimeout (s : State) : Host.Outcome State Fault Refusal := .next (s.mtestDefer s.mtest.bank)

/-! ### Error detection at a read (R343 to R345, R453) -/

/-- What a read of a word of a region finds is counted (R343, R344, R345). -/
def State.eccCount (s : State) (e : Ecc) (region word : Nat) : State :=
  match e with
  | .ok => s
  | .corrected => (s.incSat ERR_CE_COUNT 1).sfs [(ERR_CE_LAST_REGION, region), (ERR_CE_LAST_WORD, word)]
  | .uncorrectable => ((s.incSat ERR_UE_COUNT 1).sfs [(ERR_UE_LAST_REGION, region), (ERR_UE_LAST_WORD, word)]).raise 5
  | .misdelivered =>
    (((s.incSat ERR_INTEG_COUNT 1).incSat ERR_UE_COUNT 1).sfs [(ERR_UE_LAST_REGION, region), (ERR_UE_LAST_WORD, word)]).raise 5

/-- The word is lost. -/
def eccLost : Ecc → Bool
  | .uncorrectable => true
  | .misdelivered => true
  | _ => false

/-! ### BAR2 (R279) -/

/-- Two accesses collide (R390): within 10 cycles, same 32-bit word, a common byte, one reading and the other writing. -/
def collide (a : Option LastAcc) (cycle word32 be : Nat) (write : Bool) : Bool :=
  match a with
  | none => false
  | some l => decide (cycle ≤ l.cycle + 10) && l.word32 == word32 && (l.be &&& be != 0) && l.write != write

/-- Count a collision (R390). -/
def State.countColl (s : State) : State := ((s.sf ABP_ERR_COLL 1).incSat ABP_COLL_COUNT 1).raise 8

/-- BAR2 reaches the device: BAR2 exists, the link is up and not lost, the device serves. -/
def State.bar2Up (s : State) : Bool := s.link.bar2 && s.gb LINK_STAT_UP && !s.link.dead && s.isReady

/-- The 32-bit words and byte lanes that a run of bytes touches. -/
def touched (a n mask : Nat) : List (Nat × Nat) :=
  ((List.range (n / 4 + 2)).map (fun i => (a / 4 + i, maskOf ((List.range 4).filter (fun j =>
    let p := 4 * (a / 4 + i) + j
    decide (a ≤ p) && decide (p < a + n) && mask.testBit (p - a)))))).filter (fun w => w.2 ≠ 0)

/-- A BAR2 read of `n` bytes at offset `off`: the data, all ones on a miss, or a poisoned completion (none). `dc` CORE
cycles have passed since the last access of BAR2 or the aux port. -/
def execBar2Read (off : Fin 16777216) (n : Fin 513) (ecc : Ecc) (dc : Nat) (s : State) : Host.Outcome State Fault Refusal :=
  .next (if !s.bar2Up || n.val = 0 then s
    else
      let s := { s with fab := { s.fab with cycle := s.fab.cycle + dc } }
      let b := off.val / bankBytes
      let s := s.abpFlush
      if !s.bankServes b 6 || decide (bankBytes < off.val % bankBytes + n.val) then
        ({ s with abp := { s.abp with bar2Out := some (List.replicate n 0xFF) } }).sf HOST_ERR_W2_MISS 1
      else
        let s := s.eccCount ecc b (off.val % bankBytes / 32)
        let tw := touched off.val n (2 ^ n.val - 1)
        let coll := tw.any (fun w => collide s.abp.lastAux s.fab.cycle w.1 w.2 false)
        let (d, s) := if coll then State.drawBytes (s.countColl) n else (s.memRead off.val n, s)
        let la := (tw.head?).map (fun w => ({ cycle := s.fab.cycle, word32 := w.1, be := w.2, write := false } : LastAcc))
        { s with abp := { s.abp with bar2Out := if eccLost ecc then none else some d, lastBar2 := la } })

/-- A BAR2 write of bytes with byte enables `be` (bit i for byte i): whole words are rewritten, partial ones by
read-modify-write; a miss drops it. -/
def execBar2Write (off : Fin 16777216) (bytes : List Byte) (be : Nat) (dc : Nat) (s : State) : Host.Outcome State Fault Refusal :=
  .next (if !s.bar2Up || bytes.length = 0 then s
    else
      let s := { s with fab := { s.fab with cycle := s.fab.cycle + dc } }
      let b := off.val / bankBytes
      let n := bytes.length
      let s := s.abpFlush
      if !s.bankServes b 7 || decide (bankBytes < off.val % bankBytes + n) then s.sf HOST_ERR_W2_MISS 1
      else
        let tw := touched off.val n be
        let coll := tw.any (fun w => collide s.abp.lastAux s.fab.cycle w.1 w.2 true)
        let s := s.memWrite off.val be bytes
        let s := if tw.any (fun w => s.abp.rbuf == some (w.1 / 8)) then { s with abp := { s.abp with rbuf := none } } else s
        let la := (tw.head?).map (fun w => ({ cycle := s.fab.cycle, word32 := w.1, be := w.2, write := true } : LastAcc))
        let s := { s with abp := { s.abp with lastBar2 := la } }
        if coll then
          let (d, s) := State.drawNat (s.countColl)
          { s with abp := { s.abp with dout := d % 2 ^ 32 } }
        else s)

/-! ### The aux bank port (R386 to R390) -/

/-- Where an aux address lies: word address and 32-bit lane; none = it misses (R386, R372). -/
def State.abpLocate (s : State) (a : Nat) : Option (Nat × Nat) :=
  let at' : Nat → Nat → Option (Nat × Nat) := fun b i => if s.bankServes b 10 then some (8192 * b + i / 8 % 8192, i % 8) else none
  if !s.gb ABP_CFG_EN then none
  else if s.gb ABP_CFG_WMODE then
    let m := s.cwMembers (s.gf ABP_CFG_WIN)
    if m.isEmpty then none
    else
      let x := a % (65536 * m.length)
      at' (m.getD (x / 65536) 64) (x % 65536)
  else if s.gb (ABP_MAP_EN (a / 65536)) then at' (s.gf (ABP_MAP_BANK (a / 65536))) (a % 65536)
  else none

/-- An aux access misses (R389). -/
def State.abpMiss (s : State) (a : Nat) (w : Bool) : State :=
  (s.sfs [(ABP_ERR_MISS, 1), (ABP_MISS_ADDR_ADDR, a), (ABP_MISS_ADDR_WRITE, b2n w)]).raise 8

/-- The write-buffer entry of one access. -/
def abpEntryOf (word lane be data : Nat) : AbpEntry :=
  { word := word, mask := be * 2 ^ (4 * lane), data := zeros (4 * lane) ++ leBytes 4 data ++ zeros (28 - 4 * lane) }

/-- Bytes of `b` over `a` where the mask of `b` has them. -/
def AbpEntry.merge (a b : AbpEntry) : AbpEntry :=
  { a with mask := a.mask ||| b.mask, data := (List.range 32).map (fun i => if b.mask.testBit i then b.data.getD i 0 else a.data.getD i 0) }

/-- Put a write into the buffer: merged into the newest entry of the same word (R388). -/
def State.abpBuffer (s : State) (e : AbpEntry) : State :=
  let w := s.abp.wbuf
  let w := match w.getLast? with
    | some z => if z.word = e.word then w.dropLast ++ [z.merge e] else w ++ [e]
    | none => [e]
  let r := if s.abp.rbuf = some e.word then none else s.abp.rbuf
  { s with abp := { s.abp with wbuf := w, rbuf := r } }

/-- The port takes accesses: ready, R364 not in force, no access busy. -/
def State.abpOpen (s : State) : Bool := s.isReady && s.abp.busy.isNone

/-- Note the access for collisions. -/
def State.abpNote (s : State) (word32 be : Nat) (w : Bool) : State :=
  { s with abp := { s.abp with lastAux := some { cycle := s.fab.cycle, word32 := word32, be := be, write := w } } }

/-- An aux write (R386 to R389): `be` has a bit set for each byte lane that ABP_BE_N enables. -/
def execAbpWrite (addr : BitVec 20) (be : BitVec 4) (data : Word) (dc : Nat) (s : State) : Host.Outcome State Fault Refusal :=
  .next (if !s.abpOpen then s
    else
      let s := { s with fab := { s.fab with cycle := s.fab.cycle + dc } }
      match s.abpLocate addr.toNat with
      | none => s.abpMiss addr.toNat true
      | some (w, l) =>
        let coll := collide s.abp.lastBar2 s.fab.cycle (8 * w + l) be.toNat true
        let s := s.abpNote (8 * w + l) be.toNat true
        let room := s.abp.wbuf.length < 16 || (match s.abp.wbuf.getLast? with | some z => z.word == w | none => true)
        if coll then
          let (d, s) := State.drawBytes (s.countColl) ((s.abp.bar2Out.getD []).length)
          { s with abp := { s.abp with bar2Out := s.abp.bar2Out.map (fun _ => d), busy := some ⟨true, addr.toNat, w, l, be.toNat, data.toNat, .ok, false⟩ } }
        else if room then s.abpBuffer (abpEntryOf w l be.toNat data.toNat)
        else { s with abp := { s.abp with busy := some ⟨true, addr.toNat, w, l, be.toNat, data.toNat, .ok, false⟩ } })

/-- An aux read (R388, R389): a hit in the read buffer completes at once; any other read fetches its word while busy.
`ecc` is what the decoder finds when the word is fetched. -/
def execAbpRead (addr : BitVec 20) (be : BitVec 4) (ecc : Ecc) (dc : Nat) (s : State) : Host.Outcome State Fault Refusal :=
  .next (if !s.abpOpen then s
    else
      let s := { s with fab := { s.fab with cycle := s.fab.cycle + dc } }
      match s.abpLocate addr.toNat with
      | none => { s.abpMiss addr.toNat false with abp := { s.abp with dout := 0xFFFFFFFF } }
      | some (w, l) =>
        let coll := collide s.abp.lastBar2 s.fab.cycle (8 * w + l) be.toNat false
        let s := s.abpNote (8 * w + l) be.toNat false
        if coll then
          let s := s.countColl
          { s with abp := { s.abp with busy := some ⟨false, addr.toNat, w, l, be.toNat, 0, ecc, true⟩ } }
        else if s.abp.rbuf = some w then { s with abp := { s.abp with dout := ofLe (s.memRead (32 * w + 4 * l) 4) } }
        else { s with abp := { s.abp with busy := some ⟨false, addr.toNat, w, l, be.toNat, 0, ecc, false⟩ } })

/-- A busy aux access completes (R387, R388): earlier writes are performed first; a write then enters the buffer; a read
delivers its word, all ones for an uncorrectable one, undefined data in a collision. -/
def execAbpAccessComplete (s : State) : Host.Outcome State Fault Refusal :=
  match s.abp.busy with
  | none => .next (if s.isReady then s.abpFlush else s)
  | some a =>
    .next (if !s.isReady then s
      else
        let s := State.abpFlush { s with abp := { s.abp with busy := none } }
        if !s.bankServes (a.word / 8192) 10 then
          let s := s.abpMiss a.addr a.write
          if a.write then s else { s with abp := { s.abp with dout := 0xFFFFFFFF } }
        else if a.write then s.abpBuffer (abpEntryOf a.word a.lane a.be a.data)
        else
          let s := s.eccCount a.ecc (a.word / 8192) (a.word % 8192)
          if eccLost a.ecc then
            let s := (s.sf ABP_ERR_UE 1).raise 8
            { s with abp := { s.abp with dout := 0xFFFFFFFF, rbuf := none } }
          else if a.undef then
            let (d, s) := s.drawNat
            { s with abp := { s.abp with dout := d % 2 ^ 32, rbuf := some a.word } }
          else { s with abp := { s.abp with dout := ofLe (s.memRead (32 * a.word + 4 * a.lane) 4), rbuf := some a.word } })

end Sys2Proof.Machine
end

