-- ==== Sys2Proof/Machine/Generic.lean ====
section
/-! DEFINITION. A register write by access types (Table 0-3, R7), and the writes of the blocks 0x0A00 and 0x1000 that wait for
the end of a switch-over (R428). -/

namespace Sys2Proof.Machine

/-- A field of a register row at an offset. -/
def FldRow.at (f : FldRow) (off : Nat) : Fld := ⟨off, f.lo, f.w⟩

/-- What a write of v makes of one field by its type: RW and RWS take the value, W1C clears where a 1 is written. -/
def State.wrField (s : State) (off v : Nat) (f : FldRow) : State :=
  let x := v / 2 ^ f.lo % 2 ^ f.w
  match f.acc with
  | .rw => s.sf (f.at off) x
  | .rws => s.sf (f.at off) x
  | .w1c => s.sf (f.at off) (s.gf (f.at off) - (s.gf (f.at off) &&& x))
  | .ro => s
  | .wo => s

/-- A write of a register whose fields have no meaning beyond their types: a write that would change a sealed field
passes R515, and outside a session leaves every field unchanged. -/
def State.wrPlain (s : State) (p : Port) (off : Nat) (v : Word) : State :=
  match regRow off with
  | none => s
  | some r =>
    let w := v.toNat
    let sealed := r.fields.filter (fun f => f.acc == .rws)
    let rest : State → State := fun s => (r.fields.filter (fun f => f.acc != .rws)).foldl (fun (s : State) f => s.wrField off w f) s
    s.rws p off v 0 (sealed.any (fun f => s.gf (f.at off) != w / 2 ^ f.lo % 2 ^ f.w)) rest (fun s =>
      (true, sealed.foldl (fun (s : State) f => s.wrField off w f) (rest s)))

/-- A write to the metrology block, 0x0A00 to 0x0BFF (R170). -/
def State.wrMetBlock (s : State) (p : Port) (off : Nat) (v : Word) : State :=
  if off = 0xA00 then s.metCtrl p v
  else if off = 0xA04 then s.wrCalCtrl p v
  else if off = 0xA20 then s.wrMetEsel v
  else if 0xA60 ≤ off ∧ off < 0xAA0 ∧ off % 16 = 0 then s.wrCfCfg p ⟨(off - 0xA60) / 16 % 4, by omega⟩ v
  else if 0xA60 ≤ off ∧ off < 0xAA0 ∧ off % 16 = 4 then s.wrCfConst p ⟨(off - 0xA60) / 16 % 4, by omega⟩ v
  else if 0xB00 ≤ off ∧ off % 16 < 12 then s.wrCal p ⟨(off - 0xB00) / 16 % 16, by omega⟩ (off % 16 / 4) v
  else s.wrPlain p off v

/-- A write to the billing block, 0x1000 to 0x13FF (R269). -/
def State.wrBilBlock (s : State) (p : Port) (off : Nat) (v : Word) : State :=
  if off = 0x1000 then s.wrBilCtrl p v
  else if off = 0x1008 then s.wrBilCfg p 0 v
  else if off = 0x100C then s.wrBilCfg p 1 v
  else if off = 0x1044 then s.wrBilCalData p v
  else if off = 0x1048 then s.wrBilCalCtrl p v
  else if off = 0x1060 then s.wrBilSel v
  else s.wrPlain p off v

/-- A write to either block. -/
def State.wrSliceBlock (s : State) (p : Port) (off : Nat) (v : Word) : State := if off < 0x1000 then s.wrMetBlock p off v else s.wrBilBlock p off v

/-- The writes that waited for the end of a switch-over take effect in the order in which they were written (R428). -/
def State.deferRun (s : State) : State :=
  s.deferW.foldl (fun (s : State) (w : Port × Nat × Word) => s.wrSliceBlock w.1 w.2.1 w.2.2) { s with deferW := [] }

end Sys2Proof.Machine
end

