-- ==== Sys2Proof/Machine/Slices.lean ====
section
/-! DEFINITION. Redundant slices and the Caddy (chapter 18): checkpoint copies, switch-overs, roles, and the loss of the last
slice. The state of the slices is the state of the engines; a rebuild repeats what they would have computed. -/

namespace Sys2Proof.Machine

/-! ### Gaps of a group's streams -/

/-- The first group SI whose input instant on the lead channel is at or after an instant in 2^-64 s (R133). -/
def Grp.siFromX (g : Grp) (t : Nat) : Nat :=
  let at0 := fun (a : Anchor) => a.n + cdiv (t - a.full g.lead a.n) a.p
  let rec go : List Anchor → Option Nat → Nat
    | [], _ => 0
    | [a], hi => (match hi with | some h => min h (at0 a) | none => at0 a)
    | a :: l, hi => if a.full g.lead a.n ≤ t then (match hi with | some h => min h (at0 a) | none => at0 a) else go l (some a.n)
  go g.anchors none

/-- The first group SI whose input instant on the lead channel, truncated, is at or after an instant. -/
def Grp.siFrom (g : Grp) (t : DevTime) : Nat := g.siFromX (t * 2 ^ 32)

/-- The streams of a group's interval classes that are enabled for it (R85, R134, R143). -/
def State.grpClasses (s : State) (g : Fin 2) : List Nat :=
  let gr := s.grp[g]
  [clsCYC] ++ (if gr.agg || (gr.monitor && s.gb (if g = 0 then AGG_CTRL_EN_A else AGG_CTRL_EN_B)) then [clsAGG] else []) ++
    (if gr.spec || gr.specGap.isSome || (gr.monitor && s.gb (SPEC_CFG_EN g)) then [clsSPC] else []) ++ [clsBIL]

/-- A GAP record with further flags on every stream of a source in the named classes. -/
def State.gapsOn (s : State) (classes : List Nat) (src : Nat) (x : Gap) (flags : Nat) : State :=
  classes.foldl (fun (s : State) c =>
    let r := gapRec c src x
    let r := { r with flags := r.flags ||| flags }
    if c = clsAGG then [0, 1, 2, 3].foldl (fun (s : State) l => s.emitL l r) s else s.emit r) s

/-- The samples that a group's streams have not covered since no slice processes it (R427): CYC, AGG of levels 0 to 3, BIL, and
EVT. -/
def State.lostGap (s : State) (g : Fin 2) (evt : Bool) : State :=
  let gr := s.grp[g]
  let n := gr.si
  let from0 := fun (i : Nat) => gr.lostFrom.getD i n
  let rec0 := fun (c i : Nat) => gapRec c (srcGrp g) { cause := gapSliceLost, tStart := s.grT g (from0 i), tEnd := s.grT g n, si := from0 i % 2 ^ 48, count := n - from0 i }
  let put := fun (s : State) (c i lv : Nat) (on : Bool) => if on && decide (from0 i < n) then s.emitL lv (rec0 c i) else s
  let s := put s clsCYC 0 0 true
  let s := [0, 1, 2, 3].foldl (fun (s : State) l => put s clsAGG (1 + l) l gr.agg) s
  let s := put s clsBIL 5 0 true
  let s := put s clsEVT 6 0 evt
  s.setGrp g (fun gr => { gr with lostFrom := (List.range 7).map (fun i => if i < 6 || evt then n else gr.lostFrom.getD i n) })

/-- The release marks of a group's streams (R427): the first SIs that CYC, AGG of levels 0 to 3, BIL and EVT have not covered. -/
def State.releaseMarks (s : State) (g : Fin 2) : List Nat :=
  let gr := s.grp[g]
  let cyc := gr.siFrom (((gr.wdone.filter (fun d => d.civ.isNone)).map (fun d => d.w.a) ++ gr.wins.map Window.a).headD (s.grT g gr.si))
  let next := gr.siFrom ((gr.wdone.map (fun d => d.w.a) ++ gr.wins.map Window.a).headD (s.grT g gr.si))
  let lv := fun (l : Fin 3) => if gr.lvls[l].isOpen then gr.lvls[l].si else next
  let f10 := match gr.f10A with | some a => gr.siFrom a | none => gr.si
  let bil := match s.bil[g].sub, gr.steps with
    | some u, _ => u.si
    | none, e :: _ => e.si
    | none, [] => gr.siFrom gr.cycA
  [cyc, lv 0, lv 1, lv 2, f10, bil, gr.ev.cov]

/-! ### Roles (R414, R415, R421, Table 18-3) -/

/-- Table 18-3: the new active slice, checker and standby after the self-tests of the old active slice `a` and checker `c`; 3 =
none; no active slice: none remains. -/
def rolesAfter (caddy a c : Nat) (pa pc : Bool) : Option (Nat × Nat × Nat) :=
  if caddy ≠ 3 then
    match pa, pc with
    | true, true => some (caddy, a, c)
    | false, true => some (caddy, c, 3)
    | true, false => some (caddy, a, 3)
    | false, false => some (caddy, 3, 3)
  else
    match pa, pc with
    | true, true => some (a, c, 3)
    | false, true => some (c, 3, 3)
    | true, false => some (a, 3, 3)
    | false, false => none

/-- Show the roles; UNCOMPARED while no checker runs (R415). -/
def State.setRoles (s : State) (a c k : Nat) : State :=
  s.sfs [(SLICE_STAT_ACTIVE, a), (SLICE_STAT_CHECKER, c), (SLICE_STAT_CADDY, k), (SLICE_STAT_UNCOMPARED, b2n (decide (a ≠ 3) && decide (c = 3)))]

/-- Fence slice n at run time (R495): every register changes before its UNIT_LOST record. -/
def State.fenceSlice (s : State) (n : Nat) : State :=
  if n < 3 then ((s.smbit SLICE_STAT_FENCED n true).fenceBit FENCE_MISC_SLICE n).unitLost 4 n 0 [] else s

/-- The slices in ascending number take the roles of start-up (R414). -/
def State.startRoles (s : State) : State :=
  let l := (List.range 3).filter (fun n => !s.mbit FUSE_MISC_SLICE n && !s.sliceFenced n)
  s.setRoles (l.getD 0 3) (l.getD 1 3) (l.getD 2 3)

/-! ### No slice remains (R427) -/

/-- The metrology of a running group ends: what its slices held is gone, its streams are uncovered from their release marks. -/
def State.grpLost (s : State) (g : Fin 2) : State :=
  let gr := s.grp[g]
  if !gr.running || gr.monitor || gr.await.isSome then s
  else
    let m := s.releaseMarks g
    let s := s.setGrp g (fun gr => { gr with
      lost := true
      lostFrom := m
      steps := []
      halves := []
      cycs := []
      cuts := []
      psts := []
      lvls := Vector.ofFn (fun (l : Fin 3) => { lastNom := gr.lvls[l].lastNom })
      ev := { cov := gr.ev.cov }
      wdone := gr.wdone.map (fun d => { d with civ := some (d.civ.getD { si := 0, n := 0, ovr := 0, flags := 0, chmask := 0, vals := [] }) }) })
    let s := s.setBil g (fun x => { x with sub := none, openAt := none, cuts := [] })
    let s := (s.sf (MET_STAT_RUN g) 0).setOpen clsAGG 3 (srcGrp g) none
    let s := (bitsOf 8 s.grp[g].mask).foldl (fun (s : State) c => if h : c < 8 then s.smpRelease (chanOf g ⟨c, h⟩) none 0 else s) s
    (((s.bilOrder g).aggFeed g).evStat g).release

/-- Metrology stops until the next full reset. -/
def State.sliceLost (s : State) : State :=
  let s := { s with slc := { s.slc with sw := none, trial := false } }
  let s := (s.setRoles 3 3 3).sfs [(SLICE_STAT_SWITCHING, 0), (SLICE_STAT_LOST, 1)]
  (((s.raise 3).grpLost 0).grpLost 1).deferRun

/-! ### Checkpoint copies (R419, R420) -/

/-- The copy that the active slice would write now. -/
def State.sliceCopy (s : State) (seq : Nat) : SliceCopy :=
  { seq := seq, t := s.tCap, si := [s.grp[(0 : Fin 2)].si, s.grp[(1 : Fin 2)].si], met := s.met, bil := s.bil }

/-- The current copy is used at a switch-over: the other one when it holds an uncorrectable word; with no usable copy no slice
can take over. -/
def State.ckptUse (s : State) : State :=
  if s.slc.cur.isSome && !s.slc.bad then s
  else
    match s.slc.old with
    | some c => State.sfs { s with slc := { s.slc with cur := some c, old := none, bad := false } } [(SLICE_ERR_CKPT_FALLBACK, 1), (SLICE_CKSEQ_SEQ, c.seq)]
    | none => s.sliceLost

/-- An uncorrectable word of the current copy is met (R420): a switch-over in progress starts again from the other copy. -/
def State.ckptHit (s : State) : State :=
  let s := { s with slc := { s.slc with bad := true } }
  if s.slc.sw.isSome then s.ckptUse else s

/-! ### Switch-overs (R421 to R426) -/

/-- A switch-over starts: the freeze. Only a mismatch or a stall has a port and a group. -/
def State.switchStart (s : State) (cause : Nat) (word : Option (Nat × Nat)) : State :=
  let w : Switch := { cause := cause, t0 := s.now, oldA := s.gf SLICE_STAT_ACTIVE, oldC := s.gf SLICE_STAT_CHECKER, caddy := s.gf SLICE_STAT_CADDY }
  let s := { s with slc := { s.slc with sw := some w } }
  let s := ((s.sf SLICE_STAT_SWITCHING 1).raise 2).incSat SLICE_SWCNT_COUNT 1
  let s := if cause = 4 then s.incSat SLICE_SWCNT_TRIALS 1 else s
  let s := match word with
    | some (p, g) => (s.s64 SLICE_LAST_T_LO_FRAC SLICE_LAST_T_HI_SEC s.now).sfs [(SLICE_MISMATCH_PORT, p), (SLICE_MISMATCH_GROUP, g)]
    | none => s
  s.ckptUse

/-- Change the switch-over in progress. -/
def State.setSw (s : State) (f : Switch → Switch) : State := { s with slc := { s.slc with sw := s.slc.sw.map f } }

/-- Assign the roles of Table 18-3 once the self-tests have ended and the Caddy, if one is present, is loaded. -/
def State.switchRoles (s : State) : State :=
  match s.slc.sw with
  | none => s
  | some w =>
    match w.test with
    | none => s
    | some (pa, pc) =>
      if w.caddy ≠ 3 && !w.loaded then s
      else
        match rolesAfter w.caddy w.oldA w.oldC pa pc with
        | none => s.sliceLost
        | some (a, c, k) => (s.setRoles a c k).setSw (fun w => { w with assigned := true })

/-- The Caddy is fenced when it is called (R426); the roles follow as if there had been none. -/
def State.caddyFail (s : State) (restart : Bool) : State :=
  match s.slc.sw with
  | none => s
  | some w =>
    let s := (s.fenceSlice w.caddy).sf SLICE_ERR_CADDY_FAIL 1
    (s.setSw (fun w => { w with caddy := 3, loaded := false, assigned := false, restart := w.restart || restart })).switchRoles

/-- A mismatch during the rebuild (R426): with the Caddy in the pair it is the one that is fenced; otherwise both are, and a
slice that remains rebuilds alone. -/
def State.rebuildMismatch (s : State) (w : Switch) : State :=
  let a := s.gf SLICE_STAT_ACTIVE
  let c := s.gf SLICE_STAT_CHECKER
  if w.caddy ≠ 3 then s.caddyFail true
  else
    let s := (s.fenceSlice a).fenceSlice c
    match (List.range 3).find? (fun n => !s.mbit FUSE_MISC_SLICE n && !s.sliceFenced n) with
    | some n => (s.setRoles n 3 3).setSw (fun w => { w with restart := true })
    | none => s.sliceLost

/-- The samples of a group from one past its checkpoint SI to the newest one were replayed (R422): what is formed from them carries
REPLAYED (R26). What its open intervals and outstanding steps carry besides (R415). -/
def State.grpReplayed (s : State) (g : Fin 2) (from0 : Nat) : State :=
  let un := if s.gb SLICE_STAT_UNCOMPARED then flUncompared else 0
  let win := fun (w : Window) => { w with flags := w.flags ||| un }
  s.setGrp g (fun gr =>
    if !gr.running || gr.monitor then gr
    else
      { gr with
        rep := (from0, gr.si)
        wins := gr.wins.map win
        wdone := gr.wdone.map (fun d => if d.civ.isNone then { d with w := win d.w } else d)
        steps := gr.steps.map (fun e => { e with flags := e.flags ||| un ||| (if from0 < e.si + e.k then flReplayed else 0) }) })

/-- The replay reaches the newest sample (R422): what was held back is released with REPLAYED, and the writes that waited take
effect. -/
def State.switchEnd (s : State) (gapUs backlogUs : Nat) : State :=
  match s.slc.sw with
  | none => s
  | some w =>
    let pass := match w.test with
      | some (pa, pc) => (if pa then 2 ^ w.oldA else 0) + (if pc && decide (w.oldC ≠ 3) then 2 ^ w.oldC else 0)
      | none => 0
    let from0 := (s.slc.cur.map SliceCopy.si).getD []
    let s := { s with slc := { s.slc with sw := none } }
    let s := s.sfs [(SLICE_STAT_SWITCHING, 0), (SLICE_LAST_CAUSE, w.cause), (SLICE_LAST_OLD_ACTIVE, w.oldA), (SLICE_LAST_OLD_CHECKER, w.oldC), (SLICE_LAST_PASS, pass),
      (SLICE_LAST_RESTART, b2n w.restart), (SLICE_LAST_GAP_US, min gapUs 65535), (SLICE_RPLY_BACKLOG_MAX, max (s.gf SLICE_RPLY_BACKLOG_MAX) (min backlogUs 65535))]
    let s := (s.grpReplayed 0 (from0.getD 0 0)).grpReplayed 1 (from0.getD 1 0)
    let n := s.bilOut.length
    let s := (s.stepsSettle 0).stepsSettle 1
    let s := { s with bilOut := s.bilOut.take n ++ (s.bilOut.drop n).map (fun (e : Nat × Rec) => (e.1, { e.2 with flags := e.2.flags ||| flReplayed })) }
    s.deferRun

/-! ### The trial (R430) -/

/-- A write of SLICE_CTRL. -/
def State.wrSliceCtrl (s : State) (p : Port) (v : Word) : State :=
  s.rws p 0x1C04 v 0 (v.toNat.testBit 0) id (fun s =>
    if (List.range 3).any (fun n => s.sliceFenced n || s.mbit FUSE_MISC_SLICE n) || s.switching || s.gb SLICE_STAT_LOST then (false, s.sf SLICE_ERR_TRIAL_REFUSED 1)
    else (true, { s with slc := { s.slc with trial := true } }))

end Sys2Proof.Machine
end

