-- ==== Sys2Proof/Machine/Time.lean ====
section
/-! DEFINITION. Device time (chapter 6) and what cuts a group's intervals: PPS discipline, SET_TIME, steps, shadow spans and
leap seconds, 10-min ticks, the frequency tracker and the 10 s frequency, crystal halts, clock losses, START and STOP. -/

namespace Sys2Proof.Machine

/-! ### Small operations -/

/-- Nanoseconds as 2^-32 s, rounded down (DESIGN CHOICE, log entry 65). -/
def nsTime (x : Int) : Int := x * 2 ^ 32 / 1000000000

/-- A phase or a change below 1 µs, of an amount in 2^-64 s (R130, R132). -/
def belowUs (e : Int) : Bool := decide (e.natAbs * 1000000 < 2 ^ 64)

/-- The payload of a LOG TIME record (R323): event, T_S, DELTA, and the sources with their SIs. -/
def State.timeBody (s : State) (ev : Nat) (tS : DevTime) (delta : Int) (srcs : List (Nat × Nat)) : List Byte :=
  leBytes 1 ev ++ leBytes 1 (s.gf TIME_STATUS_STATE) ++ zeros 2 ++ leBytes 4 (s.gf PPS_ERR_E) ++ leBytes 8 tS ++
    leBytes 8 (ofSigned 64 delta) ++ leBytes 1 srcs.length ++ zeros 7 ++ srcs.flatMap (fun x => leBytes 2 x.1 ++ zeros 6 ++ leBytes 8 (x.2 % 2 ^ 48))

/-- The LOG TIME record. -/
def State.logTime (s : State) (ev : Nat) (tS : DevTime) (delta : Int) (srcs : List (Nat × Nat)) : State :=
  s.log 3 0 (s.timeBody ev tS delta srcs)

/-- The discipline's state changes, with its LOG record (R131). -/
def State.ppsState (s : State) (st : Nat) : State :=
  if s.gf TIME_STATUS_STATE = st then s
  else
    let s := s.sf TIME_STATUS_STATE st
    let s := if st = 2 then s.sf TIME_STATUS_RELOADED 0 else s
    s.logTime 1 s.now 0 []

/-- The Kettle mirrors device time (R125). -/
def State.mirror (s : State) : State := if s.ket.main then s.ketOffset.ketCopy else s

/-- A change of I: anchors are due at the next sample of every running source (R128). -/
def State.incChanged (s : State) (old : Nat) : State :=
  if s.inc = old then s
  else
    let s := (fins 2).foldl (fun (s : State) (g : Fin 2) =>
      if s.grp[g].running && s.grp[g].await.isNone then s.setGrp g (fun gr => { gr with due := some (gr.due.getD 1) }) else s) s
    (fins 8).foldl (fun (s : State) (n : Fin 8) => if s.tsOn n then s.setTs n (fun x => { x with due := some (x.due.getD 1) }) else s) s

/-- What remains of the slew in progress, in 2^-64 s: its amount less 10 ppm of the time that it has run (log entry 50). -/
def State.slewRest (s : State) : Int := s.time.slew * ((s.time.slewLeft - (s.time.t - s.time.slewT) / 100000 : Nat) : Int)

/-- The slew ends or is abandoned (R130, R132). -/
def State.slewStop (s : State) : State :=
  if s.time.slew = 0 then s
  else State.incChanged (State.sf { s with time := { s.time with slew := 0, slewLeft := 0 } } TIME_STATUS_SLEWING 0) s.inc

/-- A slew by d (2^-64 s) starts, in place of one in progress; none runs while I is held (R339). -/
def State.slewStart (s : State) (d : Int) : State :=
  let s1 := s.slewStop
  if d = 0 || s.gb ERR_SUMM_ANCHOR_HOLD then s1
  else
    let t := { s1.time with slew := if 0 < d then 1 else -1, slewLeft := d.natAbs, slewT := s1.time.t }
    State.incChanged (State.sf { s1 with time := t } TIME_STATUS_SLEWING 1) s1.inc

/-- Group SI range of [a, b): its first SI and its samples. -/
def Grp.siRange (g : Grp) (a b : DevTime) : Nat × Nat := (g.siFrom a, g.siFrom b - g.siFrom a)

/-- Indices of runs (first, count) that lie in [a, a + k). -/
def runIn (a k : Nat) (l : List (Nat × Nat)) : Nat := (l.map (fun r => min (a + k) (r.1 + r.2) - max a r.1)).sum

/-! ### Gaps of a group's streams -/

/-- The samples of a monitor-mode run that its group's streams have not covered (R85): on the interval classes, and on EVT. -/
def State.monGap (s : State) (g : Fin 2) (evt : Bool) : State :=
  let gr := s.grp[g]
  let n := gr.si
  let tE := s.grT g n
  let x := fun (i : Nat) => ({ cause := gapStopped, tStart := s.grT g i, tEnd := tE, si := i % 2 ^ 48, count := n - i } : Gap)
  let s := if gr.monSi < n then s.gapsOn (s.grpClasses g) (srcGrp g) (x gr.monSi) 0 else s
  let s := if evt && gr.monEvt < n then s.emit (gapRec clsEVT (srcGrp g) (x gr.monEvt)) else s
  s.setGrp g (fun gr => { gr with monSi := n, monEvt := if evt then n else gr.monEvt })

/-- The runs of group SIs of which no sample reached CORE become CORE_STALL gaps on the group's streams (R16, R25); what lies in a
shadow span in progress is covered at its end (R28). -/
def State.grpStall (s : State) (g : Fin 2) : State :=
  let gr := s.grp[g]
  let l := match gr.shadow with | some (i, _) => runBelow i gr.stall | none => gr.stall
  let s := s.setGrp g (fun gr => { gr with stall := [] })
  if gr.monitor || gr.lost then s
  else
    l.foldl (fun (s : State) (r : Nat × Nat) =>
      let x : Gap := { cause := gapCoreStall, tStart := s.grT g r.1, tEnd := s.grTEnd g r.1 r.2, si := r.1 % 2 ^ 48, count := r.2 }
      let s := s.gapsOn (s.grpClasses g) (srcGrp g) x 0
      let s := if s.grp[g].ev.cov < r.1 then s.evEval g r.1 0 else s
      if s.grp[g].ev.cov ≤ r.1 then State.emit (s.setEv g (fun e => { e with cov := r.1 + r.2 })) (gapRec clsEVT (srcGrp g) x) else s) s

/-- Each discarded run of a source becomes a gap record with cause CORE_STALL (R16): channels 0 to 15, with what their group lost,
and transient inputs from 16. -/
def execCoreStallGapRecord (n : Fin 24) (s : State) : Host.Outcome State Fault Refusal :=
  .next (if s.time.coreStop || !s.isReady then s
    else if h : n.val < 16 then (s.chStall ⟨n.val, h⟩).grpStall (grpOf n.val) else s.tsStall ⟨n.val - 16, by omega⟩)

/-- The FENCED gaps of a channel up to its next SI (R78). -/
def State.fencedGap (s : State) (n : Fin 16) : State :=
  match s.chan[n].fen with
  | none => s
  | some i =>
    let k := s.chan[n].si - i
    if k = 0 then s
    else
      let g : Gap := { cause := gapFenced, tStart := s.chT n i, tEnd := s.chTEnd n i k, si := i % 2 ^ 48, count := k }
      let s := s.setChan n (fun c => { c with fen := some c.si, thrCov := c.si })
      ((s.smpGap n g).emit (gapRec clsEVT n g)).capGap n g

/-- The samples of a shadow span are covered by one GAP record per stream that formed no record of them (R134). -/
def State.spanGap (s : State) (g : Fin 2) : State :=
  match s.grp[g].shadow with
  | none => s
  | some (i, h) =>
    let gr := s.grp[g]
    let k := gr.si - i
    let s := (bitsOf 8 gr.mask).foldl (fun (s : State) c =>
      if hc : c < 8 then
        let n := chanOf g ⟨c, hc⟩
        let s := s.smpRelease n none 0
        let a := ((i : Int) + s.chan[n].off).toNat
        let s := s.setChan n (fun ch => { ch with lost := runBelow a ch.lost })
        let b := match s.chan[n].fen with | some f => min s.chan[n].si f | none => s.chan[n].si
        if b ≤ a then s
        else
          let x : Gap := { cause := gapStopped, tStart := h, tEnd := h, si := a % 2 ^ 48, count := b - a }
          (s.gapsOn [clsSMP] n x flTimestep).capGap n x
      else s) s
    let s := if k = 0 then s
      else s.gapsOn (s.grpClasses g) (srcGrp g) { cause := gapStopped, tStart := h, tEnd := h, si := i % 2 ^ 48, count := k } flTimestep
    s.setGrp g (fun gr => { gr with
      shadow := none
      stall := runBelow i gr.stall
      monSi := if gr.monitor then gr.si else gr.monSi
      lostFrom := if gr.lost then (List.range 7).map (fun i => if i < 6 then gr.si else gr.lostFrom.getD i 0) else gr.lostFrom })

/-! ### The tracker and the 10 s frequency (R136 to R138) -/

/-- A 10 s interval's length. -/
def tenSec : Nat := 10 * 2 ^ 32

/-- The nominal frequency and the tracker's range, in 2^-24 Hz. -/
def Grp.nomF (g : Grp) : Nat := (if g.fnom = 0 then 50 else 60) * 2 ^ 24
def Grp.fRange (g : Grp) : Nat × Nat := if g.fnom = 0 then (85 * 2 ^ 23, 115 * 2 ^ 23) else (51 * 2 ^ 24, 69 * 2 ^ 24)

/-- The order of a group's 10 s records on the AGG ring of level 3. -/
def State.f10Open (s : State) (g : Fin 2) : State := s.setOpen clsAGG 3 (srcGrp g) (if s.grp[g].agg && !s.grp[g].lost then s.grp[g].f10A else none)

/-- A 10 s interval opens at an instant with the flags of what opens it. -/
def State.f10Start (s : State) (g : Fin 2) (a : DevTime) (flags : Nat) : State :=
  let st := s.gf (FREQ_STAT_STATE g)
  (s.setGrp g (fun gr => { gr with f10A := some a, f10St := if st = 3 then 0 else st, f10First := none, f10Last := none, f10N := 0, f10Flags := flags, f10Aux := 0 })).f10Open g

/-- A positive crossing of the reference (R138). -/
def State.f10Cross (s : State) (g : Fin 2) (t : DevTime) : State :=
  match s.grp[g].f10A with
  | some a =>
    if t < a || s.gf (FREQ_STAT_STATE g) < 2 then s
    else s.setGrp g (fun gr => { gr with f10First := some (gr.f10First.getD t), f10Last := some t, f10N := gr.f10N + 1 })
  | none => s

/-- The end of the 10 s interval that begins at or holds an instant. -/
def f10End (a : DevTime) : DevTime := (a / tenSec + 1) * tenSec

/-- The running 10 s interval closes: whole when it has reached its end by the instant `lim`, else at `b`, the input instant of the
first sample that it excludes, with the flags of what closes it (R133, R138, R229). An interval without samples gives no value.
A frequency without a whole cycle is not defined: its words are free (log entry 5); a defined one is rounded to 2^-24 Hz, ties to
even (DESIGN CHOICE, log entry 65). -/
def State.f10Close (s : State) (g : Fin 2) (b lim : DevTime) (flags : Nat) : State :=
  match s.grp[g].f10A with
  | none => s
  | some a =>
    let gr := s.grp[g]
    let e := f10End a
    let whole := decide (e ≤ lim)
    let tE := if whole then e else min e b
    let (si, k0) := gr.siRange a tE
    let k := k0 - runIn si k0 gr.gone
    let next : State → State := fun s => if whole then s.f10Start g e 0 else (s.setGrp g (fun gr => { gr with f10A := none })).f10Open g
    if k = 0 || decide (tE ≤ a) then next s
    else
      let n := gr.f10N - 1
      let dur := gr.f10Last.getD 0 - gr.f10First.getD 0
      let f : Rat := if dur = 0 then 0 else (n : Rat) * ((2 ^ 32 : Nat) : Rat) / (dur : Rat)
      let has := decide (0 < n) && decide (0 < dur)
      let fx := if has then (roundEven (f * 16777216)).toNat else Config.freeNat s.free % 2 ^ 32
      let s := if has then s else { s with free := s.free + 1 }
      let valid := has && gr.f10St == 0
      let fl := gr.f10Flags ||| (if whole then 0 else flags) ||| (if gr.ev.flagged a tE then flFlagged else 0)
      let s := s.sfs [(FREQ_10S_F g, fx), (FREQ_10S_T_SEC g, a / 2 ^ 32), (FREQ_10S_FL_N g, min n 65535), (FREQ_10S_FL_VALID g, b2n valid),
        (FREQ_10S_FL_HALT g, b2n (!whole && flags == flHalt)), (FREQ_10S_FL_TIMESTEP g, b2n (!whole && flags == flTimestep)),
        (FREQ_10S_FL_FHOLD g, b2n (gr.f10St != 0))]
      let r : Rec :=
        { cls := clsAGG, src := srcGrp g, flags := fl, tStart := a, tEnd := tE, si := si % 2 ^ 48, count := k, aux := 4 + gr.f10Aux + 65536 * min n 65535,
          payload := leBytes 4 (if has then f32bits f else nan32) ++ leBytes 4 fx ++ leBytes 4 n ++ leBytes 1 (b2n valid) ++ leBytes 1 gr.f10St ++ zeros 2,
          vals := if valid then [(2 ^ 23 * g.val + vkey 0x30 0 0, f32bits f)] else [] }
      let s := next s
      if gr.agg && !gr.lost then s.emitL 3 r else s

/-- Close every 10 s interval that has ended by an instant, at most `fuel`. -/
def State.f10Settle (g : Fin 2) : Nat → DevTime → State → State
  | 0, _, s => s
  | k + 1, b, s =>
    match s.grp[g].f10A with
    | some a => if f10End a ≤ b then State.f10Settle g k b ((s.f10Close g b b 0).release) else s
    | none => s

/-- The tracker's state changes. -/
def State.trkState (s : State) (g : Fin 2) (st : Nat) : State :=
  let s := s.sf (FREQ_STAT_STATE g) st
  let s := if st = 3 then s.sf (FREQ_STAT_EVERLOCKED g) 1
    else s.setGrp g (fun gr => { gr with f10St := if gr.f10St = 0 then st else gr.f10St })
  s.winNote g

/-- FREQ_NOW with its clamp (R136, R137). -/
def State.trkFreq (s : State) (g : Fin 2) (f : Nat) : State :=
  let gr := s.grp[g]
  let st := s.gf (FREQ_STAT_STATE g)
  if st < 2 then
    if gr.lockF = 0 then s.sfs [(FREQ_NOW_F g, gr.nomF), (FREQ_STAT_OUTRANGE g, 0)] else s.sf (FREQ_NOW_F g) gr.lockF
  else
    let (lo, hi) := gr.fRange
    let x := min (max f lo) hi
    let s := s.sfs [(FREQ_NOW_F g, x), (FREQ_STAT_OUTRANGE g, b2n (decide (x ≠ f)))]
    if st = 3 then s.setGrp g (fun gr => { gr with lockF := x }) else s

/-- A completed cycle's amplitude moves the tracker (R137). -/
def State.trkCycle (s : State) (g : Fin 2) (amp : Nat) : State :=
  let gr := s.grp[g]
  let amp := if gr.ref < 3 && gr.fenced.testBit gr.ref then 0 else amp
  let min0 := s.gf (FREQ_CFG_MINAMP g)
  let st := s.gf (FREQ_STAT_STATE g)
  let low := decide (2 * amp < min0)
  let run := if min0 ≤ amp then gr.ampRun + 1 else 0
  let new := if low then 1 else if st = 3 then 3 else if 5 ≤ run then 3 else if st = 2 || min0 ≤ amp then 2 else 1
  (s.setGrp g (fun gr => { gr with ampRun := if low then 0 else run })).trkState g new

/-! ### What cuts and begins a group's intervals (R133, R142, R229) -/

/-- Release every SMP piece of a group's channels. -/
def State.smpFlush (s : State) (g : Fin 2) : State :=
  (bitsOf 8 s.grp[g].mask).foldl (fun (s : State) c => if h : c < 8 then s.smpRelease (chanOf g ⟨c, h⟩) none 0 else s) s

/-- The group has no interval outstanding. -/
def State.grpClear (s : State) (g : Fin 2) : State := s.setGrp g (fun gr => { gr with psts := [], wdone := [], halves := [], cycs := [] })

/-- The rings' orders follow a group's state, and what may be placed is placed. -/
def State.grpOrder (s : State) (g : Fin 2) : State := ((((s.aggOpen g).spcOpen g).f10Open g).bilOrder g).release

/-- The slices' intervals of a group close before the sample of instant `b`: cycle, steps, windows, events, levels, 10 s interval,
sub-interval. An interval whose nominal end lies at or before `lim` closes complete (R133). -/
def State.sliceCut (s : State) (g : Fin 2) (b lim : DevTime) (cause fl : Nat) : State :=
  let s := s.calSettle g
  let s := s.cutBills g s.grp[g].cycA b
  let s := if s.grp[g].cycA < b then s.cycleCut g b else s
  let s := s.stepsSettle g
  let s := (s.winEnd g b fl []).winEnd g b fl []
  let s := (s.harmFlush g).evEnd g cause fl
  let s := (s.cycFlush g).aggFeed g
  let s := s.pstClose g
  let s := s.shortClose g b fl
  let lv := fun (l : Fin 3) => if s.grp[g].lvls[l].e ≤ lim then 0 else fl
  let two := lv 2
  let s := s.tenClose g b (lv 1)
  let s := s.twoClose g b two
  ((s.f10Close g b lim fl).grpClear g).bilEnd g b fl

/-- Every open interval of a group outside monitor mode closes at its next sample, which it excludes: `cause` 1 STOP, 2 HALT,
3 TIMESTEP, with the flag of the cause; `lim` is the instant at which intervals still end complete. Of a group that no slice
processes, the spectral windows and the 10 s interval close. -/
def State.grpCut (s : State) (g : Fin 2) (lim : DevTime) (cause fl : Nat) : State :=
  let b := s.grT g s.grp[g].si
  let s := State.f10Settle g 8640 lim s
  let s := if s.grp[g].lost then ((((((s.winEnd g b fl []).winEnd g b fl []).harmFlush g).aggFeed g).f10Close g b lim fl).grpClear g)
    else s.sliceCut g b lim cause fl
  ((s.smpFlush g).setGrp g (fun gr => { gr with ticks := [], gone := [] })).grpOrder g

/-- A group outside monitor mode opens its intervals at an instant, with the flags of what opens them; in a shadow span the flags
wait for its end. The instant is itself a half-cycle boundary where the nominal boundaries start from it (R147, R201). -/
def State.grpOpen (s : State) (g : Fin 2) (a : DevTime) (fl : Nat) (fresh bound : Bool) : State :=
  let sh := s.grp[g].shadow.isSome
  let s := s.setGrp g (fun gr => { gr with cycA := a, halves := if bound then [a] else [], openFlags := if sh then gr.openFlags ||| fl else 0 })
  let s := if sh then s else s.f10Start g a fl
  if s.grp[g].lost then s.winOpen g a fl else (s.winOpen g a fl).bilStart g a fresh fl

/-- A time step takes effect at a group's next sample (R128, R133, R134). -/
def State.stepSwitch (s : State) (g : Fin 2) (p : PStep) : State :=
  let mon := s.grp[g].monitor
  let n := s.grp[g].si
  let s := if mon then s.smpFlush g else s.grpCut g p.tS 3 flTimestep
  let s := s.setGrp g (fun gr => { gr with
    step := gr.step.tail
    delta := p.d
    nomBase := ((gr.nomBase : Int) + p.d).toNat
    startT := ((gr.startT : Int) + p.d).toNat })
  let a := s.nextAnchor g n
  let t := a.time s.grp[g].lead n
  let was := s.grp[g].shadow.isSome
  let s := match s.grp[g].shadow, p.hwm with
    | some (i, h), some w => s.setGrp g (fun gr => { gr with shadow := some (i, max h w) })
    | some _, none => s.spanGap g
    | none, some w =>
      if t < w then
        (let s := if mon then s.monGap g false else if s.grp[g].lost then s.lostGap g false else s
         s.setGrp g (fun gr => { gr with shadow := some (n, w) }))
      else s
    | none, none => s
  let s := s.publishAnchor g a 2
  let fl := if was && p.hwm.isNone then s.grp[g].openFlags ||| flTimestep else flTimestep
  if mon then s else s.grpOpen g t fl (was && p.hwm.isNone) false

/-- A group's shadow span ends with its next sample, the first at or after TIME_HWM (R134). -/
def State.spanEnd (s : State) (g : Fin 2) (h : DevTime) : State :=
  let t := s.grT g s.grp[g].si
  let s := (s.flickTo g s.grp[g].si).spanGap g
  if s.grp[g].monitor then s
  else
    let fl := s.grp[g].openFlags ||| flTimestep
    let s := if s.grp[g].lost then s else s.cutStep g h
    let s := (s.f10Start g (cdiv h tenSec * tenSec) fl).winOpen g t fl
    if s.grp[g].lost then s else s.bilStart g h true fl

/-- A 10-min tick at a group whose samples before it have all been delivered (R78, R128, R140, R187, R211). -/
def State.tickGroup (s : State) (g : Fin 2) (b : DevTime) : State :=
  let s := s.thrSettle g
  let s := s.setGrp g (fun gr => { gr with tickDue := none, due := some (gr.due.getD 3) })
  let s := (bitsOf 8 s.grp[g].mask).foldl (fun (s : State) c =>
    if h : c < 8 then
      let n := chanOf g ⟨c, h⟩
      if s.chan[n].fen.isSome then s.fencedGap n else s.thrEval n s.chan[n].si 0
    else s) s
  if s.grp[g].monitor then s
  else
    let lost := s.grp[g].lost
    let s := if lost then s else (s.evEval g s.grp[g].si 0).cutStep g b
    let s := s.specGapOut g s.grp[g].si 0
    let cut := s.grp[g].wins.any (fun w => decide (w.a < b) && w.tick.isNone)
    if !cut then s
    else
      let s := s.setGrp g (fun gr => { gr with wins := gr.wins.map (fun w => if w.a < b && w.tick.isNone then { w with tick := some b } else w) })
      let s := if s.grp[g].agg && !lost then s.pstClose g else s
      s.winOpen g b 0

/-- What is due before a running group's next sample, or before anything that lies at or after it: a 10-min tick, a step, the
end of a shadow span. -/
def State.grpDue (s : State) (g : Fin 2) : State :=
  let gr := s.grp[g]
  if !gr.running || gr.await.isSome then s
  else
    let s := match gr.tickDue with
      | some b => if b ≤ s.grT g gr.si then s.tickGroup g b else s
      | none => s
    let s := gr.step.foldl (fun (s : State) (p : PStep) => if p.n ≤ gr.si then s.stepSwitch g p else s) s
    match s.grp[g].shadow with
    | some (_, h) => if h ≤ s.grT g s.grp[g].si then s.spanEnd g h else s
    | none => s

/-- A group's sample production ends: STOP (cause 1) or halt (cause 2) (R78, R93, R142, R163, R211, R229). -/
def State.grpEnd (s : State) (g : Fin 2) (halt : Bool) : State :=
  let s := s.grpDue g
  let gr := s.grp[g]
  if gr.await.isSome then s
  else
    let fl := if halt then flHalt else flPartial
    let s := s.setGrp g (fun gr => { gr with ended := true })
    let s := (s.thrSettle g).spanGap g
    let s := if gr.monitor then s.monGap g true else (if gr.lost then s.lostGap g true else s).grpCut g (s.grT g s.grp[g].si) (if halt then 2 else 1) fl
    let s := (bitsOf 8 gr.mask).foldl (fun (s : State) c =>
      if h : c < 8 then
        let n := chanOf g ⟨c, h⟩
        let s := s.smpRelease n none 0
        let s := if s.chan[n].fen.isSome then s.fencedGap n else s.thrEnd n (if halt then 4 else 1) 0
        let t := s.chT n s.chan[n].si
        (s.smpRelease n none 0).setChan n (fun ch => { ch with endT := some t, endCause := if halt then gapHalt else gapStopped })
      else s) s
    let s := s.specGapOut g s.grp[g].si 0
    let t := s.grT g s.grp[g].si
    s.setGrp g (fun gr => { gr with endT := some t, endCause := if halt then gapHalt else gapStopped, tickDue := none, step := [], due := none, delta := 0, ticks := [], await := if halt then some 1 else none })

/-! ### First samples (R82, R86, R143) -/

/-- The gap of a restart on every stream of a group and of its channels (R28, R86, R143), given the anchor's new instants. -/
def State.restartGaps (s : State) (g : Fin 2) (ends : List (Option DevTime)) : State :=
  let gr := s.grp[g]
  let s := match gr.endT with
    | none => s
    | some t =>
      let x : Gap := { cause := gr.endCause, tStart := t, tEnd := s.grT g gr.si, si := gr.si % 2 ^ 48, count := 0 }
      s.gapsOn (s.grpClasses g ++ [clsEVT]) (srcGrp g) x 0
  (bitsOf 8 gr.mask).foldl (fun (s : State) c =>
    if h : c < 8 then
      let n := chanOf g ⟨c, h⟩
      match ends.getD c none with
      | none => s
      | some t =>
        let ch := s.chan[n]
        let x : Gap := { cause := ch.endCause, tStart := t, tEnd := s.chT n ch.si, si := ch.si % 2 ^ 48, count := 0 }
        ((s.smpGap n x).gapsOn [clsEVT] n x 0).capGap n x
    else s) s

/-- The first sample after START (cause 0) or after a halt (cause 1). -/
def State.firstSample (s : State) (g : Fin 2) (cause : Nat) (xs : List ChIn) (vref : Rat) : State :=
  let a := s.firstAnchor g
  let n := s.grp[g].si
  let lost := s.gb SLICE_STAT_LOST && !s.grp[g].monitor
  let s := s.setGrp g (fun gr => { gr with
    await := none
    ampRun := 0
    run0 := n
    ended := false
    hp := [(0, 0), (0, 0), (0, 0)]
    monSi := n
    monEvt := n
    lost := lost
    lostFrom := [n, n, n, n, n, n, n]
    ev := { gr.ev with cov := max gr.ev.cov n, on := gr.ev.on && !lost } })
  let s := s.publishAnchor g a (if cause = 0 then 0 else 4)
  let ends := (fins 8).map (fun (c : Fin 8) => (s.chan[chanOf g c]).endT)
  let s := s.restartGaps g ends
  let t := s.grT g n
  let s := (bitsOf 8 s.grp[g].mask).foldl (fun (s : State) c =>
    if h : c < 8 then
      (let n := chanOf g ⟨c, h⟩
       (s.setChan n (fun ch => { ch with thrCov := max ch.thrCov ch.si, hi := { sec := ch.hi.sec, n := ch.hi.n }, lo := { sec := ch.lo.sec, n := ch.lo.n } })).chainStart n)
    else s) s
  let s := if s.gb TIME_STATUS_SHADOW && decide (t < s.ket.hwm) then s.setGrp g (fun gr => { gr with shadow := some (n, s.ket.hwm) }) else s
  let s := if s.grp[g].monitor then s
    else
      let fl := s.grp[g].openFlags
      let s := s.setGrp g (fun gr => { gr with nomBase := if cause = 0 then a.full gr.lead n else gr.nomBase, nominal := true })
      let s := s.sf (FREQ_STAT_STATE g) 1
      let s := (s.trkFreq g 0).sf (MET_STAT_RUN g) (b2n (!lost))
      let s := if cause ≠ 0 && s.grp[g].spec then
          s.meterStart g
        else s
      s.grpOpen g t fl true (decide (cause = 0))
  let s := (s.calSettle g).groupTick g xs vref true
  let s := if s.grp[g].monitor then s else s.flickTick g
  let s := { s with cmd := { s.cmd with cpl := s.cmd.cpl.map (fun (c : Cpl) => { c with first := c.first.filter (· != g.val) }) } }
  s.tryCpl

/-- The k-th output tick after START or a restart: the first samples of a group's channels, with what reached their chains since
then and the selected reference's voltage. -/
def execFirstSampleDelivered (g : Fin 2) (xs : List ChIn) (vref : Rat) (s : State) : Host.Outcome State Fault Refusal :=
  .next (match s.grp[g].await with
    | some c => if s.isReady && s.grp[g].running && !s.time.frozen then s.firstSample g c xs vref else s
    | none => s)

/-- An output tick of a running group: what reached its eight chains in the output period, and the selected reference's voltage
(R57, R58). -/
def execDecimatorOutputSample (g : Fin 2) (xs : List ChIn) (vref : Rat) (s : State) : Host.Outcome State Fault Refusal :=
  .next (if s.isReady && s.grp[g].running && s.grp[g].await.isNone && !s.time.frozen then
    let s := s.grpDue g
    let s := (s.calSettle g).groupTick g xs vref false
    let s := if s.grp[g].monitor then s.calReach else s.flickTick g
    s.grpDue g
  else s)

/-! ### START and STOP (R9, R18, R72, R75, R82 to R88, R136, R257, R294) -/

/-- The channels of a group that a START starts (R18, R77). -/
def State.startMask (s : State) (g : Fin 2) : Nat :=
  maskOf ((List.range 8).filter (fun c => s.gb (AFE_CH_CFG_EN (8 * g.val + c)) && s.chPresent (8 * g.val + c)))

/-- REF names a channel that is not enabled (R136). -/
def State.refErr (s : State) (g : Fin 2) (mask : Nat) : Bool :=
  let r := s.gf (FREQ_CFG_REF g)
  if r < 3 then !mask.testBit r else mask % 8 != 7

/-- The group as START would run it. -/
def State.startGrp (s : State) (g : Fin 2) (mask : Nat) : Grp :=
  let prof := (List.range 8).map (fun c => s.gf (PROF_CH_CFG_PROFILE (8 * g.val + c)))
  let lead := (bitsOf 8 mask).headD 0
  let mon := profSteep (prof.getD lead 2)
  let gr := s.grp[g]
  { gr with
    running := true
    monitor := mon
    await := some 0
    started := true
    mask := mask
    lead := lead
    prof := prof
    startT := s.time.t
    fnom := s.gf (FREQ_CFG_FNOM g)
    ref := s.gf (FREQ_CFG_REF g)
    smode := if g = 0 then s.gf MET_CTRL_SMODE_A else s.gf MET_CTRL_SMODE_B
    due := none
    delta := 0
    step := []
    stall := []
    gone := []
    tickDue := none
    shadow := none
    lockF := 0
    calAt := none
    calOld := []
    fenced := 0
    stotAt := none
    agg := !mon && s.gb (if g = 0 then AGG_CTRL_EN_A else AGG_CTRL_EN_B)
    openFlags := if gr.started then flPartial else flReset }

/-- Start one group: whether it was started. -/
def State.startOne (s : State) (g : Fin 2) : Bool × State :=
  let mask := s.startMask g
  if s.grpFused g || s.grp[g].running || mask = 0 then (false, s)
  else
    let gr := s.startGrp g mask
    let chs := bitsOf 8 mask
    let rate := chs.any (fun c => decide (profD (gr.prof.getD c 2) ≠ gr.d))
    let align := !rate && (fins 8).any (fun (c : Fin 8) => mask.testBit c.val && decide (512 < (gr.correction c s.met.cal[chanOf g c]).natAbs))
    let ref := !gr.monitor && s.refErr g mask
    let bil := !s.bilCfgOk g
    let s := if rate then s.sf (if g = 0 then PROF_ERR_RATE_A else PROF_ERR_RATE_B) 1 else s
    let s := if align then s.sf (if g = 0 then PROF_ERR_ALIGN_A else PROF_ERR_ALIGN_B) 1 else s
    let s := if ref then s.sf (FREQ_STAT_REFERR g) 1 else s
    let s := if bil then s.sf BIL_ERR_CFG_INVALID 1 else s
    if rate || align || ref || bil then (false, s)
    else
      let s := s.setGrp g (fun x => { gr with si := x.si })
      let s := { s with rst := { s.rst with grpStarted := true } }
      let s := chs.foldl (fun (s : State) c =>
        if h : c < 8 then s.setChan (chanOf g ⟨c, h⟩) (fun ch => { ch with off := (ch.si : Int) - (gr.si : Int), smpCov := ch.si, thrCov := ch.si, fen := none }) else s) s
      let mixed := chs.any (fun c => gr.prof.getD c 2 == 2) && chs.any (fun c => gr.prof.getD c 2 == 3)
      let s := s.sfs [(if g = 0 then PROF_GRP_STATUS_A_MONITOR else PROF_GRP_STATUS_B_MONITOR, b2n gr.monitor),
        (if g = 0 then PROF_GRP_STATUS_A_MIXED else PROF_GRP_STATUS_B_MIXED, b2n mixed)]
      let s := s.specStart g
      if gr.monitor then (true, s)
      else
        let s := s.sfs [(FREQ_STAT_STATE g, 1), (FREQ_STAT_EVERLOCKED g, 0), (FREQ_STAT_OUTRANGE g, 0), (RSMP_STAT_WINDOWS g, 0), (MET_STAT_STOT_LOST g, 0)]
        (true, (s.evStart g).bilSample g)

/-- A START waits (R72, R75, R428): REF_RDY is 0, a channel of a named group is under check, or a switch-over runs. -/
def State.startHeld (s : State) (mask : Nat) : Bool :=
  !s.gb AFE_REF_REF_RDY || s.switching || (List.range 2).any (fun g => mask.testBit g && decide (s.chk.mask / 256 ^ g % 256 ≠ 0))

/-- START of the named groups: those started, those refused. -/
def State.startGroups (s : State) (mask : Nat) : Nat × Nat × State :=
  (fins 2).foldl (fun (acc : Nat × Nat × State) (g : Fin 2) =>
    if !mask.testBit g.val then acc
    else
      let (ok, s) := acc.2.2.startOne g
      if ok then (acc.1 + 2 ^ g.val, acc.2.1, s) else (acc.1, acc.2.1 + 2 ^ g.val, s)) (0, 0, s)

/-- The START command. -/
def State.doStart (s : State) (c : Cmd) : State :=
  let mask := leAt c.entry 0x10 1
  if s.startHeld mask then s
  else
    let (ok, no, s) := s.startGroups mask
    let st := if mask.testBit 1 && s.grpFused 1 then 9 else if no ≠ 0 then 3 else 0
    s.finishW st (ok + 4 * no) [] (bitsOf 2 ok) []

/-- START. -/
def execStart (s : State) : Host.Outcome State Fault Refusal := .next (s.onCmd 1 State.doStart)

/-- Stop one running group. -/
def State.stopOne (s : State) (g : Fin 2) : State :=
  let s := s.grpEnd g false
  let s := s.calApplyN g s.grp[g].si (s.calReady g)
  let s := s.setGrp g (fun gr => { gr with running := false, await := none, spec := false, agg := false })
  let s := s.sfs [(if g = 0 then PROF_GRP_STATUS_A_MONITOR else PROF_GRP_STATUS_B_MONITOR, 0), (if g = 0 then PROF_GRP_STATUS_A_MIXED else PROF_GRP_STATUS_B_MIXED, 0),
    (FREQ_STAT_STATE g, 0), (MET_STAT_RUN g, 0), (SPEC_STAT_RUN g, 0), (SPEC_STAT_FRUN g, 0), (SPEC_STAT_FSETTLE g, 0)]
  (((((((s.evStat g).rsmpStat g).bilOff g).aggOpen g).spcOpen g).f10Open g).bilOrder g).release

/-- The STOP command; DETAIL holds the groups that ran and were stopped, and a fused one. -/
def State.doStop (s : State) (c : Cmd) : State :=
  let mask := leAt c.entry 0x10 1
  if s.switching then s
  else
    let run := (fins 2).filter (fun (g : Fin 2) => mask.testBit g.val && s.grp[g].running)
    let s := run.foldl State.stopOne s
    let fused := mask.testBit 1 && s.grpFused 1
    s.finish (if fused then 9 else 0) (maskOf (run.map Fin.val) + (if fused then 8 else 0)) []

/-- STOP. -/
def execStop (s : State) : Host.Outcome State Fault Refusal := .next (s.onCmd 2 State.doStop)

/-- A running channel's modulator is stuck: the channel is fenced (R78, R93, R153, R212). -/
def State.chFence (s : State) (n : Fin 16) : State :=
  let g := grpOf n
  let c : Fin 8 := ⟨n.val % 8, by omega⟩
  let s := if s.grp[g].await.isSome then s else (s.grpDue g).thrSettleTo n true
  let si := s.chan[n].si
  let t := s.chT n si
  let meas := decide (c.val % 4 < 3) && s.measured g ⟨c.val % 4 % 3, by omega⟩
  let s := (s.smbit AFE_ERR_STUCK n true).fenceBit FENCE_CH_CH n
  let s := s.setGrp g (fun gr => { gr with fenced := gr.fenced ||| 2 ^ c.val })
  let wait := s.grp[g].await.isSome
  let s := (if wait then s else s.thrEnd n 2 0).setChan n (fun ch => { ch with fen := some si })
  let s := s.unitLost 0 n (si % 2 ^ 48) []
  if s.grp[g].monitor || s.grp[g].lost then (if wait then s else s.smpRelease n none 0)
  else if wait then ((s.metLost g c 0).evDrop g c).meterSync g
  else ((s.metFence g c t meas).evFence g c).meterSync g

/-- A running channel's modulator output has not changed for 4096 clocks; after START or a restart this can come before the first
sample. -/
def execStuckModulatorFence (n : Fin 16) (s : State) : Host.Outcome State Fault Refusal :=
  .next (if s.isReady && s.chRuns n && !s.time.frozen && s.chPresent n then s.chFence n else s)

/-! ### Cycle boundaries, 10 s closes, ticks -/

/-- A cycle boundary of a group: the positive crossing, tan(φ/2) of the tracked phase φ at the samples of the cycle that ends there, the
reference's amplitude over it in codes, and the tracked frequency in 2^-24 Hz (log entry 21); a phase not given is free. While the tracker is not LOCKED
the boundary is the nominal one (R147), and a tracked boundary after nominal ones lies half a nominal period or more after
the last. -/
def execCycleBoundary (g : Fin 2) (t : Nat) (rot : List Rat) (amp freq : Nat) (s : State) : Host.Outcome State Fault Refusal :=
  let s0 := s
  let s := s.grpDue g
  let gr := s.grp[g]
  let k := s.free
  let locked := decide (s.gf (FREQ_STAT_STATE g) = 3)
  let b := if locked then t else gr.nomAfter gr.period gr.cycA
  let far := !(locked && gr.nominal) || decide (gr.period / 2 ≤ (((t : Int) - (gr.cycA : Int) : Int) : Rat) * ((2 ^ 32 : Nat) : Rat))
  .next (if s.isReady && gr.running && !gr.monitor && gr.await.isNone && decide (gr.cycA < b) && far && decide (b ≤ s.grT g gr.si) && decide (t ≤ s.grT g gr.si) then
    let s := State.f10Settle g 8640 t s
    let s := if gr.lost then s.setGrp g (fun gr => { gr with cycA := b })
      else (((s.calSettle g).cutBills g gr.cycA b).cycleEnd g b (fun i => rot.getD i (Config.freeRat (k + i))) 0).sb (MET_STAT_NOMINAL g) (!locked)
    let s := s.f10Cross g t
    let s := s.setGrp g (fun gr => { gr with nominal := !locked, nomBase := if locked then b * 2 ^ 32 else gr.nomBase })
    let s := (s.trkCycle g amp).trkFreq g freq
    s.winNote g
  else s0)

/-- A 10 s frequency interval ends. -/
def execFreq10sClose (g : Fin 2) (s : State) : Host.Outcome State Fault Refusal :=
  .next (match s.grp[g].f10A with
    | some a =>
      if s.isReady && s.grp[g].running && s.grp[g].await.isNone && decide (f10End a ≤ s.grT g s.grp[g].si) then
        ((s.grpDue g).f10Close g (f10End a) (f10End a) 0).release
      else s
    | none => s)

/-- Device time reaches the next 10-min tick: each running source takes it at its first sample there. -/
def State.tenMinTick (s : State) : State :=
  let c := s.now / tenMin * tenMin
  let b := if s.time.lastTick < c then c else c + tenMin
  let s := s.timeTo (b * 2 ^ 32)
  let s := { s with time := { s.time with lastTick := b } }
  let s := (fins 2).foldl (fun (s : State) (g : Fin 2) =>
    if s.grp[g].running && s.grp[g].await.isNone then (s.setGrp g (fun gr => { gr with tickDue := some b })).grpDue g else s) s
  ((fins 8).foldl (fun (s : State) (n : Fin 8) => s.tsTick n b) s).calReach

/-- A 10-min tick. -/
def execTenMinTick (s : State) : Host.Outcome State Fault Refusal :=
  .next (if s.isReady && !s.time.frozen then s.tenMinTick else s)

/-! ### Steps, shadow spans, leap seconds (R132 to R135) -/

/-- The first group SI at or after the present instant, with the steps that are under way (R133). -/
def State.stepSi (s : State) (g : Fin 2) : Nat :=
  let gr := s.grp[g]
  let n := max gr.si (gr.siFromX ((s.time.t : Int) - gr.ahead).toNat)
  match gr.step.getLast? with
  | some p => max n p.n
  | none => n

/-- Add a step to those under way; two at one SI act as one. -/
def addStep (l : List PStep) (p : PStep) : List PStep :=
  match l.getLast? with
  | some q => if q.n = p.n then l.dropLast ++ [{ q with d := q.d + p.d, hwm := p.hwm }] else l ++ [p]
  | none => [p]

/-- The device makes a step of d (2^-64 s) at the present instant, with a slew in progress already accounted for. The last accepted
edge keeps its distance from the present (DESIGN CHOICE, log entry 65). -/
def State.timeStep (s : State) (d : Int) : State :=
  let s := s.slewStop
  let tS := s.now
  let d32 := Int.tdiv d (2 ^ 32)
  let srcs := (fins 2).flatMap (fun (g : Fin 2) =>
    let gr := s.grp[g]
    if !gr.running || gr.await.isSome then []
    else
      let n := s.stepSi g
      (srcGrp g, n) :: ((bitsOf 8 gr.mask).filterMap (fun c =>
        if h : c < 8 then some (8 * g.val + c, ((n : Int) + s.chan[chanOf g ⟨c, h⟩].off).toNat) else none) : List (Nat × Nat)))
  let tsrc := ((fins 8).filter (fun (n : Fin 8) => s.tsOn n)).map (fun (n : Fin 8) => (srcTr n, (s.ts n).idx))
  let t := ((s.time.t : Int) + d).toNat
  let new := t / 2 ^ 32 % 2 ^ 64
  let hwm := max s.ket.hwm tS
  let was := s.gb TIME_STATUS_SHADOW
  let dark := decide (new < hwm)
  let s := (fins 2).foldl (fun (s : State) (g : Fin 2) =>
    let gr := s.grp[g]
    if !gr.running then s
    else if gr.await.isSome then s.setGrp g (fun gr => { gr with startT := ((gr.startT : Int) + d).toNat })
    else
      let p : PStep := { n := s.stepSi g, d := d, tS := (((s.time.t : Int) - gr.ahead).toNat / 2 ^ 32) % 2 ^ 64, hwm := if dark then some hwm else none }
      s.setGrp g (fun gr => { gr with step := addStep gr.step p })) s
  let s := (fins 8).foldl (fun (s : State) (n : Fin 8) => s.tsStep n d) s
  let s := s.capFlag flTimestep
  let tm := { s.time with t := t, lastTick := new, lastEdge := s.time.lastEdge.map (fun e => ((e : Int) + d32).toNat) }
  let s := State.capFlag { s with time := tm, ket := { s.ket with hwm := max s.ket.hwm (max tS new) } } flTimestep
  let s := (s.sb TIME_STATUS_SHADOW dark).mirror
  let s := if dark then (fins 8).foldl (fun (s : State) (n : Fin 8) => s.tsShadow n) s
    else if was then (fins 8).foldl (fun (s : State) (n : Fin 8) => s.tsShadowEnd n hwm) s else s
  let s := s.logTime 3 tS d32 (srcs ++ tsrc)
  (if dark && !was then s.raise 13 else s).calReach

/-- A requested change of d (2^-64 s): a slew below 1 µs, else a step (R132). -/
def State.timeChange (s : State) (d : Int) : State := if belowUs d then s.slewStart d else s.timeStep d

/-- A SET_TIME that set device time completes (R131, Table 6-4). -/
def State.setTimeDone (s : State) (before : DevTime) : State :=
  let s := s.sfs [(TIME_STATUS_STEP_NEEDED, 0), (TIME_STATUS_RELOADED, 0)]
  s.finish 0 0 (leBytes 8 before ++ leBytes 8 s.now)

/-- LEAP: arm, replace or cancel (R135). -/
def State.setLeap (s : State) (v : Nat) : State :=
  let sec := v / 2 ^ 32
  let s := s.sf TIME_STATUS_STEP_NEEDED 0
  let s :=
    if sec = 0 then s.sfs [(LEAP_AT_SEC, 0), (LEAP_CTRL_SIGN, 0), (TIME_STATUS_LEAP_PEND, 0)]
    else
      (s.sfs [(LEAP_AT_SEC, sec), (LEAP_CTRL_SIGN, v), (TIME_STATUS_LEAP_PEND, 1)]).logTime 4 (sec * 2 ^ 32) (if v.testBit 0 then 2 ^ 32 else -(2 ^ 32)) []
  s.finish 0 0 (leBytes 8 s.now ++ leBytes 8 s.now)

/-- SET_TIME with its block (R132, R443, Table 6-2). -/
def State.doSetTime (s : State) (c : Cmd) (b : List Byte) : State :=
  let mode := leAt c.entry 0x10 1
  let v := leAt c.entry 0x18 8
  let sec := v / 2 ^ 32
  if s.switching || s.time.atPps.isSome then s
  else if b.length ≠ 128 || (mode = 3 && sec ≠ 0 && (sec % 86400 ≠ 0 || decide (sec * 2 ^ 32 ≤ s.now))) then s.finish 2 0 []
  else if s.time.frozen then s.finish 7 0 []
  else if s.sec.trngFail then s.finish 3 0 []
  else if s.sec.owner.isNone then (s.sf SEC_ERR_NO_OWNER 1).finish 3 4 []
  else
    let (ok, bits, s) := s.verify b 3 (decide (blkParam b = (c.entry.drop 0x10).take 16 ++ zeros 16)) s.ownerKey
    if !ok then s.finish 4 bits []
    else
      let now := s.now
      match mode with
      | 0 => (s.slewStop.timeChange (((v * 2 ^ 32 : Nat) : Int) - (s.time.t : Int))).setTimeDone now
      | 1 => { s with time := { s.time with atPps := some sec } }
      | 2 => (s.timeChange (toSigned 64 v * 2 ^ 32 + s.slewRest)).setTimeDone now
      | _ => s.setLeap v

/-- Run a SET_TIME of one mode. -/
def State.setTimeMode (s : State) (mode : Nat) (block : List Byte) : State :=
  s.onCmd 0x0A (fun s c => if leAt c.entry 0x10 1 = mode then s.doSetTime c block else s)

/-- SET_TIME NOW. -/
def execSetTimeNow (block : List Byte) (s : State) : Host.Outcome State Fault Refusal := .next (s.setTimeMode 0 block)

/-- SET_TIME AT_PPS: it waits for an accepted edge. -/
def execSetTimeAtPps (block : List Byte) (s : State) : Host.Outcome State Fault Refusal := .next (s.setTimeMode 1 block)

/-- SET_TIME OFFSET. -/
def execSetTimeOffset (block : List Byte) (s : State) : Host.Outcome State Fault Refusal := .next (s.setTimeMode 2 block)

/-- SET_TIME LEAP. -/
def execSetTimeLeap (block : List Byte) (s : State) : Host.Outcome State Fault Refusal := .next (s.setTimeMode 3 block)

/-- No edge was accepted within 2.5 s of an AT_PPS. -/
def execAtPpsTimeout (s : State) : Host.Outcome State Fault Refusal :=
  .next (if s.isReady && s.time.atPps.isSome && !s.time.frozen then State.finish { s with time := { s.time with atPps := none } } 8 0 [] else s)

/-- Device time reaches TIME_HWM: the shadow span ends (R134). A group's span ends with its first sample there. -/
def execShadowSpanEnd (s : State) : Host.Outcome State Fault Refusal :=
  .next (if s.isReady && s.gb TIME_STATUS_SHADOW && !s.time.frozen then
    let h := s.ket.hwm
    let s := (s.timeTo (h * 2 ^ 32)).sf TIME_STATUS_SHADOW 0
    ((fins 8).foldl (fun (s : State) (n : Fin 8) => s.tsShadowEnd n h) s).calReach
  else s)

/-- The armed leap second takes effect: at its midnight, or one second before it (R135). -/
def execLeapSecond (s : State) : Host.Outcome State Fault Refusal :=
  .next (if s.isReady && s.gb TIME_STATUS_LEAP_PEND && !s.time.frozen then
    let neg := s.gb LEAP_CTRL_SIGN
    let s := s.timeTo ((s.gf LEAP_AT_SEC - b2n neg) * 2 ^ 64)
    let r := s.slewRest
    let s := s.sfs [(LEAP_AT_SEC, 0), (LEAP_CTRL_SIGN, 0), (TIME_STATUS_LEAP_PEND, 0)]
    s.timeStep (r + (if neg then 2 ^ 64 else -(2 ^ 64)))
  else s)

/-! ### PPS (R130, R131) -/

/-- ±200 ppm in 2^-40. -/
def adjMax : Nat := 219902325

/-- The time constant of TIME_CTRL.LOOP in seconds: 2^LOOP, 0 and 1 as 2, 11 to 15 as 10 (Table 6-4). -/
def State.loopSec (s : State) : Nat := let l := s.gf TIME_CTRL_LOOP; if l < 2 then 4 else 2 ^ min l 10

/-- The new ADJ at an accepted edge one interval after the last: it moves towards the measured rate error `m` (2^-40), averaged with
the time constant T of LOOP. The spec does not state the averaging step by step, so the move is a free value from |m| / (T + 1) to
|m| / T, which holds that of every first-order average over the 1 s between edges (log entry 67). -/
def State.adjStep (s : State) (m : Int) : State :=
  if s.gb ERR_SUMM_ANCHOR_HOLD then s
  else
    let old := s.gi TIME_ADJ_ADJ
    let lo := m.natAbs / (s.loopSec + 1)
    let hi := cdiv m.natAbs s.loopSec
    let k := lo + Config.freeNat s.free % (hi - lo + 1)
    let new := clampInt (-(adjMax : Int)) adjMax (if 0 ≤ m then old + k else old - k)
    State.incChanged (State.si { s with free := s.free + 1 } TIME_ADJ_ADJ new) s.inc

/-- An accepted edge at timestamp ts, of which the edge itself came at device time t (R130). -/
def State.ppsAccept (s : State) (ts : DevTime) : State :=
  let last := s.time.lastEdge
  let e : Int := (((ts + 2 ^ 31) % 2 ^ 32 : Nat) : Int) - 2 ^ 31
  let s := { s with time := { s.time with lastEdge := some ts } }
  let s := (((s.incWrap PPS_CNT_ACCEPTED 1).s64 PPS_LAST_LO_FRAC PPS_LAST_HI_SEC ts).si PPS_ERR_E e).slewStop
  let s := match last with
    | some l => s.adjStep (((l : Int) + 2 ^ 32 - (ts : Int)) * 256)
    | none => s
  let st := s.gf TIME_STATUS_STATE
  if belowUs (e * 2 ^ 32) then
    let good := s.time.good + 1
    let s := State.sf { s with time := { s.time with good := good } } TIME_STATUS_STEP_NEEDED 0
    let s := s.ppsState (if st = 3 ∨ 8 ≤ good then 2 else if st = 0 then 1 else st)
    s.slewStart (-e * 2 ^ 32)
  else
    let s := { s with time := { s.time with good := 0 } }
    let s := s.ppsState 1
    if s.gb TIME_STATUS_STEP_NEEDED then s else ((s.sf TIME_STATUS_STEP_NEEDED 1).logTime 2 s.now 0 []).raise 13

/-- The set of an AT_PPS that waits, at an accepted edge that the device takes now. -/
def State.ppsSet (s : State) : State :=
  match s.time.atPps with
  | none => s
  | some sec =>
    let now := s.now
    let s := { s with time := { s.time with atPps := none } }
    (s.slewStop.timeChange ((((sec * 2 ^ 32 : Nat) : Int) + nsTime (s.gi PPS_OFFSET_OFS)) * 2 ^ 32 - (s.time.t : Int))).setTimeDone now

/-- A rising edge at PPS, at device time t with the synchroniser's delay removed. -/
def execPpsEdge (t : Nat) (s : State) : Host.Outcome State Fault Refusal :=
  .next (if s.isReady && s.gb TIME_CTRL_PPS_EN && !s.time.frozen then
    let s := (s.timeTo (t * 2 ^ 32)).calReach
    let ts := ((t : Int) - nsTime (s.gi PPS_OFFSET_OFS)).toNat
    let ok := match s.time.lastEdge with
      | none => true
      | some l => decide (((ts : Int) - (l : Int) - 2 ^ 32).natAbs * 2000 ≤ 2 ^ 32)
    if ok then (s.ppsAccept ts).ppsSet else s.incWrap PPS_CNT_REJECTED 1
  else s)

/-- The slew has run for its duration. -/
def execSlewEnd (s : State) : Host.Outcome State Fault Refusal := .next (if s.isReady && !s.time.frozen then s.slewStop else s)

/-- No accepted edge for 3 s while LOCKED. -/
def execHoldoverEntry (s : State) : Host.Outcome State Fault Refusal :=
  .next (if s.isReady && decide (s.gf TIME_STATUS_STATE = 2) && !s.time.frozen then s.ppsState 3 else s)

/-- A write of TIME_CTRL (R130, R131). -/
def State.wrTimeCtrl (s : State) (p : Port) (v : Word) : State :=
  let w := v.toNat
  let reach := decide (w % 2 ≠ s.gf TIME_CTRL_PPS_EN) || decide (w / 2 % 16 ≠ s.gf TIME_CTRL_LOOP)
  s.rws p 0x800 v 0 reach id (fun s =>
    let was := s.gb TIME_CTRL_PPS_EN
    let s := s.sfs [(TIME_CTRL_PPS_EN, w), (TIME_CTRL_LOOP, w / 2)]
    if w.testBit 0 && !was then (true, { s with time := { s.time with lastEdge := none, good := 0 } })
    else if !w.testBit 0 && was then (true, s.slewStop.ppsState 0)
    else (true, s))

/-- A write of TIME_CTRL. -/
def execTimeCtrlWrite (port : Port) (value : Word) (s : State) : Host.Outcome State Fault Refusal :=
  .next (if s.serving then s.wrTimeCtrl port value else s)

/-- A write of PPS_OFFSET: values beyond ±1,000,000 are clamped. -/
def State.wrPpsOffset (s : State) (p : Port) (v : Word) : State :=
  let x := clampInt (-1000000) 1000000 (toSigned 32 v.toNat)
  s.rws p 0x81C v 0 (decide (x ≠ s.gi PPS_OFFSET_OFS)) id (fun s => (true, s.si PPS_OFFSET_OFS x))

/-- A write of FREQ_CFGg: a reserved REF is ignored. -/
def State.wrFreqCfg (s : State) (p : Port) (g : Fin 2) (v : Word) : State :=
  let w := v.toNat
  let r := if 4 ≤ w / 2 % 8 then s.gf (FREQ_CFG_REF g) else w / 2 % 8
  let reach := decide ([w % 2, r, w / 256] ≠ [s.gf (FREQ_CFG_FNOM g), s.gf (FREQ_CFG_REF g), s.gf (FREQ_CFG_MINAMP g)])
  if s.grpFused g then s
  else s.rws p (0x880 + 64 * g.val) v 0 reach id (fun s => (true, s.sfs [(FREQ_CFG_FNOM g, w), (FREQ_CFG_REF g, r), (FREQ_CFG_MINAMP g, w / 256)]))

/-! ### Halts and lost clocks (R15, R16, R142, R143, R500) -/

/-- The closures and the LOG record of a halt (R142, steps 2 to 4). -/
def State.haltClose (s : State) : State :=
  let s := (fins 2).foldl (fun (s : State) (g : Fin 2) => if s.grp[g].running then s.grpEnd g true else s) s
  let s := (fins 8).foldl (fun (s : State) (n : Fin 8) => if s.tsOn n then s.tsEnd n gapHalt else s) s
  (s.capFlag flHalt).logTime 5 s.time.haltT 0 []

/-- CORE runs from XO: by strap, by R15's switch, or because MODE selected SPI only (R40). -/
def State.coreXo (s : State) : Bool := s.gb CLK_STAT_CORE_SRC

/-- The XO is declared stopped: device time and sample production freeze. -/
def State.halt (s : State) : State :=
  let s := { s with time := { s.time with frozen := true, haltT := s.now } }
  let s := (s.sfs [(TIME_STATUS_HALTED, 1), (CLK_STAT_META_LOCK, 0), (CLK_STAT_TPLL_LOCK, 0), (CLK_EVT_XO_STOPPED, 1)]).incSat HALT_STAT_COUNT 1
  let s :=
    if s.coreXo then State.sf { s with time := { s.time with coreStop := true, lateHalt := true } } CLK_STAT_CORE_LOCK 0
    else
      let s := (s.sf CLK_STAT_XO_HALT 1).raise 13
      if s.switching then { s with time := { s.time with haltDue := true } } else s.haltClose
  (s.ketEvent 10).ketSync

/-- XO_HALT. -/
def execXoHalt (s : State) : Host.Outcome State Fault Refusal := .next (if s.isReady && !s.time.frozen then s.halt else s)

/-- The META PLL loses lock: treated as an XO stop. -/
def execMetaPllUnlock (s : State) : Host.Outcome State Fault Refusal := .next (if s.isReady && !s.time.frozen then s.halt else s)

/-- The XO is declared running again: the PLLs lock; with CORE, the closures that waited are made (R142). -/
def execXoResume (s : State) : Host.Outcome State Fault Refusal :=
  .next (if s.isReady && s.gb TIME_STATUS_HALTED then
    let s := s.sfs [(TIME_STATUS_HALTED, 0), (CLK_STAT_XO_HALT, 0), (CLK_STAT_META_LOCK, 1), (CLK_STAT_TPLL_LOCK, 1), (CLK_EVT_XO_RESUMED, 1)]
    if s.time.lateHalt then
      let s := State.sf { s with time := { s.time with coreStop := false, lateHalt := false } } CLK_STAT_CORE_LOCK 1
      let s := (s.fifoDrain.tsDrain.startSign).raise 13
      let s := if s.switching then { s with time := { s.time with haltDue := true } } else s.haltClose
      (if s.gb LINK_STAT_UP then s.linkLost else s).ketSync
    else s.ketSync
  else s)

/-- Device time is reloaded at the next RTC edge, `cycles` Kettle cycles after the last Kettle command, and the chains
restart (R143).  The edge history begins anew, so the first edge after it is accepted (DESIGN CHOICE, log entry 65). -/
def execHaltTimeReload (cycles : Nat) (s : State) : Host.Outcome State Fault Refusal :=
  let s := s.ketRun cycles
  .next (if s.isReady && s.time.frozen && !s.gb TIME_STATUS_HALTED && !s.time.haltDue then
    let t := s.ket.time
    let h := s.time.haltT
    let s := s.slewStop
    let tm := { s.time with t := t * 2 ^ 32, frozen := false, lastEdge := none, good := 0, lastTick := t }
    let s := { s with time := tm, ket := { s.ket with hwm := max s.ket.hwm t } }
    let s := (s.sf TIME_STATUS_RELOADED 1).sf HALT_LAST_SEC (min ((t - h) / 2 ^ 32) (2 ^ 32 - 1))
    let s := (s.mirror).ppsState (if s.gb TIME_CTRL_PPS_EN then 1 else 0)
    let s := s.logTime 6 t 0 []
    (fins 2).foldl (fun (s : State) (g : Fin 2) =>
      if s.grp[g].running then s.setGrp g (fun gr =>
        { gr with
          startT := t * 2 ^ 32
          await := some (gr.await.getD 1)
          openFlags := if gr.await = some 0 then gr.openFlags else flHalt })
      else s) s
  else s)

/-- The TPLL loses lock outside a halt: every enabled pair stops as a halt stops it. -/
def execTpllUnlock (s : State) : Host.Outcome State Fault Refusal :=
  .next (if s.isReady && !s.time.frozen && s.gb CLK_STAT_TPLL_LOCK then
    let any := (List.range 8).any s.tsOn
    let s := s.sf CLK_STAT_TPLL_LOCK 0
    let s := if any then s.sf CLK_EVT_TPLL_UNLOCK 1 else s
    (fins 8).foldl (fun (s : State) (n : Fin 8) => if s.tsOn n then s.tsEnd n gapHalt else s) s
  else s)

/-- The TPLL relocks: the enabled pairs resume with their next first sample. -/
def execTpllRelock (s : State) : Host.Outcome State Fault Refusal :=
  .next (if s.isReady && !s.time.frozen then s.sf CLK_STAT_TPLL_LOCK 1 else s)

/-- REFCLK stop is declared (R15); never while MODE keeps the PHY powered down. -/
def execRefclkStop (s : State) : Host.Outcome State Fault Refusal :=
  .next (if !s.isReady || s.spiOnly || s.gb CLK_STAT_REFCLK_LOST then s
    else
      let s := (s.sf CLK_STAT_REFCLK_LOST 1).linkLost
      if s.coreXo then s
      else State.sfs { s with time := { s.time with coreStop := true } } [(CLK_STAT_CORE_SRC, 1), (CLK_STAT_CORE_LOCK, 0), (CLK_EVT_CORE_SWITCH, 1)])

/-- The CORE PLL loses lock: CORE has no clock. -/
def execCorePllUnlock (s : State) : Host.Outcome State Fault Refusal :=
  .next (if s.isReady then State.sf { s with time := { s.time with coreStop := true } } CLK_STAT_CORE_LOCK 0 else s)

/-- The CORE PLL relocks: CORE runs and its FIFOs drain (R16). -/
def execCorePllRelock (s : State) : Host.Outcome State Fault Refusal :=
  .next (if s.isReady && s.time.coreStop && !s.time.lateHalt then
    (((State.sf { s with time := { s.time with coreStop := false } } CLK_STAT_CORE_LOCK 1).fifoDrain).tsDrain).startSign
  else s)

end Sys2Proof.Machine
end

