-- ==== Sys2Proof/Machine/Switch.lean ====
section
/-! DEFINITION. The commands of the redundant slices (chapter 18): checkpoints, mismatches, stalls, the Caddy, self-tests, the
end of a switch-over, trials. -/

namespace Sys2Proof.Machine

/-- The closures of a halt that waited for the end of a switch-over (R428). -/
def State.haltLate (s : State) : State :=
  if s.time.haltDue && !s.switching then State.haltClose { s with time := { s.time with haltDue := false } } else s

/-- Slices run and none of them is being replaced. -/
def State.slicesRun (s : State) : Bool := s.isReady && !s.switching && !s.gb SLICE_STAT_LOST

/-- Every 1 ms of device time the active slice writes a copy, which becomes the current one; an accepted trial begins then (R419,
R430). -/
def execSliceCheckpoint (s : State) : Host.Outcome State Fault Refusal :=
  .next (if s.slicesRun && !s.time.frozen then
    let n := (s.gf SLICE_CKSEQ_SEQ + 1) % 2 ^ 32
    let c := s.sliceCopy n
    let s := State.sf { s with slc := { s.slc with cur := some c, old := if s.slc.bad then none else s.slc.cur, bad := false } } SLICE_CKSEQ_SEQ n
    if s.slc.trial then State.switchStart { s with slc := { s.slc with trial := false } } 4 none else s
  else s)

/-- Compared words differ, or one slice delivers none (R417): port of Table 18-1 and group of the word, whether a word is
missing. With roles assigned in a switch-over, a mismatch of the rebuild (R426). -/
def execSliceMismatch (port : Fin 6) (group : Fin 2) (missing : Bool) (s : State) : Host.Outcome State Fault Refusal :=
  .next (if !s.isReady || s.gf SLICE_STAT_CHECKER = 3 || s.gb SLICE_STAT_LOST then s
    else match s.slc.sw with
      | none => s.switchStart (if missing then 2 else 1) (some (port.val, group.val))
      | some w => if w.assigned then (s.rebuildMismatch w).haltLate else s)

/-- Neither slice delivers a word for 100 µs while samples wait (R417). -/
def execSliceStall (group : Fin 2) (s : State) : Host.Outcome State Fault Refusal :=
  .next (if s.slicesRun && s.grp[group].running && !s.grp[group].monitor then s.switchStart 3 (some (0xF, group.val)) else s)

/-- The Caddy is powered and loaded from the current copy. -/
def execCaddyLoaded (s : State) : Host.Outcome State Fault Refusal :=
  .next (match s.slc.sw with
    | some w => if s.isReady && decide (w.caddy ≠ 3) && !w.loaded then ((s.setSw (fun w => { w with loaded := true })).switchRoles).haltLate else s
    | none => s)

/-- The Caddy is not powered and loaded within 160 µs of the freeze. -/
def execCaddyLoadTimeout (s : State) : Host.Outcome State Fault Refusal :=
  .next (match s.slc.sw with
    | some w => if s.isReady && decide (w.caddy ≠ 3) && !w.loaded then (s.caddyFail false).haltLate else s
    | none => s)

/-- The self-tests end; bit n of `pass` = DSn passed. At start-up they decide fences and roles (R414, R486); in a switch-over
those of the old active slice and the old checker do (R421). -/
def execSliceSelftestDone (pass : BitVec 3) (s : State) : Host.Outcome State Fault Refusal :=
  let ok := fun (n : Nat) => decide (n < 3) && pass.getLsbD n
  .next (match s.rst.phase with
    | .startup =>
      if s.rst.sliceDone then s
      else
        let s := (List.range 3).foldl (fun (s : State) n =>
          if s.mbit FUSE_MISC_SLICE n || ok n then s else (s.smbit SLICE_STAT_FENCED n true).smbit FENCE_MISC_SLICE n true) s
        (State.startRoles { s with rst := { s.rst with sliceDone := true } })
    | .ready =>
      match s.slc.sw with
      | some w =>
        if w.test.isSome then s
        else
          let s := s.setSw (fun w => { w with test := some (ok w.oldA, ok w.oldC) })
          let s := if ok w.oldA then s else s.fenceSlice w.oldA
          let s := if ok w.oldC then s else s.fenceSlice w.oldC
          s.switchRoles.haltLate
      | none => s
    | _ => s)

/-- The replay reaches the newest sample in the ring: the switch-over ends; its span and the largest backlog, in µs. -/
def execSwitchoverEnd (gapUs backlogUs : Nat) (s : State) : Host.Outcome State Fault Refusal :=
  .next (match s.slc.sw with
    | some w => if s.isReady && w.assigned then (s.switchEnd gapUs backlogUs).haltLate else s
    | none => s)

/-- A write of SLICE_CTRL. -/
def execSliceTrialRequest (port : Port) (value : Word) (s : State) : Host.Outcome State Fault Refusal :=
  .next (if s.serving then s.wrSliceCtrl port value else s)

end Sys2Proof.Machine
end

