-- ==== Sys2Proof/Machine/Nvm.lean ====
section
/-! DEFINITION. The commands of the non-volatile store (chapter 17): NVM_READ, NVM_WRITE, the completion of write operations, the
configuration save. -/

namespace Sys2Proof.Machine

/-- Bytes of the store, of its security region, and the first byte of its host area (Table 17-2). -/
abbrev nvmBytes : Nat := 0x80000
abbrev nvmSecurity : Nat := 0x4000
abbrev nvmHost : Nat := 0x70000

/-- The command came through the mailbox. -/
def Cmd.boxed (c : Cmd) : Bool := match c.via with | .mailbox _ => true | .ring _ => false

/-- Deliver a command's bytes: to BUF, or to MBOX_DATA (R298). -/
def State.deliver (s : State) (c : Cmd) (status : Nat) (d : List Byte) : State :=
  if c.boxed then s.finish status 0 d
  else (s.issue (.buffer (leAt c.entry 8 8) d)).finish status 0 (leBytes 4 d.length)

/-- The address and length of an NVM command lie on words and its length is at most 4096, or 128 through the mailbox (R402, R299). -/
def nvmArgOk (c : Cmd) (addr len : Nat) : Bool := decide (addr % 8 = 0) && decide (len % 8 = 0) && decide (len ≤ if c.boxed then 128 else 4096)

/-- NVM_READ: `ce` words were corrected, and the words at the byte addresses of `ue` are uncorrectable (R393, R402). It waits for
the write operations before it (R395). -/
def State.doNvmRead (s : State) (c : Cmd) (ce : Nat) (ue : List Nat) : State :=
  let addr := leAt c.entry 0x10 4
  let len := leAt c.entry 0x14 4
  if !nvmArgOk c addr len || decide (addr < nvmSecurity) || decide (nvmBytes < addr + len) then s.finish 2 0 []
  else if s.nvm.running.isSome then s
  else
    let bad := (List.range (len / 8)).filter (fun i => ue.contains (addr + 8 * i))
    let s := (s.incSat NVM_CE_COUNT (min ce (len / 8))).incSat NVM_UE_COUNT bad.length
    let d := (List.range (len / 8)).flatMap (fun i => if bad.contains i then List.replicate 8 0xFF else s.nvm.read (addr + 8 * i) 8)
    s.deliver c (if bad.isEmpty then 0 else 0x0B) d

/-- The page writes of a host write (R402): whole pages from a page boundary, or one page in which the words wrap. -/
def hostWrites (addr : Nat) : List Byte → Nat → List NvmWr
  | _, 0 => []
  | d, k + 1 =>
    if d.isEmpty then []
    else { page := addr / 256, word := addr % 256 / 8, bytes := d.take 256 } :: hostWrites (addr + 256) (d.drop 256) k

/-- A host write is queued or runs. -/
def State.hostWriting (s : State) : Bool := (s.nvm.running.toList ++ s.nvm.queue).any (fun r => decide (r.kind = .host))

/-- NVM_WRITE with its data: it completes when every page is written and verified. -/
def State.doNvmWrite (s : State) (c : Cmd) (data : List Byte) : State :=
  let addr := leAt c.entry 0x10 4
  let len := leAt c.entry 0x14 4
  if s.hostWriting then s
  else if !nvmArgOk c addr len || decide (addr < nvmHost) || decide (nvmBytes < (if addr % 256 = 0 then addr + len else addr)) ||
      (addr % 256 != 0 && decide (256 < len)) || decide (data.length < len) || decide (nvmBytes ≤ addr) then s.finish 2 0 []
  else if len = 0 then s.finish 0 0 (leBytes 4 0)
  else s.nvmQueue { cls := 8, kind := .host, ops := groupOps (hostWrites addr (data.take len) 16) }

/-- NVM_READ. -/
def execNvmRead (ce : Nat) (ue : List Nat) (s : State) : Host.Outcome State Fault Refusal :=
  .next (s.onCmd 7 (fun s c => s.doNvmRead c ce ue))

/-- NVM_WRITE with the bytes read from BUF. -/
def execNvmWrite (data : List Byte) (s : State) : Host.Outcome State Fault Refusal := .next (s.onCmd 8 (fun s c => s.doNvmWrite c data))

/-- The page that a failed verify names lies in this operation. -/
def opFails (op : List NvmWr) (fail : Option (Fin 8)) : Bool :=
  match fail with
  | some p => op.any (fun w => decide (w.page % 8 = p.val))
  | none => false

/-- The bytes of an operation reach the array; what a page that fails holds is free (log entry 5). -/
def State.opWrite (s : State) (op : List NvmWr) (fail : Option (Fin 8)) : State :=
  op.foldl (fun (s : State) w =>
    match fail with
    | some p =>
      if w.page % 8 = p.val then
        (let (b, s) := s.drawBytes w.bytes.length
         { s with nvm := s.nvm.writeAll { w with bytes := b } })
      else { s with nvm := s.nvm.writeAll w }
    | none => { s with nvm := s.nvm.writeAll w }) s

/-- The write of a NVM_WRITE command is over. -/
def State.hostDone (s : State) (status n : Nat) : State :=
  match s.cmd.cur with
  | some c => if leAt c.entry 0 1 = 8 then s.finish status 0 (if status = 0 then leBytes 4 n else []) else s
  | none => s

/-- Checkpoint slots are no longer protected once no snapshot waits (R403). -/
def State.snapsDone (s : State) : State :=
  if (s.nvm.running.toList ++ s.nvm.queue).any (fun r => match r.kind with | .snapshot _ _ => true | _ => false) then s
  else { s with nvm := { s.nvm with guarded := s.nvm.guarded.filter (fun p => decide (p < 0x2E0)) } }

/-- A request whose operations are all complete. -/
def State.nvmComplete (s : State) (r : NvmReq) : State :=
  let s := { s with nvm := Nvm.next { s.nvm with running := none } }
  match r.kind with
  | .journal => s.journalDone r.seq
  | .checkpoint _ _ => (s.sf NVM_CKSEQ_SEQ r.seq).highCells r.payload
  | .snapshot _ _ => s.snapsDone
  | .host => s.hostDone 0 (leAt ((s.cmd.cur.map Cmd.entry).getD []) 0x14 4)
  | .owner _ => (s.ownerStored r.payload).tryCpl
  | .seals _ => (s.sealsStored r.payload).startSign
  | .archive => s.tryCpl
  | .calibration _ => s.calStored r.seq
  | _ => s

/-- The running operation ends; a page of plane `fail` failed its verify (R394, R400). -/
def State.nvmOpDone (s : State) (fail : Option (Fin 8)) : State :=
  match s.nvm.running with
  | none => s
  | some r =>
    let op := r.ops.headD []
    let s := s.opWrite op fail
    if opFails op fail then
      if r.kind = .host then State.hostDone { s with nvm := Nvm.next { s.nvm with running := none } } 0x0B 0
      else s.nvmFail r
    else if r.ops.tail.isEmpty then s.nvmComplete r
    else { s with nvm := Nvm.requeue s.nvm { r with ops := r.ops.tail } }

/-- A write operation completes. -/
def execNvmWriteOpDone (fail : Option (Fin 8)) (s : State) : Host.Outcome State Fault Refusal := .next (s.nvmOpDone fail)

/-- A write of 1 to NVM_CTRL.SAVE. -/
def execConfigSave (s : State) : Host.Outcome State Fault Refusal := .next (if s.serving then s.configSave else s)

end Sys2Proof.Machine
end

