-- ==== Sys2Proof/Machine/Load.lean ====
section
/-! DEFINITION. The last-gasp record and the loading of the store at start-up (R407 to R412). -/

namespace Sys2Proof.Machine

/-! ### The newest records in the store -/

/-- The pages of both checkpoint rings. -/
def ckptPages : List Nat := slotPages 0 ++ slotPages 1

/-- The newest complete checkpoint: page, sequence number. -/
def Nvm.newestCkpt (v : Nvm) : Option (Nat × Nat) := v.newest 32 ckptPages

/-- Payload of a checkpoint slot. -/
def Nvm.ckptBody (v : Nvm) (page : Nat) : List Byte := v.recPayload page 32

/-! ### The last-gasp record (R408, Table 17-4) -/

/-- The state that a save takes: that of the current checkpoint copy while a switch-over runs (R428), else the present one. -/
def State.saveView (s : State) : State :=
  if s.switching then
    match s.slc.cur with
    | some c => { s with met := c.met, bil := c.bil }
    | none => s
  else s

/-- The instant of a group that lies after the newest complete checkpoint. -/
def State.saveInst (s : State) (g : Fin 2) (tCap : DevTime) : Option BilInst :=
  match s.bil[g].inst with
  | some i => if tCap < i.t then some i else none
  | none => none

/-- INST[g]. -/
def instBytes (i : Option BilInst) : List Byte :=
  match i with
  | none => zeros 272
  | some i => leBytes 8 i.t ++ leBytes 1 i.acts ++ leBytes 1 i.oldT ++ leBytes 1 i.newT ++ zeros 5 ++ i.acc.flatMap (leBytes 8)

/-- The last-gasp payload, of a PFI (cause 0) or a full reset (cause 1). -/
def State.gaspBytes (s : State) (cause : Nat) : List Byte :=
  let v := s.saveView
  let (seq, cap) := match s.nvm.newestCkpt with
    | some (p, q) => (q, leAt (s.nvm.ckptBody p) 0 8)
    | none => (0, 0)
  let i := fun (g : Fin 2) => v.saveInst g cap
  let body := leBytes 8 v.tCap ++ leBytes 4 seq ++ leBytes 1 cause ++ leBytes 1 (b2n (i 0).isSome + 2 * b2n (i 1).isSome) ++ zeros 2 ++ v.cfBytes ++
    (List.range 64).flatMap (fun k => leBytes 8 (v.acc k % 2 ^ 64)) ++ (fins 64).flatMap (fun (n : Fin 64) => leBytes 4 s.rings[n].lastVis) ++
    instBytes (i 0) ++ instBytes (i 1)
  body ++ zeros (0x7C0 - body.length)

/-- The BIL records that are decided and not yet visible, in order (R264): written, waiting in the reserve, held, waiting for
the journal. -/
def State.bilPending (s : State) : List Rec :=
  (fins 64).flatMap (fun (n : Fin 64) =>
    let g := s.rings[n]
    if g.cls = clsBIL && g.st != .off then
      g.bilU ++ (g.q.filterMap (fun i => match i with | .placed _ r => if r.cls = clsBIL ∧ r.src ≠ srcNone ∧ r.flags % 2 = 0 then some r else none | .summary _ _ _ _ => none)) ++
        g.hold.filter (fun r => decide (r.cls = clsBIL) && r.flags % 2 == 0)
    else []) ++ s.bilOut.map Prod.snd

/-- What a reset or a power failure leaves for the opening records (R333, R334): the instant at which it began, the records of
each ring that are discarded, the cover of each stream. -/
def State.leave (s : State) : State :=
  let cov := (fins 64).flatMap (fun (n : Fin 64) => (s.rings[n].streams.filter (fun t => decide (t.covT ≠ 0))).map (fun t => (n.val, t.src, t.covT)))
  let old := s.persist.covered.filter (fun c => !cov.any (fun d => d.1 == c.1 && d.2.1 == c.2.1))
  let nd := Vector.ofFn (fun (n : Fin 64) =>
    let g := s.rings[n]
    if g.st = .off || g.st = .refused then s.persist.ndisc[n] else (g.nextSeq + 2 ^ 32 - 1 - g.lastVis) % 2 ^ 32 + g.hold.length)
  { s with persist := { s.persist with tLost := s.now, ndisc := nd, covered := old ++ cov } }

/-- A save begins (R335, R408): writes are abandoned, the pending billing records are kept, the record is written. -/
def State.gaspStart (s : State) (cause : Nat) : State :=
  let body := s.gaspBytes cause
  let s := { s.leave with bilSaved := s.bilSaved ++ s.bilPending, bilOut := [] }
  s.nvmAbandon.storeRecord 2 1 1 (fun _ => NvmKind.lastGasp) body

/-- The save's operation completes. -/
def State.gaspEnd (s : State) : State :=
  match s.nvm.running with
  | some r => if r.kind = .lastGasp then s.nvmOpDone none else s
  | none => s

/-! ### Configuration, calibration, calendars, journal, snapshots (R405, R410) -/

/-- Pages of a configuration record. -/
def State.cfgPages (s : State) : Nat := min 304 (cdiv s.cfgBytes.length 248)

/-- The newest valid copy of the configuration (its first page), of `n` pages, or the defaults. -/
def State.configTake (s : State) (n : Nat) : Option (Nat × Nat) → State
  | some (p, _) => (s.cfgLoad (s.nvm.recPayload p n)).sf NVM_STAT_CFG_COPY (b2n (decide (p ≠ 0x40)))
  | none => s.sf NVM_STAT_CFG_DEFAULT 1

/-- Step 1: the configuration copy with the higher sequence number. -/
def State.loadConfig (s : State) : State :=
  let n := s.cfgPages
  let lost := (slotPages 5).any (fun p => !s.nvm.recOk p n)
  let s := s.sb NVM_ERR_CFG_LOST lost
  s.configTake n (s.nvm.newest n (slotPages 5))

/-- The calibration record at a page, or the defaults. -/
def State.calTake (s : State) : Option (Nat × Nat) → State
  | none => (s.calShadowReset).sf NVM_STAT_CAL_DEFAULT 1
  | some (p, _) =>
    let b := s.nvm.recPayload p 1
    let k := fun (n : Nat) =>
      let c := leAt b (12 * n + 4) 4
      ({ scale := leAt b (12 * n) 4, e := c % 16, ph := c / 65536 % 1024, ofs := leAt b (12 * n + 8) 4 } : CalSet)
    let s := { s with met := { s.met with cal := Vector.ofFn (fun i => k i.val), actId := #v[leAt b 192 2, leAt b 194 2] } }
    (s.calShadowReset).sfs [(CAL_ID_ID_A, leAt b 192 2), (CAL_ID_ID_B, leAt b 194 2)]

/-- Step 2: the newest calibration record; shadow and active constants are equal. -/
def State.loadCal (s : State) : State := s.calTake (s.nvm.newest 1 (slotPages 3))

/-- Step 3: the active image has the latest instant at or before a time, the passive one lies later. -/
def State.loadCalendars (s : State) (done : DevTime) : State :=
  let recs := ((slotPages 4).filter (fun p => s.nvm.recOk p 6)).map (fun p => (p, s.nvm.pageSeq p, imgLoad (s.nvm.recPayload p 6)))
  let best := fun (l : List (Nat × Nat × (SMap Nat × DevTime))) (better : (Nat × Nat × (SMap Nat × DevTime)) → (Nat × Nat × (SMap Nat × DevTime)) → Bool) =>
    l.foldl (fun (b : Option (Nat × Nat × (SMap Nat × DevTime))) r => match b with | none => some r | some x => if better r x then some r else b) none
  let act := best (recs.filter (fun r => decide (r.2.2.2 ≤ done))) (fun r x => decide (x.2.2.2 < r.2.2.2) || (x.2.2.2 == r.2.2.2 && decide (x.2.1 < r.2.1)))
  let pas := best (recs.filter (fun r => decide (done < r.2.2.2))) (fun r x => decide (x.2.1 < r.2.1))
  let s := match act with
    | some (p, _, m, t) => State.sfs { (s.guard p) with cals := { s.cals with act := m, actT := t, actPage := some p } } [(BIL_CAL_CTRL_AVALID, 1), (BIL_CAL_CTRL_AID, imgWord m 0)]
    | none => s
  match pas with
  | some (p, _, m, t) => (State.sf { (s.guard p) with cals := { s.cals with pas := m, pasT := t, pasPage := some p } } BIL_CAL_CTRL_PVALID 1).s64 BIL_PCAL_ACT_LO_FRAC BIL_PCAL_ACT_HI_SEC t
  | none => s

/-- The journal entry e: sequence number, the BIL_DONE and the actions of both groups; none when it fails its check. -/
def Nvm.journalAt (v : Nvm) (e : Nat) : Option (Nat × (DevTime × DevTime) × (Nat × Nat)) :=
  let a := 256 * (0x2C0 + e / 8) + 32 * (e % 8)
  let b := v.read a 32
  if leAt b 24 4 = crc32c (b.take 24 ++ leBytes 4 a) then some (leAt b 16 4, (leAt b 0 8, leAt b 8 8), (leAt b 20 4 % 16, leAt b 20 4 / 16 % 16)) else none

/-- The valid journal entries, newest first. -/
def Nvm.journalAll (v : Nvm) : List (Nat × (DevTime × DevTime) × (Nat × Nat)) :=
  ((List.range 64).filterMap v.journalAt).foldl (fun l e =>
    let rec ins : List (Nat × (DevTime × DevTime) × (Nat × Nat)) → List (Nat × (DevTime × DevTime) × (Nat × Nat))
      | [] => [e]
      | x :: r => if x.1 < e.1 then e :: x :: r else x :: ins r
    ins l) []

/-- The stored snapshots of a group, newest first, at most 12. -/
def State.loadSnaps (s : State) (g : Fin 2) : State :=
  let ring := if g = 0 then 6 else 7
  let n := cdiv (((s.snapBytes g 0 0 0).length) + 1) 248
  let recs := ((slotPages ring).filter (fun p => s.nvm.recOk p n)).map (fun p => (s.nvm.pageSeq p, s.nvm.recPayload p n))
  let sorted := recs.foldl (fun (l : List (Nat × List Byte)) e =>
    let (hi, lo) := l.partition (fun x => decide (e.1 < x.1))
    hi ++ e :: lo) []
  let len := (s.snapBytes g 0 0 0).length
  let snaps : List Snap := (sorted.take 12).map (fun e => { body := e.2.take len, poison := decide (leAt e.2 len 1 = 1) })
  let s := s.setBil g (fun x => { x with snaps := snaps })
  s.sfs [(BIL_SNAP_COUNT g, snaps.length), (BIL_SNAP_PERIOD g, leAt ((snaps.head?.map Snap.body).getD []) 8 2)]

/-! ### Counters and the checkpoint (R268, R410 step 5) -/

/-- The value of counter i from its low record and its high cell, and whether the two do not fit. -/
def State.counterLoad (s : State) (body : List Byte) (i : Nat) : Nat × Bool :=
  let l := leAt body (0x1D0 + 16 * i) 8
  let ls := leAt body (0x1D8 + 16 * i) 2
  let (h, hs, ok) := s.nvm.highCell i
  if ok && (ls + 65536 - hs) % 65536 = 1 then ((h + 1) % 2 ^ 32 * 2 ^ 64 + l, false) else (h * 2 ^ 64 + l, !(ok && decide (ls = hs)))

/-- Load the state in a checkpoint: counters, boundary values, maxima, tariffs, periods, the running sub-interval, CF outputs. -/
def State.ckptLoad (s : State) (body : List Byte) : State :=
  let vals := (List.range 192).map (s.counterLoad body)
  let val := fun i => (vals.getD i (0, false)).1
  let bad := fun (lo n : Nat) => (List.range n).filter (fun i => (vals.getD (lo + i) (0, false)).2)
  let put := fun (lo n : Nat) (f : Nat → Nat) => (List.range n).foldl (fun (m : SMap Nat) i => SMap.set (fun _ => 0) m i (f (lo + i))) []
  let t := leAt body 0 8
  let grp := fun (g : Fin 2) (x : Bil) =>
    let o := 0x10 + 64 * g.val
    let sub := leAt body (o + 8) 8
    { x with
      treg := put (64 + 64 * g.val) 64 val
      poison := bad (64 + 64 * g.val) 64
      maxd := (List.range 64).foldl (fun (m : SMap Nat) i => SMap.set (fun _ => 0) m i (leAt body (0x15D0 + 1024 * g.val + 16 * i) 8)) []
      maxT := (List.range 64).foldl (fun (m : SMap Nat) i => SMap.set (fun _ => 0) m i (leAt body (0x15D8 + 1024 * g.val + 16 * i) 8)) []
      tariff := leAt body (o + 16) 1
      sub := if sub = 0 then none else some { a := sub, flags := flPartial ||| flReset, cal := leAt body (o + 20) 2 }

      bnds := (List.range (leAt body (o + 17) 1)).map (fun i => (List.range 8).map (fun q => leAt body (0xDD0 + 1024 * g.val + 64 * i + 8 * q) 8)) }
  let cf := Vector.ofFn (fun (m : Fin 4) => { s.met.cf[m] with residue := leAt body (0x90 + 16 * m.val) 8 })
  let s := { s with
    met := { s.met with acc := put 0 64 val, poison := bad 0 64, cf := cf, doneT := #v[t, t] }
    bil := #v[grp 0 s.bil[(0 : Fin 2)], grp 1 s.bil[(1 : Fin 2)]] }
  let s := s.sfs [(BIL_STAT_PERIOD 0, leAt body 0x22 2), (BIL_STAT_PERIOD 1, leAt body 0x62 2)]
  (List.range 4).foldl (fun (s : State) m => s.sf (CF_STAT_OWED m) (leAt body (0x98 + 16 * m) 4)) s

/-- The high cells that lag are written, and the counters whose parts do not fit are reported (R268). -/
def State.splitCheck (s : State) (body : List Byte) : State :=
  (List.range 192).foldl (fun (s : State) i =>
    let ls := leAt body (0x1D8 + 16 * i) 2
    let (h, hs, ok) := s.nvm.highCell i
    if (s.counterLoad body i).2 then
      State.sf { s with rst := { s.rst with logs := s.rst.logs ++ [(0x0D, leBytes 2 i ++ zeros 2 ++ leBytes 8 (leAt body (0x1D0 + 16 * i) 8) ++ leBytes 8 ls ++
        s.nvm.read (256 * 0x2C8 + 8 * i) 8)] } } BIL_ERR_SPLIT_BAD 1
    else if ok && decide (ls ≠ hs) then s.putHigh i ((h + 1) % 2 ^ 32) ls
    else s) s

/-! ### Applying a last-gasp record (R411) -/

/-- The increment of total accumulator q of group g from one list of 64-bit values to another. -/
def State.addTariff (s : State) (g : Fin 2) (tar : Nat) (d : Nat → Nat) : State :=
  s.setBil g (fun x => { x with treg := (List.range 8).foldl (fun (m : SMap Nat) q =>
    SMap.set (fun _ => 0) m (8 * tar + q) ((SMap.get (fun _ => 0) m (8 * tar + q) + d q) % 2 ^ 96)) x.treg })

/-- Advance the 32 accumulators of a group to 64-bit values; the increments of the totals go to a tariff. -/
def State.accTo (s : State) (g : Fin 2) (tar : Nat) (v : Nat → Nat) : State :=
  let old := fun k => s.acc (32 * g.val + k)
  let d := fun k => (v k + 2 ^ 64 - old k % 2 ^ 64) % 2 ^ 64
  let acc := (List.range 32).foldl (fun (m : SMap Nat) k => SMap.set (fun _ => 0) m (32 * g.val + k) ((old k + d k) % 2 ^ 96)) s.met.acc
  State.addTariff { s with met := { s.met with acc := acc } } g tar (fun q => d (24 + q))

/-- The actions of an instant are made again for the demand window, the maxima and the snapshot. -/
def State.instLoad (s : State) (g : Fin 2) (i : BilInst) : State :=
  let sub := i.acts.testBit 0
  let sw := i.acts.testBit 2
  let s := if sub || sw then (s.subClose g i.t (!sub) 0).2 else s
  let s := if sw then s.setBil g (fun x => { x with tariff := i.newT }) else s
  let s := if i.acts.testBit 3 then (s.periodClose g i.t 0 0 false).2.2 else s
  if sub || sw then s.setBil g (fun x => { x with
    sub := some { a := i.t, flags := flPartial ||| flReset, cal := s.met.actId[g] }

    bnds := if sw || x.bnds.isEmpty then [s.totals g] else x.bnds }) else s

/-- INST[g] of a last-gasp payload. -/
def instAt (b : List Byte) (g : Fin 2) : Option BilInst :=
  let o := 0x350 + 272 * g.val
  if (leAt b 13 1).testBit g.val then
    some { t := leAt b o 8, acts := leAt b (o + 8) 1, oldT := leAt b (o + 9) 1, newT := leAt b (o + 10) 1, acc := (List.range 32).map (fun k => leAt b (o + 16 + 8 * k) 8) }
  else none

/-- Apply a last-gasp record to a group. -/
def State.gaspGroup (s : State) (b : List Byte) (g : Fin 2) : State :=
  let fin := fun k => leAt b (0x50 + 256 * g.val + 8 * k) 8
  match instAt b g with
  | none => s.accTo g s.bil[g].tariff fin
  | some i =>
    let s := ((s.accTo g i.oldT (fun k => i.acc.getD k 0)).instLoad g i).accTo g i.newT fin
    s.setBilDone g (max (s.bilDone g) i.t)

/-- Apply a last-gasp record. -/
def State.gaspApply (s : State) (b : List Byte) : State :=
  let t := leAt b 0 8
  let s := (s.gaspGroup b 0).gaspGroup b 1
  let cf := Vector.ofFn (fun (m : Fin 4) => { s.met.cf[m] with residue := leAt b (0x10 + 16 * m.val) 8 })
  let s := { s with met := { s.met with cf := cf, doneT := #v[t, t] } }
  (List.range 4).foldl (fun (s : State) m => s.sf (CF_STAT_OWED m) (leAt b (0x18 + 16 * m) 4)) s

/-- The newest valid last-gasp record when it belongs to a checkpoint: BASE names it and it is not older. -/
def Nvm.gaspFor (v : Nvm) (seq : Nat) (tCap : DevTime) : Option (List Byte) :=
  match v.newest 8 (slotPages 2) with
  | some (p, _) =>
    let b := v.recPayload p 8
    if leAt b 8 4 = seq ∧ tCap ≤ leAt b 0 8 then some b else none
  | none => none

/-! ### Without a save (R412) -/

/-- A journal entry newer than the checkpoint names an instant that is not handled again; a billing close among its actions
gives a snapshot copied from the checkpoint, every value marked POISON. -/
def State.journalAhead (s : State) (g : Fin 2) (done : DevTime) : State :=
  let own := fun (e : Nat × (DevTime × DevTime) × (Nat × Nat)) => if g = 0 then (e.2.1.1, e.2.2.1) else (e.2.1.2, e.2.2.2)
  let b := s.bilDone g
  if b ≤ done then s
  else
    let s := s.sf NVM_ERR_JOURNAL_AHEAD 1
    let acts := ((s.nvm.journalAll.map own).find? (fun e => e.1 == b && e.2 != 0)).map Prod.snd
    if (acts.getD 0).testBit 3 then
      let period := (s.gf (BIL_STAT_PERIOD g) + 1) % 65536
      let p : Snap := { body := s.snapBytes g b period 0, poison := true }
      ((s.snapKeep g p).snapStore g p).sf (BIL_STAT_PERIOD g) period
    else s

/-! ### Step 7: snapshots missing from protected slots -/

/-- The snapshot that a checkpoint captured at a billing close of group g holds, when none with its instant is stored. -/
def State.snapMissing (s : State) (g : Fin 2) (page : Nat) : State :=
  let body := s.nvm.ckptBody page
  let t := leAt body 0 8
  if !s.nvm.recOk page 32 || !(leAt body (0x10 + 64 * g.val + 24) 1).testBit 0 || s.bil[g].snaps.any (fun p => decide (leAt p.body 0 8 = t)) then s
  else
    let v := s.ckptLoad body
    let p : Snap := { body := v.snapBytes g t (leAt body (0x10 + 64 * g.val + 18) 2) 0 }
    (s.snapKeep g p).snapStore g p

/-! ### Loading (R410) -/

/-- What the store gave: T_SAVE, whether a save was applied, whether a checkpoint was found, the newest checkpoint's RESV. -/
structure Loaded where
  t : DevTime
  saved : Bool
  found : Bool
  body : List Byte
  deriving DecidableEq, Repr

/-- The running sub-interval closes PARTIAL with RESET at the end of the last saved step (R264, R267). -/
def State.subRestore (s : State) (g : Fin 2) (t : DevTime) : State :=
  if (s.bil[g].sub).isNone then s
  else
    let (l, s) := s.subClose g t true 0
    { s with bilSaved := s.bilSaved ++ l }

/-- The billing instants of a last-gasp record: those of a group. -/
def gaspInst (b : List Byte) (g : Fin 2) : DevTime := match instAt b g with | some i => i.t | none => 0

/-- The state after a checkpoint: a last-gasp record that belongs to it is applied, or what the journal knows beyond it. `done` is the
latest billing instant of the journal. -/
def State.gaspTake (s : State) (body : List Byte) (done : DevTime) : Option (List Byte) → Loaded × State
  | some b =>
    let s := (s.loadCalendars (max done (max (gaspInst b 0) (gaspInst b 1)))).gaspApply b
    let t := leAt b 0 8
    let s := (s.subRestore 0 t).subRestore 1 t
    ({ t := t, saved := true, found := true, body := body }, s.sfs [(NVM_LGSTAT_RESULT, if leAt b 12 1 = 1 then 3 else 1), (NVM_LGSTAT_AGE, 0)])
  | none =>
    let tCap := leAt body 0 8
    let s := State.loadCalendars { s with bilSaved := [] } done
    let s := (s.journalAhead 0 (leAt body 0x10 8)).journalAhead 1 (leAt body 0x50 8)
    let s := (s.subRestore 0 tCap).subRestore 1 tCap
    let age := if s.ket.lost && decide (tCap ≤ s.ket.ploss) then (s.ket.ploss - tCap) * 1000 / 2 ^ 32 else 0
    ({ t := tCap, saved := false, found := true, body := body }, s.sfs [(NVM_LGSTAT_RESULT, 2), (NVM_LGSTAT_AGE, min age 65535)])

/-- The newest checkpoint (page and sequence number), if the store holds one. -/
def State.ckptTake (s : State) (done : DevTime) : Option (Nat × Nat) → Loaded × State
  | none => ({ t := 0, saved := false, found := false, body := [] }, State.loadCalendars { s with bilSaved := [] } done)
  | some (page, seq) =>
    let body := s.nvm.ckptBody page
    let s := ((s.ckptLoad body).splitCheck body).sf NVM_CKSEQ_SEQ seq
    s.gaspTake body done (s.nvm.gaspFor seq (leAt body 0 8))

/-- The billing instant of a group that a journal entry states. -/
def journalDoneAt (j : Option (Nat × (DevTime × DevTime) × (Nat × Nat))) (g : Nat) : DevTime :=
  match j with
  | some e => if g = 0 then e.2.1.1 else e.2.1.2
  | none => 0

/-- Steps 1 to 6 of R410: what was loaded, and the state. A sub-interval that is restored closes under the stored BIL_CFG. -/
def State.storeLoad (s : State) : Loaded × State :=
  let s := (((s.loadConfig).loadCal).bilSample 0).bilSample 1
  let j := s.nvm.journalAll.head?
  let s := (s.setBilDone 0 (journalDoneAt j 0)).setBilDone 1 (journalDoneAt j 1)
  let s := (s.loadSnaps 0).loadSnaps 1
  s.ckptTake (max (journalDoneAt j 0) (journalDoneAt j 1)) s.nvm.newestCkpt

/-- Steps 7 and 8: snapshots missing from protected slots are stored, and a checkpoint with CAUSE 2 is written. -/
def State.storeWrites (s : State) : State :=
  let pages := ckptPages.filter (fun p => s.nvm.guarded.contains p)
  let pages := match s.nvm.newestCkpt with | some (p, _) => if pages.contains p then pages else pages ++ [p] | none => pages
  let s := pages.foldl (fun (s : State) p => (s.snapMissing 0 p).snapMissing 1 p) s
  s.checkpoint 2

end Sys2Proof.Machine
end

