-- ==== Sys2Proof/Machine/Reset.lean ====
section
/-! DEFINITION. Resets, power failure, start-up and fencing at start (chapter 21, R39 to R43, R52, R335, R407 to R412, R432, R448,
R461, R517). -/

namespace Sys2Proof.Machine

/-! ### What a reset keeps (Table 21-2) -/

/-- A field that no full reset changes: the Kettle's registers (R478), the retired slots (R400), and the straps sampled at the last
release, with what follows from them (R39). -/
def keptKey (k : Nat) : Bool :=
  (0x1E00 * 32 ≤ k && k < 0x1F00 * 32) || (0x1A24 * 32 ≤ k && k < 0x1A28 * 32) ||
  [STRAP_MODE.key, STRAP_IOV0.key, STRAP_IOV1.key, STRAP_CORECLK_SEL.key, STRAP_MODE_RSVD.key, STRAP_SPI_CORE_XO.key].contains k

/-- What a ring number keeps: its last visible SEQ and its stored reservation (R331, R332). -/
def Ring.kept (g : Ring) : Ring := { lastVis := g.lastVis, nextSeq := (g.lastVis + 1) % 2 ^ 32, resv := g.resv }

/-- What the security engine keeps: the stored owner record, the seal counter's reservation, the key's state, the debug fuse. -/
def Sec.kept (c : Sec) : Sec :=
  { zeroised := c.zeroised, dbg := c.dbg, owner := c.stOwner, installT := c.stT, sessNo := c.stNo
    stOwner := c.stOwner, stT := c.stT, stNo := c.stNo, mcount := c.mres, mres := c.mres }

/-- The device enters reset: everything but what Table 21-2 keeps takes its reset value. -/
def State.wiped (s : State) (phase : Phase) : State :=
  { pending := s.pending
    chip := s.chip
    rst := { phase := phase, cause := s.rst.cause, gasped := s.rst.gasped, tLost := s.persist.tLost }
    persist := s.persist
    regs := s.regs.filter (fun e => keptKey e.1)
    rings := s.rings.map Ring.kept
    out := s.out
    nvm := { s.nvm with queue := [], running := none, arch := [], guarded := s.nvm.guarded.filter (fun p => decide (0x2E0 ≤ p)) }
    sec := s.sec.kept
    ket := { s.ket with writes := [] }
    bilSaved := s.bilSaved
    free := s.free }

/-! ### Reset sources (R479 to R482) -/

/-- A full reset begins with a cause: comparators deassert (R93), and the save of R335 runs once the stored state has been loaded;
during a save only the cause changes. -/
def State.beginReset (s : State) (cause : Nat) : State :=
  match s.rst.phase with
  | .ready | .startup =>
    let s := { s with rst := { s.rst with phase := .saving, cause := cause }, cmd := {} }
    s.thrDrop.gaspStart 1
  | .saving => { s with rst := { s.rst with cause := cause } }
  | _ => s

/-- A main supply stays below its threshold for `ns`, or power is first applied: power-on reset. A running write is cut (R397). An
excursion of 2 µs or less may or may not reset; a longer one does (R43). -/
def execPowerOnReset (ns : Nat) (s : State) : Host.Outcome State Fault Refusal :=
  let (hit, s) := s.pulse ns 500 2001
  .next (if !hit || s.rst.phase = .por then s
    else
      let s := if s.rst.phase = .ready then s.leave else s
      let s := { s.nvmAbandon with rst := { s.rst with cause := 0, gasped := false } }
      s.wiped .por)

/-- All five main supplies have been in range for 1 ms: power-on reset is released. -/
def execPorSuppliesSettled (s : State) : Host.Outcome State Fault Refusal :=
  .next (if s.rst.phase = .por then { s with rst := { s.rst with phase := .inReset } } else s)

/-- RESET_N low for `ns` (R480). -/
def execResetNAssert (ns : Nat) (s : State) : Host.Outcome State Fault Refusal :=
  let (hit, s) := s.pulse ns 500 1000
  .next (if hit then s.beginReset 1 else s)

/-- PERST_N low for `ns` (R480). -/
def execPerstNAssert (ns : Nat) (s : State) : Host.Outcome State Fault Refusal :=
  let (hit, s) := s.pulse ns 500 1000
  .next (if hit then s.beginReset 2 else s)

/-- A hot reset is received on the link (R271). -/
def execHotReset (s : State) : Host.Outcome State Fault Refusal := .next (if s.gb LINK_STAT_UP then s.beginReset 3 else s)

/-- GRACE ms after a wedge (R348). -/
def execWatchdogReset (s : State) : Host.Outcome State Fault Refusal :=
  .next (if s.isReady && decide (s.gf WDOG_STAT_WEDGED ≠ 0) && decide (s.gf WDOG_CTRL_GRACE ≠ 0) then s.beginReset 5 else s)

/-- FULL_RESET: it causes no record, so its completion is placed at once and becomes visible, then the reset begins; through the mailbox it begins without DONE (R295, R299). -/
def State.doFullReset (s : State) (c : Cmd) : State :=
  if c.boxed then s.beginReset 4
  else
    let s := State.finish { s with cmd := { s.cmd with cur := some { c with seq0 := s.seqs } } } 0 0 []
    let s := match s.cplRing with
      | some n => if s.served then s.publish n else s
      | none => s
    s.beginReset 4

/-- FULL_RESET. -/
def execFullReset (s : State) : Host.Outcome State Fault Refusal := .next (s.onCmd 0x0F State.doFullReset)

/-- The save of a full reset completes (R480): the device is in reset, to be released. -/
def execFullResetSaveDone (s : State) : Host.Outcome State Fault Refusal :=
  .next (if s.rst.phase = .saving then (s.gaspEnd).wiped .inReset else s)

/-! ### Power failure (R52, R407, R409, R517) -/

/-- The last gasp begins (R407, R408, R517). -/
def State.gaspBegin (s : State) : State :=
  let s := { s with rst := { s.rst with phase := .gasp, gasped := true, cause := 0 }, cmd := {}, sec := { s.sec with signing := none, due := [] } }
  s.gaspStart 0

/-- PFI registers. It has no effect in a reset. Otherwise it starts the urgent conversion (R52), and the last gasp once the stored
state is loaded; before that, a running write is abandoned and nothing is saved (R407). A save in progress continues unchanged
(R409). -/
def State.pfi (s : State) : State :=
  match s.rst.phase with
  | .por | .inReset | .gaspHeld => s
  | .saving | .gasp => s.hsarPfi
  | .ready => s.hsarPfi.gaspBegin
  | .startup => if s.rst.loaded then s.hsarPfi.gaspBegin else s.hsarPfi.nvmAbandon

/-- PFI is high for `ns`. -/
def execPfiRegister (ns : Nat) (s : State) : Host.Outcome State Fault Refusal :=
  let (hit, s) := s.pulse ns 500 1000
  .next (if hit then s.pfi else s)

/-- The last-gasp save completes: the device enters reset. -/
def execLastGaspSaveDone (s : State) : Host.Outcome State Fault Refusal :=
  .next (if s.rst.phase = .gasp then (s.gaspEnd).wiped .gaspHeld else s)

/-- PFI has been low for 1 ms with every supply in range: the device starts as after a power-on reset. -/
def execPfiReleaseRestart (s : State) : Host.Outcome State Fault Refusal :=
  .next (if s.rst.phase = .gaspHeld then { s with rst := { s.rst with phase := .inReset, cause := 0, gasped := false } } else s)

/-! ### The release (R39, R40, R410, R461, R483) -/

/-- The straps are sampled and held until the next release; the clocks lock. -/
def State.strapSample (s : State) (x : Straps) : State :=
  let spi := decide (2 ≤ x.mode.val)
  s.sfs [(STRAP_MODE, x.mode.val), (STRAP_IOV0, b2n x.iov0), (STRAP_IOV1, b2n x.iov1), (STRAP_CORECLK_SEL, b2n x.coreclkSel),
    (STRAP_MODE_RSVD, b2n (x.mode == 3)), (STRAP_SPI_CORE_XO, b2n (spi && !x.coreclkSel)), (CLK_STAT_META_LOCK, 1), (CLK_STAT_TPLL_LOCK, 1),
    (CLK_STAT_CORE_LOCK, 1), (CLK_STAT_CORE_SRC, b2n (x.coreclkSel || spi))]

/-- The rings' series (R331, R332): without a save they resume at the reservations of the newest checkpoint. -/
def State.ringSeries (s : State) (l : Loaded) : State :=
  if !l.found || l.saved then s
  else
    { s with rings := Vector.ofFn (fun (n : Fin 64) =>
      let r := leAt l.body (0xD0 + 4 * n.val) 4
      { s.rings[n] with nextSeq := r, resv := r, lastVis := (r + 2 ^ 32 - 1 - 2 ^ 20) % 2 ^ 32 }) }

/-- A cold start sets STEP_NEEDED; its LOG TIME record follows at readiness (R131, R461, R485). -/
def State.stepNeeded (s : State) : State :=
  (State.sf { s with rst := { s.rst with logs := s.rst.logs ++ [(0x03, s.timeBody 2 s.now 0 [])] } } TIME_STATUS_STEP_NEEDED 1).raise 13

/-- Device time is reloaded from the Kettle, or set from the store after a cold start (R125, R461). The discipline starts in FREE
(Table 6-1). -/
def State.timeLoad (s : State) (l : Loaded) : State :=
  let cold := !s.ket.valid
  let t := if cold then max l.t (max (s.bilDone 0) (s.bilDone 1)) else s.ket.time
  let h := if cold then t else max s.ket.hwm t
  let s := { s with time := { t := t * 2 ^ 32, lastTick := t }, ket := { s.ket with hwm := h } }
  let s := s.sfs [(TIME_STATUS_RELOADED, 1), (TIME_STATUS_SHADOW, b2n (decide (t < h)))]
  (if cold then s.stepNeeded else s).mirror

/-- The units whose tests start with the start-up: SARCAL on the pairs and the house converter, the check of every channel. -/
def State.startTests (s : State) : State :=
  let ch := maskOf ((List.range 16).filter (fun n => !s.chFused n))
  let tr := maskOf ((List.range 8).filter (fun n => !s.trFused n))
  let s := { s with chk := { mask := ch, pos := 0 } }
  (s.setSar (fun x => { x with calP := tr, calH := true })).sfs [(AFE_CHK_STATUS_BUSY, 1), (SAR_CAL_STATUS_BUSY, 1)]

/-- What follows the load of the stored state: series, device time, the save's instants, the tests of start-up. -/
def State.afterLoad (s : State) (l : Loaded) : State :=
  let s := (s.ringSeries l).timeLoad l
  let r := { s.rst with
    saved := l.saved
    skip := l.found && !l.saved
    tSave := l.t
    tLost := if l.found && !l.saved then l.t else s.persist.tLost
    tRelease := s.time.t }
  let s := { s with rst := r, ket := { s.ket with lost := false }, link := { bar2 := s.gb DMA_CFG_W2EN } }
  let s := (s.s64 NVM_TSAVE_LO_FRAC NVM_TSAVE_HI_SEC l.t).storeWrites
  let s := { s with slc := { cur := some (s.sliceCopy 0) } }
  (s.startTests).ketCopy

/-- The Kettle's stored zeroise demand is carried out (R472). -/
def State.zeroDemand (s : State) : State :=
  if s.ket.zeroDemand then
    State.storeKeyZero { s with ket := { s.ket with zeroDemand := false, zeroised := true }, sec := { s.sec with zeroised := true } }
  else s

/-- A reset is released: the start-up sequence begins (Table 21-3). The Kettle's stored zeroise demand is carried out first, the
stored state is loaded, and the next seal reservation is queued (R448). -/
def State.releaseReset (s : State) (x : Straps) : State :=
  let s := { s with rst := { s.rst with phase := .startup, loaded := true, powerLoss := s.ket.lost && s.ket.valid } }
  let r := (s.strapSample x).zeroDemand.storeLoad
  (r.2.afterLoad r.1).storeSeals

/-- RESET_RELEASE. With TESTEN high the device does not start (R38). -/
def execResetRelease (straps : Straps) (s : State) : Host.Outcome State Fault Refusal :=
  .next (if s.rst.phase = .inReset then
    let s := { s with rst := { s.rst with testen := straps.testen } }
    if straps.testen then s else s.releaseReset straps
  else s)

/-- The first passing health-test window (R432): TRNG_OK, the first nonce, and the loops' seeds (R464). -/
def execTrngReady (s : State) : Host.Outcome State Fault Refusal :=
  .next (if (s.rst.phase == .startup || s.rst.phase == .ready) && !s.sec.trngFail && !s.sec.trngOk then
    (State.newNonce { s with sec := { s.sec with trngOk := true } }).seedLoops else s)

/-! ### Readiness (R484 to R489) -/

/-- A channel's check fences it (R486, R487). -/
def State.startFenceCh (s : State) (n : Nat) : Bool :=
  s.gb (AFE_CHK_RES_OFS_FAIL n) || s.gb (AFE_CHK_RES_TONE_FAIL n) || (s.gb (AFE_CHK_RES_REF_FAIL n) && !s.gb AFE_REF_REF_FAULT)

/-- A fenced lane leaves the link x1, or no link (Table 21-4). -/
def State.linkLanes (s : State) : State :=
  if s.mbit FENCE_MISC_LANE 0 then s.sfs [(LINK_STAT_WIDTH, 0), (LINK_STAT_SPEED, 0), (LINK_STAT_UP, 0), (LINK_STAT_L1, 0)]
  else if s.mbit FENCE_MISC_LANE 1 && s.gb LINK_STAT_UP then s.sf LINK_STAT_WIDTH 1
  else s

/-- The fences of start-up (Table 21-4): channels, pairs, banks, lanes; the slices' are decided with their self-test. -/
def State.startFences (s : State) (badBanks : List (Fin 64)) (badLanes : List (Fin 2)) : State :=
  let s := (List.range 16).foldl (fun (s : State) n => if !s.chFused n && s.startFenceCh n then s.smbit FENCE_CH_CH n true else s) s
  let s := (List.range 8).foldl (fun (s : State) n =>
    if !s.trFused n && !s.mbit SAR_CAL_STATUS_VALID n then (s.smbit FENCE_CH_TR n true).smbit TSAR_CTRL_EN n false else s) s
  let s := badBanks.foldl (fun (s : State) (b : Fin 64) => if b.val < 32 then s.smbit FENCE_BANK_LO_BANK b.val true else s.smbit FENCE_BANK_HI_BANK (b.val - 32) true) s
  (badLanes.foldl (fun (s : State) (k : Fin 2) => s.smbit FENCE_MISC_LANE k.val true) s).linkLanes

/-- Every unit fenced at start-up, as (type, unit), in unit-type order (R485). -/
def State.fencedUnits (s : State) : List (Nat × Nat) :=
  ((List.range 16).filter s.chFenced).map (fun n => (0, n)) ++ ((List.range 8).filter s.trFenced).map (fun n => (1, n)) ++
    ((List.range 64).filter s.bankFenced).map (fun n => (2, n)) ++ ((List.range 2).filter (fun n => s.mbit FENCE_MISC_LANE n)).map (fun n => (3, n)) ++
    ((List.range 3).filter s.sliceFenced).map (fun n => (4, n))

/-- The LOG RESET record (R323). -/
def State.logReset (s : State) : State :=
  s.log 2 0 (leBytes 1 s.rst.cause ++ leBytes 1 (b2n s.rst.saved) ++ zeros 2 ++ leBytes 4 s.persist.rcount ++ leBytes 8 s.rst.tSave)

/-- The LOG records of readiness in their order (R485). -/
def State.startLogs (s : State) (units : List (Nat × Nat)) : State :=
  let s := units.foldl (fun (s : State) u => s.unitLost u.1 u.2 0 []) s.logReset
  let s := s.rst.logs.foldl (fun (s : State) e => s.log e.1 0 e.2) s
  if s.gb AFE_REF_REF_FAULT then (s.raise 14).logRef else s

/-- Autostart (R489): pairs, then groups. The pairs that the stored TSAR_CTRL names are taken as enables too (log entry 60). -/
def State.autostart (s : State) : State :=
  let held := maskOf ((List.range 8).filter (fun n => s.mbit TSAR_CTRL_EN n))
  let s := s.sf TSAR_CTRL_EN 0
  let p := s.gf RST_AUTO_PAIRS
  let s := (s.tsEnable held).tsEnable p
  let s := s.sf RST_STAT_AUTO_PAIRS (p &&& s.gf TSAR_CTRL_EN)
  let (ok, no, s) := s.startGroups (s.gf RST_AUTO_GROUPS)
  s.sfs [(RST_STAT_AUTO_RUN, ok), (RST_STAT_AUTO_REF, no)]

/-- A write of start-up is outstanding: a snapshot of R410 step 7, the checkpoint of step 8, the seal counter's reservation, the
key records. -/
def State.startWriting (s : State) : Bool :=
  s.storing (fun k => match k with | .snapshot _ _ => true | .checkpoint _ _ => true | .seals _ => true | .devKey => true | _ => false)

/-- Every step of Table 21-3 has ended. -/
def State.startReady (s : State) : Bool :=
  decide (s.rst.phase = .startup) && s.rst.sliceDone && s.rst.sarDone && s.gb AFE_REF_REF_RDY && !s.gb AFE_CHK_STATUS_BUSY && (s.sec.trngOk || s.sec.trngFail) &&
  !s.startWriting

/-- The device is ready: the phase, T_READY, the count of full resets (R333). -/
def State.readyState (s : State) : State :=
  { s with
    rst := { s.rst with phase := .ready, tReady := s.now }
    persist := { s.persist with rcount := s.persist.rcount + (if s.rst.cause = 0 then 0 else 1) } }

/-- The registers of Table 21-6 at readiness. -/
def State.readyRegs (s : State) (fenced : Bool) : State :=
  let us := (s.time.t - s.rst.tRelease) * 1000000 / 2 ^ 64
  (s.s64 RST_TREADY_LO_FRAC RST_TREADY_HI_SEC s.now).sfs [(RST_STAT_CAUSE, s.rst.cause), (RST_STAT_READY, 1), (RST_STAT_SAVED, b2n s.rst.saved),
    (RST_STAT_FENCED, b2n fenced), (RST_DUR_US, min us 65535)]

/-- The interrupts of readiness: READY, and TAMPER while a backup TAMPER record awaits delivery. -/
def State.readyInts (s : State) : State :=
  let s := (s.statRemap []).raise 1
  if (fins 12).any (fun (k : Fin 12) => s.ket.src[k].mark) then s.raise 12 else s

/-- Without a slice, R427 applies from readiness. -/
def State.readySlices (s : State) : State := if s.gf SLICE_STAT_ACTIVE = 3 then s.sliceLost else s

/-- Readiness at a device time (R484). -/
def State.goReady (s : State) (t : Nat) (badBanks : List (Fin 64)) (badLanes : List (Fin 2)) : State :=
  let s := (s.timeTo (t * 2 ^ 32)).startFences badBanks badLanes
  let units := s.fencedUnits
  (((((s.readyState).readyRegs (!units.isEmpty)).readyInts).startLogs units).readySlices).autostart.calReach

/-- STARTUP_READY: the device time, the banks and lanes that failed their tests. -/
def execStartupReady (t : Nat) (badBanks : List (Fin 64)) (badLanes : List (Fin 2)) (s : State) : Host.Outcome State Fault Refusal :=
  .next (if s.startReady then s.goReady t badBanks badLanes else s)

end Sys2Proof.Machine
end

