-- ==== Sys2Proof/Machine/Ue.lean ====
section
/-! DEFINITION. What a word read through the fabric shows: correctable, uncorrectable and misdelivered words and their outcome by
region (R343 to R345, Table 14-6, R240, R420). -/

namespace Sys2Proof.Machine

/-- Samples of channel c with group SI from `a` to before `b` are lost from a list of ticks. -/
def dropSamples (c : Nat) (a b : Nat) (l : List Tick) : List Tick :=
  l.map (fun t => if a ≤ t.si ∧ t.si < b then { t with smp := t.smp.set c none } else t)

/-- Samples of channel n from SI `si` are lost between the chain and the slices: gaps with cause UNCORRECTABLE on its streams, and
POISON on the intervals that lack them, which count what remains (R25). -/
def State.ueSamples (s : State) (n : Fin 16) (si k : Nat) : State :=
  let g := grpOf n
  let c := n.val % 8
  let off := s.chan[n].off
  let here := (s.grp[g].ticks ++ s.grp[g].fifo).filter (fun t =>
    decide (si ≤ ((t.si : Int) + off).toNat) && decide (((t.si : Int) + off).toNat < si + k) && (t.smp.getD c none).isSome)
  match here with
  | [] => s
  | t0 :: l =>
    let t1 := (t0 :: l).getLastD t0
    let a := ((t0.si : Int) + off).toNat
    let n1 := t1.si + 1 - t0.si
    let gap : Gap := { cause := gapUncorrectable, tStart := s.chT n a, tEnd := s.chTEnd n a n1, si := a % 2 ^ 48, count := n1 }
    let in_ := fun (x : DevTime) (e : Option DevTime) => decide (x ≤ t1.t) && (match e with | some y => decide (t0.t < y) | none => true)
    let s := s.setGrp g (fun gr =>
      { gr with
        ticks := dropSamples c t0.si (t1.si + 1) gr.ticks
        fifo := dropSamples c t0.si (t1.si + 1) gr.fifo
        wins := gr.wins.map (fun w => if in_ w.a none then { w with flags := w.flags ||| flPoison } else w)
        wdone := gr.wdone.map (fun d => if in_ d.w.a (some d.b) then { d with w := { d.w with flags := d.w.flags ||| flPoison } } else d) })
    let s := { s with bil := s.bil.set g { s.bil[g] with sub := s.bil[g].sub.map (fun (x : Sub) => if in_ x.a none then { x with flags := x.flags ||| flPoison } else x) } }
    let s := (s.smpGap n gap).capGap n gap
    let s := { s with cap := { s.cap with buf := s.cap.buf.filter (fun x => !(x.src == n.val && decide (a ≤ x.idx) && decide (x.idx < a + n1))) } }
    if a < s.chan[n].thrCov then s
    else
      let s := (s.thrEval n a 0).setChan n (fun ch => { ch with thrCov := a + n1 })
      s.emit (gapRec clsEVT n gap)

/-- Samples of a transient input are lost in its FIFO or on their way to a record. -/
def State.ueTransient (s : State) (n : Fin 8) (idx k : Nat) : State :=
  let x := s.ts n
  let lostIn := fun (e : Nat × Nat) => decide (idx ≤ e.1) && decide (e.1 < idx + k)
  match (x.smp ++ x.fifo).filter lostIn with
  | [] => s
  | e0 :: l =>
    let n1 := ((e0 :: l).getLastD e0).1 + 1 - e0.1
    let gap : Gap := { cause := gapUncorrectable, tStart := x.time e0.1, tEnd := x.timeEnd e0.1 n1, si := e0.1 % 2 ^ 48, count := n1 }
    let after := x.smp.filter (fun e => decide (e0.1 + n1 ≤ e.1))
    let s := s.setTs n (fun x => { x with smp := x.smp.filter (fun e => decide (e.1 < e0.1)), fifo := x.fifo.filter (fun e => !lostIn e) })
    let s := (s.tsRelease n 0).setTs n (fun x => { x with smp := after })
    let s := (s.gapOn [clsSMP] (srcTr n) gap).capGap (srcTr n) gap
    let s := { s with cap := { s.cap with buf := s.cap.buf.filter (fun y => !(y.src == srcTr n && decide (e0.1 ≤ y.idx) && decide (y.idx < e0.1 + n1))) } }
    let s := if s.supraOn.testBit n then s.setTs n (fun x => { x with supFlag := x.supFlag ||| flPoison }) else s
    if e0.1 < (s.ts n).evCov then s
    else ((s.tsEval n 0).setTs n (fun x => { x with evCov := max x.evCov (e0.1 + n1) })).emit (gapRec clsEVT (srcTr n) gap)

/-- Captured samples of a source are lost inside the record (R219). -/
def State.ueCapture (s : State) (src idx k : Nat) : State :=
  let lostIn := fun (x : CapSmp) => x.src == src && decide (idx ≤ x.idx) && decide (x.idx < idx + k)
  match s.cap.buf.filter lostIn with
  | [] => s
  | a :: l =>
    let z := (a :: l).getLastD a
    { s with cap := { s.cap with
        buf := s.cap.buf.filter (fun x => !lostIn x)
        gaps := s.cap.gaps ++ [(src, { cause := gapUncorrectable, tStart := a.t, tEnd := z.e, si := a.idx % 2 ^ 48, count := z.idx + 1 - a.idx })] } }

/-- SPEC data of channels of a group's oldest window whose transform is outstanding is lost. -/
def State.ueSpec (s : State) (g : Fin 2) (chans : Nat) : State :=
  s.setGrp g (fun gr =>
    if gr.wdone.any (fun d => d.spec.isNone) then
      { gr with wdone := updFirst (fun d => d.spec.isNone) (fun d => { d with w := { d.w with lostCh := d.w.lostCh ||| chans } }) gr.wdone }
    else match gr.wins with
      | w :: l => { gr with wins := { w with lostCh := w.lostCh ||| chans } :: l }
      | [] => gr)

/-- Running sums of a level are lost: every value that uses them is not defined, and the record carries POISON. -/
def State.ueRunning (s : State) (g : Fin 2) (lv : Fin 3) (keys : List Nat) : State :=
  if s.grp[g].lvls[lv].isOpen then s.setLvl g lv (fun l => { l with dead := l.dead ++ keys, flags := l.flags ||| flPoison }) else s

/-- One item of the reserve is hit: payload spans of a waiting record, or of a SUMMARY, are lost. -/
def QItem.blank (i : QItem) (spans : List Nat) : QItem :=
  match i with
  | .placed seq r => .placed seq (r.blank spans)
  | .summary seq f l b => .summary seq f l (b ++ spans)

/-- Change the item at a place of a list. -/
def setNth {α : Type} (f : α → α) : Nat → List α → List α
  | _, [] => []
  | 0, a :: l => f a :: l
  | k + 1, a :: l => a :: setNth f k l

/-- What an uncorrectable word held is lost. -/
def State.ueHit (s : State) (h : UeHit) : State :=
  match h with
  | .samples n si k _ => s.ueSamples n si k
  | .transient n i k => s.ueTransient n i k
  | .capture src i k => s.ueCapture src i k
  | .spec g c => s.ueSpec g c.toNat
  | .supra n => if s.supraOn.testBit n.val then s.setTs n (fun x => { x with supFlag := x.supFlag ||| flPoison }) else s
  | .running g lv ks => s.ueRunning g lv ks
  | .reserve n i spans => s.setRing n (fun r => { r with q := setNth (fun q => q.blank spans) i r.q })
  | .staged n spans => s.setRing n (fun r => { r with bad := r.bad ++ spans })

/-- The region of a hit that is read outside the fabric (Table 14-9): the FIFOs before CORE. -/
def UeHit.fifo : UeHit → Option Nat
  | .samples _ _ _ true => some 0x40
  | .transient _ _ _ => some 0x41
  | _ => none

/-- A hit lies in a region: the bank's owner, the ring, the sums, the reserve, staging (Table 14-6). -/
def State.hitIn (s : State) (region : Nat) (h : UeHit) : Bool :=
  match h with
  | .samples _ _ _ fifo => if fifo then region == 0x40 else region == 0x42
  | .transient _ _ _ => region == 0x41
  | .capture _ _ _ => decide (region < 64) && decide (s.gf (BANK_OWNER_OWNER region) = 1)
  | .spec _ _ => decide (region < 64) && decide (s.gf (BANK_OWNER_OWNER region) = 2)
  | .supra _ => decide (region < 64) && decide (s.gf (BANK_OWNER_OWNER region) = 2)
  | .running _ _ _ => region == 0x46
  | .reserve _ _ _ => region == 0x44
  | .staged _ _ => region == 0x45

/-- A word of a region is lost: the outcome of Table 14-6. -/
def State.ueRegion (s : State) (region word : Nat) (hits : List UeHit) : State :=
  let s := if region = 0x43 then s.ckptHit else s
  let s := match s.statMap.findIdx? (fun x => x == some region) with
    | some l => s.statPoison (8192 * l + word)
    | none => s
  (hits.filter (s.hitIn region)).foldl State.ueHit s

/-- What a read of a word of a region finds (R343 to R345). -/
def State.eccRead (s : State) (e : Ecc) (region word : Nat) (hits : List UeHit) : State :=
  let s := s.eccCount e region word
  if eccLost e then s.ueRegion region word hits else s

/-- The requests are presented and the arbiter runs to its next grant: the granted access completes (R352), and its word, or a word
read from a FIFO before CORE, decodes as `ecc` says (R344). `hits` is what the word held. -/
def execFabricAccessComplete (reqs : List FabPresent) (ecc : Ecc) (word : Nat) (hits : List UeHit) (s : State) : Host.Outcome State Fault Refusal :=
  let r := s.fabRun reqs
  .next (match (hits.findSome? UeHit.fifo).orElse (fun _ => r.1) with
    | some region => r.2.eccRead ecc region word hits
    | none => r.2)

end Sys2Proof.Machine
end

