-- ==== Sys2Proof/Machine/Views.lean ====
section
/-! DEFINITION. Register reads: the fields that show state kept elsewhere, the registers of absent units, the latched _HI registers
(R6, R7, R278, R494 to R497, R501 and the register tables of chapters 3 to 22). -/

namespace Sys2Proof.Machine

/-! ### Registers of absent units (R501 and the owning chapters) -/

/-- The channel that a register belongs to, and whether a fence hides it too (R77, R99, R172). -/
def regChannel (off : Nat) : Option (Nat × Bool) :=
  if 0x210 ≤ off ∧ off < 0x250 then some ((off - 0x210) / 4, true)
  else if 0x280 ≤ off ∧ off < 0x380 then some ((off - 0x280) / 16, false)
  else if 0x400 ≤ off ∧ off < 0x440 then some ((off - 0x400) / 4, true)
  else if 0x480 ≤ off ∧ off < 0x580 then some ((off - 0x480) / 16, true)
  else if 0xB00 ≤ off ∧ off < 0xC00 then some ((off - 0xB00) / 16, true)
  else none

/-- The transient pair that a register belongs to, and whether a fence hides it too (R123, R199). -/
def regPair (off : Nat) : Option (Nat × Bool) :=
  if 0x640 ≤ off ∧ off < 0x6C0 then some ((off - 0x640) / 16, true)
  else if 0x6C0 ≤ off ∧ off < 0x700 then some ((off - 0x6C0) / 8, true)
  else if 0xC40 ≤ off ∧ off < 0xC60 then some ((off - 0xC40) / 4, false)
  else none

/-- The register belongs to MGB (R144, R172, R199, R221, R269). -/
def regGroupB (off : Nat) : Bool :=
  decide (0x8C0 ≤ off ∧ off < 0x900) ||
  [0xA14, 0xA1C, 0xC04, 0xC0C, 0xD04, 0xD0C, 0xD18, 0xD1C, 0xD24, 0xD2C, 0x100C, 0x1014, 0x1020, 0x1024, 0x1084].contains off ||
  decide (0xC30 ≤ off ∧ off < 0xC40)

/-- The register's unit is there. -/
def State.regThere (s : State) (off : Nat) : Bool :=
  (match regChannel off with
   | some (n, fence) => !s.chFused n && !(fence && s.chFenced n)
   | none => true) &&
  (match regPair off with
   | some (n, fence) => !s.trFused n && !(fence && s.trFenced n)
   | none => true) &&
  !(regGroupB off && s.grpFused 1)

/-- The bits of a shared converter register that belong to absent pairs read 0 (R123). -/
def State.pairHide (s : State) (off w : Nat) : Nat :=
  let m := s.pairMask
  match off with
  | 0x600 => w &&& (m + 0xFFFFFF00)
  | 0x604 => w &&& (0xFF + 256 * m + 65536 * m)
  | 0x608 => w &&& (m + 256 * m + 65536 * m)
  | 0x60C => w &&& (m + 256 * m + 65536)
  | 0x610 => w &&& (((bitsOf 8 m).map (fun n => 15 * 16 ^ n)).sum)
  | 0x614 => w &&& (twice m + 65536 * twice m)
  | _ => w

/-! ### Computed fields -/

/-- CAPS = NOT (FUSE OR FENCE) over the defined bits (R495). -/
def State.capsCh (s : State) : Nat :=
  maskOf ((List.range 16).filter s.chPresent) + 65536 * s.pairMask + 2 ^ 24 + 2 ^ 25 * b2n (!s.grpFused 1)

/-- Banks present among 32 from `b0` on; no shipped part has a bank fused (R496). -/
def State.capsBank (s : State) (b0 : Nat) : Nat := maskOf ((List.range 32).filter (fun i => !s.bankFenced (b0 + i)))

/-- CAPS_MISC: lanes, slices, number of banks. -/
def State.capsMisc (s : State) : Nat :=
  maskOf ((List.range 2).filter (fun k => !s.mbit FENCE_MISC_LANE k)) + 4 * maskOf ((List.range 3).filter (fun n => !s.sliceFenced n)) +
    65536 * ((List.range 64).filter (fun b => !s.bankFenced b)).length

/-- Rings with a property among 32 from `n0` on. -/
def State.ringMask (s : State) (n0 : Nat) (p : Ring → Bool) : Nat :=
  maskOf ((List.range 32).filter (fun i => if h : n0 + i < 64 then p s.rings[n0 + i] else false))

/-- RING_STATn (Table 12-9). -/
def Ring.stat (g : Ring) : Nat :=
  (match g.st with | .off => 0 | .on => 1 | .halted => 2 | .refused => 3) + 256 * g.err +
    (if g.st = .on ∨ g.st = .halted then 65536 * g.cls else 0)

/-- The span of the samples held in the replay ring in µs, from the oldest to the newest; saturates. -/
def State.replayUs (s : State) : Nat :=
  match s.slc.rply with
  | [] => 0
  | (t, _) :: l => min (((t - ((l.getLast?).map Prod.fst).getD t) * 1000000) / 2 ^ 32) 65535

/-- Big-endian bytes 4i to 4i + 3 as a register word, byte 4i in bits 7:0. -/
def keyWord (b : List Byte) (i : Nat) : Nat := leAt b (4 * i) 4

/-- SEC_STAT (Table 19-4). -/
def State.secStat (s : State) : Nat :=
  (if s.sec.zeroised then 2 else 1) + 4 * b2n s.sec.owner.isSome + 8 * b2n s.sec.session.isSome +
    16 * b2n (match s.sec.session with | some x => x.port == .spi | none => false) + 32 * b2n (s.gb KET_STAT_LOCK) + 64 * b2n s.sec.dbg +
    128 * b2n s.sec.trngOk + 65536 * min (s.sec.due.length + b2n s.sec.signing.isSome) 255

/-- The evidence of the source that KET_ESEL selects; 12 to 15 select nothing (R478). -/
def State.ketSel (s : State) : Option KSrc := if h : s.gf KET_ESEL_SRC < 12 then some s.ket.src[s.gf KET_ESEL_SRC] else none

/-- A time with fraction bits 16:0 reading 0 (R478). -/
def ketTrunc (t : DevTime) : Nat := t / 2 ^ 17 * 2 ^ 17

/-- The blocks 0x0000 to 0x0FFF: a register whose value is computed; none for one that lists its own fields. -/
def State.viewLow (s : State) (off : Nat) : Option Nat :=
  let h := s.hist (s.gf STAT_DSEL_INDEX)
  match off with
  | 0x000 => some (0x1FD3 + 65536 * (if s.chip.ps0804 then 0x0804 else 0x1608))
  | 0x008 => some (s.chip.uid % 2 ^ 32)
  | 0x00C => some (s.chip.uid / 2 ^ 32 % 2 ^ 32)
  | 0x010 => some s.capsCh
  | 0x014 => some s.capsMisc
  | 0x018 => some (s.capsBank 0)
  | 0x01C => some (s.capsBank 32)
  | 0x020 => some s.chip.fuseCh
  | 0x054 => some (s.persist.rcount % 2 ^ 32)
  | 0x098 => some (s.rawWord 0x098 % 2 ^ 16 + 65536 * min s.openSummaries 255 + s.rawWord 0x098 / 2 ^ 24 * 2 ^ 24)
  | 0x590 => some (s.gf EVT_PIN_CTRL_INV + 16 * s.evtPins)
  | 0x808 => some (s.now % 2 ^ 32)
  | 0x80C => some (s.now / 2 ^ 32)
  | 0x810 => some (s.ket.hwm % 2 ^ 32)
  | 0x814 => some (s.ket.hwm / 2 ^ 32)
  | 0xA04 => some (16 * b2n (s.calPending 0) + 32 * b2n (s.calPending 1))
  | 0xC14 => some (s.specNeed % 2 ^ 16 + 65536 * s.specHave)
  | 0xD5C => some (s.capDepth % 2 ^ 32)
  | 0xE20 => some h.d0
  | 0xE24 => some h.d1
  | 0xE28 => some h.d2
  | 0xE2C => some h.d3
  | 0xE30 => some (b2n h.sat + 2 * b2n h.under + 4 * b2n h.above + 8 * b2n h.poison + 16 * b2n h.lost)
  | 0xE34 => some (min h.n (2 ^ 32 - 1))
  | 0xE38 => some (h.hseq % 2 ^ 32)
  | 0xE3C => some (min h.hndef (2 ^ 32 - 1))
  | _ => none

/-- The blocks from 0x1000 on. -/
def State.viewHigh (s : State) (off : Nat) : Option Nat :=
  match off with
  | 0x1044 => some s.rdBilCalData
  | 0x1410 => some (s.ringMask 0 (fun g => decide (g.st = .on) || decide (g.st = .halted)))
  | 0x1414 => some (s.ringMask 32 (fun g => decide (g.st = .on) || decide (g.st = .halted)))
  | 0x1418 => some (s.ringMask 0 (fun g => decide (g.st = .halted)))
  | 0x141C => some (s.ringMask 32 (fun g => decide (g.st = .halted)))
  | 0x1428 => some (s.rawWord 0x1428 / 65536 * 65536 + min s.reserveKiB 256)
  | 0x1830 => some (maskOf ((List.range 32).filter s.bankPending))
  | 0x1834 => some (maskOf ((List.range 32).filter (fun i => s.bankPending (32 + i))))
  | 0x1904 => some (s.rawWord 0x1904 % 2 ^ 13 + 2 ^ 13 * b2n s.mtest.active)
  | 0x1A04 => some (s.rawWord 0x1A04 / 2 * 2 % 256 + b2n s.nvm.running.isSome + 256 * min s.nvm.queue.length 255)
  | 0x1C24 => some (s.rawWord 0x1C24 / 65536 * 65536 + s.replayUs)
  | 0x1D00 => some s.secStat
  | 0x1D20 => some (s.sec.sessNo % 2 ^ 32)
  | 0x1D24 => some (match s.sec.session with | some x => min x.left 65535 + 65536 * min x.changes.length 65535 | none => 0)
  | 0x1D28 => some (s.sec.mcount % 2 ^ 32)
  | 0x1D2C => some (s.sec.mcount / 2 ^ 32 % 2 ^ 32)
  | 0x1D34 => some (s.sec.sigCount % 2 ^ 32)
  | 0x1D38 => some (s.chip.cert.length % 2 ^ 13)
  | 0x1D3C => some ((s.sec.owner.map Prod.fst).getD 0)
  | 0x1E20 => some ((s.ketSel.map (fun e => min e.count 65535 + 65536 * min e.c 255)).getD 0)
  | 0x1E24 => some ((s.ketSel.map (fun e => ketTrunc e.tFirst % 2 ^ 32)).getD 0)
  | 0x1E28 => some ((s.ketSel.map (fun e => e.tFirst / 2 ^ 32)).getD 0)
  | 0x1E2C => some ((s.ketSel.map (fun e => ketTrunc e.tLast % 2 ^ 32)).getD 0)
  | 0x1E30 => some ((s.ketSel.map (fun e => e.tLast / 2 ^ 32)).getD 0)
  | 0x1FC0 => some (b2n s.lastGasp + 256 * s.fab.resv.length)
  | _ => none

/-- Registers of arrays; TAU of PROF_CHn_CFG is the delay of the selected profile (Table 4-7). -/
def State.viewArray (s : State) (off : Nat) : Option Nat :=
  if 0x400 ≤ off ∧ off < 0x440 then some (s.rawWord off % 2 ^ 16 + 2 ^ 16 * profTau (s.gf (PROF_CH_CFG_PROFILE ((off - 0x400) / 4))))
  else if h : 0x1500 ≤ off ∧ off < 0x1600 then some ((s.rings[(off - 0x1500) / 4]'(by omega)).stat)
  else if 0x1880 ≤ off ∧ off < 0x1900 ∧ off % 8 = 4 then
    some ((s.cwMembers ((off - 0x1880) / 8)).length + 128 * b2n (s.cwInUse ((off - 0x1880) / 8)))
  else if 0x1D10 ≤ off ∧ off < 0x1D20 then some (keyWord s.sec.nonce ((off - 0x1D10) / 4))
  else if 0x1D40 ≤ off ∧ off < 0x1D60 then some (keyWord (beBytes 32 ((s.sec.owner.map Prod.snd).getD 0)) ((off - 0x1D40) / 4))
  else if 0x1D60 ≤ off ∧ off < 0x1DA0 then some (keyWord (pubKey s.chip.devKey) ((off - 0x1D60) / 4))
  else if 0x1F20 ≤ off ∧ off < 0x1F50 then
    some (SMap.get (fun _ => 0) s.fab.cnt (16 * s.gf ARB_SEL_TARGET + (off - 0x1F20) / 4))
  else if 0x1F90 ≤ off ∧ off < 0x1FC0 then some (s.fabBound ((off - 0x1F90) / 4))
  else none

/-- Bits of write-only fields (WO), which read 0 (R7). -/
def woBits (off : Nat) : Nat :=
  match regRow off with
  | none => 0
  | some r => ((r.fields.filter (fun f => f.acc == .wo)).map (fun f => (2 ^ f.w - 1) * 2 ^ f.lo)).sum

/-- The value of a register below 0x2000, without latches: 0 at a reserved offset (R6) and of an absent unit (R501). -/
def State.regVal (s : State) (off : Nat) : Nat :=
  if (regRow off).isNone || !s.regThere off then 0
  else
    let v := ((if off < 0x1000 then s.viewLow off else s.viewHigh off).orElse (fun _ => s.viewArray off)).getD (s.rawWord off)
    s.pairHide off (v - (v &&& woBits off))

/-! ### _LO and _HI registers (R144, R278, and the chapters that name a latch) -/

/-- _LO registers whose read latches the register after them. -/
def loRegs : List Nat := [0x048, 0x808, 0x810, 0x820, 0xD70, 0x1018, 0x1020, 0x1050, 0x1A14, 0x1C14, 0x1D28, 0x1E24, 0x1E2C, 0x1E34, 0x1E3C, 0x1E44]

/-- A read of one register through a port: a _LO register latches its _HI register, whose next read returns what was latched. -/
def State.readReg (s : State) (p : Port) (off : Nat) : Nat × State :=
  let l := SMap.get (fun _ => 0) s.latch (latchKey p off)
  if l ≠ 0 then (l - 1, { s with latch := SMap.set (fun _ => 0) s.latch (latchKey p off) 0 })
  else if loRegs.contains off then (s.regVal off, s.setLatch p (off + 4) (s.regVal (off + 4)))
  else (s.regVal off, s)

/-- A read of one DW of BAR0: a register, a doorbell, the MSI-X table or its pending bits (Table 22-1). -/
def State.readDw (s : State) (p : Port) (off : Nat) : Nat × State :=
  if off < 0x2000 then s.readReg p off
  else if h : off < 0x2200 then (if off % 8 = 0 then (s.rings[(off - 0x2000) / 8]'(by omega)).host else 0, s)
  else if h : 0x3000 ≤ off ∧ off < 0x3200 then
    let e := s.link.msix[(off - 0x3000) / 16]'(by omega)
    (match off % 16 with
     | 0 => e.addr % 2 ^ 32
     | 4 => e.addr / 2 ^ 32 % 2 ^ 32
     | 8 => e.data
     | _ => b2n e.masked, s)
  else if off = 0x3800 then (s.link.pba % 2 ^ 32, s)
  else (0, s)

/-- Read `n` DW at ascending offsets. -/
def State.readRun (p : Port) : Nat → Nat → State → List Nat × State
  | 0, _, s => ([], s)
  | n + 1, off, s =>
    let r := s.readDw p off
    let t := State.readRun p n (off + 4) r.2
    (r.1 :: t.1, t.2)

/-- The SPI target is enabled: in SPI-only mode and in the first PCIe mode (Table 2-3). -/
def State.spiOn (s : State) : Bool := decide (s.gf STRAP_MODE ≠ 1)

/-- A register read of `n` words. Through PCIe a request of one or two DW, aligned, with every byte enable set, is served, and any
other returns all ones and sets BADACC (R278). -/
def execLoRegisterRead (port : Port) (off n : Nat) (full : Bool) (s : State) : Host.Outcome State Fault Refusal :=
  .next (match port with
    | .pcie =>
      if !s.serving || s.spiOnly then s
      else if !full || off % 4 ≠ 0 || n = 0 || 2 < n || 0x4000 < off + 4 * n then
        { s.sf HOST_ERR_BADACC 1 with rdPcie := List.replicate n 0xFFFFFFFF }
      else
        let r := State.readRun .pcie n off s
        { r.2 with rdPcie := r.1 }
    | .spi =>
      if !s.spiOn then s
      else if !s.serving || off % 4 ≠ 0 || 0x2000 < off + 4 * n then { s with rdSpi := List.replicate n 0xFFFFFFFF }
      else
        let r := State.readRun .spi n off s
        { r.2 with rdSpi := r.1 })

end Sys2Proof.Machine
end

