-- ==== Sys2Proof/Machine/Regs.lean ====
section
/-! DEFINITION. Register writes: each register's own behaviour, or its fields by access type (R6, R7, R278, R493, R497, R501, R515), and
the SPI target (R297). -/

namespace Sys2Proof.Machine

/-- A write of SEC_SEAL_CFG: AGE 40 to 200 and COUNT 16 to 256, or both stay (Table 19-4). -/
def State.wrSealCfg (s : State) (p : Port) (v : Word) : State :=
  let a := v.toNat % 256
  let c := v.toNat / 65536 % 512
  s.rws p 0x1D30 v 0 (decide (a ≠ s.gf SEC_SEAL_CFG_AGE) || decide (c ≠ s.gf SEC_SEAL_CFG_COUNT)) id (fun s =>
    if 40 ≤ a ∧ a ≤ 200 ∧ 16 ≤ c ∧ c ≤ 256 then (true, s.sfs [(SEC_SEAL_CFG_AGE, a), (SEC_SEAL_CFG_COUNT, c)])
    else (false, s.sf SEC_ERR_SEAL_CFG 1))

/-- A write of TSAR_CTRL: EN bits set and cleared (R103). -/
def State.wrTsarCtrl (s : State) (v : Word) : State :=
  let en := s.gf TSAR_CTRL_EN
  let w := v.toNat % 256
  (s.tsDisable (en - (en &&& w))).tsEnable (w - (w &&& en))

/-- The blocks 0x0000 to 0x03FF: identity, clocks, analogue front end. -/
def State.wrRegs0 (s : State) (p : Port) (off : Nat) (v : Word) : State :=
  if off = 0x60 then s.wrIntStat v
  else if off = 0x64 then s.wrIntEn v
  else if off = 0x68 then s.wrIntSet v
  else if off = 0x200 then s.wrAfeRef p v
  else if 0x210 ≤ off ∧ off < 0x250 then s.wrAfeCh p ((off - 0x210) / 4) v
  else if off = 0x250 then s.wrChk v
  else s.wrPlain p off v

/-- The blocks 0x0400 to 0x09FF: profiles and thresholds, SAR converters, time and frequency. -/
def State.wrRegs1 (s : State) (p : Port) (off : Nat) (v : Word) : State :=
  if off < 0x440 then s.wrProf p ((off - 0x400) / 4) v
  else if 0x480 ≤ off ∧ off < 0x580 ∧ off % 16 ≠ 12 then s.wrThr ⟨(off - 0x480) / 16 % 16, by omega⟩ (off % 16 / 4) v
  else if off = 0x600 then s.wrSarCal v
  else if off = 0x608 then s.wrTsarCtrl v
  else if off = 0x610 then s.wrTsarMap v
  else if off = 0x614 then s.wrFast .pinCtrl v
  else if off = 0x618 then s.wrFast .pinCfg v
  else if off = 0x620 then s.wrHsarCtrl v
  else if off = 0x624 then s.wrHsarUrg v
  else if 0x6C0 ≤ off ∧ off < 0x700 then s.wrFast (if off % 8 = 0 then .lvl ⟨(off - 0x6C0) / 8 % 8, by omega⟩ else .dvdt ⟨(off - 0x6C0) / 8 % 8, by omega⟩) v
  else if 0x700 ≤ off ∧ off < 0x780 then s.wrHsarSeq ⟨(off - 0x700) / 4 % 32, by omega⟩ v
  else if off = 0x800 then s.wrTimeCtrl p v
  else if off = 0x81C then s.wrPpsOffset p v
  else if off = 0x880 then s.wrFreqCfg p 0 v
  else if off = 0x8C0 then s.wrFreqCfg p 1 v
  else s.wrPlain p off v

/-- The blocks 0x0C00 to 0x0FFF: spectral, events and capture, aggregation and statistics. -/
def State.wrRegs2 (s : State) (p : Port) (off : Nat) (v : Word) : State :=
  if off = 0xC00 then s.wrSpecCfg p 0 v
  else if off = 0xC04 then s.wrSpecCfg p 1 v
  else if off = 0xC18 then s.wrSupraCtrl p v
  else if 0xC20 ≤ off ∧ off < 0xC40 then s.wrMsv p ⟨(off - 0xC20) / 16 % 2, by omega⟩ (off % 16 / 4) v
  else if 0xC40 ≤ off ∧ off < 0xC60 then s.wrSupraScale p ⟨(off - 0xC40) / 4 % 8, by omega⟩ v
  else if 0xD40 ≤ off ∧ off < 0xD78 ∧ off ≠ 0xD6C then s.capWritable (fun s => s.wrPlain p off v)
  else if off = 0xE1C then s.wrDsel v
  else if off = 0xE20 then s.wrDesc0 v
  else if 0xE24 ≤ off ∧ off < 0xE30 then s.wrDescStage ((off - 0xE20) / 4) v
  else s.wrPlain p off v

/-- The blocks 0x1400 to 0x1FFF: rings and mailbox, banks, store, slices, security, Kettle, arbitration. -/
def State.wrRegs3 (s : State) (p : Port) (off : Nat) (v : Word) : State :=
  if off = 0x1408 then (if s.spiOnly then s else s.wrRingEnable false v)
  else if off = 0x140C then (if s.spiOnly then s else s.wrRingEnable true v)
  else if off = 0x1640 then (if v.toNat.testBit 0 then s.wrMboxGo p else s)
  else if 0x1800 ≤ off ∧ off < 0x1820 then s.wrBankOwner ((off - 0x1800) / 4) v
  else if 0x1820 ≤ off ∧ off < 0x1830 then s.wrBankPwr ((off - 0x1820) / 4) v
  else if 0x1880 ≤ off ∧ off < 0x1900 ∧ off % 8 = 0 then s.wrCwCfg ((off - 0x1880) / 8) v
  else if off = 0x1A00 then (if v.toNat.testBit 0 then s.configSave else s)
  else if off = 0x1C04 then s.wrSliceCtrl p v
  else if off = 0x1D30 then s.wrSealCfg p v
  else if 0x1E00 ≤ off ∧ off < 0x1F00 then s.wrKettle p off v
  else if off = 0x1F00 then s.wrArbCtrl v
  else if off = 0x1F04 then s.wrArbWeight true v
  else if off = 0x1F08 then s.wrArbWeight false v
  else s.wrPlain p off v

/-- A write of one register below 0x2000 through a port: reserved offsets and the registers of absent units ignore it (R6,
R501); the blocks 0x0A00 and 0x1000 wait for the end of a switch-over (R428). -/
def State.writeReg (s : State) (p : Port) (off : Nat) (v : Word) : State :=
  if (regRow off).isNone || !s.regThere off then s
  else if off < 0x400 then s.wrRegs0 p off v
  else if off < 0xA00 then s.wrRegs1 p off v
  else if off < 0xC00 then s.orDefer p off v (fun s => s.wrSliceBlock p off v)
  else if off < 0x1000 then s.wrRegs2 p off v
  else if off < 0x1400 then s.orDefer p off v (fun s => s.wrSliceBlock p off v)
  else s.wrRegs3 p off v

/-- A write of one DW of the MSI-X table (R280). -/
def State.wrMsix (s : State) (off : Nat) (v : Word) : State :=
  let k : Fin 32 := ⟨(off - 0x3000) / 16 % 32, by omega⟩
  let e := s.link.msix[k]
  let w := v.toNat
  let e := match off % 16 with
    | 0 => { e with addr := e.addr / 2 ^ 32 * 2 ^ 32 + w }
    | 4 => { e with addr := w * 2 ^ 32 + e.addr % 2 ^ 32 }
    | 8 => { e with data := w }
    | _ => { e with masked := w.testBit 0 }
  State.msixFlush { s with link := { s.link with msix := s.link.msix.set k e } }

/-- A write of one DW of BAR0 through PCIe (Table 22-1). -/
def State.writeDw (s : State) (off : Nat) (v : Word) : State :=
  if off < 0x2000 then s.writeReg .pcie off v
  else if off < 0x2200 then (if off % 8 = 0 then s.wrDoorbell ⟨(off - 0x2000) / 8 % 64, by omega⟩ v else s)
  else if 0x3000 ≤ off ∧ off < 0x3200 then s.wrMsix off v
  else s

/-- Write words at ascending offsets. -/
def writeRun (f : State → Nat → Word → State) : List Word → Nat → State → State
  | [], _, s => s
  | v :: l, off, s => writeRun f l (off + 4) (f s off v)

/-- A BAR0 write: one or two DW, aligned, with every byte enable set; any other is ignored and sets BADACC (R278). -/
def execRegisterWrite (off : Nat) (words : List Word) (full : Bool) (s : State) : Host.Outcome State Fault Refusal :=
  .next (if !s.serving || s.spiOnly then s
    else if !full || off % 4 ≠ 0 || words.isEmpty || 2 < words.length || 0x4000 < off + 4 * words.length then s.sf HOST_ERR_BADACC 1
    else writeRun State.writeDw words off s)

/-! ### SPI (R297) -/

/-- A header with a zero reserved bits and an address below 0x2000: bit 31 is the read bit, bits 13:2 the word address. -/
def spiHeaderOk (h : Word) : Bool := decide (h.toNat % 2 ^ 31 / 4 * 4 = h.toNat % 2 ^ 31) && decide (h.toNat % 2 ^ 31 < 0x2000)

/-- One word of a write frame; an offset past the ranges that SPI reaches takes none (Table 22-1). -/
def State.spiWrite (s : State) (off : Nat) (v : Word) : State := if off < 0x2000 then s.writeReg .spi off v else s

/-- The words of a read frame; past the ranges that SPI reaches they are all ones. -/
def State.spiRead : Nat → Nat → State → List Nat × State
  | 0, _, s => ([], s)
  | n + 1, off, s =>
    let r := if off < 0x2000 then s.readReg .spi off else (0xFFFFFFFF, s)
    let t := State.spiRead n (off + 4) r.2
    (r.1 :: t.1, t.2)

/-- An SPI frame: its header, its whole data words of a write, or the number of words clocked out of a read (R297). -/
def execSpiFrame (header : Word) (words : List Word) (reads : Nat) (s : State) : Host.Outcome State Fault Refusal :=
  .next (if !s.spiOn then s
    else
      let rd := header.toNat.testBit 31
      if !s.serving || !spiHeaderOk header then (if rd then { s with rdSpi := List.replicate reads 0xFFFFFFFF } else s)
      else if rd then
        let r := State.spiRead reads (header.toNat % 2 ^ 31) s
        { r.2 with rdSpi := r.1 }
      else writeRun State.spiWrite words (header.toNat % 2 ^ 31) s)

end Sys2Proof.Machine
end

