-- ==== Sys2Proof/Machine/Mailbox.lean ====
section
/-! DEFINITION. The command mailbox (R298, R299). -/

namespace Sys2Proof.Machine

/-- The 64-byte entry in MBOX_CMD0 to MBOX_CMD15. -/
def State.mboxEntry (s : State) : List Byte := (List.range 16).flatMap (fun i => leBytes 4 (s.gf (MBOX_CMD_CMD i)))

/-- The 128-byte argument block in MBOX_DATA0 to MBOX_DATA31. -/
def State.mboxBlock (s : State) : List Byte := (List.range 32).flatMap (fun i => leBytes 4 (s.gf (MBOX_DATA_DATA i)))

/-- Execute a mailbox command by its opcode (Table 12-7); it takes its block or data from MBOX_DATA in place of BUF. `ce` and `ue` are
what a NVM_READ finds in the store. -/
def State.mboxRun (s : State) (c : Cmd) (ce : Nat) (ue : List Nat) : State :=
  match leAt c.entry 0 1 with
  | 1 => s.doStart c
  | 2 => s.doStop c
  | 3 => s.doSnapshot c
  | 4 => s.doPercentile c
  | 5 => s.doArm
  | 6 => s.doForce
  | 7 => s.doNvmRead c ce ue
  | 8 => s.doNvmWrite c s.mboxBlock
  | 9 => s.doSealNow c
  | 10 => s.doSetTime c s.mboxBlock
  | 11 => s.doOpen c s.mboxBlock
  | 12 => s.doClose
  | 13 => s.doReadCert c
  | 14 => s.doTamperClear s.mboxBlock
  | 15 => s.doFullReset c
  | _ => s.finish 1 0 []

/-- The mailbox command begins: a bad CRC or argument completes BAD_ARG, an unknown opcode BAD_OPCODE, and any other executes. -/
def State.mboxBegin (s : State) (ce : Nat) (ue : List Nat) : State :=
  let c : Cmd := { entry := s.mboxEntry, via := .mailbox s.cmd.mboxPort, seq0 := s.seqs }
  let s := { s with cmd := { s.cmd with cur := some c } }
  match entryStatus c.entry true with
  | none => s.finish 2 0 []
  | some 0 => s.mboxRun c ce ue
  | some st => s.finish st 0 []

/-- A mailbox command that GO made wait executes between two ring commands; one that a condition held goes on (R298). -/
def execMailboxExecute (ce : Nat) (ue : List Nat) (s : State) : Host.Outcome State Fault Refusal :=
  .next (if !s.isReady || !s.gb MBOX_STATUS_BUSY then s
    else match s.cmd.cur with
      | some c => (match c.via with | .mailbox _ => s.mboxRun c ce ue | .ring _ => s)
      | none => if s.cmd.cpl.isSome then s else s.mboxBegin ce ue)

end Sys2Proof.Machine
end

