-- ==== Sys2Proof/Machine/Readout.lean ====
section
/-! DEFINITION. The readout of a capture (R218, R219, R311). -/

namespace Sys2Proof.Machine

/-- The capture block of a record (Table 13-4). -/
def State.capBlock (s : State) (req act : DevTime) (part fmt nsamp : Nat) : List Byte :=
  let t0 := match s.cap.trigs with | a :: _ => a.t | [] => 0
  let tr := s.cap.trigs.flatMap (fun x => leBytes 1 x.kind ++ leBytes 1 x.src ++ zeros 2 ++ leBytes 4 ((x.t - t0) * 1000000 / 2 ^ 32))
  leBytes 8 t0 ++ leBytes 8 req ++ leBytes 8 act ++ leBytes 8 s.cap.wEnd ++ leBytes 1 s.cap.trigs.length ++ leBytes 1 part ++
    leBytes 1 fmt ++ [0] ++ leBytes 4 nsamp ++ zeros 8 ++ tr ++ zeros (64 - tr.length)

/-- Runs of samples whose indices follow each other. -/
def capRuns : List CapSmp → List (List CapSmp)
  | [] => []
  | x :: l =>
    match capRuns l with
    | (y :: r) :: rs => if x.idx + 1 = y.idx then (x :: y :: r) :: rs else [x] :: (y :: r) :: rs
    | rs => [x] :: rs

/-- The time of an index of a source, and its next index. -/
def State.capTime (s : State) (src i : Nat) : DevTime :=
  if h : src < 16 then s.chT ⟨src, h⟩ i else if h : src - 16 < 8 then (s.ts ⟨src - 16, h⟩).time i else 0
def State.capNext (s : State) (src : Nat) : Nat :=
  if h : src < 16 then s.chan[src].si else if h : src - 16 < 8 then (s.ts ⟨src - 16, h⟩).idx else 0

/-- The part of a gap in [a, b): the indices whose times lie there. -/
def State.capClip (s : State) (src : Nat) (a b : DevTime) (g : Gap) : Option Gap :=
  if g.count = 0 then
    (let x := max a g.tStart
     let y := min b g.tEnd
     if x < y then some { g with tStart := x, tEnd := y } else none)
  else if g.tStart = g.tEnd then (if a ≤ g.tStart ∧ g.tStart < b then some g else none)
  else
    let n := s.capNext src
    let u := n - (n + 2 ^ 48 - g.si) % 2 ^ 48
    let l := (List.range g.count).filter (fun i => decide (a ≤ s.capTime src (u + i)) && decide (s.capTime src (u + i) < b))
    match l with
    | [] => none
    | i :: _ =>
      let k := l.length
      some { g with tStart := s.capTime src (u + i), tEnd := (if i + k = g.count then g.tEnd else s.capTime src (u + i + k)), si := (u + i) % 2 ^ 48, count := k }

/-- The gap of a source that produces nothing at the window's end (R219): of a fenced channel, of a source that was stopped or halted, or of
one that has not produced a sample since the reset. -/
def State.capSilent (s : State) (src : Nat) (b : DevTime) : List Gap :=
  let never := if s.rst.powerLoss then gapPowerLoss else gapReset
  let quiet := fun (endT : Option DevTime) (cause si : Nat) =>
    [({ cause := if endT.isSome then cause else never, tStart := endT.getD 0, tEnd := b, si := si % 2 ^ 48, count := 0 } : Gap)]
  if h : src < 16 then
    let n : Fin 16 := ⟨src, h⟩
    let ch := s.chan[n]
    let gr := s.grp[grpOf n]
    if gr.running && gr.await.isNone && gr.mask.testBit (src % 8) then
      (match ch.fen with
       | some i => [{ cause := gapFenced, tStart := s.chT n i, tEnd := s.chTEnd n i (ch.si - i), si := i % 2 ^ 48, count := ch.si - i }]
       | none => [])
    else quiet ch.endT (if s.chPresent src then ch.endCause else min gapFenced ch.endCause) ch.si
  else if h : src - 16 < 8 then
    let x := s.ts ⟨src - 16, h⟩
    if s.tsOn (src - 16) then [] else quiet (if x.used then some x.endT else none) x.cause x.idx
  else []

/-- The CAP records of one source: pieces in index order, with the gaps of the window in their places. -/
def State.capRecords (s : State) (src : Nat) (lastSrc : Bool) (req act : DevTime) (part : Nat) : List Rec :=
  let fmt := if src < 16 then 0 else 1
  let smp := s.cap.buf.filter (fun x => x.src == src && decide (act ≤ x.t) && decide (x.t < s.cap.wEnd))
  let ps := (capRuns smp).flatMap (pieces (if fmt = 0 then 2000 else 4000))
  let known := (s.cap.gaps.filter (fun g => g.1 == src)).map Prod.snd
  let gaps := ((known ++ s.capSilent src s.cap.wEnd).filterMap (s.capClip src act s.cap.wEnd)).map (gapRec clsCAP src)
  let fl := (s.cap.marks.filter (fun m => decide (act ≤ m.1) && decide (m.1 < s.cap.wEnd))).foldl (fun a m => a ||| m.2) (if part = 0 then 0 else flPartial)
  let recs := ps.zipIdx.filterMap (fun p =>
    match p.1 with
    | [] => none
    | a :: l =>
      let z := (a :: l).getLastD a
      let fin := decide (p.2 + 1 = ps.length)
      some ({ cls := clsCAP, src := src, flags := fl, tStart := a.t, tEnd := z.e, si := a.idx % 2 ^ 48,
              count := l.length + 1, aux := s.gf CAP_STAT_CAPID + 65536 * b2n fin + 131072 * b2n (fin && lastSrc),
              payload := s.capBlock req act part fmt (l.length + 1) ++ (a :: l).flatMap (fun x => leBytes (if fmt = 0 then 4 else 2) x.w) } : Rec))
  (gaps ++ recs).foldl (fun l r => insHold r l) []

/-- The actual start of the window and why it is not the requested one (R218): 1 the arm instant, 2 the oldest sample still held. -/
def State.capStart (s : State) (req : DevTime) : DevTime × Nat :=
  if s.cap.since ≤ max req s.cap.armT then (if req < s.cap.armT then (s.cap.armT, 1) else (req, 0))
  else
    match s.cap.buf.map CapSmp.t with
    | [] => (s.cap.since, 2)
    | t :: l => (max (max req s.cap.armT) (l.foldl min t), 2)

/-- The window ends: writing stops and the window is read out (R219). No CAP record is formed in a shadow span (R134). -/
def execCaptureWindowEnd (s : State) : Host.Outcome State Fault Refusal :=
  .next (if s.gf CAP_STAT_STATE = 2 then
    let t0 := match s.cap.trigs with | a :: _ => a.t | [] => 0
    let req := t0 - usTime (s.gf CAP_PRE_US)
    let (act, part) := s.capStart req
    let srcs := (List.range 24).filter s.capSel
    let full := srcs.filter (fun src => s.cap.buf.any (fun x => x.src == src && decide (act ≤ x.t) && decide (x.t < s.cap.wEnd)))
    let recs := srcs.flatMap (fun src => s.capRecords src (decide (full.getLast? = some src)) req act part)
    let s := s.sf CAP_STAT_STATE 3
    if s.gb TIME_STATUS_SHADOW then s else s.emits recs
  else s)

end Sys2Proof.Machine
end

