-- ==== Sys2Proof/Machine/Dispatch.lean ====
section
/-! DEFINITION. The dispatch of a command to its meaning: one arm for each constructor. -/

namespace Sys2Proof.Machine

def exec (i : Instr) (s : State) : Host.Outcome State Fault Refusal :=
  match i with
  | .powerOnReset ns => Sys2Proof.Machine.execPowerOnReset ns s
  | .porSuppliesSettled => Sys2Proof.Machine.execPorSuppliesSettled s
  | .resetNAssert ns => Sys2Proof.Machine.execResetNAssert ns s
  | .perstNAssert ns => Sys2Proof.Machine.execPerstNAssert ns s
  | .hotReset => Sys2Proof.Machine.execHotReset s
  | .fullResetSaveDone => Sys2Proof.Machine.execFullResetSaveDone s
  | .resetRelease straps => Sys2Proof.Machine.execResetRelease straps s
  | .startupReady t badBanks badLanes => Sys2Proof.Machine.execStartupReady t badBanks badLanes s
  | .pfiRegister ns => Sys2Proof.Machine.execPfiRegister ns s
  | .lastGaspSaveDone => Sys2Proof.Machine.execLastGaspSaveDone s
  | .pfiReleaseRestart => Sys2Proof.Machine.execPfiReleaseRestart s
  | .refclkStop => Sys2Proof.Machine.execRefclkStop s
  | .corePllRelock => Sys2Proof.Machine.execCorePllRelock s
  | .decimatorOutputSample g xs vref => Sys2Proof.Machine.execDecimatorOutputSample g xs vref s
  | .coreStallGapRecord n => Sys2Proof.Machine.execCoreStallGapRecord n s
  | .firstSampleDelivered g xs vref => Sys2Proof.Machine.execFirstSampleDelivered g xs vref s
  | .stuckModulatorFence n => Sys2Proof.Machine.execStuckModulatorFence n s
  | .thresholdAssert n low => Sys2Proof.Machine.execThresholdAssert n low s
  | .thresholdDeassert n low => Sys2Proof.Machine.execThresholdDeassert n low s
  | .thresholdRegWrite n r value => Sys2Proof.Machine.execThresholdRegWrite n r value s
  | .afeChCfgWrite port n value => Sys2Proof.Machine.execAfeChCfgWrite port n value s
  | .afeRefSelWrite port value => Sys2Proof.Machine.execAfeRefSelWrite port value s
  | .refReady => Sys2Proof.Machine.execRefReady s
  | .afeCheckGo value => Sys2Proof.Machine.execAfeCheckGo value s
  | .checkSelectorMove codes => Sys2Proof.Machine.execCheckSelectorMove codes s
  | .afeCheckDone codes => Sys2Proof.Machine.execAfeCheckDone codes s
  | .profCfgWrite port n value => Sys2Proof.Machine.execProfCfgWrite port n value s
  | .start => Sys2Proof.Machine.execStart s
  | .stop => Sys2Proof.Machine.execStop s
  | .tsarEnable pairs => Sys2Proof.Machine.execTsarEnable pairs s
  | .tsarPairStart n t x => Sys2Proof.Machine.execTsarPairStart n t x s
  | .tsarDisable pairs => Sys2Proof.Machine.execTsarDisable pairs s
  | .tsarPairStop n => Sys2Proof.Machine.execTsarPairStop n s
  | .transientSample n x => Sys2Proof.Machine.execTransientSample n x s
  | .fastevtHoldExpire m => Sys2Proof.Machine.execFastevtHoldExpire m s
  | .transientAnchorLatch n t => Sys2Proof.Machine.execTransientAnchorLatch n t s
  | .tsarMapWrite value => Sys2Proof.Machine.execTsarMapWrite value s
  | .sarcalGo value => Sys2Proof.Machine.execSarcalGo value s
  | .sarcalDone pairs house temp => Sys2Proof.Machine.execSarcalDone pairs house temp s
  | .hsarPassTick => Sys2Proof.Machine.execHsarPassTick s
  | .hsarConversionDone value => Sys2Proof.Machine.execHsarConversionDone value s
  | .hsarFilterPublish k => Sys2Proof.Machine.execHsarFilterPublish k s
  | .hsarUrgentGo value => Sys2Proof.Machine.execHsarUrgentGo value s
  | .hsarUrgentDone value => Sys2Proof.Machine.execHsarUrgentDone value s
  | .hsarSeqWrite k value => Sys2Proof.Machine.execHsarSeqWrite k value s
  | .ppsEdge t => Sys2Proof.Machine.execPpsEdge t s
  | .slewEnd => Sys2Proof.Machine.execSlewEnd s
  | .holdoverEntry => Sys2Proof.Machine.execHoldoverEntry s
  | .setTimeNow block => Sys2Proof.Machine.execSetTimeNow block s
  | .setTimeAtPps block => Sys2Proof.Machine.execSetTimeAtPps block s
  | .atPpsTimeout => Sys2Proof.Machine.execAtPpsTimeout s
  | .setTimeOffset block => Sys2Proof.Machine.execSetTimeOffset block s
  | .setTimeLeap block => Sys2Proof.Machine.execSetTimeLeap block s
  | .shadowSpanEnd => Sys2Proof.Machine.execShadowSpanEnd s
  | .leapSecond => Sys2Proof.Machine.execLeapSecond s
  | .xoHalt => Sys2Proof.Machine.execXoHalt s
  | .xoResume => Sys2Proof.Machine.execXoResume s
  | .haltTimeReload cycles => Sys2Proof.Machine.execHaltTimeReload cycles s
  | .tpllUnlock => Sys2Proof.Machine.execTpllUnlock s
  | .tpllRelock => Sys2Proof.Machine.execTpllRelock s
  | .cycleBoundary g t rot amp freq => Sys2Proof.Machine.execCycleBoundary g t rot amp freq s
  | .halfCycleBoundary g t => Sys2Proof.Machine.execHalfCycleBoundary g t s
  | .freq10sClose g => Sys2Proof.Machine.execFreq10sClose g s
  | .resamplerWindowEnd g t pts => Sys2Proof.Machine.execResamplerWindowEnd g t pts s
  | .tenMinTick => Sys2Proof.Machine.execTenMinTick s
  | .accumulationStepClose g => Sys2Proof.Machine.execAccumulationStepClose g s
  | .cycleIntervalClose g => Sys2Proof.Machine.execCycleIntervalClose g s
  | .statIncrementApply => Sys2Proof.Machine.execStatIncrementApply s
  | .statQueueDrained => Sys2Proof.Machine.execStatQueueDrained s
  | .statDselWrite value => Sys2Proof.Machine.execStatDselWrite value s
  | .statDescCommit value => Sys2Proof.Machine.execStatDescCommit value s
  | .snapshotStats => Sys2Proof.Machine.execSnapshotStats s
  | .percentile => Sys2Proof.Machine.execPercentile s
  | .harmRecordComplete g => Sys2Proof.Machine.execHarmRecordComplete g s
  | .supraRecordComplete n xs => Sys2Proof.Machine.execSupraRecordComplete n xs s
  | .flickerSettleEnd g => Sys2Proof.Machine.execFlickerSettleEnd g s
  | .transientRecord => Sys2Proof.Machine.execTransientRecord s
  | .tburstRecord n => Sys2Proof.Machine.execTburstRecord n s
  | .captureArm => Sys2Proof.Machine.execCaptureArm s
  | .captureForce => Sys2Proof.Machine.execCaptureForce s
  | .captureWindowEnd => Sys2Proof.Machine.execCaptureWindowEnd s
  | .captureReadoutDone => Sys2Proof.Machine.execCaptureReadoutDone s
  | .metEselLatch value => Sys2Proof.Machine.execMetEselLatch value s
  | .energyClear port value => Sys2Proof.Machine.execEnergyClear port value s
  | .calConstantWrite port n r value => Sys2Proof.Machine.execCalConstantWrite port n r value s
  | .calCommit port value => Sys2Proof.Machine.execCalCommit port value s
  | .calCommitApply g => Sys2Proof.Machine.execCalCommitApply g s
  | .cfCfgWrite port m const value => Sys2Proof.Machine.execCfCfgWrite port m const value s
  | .cfPulse m => Sys2Proof.Machine.execCfPulse m s
  | .cfPulseEnd m => Sys2Proof.Machine.execCfPulseEnd m s
  | .tariffClear port value => Sys2Proof.Machine.execTariffClear port value s
  | .billingCloseRequest port value => Sys2Proof.Machine.execBillingCloseRequest port value s
  | .calendarWordWrite port value => Sys2Proof.Machine.execCalendarWordWrite port value s
  | .calendarCommit port value => Sys2Proof.Machine.execCalendarCommit port value s
  | .bilSelLatch value => Sys2Proof.Machine.execBilSelLatch value s
  | .linkTrained x2 gen2 => Sys2Proof.Machine.execLinkTrained x2 gen2 s
  | .linkDown => Sys2Proof.Machine.execLinkDown s
  | .linkServiceChange bme d0 pmeEn clrPme => Sys2Proof.Machine.execLinkServiceChange bme d0 pmeEn clrPme s
  | .registerWrite off words full => Sys2Proof.Machine.execRegisterWrite off words full s
  | .loRegisterRead port off n full => Sys2Proof.Machine.execLoRegisterRead port off n full s
  | .bar2Read off n ecc dc => Sys2Proof.Machine.execBar2Read off n ecc dc s
  | .bar2Write off bytes be dc => Sys2Proof.Machine.execBar2Write off bytes be dc s
  | .ringEnable port hi mask => Sys2Proof.Machine.execRingEnable port hi mask s
  | .ringEntryReadDone n res => Sys2Proof.Machine.execRingEntryReadDone n res s
  | .doorbell n index => Sys2Proof.Machine.execDoorbell n index s
  | .writeBack n => Sys2Proof.Machine.execWriteBack n s
  | .ringInterruptTimer n => Sys2Proof.Machine.execRingInterruptTimer n s
  | .commandFetch entry => Sys2Proof.Machine.execCommandFetch entry s
  | .dmaReadTimeout what how => Sys2Proof.Machine.execDmaReadTimeout what how s
  | .nvmRead ce ue => Sys2Proof.Machine.execNvmRead ce ue s
  | .nvmWrite data => Sys2Proof.Machine.execNvmWrite data s
  | .sealNow => Sys2Proof.Machine.execSealNow s
  | .openSealSession block => Sys2Proof.Machine.execOpenSealSession block s
  | .ownerInstall block => Sys2Proof.Machine.execOwnerInstall block s
  | .closeSealSession => Sys2Proof.Machine.execCloseSealSession s
  | .sessionTimeout => Sys2Proof.Machine.execSessionTimeout s
  | .readCert => Sys2Proof.Machine.execReadCert s
  | .tamperClear block => Sys2Proof.Machine.execTamperClear block s
  | .fullReset => Sys2Proof.Machine.execFullReset s
  | .spiFrame header words reads => Sys2Proof.Machine.execSpiFrame header words reads s
  | .mailboxGo port => Sys2Proof.Machine.execMailboxGo port s
  | .mailboxExecute ce ue => Sys2Proof.Machine.execMailboxExecute ce ue s
  | .fabricAccessComplete reqs ecc word hits => Sys2Proof.Machine.execFabricAccessComplete reqs ecc word hits s
  | .requestAgeRise m => Sys2Proof.Machine.execRequestAgeRise m s
  | .masterWedged m => Sys2Proof.Machine.execMasterWedged m s
  | .watchdogReset => Sys2Proof.Machine.execWatchdogReset s
  | .arbWeightWrite rt value => Sys2Proof.Machine.execArbWeightWrite rt value s
  | .arbCounterClear cntEn => Sys2Proof.Machine.execArbCounterClear cntEn s
  | .arbLatencyClear cntEn => Sys2Proof.Machine.execArbLatencyClear cntEn s
  | .sliceCheckpoint => Sys2Proof.Machine.execSliceCheckpoint s
  | .sliceMismatch port group missing => Sys2Proof.Machine.execSliceMismatch port group missing s
  | .sliceStall group => Sys2Proof.Machine.execSliceStall group s
  | .caddyLoaded => Sys2Proof.Machine.execCaddyLoaded s
  | .caddyLoadTimeout => Sys2Proof.Machine.execCaddyLoadTimeout s
  | .sliceSelftestDone pass => Sys2Proof.Machine.execSliceSelftestDone pass s
  | .switchoverEnd gapUs backlogUs => Sys2Proof.Machine.execSwitchoverEnd gapUs backlogUs s
  | .sliceTrialRequest port value => Sys2Proof.Machine.execSliceTrialRequest port value s
  | .bankHandover k value => Sys2Proof.Machine.execBankHandover k value s
  | .bankHandoverComplete b => Sys2Proof.Machine.execBankHandoverComplete b s
  | .bankPowerChange k value => Sys2Proof.Machine.execBankPowerChange k value s
  | .bankPowerChangeComplete b => Sys2Proof.Machine.execBankPowerChangeComplete b s
  | .windowConfigWrite n value => Sys2Proof.Machine.execWindowConfigWrite n value s
  | .mtestRegionStart => Sys2Proof.Machine.execMtestRegionStart s
  | .mtestStep fail => Sys2Proof.Machine.execMtestStep fail s
  | .mtestRegionTimeout => Sys2Proof.Machine.execMtestRegionTimeout s
  | .abpWrite addr be data dc => Sys2Proof.Machine.execAbpWrite addr be data dc s
  | .abpRead addr be ecc dc => Sys2Proof.Machine.execAbpRead addr be ecc dc s
  | .abpAccessComplete => Sys2Proof.Machine.execAbpAccessComplete s
  | .nvmWriteOpDone fail => Sys2Proof.Machine.execNvmWriteOpDone fail s
  | .energyCheckpoint => Sys2Proof.Machine.execEnergyCheckpoint s
  | .configSave => Sys2Proof.Machine.execConfigSave s
  | .trngReady => Sys2Proof.Machine.execTrngReady s
  | .trngHealthFail => Sys2Proof.Machine.execTrngHealthFail s
  | .sealAgeTimer n => Sys2Proof.Machine.execSealAgeTimer n s
  | .sealSigned => Sys2Proof.Machine.execSealSigned s
  | .jtagSecchal => Sys2Proof.Machine.execJtagSecchal s
  | .debugConsent block => Sys2Proof.Machine.execDebugConsent block s
  | .debugUnlock block key => Sys2Proof.Machine.execDebugUnlock block key s
  | .mainPowerLoss cycles => Sys2Proof.Machine.execMainPowerLoss cycles s
  | .mainPowerRestore cycles => Sys2Proof.Machine.execMainPowerRestore cycles s
  | .kettleColdStart => Sys2Proof.Machine.execKettleColdStart s
  | .kettleOffsetRefresh cycles => Sys2Proof.Machine.execKettleOffsetRefresh cycles s
  | .kettleRateMeasure counts => Sys2Proof.Machine.execKettleRateMeasure counts s
  | .tamperSwitchSample isOpen cycles => Sys2Proof.Machine.execTamperSwitchSample isOpen cycles s
  | .tamperLoopSample k level cycles => Sys2Proof.Machine.execTamperLoopSample k level cycles s
  | .kettleEnvMeasure temp millivolts cycles => Sys2Proof.Machine.execKettleEnvMeasure temp millivolts cycles s
  | .alarmPulseEnd => Sys2Proof.Machine.execAlarmPulseEnd s
  | .kettleWrite port off value => Sys2Proof.Machine.execKettleWrite port off value s
  | .kettleWriteComplete cycles => Sys2Proof.Machine.execKettleWriteComplete cycles s
  | .kettleAsenseWrite value => Sys2Proof.Machine.execKettleAsenseWrite value s
  | .kettleBistGo mask => Sys2Proof.Machine.execKettleBistGo mask s
  | .kettleBistDone cycles => Sys2Proof.Machine.execKettleBistDone cycles s
  | .intStatClear value => Sys2Proof.Machine.execIntStatClear value s
  | .intEnWrite value => Sys2Proof.Machine.execIntEnWrite value s
  | .intSet value => Sys2Proof.Machine.execIntSet value s
  | .metaPllUnlock => Sys2Proof.Machine.execMetaPllUnlock s
  | .corePllUnlock => Sys2Proof.Machine.execCorePllUnlock s
  | .linkL1Transition enter => Sys2Proof.Machine.execLinkL1Transition enter s
  | .fastComparatorWrite r value => Sys2Proof.Machine.execFastComparatorWrite r value s
  | .timeCtrlWrite port value => Sys2Proof.Machine.execTimeCtrlWrite port value s
  | .msiXMaskChange en fmask v addr data masked => Sys2Proof.Machine.execMsiXMaskChange en fmask v addr data masked s
  | .jtagInstructionLoad ir => Sys2Proof.Machine.execJtagInstructionLoad ir s

end Sys2Proof.Machine
end

