-- ==== Sys2Proof/Machine/Idle.lean ====
section
/-! DEFINITION. What happens when no command waits: a META cycle passes (R124, log entry 2). -/

namespace Sys2Proof.Machine

/-- Device time runs: the stored time has been loaded since the release, and no halt is in force (R124, R142). -/
def State.timeRuns (s : State) : Bool :=
  (s.serving || (decide (s.rst.phase = .startup) && s.rst.loaded)) && !s.time.frozen

/-- One META cycle: device time advances by I (R124), TIME_HWM follows it (R134), and a calendar may activate (R256). -/
def State.idle (s : State) : State := if s.timeRuns then (s.timeTo (s.time.t + s.inc)).calReach else s

end Sys2Proof.Machine
end

