-- ==== Sys2Proof/Safety.lean ====
section
/-! DEFINITION. What a safe run of the block is, in the terms that statements use: the canonical form of what the state
lists, and what one step may and may not change whatever the command is. -/

namespace Sys2Proof.Machine

/-- The canonical form of the state: register fields, bank memory and the non-volatile store are listed with rising keys
and no entry at its default, so that equal contents are equal data. -/
def State.Canonical (s : State) : Prop :=
  SMap.wf fldReset s.regs = true ∧ Memory.wf s.mem = true ∧ Memory.wf s.nvm.bytes = true

/-! ### Parts of the state -/

/-- A part of the state other than its registers. -/
inductive StatePart where
  /-- reset and start-up -/
  | rst
  /-- what persists through resets -/
  | persist
  /-- HI latches (R278) -/
  | latch
  /-- the words last read through PCIe -/
  | rdPcie
  /-- the words last read through SPI -/
  | rdSpi
  /-- LOG records held (R285) -/
  | heldLog
  /-- SEC records held (R285) -/
  | heldSec
  /-- the command unit -/
  | cmd
  /-- the records formed -/
  | formed
  /-- the DMA writes -/
  | out
  /-- first samples -/
  | first
  /-- open intervals -/
  | openT
  /-- the fabric -/
  | fab
  /-- bank memory -/
  | mem
  /-- pending bank changes -/
  | bankPend
  /-- the memory test -/
  | mtest
  /-- the aux port -/
  | abp
  /-- the channel check -/
  | chk
  /-- the capture engine -/
  | cap
  /-- metrology -/
  | met
  /-- the statistics engine -/
  | stat
  /-- supraharmonic inputs -/
  | supraOn
  /-- billing -/
  | bil
  /-- calendar images -/
  | cals
  /-- BIL records that wait for the journal -/
  | bilOut
  /-- BIL records saved -/
  | bilSaved
  /-- deferred writes -/
  | deferW
  /-- the converters of chapter 5 -/
  | sar
  /-- the slices -/
  | slc
  /-- the counter of free values -/
  | free
  /-- the phase between reset and operation (R479) -/
  | phase
  /-- the rings -/
  | rings
  /-- the rings' settings, read from their table entries (R282) -/
  | ringCfg
  /-- which rings are on, halted or refused (R284) -/
  | ringSt
  /-- the link and the interrupt vectors (R270 to R281) -/
  | link
  /-- pending vectors (R280) -/
  | pba
  /-- the store's queue, slots and sequence numbers -/
  | nvm
  /-- archive entries that wait (R406) -/
  | arch
  /-- the store's bytes -/
  | nvmBytes
  /-- seals, counters and the JTAG port -/
  | sec
  /-- the owner's key (R438) -/
  | owner
  /-- the debug fuse (R456) -/
  | dbg
  /-- the zeroised device key (R452) -/
  | zeroised
  /-- the seal session (R439) -/
  | session
  /-- the nonce (R437) -/
  | nonce
  /-- the Kettle domain -/
  | ket
  /-- TIME_HWM, which does not fall (R134) -/
  | hwm
  /-- slewing, edges and halts -/
  | time
  /-- device time -/
  | devTime
  /-- the groups -/
  | grp
  /-- which groups run, and what START sampled for them (R294) -/
  | grpRun
  /-- the group SIs (R18) -/
  | grpSi
  /-- the channels -/
  | chan
  /-- the channel SIs (R9) -/
  | chanSi
  deriving DecidableEq, Repr

/-- What START sampled for a group and whether it runs (R294). -/
def Grp.production (g : Grp) : Bool × Bool × Bool × Nat × Nat × List Nat × Nat × Nat × Nat :=
  (g.running, g.monitor, g.started, g.mask, g.lead, g.prof, g.fnom, g.ref, g.smode)

/-- A ring's settings, read from its table entry (Table 12-3). -/
def Ring.settings (r : Ring) : List Nat × Bool := ([r.cls, r.base, r.wb, r.log2, r.vec, r.param, r.mod, r.tmo], r.irq)

/-- Whether a ring is off, on, halted or refused, its error, and whether an enable request waits (R284). -/
def Ring.standing (r : Ring) : RingState × Nat × Bool := (r.st, r.err, r.waiting)

/-- The part is the same in both states (TIME_HWM: is not lower). -/
def StatePart.same : StatePart → State → State → Prop
  | .rst, s, t => t.rst = s.rst
  | .persist, s, t => t.persist = s.persist
  | .latch, s, t => t.latch = s.latch
  | .rdPcie, s, t => t.rdPcie = s.rdPcie
  | .rdSpi, s, t => t.rdSpi = s.rdSpi
  | .heldLog, s, t => t.heldLog = s.heldLog
  | .heldSec, s, t => t.heldSec = s.heldSec
  | .cmd, s, t => t.cmd = s.cmd
  | .formed, s, t => t.formed = s.formed
  | .out, s, t => t.out = s.out
  | .first, s, t => t.first = s.first
  | .openT, s, t => t.openT = s.openT
  | .fab, s, t => t.fab = s.fab
  | .mem, s, t => t.mem = s.mem
  | .bankPend, s, t => t.bankPend = s.bankPend
  | .mtest, s, t => t.mtest = s.mtest
  | .abp, s, t => t.abp = s.abp
  | .chk, s, t => t.chk = s.chk
  | .cap, s, t => t.cap = s.cap
  | .met, s, t => t.met = s.met
  | .stat, s, t => t.stat = s.stat
  | .supraOn, s, t => t.supraOn = s.supraOn
  | .bil, s, t => t.bil = s.bil
  | .cals, s, t => t.cals = s.cals
  | .bilOut, s, t => t.bilOut = s.bilOut
  | .bilSaved, s, t => t.bilSaved = s.bilSaved
  | .deferW, s, t => t.deferW = s.deferW
  | .sar, s, t => t.sar = s.sar
  | .slc, s, t => t.slc = s.slc
  | .free, s, t => t.free = s.free
  | .phase, s, t => t.rst.phase = s.rst.phase
  | .rings, s, t => t.rings = s.rings
  | .ringCfg, s, t => ∀ n : Fin 64, (t.rings[n]).settings = (s.rings[n]).settings
  | .ringSt, s, t => ∀ n : Fin 64, (t.rings[n]).standing = (s.rings[n]).standing
  | .link, s, t => { t.link with pba := 0 } = { s.link with pba := 0 }
  | .pba, s, t => t.link.pba = s.link.pba
  | .nvm, s, t => { t.nvm with arch := [], bytes := [] } = { s.nvm with arch := [], bytes := [] }
  | .arch, s, t => t.nvm.arch = s.nvm.arch
  | .nvmBytes, s, t => t.nvm.bytes = s.nvm.bytes
  | .sec, s, t => { t.sec with owner := none, dbg := false, zeroised := false, session := none, nonce := [] } = { s.sec with owner := none, dbg := false, zeroised := false, session := none, nonce := [] }
  | .owner, s, t => t.sec.owner = s.sec.owner
  | .dbg, s, t => t.sec.dbg = s.sec.dbg
  | .zeroised, s, t => t.sec.zeroised = s.sec.zeroised
  | .session, s, t => t.sec.session = s.sec.session
  | .nonce, s, t => t.sec.nonce = s.sec.nonce
  | .ket, s, t => { t.ket with hwm := 0 } = { s.ket with hwm := 0 }
  | .hwm, s, t => s.ket.hwm ≤ t.ket.hwm
  | .time, s, t => { t.time with t := 0 } = { s.time with t := 0 }
  | .devTime, s, t => t.time.t = s.time.t
  | .grp, s, t => t.grp = s.grp
  | .grpRun, s, t => ∀ g : Fin 2, (t.grp[g]).production = (s.grp[g]).production
  | .grpSi, s, t => ∀ g : Fin 2, (t.grp[g]).si = (s.grp[g]).si
  | .chan, s, t => t.chan = s.chan
  | .chanSi, s, t => ∀ n : Fin 16, (t.chan[n]).si = (s.chan[n]).si

/-- A group of registers. -/
inductive RegGroup where
  /-- ID, CAPS and FUSE -/
  | id
  /-- FENCE -/
  | fence
  /-- RST -/
  | rst
  /-- STRAP, ID_MAGIC -/
  | strap
  /-- INT_STAT -/
  | intStat
  /-- INT_EN, INT_SET -/
  | intEn
  /-- SCRATCH -/
  | scratch
  /-- ERR_CE, ERR_UE, ERR_INTEG -/
  | err
  /-- ERR_DROP, ERR_SUMM -/
  | errRing
  /-- WDOG_CTRL -/
  | wdogCtrl
  /-- WDOG_STAT -/
  | wdogStat
  /-- CLK -/
  | clk
  /-- AFE_REF -/
  | afeRef
  /-- AFE_STATUS -/
  | afeStatus
  /-- AFE_ERR -/
  | afeErr
  /-- AFE_CHn_CFG -/
  | afeCfg
  /-- AFE_CHK -/
  | afeChk
  /-- PROF_CHn_CFG -/
  | profCfg
  /-- PROF_GRP_STATUS -/
  | profStat
  /-- PROF_ERR -/
  | profErr
  /-- THR -/
  | thr
  /-- EVT_PIN_MASKn -/
  | evtPinMask
  /-- EVT_PIN_CTRL -/
  | evtPin
  /-- SAR_CAL -/
  | sarCal
  /-- TSAR_CTRL -/
  | tsarCtrl
  /-- TSAR_ERR -/
  | tsarErr
  /-- TSAR_MAP -/
  | tsarMap
  /-- FAST_PIN, FAST_DROP -/
  | fastPin
  /-- HSAR_SEQ_CTRL, HSAR_URG, HSAR_PFI, HSAR_CAL -/
  | hsar
  /-- TSAR_CAL, TSAR_SKEW -/
  | tsarCal
  /-- FAST_LVLn, FAST_DVDTn -/
  | fast
  /-- HSAR_SEQi -/
  | hsarSeq
  /-- HSAR_RESi -/
  | hsarRes
  /-- TIME_CTRL -/
  | timeCtrl
  /-- TIME_STATUS to TIME_HWM -/
  | timeStat
  /-- TIME_ADJ -/
  | timeAdj
  /-- PPS_OFFSET -/
  | ppsOfs
  /-- PPS_LAST, PPS_ERR, PPS_CNT -/
  | pps
  /-- LEAP -/
  | leap
  /-- HALT -/
  | halt
  /-- FREQ, RSMP -/
  | freq
  /-- MET_CTRL, CAL_CTRL, CAL_ID, MET_ERR -/
  | metCtrl
  /-- MET_STAT -/
  | metStat
  /-- MET_CREEP -/
  | metCreep
  /-- MET_ESEL, MET_EVAL -/
  | metEsel
  /-- CF -/
  | cf
  /-- CAL -/
  | cal
  /-- SPEC_CFG -/
  | specCfg
  /-- SPEC_STAT -/
  | specStat
  /-- SPEC_ERR, SPEC_MEM -/
  | specErr
  /-- SUPRA, MSV -/
  | supra
  /-- EVT thresholds -/
  | evtCfg
  /-- EVT_STAT -/
  | evtStat
  /-- EVT_ERR -/
  | evtErr
  /-- TRN_CFG -/
  | trnCfg
  /-- CAP settings -/
  | capCfg
  /-- CAP_STAT and results -/
  | capStat
  /-- AGG_CTRL -/
  | aggCtrl
  /-- AGG_STAT, AGG_QMAX -/
  | aggStat
  /-- STAT_CTRL, STAT_LOAD, STAT_ERR -/
  | statCtrl
  /-- STAT_DSEL, STAT_DESC -/
  | statDesc
  /-- STAT_HSTAT, STAT_HN, STAT_HSEQ, STAT_HNDEF -/
  | statHist
  /-- STAT_LASTSEQ -/
  | statSeq
  /-- STAT_BANKMAP, STAT_SPARE -/
  | bankMap
  /-- BIL_CTRL -/
  | bilCtrl
  /-- BIL_CFG -/
  | bilCfg
  /-- BIL_STAT, BIL_DONE -/
  | bilStat
  /-- BIL_ERR -/
  | bilErr
  /-- BIL_CAL, BIL_PCAL -/
  | bilCal
  /-- BIL_SEL, BIL_VAL -/
  | bilSel
  /-- BIL_SNAP -/
  | bilSnap
  /-- RING_TABLE_BASE to RING_HALT -/
  | ring
  /-- LINK_STAT -/
  | linkStat
  /-- DMA_CFG -/
  | dma
  /-- RESERVE_STAT -/
  | reserve
  /-- HOST_ERR -/
  | hostErr
  /-- RING_STATn -/
  | ringStat
  /-- MBOX_CMD, MBOX_CTRL -/
  | mboxCmd
  /-- MBOX_STATUS, MBOX_DETAIL, MBOX_DATA -/
  | mbox
  /-- BANK_OWNER -/
  | bankOwner
  /-- BANK_PWR -/
  | bankPwr
  /-- BANK_PEND, BANK_ERR -/
  | bankErr
  /-- CW -/
  | cw
  /-- MTEST -/
  | mtest
  /-- ABP_CFG, ABP_MAP -/
  | abpCfg
  /-- ABP_ERR, ABP_COLL, ABP_MISS_ADDR -/
  | abpErr
  /-- NVM -/
  | nvm
  /-- SLICE -/
  | slice
  /-- SEC_STAT to SEC_MCOUNT -/
  | sec
  /-- SEC_SEAL_CFG -/
  | sealCfg
  /-- SEC_SIGCNT, certificate and keys -/
  | secKeys
  /-- KET_STAT, KET_FLAGS -/
  | ketStat
  /-- KET_SWCFG to KET_TRIM -/
  | ketCfg
  /-- KET_RATE to KET_PCNT -/
  | ketView
  /-- KET_BIST -/
  | ketBist
  /-- KET_ASENSE -/
  | ketAsense
  /-- KET_SRCk -/
  | ketSrc
  /-- ARB_CTRL, ARB_WEIGHT, ARB_ERR, ARB_SEL -/
  | arbCfg
  /-- ARB_CNT, ARB_LAT, ARB_BOUND, ARB_STAT -/
  | arbCnt
  deriving DecidableEq, Repr

/-- Where the groups begin in the register map (Table 22-3). -/
def regCuts : List (Nat × RegGroup) := [
  (0x0030, .fence), (0x0040, .rst), (0x0058, .strap), (0x0060, .intStat), (0x0064, .intEn),
  (0x006C, .scratch), (0x0080, .err), (0x0094, .errRing), (0x009C, .wdogCtrl), (0x00A0, .wdogStat),
  (0x0100, .clk), (0x0200, .afeRef), (0x0204, .afeStatus), (0x0208, .afeErr), (0x0210, .afeCfg),
  (0x0250, .afeChk), (0x0400, .profCfg), (0x0440, .profStat), (0x0444, .profErr), (0x0480, .thr),
  (0x0580, .evtPinMask), (0x0590, .evtPin), (0x0600, .sarCal), (0x0608, .tsarCtrl), (0x060C, .tsarErr),
  (0x0610, .tsarMap), (0x0614, .fastPin), (0x0620, .hsar), (0x0640, .tsarCal), (0x06C0, .fast),
  (0x0700, .hsarSeq), (0x0780, .hsarRes), (0x0800, .timeCtrl), (0x0804, .timeStat), (0x0818, .timeAdj),
  (0x081C, .ppsOfs), (0x0820, .pps), (0x0830, .leap), (0x0838, .halt), (0x0880, .freq),
  (0x0A00, .metCtrl), (0x0A10, .metStat), (0x0A18, .metCreep), (0x0A20, .metEsel), (0x0A60, .cf),
  (0x0B00, .cal), (0x0C00, .specCfg), (0x0C08, .specStat), (0x0C10, .specErr), (0x0C18, .supra),
  (0x0D00, .evtCfg), (0x0D28, .evtStat), (0x0D30, .evtErr), (0x0D34, .trnCfg), (0x0D40, .capCfg),
  (0x0D60, .capStat), (0x0E00, .aggCtrl), (0x0E04, .aggStat), (0x0E10, .statCtrl), (0x0E1C, .statDesc),
  (0x0E30, .statHist), (0x0E40, .statSeq), (0x0E50, .bankMap), (0x1000, .bilCtrl), (0x1008, .bilCfg),
  (0x1010, .bilStat), (0x1028, .bilErr), (0x1040, .bilCal), (0x1060, .bilSel), (0x1080, .bilSnap),
  (0x1400, .ring), (0x1420, .linkStat), (0x1424, .dma), (0x1428, .reserve), (0x142C, .hostErr),
  (0x1500, .ringStat), (0x1600, .mboxCmd), (0x1644, .mbox), (0x1800, .bankOwner), (0x1820, .bankPwr),
  (0x1830, .bankErr), (0x1880, .cw), (0x1900, .mtest), (0x1940, .abpCfg), (0x1954, .abpErr),
  (0x1A00, .nvm), (0x1C00, .slice), (0x1D00, .sec), (0x1D30, .sealCfg), (0x1D34, .secKeys),
  (0x1E00, .ketStat), (0x1E08, .ketCfg), (0x1E18, .ketView), (0x1E50, .ketBist), (0x1E58, .ketAsense),
  (0x1E80, .ketSrc), (0x1F00, .arbCfg), (0x1F20, .arbCnt)]

/-- The group of an offset, given the group of what lies before a list of cuts. -/
def groupFrom (off : Nat) (g : RegGroup) : List (Nat × RegGroup) → RegGroup
  | [] => g
  | (a, h) :: l => if off < a then g else groupFrom off h l

/-- The group of a register offset. -/
def regGroup (off : Nat) : RegGroup := groupFrom off .id regCuts

/-- The seals counted, with the one in signing (R447). -/
def Sec.reserved (c : Sec) : Nat := c.mcount + b2n c.signing.isSome

/-- The second state differs from the first in no part but the named ones, and in no register but those of the named groups. -/
structure State.Within (ps : List StatePart) (rs : List RegGroup) (s t : State) : Prop where
  part : ∀ p : StatePart, p ∉ ps → p.same s t
  reg : ∀ f : Fld, f.lo < 32 → regGroup f.off ∉ rs → t.gf f = s.gf f

/-- What holds between the state before a command and the state after it, when the command may change only the parts and
register groups whose bits are set in `w`: bit i stands for the i-th part, bit 64 + i for the i-th register group. -/
structure State.Keeps (w : Nat) (s t : State) : Prop where
  /-- the queue of the commands that wait is left alone -/
  pending : t.pending = s.pending
  /-- what manufacture fixed stays: part, UID, device key, certificate, debug authority (R1, R433, R434) -/
  chip : t.chip = s.chip
  /-- the debug fuse stays blown (R456) -/
  dbg : s.sec.dbg = true → t.sec.dbg = true
  /-- a zeroised device key stays zeroised (R452) -/
  zeroised : s.sec.zeroised = true → t.sec.zeroised = true
  /-- an owner key, once installed and stored, stays (R438) -/
  owner : ∀ k, s.sec.owner = some k → s.sec.stOwner = some k → t.sec.owner = some k ∧ t.sec.stOwner = some k
  /-- MCOUNT does not go back, and its stored reservation stays ahead of it (R448) -/
  mcount : s.sec.reserved ≤ s.sec.mres → s.sec.mcount ≤ t.sec.mcount ∧ t.sec.reserved ≤ t.sec.mres
  /-- the count of full resets never falls (R333) -/
  rcount : s.persist.rcount ≤ t.persist.rcount
  /-- a retired slot stays retired (R400) -/
  retired : s.nvm.retired <:+ t.nvm.retired
  /-- the canonical forms are kept -/
  regs : SMap.wf fldReset s.regs = true → SMap.wf fldReset t.regs = true
  memWf : Memory.wf s.mem = true → Memory.wf t.mem = true
  nvmWf : Memory.wf s.nvm.bytes = true → Memory.wf t.nvm.bytes = true
  /-- what was written to the host is not taken back (R275) -/
  out : s.out <+: t.out
  /-- parts and register groups that `w` does not name -/
  part : ∀ p : StatePart, w.testBit p.ctorIdx = false → p.same s t
  reg : ∀ f : Fld, f.lo < 32 → w.testBit (64 + (regGroup f.off).ctorIdx) = false → t.gf f = s.gf f

/-- What forming records, sending messages and placing them in rings may change. -/
def reporting : List StatePart := [.heldLog, .heldSec, .formed, .out, .rings, .pba, .arch]

/-- The registers that it may change: INT_STAT, ERR_DROP, ERR_SUMM, RESERVE_STAT. -/
def reportRegs : List RegGroup := [.intStat, .errRing, .reserve]

/-- Every register group. -/
def allGroups : List RegGroup := RegGroup.id :: regCuts.map Prod.snd

/-- What a command may change: parts of the state, register groups. The commands that write any register by its offset, and those
of resets and start-up, name every register group. -/
def scopeOf : Instr → List StatePart × List RegGroup
  | .powerOnReset .. => ([.rst, .persist, .latch, .rdPcie, .rdSpi, .heldLog, .heldSec, .cmd, .formed, .first, .openT, .fab, .mem,
      .bankPend, .mtest, .abp, .chk, .cap, .met, .stat, .supraOn, .bil, .cals, .bilOut, .deferW, .sar, .slc, .free, .phase, .rings,
      .ringCfg, .ringSt, .link, .pba, .nvm, .arch, .nvmBytes, .sec, .owner, .session, .nonce, .ket, .time, .devTime, .grp, .grpRun, .grpSi,
      .chan, .chanSi], allGroups)
  | .porSuppliesSettled => ([.rst, .phase], [])
  | .resetNAssert .. => ([.rst, .persist, .cmd, .bilOut, .bilSaved, .free, .phase, .nvm, .arch, .nvmBytes, .chan], [.thr])
  | .perstNAssert .. => ([.rst, .persist, .cmd, .bilOut, .bilSaved, .free, .phase, .nvm, .arch, .nvmBytes, .chan], [.thr])
  | .hotReset => ([.rst, .persist, .cmd, .bilOut, .bilSaved, .free, .phase, .nvm, .arch, .nvmBytes, .chan], [.thr])
  | .fullResetSaveDone => (reporting ++ [.rst, .latch, .rdPcie, .rdSpi, .cmd, .first, .openT, .fab, .mem, .bankPend, .mtest, .abp,
      .chk, .cap, .met, .stat, .supraOn, .bil, .cals, .bilOut, .deferW, .sar, .slc, .free, .phase, .ringCfg, .ringSt, .link, .nvm,
      .nvmBytes, .sec, .owner, .session, .nonce, .ket, .time, .devTime, .grp, .grpRun, .grpSi, .chan, .chanSi], allGroups)
  | .resetRelease .. => ([.rst, .out, .chk, .met, .stat, .bil, .cals, .bilSaved, .sar, .slc, .phase, .rings, .link, .pba, .nvm, .arch,
      .sec, .zeroised, .ket, .hwm, .time, .devTime], allGroups)
  | .startupReady .. => (reporting ++ [.rst, .persist, .openT, .met, .stat, .supraOn, .bil, .cals, .bilOut, .deferW, .sar, .slc,
      .phase, .link, .nvm, .session, .devTime, .grp, .grpRun, .chan], allGroups)
  | .pfiRegister .. => ([.rst, .persist, .cmd, .bilOut, .bilSaved, .sar, .free, .phase, .nvm, .arch, .nvmBytes, .sec], [])
  | .lastGaspSaveDone => (reporting ++ [.rst, .latch, .rdPcie, .rdSpi, .cmd, .first, .openT, .fab, .mem, .bankPend, .mtest, .abp,
      .chk, .cap, .met, .stat, .supraOn, .bil, .cals, .bilOut, .deferW, .sar, .slc, .free, .phase, .ringCfg, .ringSt, .link, .nvm,
      .nvmBytes, .sec, .owner, .session, .nonce, .ket, .time, .devTime, .grp, .grpRun, .grpSi, .chan, .chanSi], allGroups)
  | .pfiReleaseRestart => ([.rst, .phase], [])
  | .refclkStop => ([.out, .link, .pba, .time], [.intStat, .clk, .linkStat])
  | .corePllRelock => (reporting ++ [.cap, .stat, .sar, .slc, .link, .nvm, .sec, .time, .grp, .chan], reportRegs ++ [.clk, .aggStat,
      .statSeq])
  | .decimatorOutputSample .. => (reporting ++ [.first, .openT, .cap, .met, .stat, .bil, .cals, .bilOut, .slc, .free, .link, .nvm,
      .devTime, .grp, .grpSi, .chan, .chanSi], reportRegs ++ [.afeStatus, .thr, .freq, .metStat, .cf, .specStat, .evtStat, .capStat,
      .aggStat, .statSeq, .bilStat, .bilCal, .bilSnap])
  | .coreStallGapRecord .. => (reporting ++ [.openT, .cap, .stat, .sar, .free, .link, .nvm, .grp, .chan], reportRegs ++ [.aggStat,
      .statSeq])
  | .firstSampleDelivered .. => (reporting ++ [.cmd, .first, .openT, .cap, .met, .stat, .bil, .slc, .free, .link, .nvm, .devTime,
      .grp, .grpSi, .chan, .chanSi], reportRegs ++ [.afeStatus, .thr, .freq, .metStat, .specStat, .capStat, .aggStat, .statSeq, .bilStat,
      .mbox])
  | .stuckModulatorFence .. => (reporting ++ [.openT, .cap, .met, .stat, .bil, .cals, .bilOut, .free, .link, .nvm, .grp, .chan],
      reportRegs ++ [.fence, .afeErr, .thr, .freq, .metStat, .cf, .specStat, .evtStat, .capStat, .aggStat, .statSeq, .bilStat, .bilCal,
      .bilSnap])
  | .thresholdAssert .. => (reporting ++ [.cap, .stat, .link, .nvm, .chan], reportRegs ++ [.thr, .capStat, .aggStat, .statSeq])
  | .thresholdDeassert .. => (reporting ++ [.cap, .stat, .link, .nvm, .chan], reportRegs ++ [.thr, .capStat, .aggStat, .statSeq])
  | .thresholdRegWrite .. => (reporting ++ [.cap, .stat, .link, .nvm, .chan], reportRegs ++ [.thr, .capStat, .aggStat, .statSeq])
  | .afeChCfgWrite .. => (reporting ++ [.stat, .link, .nvm, .session], reportRegs ++ [.afeErr, .afeCfg, .aggStat, .statSeq])
  | .afeRefSelWrite .. => (reporting ++ [.stat, .link, .nvm, .session], reportRegs ++ [.afeRef, .afeErr, .aggStat, .statSeq])
  | .refReady => ([], [.afeRef])
  | .afeCheckGo .. => ([.chk], [.afeErr, .afeChk])
  | .checkSelectorMove .. => ([.chk, .free], [])
  | .afeCheckDone .. => ([.chk], [.afeChk])
  | .profCfgWrite .. => (reporting ++ [.stat, .link, .nvm, .session], reportRegs ++ [.profCfg, .profErr, .aggStat, .statSeq])
  | .start => (reporting ++ [.rst, .cmd, .stat, .bil, .link, .nvm, .grp, .grpRun, .chan], reportRegs ++ [.profStat, .profErr, .freq,
      .metStat, .specStat, .specErr, .evtErr, .aggStat, .statSeq, .bilErr, .mbox])
  | .stop => (reporting ++ [.cmd, .openT, .cap, .met, .stat, .bil, .cals, .bilOut, .free, .link, .nvm, .grp, .grpRun, .chan],
      reportRegs ++ [.profStat, .thr, .freq, .metStat, .cf, .specStat, .evtStat, .capStat, .aggStat, .statSeq, .bilStat, .bilCal, .bilSnap,
      .mbox])
  | .tsarEnable .. => ([.supraOn, .sar], [.tsarCtrl, .tsarErr, .specErr])
  | .tsarPairStart .. => (reporting ++ [.first, .openT, .cap, .stat, .bil, .cals, .sar, .link, .nvm, .devTime], reportRegs ++
      [.tsarCtrl, .fastPin, .fast, .capStat, .aggStat, .statSeq, .bilStat, .bilCal])
  | .tsarDisable .. => ([.supraOn, .sar], [.tsarCtrl])
  | .tsarPairStop .. => (reporting ++ [.openT, .cap, .stat, .supraOn, .sar, .free, .link, .nvm], reportRegs ++ [.tsarCtrl, .fastPin,
      .fast, .specErr, .aggStat, .statSeq])
  | .transientSample .. => (reporting ++ [.first, .cap, .stat, .bil, .cals, .sar, .link, .nvm, .devTime], reportRegs ++ [.fastPin,
      .fast, .capStat, .aggStat, .statSeq, .bilStat, .bilCal])
  | .fastevtHoldExpire .. => ([], [.fastPin])
  | .transientAnchorLatch .. => ([.sar], [])
  | .tsarMapWrite .. => ([], [.tsarErr, .tsarMap])
  | .sarcalGo .. => ([.sar], [.sarCal])
  | .sarcalDone .. => ([.supraOn, .sar], [.sarCal, .tsarCtrl, .tsarErr, .hsar, .tsarCal, .hsarRes, .specErr])
  | .hsarPassTick => ([.sar], [.hsar])
  | .hsarConversionDone .. => (reporting ++ [.rst, .stat, .sar, .link, .nvm], reportRegs ++ [.strap, .afeRef, .tsarCtrl, .hsarRes,
      .aggStat, .statSeq])
  | .hsarFilterPublish .. => (reporting ++ [.stat, .sar, .link, .nvm], reportRegs ++ [.afeRef, .tsarCtrl, .hsarRes, .aggStat, .statSeq])
  | .hsarUrgentGo .. => ([.sar], [.hsar])
  | .hsarUrgentDone .. => ([.sar], [.tsarCtrl, .hsar])
  | .hsarSeqWrite .. => ([.sar], [.hsar, .hsarSeq, .hsarRes])
  | .ppsEdge .. => (reporting ++ [.cmd, .openT, .cap, .stat, .bil, .cals, .sar, .free, .link, .nvm, .ket, .time, .devTime, .grp],
      reportRegs ++ [.timeStat, .timeAdj, .pps, .aggStat, .statSeq, .bilStat, .bilCal, .mbox, .ketStat, .ketView])
  | .slewEnd => ([.sar, .time, .grp], [.timeStat])
  | .holdoverEntry => (reporting ++ [.stat, .link, .nvm], reportRegs ++ [.timeStat, .aggStat, .statSeq])
  | .setTimeNow .. => (reporting ++ [.cmd, .openT, .cap, .stat, .bil, .cals, .sar, .free, .link, .nvm, .nonce, .ket, .time, .devTime,
      .grp], reportRegs ++ [.timeStat, .leap, .aggStat, .statSeq, .bilStat, .bilCal, .mbox, .sec, .ketStat, .ketView])
  | .setTimeAtPps .. => (reporting ++ [.cmd, .openT, .cap, .stat, .bil, .cals, .sar, .free, .link, .nvm, .nonce, .ket, .time,
      .devTime, .grp], reportRegs ++ [.timeStat, .leap, .aggStat, .statSeq, .bilStat, .bilCal, .mbox, .sec, .ketStat, .ketView])
  | .atPpsTimeout => (reporting ++ [.cmd, .stat, .link, .nvm, .time], reportRegs ++ [.aggStat, .statSeq, .mbox])
  | .setTimeOffset .. => (reporting ++ [.cmd, .openT, .cap, .stat, .bil, .cals, .sar, .free, .link, .nvm, .nonce, .ket, .time,
      .devTime, .grp], reportRegs ++ [.timeStat, .leap, .aggStat, .statSeq, .bilStat, .bilCal, .mbox, .sec, .ketStat, .ketView])
  | .setTimeLeap .. => (reporting ++ [.cmd, .openT, .cap, .stat, .bil, .cals, .sar, .free, .link, .nvm, .nonce, .ket, .time, .devTime,
      .grp], reportRegs ++ [.timeStat, .leap, .aggStat, .statSeq, .bilStat, .bilCal, .mbox, .sec, .ketStat, .ketView])
  | .shadowSpanEnd => (reporting ++ [.openT, .cap, .stat, .bil, .cals, .sar, .link, .nvm, .devTime], reportRegs ++ [.timeStat,
      .aggStat, .statSeq, .bilStat, .bilCal])
  | .leapSecond => (reporting ++ [.openT, .cap, .stat, .bil, .cals, .sar, .free, .link, .nvm, .ket, .time, .devTime, .grp], reportRegs
      ++ [.timeStat, .leap, .aggStat, .statSeq, .bilStat, .bilCal, .ketStat, .ketView])
  | .xoHalt => (reporting ++ [.cmd, .openT, .cap, .met, .stat, .supraOn, .bil, .cals, .bilOut, .sar, .free, .link, .nvm, .sec,
      .zeroised, .session, .ket, .time, .devTime, .grp, .chan], reportRegs ++ [.clk, .thr, .tsarCtrl, .fastPin, .fast, .timeStat, .halt,
      .freq, .metStat, .cf, .cal, .specStat, .specErr, .evtStat, .capStat, .aggStat, .statSeq, .bilStat, .bilCal, .bilSnap, .mbox, .ketStat,
      .ketView])
  | .xoResume => (reporting ++ [.openT, .cap, .met, .stat, .supraOn, .bil, .cals, .bilOut, .sar, .slc, .free, .link, .nvm, .sec,
      .session, .time, .devTime, .grp, .chan], reportRegs ++ [.clk, .thr, .tsarCtrl, .fastPin, .fast, .timeStat, .freq, .metStat, .cf, .cal,
      .specStat, .specErr, .evtStat, .capStat, .aggStat, .statSeq, .bilStat, .bilCal, .bilSnap, .linkStat, .ketStat, .ketView])
  | .haltTimeReload .. => (reporting ++ [.stat, .sar, .link, .nvm, .ket, .time, .devTime, .grp], reportRegs ++ [.timeStat, .halt,
      .aggStat, .statSeq, .ketStat, .ketView])
  | .tpllUnlock => (reporting ++ [.openT, .cap, .stat, .supraOn, .sar, .free, .link, .nvm], reportRegs ++ [.clk, .tsarCtrl, .fastPin,
      .fast, .specErr, .aggStat, .statSeq])
  | .tpllRelock => ([], [.clk])
  | .cycleBoundary .. => (reporting ++ [.openT, .cap, .met, .stat, .bil, .cals, .bilOut, .free, .link, .nvm, .grp, .chan], reportRegs
      ++ [.thr, .freq, .metStat, .cf, .specStat, .evtStat, .capStat, .aggStat, .statSeq, .bilStat, .bilCal, .bilSnap])
  | .halfCycleBoundary .. => (reporting ++ [.cap, .met, .stat, .link, .nvm, .grp], reportRegs ++ [.evtStat, .capStat, .aggStat, .statSeq])
  | .freq10sClose .. => (reporting ++ [.openT, .cap, .met, .stat, .bil, .cals, .bilOut, .free, .link, .nvm, .grp, .chan], reportRegs
      ++ [.thr, .freq, .metStat, .cf, .specStat, .evtStat, .capStat, .aggStat, .statSeq, .bilStat, .bilCal, .bilSnap])
  | .resamplerWindowEnd .. => ([.openT, .free, .grp], [.freq, .aggStat])
  | .tenMinTick => (reporting ++ [.openT, .cap, .met, .stat, .bil, .cals, .bilOut, .sar, .free, .link, .nvm, .time, .devTime, .grp,
      .chan], reportRegs ++ [.thr, .freq, .metStat, .cf, .specStat, .evtStat, .capStat, .aggStat, .statSeq, .bilStat, .bilCal, .bilSnap])
  | .accumulationStepClose .. => (reporting ++ [.openT, .met, .stat, .bil, .cals, .bilOut, .link, .nvm, .grp], reportRegs ++ [.cf,
      .aggStat, .statSeq, .bilStat, .bilCal, .bilSnap])
  | .cycleIntervalClose .. => (reporting ++ [.openT, .stat, .link, .nvm, .grp, .chan], reportRegs ++ [.aggStat, .statSeq])
  | .statIncrementApply => ([.stat], [.aggStat, .statSeq])
  | .statQueueDrained => ([.stat], [.aggStat, .statCtrl])
  | .statDselWrite .. => ([.stat], [.statDesc])
  | .statDescCommit .. => ([.stat], [.statCtrl])
  | .snapshotStats => (reporting ++ [.cmd, .stat, .link, .nvm], reportRegs ++ [.aggStat, .statSeq, .mbox])
  | .percentile => (reporting ++ [.cmd, .stat, .link, .nvm], reportRegs ++ [.aggStat, .statSeq, .mbox])
  | .harmRecordComplete .. => (reporting ++ [.openT, .cap, .stat, .free, .link, .nvm, .grp], reportRegs ++ [.specStat, .evtStat,
      .capStat, .aggStat, .statSeq])
  | .supraRecordComplete .. => (reporting ++ [.openT, .stat, .sar, .free, .link, .nvm], reportRegs ++ [.aggStat, .statSeq])
  | .flickerSettleEnd .. => ([], [.specStat])
  | .transientRecord => (reporting ++ [.stat, .sar, .link, .nvm], reportRegs ++ [.aggStat, .statSeq])
  | .tburstRecord .. => (reporting ++ [.stat, .sar, .link, .nvm], reportRegs ++ [.aggStat, .statSeq])
  | .captureArm => (reporting ++ [.cmd, .cap, .stat, .link, .nvm], reportRegs ++ [.capStat, .aggStat, .statSeq, .mbox])
  | .captureForce => (reporting ++ [.cmd, .cap, .stat, .link, .nvm], reportRegs ++ [.capStat, .aggStat, .statSeq, .mbox])
  | .captureWindowEnd => (reporting ++ [.stat, .link, .nvm], reportRegs ++ [.capStat, .aggStat, .statSeq])
  | .captureReadoutDone => ([.cap], [.capStat])
  | .metEselLatch .. => (reporting ++ [.openT, .met, .stat, .bil, .cals, .bilOut, .deferW, .link, .nvm, .grp], reportRegs ++
      [.metEsel, .cf, .aggStat, .statSeq, .bilStat, .bilCal, .bilSnap])
  | .energyClear .. => (reporting ++ [.met, .stat, .bil, .deferW, .link, .nvm, .session], reportRegs ++ [.metCtrl, .aggStat, .statSeq])
  | .calConstantWrite .. => (reporting ++ [.stat, .deferW, .link, .nvm, .session], reportRegs ++ [.cal, .aggStat, .statSeq])
  | .calCommit .. => (reporting ++ [.met, .stat, .deferW, .link, .nvm, .session], reportRegs ++ [.metCtrl, .aggStat, .statSeq])
  | .calCommitApply .. => (reporting ++ [.met, .stat, .link, .nvm, .grp], reportRegs ++ [.aggStat, .statSeq])
  | .cfCfgWrite .. => (reporting ++ [.met, .stat, .deferW, .link, .nvm, .session], reportRegs ++ [.metCtrl, .cf, .aggStat, .statSeq])
  | .cfPulse .. => ([], [.cf])
  | .cfPulseEnd .. => ([], [.cf])
  | .tariffClear .. => (reporting ++ [.stat, .bil, .deferW, .link, .nvm, .session], reportRegs ++ [.aggStat, .statSeq, .bilStat, .bilErr])
  | .billingCloseRequest .. => (reporting ++ [.stat, .bil, .deferW, .link, .nvm, .session], reportRegs ++ [.aggStat, .statSeq,
      .bilStat, .bilErr])
  | .calendarWordWrite .. => (reporting ++ [.stat, .cals, .deferW, .link, .nvm, .session], reportRegs ++ [.aggStat, .statSeq, .bilCal])
  | .calendarCommit .. => (reporting ++ [.stat, .cals, .deferW, .link, .nvm, .session], reportRegs ++ [.aggStat, .statSeq, .bilErr,
      .bilCal])
  | .bilSelLatch .. => ([.deferW], [.bilSel])
  | .linkTrained .. => ([], [.linkStat])
  | .linkDown => ([.out, .link, .pba], [.intStat, .linkStat])
  | .linkServiceChange .. => (reporting ++ [.cmd, .stat, .link, .nvm, .sec], reportRegs ++ [.aggStat, .statSeq, .linkStat, .mbox])
  | .registerWrite .. => (reporting ++ [.cmd, .openT, .fab, .bankPend, .mtest, .chk, .cap, .met, .stat, .supraOn, .bil, .cals,
      .bilOut, .deferW, .sar, .slc, .ringSt, .link, .nvm, .sec, .session, .ket, .time, .grp, .chan], allGroups)
  | .loRegisterRead .. => ([.latch, .rdPcie, .rdSpi], [.hostErr])
  | .bar2Read .. => ([.out, .fab, .mem, .abp, .free, .pba], [.intStat, .err, .hostErr, .abpErr])
  | .bar2Write .. => ([.out, .fab, .mem, .abp, .free, .pba], [.intStat, .hostErr, .abpErr])
  | .ringEnable .. => ([.rings, .ringSt], [])
  | .ringEntryReadDone .. => ([.heldLog, .heldSec, .formed, .out, .stat, .bilSaved, .rings, .ringCfg, .ringSt, .link, .pba, .ket],
      reportRegs ++ [.aggStat, .statSeq])
  | .doorbell .. => (reporting ++ [.cmd, .stat, .ringSt, .link, .nvm, .sec], reportRegs ++ [.aggStat, .statSeq, .hostErr, .mbox])
  | .writeBack .. => (reporting ++ [.cmd, .stat, .link, .nvm, .sec], reportRegs ++ [.aggStat, .statSeq, .mbox])
  | .ringInterruptTimer .. => ([.out, .rings, .pba], [])
  | .commandFetch .. => (reporting ++ [.cmd, .stat, .ringSt, .link, .nvm, .sec], reportRegs ++ [.aggStat, .statSeq, .mbox])
  | .dmaReadTimeout .. => (reporting ++ [.cmd, .stat, .bilSaved, .ringCfg, .ringSt, .link, .nvm, .sec, .ket], reportRegs ++ [.aggStat,
      .statSeq, .hostErr, .mbox])
  | .nvmRead .. => (reporting ++ [.cmd, .stat, .link, .nvm], reportRegs ++ [.aggStat, .statSeq, .mbox, .nvm])
  | .nvmWrite .. => (reporting ++ [.cmd, .stat, .link, .nvm], reportRegs ++ [.aggStat, .statSeq, .mbox])
  | .sealNow => (reporting ++ [.cmd, .stat, .link, .nvm, .sec], reportRegs ++ [.aggStat, .statSeq, .mbox])
  | .openSealSession .. => (reporting ++ [.cmd, .stat, .free, .link, .nvm, .sec, .owner, .session, .nonce], reportRegs ++ [.aggStat,
      .statSeq, .mbox, .sec])
  | .ownerInstall .. => (reporting ++ [.cmd, .stat, .free, .link, .nvm, .sec, .owner, .session, .nonce], reportRegs ++ [.aggStat,
      .statSeq, .mbox, .sec])
  | .closeSealSession => (reporting ++ [.cmd, .stat, .link, .nvm, .sec, .session], reportRegs ++ [.cal, .aggStat, .statSeq, .mbox, .sec])
  | .sessionTimeout => (reporting ++ [.stat, .link, .nvm, .sec, .session], reportRegs ++ [.cal, .aggStat, .statSeq, .sec])
  | .readCert => (reporting ++ [.cmd, .stat, .link, .nvm], reportRegs ++ [.aggStat, .statSeq, .mbox])
  | .tamperClear .. => (reporting ++ [.cmd, .stat, .free, .link, .nvm, .sec, .session, .nonce, .ket], reportRegs ++ [.cal, .aggStat,
      .statSeq, .mbox, .sec, .ketStat, .ketView])
  | .fullReset => (reporting ++ [.rst, .persist, .cmd, .stat, .bilOut, .bilSaved, .free, .phase, .link, .nvm, .nvmBytes, .chan],
      reportRegs ++ [.thr, .aggStat, .statSeq, .mbox])
  | .spiFrame .. => (reporting ++ [.latch, .rdSpi, .cmd, .openT, .fab, .bankPend, .mtest, .chk, .cap, .met, .stat, .supraOn, .bil,
      .cals, .bilOut, .deferW, .sar, .slc, .ringSt, .link, .nvm, .session, .ket, .time, .grp, .chan], allGroups)
  | .mailboxGo .. => ([.cmd], [.mbox])
  | .mailboxExecute .. => (reporting ++ [.rst, .persist, .cmd, .openT, .cap, .met, .stat, .bil, .cals, .bilOut, .bilSaved, .sar,
      .free, .phase, .link, .nvm, .nvmBytes, .sec, .owner, .session, .nonce, .ket, .time, .devTime, .grp, .grpRun, .chan], reportRegs ++
      [.profStat, .profErr, .thr, .timeStat, .leap, .freq, .metStat, .cf, .cal, .specStat, .specErr, .evtStat, .evtErr, .capStat, .aggStat,
      .statSeq, .bilStat, .bilErr, .bilCal, .bilSnap, .mbox, .nvm, .sec, .ketStat, .ketView])
  | .fabricAccessComplete .. => (reporting ++ [.openT, .fab, .cap, .met, .stat, .bil, .cals, .bilOut, .deferW, .sar, .slc, .link,
      .nvm, .session, .grp, .chan], allGroups)
  | .requestAgeRise .. => ([.fab], [.arbCnt])
  | .masterWedged .. => ([.out, .pba], [.intStat, .wdogStat])
  | .watchdogReset => ([.rst, .persist, .cmd, .bilOut, .bilSaved, .free, .phase, .nvm, .arch, .nvmBytes, .chan], [.thr])
  | .arbWeightWrite .. => ([], [.arbCfg])
  | .arbCounterClear .. => ([.fab], [.arbCfg, .arbCnt])
  | .arbLatencyClear .. => ([.fab], [.arbCfg, .arbCnt])
  | .sliceCheckpoint => (reporting ++ [.openT, .met, .stat, .bil, .cals, .bilOut, .deferW, .slc, .link, .nvm, .session, .grp, .chan],
      allGroups)
  | .sliceMismatch .. => (reporting ++ [.openT, .cap, .met, .stat, .supraOn, .bil, .cals, .bilOut, .deferW, .sar, .slc, .free, .link,
      .nvm, .session, .time, .grp, .chan], allGroups)
  | .sliceStall .. => (reporting ++ [.openT, .met, .stat, .bil, .cals, .bilOut, .deferW, .slc, .link, .nvm, .session, .grp, .chan],
      allGroups)
  | .caddyLoaded => (reporting ++ [.openT, .cap, .met, .stat, .supraOn, .bil, .cals, .bilOut, .deferW, .sar, .slc, .free, .link, .nvm,
      .session, .time, .grp, .chan], allGroups)
  | .caddyLoadTimeout => (reporting ++ [.openT, .cap, .met, .stat, .supraOn, .bil, .cals, .bilOut, .deferW, .sar, .slc, .free, .link,
      .nvm, .session, .time, .grp, .chan], allGroups)
  | .sliceSelftestDone .. => (reporting ++ [.rst, .openT, .cap, .met, .stat, .supraOn, .bil, .cals, .bilOut, .deferW, .sar, .slc,
      .free, .link, .nvm, .session, .time, .grp, .chan], allGroups)
  | .switchoverEnd .. => (reporting ++ [.openT, .cap, .met, .stat, .supraOn, .bil, .cals, .bilOut, .deferW, .sar, .slc, .free, .link,
      .nvm, .session, .time, .grp, .chan], allGroups)
  | .sliceTrialRequest .. => (reporting ++ [.stat, .slc, .link, .nvm, .session], reportRegs ++ [.aggStat, .statSeq, .slice])
  | .bankHandover .. => ([.fab, .bankPend, .mtest], [.bankErr, .mtest])
  | .bankHandoverComplete .. => ([.mem, .bankPend, .abp, .stat], [.statCtrl, .bankMap, .bankOwner])
  | .bankPowerChange .. => ([.fab, .bankPend, .mtest], [.bankErr, .mtest])
  | .bankPowerChangeComplete .. => ([.mem, .bankPend, .abp, .stat], [.statCtrl, .bankMap, .bankPwr])
  | .windowConfigWrite .. => ([], [.bankErr, .cw])
  | .mtestRegionStart => ([.mtest], [.mtest])
  | .mtestStep .. => (reporting ++ [.openT, .fab, .mtest, .cap, .stat, .supraOn, .sar, .free, .link, .nvm, .grp], reportRegs ++
      [.fence, .specStat, .specErr, .aggStat, .statCtrl, .statSeq, .bankMap, .mtest, .abpCfg, .abpErr])
  | .mtestRegionTimeout => ([.mtest], [.mtest])
  | .abpWrite .. => ([.out, .fab, .abp, .free, .pba], [.intStat, .abpErr])
  | .abpRead .. => ([.out, .fab, .abp, .pba], [.intStat, .abpErr])
  | .abpAccessComplete => ([.out, .mem, .abp, .free, .pba], [.intStat, .err, .abpErr])
  | .nvmWriteOpDone .. => (reporting ++ [.cmd, .openT, .met, .stat, .bilOut, .free, .link, .nvm, .nvmBytes, .sec, .grp], reportRegs ++
      [.aggStat, .statSeq, .mbox, .nvm])
  | .energyCheckpoint => ([.met, .bil, .rings, .nvm, .arch], [.slice])
  | .configSave => ([.nvm, .arch], [])
  | .trngReady => ([.free, .sec, .nonce, .ket], [])
  | .trngHealthFail => ([.sec, .nonce], [.sec])
  | .sealAgeTimer .. => ([.rings, .sec], [])
  | .sealSigned => (reporting ++ [.cmd, .stat, .link, .nvm, .sec, .dbg, .zeroised], reportRegs ++ [.aggStat, .statSeq, .mbox])
  | .jtagSecchal => ([.sec], [])
  | .debugConsent .. => ([.free, .sec, .nonce], [])
  | .debugUnlock .. => ([.free, .rings, .nvm, .arch, .sec, .dbg, .zeroised, .nonce], [])
  | .mainPowerLoss .. => (reporting ++ [.stat, .link, .nvm, .sec, .session, .ket], reportRegs ++ [.cal, .aggStat, .statSeq, .ketStat,
      .ketView])
  | .mainPowerRestore .. => (reporting ++ [.stat, .link, .nvm, .sec, .session, .ket], reportRegs ++ [.cal, .aggStat, .statSeq,
      .ketStat, .ketView])
  | .kettleColdStart => (reporting ++ [.cmd, .stat, .link, .nvm, .sec, .zeroised, .session, .ket, .hwm], reportRegs ++ [.cal,
      .aggStat, .statSeq, .mbox, .ketStat, .ketCfg, .ketView, .ketBist, .ketAsense, .ketSrc])
  | .kettleOffsetRefresh .. => ([.session, .ket], [.ketStat, .ketView])
  | .kettleRateMeasure .. => ([], [.ketStat, .ketView])
  | .tamperSwitchSample .. => (reporting ++ [.cmd, .stat, .link, .nvm, .sec, .zeroised, .session, .ket], reportRegs ++ [.cal,
      .aggStat, .statSeq, .mbox, .ketStat, .ketView])
  | .tamperLoopSample .. => (reporting ++ [.cmd, .stat, .link, .nvm, .sec, .zeroised, .session, .ket], reportRegs ++ [.cal, .aggStat,
      .statSeq, .mbox, .ketStat, .ketView])
  | .kettleEnvMeasure .. => (reporting ++ [.cmd, .stat, .link, .nvm, .sec, .zeroised, .session, .ket], reportRegs ++ [.cal, .aggStat,
      .statSeq, .mbox, .ketStat, .ketView])
  | .alarmPulseEnd => (reporting ++ [.stat, .link, .nvm, .sec, .session, .ket], reportRegs ++ [.cal, .aggStat, .statSeq, .ketStat,
      .ketView])
  | .kettleWrite .. => (reporting ++ [.stat, .link, .nvm, .session, .ket], reportRegs ++ [.aggStat, .statSeq, .ketStat, .ketCfg,
      .ketView, .ketBist, .ketAsense, .ketSrc])
  | .kettleWriteComplete .. => (reporting ++ [.stat, .link, .nvm, .sec, .session, .ket], reportRegs ++ [.cal, .aggStat, .statSeq,
      .ketStat, .ketCfg, .ketView, .ketBist, .ketAsense, .ketSrc])
  | .kettleAsenseWrite .. => ([], [.ketAsense])
  | .kettleBistGo .. => ([.ket], [.ketStat, .ketView, .ketBist])
  | .kettleBistDone .. => (reporting ++ [.cmd, .stat, .link, .nvm, .sec, .zeroised, .session, .ket], reportRegs ++ [.cal, .aggStat,
      .statSeq, .mbox, .ketStat, .ketView, .ketBist])
  | .intStatClear .. => ([.out, .pba], [.intStat])
  | .intEnWrite .. => ([.out, .pba], [.intEn])
  | .intSet .. => ([.out, .pba], [.intStat])
  | .metaPllUnlock => (reporting ++ [.cmd, .openT, .cap, .met, .stat, .supraOn, .bil, .cals, .bilOut, .sar, .free, .link, .nvm, .sec,
      .zeroised, .session, .ket, .time, .devTime, .grp, .chan], reportRegs ++ [.clk, .thr, .tsarCtrl, .fastPin, .fast, .timeStat, .halt,
      .freq, .metStat, .cf, .cal, .specStat, .specErr, .evtStat, .capStat, .aggStat, .statSeq, .bilStat, .bilCal, .bilSnap, .mbox, .ketStat,
      .ketView])
  | .corePllUnlock => ([.time], [.clk])
  | .linkL1Transition .. => ([], [.linkStat])
  | .fastComparatorWrite .. => ([], [.fastPin, .fast])
  | .timeCtrlWrite .. => (reporting ++ [.stat, .sar, .link, .nvm, .session, .time, .grp], reportRegs ++ [.timeCtrl, .timeStat,
      .aggStat, .statSeq])
  | .msiXMaskChange .. => ([.out, .link, .pba], [])
  | .jtagInstructionLoad .. => ([.sec], [])

end Sys2Proof.Machine
end

