-- ==== Sys2Proof/Safety/Outcome.lean ====
section
/-! DEFINITION. What a command has done, in the terms that statements use: how a command of the CMD ring ended, and what a
reset leaves. -/

namespace Sys2Proof.Machine

/-- The block executes a command of the CMD ring: its opcode, the command; records are formed (R484). -/
def State.executes (s : State) (op : Nat) (c : Cmd) : Prop := s.forms = true ∧ s.curOp = some (op, c)

/-- A completion of a command with a status: the AUX of its CPL record names the status, the opcode and the tag (R325). -/
def Rec.completes (r : Rec) (c : Cmd) (status : Nat) : Prop :=
  r.cls = clsCPL ∧ r.aux = status + 256 * leAt c.entry 0 1 + 65536 * leAt c.entry 2 2

/-- The command has ended with a status: its completion waits for its records, or it is the newest record formed (R292). -/
def State.completed (t : State) (c : Cmd) (status : Nat) : Prop :=
  t.cmd.cur = none ∧ ((∃ p, t.cmd.cpl = some p ∧ p.r.completes c status) ∨ ∃ r, t.formed.getLast? = some r ∧ r.completes c status)

/-- What a reset loses and what it keeps (Table 21-2): every register outside the Kettle block, NVM_RETIRED and STRAP reads its reset
value; the straps sampled at the last release, the Kettle, the keys as the store holds them, the fuse and the last visible SEQ of every
ring stay. -/
structure State.ResetLeaves (s t : State) : Prop where
  regs : ∀ f : Fld, f.lo < 32 → (f.off < 0x1E00 ∨ 0x1F00 ≤ f.off) →
    (f.off < 0x1A24 ∨ 0x1A28 ≤ f.off) → f.off ≠ 0x58 → t.gf f = fldReset f.key
  straps : t.gf STRAP_MODE = s.gf STRAP_MODE ∧ t.gf STRAP_IOV0 = s.gf STRAP_IOV0 ∧ t.gf STRAP_IOV1 = s.gf STRAP_IOV1 ∧
    t.gf STRAP_CORECLK_SEL = s.gf STRAP_CORECLK_SEL ∧ t.gf STRAP_MODE_RSVD = s.gf STRAP_MODE_RSVD ∧
    t.gf STRAP_SPI_CORE_XO = s.gf STRAP_SPI_CORE_XO ∧ t.gf STRAP_IOV0_MISMATCH = 0 ∧ t.gf STRAP_IOV1_MISMATCH = 0 ∧
    t.gf STRAP_VDDIO0_MEAS = 0 ∧ t.gf STRAP_VDDIO1_MEAS = 0
  kettle : ∀ f : Fld, f.lo < 32 → 0x1E00 ≤ f.off → f.off < 0x1F00 → t.gf f = s.gf f
  evidence : t.ket = { s.ket with writes := [] }
  keys : t.chip = s.chip ∧ t.sec.owner = s.sec.stOwner ∧ t.sec.dbg = s.sec.dbg ∧ t.sec.zeroised = s.sec.zeroised
  session : t.sec.session = none ∧ t.sec.nonce = [] ∧ t.sec.trngOk = false
  series : ∀ n : Fin 64, (t.rings[n]).lastVis = (s.rings[n]).lastVis ∧ (t.rings[n]).st = .off ∧ (t.rings[n]).q = []
  lost : t.mem = [] ∧ t.heldLog = [] ∧ t.heldSec = [] ∧ t.formed = [] ∧ t.cmd = {} ∧ t.link = {}
  groups : ∀ g : Fin 2, (t.grp[g]).running = false
  retired : s.nvm.retired <:+ t.nvm.retired

/-- Nothing holds back or refuses the SET_TIME that executes, and its block is accepted (R132, R437, R443). -/
structure State.SetTimeReady (s : State) (b : List Byte) (c : Cmd) : Prop where
  free : s.switching = false ∧ s.time.atPps = none ∧ s.time.frozen = false
  owner : s.sec.trngFail = false ∧ s.sec.owner.isSome = true
  length : b.length = 128
  leap : leAt c.entry 0x10 1 = 3 → leAt c.entry 0x18 8 / 2 ^ 32 ≠ 0 →
    leAt c.entry 0x18 8 / 2 ^ 32 % 86400 = 0 ∧ s.now < leAt c.entry 0x18 8 / 2 ^ 32 * 2 ^ 32
  block : s.blkAccept b 3 (decide (blkParam b = (c.entry.drop 0x10).take 16 ++ zeros 16)) s.ownerKey = true

/-- A START that nothing holds starts the group: no condition that refuses it holds (R83, R84, R88, R136, R257, Table 12-7). -/
structure State.StartReady (s : State) (g : Fin 2) : Prop where
  stopped : s.grpFused g = false ∧ (s.grp[g]).running = false
  channels : s.startMask g ≠ 0
  rates : ∀ c : Fin 8, (s.startMask g).testBit c = true →
    profD (s.gf (PROF_CH_CFG_PROFILE (8 * g.val + c.val))) = (s.startGrp g (s.startMask g)).d
  delays : ∀ c : Fin 8, (s.startMask g).testBit c = true →
    ((s.startGrp g (s.startMask g)).correction c (s.met.cal[chanOf g c])).natAbs ≤ 512
  reference : (s.startGrp g (s.startMask g)).monitor = true ∨ s.refErr g (s.startMask g) = false
  billing : s.bilCfgOk g = true

end Sys2Proof.Machine
end

