-- ==== Sys2Proof/WellFormed.lean ====
section
/-! DEFINITION. Which terms of `Instr` stand for something that can reach the device: the sizes that the spec fixes for what comes
with a command (the samples of a group, a 64-byte command entry, a 128-byte authorisation block). A meaning is defined on every
term; what the spec makes the device check itself (a CRC, a length, an offset, a signature) is checked there and is no part of
this. -/

namespace Sys2Proof

/-- A two's-complement number of w bits. -/
def fitsInt (w : Nat) (x : Int) : Bool := decide (-(2 ^ (w - 1)) ≤ x) && decide (x < 2 ^ (w - 1))

/-- Codes of at most 16 channels, of 24 bits each. -/
def chanCodes (l : List (List Int)) : Bool := decide (l.length ≤ 16) && l.all (fun c => c.all (fitsInt 24))

/-- The command is one that can reach the device: a group's sample carries the inputs of its eight channels (R14), a check
24-bit codes of 16 channels (R69), a calibration the results of eight pairs (R106), a window the points of eight channels (R139), a
window of decimated samples 5120 of them (R190); a command entry is 64 bytes (R291), an authorisation block 128 (R436), a ring table entry 32 (R282), and a
read or write names at least one word or byte, a write frame words and a read frame reads (R297). -/
def Instr.wf : Instr → Bool
  | .powerOnReset .. => true
  | .porSuppliesSettled => true
  | .resetNAssert .. => true
  | .perstNAssert .. => true
  | .hotReset => true
  | .fullResetSaveDone => true
  | .resetRelease .. => true
  | .startupReady _ badBanks badLanes => decide (badBanks.Nodup ∧ badLanes.Nodup)
  | .pfiRegister .. => true
  | .lastGaspSaveDone => true
  | .pfiReleaseRestart => true
  | .refclkStop => true
  | .corePllRelock => true
  | .decimatorOutputSample _ xs _ => xs.length == 8
  | .coreStallGapRecord .. => true
  | .firstSampleDelivered _ xs _ => xs.length == 8
  | .stuckModulatorFence .. => true
  | .thresholdAssert .. => true
  | .thresholdDeassert .. => true
  | .thresholdRegWrite .. => true
  | .afeChCfgWrite .. => true
  | .afeRefSelWrite .. => true
  | .refReady => true
  | .afeCheckGo .. => true
  | .checkSelectorMove codes => chanCodes codes
  | .afeCheckDone codes => chanCodes codes
  | .profCfgWrite .. => true
  | .start => true
  | .stop => true
  | .tsarEnable .. => true
  | .tsarPairStart .. => true
  | .tsarDisable .. => true
  | .tsarPairStop .. => true
  | .transientSample .. => true
  | .fastevtHoldExpire .. => true
  | .transientAnchorLatch .. => true
  | .tsarMapWrite .. => true
  | .sarcalGo .. => true
  | .sarcalDone pairs _ _ => pairs.length == 8
  | .hsarPassTick => true
  | .hsarConversionDone .. => true
  | .hsarFilterPublish .. => true
  | .hsarUrgentGo .. => true
  | .hsarUrgentDone .. => true
  | .hsarSeqWrite .. => true
  | .ppsEdge .. => true
  | .slewEnd => true
  | .holdoverEntry => true
  | .setTimeNow block => block.length == 128
  | .setTimeAtPps block => block.length == 128
  | .atPpsTimeout => true
  | .setTimeOffset block => block.length == 128
  | .setTimeLeap block => block.length == 128
  | .shadowSpanEnd => true
  | .leapSecond => true
  | .xoHalt => true
  | .xoResume => true
  | .haltTimeReload .. => true
  | .tpllUnlock => true
  | .tpllRelock => true
  | .cycleBoundary .. => true
  | .halfCycleBoundary .. => true
  | .freq10sClose .. => true
  | .resamplerWindowEnd _ _ pts => pts.length == 8
  | .tenMinTick => true
  | .accumulationStepClose .. => true
  | .cycleIntervalClose .. => true
  | .statIncrementApply => true
  | .statQueueDrained => true
  | .statDselWrite .. => true
  | .statDescCommit .. => true
  | .snapshotStats => true
  | .percentile => true
  | .harmRecordComplete .. => true
  | .supraRecordComplete _ xs => xs.all (fun w => w.length == 5120)
  | .flickerSettleEnd .. => true
  | .transientRecord => true
  | .tburstRecord .. => true
  | .captureArm => true
  | .captureForce => true
  | .captureWindowEnd => true
  | .captureReadoutDone => true
  | .metEselLatch .. => true
  | .energyClear .. => true
  | .calConstantWrite .. => true
  | .calCommit .. => true
  | .calCommitApply .. => true
  | .cfCfgWrite .. => true
  | .cfPulse .. => true
  | .cfPulseEnd .. => true
  | .tariffClear .. => true
  | .billingCloseRequest .. => true
  | .calendarWordWrite .. => true
  | .calendarCommit .. => true
  | .bilSelLatch .. => true
  | .linkTrained .. => true
  | .linkDown => true
  | .linkServiceChange .. => true
  | .registerWrite _ words _ => !words.isEmpty
  | .loRegisterRead _ _ n _ => decide (0 < n)
  | .bar2Read _ n _ _ => decide (0 < n.val)
  | .bar2Write _ bytes be _ => !bytes.isEmpty && decide (bytes.length ≤ 512) && decide (be < 2 ^ bytes.length)
  | .ringEnable .. => true
  | .ringEntryReadDone _ res => match res with | .data b => b.length == 32 | _ => true
  | .doorbell .. => true
  | .writeBack .. => true
  | .ringInterruptTimer .. => true
  | .commandFetch entry => entry.length == 64
  | .dmaReadTimeout .. => true
  | .nvmRead .. => true
  | .nvmWrite data => decide (data.length ≤ 4096)
  | .sealNow => true
  | .openSealSession block => block.length == 128
  | .ownerInstall block => block.length == 128
  | .closeSealSession => true
  | .sessionTimeout => true
  | .readCert => true
  | .tamperClear block => block.length == 128
  | .fullReset => true
  | .spiFrame header words reads => header.getLsbD 31 == words.isEmpty && header.getLsbD 31 == decide (0 < reads)
  | .mailboxGo .. => true
  | .mailboxExecute .. => true
  | .fabricAccessComplete .. => true
  | .requestAgeRise .. => true
  | .masterWedged .. => true
  | .watchdogReset => true
  | .arbWeightWrite .. => true
  | .arbCounterClear .. => true
  | .arbLatencyClear .. => true
  | .sliceCheckpoint => true
  | .sliceMismatch .. => true
  | .sliceStall .. => true
  | .caddyLoaded => true
  | .caddyLoadTimeout => true
  | .sliceSelftestDone .. => true
  | .switchoverEnd .. => true
  | .sliceTrialRequest .. => true
  | .bankHandover .. => true
  | .bankHandoverComplete .. => true
  | .bankPowerChange .. => true
  | .bankPowerChangeComplete .. => true
  | .windowConfigWrite .. => true
  | .mtestRegionStart => true
  | .mtestStep .. => true
  | .mtestRegionTimeout => true
  | .abpWrite .. => true
  | .abpRead .. => true
  | .abpAccessComplete => true
  | .nvmWriteOpDone .. => true
  | .energyCheckpoint => true
  | .configSave => true
  | .trngReady => true
  | .trngHealthFail => true
  | .sealAgeTimer .. => true
  | .sealSigned => true
  | .jtagSecchal => true
  | .debugConsent block => block.length == 128
  | .debugUnlock block key => block.length == 128 && key.length == 64
  | .mainPowerLoss .. => true
  | .mainPowerRestore .. => true
  | .kettleColdStart => true
  | .kettleOffsetRefresh .. => true
  | .kettleRateMeasure .. => true
  | .tamperSwitchSample .. => true
  | .tamperLoopSample .. => true
  | .kettleEnvMeasure .. => true
  | .alarmPulseEnd => true
  | .kettleWrite .. => true
  | .kettleWriteComplete .. => true
  | .kettleAsenseWrite .. => true
  | .kettleBistGo .. => true
  | .kettleBistDone .. => true
  | .intStatClear .. => true
  | .intEnWrite .. => true
  | .intSet .. => true
  | .metaPllUnlock => true
  | .corePllUnlock => true
  | .linkL1Transition .. => true
  | .fastComparatorWrite .. => true
  | .timeCtrlWrite .. => true
  | .msiXMaskChange .. => true
  | .jtagInstructionLoad .. => true

end Sys2Proof
end

