-- ==== Sys2Proof/Certificates/Slice0/Obligations.lean ====
section
/-! DEFINITION. The statements for the provers: what the commands do by the numbered rules of the spec, what the block keeps, and
where each command completes with its own effect. -/

open Sys2Proof Sys2Proof.Machine

/-! ### The block as a whole -/

/-- A step takes the command at the front of the queue and answers what the command's meaning answers on the state with the rest of
the queue (the queue is the model's, log entry 1). -/
def Obligations.StepRunsFront : Prop :=
  ∀ (s : State) (c : Instr) (rest : List Instr), s.pending = c :: rest → step s = exec c { s with pending := rest }

/-- With an empty queue one META cycle of device time passes (the model's choice, log entry 2): while device time runs it advances by
the increment I and TIME_HWM reaches it, and no register, ring or record changes but for a calendar that comes due while no group is
processed (R256, log entry 71); while device time stands still nothing changes. -/
def Obligations.IdleStepIsOneCycle : Prop :=
  ∀ s : State, s.pending = [] → ∃ t, step s = .next t ∧ t.pending = [] ∧
    (s.timeRuns = true → t.time.t = s.time.t + s.inc ∧ max s.ket.hwm ((s.time.t + s.inc) / 2 ^ 32 % 2 ^ 64) ≤ t.ket.hwm) ∧
    (s.gb BIL_CAL_CTRL_PVALID = false ∨ (∃ g, s.processed g = true) ∨ (s.time.t + s.inc) / 2 ^ 32 % 2 ^ 64 < s.cals.pasT →
      t.regs = s.regs ∧ t.rings = s.rings ∧ t.formed = s.formed ∧ t.out = s.out ∧
      (s.timeRuns = true → t.ket.hwm = max s.ket.hwm ((s.time.t + s.inc) / 2 ^ 32 % 2 ^ 64))) ∧
    (s.timeRuns = false → t = s)

/-- After reset every register field reads its reset value, the state is in its canonical form, no command waits, no ring is on, no
group runs, no seal session is open, nothing has been written to the host, and the device waits for the release of its reset. -/
def Obligations.StateAfterReset : Prop :=
  core.reset.pending = [] ∧ core.reset.Canonical ∧ core.reset.rst.phase = .inReset ∧ core.reset.out = [] ∧ core.reset.formed = [] ∧
  core.reset.sec.session = none ∧ (∀ f : Fld, core.reset.gf f = fldReset f.key) ∧ (∀ n : Fin 64, (core.reset.rings[n]).st = .off) ∧
  (∀ g : Fin 2, (core.reset.grp[g]).running = false)

/-- From every state in canonical form (registers, bank memory and the non-volatile store listed by rising address with no entry at
its default) a step that answers a next state answers one in canonical form. -/
def Obligations.StepKeepsCanonical : Prop :=
  ∀ s t : State, s.Canonical → core.step s = .next t → t.Canonical

/-- The frame of all 182 commands: a command changes no part of the state outside those that its scope lists, and no register outside
the register groups that its scope lists, and it leaves the queue alone. The scope of a command is the table scopeOf. -/
def Obligations.CommandsStayInScope : Prop :=
  ∀ (c : Instr) (s t : State), exec c s = .next t → s.Within (scopeOf c).1 (scopeOf c).2 t ∧ t.pending = s.pending

/-- Whatever the commands, one step and therefore any run keeps what manufacture fixed, an owner key that is installed and stored, a
zeroised device key and a blown debug fuse; MCOUNT never falls and stays within its stored reservation, the seal in formation counted,
while it lies within it; the count of full resets never falls; a retired slot stays retired; and no DMA write to the host is taken
back. -/
def Obligations.StepsTakeNothingBack : Prop :=
  ∀ s t : State, core.step s = .next t →
    t.chip = s.chip ∧
    (∀ k, s.sec.owner = some k → s.sec.stOwner = some k → t.sec.owner = some k ∧ t.sec.stOwner = some k) ∧
    (s.sec.zeroised = true → t.sec.zeroised = true) ∧ (s.sec.dbg = true → t.sec.dbg = true) ∧
    (s.sec.reserved ≤ s.sec.mres → s.sec.mcount ≤ t.sec.mcount ∧ t.sec.reserved ≤ t.sec.mres) ∧
    s.persist.rcount ≤ t.persist.rcount ∧ s.nvm.retired <:+ t.nvm.retired ∧ s.out <+: t.out

/-- TIME_HWM never falls: no command but a Kettle cold start and the release of a reset (which sets it after a cold start, R461)
lowers it, and an idle cycle does not. -/
def Obligations.HighWaterMarkNeverFalls : Prop :=
  (∀ (c : Instr) (s t : State), c ≠ .kettleColdStart → (∀ x, c ≠ .resetRelease x) → exec c s = .next t → s.ket.hwm ≤ t.ket.hwm) ∧
  (∀ s t : State, s.pending = [] → step s = .next t → s.ket.hwm ≤ t.ket.hwm) ∧
  (∀ (s t : State) (x : Straps), s.ket.valid = true → exec (.resetRelease x) s = .next t → s.ket.hwm ≤ t.ket.hwm)

/-! ### Resets, power failure and start-up (chapters 2 and 21) -/

/-- A supply out of range for longer than 2 us, the end of the save of a full reset and the end of a last gasp put the device into
reset: every register outside the Kettle block, NVM_RETIRED and the sampled straps reads its reset value, records, rings, bank memory
and link are lost, while the Kettle, the stored keys, the debug fuse, the last visible SEQ of every ring and the retired slots stay
(Table 21-2); an excursion shorter than 0.5 us does nothing. -/
def Obligations.ResetsLoseAndKeep : Prop :=
  (∀ (s : State) (ns : Nat), 2000 < ns → s.rst.phase ≠ .por →
    ∃ t, exec (.powerOnReset ns) s = .next t ∧ t.rst.phase = .por ∧ t.rst.cause = 0 ∧ s.ResetLeaves t) ∧
  (∀ s : State, s.rst.phase = .saving →
    ∃ t, exec .fullResetSaveDone s = .next t ∧ t.rst.phase = .inReset ∧ t.rst.cause = s.rst.cause ∧ s.ResetLeaves t) ∧
  (∀ s : State, s.rst.phase = .gasp →
    ∃ t, exec .lastGaspSaveDone s = .next t ∧ t.rst.phase = .gaspHeld ∧ t.rst.cause = s.rst.cause ∧ s.ResetLeaves t) ∧
  (∀ (s : State) (ns : Nat), ns < 500 → exec (.powerOnReset ns) s = .next s)

/-- From operation, RESET_N or PERST_N low for 1 us or longer, a hot reset on a link that is up, the watchdog of a wedge with
GRACE set, and FULL_RESET on the CMD ring each begin the save of a full reset with the cause of Table 21-1; a low pulse below
0.5 us does nothing; during a save only the cause changes. -/
def Obligations.FullResetSources : Prop :=
  (∀ (s : State) (ns : Nat), 1000 ≤ ns → s.rst.phase = .ready →
    (∃ t, exec (.resetNAssert ns) s = .next t ∧ t.rst.phase = .saving ∧ t.rst.cause = 1 ∧ t.cmd = {}) ∧
    (∃ t, exec (.perstNAssert ns) s = .next t ∧ t.rst.phase = .saving ∧ t.rst.cause = 2 ∧ t.cmd = {})) ∧
  (∀ s : State, s.rst.phase = .ready → s.gb LINK_STAT_UP = true →
    ∃ t, exec .hotReset s = .next t ∧ t.rst.phase = .saving ∧ t.rst.cause = 3 ∧ t.cmd = {}) ∧
  (∀ (s : State) (c : Cmd), s.executes 0x0F c →
    ∃ t, exec .fullReset s = .next t ∧ t.rst.phase = .saving ∧ t.rst.cause = 4 ∧ t.cmd = {}) ∧
  (∀ s : State, s.rst.phase = .ready → s.gf WDOG_STAT_WEDGED ≠ 0 → s.gf WDOG_CTRL_GRACE ≠ 0 →
    ∃ t, exec .watchdogReset s = .next t ∧ t.rst.phase = .saving ∧ t.rst.cause = 5 ∧ t.cmd = {}) ∧
  (∀ (s : State) (ns : Nat), ns < 500 → exec (.resetNAssert ns) s = .next s ∧ exec (.perstNAssert ns) s = .next s) ∧
  (∀ (s : State) (ns : Nat), 1000 ≤ ns → s.rst.phase = .saving →
    exec (.resetNAssert ns) s = .next { s with rst := { s.rst with cause := 1 } } ∧
    exec (.perstNAssert ns) s = .next { s with rst := { s.rst with cause := 2 } })

/-- Once every main supply has been in range for 1 ms the device waits in reset for its release; after a last gasp the release of
PFI does the same, with the cause of a power-on reset; the reference sets REF_RDY and no other register while the device is not in
reset and, at start-up, the house converter has made its conversions (R516). -/
def Obligations.SuppliesAndReference : Prop :=
  (∀ s : State, s.rst.phase = .por →
    exec .porSuppliesSettled s = .next { s with rst := { s.rst with phase := .inReset } }) ∧
  (∀ s : State, s.rst.phase = .gaspHeld →
    exec .pfiReleaseRestart s = .next { s with rst := { s.rst with phase := .inReset, cause := 0, gasped := false } }) ∧
  (∀ s : State, s.inReset = false → (s.rst.phase = .startup → s.rst.sarDone = true) →
    ∃ t, exec .refReady s = .next t ∧ t.gf AFE_REF_REF_RDY = 1 ∧ t = { s with regs := t.regs } ∧
      ∀ f : Fld, f.key ≠ AFE_REF_REF_RDY.key → t.gf f = s.gf f)

/-- At the release of a reset with TESTEN low the straps are sampled into STRAP, with 0b11 marked as a reserved mode, the device is in
start-up, the next reservation of MCOUNT is asked of the store, a stored zeroise demand is carried out, device time is reloaded
(RELOADED), and the channel check and SARCAL run; with TESTEN high the device does not start (R38). -/
def Obligations.ReleaseStartsUp : Prop :=
  (∀ (s : State) (x : Straps), s.rst.phase = .inReset → x.testen = false →
    ∃ t, exec (.resetRelease x) s = .next t ∧ t.rst.phase = .startup ∧
      t.gf STRAP_MODE = x.mode.val ∧ t.gb STRAP_IOV0 = x.iov0 ∧ t.gb STRAP_IOV1 = x.iov1 ∧ t.gb STRAP_CORECLK_SEL = x.coreclkSel ∧
      t.gb STRAP_MODE_RSVD = decide (x.mode.val = 3) ∧ t.sec.mres = s.sec.mres ∧ t.sec.mdue = true ∧
      (s.ket.zeroDemand = true → t.sec.zeroised = true ∧ t.ket.zeroDemand = false) ∧
      (s.ket.valid = true → t.time.t = s.ket.time * 2 ^ 32) ∧ t.gb TIME_STATUS_RELOADED = true ∧
      t.gb AFE_CHK_STATUS_BUSY = true ∧ t.gb SAR_CAL_STATUS_BUSY = true) ∧
  (∀ (s : State) (x : Straps), s.rst.phase = .inReset → x.testen = true →
    exec (.resetRelease x) s = .next { s with rst := { s.rst with testen := true } })

/-- When every step of the start-up has ended the device becomes ready and a full reset (a cause other than 0) is counted; with an
active slice, RST_STAT shows READY, the cause of the reset and whether a save was applied, RST_TREADY holds device time at
readiness, and the banks and lanes that failed their tests are fenced beside the units that were. -/
def Obligations.StartUpEndsReady : Prop :=
  ∀ (s : State) (dt : Nat) (bb : List (Fin 64)) (bl : List (Fin 2)), s.startReady = true →
    ∃ t, exec (.startupReady dt bb bl) s = .next t ∧ t.rst.phase = .ready ∧
      t.persist.rcount = s.persist.rcount + (if s.rst.cause = 0 then 0 else 1) ∧
      (s.gf SLICE_STAT_ACTIVE ≠ 3 → t.gb RST_STAT_READY = true ∧ t.gf RST_STAT_CAUSE = s.rst.cause % 8 ∧
        t.gb RST_STAT_SAVED = s.rst.saved ∧ t.g64 RST_TREADY_LO_FRAC RST_TREADY_HI_SEC = max s.time.t (dt * 2 ^ 32) / 2 ^ 32 % 2 ^ 64 ∧
        (∀ b ∈ bb, t.bankFenced b = true) ∧ (∀ k ∈ bl, t.mbit FENCE_MISC_LANE k = true))

/-- A high level on PFI of 1 us or longer registers in operation: the last gasp starts and the house converter runs an urgent conversion, or holds that of PFI for its turn; one shorter than
0.5 us is ignored; one between may or may not register (a free bit decides); in reset PFI has no effect
whatever its length; during a save of either kind the save goes on and an urgent conversion runs or waits (R409). -/
def Obligations.PfiRegisters : Prop :=
  (∀ (s : State) (ns : Nat), 1000 ≤ ns → s.rst.phase = .ready →
    ∃ t, exec (.pfiRegister ns) s = .next t ∧ t.rst.phase = .gasp ∧ t.rst.gasped = true ∧ t.cmd = {} ∧
      (t.sar.urg.isSome = true ∨ t.sar.wPfi = some (s.gf HSAR_URG_PFI_INPUT))) ∧
  (∀ (s : State) (ns : Nat), ns < 500 → exec (.pfiRegister ns) s = .next s) ∧
  (∀ (s : State) (ns : Nat), 500 ≤ ns → ns < 1000 → s.rst.phase = .ready →
    ∃ t, exec (.pfiRegister ns) s = .next t ∧ t.rst.phase = (if Config.freeBool s.free then .gasp else .ready)) ∧
  (∀ (s : State) (ns : Nat), s.rst.phase = .por ∨ s.rst.phase = .inReset ∨ s.rst.phase = .gaspHeld →
    ∃ t, exec (.pfiRegister ns) s = .next t ∧ t.rst = s.rst ∧ t.sar = s.sar ∧ t.nvm = s.nvm ∧ t.regs = s.regs) ∧
  (∀ (s : State) (ns : Nat), 1000 ≤ ns → s.rst.phase = .saving ∨ s.rst.phase = .gasp →
    ∃ t, exec (.pfiRegister ns) s = .next t ∧ t.rst = s.rst ∧ t.nvm = s.nvm ∧
      (t.sar.urg.isSome = true ∨ t.sar.wPfi = some (s.gf HSAR_URG_PFI_INPUT)))

/-! ### Halts and lost clocks (R15, R16, R142, R143, R500) -/

/-- When the XO stops, and likewise when the META PLL loses lock, device time stands still at its value, HALTED is set, both PLLs show
no lock, XO_STOPPED is set and the halt is counted. When the XO runs again HALTED is cleared, both PLLs show lock and XO_RESUMED is
set. Device time is then reloaded from the Kettle at its next RTC edge, RELOADED is set, and device time runs. -/
def Obligations.HaltsFreezeTime : Prop :=
  (∀ s : State, s.isReady = true → s.time.frozen = false →
    ∃ t, exec .xoHalt s = .next t ∧ exec .metaPllUnlock s = .next t ∧ t.time.frozen = true ∧ t.time.haltT = s.now ∧ t.time.t = s.time.t ∧ t.gb TIME_STATUS_HALTED = true ∧
      t.gb CLK_STAT_META_LOCK = false ∧ t.gb CLK_STAT_TPLL_LOCK = false ∧ t.gb CLK_EVT_XO_STOPPED = true ∧
      t.gf HALT_STAT_COUNT = min (s.gf HALT_STAT_COUNT + 1) (2 ^ HALT_STAT_COUNT.w - 1)) ∧
  (∀ s : State, s.isReady = true → s.gb TIME_STATUS_HALTED = true →
    ∃ t, exec .xoResume s = .next t ∧ t.gb TIME_STATUS_HALTED = false ∧ t.gb CLK_STAT_XO_HALT = false ∧ t.gb CLK_STAT_META_LOCK = true ∧
      t.gb CLK_STAT_TPLL_LOCK = true ∧ t.gb CLK_EVT_XO_RESUMED = true ∧ t.time.t = s.time.t) ∧
  (∀ (s : State) (k : Nat), s.isReady = true → s.time.frozen = true → s.gb TIME_STATUS_HALTED = false → s.time.haltDue = false →
    ∃ t, exec (.haltTimeReload k) s = .next t ∧ t.time.frozen = false ∧ t.time.t = (s.ketRun k).ket.time * 2 ^ 32 ∧
      t.gb TIME_STATUS_RELOADED = true ∧
      t.gf HALT_LAST_SEC = min (((s.ketRun k).ket.time - s.time.haltT) / 2 ^ 32) (2 ^ 32 - 1))

/-- A TPLL that loses lock clears TPLL_LOCK and, with a pair enabled, sets TPLL_UNLOCK; when it relocks TPLL_LOCK is set and nothing
else changes. When REFCLK stops REFCLK_LOST is set and the link is lost; a CORE that runs from it loses its lock, switches to XO and
notes CORE_SWITCH. A CORE PLL that loses lock leaves CORE without a clock until it relocks. -/
def Obligations.LocksLostAndFound : Prop :=
  (∀ s : State, s.isReady = true → s.time.frozen = false → s.gb CLK_STAT_TPLL_LOCK = true →
    ∃ t, exec .tpllUnlock s = .next t ∧ t.gb CLK_STAT_TPLL_LOCK = false ∧
      ((List.range 8).any s.tsOn = true → t.gb CLK_EVT_TPLL_UNLOCK = true) ∧
      ((List.range 8).any s.tsOn = false → t.gf CLK_EVT_TPLL_UNLOCK = s.gf CLK_EVT_TPLL_UNLOCK)) ∧
  (∀ s : State, s.isReady = true → s.time.frozen = false →
    ∃ t, exec .tpllRelock s = .next t ∧ t = { s with regs := t.regs } ∧ t.gb CLK_STAT_TPLL_LOCK = true ∧
      ∀ f : Fld, f.key ≠ CLK_STAT_TPLL_LOCK.key → t.gf f = s.gf f) ∧
  (∀ s : State, s.isReady = true → s.spiOnly = false → s.gb CLK_STAT_REFCLK_LOST = false →
    ∃ t, exec .refclkStop s = .next t ∧ t.gb CLK_STAT_REFCLK_LOST = true ∧ t.gb LINK_STAT_UP = false ∧ t.gb LINK_STAT_LOST = true ∧
      (s.gb CLK_STAT_CORE_SRC = false → t.gb CLK_STAT_CORE_SRC = true ∧ t.gb CLK_STAT_CORE_LOCK = false ∧
        t.gb CLK_EVT_CORE_SWITCH = true ∧ t.time.coreStop = true)) ∧
  (∀ s : State, s.isReady = true →
    ∃ t, exec .corePllUnlock s = .next t ∧ t.gb CLK_STAT_CORE_LOCK = false ∧ t.time.coreStop = true) ∧
  (∀ s : State, s.isReady = true → s.time.coreStop = true → s.time.lateHalt = false →
    ∃ t, exec .corePllRelock s = .next t ∧ t.gb CLK_STAT_CORE_LOCK = true ∧ t.time.coreStop = false)

/-! ### Device time: PPS, SET_TIME, shadow spans, leap seconds, ticks (R124 to R135) -/

/-- While the discipline is enabled and device time runs, an edge that lies within 500 us of one second after the last accepted edge,
or the first one, is accepted: it is counted, PPS_LAST holds its timestamp (the edge less PPS_OFFSET) and PPS_ERR its distance from
the nearest whole second, and an edge 1 us or more off restarts the count of good edges and leaves the state ACQUIRE. Any other edge is
counted as rejected and the last accepted edge stays (what the window is, and that a first edge is accepted, is log entry 25). -/
def Obligations.PpsEdges : Prop :=
  (∀ (s : State) (u : Nat), s.isReady = true → s.gb TIME_CTRL_PPS_EN = true → s.time.frozen = false → s.time.atPps = none →
    (∀ l, s.time.lastEdge = some l → (((((u : Int) - nsTime (s.gi PPS_OFFSET_OFS)).toNat : Nat) : Int) - (l : Int) - 2 ^ 32).natAbs * 2000 ≤ 2 ^ 32) →
    ∃ t, exec (.ppsEdge u) s = .next t ∧ t.gf PPS_CNT_ACCEPTED = (s.gf PPS_CNT_ACCEPTED + 1) % 2 ^ PPS_CNT_ACCEPTED.w ∧
      t.time.lastEdge = some ((u : Int) - nsTime (s.gi PPS_OFFSET_OFS)).toNat ∧
      t.g64 PPS_LAST_LO_FRAC PPS_LAST_HI_SEC = ((u : Int) - nsTime (s.gi PPS_OFFSET_OFS)).toNat % 2 ^ 64 ∧
      (belowUs (t.gi PPS_ERR_E * 2 ^ 32) = false → t.time.good = 0 ∧ t.gf TIME_STATUS_STATE = 1 ∧ t.gb TIME_STATUS_STEP_NEEDED = true) ∧
      (belowUs (t.gi PPS_ERR_E * 2 ^ 32) = true → t.time.good = s.time.good + 1 ∧ t.gb TIME_STATUS_STEP_NEEDED = false)) ∧
  (∀ (s : State) (u l : Nat), s.isReady = true → s.gb TIME_CTRL_PPS_EN = true → s.time.frozen = false → s.time.lastEdge = some l →
    2 ^ 32 < (((((u : Int) - nsTime (s.gi PPS_OFFSET_OFS)).toNat : Nat) : Int) - (l : Int) - 2 ^ 32).natAbs * 2000 →
    ∃ t, exec (.ppsEdge u) s = .next t ∧ t.gf PPS_CNT_REJECTED = (s.gf PPS_CNT_REJECTED + 1) % 2 ^ PPS_CNT_REJECTED.w ∧
      t.time.lastEdge = some l ∧ t.gf PPS_CNT_ACCEPTED = s.gf PPS_CNT_ACCEPTED)

/-- When a slew ends SLEWING is cleared and device time stays as it is; a locked discipline without edges enters HOLDOVER and keeps
ADJ; a write of TIME_CTRL inside a seal session sets PPS_EN and LOOP, and disabling the discipline leaves its state FREE; outside a
session a write that would change TIME_CTRL changes nothing there. -/
def Obligations.DisciplineCommands : Prop :=
  (∀ s : State, s.isReady = true → s.time.frozen = false → s.time.slew ≠ 0 →
    ∃ t, exec .slewEnd s = .next t ∧ t.time.slew = 0 ∧ t.time.slewLeft = 0 ∧ t.gb TIME_STATUS_SLEWING = false ∧ t.time.t = s.time.t) ∧
  (∀ s : State, s.isReady = true → s.time.frozen = false → s.gf TIME_STATUS_STATE = 2 →
    ∃ t, exec .holdoverEntry s = .next t ∧ t.gf TIME_STATUS_STATE = 3 ∧ t.gf TIME_ADJ_ADJ = s.gf TIME_ADJ_ADJ) ∧
  (∀ (s : State) (p : Port) (v : Word), s.serving = true → s.sealOpen p = true →
    v.toNat % 2 ≠ s.gf TIME_CTRL_PPS_EN ∨ v.toNat / 2 % 16 ≠ s.gf TIME_CTRL_LOOP →
    ∃ t, exec (.timeCtrlWrite p v) s = .next t ∧ t.gb TIME_CTRL_PPS_EN = v.toNat.testBit 0 ∧ t.gf TIME_CTRL_LOOP = v.toNat / 2 % 16 ∧
      (v.toNat.testBit 0 = false → s.gb TIME_CTRL_PPS_EN = true → t.gf TIME_STATUS_STATE = 0)) ∧
  (∀ (s : State) (p : Port) (v : Word), s.serving = true → s.sealOpen p = false →
    v.toNat % 2 ≠ s.gf TIME_CTRL_PPS_EN ∨ v.toNat / 2 % 16 ≠ s.gf TIME_CTRL_LOOP →
    ∃ t, exec (.timeCtrlWrite p v) s = .next t ∧ t.gf TIME_CTRL_PPS_EN = s.gf TIME_CTRL_PPS_EN ∧ t.gf TIME_CTRL_LOOP = s.gf TIME_CTRL_LOOP)

/-- A SET_TIME whose block is accepted and which nothing holds back: NOW and OFFSET complete OK with STEP_NEEDED and RELOADED cleared,
and a change of 1 us or more is a step that leaves device time at the value given, or changed by the offset and what remained of a
slew; AT_PPS waits with its seconds and goes on executing; LEAP completes OK and arms or cancels the leap second in LEAP_AT and
LEAP_CTRL. An AT_PPS that meets no edge completes NO_PPS. -/
def Obligations.SetTimeModes : Prop :=
  (∀ (s : State) (c : Cmd) (b : List Byte), s.executes 0x0A c → s.SetTimeReady b c → leAt c.entry 0x10 1 = 0 →
    ∃ t, exec (.setTimeNow b) s = .next t ∧ t.completed c 0 ∧ t.gb TIME_STATUS_STEP_NEEDED = false ∧ t.gb TIME_STATUS_RELOADED = false ∧
      (belowUs (((leAt c.entry 0x18 8 * 2 ^ 32 : Nat) : Int) - (s.time.t : Int)) = false → t.now = leAt c.entry 0x18 8)) ∧
  (∀ (s : State) (c : Cmd) (b : List Byte), s.executes 0x0A c → s.SetTimeReady b c → leAt c.entry 0x10 1 = 1 →
    ∃ t, exec (.setTimeAtPps b) s = .next t ∧ t.time.atPps = some (leAt c.entry 0x18 8 / 2 ^ 32) ∧ t.cmd = s.cmd ∧ t.time.t = s.time.t) ∧
  (∀ (s : State) (c : Cmd) (b : List Byte), s.executes 0x0A c → s.SetTimeReady b c → leAt c.entry 0x10 1 = 2 →
    ∃ t, exec (.setTimeOffset b) s = .next t ∧ t.completed c 0 ∧ t.gb TIME_STATUS_STEP_NEEDED = false ∧ t.gb TIME_STATUS_RELOADED = false ∧
      (belowUs (toSigned 64 (leAt c.entry 0x18 8) * 2 ^ 32 + s.slewRest) = false →
        t.time.t = ((s.time.t : Int) + (toSigned 64 (leAt c.entry 0x18 8) * 2 ^ 32 + s.slewRest)).toNat)) ∧
  (∀ (s : State) (c : Cmd) (b : List Byte), s.executes 0x0A c → s.SetTimeReady b c → leAt c.entry 0x10 1 = 3 →
    ∃ t, exec (.setTimeLeap b) s = .next t ∧ t.completed c 0 ∧ t.gf LEAP_AT_SEC = leAt c.entry 0x18 8 / 2 ^ 32 ∧
      t.gb TIME_STATUS_LEAP_PEND = decide (leAt c.entry 0x18 8 / 2 ^ 32 ≠ 0) ∧
      (leAt c.entry 0x18 8 / 2 ^ 32 ≠ 0 → t.gb LEAP_CTRL_SIGN = (leAt c.entry 0x18 8).testBit 0) ∧ t.time.t = s.time.t) ∧
  (∀ (s : State) (c : Cmd), s.executes 0x0A c → s.time.atPps.isSome = true → s.time.frozen = false →
    ∃ t, exec .atPpsTimeout s = .next t ∧ t.completed c 8 ∧ t.time.atPps = none ∧ t.time.t = s.time.t)

/-- When device time reaches TIME_HWM, SHADOW is cleared. An armed leap second takes effect as a step at its midnight, a deleted
second one second before it: device time is moved by one second and nothing stays armed. A 10-min tick brings device time to the next
multiple of 600 s after the last tick taken, and is marked as taken. -/
def Obligations.TimeEvents : Prop :=
  (∀ s : State, s.isReady = true → s.gb TIME_STATUS_SHADOW = true → s.time.frozen = false →
    ∃ t, exec .shadowSpanEnd s = .next t ∧ t.gb TIME_STATUS_SHADOW = false ∧ t.time.t = max s.time.t (s.ket.hwm * 2 ^ 32)) ∧
  (∀ s : State, s.isReady = true → s.gb TIME_STATUS_LEAP_PEND = true → s.time.frozen = false → s.time.slew = 0 →
    ∃ t, exec .leapSecond s = .next t ∧ t.gb TIME_STATUS_LEAP_PEND = false ∧ t.gf LEAP_AT_SEC = 0 ∧ t.gb LEAP_CTRL_SIGN = false ∧
      (s.gb LEAP_CTRL_SIGN = true → t.time.t = max s.time.t ((s.gf LEAP_AT_SEC - 1) * 2 ^ 64) + 2 ^ 64) ∧
      (s.gb LEAP_CTRL_SIGN = false → t.time.t = max s.time.t (s.gf LEAP_AT_SEC * 2 ^ 64) - 2 ^ 64)) ∧
  (∀ s : State, s.isReady = true → s.time.frozen = false → s.time.lastTick ≤ s.now →
    ∃ t, exec .tenMinTick s = .next t ∧ t.time.lastTick % (600 * 2 ^ 32) = 0 ∧ s.time.lastTick < t.time.lastTick ∧
      t.time.t = max s.time.t (t.time.lastTick * 2 ^ 32))

/-! ### Front end, profiles, thresholds, samples, START and STOP (chapters 1, 3, 4 and 6) -/

/-- Inside a seal session of its port a write of AFE_CHn_CFG of a present channel of a stopped group, with a gain and a sensor code that
the channel has, sets EN, GAIN (0 for a voltage channel), SENSOR and INTEG_FNOM; a change of the reference while no channel runs sets
SEL and clears REF_RDY; a change of a profile of a stopped group sets PROFILE and shows its group delay in TAU. While the group runs a
change of the profile is refused with PROF_ERR.CFG_RUNNING. Outside a session none of the sealed fields changes. -/
def Obligations.SealedFrontEndSettings : Prop :=
  (∀ (s : State) (p : Port) (n : Fin 16) (v : Word), s.serving = true → s.sealOpen p = true → s.chPresent n = true →
    (s.grp[grpOf n]).running = false → (isVoltage n = true → v.toNat / 16 % 4 = 0) → (isVoltage n = false → v.toNat / 2 % 8 < 6) →
    ∃ t, exec (.afeChCfgWrite p n v) s = .next t ∧ t.gf (AFE_CH_CFG_EN n) = v.toNat % 2 ∧
      t.gf (AFE_CH_CFG_GAIN n) = (if isVoltage n then 0 else v.toNat / 2 % 8) ∧ t.gf (AFE_CH_CFG_SENSOR n) = v.toNat / 16 % 4 ∧
      t.gf (AFE_CH_CFG_INTEG_FNOM n) = v.toNat / 64 % 2) ∧
  (∀ (s : State) (p : Port) (v : Word), s.serving = true → s.sealOpen p = true → (List.range 16).any s.chRuns = false →
    v.toNat % 2 ≠ s.gf AFE_REF_SEL →
    ∃ t, exec (.afeRefSelWrite p v) s = .next t ∧ t.gf AFE_REF_SEL = v.toNat % 2 ∧ t.gb AFE_REF_REF_RDY = false) ∧
  (∀ (s : State) (p : Port) (n : Fin 16) (v : Word), s.serving = true → s.sealOpen p = true → s.chPresent n = true →
    (s.grp[grpOf n]).running = false → profOk (v.toNat % 16) = true → v.toNat % 16 ≠ s.gf (PROF_CH_CFG_PROFILE n) →
    ∃ t, exec (.profCfgWrite p n v) s = .next t ∧ t.gf (PROF_CH_CFG_PROFILE n) = v.toNat % 16 ∧
      t.regVal (0x400 + 4 * n.val) = v.toNat % 16 + 2 ^ 16 * profTau (v.toNat % 16)) ∧
  (∀ (s : State) (p : Port) (n : Fin 16) (v : Word), s.serving = true → s.sealOpen p = true → s.chPresent n = true →
    (s.grp[grpOf n]).running = true → v.toNat % 16 ≠ s.gf (PROF_CH_CFG_PROFILE n) →
    ∃ t, exec (.profCfgWrite p n v) s = .next t ∧ t.gf (PROF_CH_CFG_PROFILE n) = s.gf (PROF_CH_CFG_PROFILE n) ∧
      t.gb PROF_ERR_CFG_RUNNING = true) ∧
  (∀ (s : State) (p : Port) (n : Fin 16) (v : Word), s.sealOpen p = false →
    (∀ t, exec (.afeChCfgWrite p n v) s = .next t → t.gf (AFE_CH_CFG_GAIN n) = s.gf (AFE_CH_CFG_GAIN n) ∧
      t.gf (AFE_CH_CFG_SENSOR n) = s.gf (AFE_CH_CFG_SENSOR n) ∧ t.gf (AFE_CH_CFG_INTEG_FNOM n) = s.gf (AFE_CH_CFG_INTEG_FNOM n)) ∧
    (∀ t, exec (.afeRefSelWrite p v) s = .next t → t.gf AFE_REF_SEL = s.gf AFE_REF_SEL) ∧
    (∀ t, exec (.profCfgWrite p n v) s = .next t → t.gf (PROF_CH_CFG_PROFILE n) = s.gf (PROF_CH_CFG_PROFILE n)))

/-- GO starts a check of the named channels that neither run nor wait for a START and are present, clears the results of every named
channel and sets BUSY; with a channel left out, or while BUSY, CHK_REJECT is set. The selectors leave NORMAL at once, and SHORTED and
REFCHK when every channel under check has given there the discarded sample and 2^NAVG more, whose means are kept. With one tone
period in TONE the check ends: BUSY is cleared and DONE set, and every channel under check has its result: VALID, the limits of
SHORTED, REFCHK and TONE, and its bit of FAILMASK when one of them is missed. -/
def Obligations.ChannelCheck : Prop :=
  (∀ (s : State) (v : Word), s.serving = true → s.gb AFE_CHK_STATUS_BUSY = false → v.toNat.testBit 20 = true →
    ∃ t, exec (.afeCheckGo v) s = .next t ∧ t.gb AFE_CHK_STATUS_BUSY = true ∧ t.chk.pos = 0 ∧
      (∀ n : Fin 16, t.chk.mask.testBit n = (v.toNat.testBit n && !(s.chRuns n || !s.chPresent n || s.startPending (n.val / 8)))) ∧
      (∀ n : Fin 16, v.toNat.testBit n = true → t.gb (AFE_CHK_RES_VALID n) = false) ∧
      ((∃ n : Fin 16, v.toNat.testBit n = true ∧ s.chRuns n = true) → t.gb AFE_ERR_CHK_REJECT = true)) ∧
  (∀ (s : State) (v : Word), s.serving = true → s.gb AFE_CHK_STATUS_BUSY = true → v.toNat.testBit 20 = true →
    ∃ t, exec (.afeCheckGo v) s = .next t ∧ t.gb AFE_ERR_CHK_REJECT = true ∧ t.chk = s.chk) ∧
  (∀ (s : State) (codes : List (List Int)), s.gb AFE_CHK_STATUS_BUSY = true → s.chk.pos = 0 →
    exec (.checkSelectorMove codes) s = .next { s with chk := { s.chk with pos := 1 } }) ∧
  (∀ (s : State) (codes : List (List Int)), s.gb AFE_CHK_STATUS_BUSY = true → s.chk.full s.chk.count codes = true →
    (s.chk.pos = 1 → ∃ t, exec (.checkSelectorMove codes) s = .next t ∧ t.chk = { s.chk with pos := 2, ofs := s.chkMeans codes } ∧ t.regs = s.regs) ∧
    (s.chk.pos = 2 → ∃ t, exec (.checkSelectorMove codes) s = .next t ∧ t.chk = { s.chk with pos := 3, ref := s.chkMeans codes } ∧ t.regs = s.regs)) ∧
  (∀ (s : State) (codes : List (List Int)), s.gb AFE_CHK_STATUS_BUSY = true → s.chk.pos = 3 → s.chk.full s.chk.period codes = true →
    s.sarSettled = true →
    ∃ t, exec (.afeCheckDone codes) s = .next t ∧ t.gb AFE_CHK_STATUS_BUSY = false ∧ t.gb AFE_CHK_STATUS_DONE = true ∧
      t.chk = {} ∧
      ∀ n : Fin 16, s.chk.mask.testBit n = true → t.gb (AFE_CHK_RES_VALID n) = true ∧
        t.gb (AFE_CHK_RES_OFS_FAIL n) = decide (4194 < (s.chk.ofs.getD n 0).natAbs) ∧
        t.gb (AFE_CHK_RES_TONE_FAIL n) = chkToneFail (chkSpan (codes.getD n [])) ∧
        t.mbit AFE_CHK_STATUS_FAILMASK n = (chkOfsFail (s.chk.ofs.getD n 0) || chkRefFail (s.chk.ref.getD n 0) (s.gf AFE_REF_VREF_MEAS) ||
          chkToneFail (chkSpan (codes.getD n []))))

/-- A comparator whose persistence count was reached asserts (STATE and SEEN set) or deasserts (STATE cleared), and nothing of it stays
due. A write sets LEVEL of THR_HI or THR_LO and no other setting of the channel, or the fields of THR_CFG; what samples before it
decided is made first, and disabling a comparator clears its STATE. -/
def Obligations.Comparators : Prop :=
  (∀ (s : State) (n : Fin 16) (low : Bool), (((s.chan[n]).thr low).due).isSome = true → s.gb (thrState n low) = false →
    ∃ t, exec (.thresholdAssert n low) s = .next t ∧ t.gb (thrState n low) = true ∧ t.gb (thrSeen n low) = true ∧ ((t.chan[n]).thr low).due = none) ∧
  (∀ (s : State) (n : Fin 16) (low : Bool), (((s.chan[n]).thr low).due).isSome = true → s.gb (thrState n low) = true →
    ∃ t, exec (.thresholdDeassert n low) s = .next t ∧ t.gb (thrState n low) = false ∧ ((t.chan[n]).thr low).due = none) ∧
  (∀ (s : State) (n : Fin 16) (v : Word), s.serving = true → s.chPresent n = true →
    (∃ t, exec (.thresholdRegWrite n 0 v) s = .next t ∧ t.gf (THR_HI_LEVEL n) = v.toNat % 2 ^ 24 ∧ t.gf (THR_LO_LEVEL n) = s.gf (THR_LO_LEVEL n) ∧
      t.gf (THR_CFG_PERSIST n) = s.gf (THR_CFG_PERSIST n) ∧ ((t.chan[n]).thr false).due = none ∧ ((t.chan[n]).thr true).due = none) ∧
    (∃ t, exec (.thresholdRegWrite n 1 v) s = .next t ∧ t.gf (THR_LO_LEVEL n) = v.toNat % 2 ^ 24 ∧ t.gf (THR_HI_LEVEL n) = s.gf (THR_HI_LEVEL n) ∧
      t.gf (THR_CFG_PERSIST n) = s.gf (THR_CFG_PERSIST n) ∧ ((t.chan[n]).thr false).due = none ∧ ((t.chan[n]).thr true).due = none) ∧
    ∃ t, exec (.thresholdRegWrite n 2 v) s = .next t ∧ t.gf (THR_CFG_PERSIST n) = v.toNat % 256 ∧
      t.gb (THR_CFG_HI_EN n) = v.toNat.testBit 8 ∧ t.gb (THR_CFG_LO_EN n) = v.toNat.testBit 9 ∧ t.gb (THR_CFG_ABS n) = v.toNat.testBit 10 ∧
      t.gf (THR_CFG_HYST n) = v.toNat / 4096 % 2 ^ (THR_CFG_HYST n).w ∧
      (s.gb (THR_CFG_HI_EN n) = true → v.toNat.testBit 8 = false → t.gb (THR_STAT_HI_STATE n) = false) ∧
      (s.gb (THR_CFG_LO_EN n) = true → v.toNat.testBit 9 = false → t.gb (THR_STAT_LO_STATE n) = false))

/-- An output tick of a running group, the first after a START or a restart as any other, advances the group's SI and the SI of every
channel that the group runs by one and no other; the first one ends the wait for it. Discarded runs of a source that CORE could not
take become SMP gap records with the cause CORE_STALL once it runs again; one of a channel whose samples the slices hold waits behind them. A modulator found stuck fences its channel. -/
def Obligations.SampleIndices : Prop :=
  (∀ (s : State) (g : Fin 2) (xs : List ChIn) (vref : Rat), s.isReady = true → (s.grp[g]).running = true →
    (s.grp[g]).await = none → s.time.frozen = false →
    ∃ t, exec (.decimatorOutputSample g xs vref) s = .next t ∧ (t.grp[g]).si = (s.grp[g]).si + 1 ∧
      (∀ c : Fin 8, (t.chan[chanOf g c]).si = (s.chan[chanOf g c]).si + (if (s.grp[g]).mask.testBit c then 1 else 0)) ∧
      (∀ h : Fin 2, h ≠ g → (t.grp[h]).si = (s.grp[h]).si ∧ ∀ c : Fin 8, (t.chan[chanOf h c]).si = (s.chan[chanOf h c]).si)) ∧
  (∀ (s : State) (g : Fin 2) (k : Nat) (xs : List ChIn) (vref : Rat), s.isReady = true → (s.grp[g]).running = true →
    (s.grp[g]).await = some k → s.time.frozen = false →
    ∃ t, exec (.firstSampleDelivered g xs vref) s = .next t ∧ (t.grp[g]).await = none ∧ (t.grp[g]).si = (s.grp[g]).si + 1 ∧
      (∀ c : Fin 8, (t.chan[chanOf g c]).si = (s.chan[chanOf g c]).si + (if (s.grp[g]).mask.testBit c then 1 else 0))) ∧
  (∀ (s : State) (n : Fin 24), s.isReady = true → s.time.coreStop = false →
    ∃ t, exec (.coreStallGapRecord n) s = .next t ∧
      (∀ k : Fin 16, k.val = n.val → (t.chan[k]).lost = [] ∧
        (s.spiOnly = false → (s.chan[k]).lost ≠ [] → (s.grp[grpOf k]).shadow = none →
          ∃ r ∈ (t.chan[k]).wait ++ t.formed.drop s.formed.length, r.cls = clsSMP ∧ r.aux = gapCoreStall)) ∧
      (∀ k : Fin 8, k.val + 16 = n.val → (t.ts k).lost = [] ∧
        (s.spiOnly = false → (∃ r ∈ (s.ts k).lost, 0 < r.2) → (s.ts k).shadow = none →
          ∃ r ∈ t.formed.drop s.formed.length, r.cls = clsSMP ∧ r.aux = gapCoreStall))) ∧
  (∀ (s : State) (n : Fin 16), s.isReady = true → s.chRuns n = true → s.time.frozen = false → s.chPresent n = true →
    ∃ t, exec (.stuckModulatorFence n) s = .next t ∧ t.chFenced n = true ∧ t.mbit AFE_ERR_STUCK n = true ∧
      (t.grp[grpOf n]).fenced.testBit (n.val % 8) = true)

/-- START of one group that may start makes it run with its enabled channels, waiting for its first sample, and completes OK (its
completion waits for the first samples). While the reference is not ready, a channel of a named group is under check or a switch-over
runs, START waits and changes nothing. START of a stopped group with no channel that is enabled and present completes REFUSED and the
group does not run. STOP ends the production of every group that it names, and no other, and completes. -/
def Obligations.StartAndStop : Prop :=
  (∀ (s : State) (c : Cmd) (g : Fin 2), s.executes 1 c → leAt c.entry 0x10 1 = 2 ^ g.val → s.startHeld (2 ^ g.val) = false → s.StartReady g →
    ∃ t, exec .start s = .next t ∧ t.completed c 0 ∧ (t.grp[g]).running = true ∧ (t.grp[g]).await = some 0 ∧ (t.grp[g]).mask = s.startMask g ∧
      (t.grp[g]).si = (s.grp[g]).si) ∧
  (∀ (s : State) (c : Cmd), s.executes 1 c → s.startHeld (leAt c.entry 0x10 1) = true → exec .start s = .next s) ∧
  (∀ (s : State) (c : Cmd) (g : Fin 2), s.executes 1 c → leAt c.entry 0x10 1 = 2 ^ g.val → s.startHeld (2 ^ g.val) = false →
    s.grpFused g = false → (s.grp[g]).running = false → s.startMask g = 0 →
    ∃ t, exec .start s = .next t ∧ t.completed c 3 ∧ (t.grp[g]).running = false) ∧
  (∀ (s : State) (c : Cmd), s.executes 2 c → s.switching = false →
    ∃ t, exec .stop s = .next t ∧ t.completed c (if (leAt c.entry 0x10 1).testBit 1 && s.grpFused 1 then 9 else 0) ∧
      ∀ g : Fin 2, (t.grp[g]).running = ((s.grp[g]).running && !(leAt c.entry 0x10 1).testBit g))

/-! ### Transient pairs, SARCAL, fast comparators and the house converter (chapter 5, R189 to R195, R209, R210) -/

/-- Setting EN of a present pair that SARCAL does not hold enables it when its calibration is VALID and refuses it with TSAR_ERR.UNCAL
when it is not; one that SARCAL holds stays enabled until it is applied. Clearing EN clears it and leaves ON and the other pairs' EN
as they are. -/
def Obligations.PairEnables : Prop :=
  (∀ (s : State) (m : BitVec 8), s.serving = true →
    ∃ t, exec (.tsarEnable m) s = .next t ∧ ∀ n : Fin 8, m.getLsbD n = true → s.trPresent n = true → s.tsEn n = false →
      (s.sar.calP.testBit n = true → t.tsEn n = true) ∧
      (s.sar.calP.testBit n = false → t.tsEn n = s.mbit SAR_CAL_STATUS_VALID n ∧
        (s.mbit SAR_CAL_STATUS_VALID n = false → t.mbit TSAR_ERR_UNCAL n = true))) ∧
  (∀ (s : State) (m : BitVec 8), s.serving = true →
    ∃ t, exec (.tsarDisable m) s = .next t ∧ t.gf TSAR_CTRL_ON = s.gf TSAR_CTRL_ON ∧
      ∀ n : Fin 8, t.tsEn n = (s.tsEn n && !m.getLsbD n))

/-- An enabled and calibrated pair with its clocks starts with its first sample and is ON; each sample of a running pair, its first too,
advances its transient index by one; a latch keeps the next index with its device time; a pair whose EN is cleared stops after a
sample of half B (where its samples end, stop) with ON and both comparator states cleared and its index kept. -/
def Obligations.PairSamples : Prop :=
  (∀ (s : State) (n : Fin 8) (u : Nat) (x : Int), s.isReady = true → s.tsEn n = true → s.tsOn n = false → s.sar.calP.testBit n = false →
    s.mbit SAR_CAL_STATUS_VALID n = true → s.gb CLK_STAT_TPLL_LOCK = true → s.gb TIME_STATUS_HALTED = false →
    ∃ t, exec (.tsarPairStart n u x) s = .next t ∧ t.tsOn n = true ∧ (t.ts n).idx = (s.ts n).idx + 1 ∧ (t.ts n).used = true) ∧
  (∀ (s : State) (n : Fin 8) (x : Int), s.isReady = true → s.tsOn n = true → (s.ts n).stop ≠ some (s.ts n).idx →
    s.gb CLK_STAT_TPLL_LOCK = true → s.gb TIME_STATUS_HALTED = false →
    ∃ t, exec (.transientSample n x) s = .next t ∧ (t.ts n).idx = (s.ts n).idx + 1 ∧ (t.ts n).prev = some (clampInt (-2048) 2047 x) ∧
      ∀ k : Fin 8, k ≠ n → (t.ts k).idx = (s.ts k).idx) ∧
  (∀ (s : State) (n : Fin 8) (u : Nat), s.isReady = true → s.tsOn n = true → s.gb TIME_STATUS_HALTED = false →
    ∃ t, exec (.transientAnchorLatch n u) s = .next t ∧ (t.ts n).lat = some ((s.ts n).idx, u) ∧ t.regs = s.regs) ∧
  (∀ (s : State) (n : Fin 8), s.isReady = true → s.tsOn n = true → s.tsEn n = false → (s.ts n).stop = some (s.ts n).idx →
    ∃ t, exec (.tsarPairStop n) s = .next t ∧ t.tsOn n = false ∧ t.gb (FAST_DVDT_LVL_STATE n) = false ∧ t.gb (FAST_DVDT_DVDT_STATE n) = false ∧
      (t.ts n).idx = (s.ts n).idx)

/-- A write of TSAR_MAP gives every present pair that is not enabled, or whose enable is held, the present channel that it names; the
field of an enabled one keeps its value and sets MAP_RUNNING, and a field that names an absent channel sets MAP_INVALID. GO of SARCAL sets BUSY and
calibrates the named present pairs that are neither enabled nor running, and the house converter where asked. When SARCAL ends BUSY is
cleared and DONE set, and each calibrated pair is VALID when its result meets every criterion, and marked FAIL when it does not. -/
def Obligations.MapAndCalibration : Prop :=
  (∀ (s : State) (v : Word), s.serving = true →
    ∃ t, exec (.tsarMapWrite v) s = .next t ∧ ∀ n : Fin 8, s.trPresent n = true →
      ((s.tsEn n && !s.sar.held.testBit n) = false → s.chPresent (v.toNat / 16 ^ n.val % 16) = true →
        t.gf (TSAR_MAP_CH n) = v.toNat / 16 ^ n.val % 16) ∧
      ((s.tsEn n && !s.sar.held.testBit n) = true → t.gf (TSAR_MAP_CH n) = s.gf (TSAR_MAP_CH n) ∧ t.mbit TSAR_ERR_MAP_RUNNING n = true) ∧
      (s.chPresent (v.toNat / 16 ^ n.val % 16) = false → t.gf (TSAR_MAP_CH n) = s.gf (TSAR_MAP_CH n) ∧ t.gb TSAR_ERR_MAP_INVALID = true)) ∧
  (∀ (s : State) (v : Word), s.serving = true → s.gb SAR_CAL_STATUS_BUSY = false → v.toNat.testBit 9 = true →
    ∃ t, exec (.sarcalGo v) s = .next t ∧ t.gb SAR_CAL_STATUS_BUSY = true ∧ t.sar.calH = v.toNat.testBit 8 ∧
      ∀ n : Fin 8, t.sar.calP.testBit n = (v.toNat.testBit n && !s.tsEn n && !s.tsOn n && s.trPresent n)) ∧
  (∀ (s : State) (pairs : List SarRes) (house : HsarRes) (temp : Int), s.gb SAR_CAL_STATUS_BUSY = true →
    s.sar.calH = false ∨ s.sar.urg = none → pairs.length = 8 →
    ∃ t, exec (.sarcalDone pairs house temp) s = .next t ∧ t.gb SAR_CAL_STATUS_BUSY = false ∧ t.gb SAR_CAL_STATUS_DONE = true ∧
      t.sar.calP = 0 ∧ ∀ (n : Fin 8) (x : SarRes), s.sar.calP.testBit n = true → pairs[n.val]? = some x →
        (sarPass x = true → t.mbit SAR_CAL_STATUS_VALID n = true ∧ t.mbit SAR_CAL_STATUS_FAIL n = false) ∧
        (sarPass x = false → t.mbit SAR_CAL_STATUS_FAIL n = true))

/-- Writes set LEVEL and HYST, STEP and the enables of a present pair's comparators, and disabling one clears its state; the hold of a
FASTEVT pin without an asserted comparator ends its state. The oldest entry of the fast event FIFO is taken, as a TRANSIENT record while
its second has not used up NMAX; what a second withheld gives a TBURST record. A completed run of 40 windows, or what is left of it,
gives its SUPRA record and moves the input's supraharmonic cover to its end. -/
def Obligations.FastPath : Prop :=
  (∀ (s : State) (n : Fin 8) (v : Word), s.serving = true → s.trPresent n = true →
    (∃ t, exec (.fastComparatorWrite (.lvl n) v) s = .next t ∧ t.gf (FAST_LVL_LEVEL n) = v.toNat % 2 ^ (FAST_LVL_LEVEL n).w ∧
      t.gf (FAST_LVL_HYST n) = v.toNat / 65536 % 2 ^ (FAST_LVL_HYST n).w) ∧
    (∃ t, exec (.fastComparatorWrite (.dvdt n) v) s = .next t ∧ t.gf (FAST_DVDT_STEP n) = v.toNat % 2 ^ (FAST_DVDT_STEP n).w ∧
      t.gb (FAST_DVDT_LVL_EN n) = v.toNat.testBit 16 ∧ t.gb (FAST_DVDT_DVDT_EN n) = v.toNat.testBit 17 ∧
      (v.toNat.testBit 16 = false → t.gb (FAST_DVDT_LVL_STATE n) = false) ∧ (v.toNat.testBit 17 = false → t.gb (FAST_DVDT_DVDT_STATE n) = false))) ∧
  (∀ (s : State) (m : Fin 2), s.fastAny m = false →
    ∃ t, exec (.fastevtHoldExpire m) s = .next t ∧ t.mbit FAST_PIN_CFG_STATE m = false) ∧
  (∀ (s : State) (e : FastEntry) (l : List FastEntry), s.sar.fastq = e :: l → s.forms = true → s.starved clsEVT = false → s.time.coreStop = false →
    (s.ts e.pair).time e.idx / 2 ^ 32 = (s.ts e.pair).sec → (s.ts e.pair).cnt < max 1 (s.gf TRN_CFG_NMAX) →
    ∃ t r, exec .transientRecord s = .next t ∧ t.sar.fastq = l ∧ (t.ts e.pair).cnt = (s.ts e.pair).cnt + 1 ∧
      t.formed.getLast? = some r ∧ r.cls = clsEVT ∧ r.aux = 0x20) ∧
  (∀ (s : State) (n : Fin 8), s.forms = true → s.starved clsEVT = false → (s.ts n).wl + (s.ts n).wd ≠ 0 →
    ∃ t r, exec (.tburstRecord n) s = .next t ∧ (t.ts n).wl = 0 ∧ (t.ts n).wd = 0 ∧ t.formed.getLast? = some r ∧ r.cls = clsEVT ∧ r.aux = 0x21) ∧
  (∀ (s : State) (n : Fin 8) (xs : List (List Rat)), s.forms = true → s.wedged 2 = false → s.supraOn.testBit n = true → s.tsOn n = true →
    (s.ts n).shadow = none → (s.ts n).lost = [] → (s.ts n).holes = [] → (s.ts n).supEnd + supPad ≤ (s.ts n).idx →
    xs.length = ((s.ts n).supEnd - (s.ts n).supNext) / supWin → xs.all (fun w => w.length == 5120) = true →
    ∃ t, exec (.supraRecordComplete n xs) s = .next t ∧ (t.ts n).supCov = (s.ts n).supEnd ∧
      ∃ r ∈ t.formed.drop s.formed.length, r.cls = clsSPC ∧ r.aux = 2)

/-- A tick starts the next pass at the first enabled entry and counts the entries that the last one left out. A conversion of an entry
without a post-filter publishes its result with VALID set and COUNT advanced; one of an entry with a post-filter enters its window
alone; either way the next enabled entry follows. A post-filter with enough windows publishes its value when its window has ended.
A write of an entry above 5 with known codes sets its INPUT, EN and ORDER; entries 0 to 5 stay as they are. -/
def Obligations.HouseConverter : Prop :=
  (∀ s : State, s.gb TIME_STATUS_HALTED = false → s.rst.phase ≠ .por → s.rst.phase ≠ .inReset → s.sar.calH = false →
    s.sar.boot = none → s.sar.urg = none →
    ∃ t, exec .hsarPassTick s = .next t ∧ t.sar.pass = s.sar.pass + 1 ∧ t.sar.pos = s.hsarNext 0 ∧
      t.gf HSAR_SEQ_CTRL_SKIPPED = min (s.gf HSAR_SEQ_CTRL_SKIPPED + s.hsarLeft) (2 ^ HSAR_SEQ_CTRL_SKIPPED.w - 1)) ∧
  (∀ (s : State) (i : Fin 32) (x : Int), s.sar.pos = some i.val → s.sar.boot = none → s.sar.urg = none → s.sar.calH = false →
    s.gb TIME_STATUS_HALTED = false →
    ∃ t, exec (.hsarConversionDone x) s = .next t ∧ t.sar.pos = s.hsarNext (i.val + 1) ∧
      (s.gf (HSAR_SEQ_ORDER i) = 0 → t.gf (HSAR_RES_VALUE i) = ofSigned (HSAR_RES_VALUE i).w x % 2 ^ (HSAR_RES_VALUE i).w ∧
        t.gb (HSAR_RES_VALID i) = true ∧ t.gf (HSAR_RES_COUNT i) = (s.gf (HSAR_RES_COUNT i) + 1) % 2 ^ (HSAR_RES_COUNT i).w) ∧
      (s.gf (HSAR_SEQ_ORDER i) ≠ 0 → t.gf (HSAR_RES_COUNT i) = s.gf (HSAR_RES_COUNT i) ∧
        (t.sar.flt[i]).cur = (s.sar.flt[i]).cur ++ [(s.sar.pass % s.hsarWin, x)])) ∧
  (∀ (s : State) (i : Fin 32) (x : Int), s.sar.pubDue.testBit i = true → s.gf (HSAR_SEQ_ORDER i) ≤ (s.sar.flt[i]).hist.length →
    (s.sar.flt[i]).hist.headD [] ≠ [] → filterValue s.hsarWin (s.gf (HSAR_SEQ_ORDER i)) (s.sar.flt[i]).hist = some x →
    ∃ t, exec (.hsarFilterPublish i) s = .next t ∧ t.sar.pubDue.testBit i = false ∧ t.gb (HSAR_RES_VALID i) = true ∧
      t.gf (HSAR_RES_VALUE i) = ofSigned (HSAR_RES_VALUE i).w x % 2 ^ (HSAR_RES_VALUE i).w) ∧
  (∀ (s : State) (i : Fin 32) (v : Word), s.serving = true → 6 ≤ i.val → hsarCode (v.toNat % 32) = true → v.toNat / 64 % 8 ≤ 4 →
    ∃ t, exec (.hsarSeqWrite (some i) v) s = .next t ∧ t.gf (HSAR_SEQ_INPUT i) = v.toNat % 32 ∧ t.gb (HSAR_SEQ_EN i) = v.toNat.testBit 5 ∧
      t.gf (HSAR_SEQ_ORDER i) = v.toNat / 64 % 8) ∧
  (∀ (s : State) (i : Fin 32) (v : Word), i.val < 6 → exec (.hsarSeqWrite (some i) v) s = .next s)

/-- GO of HSAR_URG sets BUSY and, when no urgent conversion runs or waits before it, starts the conversion of INPUT; while BUSY it is
rejected. A conversion of the host's ends with BUSY cleared, DONE set and its result in HSAR_URG_RES; that of PFI sets NEW beside its
result in HSAR_PFI_RES. -/
def Obligations.UrgentConversions : Prop :=
  (∀ (s : State) (v : Word), s.serving = true → v.toNat.testBit 8 = true → s.gb HSAR_URG_BUSY = false → s.sar.urg = none → s.sar.wPfi = none →
    ∃ t, exec (.hsarUrgentGo v) s = .next t ∧ t.gb HSAR_URG_BUSY = true ∧ t.sar.urg = some (false, t.gf HSAR_URG_INPUT) ∧
      (hsarCode (v.toNat % 32) = true → t.gf HSAR_URG_INPUT = v.toNat % 32)) ∧
  (∀ (s : State) (v : Word), s.serving = true → v.toNat.testBit 8 = true → s.gb HSAR_URG_BUSY = true →
    ∃ t, exec (.hsarUrgentGo v) s = .next t ∧ t.gb HSAR_URG_REJECT = true ∧ t.sar = s.sar) ∧
  (∀ (s : State) (c : Nat) (x : Int), s.sar.urg = some (false, c) →
    ∃ t, exec (.hsarUrgentDone x) s = .next t ∧ t.gb HSAR_URG_BUSY = false ∧ t.gb HSAR_URG_DONE = true ∧
      t.gf HSAR_URG_RES_VALUE = ofSigned HSAR_URG_RES_VALUE.w x % 2 ^ HSAR_URG_RES_VALUE.w) ∧
  (∀ (s : State) (c : Nat) (x : Int), s.sar.urg = some (true, c) →
    ∃ t, exec (.hsarUrgentDone x) s = .next t ∧ t.gb HSAR_PFI_RES_NEW = true ∧
      t.gf HSAR_PFI_RES_VALUE = ofSigned HSAR_PFI_RES_VALUE.w x % 2 ^ HSAR_PFI_RES_VALUE.w)

/-! ### Cycles, windows, the 10 s frequency and metrology (chapters 6, 7 and 8) -/

/-- With the tracker locked and nothing else due, a cycle boundary at an instant within the samples delivered ends the cycle there; the
reference's amplitude keeps the tracker LOCKED, with FREQ_NOW the tracked frequency clamped to its range and OUTRANGE telling so, or,
below half MINAMP, sends it to NOREF. A half-cycle boundary is noted beside the two before it. A 10 s interval that holds samples and
has ended shows its start, its whole cycles and its validity in FREQ_10S, and the next one abuts. -/
def Obligations.CyclesAndFrequency : Prop :=
  (∀ (s : State) (g : Fin 2) (u : Nat) (rot : List Rat) (amp freq : Nat), s.isReady = true → (s.grp[g]).running = true →
    (s.grp[g]).monitor = false → (s.grp[g]).await = none → (s.grp[g]).tickDue = none → (s.grp[g]).step = [] → (s.grp[g]).shadow = none →
    (s.grp[g]).fenced = 0 → s.gf (FREQ_STAT_STATE g) = 3 → (s.grp[g]).nominal = false → (s.grp[g]).cycA < u → u ≤ s.grT g (s.grp[g]).si →
    ∃ t, exec (.cycleBoundary g u rot amp freq) s = .next t ∧ (t.grp[g]).cycA = u ∧
      (2 * amp < s.gf (FREQ_CFG_MINAMP g) → t.gf (FREQ_STAT_STATE g) = 1) ∧
      (s.gf (FREQ_CFG_MINAMP g) ≤ 2 * amp → t.gf (FREQ_STAT_STATE g) = 3 ∧
        t.gf (FREQ_NOW_F g) = min (max freq (s.grp[g]).fRange.1) (s.grp[g]).fRange.2 ∧
        t.gb (FREQ_STAT_OUTRANGE g) = decide (freq < (s.grp[g]).fRange.1 ∨ (s.grp[g]).fRange.2 < freq))) ∧
  (∀ (s : State) (g : Fin 2) (u : Nat), s.isReady = true → (s.grp[g]).running = true → (s.grp[g]).monitor = false → (s.grp[g]).lost = false →
    s.gb SLICE_STAT_SWITCHING = false → (s.grp[g]).await = none → s.gf (FREQ_STAT_STATE g) = 3 →
    (s.grp[g]).halves.headD (s.grp[g]).cycA < u → u ≤ s.grT g (s.grp[g]).si →
    ∃ t, exec (.halfCycleBoundary g u) s = .next t ∧ (t.grp[g]).halves = (u :: (s.grp[g]).halves).take 3) ∧
  (∀ (s : State) (g : Fin 2) (a : Nat), s.isReady = true → (s.grp[g]).running = true → (s.grp[g]).await = none → (s.grp[g]).tickDue = none →
    (s.grp[g]).step = [] → (s.grp[g]).shadow = none → (s.grp[g]).f10A = some a → f10End a ≤ s.grT g (s.grp[g]).si →
    0 < ((s.grp[g]).siRange a (f10End a)).2 - runIn ((s.grp[g]).siRange a (f10End a)).1 ((s.grp[g]).siRange a (f10End a)).2 (s.grp[g]).gone →
    ∃ t, exec (.freq10sClose g) s = .next t ∧ (t.grp[g]).f10A = some (f10End a) ∧
      t.gf (FREQ_10S_T_SEC g) = a / 2 ^ 32 % 2 ^ 32 ∧ t.gf (FREQ_10S_FL_N g) = min ((s.grp[g]).f10N - 1) 65535 ∧
      t.gb (FREQ_10S_FL_VALID g) = (decide (1 < (s.grp[g]).f10N) && decide ((s.grp[g]).f10First.getD 0 < (s.grp[g]).f10Last.getD 0) &&
        decide ((s.grp[g]).f10St = 0)))

/-- A running window with no other beside it ends when its points are full: it is counted, waits for its records, and the next window
begins where it ends. The close of a cycle interval forms the CYC record of the oldest window without one, and a completed transform
the HARM record of the oldest window without one; each has then one window fewer to wait for. The flicker meters have settled when
their first 120 s have passed. -/
def Obligations.WindowsAndRecords : Prop :=
  (∀ (s : State) (g : Fin 2) (u : Nat) (pts : List (List Rat)) (w : Window), s.isReady = true → (s.grp[g]).running = true → (s.grp[g]).monitor = false →
    (s.grp[g]).shadow = none → (s.grp[g]).wins = [w] → w.a < u → u ≤ s.grT g (s.grp[g]).si →
    (s.grp[g]).winFull w u = true → (s.grp[g]).ptsOk w pts = true →
    ∃ t, exec (.resamplerWindowEnd g u pts) s = .next t ∧ (t.grp[g]).wins.map Window.a = [u] ∧
      (t.grp[g]).wdone.map WinDone.b = (s.grp[g]).wdone.map WinDone.b ++ [u] ∧
      t.gf (RSMP_STAT_WINDOWS g) = (s.gf (RSMP_STAT_WINDOWS g) + 1) % 2 ^ (RSMP_STAT_WINDOWS g).w) ∧
  (∀ (s : State) (g : Fin 2) (d : WinDone), s.forms = true → s.switching = false → (s.grp[g]).wdone.find? (fun x => x.civ.isNone) = some d →
    d.b ≤ (s.grp[g]).cycA → d.b ≤ (s.grp[g]).halves.headD 0 →
    ∃ t, exec (.cycleIntervalClose g) s = .next t ∧
      ((t.grp[g]).wdone.filter (fun x => x.civ.isNone)).length + 1 = ((s.grp[g]).wdone.filter (fun x => x.civ.isNone)).length ∧
      (s.starved clsCYC = false → (s.cycRec g d).2.n ≠ 0 → ∃ r ∈ t.formed.drop s.formed.length, r.cls = clsCYC)) ∧
  (∀ (s : State) (g : Fin 2), s.forms = true → s.wedged 2 = false → (s.grp[g]).spec = true →
    (s.grp[g]).wdone.any (fun x => x.spec.isNone) = true →
    ∃ t, exec (.harmRecordComplete g) s = .next t ∧
      ((t.grp[g]).wdone.filter (fun x => x.spec.isNone)).length + 1 = ((s.grp[g]).wdone.filter (fun x => x.spec.isNone)).length ∧
      t.gf (SPEC_STAT_WINDOWS g) = (s.gf (SPEC_STAT_WINDOWS g) + 1) % 2 ^ (SPEC_STAT_WINDOWS g).w ∧
      ∃ r ∈ t.formed.drop s.formed.length, r.cls = clsSPC) ∧
  (∀ (s : State) (g : Fin 2), s.isReady = true → (s.grp[g]).running = true →
    exec (.flickerSettleEnd g) s = .next (s.sf (SPEC_STAT_FSETTLE g) 0))

/-- An accumulation step that has ended is closed: the group's step-end time is its end, and the accumulators of the other group stay.
A write of MET_ESEL latches the selected accumulator of a present group and its step-end time in MET_EVAL, with the steps that had
ended closed first. A sealed clear while no group runs leaves every accumulator 0; while one runs it is refused with ECLR_RUNNING. -/
def Obligations.EnergyRegisters : Prop :=
  (∀ (s : State) (g : Fin 2) (e : StepEnd) (l : List StepEnd), s.isReady = true → s.switching = false → (s.grp[g]).steps = e :: l →
    ∃ t, exec (.accumulationStepClose g) s = .next t ∧ (t.grp[g]).steps = l ∧ t.met.doneT[g] = e.b ∧
      ∀ i, i < 64 → i / 32 ≠ g.val → t.acc i = s.acc i) ∧
  (∀ (s : State) (v : Word) (g : Fin 2), s.serving = true → s.switching = false → s.grpFused g = false → v.toNat.testBit 8 = decide (g = 1) →
    ∃ t, exec (.metEselLatch v) s = .next t ∧
      t.gf MET_EVAL_FRAC_FRAC = (s.stepsSettle g).acc (accIdx g (v.toNat / 16 % 4) (v.toNat % 8)) % 2 ^ 32 ∧
      t.gf MET_EVAL_LO_COUNT_LO = (s.stepsSettle g).acc (accIdx g (v.toNat / 16 % 4) (v.toNat % 8)) / 2 ^ 32 % 2 ^ 32 ∧
      t.gf MET_EVAL_T_HI_SEC = (s.stepsSettle g).met.doneT[g] / 2 ^ 32 % 2 ^ 32) ∧
  (∀ (s : State) (p : Port) (v : Word), s.serving = true → s.switching = false → s.sealOpen p = true → v.toNat.testBit 8 = true →
    (s.grp[(0 : Fin 2)]).running = false → (s.grp[(1 : Fin 2)]).running = false →
    ∃ t, exec (.energyClear p v) s = .next t ∧ (∀ i, t.acc i = 0) ∧ t.met.poison = []) ∧
  (∀ (s : State) (p : Port) (v : Word), s.serving = true → s.switching = false → s.sealOpen p = true → v.toNat.testBit 8 = true →
    (s.grp[(0 : Fin 2)]).running = true →
    ∃ t, exec (.energyClear p v) s = .next t ∧ t.gb MET_ERR_ECLR_RUNNING = true ∧ ∀ i, t.acc i = s.acc i)

/-- Inside a session a write of a calibration constant of a present channel changes its shadow set and not the active one. A commit of a
stopped group advances its CAL_ID and waits, with the shadow sets and that CAL_ID, until it is stored. The stored commits that wait for
an interval take effect when it has begun: the newest one's constants are active, its CAL_ID is that of the group's records, and only
the commits after it wait. -/
def Obligations.CalibrationCommits : Prop :=
  (∀ (s : State) (p : Port) (n : Fin 16) (v : Word), s.serving = true → s.switching = false → s.sealOpen p = true → s.chPresent n = true →
    (∃ t, exec (.calConstantWrite p n 0 v) s = .next t ∧ (t.calShadow n).scale = v.toNat ∧ t.met.cal = s.met.cal) ∧
    (∃ t, exec (.calConstantWrite p n 1 v) s = .next t ∧ (t.calShadow n).e = max (v.toNat % 16) 6 ∧ (t.calShadow n).ph = v.toNat / 65536 % 1024 ∧
      t.met.cal = s.met.cal) ∧
    (∃ t, exec (.calConstantWrite p n 2 v) s = .next t ∧ (t.calShadow n).ofs = v.toNat % 2 ^ 24 ∧ t.met.cal = s.met.cal)) ∧
  (∀ (s : State) (p : Port) (g : Fin 2) (v : Word), s.serving = true → s.switching = false → s.sealOpen p = true → v.toNat % 4 = 2 ^ g.val →
    s.grpFused g = false → (s.grp[g]).running = false →
    ∃ t, exec (.calCommit p v) s = .next t ∧ t.gf (calIdFld g) = (s.gf (calIdFld g) + 1) % 2 ^ (calIdFld g).w ∧ t.met.actId = s.met.actId ∧
      t.met.cal = s.met.cal ∧ ∃ c, t.met.calPend[g] = s.met.calPend[g] ++ [c] ∧ c.sets = s.shadowSets g ∧ c.id = t.gf (calIdFld g) ∧ c.stored = false) ∧
  (∀ (s : State) (g : Fin 2) (a k : Nat) (c : Commit), s.isReady = true → (s.grp[g]).calAt = some (a, k) → (s.met.calPend[g].take k).getLast? = some c →
    ∃ t, exec (.calCommitApply g) s = .next t ∧ (t.grp[g]).calAt = none ∧ t.met.calPend[g] = s.met.calPend[g].drop k ∧ t.met.actId[g] = c.id ∧
      ∀ i : Fin 8, t.met.cal[chanOf g i] = c.sets.getD i {})

/-- A pulse of an enabled CF output with pulses owed takes one from OWED, counts it and is ACTIVE until it ends. Inside a session a
disabled output takes its settings and its constant, clamped to 1 to 10^9; an enabled one refuses a new constant with CF_RUNNING. -/
def Obligations.CfOutputs : Prop :=
  (∀ (s : State) (m : Fin 4), s.isReady = true → s.met.cfGo = true → s.gb (CF_CFG_EN m) = true → 0 < s.gf (CF_STAT_OWED m) →
    s.gb (CF_STAT_ACTIVE m) = false → s.switching = false → s.gb SLICE_STAT_LOST = false → s.grpFused (s.gf (CF_CFG_GROUP m)) = false →
    ∃ t, exec (.cfPulse m) s = .next t ∧ t.gf (CF_STAT_OWED m) = (s.gf (CF_STAT_OWED m) - 1) % 2 ^ (CF_STAT_OWED m).w ∧
      t.gf (CF_COUNT_COUNT m) = (s.gf (CF_COUNT_COUNT m) + 1) % 2 ^ (CF_COUNT_COUNT m).w ∧ t.gb (CF_STAT_ACTIVE m) = true) ∧
  (∀ (s : State) (m : Fin 4), s.switching = false → exec (.cfPulseEnd m) s = .next (s.sf (CF_STAT_ACTIVE m) 0)) ∧
  (∀ (s : State) (p : Port) (m : Fin 4) (v : Word), s.serving = true → s.switching = false → s.sealOpen p = true → s.gb (CF_CFG_EN m) = false →
    (∃ t, exec (.cfCfgWrite p m false v) s = .next t ∧ t.gb (CF_CFG_EN m) = v.toNat.testBit 0 ∧ t.gb (CF_CFG_INV m) = v.toNat.testBit 1 ∧
      t.gf (CF_CFG_GROUP m) = v.toNat / 4 % 2 ∧ t.gf (CF_CFG_PHASE m) = v.toNat / 8 % 4 ∧ t.gf (CF_CFG_QMASK m) = v.toNat / 256 % 256) ∧
    (∃ t, exec (.cfCfgWrite p m true v) s = .next t ∧ t.gf (CF_CONST_C m) = min (max (v.toNat % 2 ^ 30) 1) 1000000000)) ∧
  (∀ (s : State) (p : Port) (m : Fin 4) (v : Word), s.serving = true → s.switching = false → s.sealOpen p = true → s.gb (CF_CFG_EN m) = true →
    min (max (v.toNat % 2 ^ 30) 1) 1000000000 ≠ s.gf (CF_CONST_C m) →
    ∃ t, exec (.cfCfgWrite p m true v) s = .next t ∧ t.gb MET_ERR_CF_RUNNING = true ∧ t.gf (CF_CONST_C m) = s.gf (CF_CONST_C m))

/-! ### Statistics and the capture engine (chapters 9 and 10) -/

/-- While the engine is enabled and nothing holds its updates, the increment at the front of the queue that holds a number adds 1 to its histogram's count and to the cell of its bin, below the
highest count; one without a number adds 1 to its histogram's undefined count and leaves the cells. A drain with nothing left ends, and
the commits that waited for it are taken. A write of STAT_DSEL loads the staging from the selected descriptor. A write of STAT_DESC0 waits
during a drain; otherwise it takes effect with the staging, or, when a condition refuses it, leaves every histogram as it was. -/
def Obligations.IncrementsAndDescriptors : Prop :=
  (∀ (s : State) (i : Nat) (x : Option Nat) (v : Rat) (r : List StatItem), s.gb STAT_CTRL_EN = true → s.gb AGG_STAT_HELD = false → s.stat.waits = .inc i x :: r → x.bind f32val = some v →
    ∃ t, exec .statIncrementApply s = .next t ∧ t.stat.waits <:+ r ∧ (t.hist i).n = satAdd 32 (s.hist i).n 1 ∧
      (s.cellOk ((s.hist i).base + ((s.hist i).bin v).1) = true → s.cell ((s.hist i).base + ((s.hist i).bin v).1) < 2 ^ 32 - 1 →
        t.cell ((s.hist i).base + ((s.hist i).bin v).1) = s.cell ((s.hist i).base + ((s.hist i).bin v).1) + 1) ∧
      ∀ c, c ≠ (s.hist i).base + ((s.hist i).bin v).1 → t.cell c = s.cell c) ∧
  (∀ (s : State) (i : Nat) (x : Option Nat) (r : List StatItem), s.gb STAT_CTRL_EN = true → s.gb AGG_STAT_HELD = false → s.stat.waits = .inc i x :: r → x.bind f32val = none →
    ∃ t, exec .statIncrementApply s = .next t ∧ t.stat.waits <:+ r ∧ (t.hist i).hndef = satAdd 32 (s.hist i).hndef 1 ∧
      (t.hist i).n = (s.hist i).n ∧ ∀ c, t.cell c = s.cell c) ∧
  (∀ s : State, s.gb AGG_STAT_DRAINING = true → s.stat.waits = [] →
    ∃ t, exec .statQueueDrained s = .next t ∧ t.gb AGG_STAT_DRAINING = false ∧ t.stat.commits = [] ∧ t.stat.drainT = none) ∧
  (∀ (s : State) (v : Word), s.serving = true →
    ∃ t, exec (.statDselWrite v) s = .next t ∧ t.gf STAT_DSEL_INDEX = v.toNat % 4096 ∧ t.stat.stag1 = (s.hist (v.toNat % 4096)).d1 ∧
      t.stat.stag2 = (s.hist (v.toNat % 4096)).d2 ∧ t.stat.stag3 = (s.hist (v.toNat % 4096)).d3 ∧ t.stat.hists = s.stat.hists) ∧
  (∀ (s : State) (v : Word) (h : Hist), s.serving = true → s.gb AGG_STAT_DRAINING = false →
    h = { s.hist (s.gf STAT_DSEL_INDEX) with
      d0 := v.toNat % 2 ^ 29 + v.toNat / 2 ^ 31 * 2 ^ 31, d1 := s.stat.stag1, d2 := s.stat.stag2, d3 := s.stat.stag3 } →
    ((s.descBad (s.gf STAT_DSEL_INDEX) h).any id = false →
      ∃ t, exec (.statDescCommit v) s = .next t ∧ (t.hist (s.gf STAT_DSEL_INDEX)).d0 = h.d0 ∧ (t.hist (s.gf STAT_DSEL_INDEX)).d1 = h.d1 ∧
        (t.hist (s.gf STAT_DSEL_INDEX)).d2 = h.d2 ∧ (t.hist (s.gf STAT_DSEL_INDEX)).d3 = h.d3 ∧
        (h.en = true → (t.hist (s.gf STAT_DSEL_INDEX)).n = 0 ∧ ∀ c, h.base ≤ c → c < h.base + h.size → t.cell c = 0)) ∧
    ((s.descBad (s.gf STAT_DSEL_INDEX) h).any id = true →
      ∃ t, exec (.statDescCommit v) s = .next t ∧ t.stat.hists = s.stat.hists ∧ ∃ f ∈ statErrs, t.gb f = true)) ∧
  (∀ (s : State) (v : Word), s.serving = true → s.gb AGG_STAT_DRAINING = true →
    ∃ t, exec (.statDescCommit v) s = .next t ∧ t.stat.hists = s.stat.hists ∧
      t.stat.commits = s.stat.commits ++ [(s.gf STAT_DSEL_INDEX,
        [v.toNat % 2 ^ 29 + v.toNat / 2 ^ 31 * 2 ^ 31, s.stat.stag1, s.stat.stag2, s.stat.stag3])])

/-- With nothing draining, a SNAPSHOT_STATS of a range of cells, for which the ring of the STA class has the room, forms its STA
records, holds the updates until they are out, and completes OK; with CLR every cell of the range reads 0 after it. A PERCENTILE of a histogram forms one STA record with the
results and completes OK. Arguments out of range complete ARGS and form no STA record. -/
def Obligations.StatisticsCommands : Prop :=
  (∀ (s : State) (c : Cmd) (n : Fin 64), s.executes 3 c → s.gb AGG_STAT_DRAINING = false →
    0 < leAt c.entry 0x14 4 → leAt c.entry 0x14 4 ≤ 65536 → leAt c.entry 0x10 4 + leAt c.entry 0x14 4 ≤ 2 ^ 20 → leAt c.entry 0x18 1 ≤ 1 →
    s.starved clsSTA = false → s.carrier clsSTA srcNone 0 = some n →
    ((s.closeAggSummaries.snapRecs (leAt c.entry 0x10 4) (leAt c.entry 0x14 4) (leAt c.entry 0x18 1 == 1)).map Rec.entries).sum +
      (s.rings[n].q.map QItem.size).sum / 64 ≤ s.rings[n].free →
    ∃ t, exec .snapshotStats s = .next t ∧ t.completed c 0 ∧ t.gb AGG_STAT_HELD = true ∧
      (∃ r ∈ t.formed.drop s.formed.length, r.cls = clsSTA ∧ r.aux % 256 = 1) ∧
      (leAt c.entry 0x18 1 = 1 → ∀ k, leAt c.entry 0x10 4 ≤ k → k < leAt c.entry 0x10 4 + leAt c.entry 0x14 4 → t.cell k = 0)) ∧
  (∀ (s : State) (c : Cmd), s.executes 3 c → s.gb AGG_STAT_DRAINING = false →
    leAt c.entry 0x14 4 = 0 ∨ 65536 < leAt c.entry 0x14 4 ∨ 2 ^ 20 < leAt c.entry 0x10 4 + leAt c.entry 0x14 4 ∨ 1 < leAt c.entry 0x18 1 →
    ∃ t, exec .snapshotStats s = .next t ∧ t.completed c 2 ∧ ∀ k, t.cell k = s.cell k) ∧
  (∀ (s : State) (c : Cmd) (n : Fin 64), s.executes 4 c → s.gb AGG_STAT_DRAINING = false →
    leAt c.entry 0x10 2 < 4096 → leAt c.entry 0x12 1 < 3 → 1 ≤ leAt c.entry 0x13 1 → leAt c.entry 0x13 1 ≤ 8 →
    (∀ j, j < leAt c.entry 0x13 1 → leAt c.entry (0x14 + 4 * j) 4 ≤ 100000) →
    (∀ j, leAt c.entry 0x13 1 ≤ j → j < 8 → leAt c.entry (0x14 + 4 * j) 4 = 0) → s.starved clsSTA = false → s.carrier clsSTA srcNone 0 = some n →
    ∃ t, exec .percentile s = .next t ∧ t.completed c 0 ∧ ∃ r ∈ t.formed.drop s.formed.length, r.cls = clsSTA ∧ r.aux = 2 ∧
      r.payload = s.pctlBytes (leAt c.entry 0x10 2) (leAt c.entry 0x12 1) (leAt c.entry 0x13 1)
        ((List.range 8).map (fun j => leAt c.entry (0x14 + 4 * j) 4))) ∧
  (∀ (s : State) (c : Cmd), s.executes 4 c → s.gb AGG_STAT_DRAINING = false →
    4096 ≤ leAt c.entry 0x10 2 ∨ 3 ≤ leAt c.entry 0x12 1 ∨ leAt c.entry 0x13 1 = 0 ∨ 8 < leAt c.entry 0x13 1 →
    ∃ t, exec .percentile s = .next t ∧ t.completed c 2)

/-- A CAPTURE_ARM that nothing refuses arms the engine at this instant and completes OK; one that is refused sets the CAP_ERR bits of its
reasons, completes REFUSED and leaves the engine's state. CAPTURE_FORCE on an armed engine is its trigger: a new CAPID, and post-trigger
begins; on another it completes REFUSED with BUSY. At the end of the window writing stops and the samples that it holds become CAP
records; after the last of them the engine arms again when AUTOREARM is set, and otherwise goes idle. -/
def Obligations.CaptureEngine : Prop :=
  (∀ (s : State) (c : Cmd), s.executes 5 c →
    (s.capRefusal = 0 → ∃ t, exec .captureArm s = .next t ∧ t.completed c 0 ∧ t.gf CAP_STAT_STATE = 1 ∧ t.cap.armT = s.now ∧ t.cap.buf = []) ∧
    (s.capRefusal ≠ 0 → ∃ t, exec .captureArm s = .next t ∧ t.completed c 3 ∧ t.gf CAP_STAT_STATE = s.gf CAP_STAT_STATE ∧ t.cap = s.cap ∧
      (s.capRefusal.testBit 0 = true → t.gb CAP_ERR_TOO_DEEP = true) ∧ (s.capRefusal.testBit 1 = true → t.gb CAP_ERR_NO_BANK = true) ∧
      (s.capRefusal.testBit 2 = true → t.gb CAP_ERR_NO_SRC = true) ∧ (s.capRefusal.testBit 3 = true → t.gb CAP_ERR_BUSY = true))) ∧
  (∀ (s : State) (c : Cmd), s.executes 6 c →
    (s.gf CAP_STAT_STATE = 1 → s.cap.armT ≤ s.now → ∃ t, exec .captureForce s = .next t ∧ t.completed c 0 ∧ t.gf CAP_STAT_STATE = 2 ∧
      t.gf CAP_STAT_CAPID = (s.gf CAP_STAT_CAPID + 1) % 2 ^ (CAP_STAT_CAPID).w ∧ t.cap.trigs = [{ kind := 0x0A, src := 0xFF, t := s.now }] ∧
      t.g64 CAP_TRIG_T_LO_FRAC CAP_TRIG_T_HI_SEC = s.now) ∧
    (s.gf CAP_STAT_STATE ≠ 1 → ∃ t, exec .captureForce s = .next t ∧ t.completed c 3 ∧ t.gb CAP_ERR_BUSY = true ∧ t.cap = s.cap)) ∧
  (∀ (s : State) (a : CapTrig) (l : List CapTrig) (x : CapSmp), s.forms = true → s.gf CAP_STAT_STATE = 2 → s.gb TIME_STATUS_SHADOW = false →
    s.cap.trigs = a :: l → x ∈ s.cap.buf → x.src < 24 → s.capSel x.src = true → x.t < s.cap.wEnd →
    max (a.t - usTime (s.gf CAP_PRE_US)) s.cap.armT ≤ x.t → s.starved clsCAP = false →
    ∃ t, exec .captureWindowEnd s = .next t ∧ t.gf CAP_STAT_STATE = 3 ∧ ∃ r ∈ t.formed.drop s.formed.length, r.cls = clsCAP ∧ r.src = x.src) ∧
  (∀ s : State, s.gf CAP_STAT_STATE = 3 →
    (s.gb CAP_CTRL_AUTOREARM = true →
      ∃ t, exec .captureReadoutDone s = .next t ∧ t.gf CAP_STAT_STATE = 1 ∧ t.cap.armT = s.now ∧ t.cap.buf = []) ∧
    (s.gb CAP_CTRL_AUTOREARM = false → ∃ t, exec .captureReadoutDone s = .next t ∧ t.gf CAP_STAT_STATE = 0 ∧ t.cap = {}))

/-! ### Tariffs, demand and billing (chapter 11) -/

/-- Inside a session a clear while no group runs leaves both groups' tariff registers and maximum demands 0 and PERIOD 0; while a group
runs it is refused with TCLR_RUNNING and changes none of them. A request to close a group's period waits for the next whole minute,
unless one already waits. -/
def Obligations.TariffClearAndClose : Prop :=
  (∀ (s : State) (p : Port) (v : Word), s.serving = true → s.switching = false → s.sealOpen p = true → v.toNat.testBit 2 = true →
    (s.grp[(0 : Fin 2)]).running = false → (s.grp[(1 : Fin 2)]).running = false →
    ∃ t, exec (.tariffClear p v) s = .next t ∧ ∀ g : Fin 2, (t.bil[g]).treg = [] ∧ (t.bil[g]).poison = [] ∧ (t.bil[g]).maxd = [] ∧
      t.gf (BIL_STAT_PERIOD g) = 0) ∧
  (∀ (s : State) (p : Port) (v : Word) (g : Fin 2), s.serving = true → s.switching = false → s.sealOpen p = true → v.toNat.testBit 2 = true →
    (s.grp[g]).running = true →
    ∃ t, exec (.tariffClear p v) s = .next t ∧ t.gb BIL_ERR_TCLR_RUNNING = true ∧
      ∀ k : Fin 2, (t.bil[k]).treg = (s.bil[k]).treg ∧ (t.bil[k]).maxd = (s.bil[k]).maxd ∧ t.gf (BIL_STAT_PERIOD k) = s.gf (BIL_STAT_PERIOD k)) ∧
  (∀ (s : State) (p : Port) (v : Word) (g : Fin 2), s.serving = true → s.switching = false → s.sealOpen p = true → v.toNat.testBit g = true →
    v.toNat.testBit 2 = false → s.grpFused g = false →
    ∃ t, exec (.billingCloseRequest p v) s = .next t ∧ (t.bil[g]).treg = (s.bil[g]).treg ∧
      ((s.bil[g]).close = none → (t.bil[g]).close = some ((s.now / minuteT + 1) * minuteT)) ∧
      ((s.bil[g]).close.isSome = true → (t.bil[g]).close = (s.bil[g]).close))

/-- Inside a session a write of BIL_CAL_DATA puts the bits that are not reserved into the addressed word of the passive image, leaves
every other word, and clears PVALID; one that leaves the word as it is changes nothing. A commit of an image that passes every check, for an instant that is a whole minute above TIME_HWM,
sets PVALID with that instant and forms a LOG record; an image that fails sets CAL_INVALID and leaves PVALID. A write of BIL_SEL latches
the selected tariff register of a present group with VALID; it latches nothing valid for an absent group or a period that is not held. -/
def Obligations.CalendarAndSelection : Prop :=
  (∀ (s : State) (p : Port) (v : Word), s.serving = true → s.switching = false → s.sealOpen p = true → s.gf BIL_CAL_ADDR_ADDR ≤ 0x150 →
    ∃ t, exec (.calendarWordWrite p v) s = .next t ∧ imgWord t.cals.pas (s.gf BIL_CAL_ADDR_ADDR) = v.toNat &&& imgMask (s.gf BIL_CAL_ADDR_ADDR) ∧
      (∀ a, a ≠ s.gf BIL_CAL_ADDR_ADDR → imgWord t.cals.pas a = imgWord s.cals.pas a) ∧ t.cals.act = s.cals.act ∧
      (v.toNat &&& imgMask (s.gf BIL_CAL_ADDR_ADDR) ≠ imgWord s.cals.pas (s.gf BIL_CAL_ADDR_ADDR) → t.gb BIL_CAL_CTRL_PVALID = false) ∧
      (v.toNat &&& imgMask (s.gf BIL_CAL_ADDR_ADDR) = imgWord s.cals.pas (s.gf BIL_CAL_ADDR_ADDR) → t = s)) ∧
  (∀ (s : State) (p : Port) (v : Word), s.forms = true → s.switching = false → s.sealOpen p = true → v.toNat.testBit 0 = true →
    imgValid s.cals.pas = true → s.pcalAct % minuteT = 0 → s.ket.hwm < s.pcalAct →
    ∃ t, exec (.calendarCommit p v) s = .next t ∧ t.gb BIL_CAL_CTRL_PVALID = true ∧ t.cals.pasT = s.pcalAct ∧ t.cals.pas = s.cals.pas ∧
      ∃ r ∈ t.formed.drop s.formed.length, r.cls = clsLOG ∧ r.aux = 9 + 256 * 1) ∧
  (∀ (s : State) (p : Port) (v : Word), s.serving = true → s.switching = false → s.sealOpen p = true → v.toNat.testBit 0 = true →
    imgValid s.cals.pas = false →
    ∃ t, exec (.calendarCommit p v) s = .next t ∧ t.gb BIL_ERR_CAL_INVALID = true ∧ t.cals = s.cals ∧
      t.gb BIL_CAL_CTRL_PVALID = s.gb BIL_CAL_CTRL_PVALID) ∧
  (∀ (s : State) (v : Word) (g : Fin 2), s.serving = true → s.switching = false → v.toNat % 4 = 0 → v.toNat.testBit 2 = decide (g = 1) →
    (s.grpFused g = false →
      ∃ t, exec (.bilSelLatch v) s = .next t ∧ t.gb BIL_VAL4_VALID = true ∧
        t.gf BIL_VAL0_V0 = SMap.get (fun _ => 0) (s.bil[g]).treg (8 * (v.toNat / 16 % 8) + v.toNat / 256 % 8) % 2 ^ 32 ∧
        t.gf BIL_VAL1_V1 = SMap.get (fun _ => 0) (s.bil[g]).treg (8 * (v.toNat / 16 % 8) + v.toNat / 256 % 8) / 2 ^ 32 % 2 ^ 32 ∧
        t.gf BIL_VAL2_V2 = SMap.get (fun _ => 0) (s.bil[g]).treg (8 * (v.toNat / 16 % 8) + v.toNat / 256 % 8) / 2 ^ 64 % 2 ^ 32) ∧
    (s.grpFused g = true → ∃ t, exec (.bilSelLatch v) s = .next t ∧ t.gb BIL_VAL4_VALID = false ∧ t.gf BIL_VAL0_V0 = 0)) ∧
  (∀ (s : State) (v : Word) (g : Fin 2), s.serving = true → s.switching = false → 2 ≤ v.toNat % 4 → v.toNat.testBit 2 = decide (g = 1) →
    (s.bil[g]).snaps[v.toNat / 4096 % 16]? = none →
    ∃ t, exec (.bilSelLatch v) s = .next t ∧ t.gb BIL_VAL4_VALID = false)

/-! ### Host link, registers, rings, commands and interrupts (chapters 12 and 22) -/

/-- Training that may succeed brings the link up at x2 only when both lanes may train, SERVED telling whether bus mastering and D0 allow
service. A link that goes down loses its width, its speed and L1, sets LOST with its interrupt, and rings stay without service. A change of
Bus Master Enable or the D-state shows in SERVED. L1 is entered and left while the link is up. A message that a mask held is sent when its
vector opens and messages may be sent, and a masked function sends nothing. -/
def Obligations.LinkAndVectors : Prop :=
  (∀ (s : State) (x2 gen2 : Bool), s.mbit FENCE_MISC_LANE 0 = false → s.spiOnly = false → s.inReset = false → s.gb CLK_STAT_REFCLK_LOST = false →
    ∃ t, exec (.linkTrained x2 gen2) s = .next t ∧ t.gb LINK_STAT_UP = true ∧
      t.gf LINK_STAT_WIDTH = (if x2 = true ∧ s.mbit FENCE_MISC_LANE 1 = false then 2 else 1) ∧
      t.gf LINK_STAT_SPEED = (if gen2 then 2 else 1) ∧ t.gb LINK_STAT_SERVED = (s.link.bme && s.link.d0)) ∧
  (∀ s : State, s.gb LINK_STAT_UP = true →
    ∃ t, exec .linkDown s = .next t ∧ t.gb LINK_STAT_UP = false ∧ t.gf LINK_STAT_WIDTH = 0 ∧ t.gf LINK_STAT_SPEED = 0 ∧
      t.gb LINK_STAT_L1 = false ∧ t.gb LINK_STAT_LOST = true ∧ t.gb (intBit 10) = true ∧ t.served = false) ∧
  (∀ (s : State) (bme d0 pmeEn clrPme : Bool), s.serving = true → s.gb LINK_STAT_UP = true →
    ∃ t, exec (.linkServiceChange bme d0 pmeEn clrPme) s = .next t ∧ t.link.bme = bme ∧ t.link.d0 = d0 ∧ t.link.pmeEn = pmeEn ∧
      t.gb LINK_STAT_SERVED = (bme && d0) ∧ ((bme && d0) = false → t.out = s.out ∧ t.rings = s.rings)) ∧
  (∀ (s : State) (enter : Bool), s.gb LINK_STAT_UP = true →
    exec (.linkL1Transition enter) s = .next (s.sf LINK_STAT_L1 (b2n enter))) ∧
  (∀ (s : State) (en fmask : Bool) (v : Fin 32) (addr : Nat) (data : Word) (masked : Bool), s.serving = true → s.gb LINK_STAT_UP = true →
    ∃ t, exec (.msiXMaskChange en fmask v addr data masked) s = .next t ∧ t.link.msixEn = en ∧ t.link.msixMask = fmask ∧
      t.link.msix[v] = { addr := addr, data := data.toNat, masked := masked } ∧
      (fmask = true → t.out = s.out ∧ t.link.pba = s.link.pba) ∧
      (en = true → fmask = false → masked = false → s.mayDma = true → s.link.pba.testBit v = true →
        t.link.pba.testBit v = false ∧ DmaWr.msix v addr data.toNat ∈ t.out))

/-- An aligned whole write of one word reaches its register, INT_EN among them, through PCIe and through an SPI frame; a write that is
not whole sets BADACC and nothing else, and such a read returns all ones. A read of TIME_NOW_LO through either port returns device time's
fraction and latches its seconds for that port's next read of TIME_NOW_HI, which returns them and ends the latch. -/
def Obligations.RegisterAccess : Prop :=
  (∀ (s : State) (v : Word), s.serving = true → s.spiOnly = false →
    ∃ t, exec (.registerWrite 0x64 [v] true) s = .next t ∧ t.gf INT_EN_EN = v.toNat % 2 ^ 15) ∧
  (∀ (s : State) (v : Word), s.spiOn = true → s.serving = true →
    ∃ t, exec (.spiFrame 0x64 [v] 0) s = .next t ∧ t.gf INT_EN_EN = v.toNat % 2 ^ 15) ∧
  (∀ (s : State) (off : Nat) (ws : List Word), s.serving = true → s.spiOnly = false →
    exec (.registerWrite off ws false) s = .next (s.sf HOST_ERR_BADACC 1)) ∧
  (∀ (s : State) (off n : Nat), s.serving = true → s.spiOnly = false →
    ∃ t, exec (.loRegisterRead .pcie off n false) s = .next t ∧ t.rdPcie = List.replicate n 0xFFFFFFFF ∧ t.gb HOST_ERR_BADACC = true) ∧
  (∀ s : State, s.serving = true → s.spiOnly = false → SMap.get (fun _ => 0) s.latch (latchKey .pcie 0x808) = 0 →
    ∃ t, exec (.loRegisterRead .pcie 0x808 1 true) s = .next t ∧ t.rdPcie = [s.now % 2 ^ 32] ∧
      SMap.get (fun _ => 0) t.latch (latchKey .pcie 0x80C) = s.now / 2 ^ 32 + 1) ∧
  (∀ (s : State) (l : Nat), s.serving = true → s.spiOnly = false → SMap.get (fun _ => 0) s.latch (latchKey .pcie 0x80C) = l + 1 →
    ∃ t, exec (.loRegisterRead .pcie 0x80C 1 true) s = .next t ∧ t.rdPcie = [l] ∧
      SMap.get (fun _ => 0) t.latch (latchKey .pcie 0x80C) = 0) ∧
  (∀ s : State, s.spiOn = true → s.serving = true → SMap.get (fun _ => 0) s.latch (latchKey .spi 0x808) = 0 →
    ∃ t, exec (.spiFrame 0x80000808 [] 1) s = .next t ∧ t.rdSpi = [s.now % 2 ^ 32] ∧
      SMap.get (fun _ => 0) t.latch (latchKey .spi 0x80C) = s.now / 2 ^ 32 + 1)

/-- A write of RING_ENABLE makes a ring that is off wait for its entry and leaves a ring that is on alone. When the only waiting ring's
entry has been read, an entry in order puts the ring on with its class and indices of its own, and any other leaves it refused with its
code. A doorbell of a ring that is off sets DB_OFF alone, an accepted one is the ring's host index, and a bad one halts the ring with its
interrupt. A write-back publishes what is written, in a word that holds the device index, and a ring's timer sends its vector. -/
def Obligations.RingCommands : Prop :=
  (∀ (s : State) (p : Port) (hi : Bool) (v : Word) (n : Fin 64), s.serving = true → s.spiOnly = false → hi = decide (32 ≤ n.val) →
    ∃ t, exec (.ringEnable p hi v) s = .next t ∧
      ((s.rings[n]).st = .off → v.toNat.testBit (n.val % 32) = true → (t.rings[n]).waiting = true ∧ (t.rings[n]).st = .off) ∧
      ((s.rings[n]).st = .on → t.rings[n] = s.rings[n])) ∧
  (∀ (s : State) (n : Fin 64) (d : DmaRead), s.served = true → s.wedged 7 = false → (s.rings[n]).entry = none → (∀ m : Fin 64, (s.rings[m]).waiting = decide (m = n)) →
    (∀ b, d = .data b → s.entryErr d = 0 →
      ∃ t, exec (.ringEntryReadDone n d) s = .next t ∧ (t.rings[n]).st = .on ∧ (t.rings[n]).waiting = false ∧ (t.rings[n]).cls = leAt b 17 1 ∧
        (t.rings[n]).base = leAt b 0 8 ∧ (t.rings[n]).host = 0 ∧ (t.rings[n]).pub = 0) ∧
    (s.entryErr d ≠ 0 →
      ∃ t, exec (.ringEntryReadDone n d) s = .next t ∧ (t.rings[n]).st = .refused ∧ (t.rings[n]).waiting = false ∧
        (t.rings[n]).err = s.entryErr d)) ∧
  (∀ (s : State) (n : Fin 64) (v : Word), s.serving = true → s.spiOnly = false →
    ((s.rings[n]).st ≠ .on → exec (.doorbell n v) s = .next (s.sf HOST_ERR_DB_OFF 1)) ∧
    ((s.rings[n]).st = .on → (s.rings[n]).dbOk v.toNat = true →
      ∃ t, exec (.doorbell n v) s = .next t ∧ (t.rings[n]).host = v.toNat ∧ (t.rings[n]).st = .on) ∧
    ((s.rings[n]).st = .on → (s.rings[n]).dbOk v.toNat = false →
      ∃ t, exec (.doorbell n v) s = .next t ∧ (t.rings[n]).host = (s.rings[n]).host ∧ (t.rings[n]).st = .halted ∧
        (t.rings[n]).err = 0x10 ∧ t.gb (intBit 9) = true)) ∧
  (∀ (s : State) (n : Fin 64), s.served = true → (s.rings[n]).st = .on → (s.rings[n]).dev ≠ (s.rings[n]).pub →
    ∃ t, exec (.writeBack n) s = .next t ∧ (t.rings[n]).pub = (s.rings[n]).dev ∧
      DmaWr.writeBack n ((s.rings[n]).dev + 2 ^ 32 + 2 ^ 40 * (s.rings[n]).err) ∈ t.out ∧
      ((s.rings[n]).cls ≠ clsCMD → (s.rings[n]).unvis ≠ [] → (t.rings[n]).lastVis = (s.rings[n]).wSeq)) ∧
  (∀ (s : State) (n : Fin 64) (v : Fin 32), s.served = true → (s.rings[n]).st = .on → (s.rings[n]).irq = true → (s.rings[n]).oldest.isSome = true →
    (s.rings[n]).pub ≠ (s.rings[n]).sig → (s.rings[n]).vec = v.val →
    ∃ t, exec (.ringInterruptTimer n) s = .next t ∧ (t.rings[n]).sig = (s.rings[n]).pub ∧ (t.rings[n]).oldest = none ∧
      (s.vecOpen v = true → DmaWr.msix v (s.link.msix[v]).addr (s.link.msix[v]).data ∈ t.out))

/-- When the next command may be fetched: an entry whose CRC fails halts the CMD ring with BAD_COMMAND (0x11) and no command executes;
an entry in order with an unknown opcode completes BAD_OPCODE (1), and the ring is past it and goes on. -/
def Obligations.BadCommandEntries : Prop :=
  ∀ (s : State) (n : Fin 64) (e : List Byte), s.forms = true → s.canFetch = true → s.cmdRing = some n → e.length = 64 →
    (crc32c (e.take 60) ≠ leAt e 60 4 →
      ∃ t, exec (.commandFetch e) s = .next t ∧ (t.rings[n]).st = .halted ∧ (t.rings[n]).err = 0x11 ∧ t.cmd = s.cmd ∧
        (t.rings[n]).dev = (s.rings[n]).dev) ∧
    (crc32c (e.take 60) = leAt e 60 4 → leAt e 0 1 = 0 ∨ 15 < leAt e 0 1 →
      ∃ t, exec (.commandFetch e) s = .next t ∧ t.completed { entry := e, via := .ring (s.rings[n]).dev, seq0 := s.seqs } 1 ∧
        (t.rings[n]).st = .on ∧ (t.rings[n]).dev = ((s.rings[n]).dev + 1) % 2 ^ 32)

/-- A command in order begins to execute and the ring is past it. A failed device read that the device has issued sets its HOST_ERR bit
and is retried once; then a command fetch halts
the CMD ring with DMA, a command's buffer completes it DMA_ERR, and the only waiting ring is refused with TABLE. MBOX_CTRL.GO makes the
mailbox busy, or sets REJECT while it is. A mailbox command with a bad CRC is done with BAD_ARG and its interrupt, and a CAPTURE_ARM in
order that nothing refuses is done with OK and arms the engine. -/
def Obligations.CommandsAndMailbox : Prop :=
  (∀ (s : State) (n : Fin 64) (e : List Byte), s.canFetch = true → s.cmdRing = some n → entryStatus e false = some 0 →
    ∃ t, exec (.commandFetch e) s = .next t ∧ t.curOp.map Prod.fst = some (leAt e 0 1) ∧ t.cmd.cur.map Cmd.entry = some e ∧
      (t.rings[n]).dev = ((s.rings[n]).dev + 1) % 2 ^ 32 ∧ t.formed = s.formed) ∧
  (∀ (s : State) (what : DmaReadOf) (how : DmaFail), s.reading what = true → s.wasRetried what = false →
    ∃ t, exec (.dmaReadTimeout what how) s = .next t ∧ t.wasRetried what = true ∧ t.gb (dmaFailBit how) = true ∧ t.formed = s.formed ∧
      t.cmd.cur = s.cmd.cur ∧ ∀ m : Fin 64, (t.rings[m]).st = (s.rings[m]).st) ∧
  (∀ (s : State) (n : Fin 64) (how : DmaFail), s.reading .command = true → s.wasRetried .command = true → s.cmdRing = some n →
    ∃ t, exec (.dmaReadTimeout .command how) s = .next t ∧ (t.rings[n]).st = .halted ∧ (t.rings[n]).err = 0x12 ∧ t.cmd.retried = false) ∧
  (∀ (s : State) (op : Nat) (c : Cmd) (how : DmaFail), s.executes op c → s.reading .buffer = true → s.wasRetried .buffer = true →
    ∃ t, exec (.dmaReadTimeout .buffer how) s = .next t ∧ t.completed c 0x0A) ∧
  (∀ (s : State) (n : Fin 64) (how : DmaFail), s.reading (.ringEntry n) = true → s.wasRetried (.ringEntry n) = true →
    (∀ m : Fin 64, (s.rings[m]).waiting = decide (m = n)) →
    ∃ t, exec (.dmaReadTimeout (.ringEntry n) how) s = .next t ∧ (t.rings[n]).st = .refused ∧ (t.rings[n]).err = 9) ∧
  (∀ (s : State) (p : Port), s.serving = true →
    (s.gb MBOX_STATUS_BUSY = false → ∃ t, exec (.mailboxGo p) s = .next t ∧ t.gb MBOX_STATUS_BUSY = true ∧ t.cmd = { s.cmd with mboxPort := p }) ∧
    (s.gb MBOX_STATUS_BUSY = true → exec (.mailboxGo p) s = .next (s.sf MBOX_STATUS_REJECT 1))) ∧
  (∀ (s : State) (ce : Nat) (ue : List Nat), s.isReady = true → s.gb MBOX_STATUS_BUSY = true → s.cmd.cur = none → s.cmd.cpl = none →
    (entryStatus s.mboxEntry true = none →
      ∃ t, exec (.mailboxExecute ce ue) s = .next t ∧ t.gb MBOX_STATUS_BUSY = false ∧ t.gb MBOX_STATUS_DONE = true ∧
        t.gf MBOX_STATUS_STATUS = 2 ∧ t.gb (intBit 0) = true ∧ t.cmd.cur = none) ∧
    (entryStatus s.mboxEntry true = some 0 → leAt s.mboxEntry 0 1 = 5 → s.capRefusal = 0 →
      ∃ t, exec (.mailboxExecute ce ue) s = .next t ∧ t.gb MBOX_STATUS_BUSY = false ∧ t.gb MBOX_STATUS_DONE = true ∧
        t.gf MBOX_STATUS_STATUS = 0 ∧ t.gf CAP_STAT_STATE = 1 ∧ t.cap.armT = s.now))

/-- A write of INT_STAT clears the bits written 1 and no other, a write of INT_SET sets the bits written 1 and clears none, and a write of
INT_EN sets the enables; when an enabled bit stands after the write and vector 0 is open, its message is sent. -/
def Obligations.InterruptRegisters : Prop :=
  (∀ (s : State) (v : Word), s.serving = true →
    ∃ t, exec (.intStatClear v) s = .next t ∧ (∀ k, k < 15 → t.gb (intBit k) = (s.gb (intBit k) && !v.toNat.testBit k)) ∧
      (t.intE = true → s.vecOpen 0 = true → DmaWr.msix 0 (s.link.msix[(0 : Fin 32)]).addr (s.link.msix[(0 : Fin 32)]).data ∈ t.out) ∧
      (t.intE = false → t.out = s.out)) ∧
  (∀ (s : State) (v : Word), s.serving = true →
    ∃ t, exec (.intSet v) s = .next t ∧ (∀ k, k < 15 → t.gb (intBit k) = (s.gb (intBit k) || v.toNat.testBit k)) ∧
      (t.intE = true → s.vecOpen 0 = true → DmaWr.msix 0 (s.link.msix[(0 : Fin 32)]).addr (s.link.msix[(0 : Fin 32)]).data ∈ t.out)) ∧
  (∀ (s : State) (v : Word), s.serving = true →
    ∃ t, exec (.intEnWrite v) s = .next t ∧ t.gf INT_EN_EN = v.toNat % 2 ^ 15 ∧ (∀ k, k < 15 → t.gb (intBit k) = s.gb (intBit k)) ∧
      (t.intE = true → s.vecOpen 0 = true → DmaWr.msix 0 (s.link.msix[(0 : Fin 32)]).addr (s.link.msix[(0 : Fin 32)]).data ∈ t.out))

/-! ### The non-volatile store (chapter 17) -/

/-- A NVM_READ of words outside the security region, with no write running and DMA allowed, writes the stored bytes to the command's buffer and completes
OK; one that meets an uncorrectable word completes NVM_ERR; one out of range completes BAD_ARG. A NVM_WRITE of whole pages in the host area
waits for its write operations; one of no bytes completes OK; one outside the host area completes BAD_ARG and writes nothing. -/
def Obligations.NvmCommands : Prop :=
  (∀ (s : State) (c : Cmd) (ce : Nat) (ue : List Nat), s.executes 7 c → leAt c.entry 0x10 4 % 8 = 0 → leAt c.entry 0x14 4 % 8 = 0 →
    leAt c.entry 0x14 4 ≤ 4096 → 0x4000 ≤ leAt c.entry 0x10 4 → leAt c.entry 0x10 4 + leAt c.entry 0x14 4 ≤ 0x80000 → s.nvm.running = none →
    (s.mayDma = true → (∀ a ∈ ue, a < leAt c.entry 0x10 4 ∨ leAt c.entry 0x10 4 + leAt c.entry 0x14 4 ≤ a) →
      ∃ t, exec (.nvmRead ce ue) s = .next t ∧ t.completed c 0 ∧
        DmaWr.buffer (leAt c.entry 8 8) ((List.range (leAt c.entry 0x14 4)).map (fun i => s.nvm.byte (leAt c.entry 0x10 4 + i))) ∈ t.out) ∧
    (∀ i, 8 * i < leAt c.entry 0x14 4 → leAt c.entry 0x10 4 + 8 * i ∈ ue →
      ∃ t, exec (.nvmRead ce ue) s = .next t ∧ t.completed c 0x0B)) ∧
  (∀ (s : State) (c : Cmd) (ce : Nat) (ue : List Nat), s.executes 7 c →
    leAt c.entry 0x10 4 % 8 ≠ 0 ∨ leAt c.entry 0x10 4 < 0x4000 ∨ 0x80000 < leAt c.entry 0x10 4 + leAt c.entry 0x14 4 →
    ∃ t, exec (.nvmRead ce ue) s = .next t ∧ t.completed c 2) ∧
  (∀ (s : State) (c : Cmd) (d : List Byte), s.executes 8 c → s.hostWriting = false → leAt c.entry 0x10 4 % 256 = 0 →
    leAt c.entry 0x14 4 % 8 = 0 → leAt c.entry 0x14 4 ≤ 4096 → 0x70000 ≤ leAt c.entry 0x10 4 → leAt c.entry 0x10 4 < 0x80000 →
    leAt c.entry 0x10 4 + leAt c.entry 0x14 4 ≤ 0x80000 → leAt c.entry 0x14 4 ≤ d.length →
    (0 < leAt c.entry 0x14 4 → ∃ t, exec (.nvmWrite d) s = .next t ∧ t.cmd = s.cmd ∧ t.hostWriting = true ∧ t.nvm.bytes = s.nvm.bytes) ∧
    (leAt c.entry 0x14 4 = 0 → ∃ t, exec (.nvmWrite d) s = .next t ∧ t.completed c 0)) ∧
  (∀ (s : State) (c : Cmd) (d : List Byte), s.executes 8 c → s.hostWriting = false →
    leAt c.entry 0x10 4 % 8 ≠ 0 ∨ leAt c.entry 0x10 4 < 0x70000 ∨ 0x80000 ≤ leAt c.entry 0x10 4 →
    ∃ t, exec (.nvmWrite d) s = .next t ∧ t.completed c 2 ∧ t.nvm.bytes = s.nvm.bytes)

/-- The last operation of a host write that ends without a failed verify leaves the page's bytes in the store, other pages as they were,
and completes the command OK; one whose page failed completes it NVM_ERR. A failed verify of another record sets VERIFY. A checkpoint is
queued into the checkpoint ring whose turn it is and the turn passes to the other ring. A save queues the configuration record. -/
def Obligations.NvmOperations : Prop :=
  (∀ (s : State) (c : Cmd) (r : NvmReq) (w : NvmWr), s.executes 8 c → s.nvm.running = some r → r.kind = .host → r.ops = [[w]] → w.word = 0 →
    w.bytes.length = 256 →
    (∃ t, exec (.nvmWriteOpDone none) s = .next t ∧ t.completed c 0 ∧
      (∀ i, i < 256 → t.nvm.byte (256 * w.page + i) = w.bytes.getD i 0) ∧
      (∀ a, a / 256 ≠ w.page → t.nvm.byte a = s.nvm.byte a)) ∧
    (∀ p : Fin 8, w.page % 8 = p.val → ∃ t, exec (.nvmWriteOpDone (some p)) s = .next t ∧ t.completed c 0x0B ∧
      ∀ a, a / 256 ≠ w.page → t.nvm.byte a = s.nvm.byte a)) ∧
  (∀ (s : State) (r : NvmReq) (w : NvmWr) (p : Fin 8) (l : List NvmWr) (o : List (List NvmWr)), s.nvm.running = some r → r.kind ≠ .host →
    r.ops = (w :: l) :: o → w.page % 8 = p.val →
    ∃ t, exec (.nvmWriteOpDone (some p)) s = .next t ∧ t.gb NVM_ERR_VERIFY = true ∧ t.gb (intBit 7) = true) ∧
  (∀ s : State, s.isReady = true → s.gb TIME_STATUS_HALTED = false →
    ∃ t, exec .energyCheckpoint s = .next t ∧ t.nvm.ckTurn = 1 - s.nvm.ckTurn ∧ t.nvm.bytes = s.nvm.bytes ∧
      ∃ q ∈ t.nvm.running.toList ++ t.nvm.queue, ∃ k, q.kind = .checkpoint s.nvm.ckTurn k) ∧
  (∀ s : State, s.serving = true →
    ∃ t, exec .configSave s = .next t ∧ t.nvm.bytes = s.nvm.bytes ∧ t.regs = s.regs ∧
      ∃ q ∈ t.nvm.running.toList ++ t.nvm.queue, ∃ k, q.kind = .config k)

/-! ### Trust: random numbers, seals, sessions, the JTAG port (chapter 19) -/

/-- When the TRNG has passed its start-up test a 16-byte nonce is in force; a failed health test ends it with TRNG_FAIL. A seal whose age
timer expires, or that SEAL_NOW names, is due or in signing, and with nothing else in signing, the engine working and a reservation above
MCOUNT in the store, it is fixed at once over the records
visible then. A completed signature forms the SEC record of the seal, counts MCOUNT and SIGCNT, and is zeros once the key is gone. -/
def Obligations.RandomAndSeals : Prop :=
  (∀ s : State, s.rst.phase = .ready → s.sec.trngFail = false → s.sec.trngOk = false →
    ∃ t, exec .trngReady s = .next t ∧ t.sec.trngOk = true ∧ t.sec.nonce.length = 16) ∧
  (∀ s : State, ∃ t, exec .trngHealthFail s = .next t ∧ t.sec.trngFail = true ∧ t.sec.trngOk = false ∧ t.sec.nonce = [] ∧
    t.gb SEC_ERR_TRNG_FAIL = true) ∧
  (∀ (s : State) (n : Fin 64), s.forms = true → (s.rings[n]).unsealed = true → s.sealWaits n = false → s.sec.due = [] → s.sec.signing = none →
    s.time.coreStop = false → s.wedged 8 = false → s.sec.mcount < s.sec.mres →
    ∃ t, exec (.sealAgeTimer n) s = .next t ∧ t.sec.signing.map Signing.ring = some n.val ∧ t.sec.signing.map Signing.cause = some 1 ∧
      t.sec.signing.map Signing.seqLast = some (s.rings[n]).lastVis ∧ t.sec.signing.map Signing.chain = some (s.rings[n]).visChain ∧
      (t.rings[n]).sealed = some (s.rings[n]).lastVis) ∧
  (∀ (s : State) (c : Cmd), s.executes 9 c →
    ∃ t, exec .sealNow s = .next t ∧ t.completed c 0 ∧
      ∀ n : Fin 64, (leAt c.entry 0x10 8).testBit n = true → (s.rings[n]).st = .on → (s.rings[n]).unsealed = true → s.sealWaits n = false →
        t.sec.due.any (fun d => d.1 == n.val) = true ∨ t.sec.signing.map Signing.ring = some n.val) ∧
  (∀ (s : State) (g : Signing), s.forms = true → s.time.coreStop = false → s.sec.signing = some g →
    ∃ t, exec .sealSigned s = .next t ∧ t.sec.mcount = s.sec.mcount + 1 ∧ t.sec.sigCount = s.sec.sigCount + 1 ∧
      ∃ r ∈ t.formed.drop s.formed.length, r.cls = clsSEC ∧ r.aux = g.cause ∧
        ∃ sig, r.payload = g.body s.sec.mcount (if s.sec.prev = [] then zeros 32 else s.sec.prev) ++ sig ∧
          (s.unsigned = true → sig = zeros 64))

/-- An OPEN_SEAL_SESSION whose block is accepted opens the next session for its port with its timeout, and one that is not completes
AUTH_FAIL with AUTH and opens none. An INSTALL block that is accepted installs the owner's key and opens a session; with an owner it is
refused with OWNER_SET. A close ends the session, and without one is refused with NO_SESSION; a session that times out ends with
SESS_TIMEOUT. READ_CERT delivers its bytes of the chain and is refused after a debug unlock. TAMPER_CLEAR with an accepted block clears the
evidence of the named sources whose condition is gone. -/
def Obligations.SessionsAndOwner : Prop :=
  (∀ (s : State) (c : Cmd) (b : List Byte), s.executes 0x0B c → s.sec.trngFail = false → s.sec.owner.isSome = true → s.sec.session = none →
    s.gb KET_STAT_LOCK = false → b.length = 128 → blkKind b = 2 → leAt b 0x20 4 ≤ 3600 →
    (s.blkAccept b 2 (decide ((b.drop 0x24).take 28 = zeros 28)) s.ownerKey = true →
      ∃ t, exec (.openSealSession b) s = .next t ∧ t.completed c 0 ∧ t.sec.sessNo = s.sec.sessNo + 1 ∧ t.sec.session =
        some { port := .pcie, number := s.sec.sessNo + 1, left := if leAt b 0x20 4 = 0 then 600 else leAt b 0x20 4, changes := [] }) ∧
    (s.blkAccept b 2 (decide ((b.drop 0x24).take 28 = zeros 28)) s.ownerKey = false →
      ∃ t, exec (.openSealSession b) s = .next t ∧ t.completed c 4 ∧ t.sec.session = none ∧ t.gb SEC_ERR_AUTH = true)) ∧
  (∀ (s : State) (c : Cmd) (b : List Byte), s.executes 0x0B c → s.sec.trngFail = false → s.sec.owner = none → s.sec.session = none →
    s.gb KET_STAT_LOCK = false → s.blkAccept b 1 true (decompress (leAt b 1 1) (ofBe (blkParam b))) = true →
    ∃ t, exec (.ownerInstall b) s = .next t ∧ t.completed c 0 ∧ t.sec.owner = some (leAt b 1 1, ofBe (blkParam b)) ∧ t.sec.session =
      some { port := .pcie, number := s.sec.sessNo + 1, left := 600, changes := [] }) ∧
  (∀ (s : State) (c : Cmd) (b : List Byte), s.executes 0x0B c → s.sec.trngFail = false → s.sec.owner.isSome = true → b.length = 128 →
    blkKind b = 1 →
    ∃ t, exec (.ownerInstall b) s = .next t ∧ t.completed c 3 ∧ t.sec.owner = s.sec.owner ∧ t.gb SEC_ERR_OWNER_SET = true) ∧
  (∀ (s : State) (c : Cmd), s.executes 0x0C c →
    (s.sec.session.isSome = true → ∃ t, exec .closeSealSession s = .next t ∧ t.completed c 0 ∧ t.sec.session = none) ∧
    (s.sec.session = none → ∃ t, exec .closeSealSession s = .next t ∧ t.completed c 3 ∧ t.gb SEC_ERR_NO_SESSION = true)) ∧
  (∀ s : State, s.isReady = true → s.sec.session.isSome = true →
    ∃ t, exec .sessionTimeout s = .next t ∧ t.sec.session = none ∧ t.gb SEC_ERR_SESS_TIMEOUT = true) ∧
  (∀ (s : State) (c : Cmd), s.executes 0x0D c →
    (s.sec.dbg = false → s.mayDma = true → leAt c.entry 0x10 4 + leAt c.entry 0x14 4 ≤ s.chip.cert.length →
      ∃ t, exec .readCert s = .next t ∧ t.completed c 0 ∧
        DmaWr.buffer (leAt c.entry 8 8) ((s.chip.cert.drop (leAt c.entry 0x10 4)).take (leAt c.entry 0x14 4)) ∈ t.out) ∧
    (s.sec.dbg = true → ∃ t, exec .readCert s = .next t ∧ t.completed c 3)) ∧
  (∀ (s : State) (c : Cmd) (b : List Byte), s.executes 0x0E c → s.sec.trngFail = false → s.sec.owner.isSome = true → b.length = 128 →
    s.blkAccept b 4 (decide ((b.drop 0x24).take 28 = zeros 28)) s.ownerKey = true →
    ∃ t, exec (.tamperClear b) s = .next t ∧ t.completed c 0 ∧
      ∀ k : Fin 12, ((leAt b 0x20 4).testBit k = true → s.ketCond k = false → t.ket.src[k] = {}) ∧
        ((leAt b 0x20 4).testBit k = false ∨ s.ketCond k = true → t.ket.src[k] = s.ket.src[k]))

/-- EXTEST loads only before an owner is installed and before a group starts, and the debug instruction only after the unlock; otherwise
they act as BYPASS. While the device is locked SECCHAL shifts out the UID and the nonce. A consent block accepted under the owner's key is
noted with the nonce kept, and one that is not leaves none. An unlock block accepted under the debug authority's key, with consent where
an owner is installed, with no seal outstanding, zeroises the device key and blows the fuse; under another key it changes neither. -/
def Obligations.DebugPort : Prop :=
  (∀ s : State,
    (s.sec.owner = none → s.rst.grpStarted = false → ∃ t, exec (.jtagInstructionLoad .extest) s = .next t ∧ t.sec.ir = .extest) ∧
    (s.sec.owner.isSome = true ∨ s.rst.grpStarted = true → ∃ t, exec (.jtagInstructionLoad .extest) s = .next t ∧ t.sec.ir = .bypass) ∧
    (s.sec.dbg = false → ∃ t, exec (.jtagInstructionLoad .debug) s = .next t ∧ t.sec.ir = .bypass) ∧
    (s.sec.dbg = true → ∃ t, exec (.jtagInstructionLoad .debug) s = .next t ∧ t.sec.ir = .debug)) ∧
  (∀ s : State, s.sec.dbg = false →
    ∃ t, exec .jtagSecchal s = .next t ∧ t.sec.ir = .secchal ∧ t.sec.jtagOut = leBytes 8 s.chip.uid ++ s.sec.nonce ∧ t.sec.nonce = s.sec.nonce) ∧
  (∀ (s : State) (b : List Byte), s.sec.dbg = false → s.sec.ir = .secchal → s.sec.owner.isSome = true →
    (s.blkAccept b 6 (decide (blkParam b = zeros 32)) s.ownerKey = true →
      exec (.debugConsent b) s = .next { s with sec := { s.sec with consent := true } }) ∧
    (s.blkAccept b 6 (decide (blkParam b = zeros 32)) s.ownerKey = false →
      ∃ t, exec (.debugConsent b) s = .next t ∧ t.sec.consent = false ∧ t.sec.owner = s.sec.owner)) ∧
  (∀ (s : State) (b k : List Byte), s.sec.dbg = false → s.sec.ir = .secchal →
    (s.sec.owner = none ∨ s.sec.consent = true → sha256 k = s.chip.debugHash → s.blkAccept b 5 (decide (blkParam b = zeros 32)) k = true →
      s.sec.signing = none → s.sec.due = [] → (∀ n : Fin 64, (s.rings[n]).unsealed = false) →
      ∃ t, exec (.debugUnlock b k) s = .next t ∧ t.sec.dbg = true ∧ t.sec.zeroised = true ∧ t.sec.consent = false) ∧
    (sha256 k ≠ s.chip.debugHash → ∃ t, exec (.debugUnlock b k) s = .next t ∧ t.sec.dbg = false ∧ t.sec.zeroised = s.sec.zeroised ∧
      t.sec.consent = false))

/-! ### The fabric, the watchdog and the slices (chapters 14, 15 and 18) -/

/-- A fabric access, or a read through BAR2, that meets a correctable word counts it in ERR_CE and leaves its region and word in
ERR_CE_LAST; the bytes delivered are those the memory holds, and no record is formed, changed or flagged. -/
def Obligations.CorrectableWords : Prop :=
  (∀ (s : State) (reqs : List FabPresent) (word region : Nat) (hits : List UeHit),
    (hits.findSome? UeHit.fifo).orElse (fun _ => (s.fabRun reqs).1) = some region →
    ∃ t, exec (.fabricAccessComplete reqs .corrected word hits) s = .next t ∧ t.gf ERR_CE_COUNT = min (s.gf ERR_CE_COUNT + 1) (2 ^ 32 - 1) ∧
      t.gf ERR_CE_LAST_REGION = region % 2 ^ 8 ∧ t.gf ERR_CE_LAST_WORD = word % 2 ^ 16 ∧ t.formed = s.formed ∧ t.rings = s.rings ∧
      t.grp = s.grp ∧ t.mem = s.mem ∧ t.heldLog = s.heldLog) ∧
  (∀ (s : State) (off : Fin 16777216) (n : Fin 513) (dc : Nat), s.bar2Up = true → n.val ≠ 0 → s.abp.wbuf = [] → s.abp.lastAux = none →
    s.bankServes (off.val / bankBytes) 6 = true → off.val % bankBytes + n.val ≤ bankBytes →
    ∃ t, exec (.bar2Read off n .corrected dc) s = .next t ∧ t.gf ERR_CE_COUNT = min (s.gf ERR_CE_COUNT + 1) (2 ^ 32 - 1) ∧
      t.gf ERR_CE_LAST_REGION = off.val / bankBytes % 2 ^ 8 ∧ t.gf ERR_CE_LAST_WORD = off.val % bankBytes / 32 ∧
      t.abp.bar2Out = some (s.memRead off.val n.val) ∧ t.formed = s.formed ∧ t.rings = s.rings ∧ t.grp = s.grp)

/-- A request that is alone, for a target that is free, is granted: its target is busy, its latency is kept, and its master's head is free.
A request that has waited 256 more cycles rises one age level, and at level 3 stays. A master from 2 on without progress is shown
WEDGED with its interrupt, the first of them in FIRST. A write of weights that R360 accepts sets all six, and any other sets only
ARB_ERR.WEIGHT. Clearing the conflict counters leaves the latencies, and clearing the latencies leaves the counters. -/
def Obligations.FabricRegisters : Prop :=
  (∀ (s : State) (m : Fin 12) (r : FabReq), s.fab.heads[m] = some r →
    (r.age < 3 → ∃ t, exec (.requestAgeRise m) s = .next t ∧ t.fab.heads[m] = some { r with age := r.age + 1 } ∧
      r.since + 256 * (r.age + 1) ≤ t.fab.cycle ∧ ∀ k : Fin 12, k ≠ m → t.fab.heads[k] = s.fab.heads[k]) ∧
    (3 ≤ r.age → exec (.requestAgeRise m) s = .next s)) ∧
  (∀ (s : State) (m : Fin 12) (r : FabReq) (word : Nat), s.fab.heads[m] = some r → (∀ k : Fin 12, k ≠ m → s.fab.heads[k] = none) →
    s.fab.resv = [] → s.fab.turnRt = none → s.fab.turnBk = none → s.fab.busyUntil r.tgt ≤ s.fab.cycle → s.lastGasp = false → 0 < s.fabWeight m →
    ∃ t, exec (.fabricAccessComplete [] .ok word []) s = .next t ∧ t.fab.heads[m] = none ∧ t.fab.busyUntil r.tgt = s.fab.cycle + r.kind.busy ∧
      t.gf (ARB_LAT_MAX m) = max (s.gf (ARB_LAT_MAX m)) (min (s.fab.cycle + r.kind.delay - r.since) 65535)) ∧
  (∀ (s : State) (m : Fin 12), 2 ≤ m.val → s.mbit WDOG_STAT_WEDGED m = false →
    ∃ t, exec (.masterWedged m) s = .next t ∧ t.mbit WDOG_STAT_WEDGED m = true ∧ t.gb (intBit 4) = true ∧
      (s.gf WDOG_STAT_WEDGED = 0 → t.gf WDOG_STAT_FIRST = m.val)) ∧
  (∀ (s : State) (rt : Bool) (v : Word), s.serving = true →
    (weightsOk rt v.toNat = true → ∃ t, exec (.arbWeightWrite rt v) s = .next t ∧
      ∀ i, i < 6 → t.gf (if rt then ARB_WEIGHT_RT_W i else ARB_WEIGHT_BK_W i) = v.toNat / 16 ^ i % 16) ∧
    (weightsOk rt v.toNat = false → exec (.arbWeightWrite rt v) s = .next (s.sf ARB_ERR_WEIGHT 1))) ∧
  (∀ (s : State) (en : Bool), s.serving = true →
    (∃ t, exec (.arbCounterClear en) s = .next t ∧ t.fab.cnt = [] ∧ t.gb ARB_CTRL_CNT_EN = en ∧
      ∀ m, m < 12 → t.gf (ARB_LAT_MAX m) = s.gf (ARB_LAT_MAX m) ∧ t.gf (ARB_LAT_AGED m) = s.gf (ARB_LAT_AGED m)) ∧
    (∃ t, exec (.arbLatencyClear en) s = .next t ∧ t.fab.cnt = s.fab.cnt ∧ t.gb ARB_CTRL_CNT_EN = en ∧
      ∀ m, m < 12 → t.gf (ARB_LAT_MAX m) = 0 ∧ t.gf (ARB_LAT_AGED m) = 0))

/-- Every copy that is due becomes the current one with the next number, and an accepted trial then starts a switch-over. A mismatch or a
stall starts one with its port and group, its interrupt and its count. A Caddy that is loaded after the self-tests takes the active role,
and one that is not loaded in time is fenced. Self-tests passed at start-up give the roles in ascending number; a slice that fails is
fenced. In a switch-over without a Caddy passed self-tests keep the roles. The end of a switch-over shows its cause and its span.
A trial is accepted inside a session with three slices present, and is refused with TRIAL_REFUSED when one is fenced. -/
def Obligations.Slices : Prop :=
  (∀ s : State, s.slicesRun = true → s.time.frozen = false →
    (s.slc.trial = false → ∃ t, exec .sliceCheckpoint s = .next t ∧ t.gf SLICE_CKSEQ_SEQ = (s.gf SLICE_CKSEQ_SEQ + 1) % 2 ^ 32 ∧
      t.slc.cur = some (s.sliceCopy ((s.gf SLICE_CKSEQ_SEQ + 1) % 2 ^ 32)) ∧ t.gb SLICE_STAT_SWITCHING = false) ∧
    (s.slc.trial = true → ∃ t, exec .sliceCheckpoint s = .next t ∧ t.slc.trial = false ∧ t.gb SLICE_STAT_SWITCHING = true ∧
      t.slc.sw.map Switch.cause = some 4)) ∧
  (∀ (s : State) (p : Fin 6) (g : Fin 2) (missing : Bool), s.isReady = true → s.gf SLICE_STAT_CHECKER ≠ 3 → s.gb SLICE_STAT_LOST = false →
    s.slc.sw = none → s.slc.cur.isSome = true → s.slc.bad = false →
    ∃ t, exec (.sliceMismatch p g missing) s = .next t ∧ t.gb SLICE_STAT_SWITCHING = true ∧ t.gf SLICE_MISMATCH_PORT = p.val ∧
      t.gf SLICE_MISMATCH_GROUP = g.val ∧ t.gb (intBit 2) = true ∧ t.slc.sw.map Switch.cause = some (if missing then 2 else 1) ∧
      t.gf SLICE_SWCNT_COUNT = min (s.gf SLICE_SWCNT_COUNT + 1) (2 ^ 16 - 1)) ∧
  (∀ (s : State) (g : Fin 2), s.slicesRun = true → (s.grp[g]).running = true → (s.grp[g]).monitor = false → s.slc.cur.isSome = true → s.slc.bad = false →
    ∃ t, exec (.sliceStall g) s = .next t ∧ t.gb SLICE_STAT_SWITCHING = true ∧ t.gf SLICE_MISMATCH_PORT = 15 ∧ t.slc.sw.map Switch.cause = some 3) ∧
  (∀ (s : State) (w : Switch), s.isReady = true → s.slc.sw = some w → w.caddy < 3 → w.loaded = false →
    (w.test.isSome = true → ∃ t, exec .caddyLoaded s = .next t ∧ t.gf SLICE_STAT_ACTIVE = w.caddy ∧ t.slc.sw.map Switch.assigned = some true) ∧
    (w.test = none → ∃ t, exec .caddyLoadTimeout s = .next t ∧ t.sliceFenced w.caddy = true ∧ t.gb SLICE_ERR_CADDY_FAIL = true ∧
      t.slc.sw.map Switch.caddy = some 3)) ∧
  (∀ s : State, s.rst.phase = .startup → s.rst.sliceDone = false → (∀ n, n < 3 → s.mbit FUSE_MISC_SLICE n = false) →
    ((∀ n, n < 3 → s.sliceFenced n = false) → ∃ t, exec (.sliceSelftestDone 7#3) s = .next t ∧ t.rst.sliceDone = true ∧
      t.gf SLICE_STAT_ACTIVE = 0 ∧ t.gf SLICE_STAT_CHECKER = 1 ∧ t.gf SLICE_STAT_CADDY = 2) ∧
    (∀ pass : BitVec 3, ∃ t, exec (.sliceSelftestDone pass) s = .next t ∧ ∀ n, n < 3 → pass.getLsbD n = false → t.sliceFenced n = true)) ∧
  (∀ (s : State) (w : Switch) (pass : BitVec 3), s.isReady = true → s.slc.sw = some w → w.test = none → w.caddy = 3 → w.oldA < 3 → w.oldC < 3 →
    pass.getLsbD w.oldA = true → pass.getLsbD w.oldC = true →
    ∃ t, exec (.sliceSelftestDone pass) s = .next t ∧ t.gf SLICE_STAT_ACTIVE = w.oldA ∧ t.gf SLICE_STAT_CHECKER = w.oldC ∧
      t.gb SLICE_STAT_UNCOMPARED = false ∧ t.slc.sw.map Switch.assigned = some true) ∧
  (∀ (s : State) (w : Switch) (gapUs backlogUs : Nat), s.isReady = true → s.slc.sw = some w → w.assigned = true → s.deferW = [] →
    ∃ t, exec (.switchoverEnd gapUs backlogUs) s = .next t ∧ t.slc.sw = none ∧ t.gb SLICE_STAT_SWITCHING = false ∧
      t.gf SLICE_LAST_CAUSE = w.cause % 8 ∧ t.gf SLICE_LAST_GAP_US = min gapUs 65535) ∧
  (∀ (s : State) (p : Port) (v : Word), s.serving = true → s.sealOpen p = true → v.toNat.testBit 0 = true →
    ((∀ n, n < 3 → s.sliceFenced n = false ∧ s.mbit FUSE_MISC_SLICE n = false) → s.switching = false → s.gb SLICE_STAT_LOST = false →
      ∃ t, exec (.sliceTrialRequest p v) s = .next t ∧ t.slc.trial = true) ∧
    (∀ n, n < 3 → s.sliceFenced n = true →
      ∃ t, exec (.sliceTrialRequest p v) s = .next t ∧ t.slc.trial = s.slc.trial ∧ t.gb SLICE_ERR_TRIAL_REFUSED = true))

/-! ### Memory banks, the background test, the aux bank port and BAR2 (chapters 12 and 16) -/

/-- A BANK_OWNER write that changes one bank to a valid code that R373 admits makes the change pending, with the owner as it was until it
completes; a reserved code sets BADCODE and begins nothing. When it completes the new owner is in force, nothing is pending, and a bank
cleared with it reads zeros. Power changes go the same way, and a bank that goes OFF reads zeros. A window not in use takes its
settings when they are valid; a write of one in use sets CW_BUSY and one of a range past the last bank CW_INVALID, and neither changes it. -/
def Obligations.BanksAndWindows : Prop :=
  (∀ (s : State) (k j : Fin 8) (v : Word), s.serving = true →
    (∀ i : Fin 8, i ≠ j → v.toNat / 16 ^ i.val % 8 = s.gf (BANK_OWNER_OWNER (8 * k.val + i.val))) →
    v.toNat / 16 ^ j.val % 8 ≠ s.gf (BANK_OWNER_OWNER (8 * k.val + j.val)) → s.bankPending (8 * k.val + j.val) = false →
    (v.toNat / 16 ^ j.val % 8 ≤ 5 → s.bankInWindow (8 * k.val + j.val) = false →
      s.mayLeave (s.gf (BANK_OWNER_OWNER (8 * k.val + j.val))) = true → s.mayJoin (v.toNat / 16 ^ j.val % 8) = true →
      ∃ t, exec (.bankHandover k v) s = .next t ∧ t.bankPending (8 * k.val + j.val) = true ∧
        t.bankPend = s.bankPend ++ [.owner (8 * k.val + j.val) (v.toNat / 16 ^ j.val % 8)
          (v.toNat.testBit (4 * j.val + 3) || decide (v.toNat / 16 ^ j.val % 8 = 0))] ∧
        t.gf (BANK_OWNER_OWNER (8 * k.val + j.val)) = s.gf (BANK_OWNER_OWNER (8 * k.val + j.val))) ∧
    (5 < v.toNat / 16 ^ j.val % 8 →
      ∃ t, exec (.bankHandover k v) s = .next t ∧ t.bankPend = s.bankPend ∧ t.gb BANK_ERR_BADCODE = true)) ∧
  (∀ (s : State) (b : Fin 64) (x new : Nat) (clr : Bool), s.bankPend.find? (fun p => p.bank == b.val) = some (.owner x new clr) →
    ∃ t, exec (.bankHandoverComplete b) s = .next t ∧ t.gf (BANK_OWNER_OWNER b.val) = new % 8 ∧ t.bankPending b.val = false ∧
      (clr = true → ∀ i, i < bankBytes → t.memByte (bankBytes * b.val + i) = 0)) ∧
  (∀ (s : State) (k : Fin 4) (j : Fin 16) (v : Word), s.serving = true →
    (∀ i : Fin 16, i ≠ j → v.toNat / 4 ^ i.val % 4 = s.gf (BANK_PWR_STATE (16 * k.val + i.val))) →
    v.toNat / 4 ^ j.val % 4 ≠ s.gf (BANK_PWR_STATE (16 * k.val + j.val)) → s.bankPending (16 * k.val + j.val) = false →
    v.toNat / 4 ^ j.val % 4 ≠ 3 → s.bankInWindow (16 * k.val + j.val) = false →
    s.mayLeave (s.gf (BANK_OWNER_OWNER (16 * k.val + j.val))) = true →
    ∃ t, exec (.bankPowerChange k v) s = .next t ∧ t.bankPend = s.bankPend ++ [.power (16 * k.val + j.val) (v.toNat / 4 ^ j.val % 4)] ∧
      t.gf (BANK_PWR_STATE (16 * k.val + j.val)) = s.gf (BANK_PWR_STATE (16 * k.val + j.val))) ∧
  (∀ (s : State) (b : Fin 64) (x new : Nat), s.bankPend.find? (fun p => p.bank == b.val) = some (.power x new) →
    ∃ t, exec (.bankPowerChangeComplete b) s = .next t ∧ t.gf (BANK_PWR_STATE b.val) = new % 4 ∧ t.bankPending b.val = false ∧
      (new = 2 → ∀ i, i < bankBytes → t.memByte (bankBytes * b.val + i) = 0)) ∧
  (∀ (s : State) (n : Fin 16) (v : Word), s.serving = true →
    (s.cwInUse n.val = true → ∃ t, exec (.windowConfigWrite n v) s = .next t ∧ t.gb BANK_ERR_CW_BUSY = true ∧
      t.gf (CW_CFG_FIRST n.val) = s.gf (CW_CFG_FIRST n.val) ∧ t.gf (CW_CFG_COUNT n.val) = s.gf (CW_CFG_COUNT n.val) ∧
      t.gb (CW_CFG_EN n.val) = s.gb (CW_CFG_EN n.val)) ∧
    (v.toNat.testBit 31 = true → 64 < v.toNat % 64 + v.toNat / 256 % 128 →
      ∃ t, exec (.windowConfigWrite n v) s = .next t ∧ t.gb BANK_ERR_CW_INVALID = true ∧ t.gf (CW_CFG_FIRST n.val) = s.gf (CW_CFG_FIRST n.val)) ∧
    (s.cwInUse n.val = false → v.toNat % 64 + v.toNat / 256 % 128 ≤ 64 →
      (∀ i j, i < v.toNat / 256 % 128 → j < v.toNat / 256 % 128 →
        s.gf (BANK_OWNER_OWNER (v.toNat % 64 + i)) = s.gf (BANK_OWNER_OWNER (v.toNat % 64 + j))) →
      ∃ t, exec (.windowConfigWrite n v) s = .next t ∧ t.gf (CW_CFG_FIRST n.val) = v.toNat % 64 ∧ t.gf (CW_CFG_COUNT n.val) = v.toNat / 256 % 128 ∧
        t.gb (CW_CFG_EN n.val) = v.toNat.testBit 31))

/-- While enabled, with no region under test and the next bank idle, the test takes the next region. A step without a failure goes on,
or ends the region after its last, and leaves the memory's contents; a failed March read ends the test of the region, shows the place and
fences the bank. A region that takes no step for 1 ms is restored and counted as deferred. -/
def Obligations.BackgroundTest : Prop :=
  (∀ (s : State) (r : Nat) (w : Bool), s.isReady = true → s.gb MTEST_CTRL_EN = true → s.mtest.active = false →
    s.mtestNext 66 s.mtest.next false = some (r, w) → s.bankIdle (r / 128) = true →
    ∃ t, exec .mtestRegionStart s = .next t ∧ t.mtest = { active := true, bank := r / 128, region := r % 128, next := r + 1, step := 0 } ∧
      t.mem = s.mem) ∧
  (∀ s : State, s.isReady = true → s.mtest.active = true → s.bankIdle s.mtest.bank = true →
    (s.mtest.step ≠ 43 → ∃ t, exec (.mtestStep none) s = .next t ∧ t.mtest = { s.mtest with step := s.mtest.step + 1 } ∧ t.mem = s.mem) ∧
    (s.mtest.step = 43 → ∃ t, exec (.mtestStep none) s = .next t ∧ t.mtest = { s.mtest with active := false, step := 0 } ∧ t.mem = s.mem)) ∧
  (∀ (s : State) (w : Fin 8192) (i : Fin 275), s.isReady = true → s.mtest.active = true → s.bankIdle s.mtest.bank = true → 4 ≤ s.mtest.step →
    s.mtest.step < 40 → s.mtest.bank < 64 →
    ∃ t, exec (.mtestStep (some (w, i))) s = .next t ∧ t.mtest.active = false ∧ t.bankFenced s.mtest.bank = true ∧ t.gb MTEST_FAIL_VALID = true ∧
      t.gf MTEST_FAIL_BANK = s.mtest.bank ∧ t.gf MTEST_FAIL_WORD = w.val ∧ t.gf MTEST_FAIL_BIT = i.val) ∧
  (∀ s : State, s.mtest.active = true →
    ∃ t, exec .mtestRegionTimeout s = .next t ∧ t.mtest = { s.mtest with active := false } ∧ t.mem = s.mem ∧
      t.gf MTEST_DEFER_COUNT = min (s.gf MTEST_DEFER_COUNT + 1) (2 ^ 32 - 1))

/-- An aux write that meets nothing waits in the write buffer with its lanes and, once performed, changes exactly the bytes its lanes
enable; one that no map entry answers is a miss with its address and its interrupt. A read of the word in the read buffer delivers it at
once, and any other keeps the port busy until its word is delivered. A BAR2 read of a bank that serves it delivers its bytes, and one of
another bank all ones with W2_MISS; a BAR2 write changes exactly the bytes that its byte enables name. -/
def Obligations.AuxPortAndBar2 : Prop :=
  (∀ (s : State) (a : BitVec 20) (be : BitVec 4) (v : Word) (dc : Nat), s.isReady = true → s.abp.busy = none →
    (∀ w l, s.abpLocate a.toNat = some (w, l) → s.abp.lastBar2 = none → s.abp.wbuf = [] →
      ∃ t, exec (.abpWrite a be v dc) s = .next t ∧ t.abp.wbuf = [abpEntryOf w l be.toNat v.toNat] ∧ t.mem = s.mem) ∧
    (s.abpLocate a.toNat = none →
      ∃ t, exec (.abpWrite a be v dc) s = .next t ∧ t.gb ABP_ERR_MISS = true ∧ t.gf ABP_MISS_ADDR_ADDR = a.toNat ∧ t.gb ABP_MISS_ADDR_WRITE = true ∧
        t.gb (intBit 8) = true ∧ t.mem = s.mem)) ∧
  (∀ (s : State) (w l : Nat) (be : BitVec 4) (v : Word), s.isReady = true → s.abp.busy = none → l < 8 →
    s.abp.wbuf = [abpEntryOf w l be.toNat v.toNat] →
    ∃ t, exec .abpAccessComplete s = .next t ∧ t.abp.wbuf = [] ∧
      (∀ i, i < 4 → t.memByte (32 * w + 4 * l + i) = if be.getLsbD i then (leBytes 4 v.toNat).getD i 0 else s.memByte (32 * w + 4 * l + i)) ∧
      ∀ x, x < 32 * w + 4 * l ∨ 32 * w + 4 * l + 4 ≤ x → t.memByte x = s.memByte x) ∧
  (∀ (s : State) (a : BitVec 20) (be : BitVec 4) (e : Ecc) (w l dc : Nat), s.isReady = true → s.abp.busy = none → s.abp.lastBar2 = none →
    s.abpLocate a.toNat = some (w, l) →
    (s.abp.rbuf = some w →
      ∃ t, exec (.abpRead a be e dc) s = .next t ∧ t.abp.dout = ofLe (s.memRead (32 * w + 4 * l) 4) ∧ t.abp.busy = none) ∧
    (s.abp.rbuf ≠ some w → ∃ t, exec (.abpRead a be e dc) s = .next t ∧ t.abp.busy =
      some { write := false, addr := a.toNat, word := w, lane := l, be := be.toNat, data := 0, ecc := e, undef := false })) ∧
  (∀ (s : State) (x : AbpAcc), s.isReady = true → s.abp.busy = some x → x.write = false → x.undef = false → x.ecc = .ok → s.abp.wbuf = [] →
    s.bankServes (x.word / 8192) 10 = true →
    ∃ t, exec .abpAccessComplete s = .next t ∧ t.abp.busy = none ∧ t.abp.dout = ofLe (s.memRead (32 * x.word + 4 * x.lane) 4) ∧
      t.abp.rbuf = some x.word ∧ t.mem = s.mem) ∧
  (∀ (s : State) (off : Fin 16777216) (n : Fin 513) (dc : Nat), s.bar2Up = true → n.val ≠ 0 → s.abp.wbuf = [] →
    (s.abp.lastAux = none → s.bankServes (off.val / bankBytes) 6 = true → off.val % bankBytes + n.val ≤ bankBytes →
      ∃ t, exec (.bar2Read off n .ok dc) s = .next t ∧ t.abp.bar2Out = some (s.memRead off.val n.val) ∧ t.mem = s.mem) ∧
    (s.bankServes (off.val / bankBytes) 6 = false →
      ∃ t, exec (.bar2Read off n .ok dc) s = .next t ∧ t.abp.bar2Out = some (List.replicate n.val 0xFF) ∧ t.gb HOST_ERR_W2_MISS = true ∧
        t.mem = s.mem)) ∧
  (∀ (s : State) (off : Fin 16777216) (bs : List Byte) (be dc : Nat), s.bar2Up = true → bs ≠ [] → s.abp.wbuf = [] → s.abp.lastAux = none →
    s.bankServes (off.val / bankBytes) 7 = true → off.val % bankBytes + bs.length ≤ bankBytes →
    ∃ t, exec (.bar2Write off bs be dc) s = .next t ∧
      (∀ i, i < bs.length → t.memByte (off.val + i) = if be.testBit i then bs.getD i 0 else s.memByte (off.val + i)) ∧
      ∀ x, x < off.val ∨ off.val + bs.length ≤ x → t.memByte x = s.memByte x)

/-! ### The Kettle (chapter 20) -/

/-- A loss of main power stores Kettle time, counts it and drops the writes in the port; a restore stores Kettle time. A cold start loses
the Kettle's state and flags source 11. The refresh once per second makes Kettle time equal device time to one Kettle cycle and
counts the session's timeout down. A rate measurement shows its error, and one of exactly 32768 counts a second shows 0. -/
def Obligations.KettlePowerAndTime : Prop :=
  (∀ (s : State) (n : Nat), s.ket.main = true →
    ∃ t, exec (.mainPowerLoss n) s = .next t ∧ t.ket.main = false ∧ t.ket.ploss = (s.ketRun n).ket.time ∧ t.ket.pcnt = min (s.ket.pcnt + 1) 0xFFFF ∧
      t.gf KET_PCNT_COUNT = min (s.ket.pcnt + 1) 0xFFFF ∧ t.ket.writes = [] ∧ t.ket.prest = s.ket.prest) ∧
  (∀ (s : State) (n : Nat), s.ket.main = false →
    ∃ t, exec (.mainPowerRestore n) s = .next t ∧ t.ket.main = true ∧ t.ket.prest = (s.ketRun n).ket.time ∧ t.ket.pcnt = s.ket.pcnt ∧
      t.ket.ploss = s.ket.ploss) ∧
  (∀ s : State, ∃ t, exec .kettleColdStart s = .next t ∧ t.ket.flagged 11 = true ∧ t.ket.rtc = 0 ∧ t.ket.valid = false ∧ t.ket.pcnt = 0 ∧
    t.ket.main = s.ket.main ∧ ∀ k : Fin 12, k ≠ 11 → t.ket.src[k] = {}) ∧
  (∀ (s : State) (n : Nat), s.isReady = true → s.time.frozen = false → s.ket.main = true →
    ∃ t, exec (.kettleOffsetRefresh n) s = .next t ∧ t.ket.valid = true ∧ t.ket.time = s.now / 2 ^ 17 * 2 ^ 17 ∧
      t.sec.session.map Session.left = s.sec.session.map (fun x => x.left - 1)) ∧
  (∀ (s : State) (n : Nat), s.isReady = true → s.time.frozen = false → s.ket.main = true →
    ∃ t, exec (.kettleRateMeasure n) s = .next t ∧ t.gb KET_STAT_RATE_VALID = true ∧ (n = 32768000 → t.gi KET_RATE_RATE = 0))

/-- With no self-test running: the second sample in a row of an enabled switch that reads abnormal, a mismatch of an enabled static loop
after sixteen matches, a temperature outside its limits and a battery below its limit, each first seen, are events, counted once in
their source's evidence with the condition present from then on. A switch that is not enabled is not sampled. The alarm pulse ends. -/
def Obligations.TamperEvents : Prop :=
  (∀ (s : State) (o : BitVec 4) (n : Nat) (k : Fin 4), s.ket.bist = none → s.gb (KET_SRC_EN k.val) = true →
    (o.getLsbD k.val != s.mbit KET_SWCFG_NORM_OPEN k.val) = true → s.ket.swAbn[k] = false → s.ket.swDiff[k] = true →
    ∃ t, exec (.tamperSwitchSample o n) s = .next t ∧ t.ket.swAbn[k] = true ∧
      (t.ket.src[k.val]'(by omega)).count = min ((s.ket.src[k.val]'(by omega)).count + 1) 0xFFFF) ∧
  (∀ (s : State) (o : BitVec 4) (n : Nat) (k : Fin 4), s.gb (KET_SRC_EN k.val) = false →
    ∃ t, exec (.tamperSwitchSample o n) s = .next t ∧ t.ket.swAbn[k] = s.ket.swAbn[k] ∧ t.ket.src[k.val]'(by omega) = s.ket.src[k.val]'(by omega)) ∧
  (∀ (s : State) (n : Nat) (k : Fin 4), s.ket.bist = none → s.gb (KET_SRC_EN (4 + k.val)) = true → s.loopMode k.val = 0 →
    (s.ket.loop[k]).episode = false → 16 ≤ (s.ket.loop[k]).good →
    ∃ t, exec (.tamperLoopSample k false n) s = .next t ∧ (t.ket.loop[k]).episode = true ∧
      (t.ket.src[4 + k.val]'(by omega)).count = min ((s.ket.src[4 + k.val]'(by omega)).count + 1) 0xFFFF) ∧
  (∀ (s : State) (temp : Int) (mv n : Nat), s.ket.bist = none →
    (s.gb (KET_SRC_EN 8) = true → temp < s.gi KET_ENVCFG_TLO ∨ s.gi KET_ENVCFG_THI < temp → s.ket.tempOut = false →
      ∃ t, exec (.kettleEnvMeasure temp mv n) s = .next t ∧ t.ket.tempOut = true ∧
        (t.ket.src[(8 : Fin 12)]).count = min ((s.ket.src[(8 : Fin 12)]).count + 1) 0xFFFF) ∧
    (s.gb (KET_SRC_EN 9) = true → mv < 1800 + 10 * s.gf KET_ENVCFG_VTH → s.ket.vbatLow = false →
      ∃ t, exec (.kettleEnvMeasure temp mv n) s = .next t ∧ t.ket.vbatLow = true ∧
        (t.ket.src[(9 : Fin 12)]).count = min ((s.ket.src[(9 : Fin 12)]).count + 1) 0xFFFF)) ∧
  (∀ s : State, ∃ t, exec .alarmPulseEnd s = .next t ∧ t.ket.pulse = false ∧ t.ket.src = s.ket.src)

/-- A write of KET_ESEL, and inside a session of KET_TRIM, waits in the Kettle port with BUSY and then takes effect, the trim within
±200; outside a session a write that would change the trim does not enter the port. KET_ASENSE takes its loop and enable, but not the
enable for a loop whose source is enabled. A self-test tests the enabled sources of its mask, and its end shows what passed. -/
def Obligations.KettlePortAndBist : Prop :=
  (∀ (s : State) (p : Port) (v : Word), s.serving = true → s.ket.main = true →
    (∃ t, exec (.kettleWrite p 0x1C v) s = .next t ∧ t.ket.writes = s.ket.writes ++ [(0x1E1C, v)] ∧ t.gb KET_STAT_BUSY = true) ∧
    (s.ket.writes = [] → (s.ketApply 0x1E14 v.toNat).regs ≠ s.regs →
      (s.sealOpen p = true → ∃ t, exec (.kettleWrite p 0x14 v) s = .next t ∧ t.ket.writes = [(0x1E14, v)] ∧ t.gb KET_STAT_BUSY = true) ∧
      (s.sealOpen p = false → ∃ t, exec (.kettleWrite p 0x14 v) s = .next t ∧ t.ket.writes = []))) ∧
  (∀ (s : State) (v : Word) (l : List (Nat × Word)) (n : Nat),
    (s.ket.writes = (0x1E1C, v) :: l → ∃ t, exec (.kettleWriteComplete n) s = .next t ∧ t.gf KET_ESEL_SRC = v.toNat % 16 ∧ t.ket.writes = l ∧
      t.gb KET_STAT_BUSY = !l.isEmpty) ∧
    (s.ket.writes = (0x1E14, v) :: l → ∃ t, exec (.kettleWriteComplete n) s = .next t ∧
      t.gi KET_TRIM_TRIM = clampInt (-200) 200 (toSigned 9 v.toNat) ∧ t.ket.writes = l)) ∧
  (∀ (s : State) (v : Word), s.serving = true → s.ket.main = true → s.ket.writes = [] →
    (s.gb (KET_SRC_EN (4 + v.toNat % 4)) = false → ∃ t, exec (.kettleAsenseWrite v) s = .next t ∧ t.gf KET_ASENSE_LOOP = v.toNat % 4 ∧
      t.gb KET_ASENSE_EN = v.toNat.testBit 2) ∧
    (s.gb (KET_SRC_EN (4 + v.toNat % 4)) = true → v.toNat.testBit 2 = true → exec (.kettleAsenseWrite v) s = .next s)) ∧
  (∀ (s : State) (m : BitVec 12), s.serving = true → s.ket.main = true → s.ket.writes = [] → s.ket.bist = none →
    ∃ t, exec (.kettleBistGo m) s = .next t ∧ t.gf KET_BIST_CTRL_MASK = m.toNat ∧ t.gb KET_STAT_BIST_BUSY = true ∧
      ∀ q, t.ket.bist = some q → ∀ k, k < 11 → q.testBit k = (m.getLsbD k && s.gb (KET_SRC_EN k))) ∧
  (∀ (s : State) (m n : Nat), s.ket.bist = some m → m < 2 ^ 12 →
    ∃ t, exec (.kettleBistDone n) s = .next t ∧ t.ket.bist = none ∧ t.gb KET_BIST_RES_DONE = true ∧ t.gf KET_BIST_RES_TESTED = m ∧
      t.gf KET_BIST_RES_PASS = (s.ket.bistMark &&& m) % 2 ^ 12)
end

