-- ==== Sys2Proof/Decode.lean ====
section
/-! DEFINITION. The command that a word spells. Every row of the spec's command table has an empty list of fields and no
bits, so no word spells a command. -/

namespace Sys2Proof

/-- The command that the bits of a word spell: none, since the table gives no row any bits. -/
def decodeTableWord (_nbits _w : Nat) : Option Instr := none

end Sys2Proof
end

