-- ==== Sys2Proof/Laws/SMap.lean ====
section
/-! SUPPORT. Laws of the sparse map: reading after writing, and the canonical form, which every operation keeps. -/

namespace Sys2Proof.Machine

variable {α : Type}

@[simp] theorem SMap.get_nil (d : Nat → α) (k : Nat) : SMap.get d [] k = d k := rfl

theorem SMap.get_erase (d : Nat → α) (m : SMap α) (k j : Nat) :
    SMap.get d (SMap.erase m k) j = if k = j then d j else SMap.get d m j := by
  induction m with
  | nil => simp [SMap.erase]
  | cons e m ih =>
    obtain ⟨a, v⟩ := e
    by_cases h : a = k
    · subst h
      rw [SMap.erase, if_pos rfl, ih]
      by_cases hj : a = j
      · rw [if_pos hj, if_pos hj]
      · rw [if_neg hj, if_neg hj, SMap.get, if_neg hj]
    · rw [SMap.erase, if_neg h, SMap.get, ih]
      by_cases hj : a = j
      · subst hj
        rw [if_pos rfl, if_neg (Ne.symm h), SMap.get, if_pos rfl]
      · rw [if_neg hj, SMap.get, if_neg hj]

theorem SMap.get_insert (d : Nat → α) (m : SMap α) (k : Nat) (v : α) (j : Nat) (hm : ∀ e ∈ m, e.1 ≠ k) :
    SMap.get d (SMap.insert m k v) j = if k = j then v else SMap.get d m j := by
  induction m with
  | nil => simp [SMap.insert, SMap.get]
  | cons e m ih =>
    obtain ⟨a, w⟩ := e
    have ha : a ≠ k := hm (a, w) (by simp)
    have ih := ih (fun e he => hm e (by simp [he]))
    by_cases h : k < a
    · rw [SMap.insert, if_pos h, SMap.get]
    · rw [SMap.insert, if_neg h, SMap.get, ih, SMap.get]
      by_cases hj : a = j
      · subst hj
        rw [if_pos rfl, if_neg (Ne.symm ha), if_pos rfl]
      · rw [if_neg hj, if_neg hj]

theorem SMap.erase_ne (m : SMap α) (k : Nat) : ∀ e ∈ SMap.erase m k, e.1 ≠ k := by
  induction m with
  | nil => simp [SMap.erase]
  | cons e m ih =>
    obtain ⟨a, w⟩ := e
    by_cases h : a = k
    · rw [SMap.erase, if_pos h]; exact ih
    · rw [SMap.erase, if_neg h]
      intro x hx
      rcases List.mem_cons.1 hx with rfl | hx
      · exact h
      · exact ih x hx

/-- A read after a write gives the value written, and every other key reads as before. -/
theorem SMap.get_set [DecidableEq α] (d : Nat → α) (m : SMap α) (k : Nat) (v : α) (j : Nat) :
    SMap.get d (SMap.set d m k v) j = if k = j then v else SMap.get d m j := by
  unfold SMap.set
  split
  · rename_i h
    rw [SMap.get_erase]
    split
    · rename_i hj
      rw [h, hj]
    · rfl
  · rw [SMap.get_insert _ _ _ _ _ (SMap.erase_ne m k), SMap.get_erase]
    split <;> simp_all

@[simp] theorem SMap.get_set_eq [DecidableEq α] (d : Nat → α) (m : SMap α) (k : Nat) (v : α) :
    SMap.get d (SMap.set d m k v) k = v := by
  rw [SMap.get_set, if_pos rfl]

theorem SMap.get_set_ne [DecidableEq α] (d : Nat → α) (m : SMap α) {k j : Nat} (v : α) (h : k ≠ j) :
    SMap.get d (SMap.set d m k v) j = SMap.get d m j := by
  rw [SMap.get_set, if_neg h]

theorem SMap.wfFrom_mono [DecidableEq α] (d : Nat → α) (m : SMap α) {lo lo' : Nat} (h : lo' ≤ lo) (hm : SMap.wfFrom d lo m = true) :
    SMap.wfFrom d lo' m = true := by
  cases m with
  | nil => rfl
  | cons e m =>
    obtain ⟨a, v⟩ := e
    simp only [SMap.wfFrom, Bool.and_eq_true, decide_eq_true_eq] at hm ⊢
    exact ⟨⟨h.trans hm.1.1, hm.1.2⟩, hm.2⟩

theorem SMap.wfFrom_erase [DecidableEq α] (d : Nat → α) (m : SMap α) (k : Nat) {lo : Nat} (hm : SMap.wfFrom d lo m = true) :
    SMap.wfFrom d lo (SMap.erase m k) = true := by
  induction m generalizing lo with
  | nil => rfl
  | cons e m ih =>
    obtain ⟨a, v⟩ := e
    simp only [SMap.wfFrom, Bool.and_eq_true, decide_eq_true_eq] at hm
    by_cases h : a = k
    · rw [SMap.erase, if_pos h]
      exact SMap.wfFrom_mono d _ (by omega) (ih hm.2)
    · rw [SMap.erase, if_neg h]
      simp only [SMap.wfFrom, Bool.and_eq_true, decide_eq_true_eq]
      exact ⟨hm.1, ih hm.2⟩

theorem SMap.wfFrom_insert [DecidableEq α] (d : Nat → α) (m : SMap α) (k : Nat) (v : α) {lo : Nat} (hv : v ≠ d k) (hk : lo ≤ k)
    (hn : ∀ e ∈ m, e.1 ≠ k) (hm : SMap.wfFrom d lo m = true) : SMap.wfFrom d lo (SMap.insert m k v) = true := by
  induction m generalizing lo with
  | nil => simp [SMap.insert, SMap.wfFrom, hv, hk]
  | cons e m ih =>
    obtain ⟨a, w⟩ := e
    have ha : a ≠ k := hn (a, w) (by simp)
    simp only [SMap.wfFrom, Bool.and_eq_true, decide_eq_true_eq] at hm
    by_cases h : k < a
    · rw [SMap.insert, if_pos h]
      simp only [SMap.wfFrom, Bool.and_eq_true, decide_eq_true_eq]
      exact ⟨⟨hk, hv⟩, ⟨by omega, hm.1.2⟩, hm.2⟩
    · rw [SMap.insert, if_neg h]
      simp only [SMap.wfFrom, Bool.and_eq_true, decide_eq_true_eq]
      exact ⟨hm.1, ih (by omega) (fun e he => hn e (by simp [he])) hm.2⟩

/-- A write keeps the canonical form. -/
theorem SMap.wf_set [DecidableEq α] (d : Nat → α) (m : SMap α) (k : Nat) (v : α) (hm : SMap.wf d m = true) :
    SMap.wf d (SMap.set d m k v) = true := by
  unfold SMap.set
  split
  · exact SMap.wfFrom_erase d m k hm
  · rename_i h
    exact SMap.wfFrom_insert d _ k v h (Nat.zero_le k) (SMap.erase_ne m k) (SMap.wfFrom_erase d m k hm)

theorem SMap.wfFrom_filter [DecidableEq α] (d : Nat → α) (f : Nat × α → Bool) (m : SMap α) {lo : Nat} (hm : SMap.wfFrom d lo m = true) :
    SMap.wfFrom d lo (m.filter f) = true := by
  induction m generalizing lo with
  | nil => rfl
  | cons e m ih =>
    obtain ⟨a, v⟩ := e
    simp only [SMap.wfFrom, Bool.and_eq_true, decide_eq_true_eq] at hm
    rw [List.filter_cons]
    split
    · simp only [SMap.wfFrom, Bool.and_eq_true, decide_eq_true_eq]
      exact ⟨hm.1, ih hm.2⟩
    · exact SMap.wfFrom_mono d _ (by omega) (ih hm.2)

/-- Dropping entries keeps the canonical form. -/
theorem SMap.wf_filter [DecidableEq α] (d : Nat → α) (f : Nat × α → Bool) (m : SMap α) (hm : SMap.wf d m = true) :
    SMap.wf d (m.filter f) = true := SMap.wfFrom_filter d f m hm

/-- Clearing a range keeps the canonical form. -/
theorem SMap.wf_clearRange [DecidableEq α] (d : Nat → α) (m : SMap α) (lo n : Nat) (hm : SMap.wf d m = true) :
    SMap.wf d (SMap.clearRange m lo n) = true := SMap.wfFrom_filter d _ m hm

theorem SMap.get_filter_key (d : Nat → α) (f : Nat → Bool) (m : SMap α) (k : Nat) :
    SMap.get d (m.filter (fun e => f e.1)) k = if f k then SMap.get d m k else d k := by
  induction m with
  | nil => simp
  | cons e m ih =>
    obtain ⟨a, v⟩ := e
    rw [List.filter_cons]
    by_cases ha : a = k
    · subst ha
      by_cases hf : f a = true
      · simp [hf, SMap.get]
      · rw [if_neg hf, ih, if_neg hf, if_neg hf]
    · split
      · rw [SMap.get, if_neg ha, ih, SMap.get, if_neg ha]
      · rw [ih, SMap.get, if_neg ha]

/-- A cleared range reads its defaults; every other key reads as before. -/
theorem SMap.get_clearRange (d : Nat → α) (m : SMap α) (lo n k : Nat) :
    SMap.get d (SMap.clearRange m lo n) k = if lo ≤ k ∧ k < lo + n then d k else SMap.get d m k := by
  have h := SMap.get_filter_key d (fun k => decide (k < lo) || decide (lo + n ≤ k)) m k
  rw [SMap.clearRange, h]
  by_cases hk : lo ≤ k ∧ k < lo + n
  · rw [if_pos hk, if_neg]; simp; omega
  · rw [if_neg hk, if_pos]; simp; omega

end Sys2Proof.Machine
end

