-- ==== Sys2Proof/Laws/State.lean ====
section
/-! SUPPORT. Reading a field after an update: what the update of a register field and of each part of the state leaves, each true by
unfolding, and the register fields by their keys. -/

namespace Sys2Proof.Machine

variable (s : State)

/-! ### Register fields -/

@[simp] theorem State.gf_sf (f : Fld) (v : Nat) : (s.sf f v).gf f = v % 2 ^ f.w := SMap.get_set_eq _ _ _ _

theorem State.gf_sf_ne {f g : Fld} (v : Nat) (h : f.key ≠ g.key) : (s.sf f v).gf g = s.gf g := SMap.get_set_ne _ _ _ h

theorem State.gb_sf (f : Fld) (v : Nat) : (s.sf f v).gb f = decide (v % 2 ^ f.w = 1) := by
  unfold State.gb
  rw [State.gf_sf]

theorem State.gb_sf_ne {f g : Fld} (v : Nat) (h : f.key ≠ g.key) : (s.sf f v).gb g = s.gb g := by
  unfold State.gb
  rw [State.gf_sf_ne s v h]

theorem State.sfs_cons (f : Fld) (v : Nat) (l : List (Fld × Nat)) : s.sfs ((f, v) :: l) = (s.sf f v).sfs l := rfl

@[simp] theorem State.sfs_nil : s.sfs [] = s := rfl

/-- A field that a list of fields does not write. -/
theorem State.gf_sfs_ne {g : Fld} (l : List (Fld × Nat)) (h : ∀ e ∈ l, e.1.key ≠ g.key) : (s.sfs l).gf g = s.gf g := by
  induction l generalizing s with
  | nil => rfl
  | cons e l ih =>
    obtain ⟨f, v⟩ := e
    rw [State.sfs_cons, ih _ (fun e he => h e (by simp [he])), State.gf_sf_ne s v (h (f, v) (by simp))]

/-- Writing a list of fields changes registers and nothing else. -/
theorem State.sfs_eq (l : List (Fld × Nat)) : s.sfs l = { s with regs := (s.sfs l).regs } := by
  induction l generalizing s with
  | nil => rfl
  | cons e l ih => exact ih _

/-! ### Writing a register field leaves every other part alone -/

@[simp] theorem State.sf_pending (f : Fld) (v : Nat) : (s.sf f v).pending = s.pending := rfl
@[simp] theorem State.sf_chip (f : Fld) (v : Nat) : (s.sf f v).chip = s.chip := rfl
@[simp] theorem State.sf_rst (f : Fld) (v : Nat) : (s.sf f v).rst = s.rst := rfl
@[simp] theorem State.sf_persist (f : Fld) (v : Nat) : (s.sf f v).persist = s.persist := rfl
@[simp] theorem State.sf_latch (f : Fld) (v : Nat) : (s.sf f v).latch = s.latch := rfl
@[simp] theorem State.sf_rdPcie (f : Fld) (v : Nat) : (s.sf f v).rdPcie = s.rdPcie := rfl
@[simp] theorem State.sf_rdSpi (f : Fld) (v : Nat) : (s.sf f v).rdSpi = s.rdSpi := rfl
@[simp] theorem State.sf_link (f : Fld) (v : Nat) : (s.sf f v).link = s.link := rfl
@[simp] theorem State.sf_rings (f : Fld) (v : Nat) : (s.sf f v).rings = s.rings := rfl
@[simp] theorem State.sf_heldLog (f : Fld) (v : Nat) : (s.sf f v).heldLog = s.heldLog := rfl
@[simp] theorem State.sf_heldSec (f : Fld) (v : Nat) : (s.sf f v).heldSec = s.heldSec := rfl
@[simp] theorem State.sf_cmd (f : Fld) (v : Nat) : (s.sf f v).cmd = s.cmd := rfl
@[simp] theorem State.sf_formed (f : Fld) (v : Nat) : (s.sf f v).formed = s.formed := rfl
@[simp] theorem State.sf_out (f : Fld) (v : Nat) : (s.sf f v).out = s.out := rfl
@[simp] theorem State.sf_first (f : Fld) (v : Nat) : (s.sf f v).first = s.first := rfl
@[simp] theorem State.sf_openT (f : Fld) (v : Nat) : (s.sf f v).openT = s.openT := rfl
@[simp] theorem State.sf_fab (f : Fld) (v : Nat) : (s.sf f v).fab = s.fab := rfl
@[simp] theorem State.sf_mem (f : Fld) (v : Nat) : (s.sf f v).mem = s.mem := rfl
@[simp] theorem State.sf_bankPend (f : Fld) (v : Nat) : (s.sf f v).bankPend = s.bankPend := rfl
@[simp] theorem State.sf_mtest (f : Fld) (v : Nat) : (s.sf f v).mtest = s.mtest := rfl
@[simp] theorem State.sf_abp (f : Fld) (v : Nat) : (s.sf f v).abp = s.abp := rfl
@[simp] theorem State.sf_nvm (f : Fld) (v : Nat) : (s.sf f v).nvm = s.nvm := rfl
@[simp] theorem State.sf_sec (f : Fld) (v : Nat) : (s.sf f v).sec = s.sec := rfl
@[simp] theorem State.sf_ket (f : Fld) (v : Nat) : (s.sf f v).ket = s.ket := rfl
@[simp] theorem State.sf_time (f : Fld) (v : Nat) : (s.sf f v).time = s.time := rfl
@[simp] theorem State.sf_chk (f : Fld) (v : Nat) : (s.sf f v).chk = s.chk := rfl
@[simp] theorem State.sf_grp (f : Fld) (v : Nat) : (s.sf f v).grp = s.grp := rfl
@[simp] theorem State.sf_chan (f : Fld) (v : Nat) : (s.sf f v).chan = s.chan := rfl
@[simp] theorem State.sf_cap (f : Fld) (v : Nat) : (s.sf f v).cap = s.cap := rfl
@[simp] theorem State.sf_met (f : Fld) (v : Nat) : (s.sf f v).met = s.met := rfl
@[simp] theorem State.sf_stat (f : Fld) (v : Nat) : (s.sf f v).stat = s.stat := rfl
@[simp] theorem State.sf_supraOn (f : Fld) (v : Nat) : (s.sf f v).supraOn = s.supraOn := rfl
@[simp] theorem State.sf_bil (f : Fld) (v : Nat) : (s.sf f v).bil = s.bil := rfl
@[simp] theorem State.sf_cals (f : Fld) (v : Nat) : (s.sf f v).cals = s.cals := rfl
@[simp] theorem State.sf_bilOut (f : Fld) (v : Nat) : (s.sf f v).bilOut = s.bilOut := rfl
@[simp] theorem State.sf_bilSaved (f : Fld) (v : Nat) : (s.sf f v).bilSaved = s.bilSaved := rfl
@[simp] theorem State.sf_deferW (f : Fld) (v : Nat) : (s.sf f v).deferW = s.deferW := rfl
@[simp] theorem State.sf_sar (f : Fld) (v : Nat) : (s.sf f v).sar = s.sar := rfl
@[simp] theorem State.sf_slc (f : Fld) (v : Nat) : (s.sf f v).slc = s.slc := rfl
@[simp] theorem State.sf_free (f : Fld) (v : Nat) : (s.sf f v).free = s.free := rfl

/-! ### Changing a ring, a group, a channel, the converters, a group's billing leaves every other part alone -/

@[simp] theorem State.setRing_pending (n : Fin 64) (f : Ring → Ring) : (s.setRing n f).pending = s.pending := rfl
@[simp] theorem State.setRing_chip (n : Fin 64) (f : Ring → Ring) : (s.setRing n f).chip = s.chip := rfl
@[simp] theorem State.setRing_rst (n : Fin 64) (f : Ring → Ring) : (s.setRing n f).rst = s.rst := rfl
@[simp] theorem State.setRing_persist (n : Fin 64) (f : Ring → Ring) : (s.setRing n f).persist = s.persist := rfl
@[simp] theorem State.setRing_regs (n : Fin 64) (f : Ring → Ring) : (s.setRing n f).regs = s.regs := rfl
@[simp] theorem State.setRing_latch (n : Fin 64) (f : Ring → Ring) : (s.setRing n f).latch = s.latch := rfl
@[simp] theorem State.setRing_rdPcie (n : Fin 64) (f : Ring → Ring) : (s.setRing n f).rdPcie = s.rdPcie := rfl
@[simp] theorem State.setRing_rdSpi (n : Fin 64) (f : Ring → Ring) : (s.setRing n f).rdSpi = s.rdSpi := rfl
@[simp] theorem State.setRing_link (n : Fin 64) (f : Ring → Ring) : (s.setRing n f).link = s.link := rfl
@[simp] theorem State.setRing_heldLog (n : Fin 64) (f : Ring → Ring) : (s.setRing n f).heldLog = s.heldLog := rfl
@[simp] theorem State.setRing_heldSec (n : Fin 64) (f : Ring → Ring) : (s.setRing n f).heldSec = s.heldSec := rfl
@[simp] theorem State.setRing_cmd (n : Fin 64) (f : Ring → Ring) : (s.setRing n f).cmd = s.cmd := rfl
@[simp] theorem State.setRing_formed (n : Fin 64) (f : Ring → Ring) : (s.setRing n f).formed = s.formed := rfl
@[simp] theorem State.setRing_out (n : Fin 64) (f : Ring → Ring) : (s.setRing n f).out = s.out := rfl
@[simp] theorem State.setRing_first (n : Fin 64) (f : Ring → Ring) : (s.setRing n f).first = s.first := rfl
@[simp] theorem State.setRing_openT (n : Fin 64) (f : Ring → Ring) : (s.setRing n f).openT = s.openT := rfl
@[simp] theorem State.setRing_fab (n : Fin 64) (f : Ring → Ring) : (s.setRing n f).fab = s.fab := rfl
@[simp] theorem State.setRing_mem (n : Fin 64) (f : Ring → Ring) : (s.setRing n f).mem = s.mem := rfl
@[simp] theorem State.setRing_bankPend (n : Fin 64) (f : Ring → Ring) : (s.setRing n f).bankPend = s.bankPend := rfl
@[simp] theorem State.setRing_mtest (n : Fin 64) (f : Ring → Ring) : (s.setRing n f).mtest = s.mtest := rfl
@[simp] theorem State.setRing_abp (n : Fin 64) (f : Ring → Ring) : (s.setRing n f).abp = s.abp := rfl
@[simp] theorem State.setRing_nvm (n : Fin 64) (f : Ring → Ring) : (s.setRing n f).nvm = s.nvm := rfl
@[simp] theorem State.setRing_sec (n : Fin 64) (f : Ring → Ring) : (s.setRing n f).sec = s.sec := rfl
@[simp] theorem State.setRing_ket (n : Fin 64) (f : Ring → Ring) : (s.setRing n f).ket = s.ket := rfl
@[simp] theorem State.setRing_time (n : Fin 64) (f : Ring → Ring) : (s.setRing n f).time = s.time := rfl
@[simp] theorem State.setRing_chk (n : Fin 64) (f : Ring → Ring) : (s.setRing n f).chk = s.chk := rfl
@[simp] theorem State.setRing_grp (n : Fin 64) (f : Ring → Ring) : (s.setRing n f).grp = s.grp := rfl
@[simp] theorem State.setRing_chan (n : Fin 64) (f : Ring → Ring) : (s.setRing n f).chan = s.chan := rfl
@[simp] theorem State.setRing_cap (n : Fin 64) (f : Ring → Ring) : (s.setRing n f).cap = s.cap := rfl
@[simp] theorem State.setRing_met (n : Fin 64) (f : Ring → Ring) : (s.setRing n f).met = s.met := rfl
@[simp] theorem State.setRing_stat (n : Fin 64) (f : Ring → Ring) : (s.setRing n f).stat = s.stat := rfl
@[simp] theorem State.setRing_supraOn (n : Fin 64) (f : Ring → Ring) : (s.setRing n f).supraOn = s.supraOn := rfl
@[simp] theorem State.setRing_bil (n : Fin 64) (f : Ring → Ring) : (s.setRing n f).bil = s.bil := rfl
@[simp] theorem State.setRing_cals (n : Fin 64) (f : Ring → Ring) : (s.setRing n f).cals = s.cals := rfl
@[simp] theorem State.setRing_bilOut (n : Fin 64) (f : Ring → Ring) : (s.setRing n f).bilOut = s.bilOut := rfl
@[simp] theorem State.setRing_bilSaved (n : Fin 64) (f : Ring → Ring) : (s.setRing n f).bilSaved = s.bilSaved := rfl
@[simp] theorem State.setRing_deferW (n : Fin 64) (f : Ring → Ring) : (s.setRing n f).deferW = s.deferW := rfl
@[simp] theorem State.setRing_sar (n : Fin 64) (f : Ring → Ring) : (s.setRing n f).sar = s.sar := rfl
@[simp] theorem State.setRing_slc (n : Fin 64) (f : Ring → Ring) : (s.setRing n f).slc = s.slc := rfl
@[simp] theorem State.setRing_free (n : Fin 64) (f : Ring → Ring) : (s.setRing n f).free = s.free := rfl

@[simp] theorem State.setGrp_pending (g : Fin 2) (f : Grp → Grp) : (s.setGrp g f).pending = s.pending := rfl
@[simp] theorem State.setGrp_chip (g : Fin 2) (f : Grp → Grp) : (s.setGrp g f).chip = s.chip := rfl
@[simp] theorem State.setGrp_rst (g : Fin 2) (f : Grp → Grp) : (s.setGrp g f).rst = s.rst := rfl
@[simp] theorem State.setGrp_persist (g : Fin 2) (f : Grp → Grp) : (s.setGrp g f).persist = s.persist := rfl
@[simp] theorem State.setGrp_regs (g : Fin 2) (f : Grp → Grp) : (s.setGrp g f).regs = s.regs := rfl
@[simp] theorem State.setGrp_latch (g : Fin 2) (f : Grp → Grp) : (s.setGrp g f).latch = s.latch := rfl
@[simp] theorem State.setGrp_rdPcie (g : Fin 2) (f : Grp → Grp) : (s.setGrp g f).rdPcie = s.rdPcie := rfl
@[simp] theorem State.setGrp_rdSpi (g : Fin 2) (f : Grp → Grp) : (s.setGrp g f).rdSpi = s.rdSpi := rfl
@[simp] theorem State.setGrp_link (g : Fin 2) (f : Grp → Grp) : (s.setGrp g f).link = s.link := rfl
@[simp] theorem State.setGrp_rings (g : Fin 2) (f : Grp → Grp) : (s.setGrp g f).rings = s.rings := rfl
@[simp] theorem State.setGrp_heldLog (g : Fin 2) (f : Grp → Grp) : (s.setGrp g f).heldLog = s.heldLog := rfl
@[simp] theorem State.setGrp_heldSec (g : Fin 2) (f : Grp → Grp) : (s.setGrp g f).heldSec = s.heldSec := rfl
@[simp] theorem State.setGrp_cmd (g : Fin 2) (f : Grp → Grp) : (s.setGrp g f).cmd = s.cmd := rfl
@[simp] theorem State.setGrp_formed (g : Fin 2) (f : Grp → Grp) : (s.setGrp g f).formed = s.formed := rfl
@[simp] theorem State.setGrp_out (g : Fin 2) (f : Grp → Grp) : (s.setGrp g f).out = s.out := rfl
@[simp] theorem State.setGrp_first (g : Fin 2) (f : Grp → Grp) : (s.setGrp g f).first = s.first := rfl
@[simp] theorem State.setGrp_openT (g : Fin 2) (f : Grp → Grp) : (s.setGrp g f).openT = s.openT := rfl
@[simp] theorem State.setGrp_fab (g : Fin 2) (f : Grp → Grp) : (s.setGrp g f).fab = s.fab := rfl
@[simp] theorem State.setGrp_mem (g : Fin 2) (f : Grp → Grp) : (s.setGrp g f).mem = s.mem := rfl
@[simp] theorem State.setGrp_bankPend (g : Fin 2) (f : Grp → Grp) : (s.setGrp g f).bankPend = s.bankPend := rfl
@[simp] theorem State.setGrp_mtest (g : Fin 2) (f : Grp → Grp) : (s.setGrp g f).mtest = s.mtest := rfl
@[simp] theorem State.setGrp_abp (g : Fin 2) (f : Grp → Grp) : (s.setGrp g f).abp = s.abp := rfl
@[simp] theorem State.setGrp_nvm (g : Fin 2) (f : Grp → Grp) : (s.setGrp g f).nvm = s.nvm := rfl
@[simp] theorem State.setGrp_sec (g : Fin 2) (f : Grp → Grp) : (s.setGrp g f).sec = s.sec := rfl
@[simp] theorem State.setGrp_ket (g : Fin 2) (f : Grp → Grp) : (s.setGrp g f).ket = s.ket := rfl
@[simp] theorem State.setGrp_time (g : Fin 2) (f : Grp → Grp) : (s.setGrp g f).time = s.time := rfl
@[simp] theorem State.setGrp_chk (g : Fin 2) (f : Grp → Grp) : (s.setGrp g f).chk = s.chk := rfl
@[simp] theorem State.setGrp_chan (g : Fin 2) (f : Grp → Grp) : (s.setGrp g f).chan = s.chan := rfl
@[simp] theorem State.setGrp_cap (g : Fin 2) (f : Grp → Grp) : (s.setGrp g f).cap = s.cap := rfl
@[simp] theorem State.setGrp_met (g : Fin 2) (f : Grp → Grp) : (s.setGrp g f).met = s.met := rfl
@[simp] theorem State.setGrp_stat (g : Fin 2) (f : Grp → Grp) : (s.setGrp g f).stat = s.stat := rfl
@[simp] theorem State.setGrp_supraOn (g : Fin 2) (f : Grp → Grp) : (s.setGrp g f).supraOn = s.supraOn := rfl
@[simp] theorem State.setGrp_bil (g : Fin 2) (f : Grp → Grp) : (s.setGrp g f).bil = s.bil := rfl
@[simp] theorem State.setGrp_cals (g : Fin 2) (f : Grp → Grp) : (s.setGrp g f).cals = s.cals := rfl
@[simp] theorem State.setGrp_bilOut (g : Fin 2) (f : Grp → Grp) : (s.setGrp g f).bilOut = s.bilOut := rfl
@[simp] theorem State.setGrp_bilSaved (g : Fin 2) (f : Grp → Grp) : (s.setGrp g f).bilSaved = s.bilSaved := rfl
@[simp] theorem State.setGrp_deferW (g : Fin 2) (f : Grp → Grp) : (s.setGrp g f).deferW = s.deferW := rfl
@[simp] theorem State.setGrp_sar (g : Fin 2) (f : Grp → Grp) : (s.setGrp g f).sar = s.sar := rfl
@[simp] theorem State.setGrp_slc (g : Fin 2) (f : Grp → Grp) : (s.setGrp g f).slc = s.slc := rfl
@[simp] theorem State.setGrp_free (g : Fin 2) (f : Grp → Grp) : (s.setGrp g f).free = s.free := rfl

@[simp] theorem State.setChan_pending (n : Fin 16) (f : Chan → Chan) : (s.setChan n f).pending = s.pending := rfl
@[simp] theorem State.setChan_chip (n : Fin 16) (f : Chan → Chan) : (s.setChan n f).chip = s.chip := rfl
@[simp] theorem State.setChan_rst (n : Fin 16) (f : Chan → Chan) : (s.setChan n f).rst = s.rst := rfl
@[simp] theorem State.setChan_persist (n : Fin 16) (f : Chan → Chan) : (s.setChan n f).persist = s.persist := rfl
@[simp] theorem State.setChan_regs (n : Fin 16) (f : Chan → Chan) : (s.setChan n f).regs = s.regs := rfl
@[simp] theorem State.setChan_latch (n : Fin 16) (f : Chan → Chan) : (s.setChan n f).latch = s.latch := rfl
@[simp] theorem State.setChan_rdPcie (n : Fin 16) (f : Chan → Chan) : (s.setChan n f).rdPcie = s.rdPcie := rfl
@[simp] theorem State.setChan_rdSpi (n : Fin 16) (f : Chan → Chan) : (s.setChan n f).rdSpi = s.rdSpi := rfl
@[simp] theorem State.setChan_link (n : Fin 16) (f : Chan → Chan) : (s.setChan n f).link = s.link := rfl
@[simp] theorem State.setChan_rings (n : Fin 16) (f : Chan → Chan) : (s.setChan n f).rings = s.rings := rfl
@[simp] theorem State.setChan_heldLog (n : Fin 16) (f : Chan → Chan) : (s.setChan n f).heldLog = s.heldLog := rfl
@[simp] theorem State.setChan_heldSec (n : Fin 16) (f : Chan → Chan) : (s.setChan n f).heldSec = s.heldSec := rfl
@[simp] theorem State.setChan_cmd (n : Fin 16) (f : Chan → Chan) : (s.setChan n f).cmd = s.cmd := rfl
@[simp] theorem State.setChan_formed (n : Fin 16) (f : Chan → Chan) : (s.setChan n f).formed = s.formed := rfl
@[simp] theorem State.setChan_out (n : Fin 16) (f : Chan → Chan) : (s.setChan n f).out = s.out := rfl
@[simp] theorem State.setChan_first (n : Fin 16) (f : Chan → Chan) : (s.setChan n f).first = s.first := rfl
@[simp] theorem State.setChan_openT (n : Fin 16) (f : Chan → Chan) : (s.setChan n f).openT = s.openT := rfl
@[simp] theorem State.setChan_fab (n : Fin 16) (f : Chan → Chan) : (s.setChan n f).fab = s.fab := rfl
@[simp] theorem State.setChan_mem (n : Fin 16) (f : Chan → Chan) : (s.setChan n f).mem = s.mem := rfl
@[simp] theorem State.setChan_bankPend (n : Fin 16) (f : Chan → Chan) : (s.setChan n f).bankPend = s.bankPend := rfl
@[simp] theorem State.setChan_mtest (n : Fin 16) (f : Chan → Chan) : (s.setChan n f).mtest = s.mtest := rfl
@[simp] theorem State.setChan_abp (n : Fin 16) (f : Chan → Chan) : (s.setChan n f).abp = s.abp := rfl
@[simp] theorem State.setChan_nvm (n : Fin 16) (f : Chan → Chan) : (s.setChan n f).nvm = s.nvm := rfl
@[simp] theorem State.setChan_sec (n : Fin 16) (f : Chan → Chan) : (s.setChan n f).sec = s.sec := rfl
@[simp] theorem State.setChan_ket (n : Fin 16) (f : Chan → Chan) : (s.setChan n f).ket = s.ket := rfl
@[simp] theorem State.setChan_time (n : Fin 16) (f : Chan → Chan) : (s.setChan n f).time = s.time := rfl
@[simp] theorem State.setChan_chk (n : Fin 16) (f : Chan → Chan) : (s.setChan n f).chk = s.chk := rfl
@[simp] theorem State.setChan_grp (n : Fin 16) (f : Chan → Chan) : (s.setChan n f).grp = s.grp := rfl
@[simp] theorem State.setChan_cap (n : Fin 16) (f : Chan → Chan) : (s.setChan n f).cap = s.cap := rfl
@[simp] theorem State.setChan_met (n : Fin 16) (f : Chan → Chan) : (s.setChan n f).met = s.met := rfl
@[simp] theorem State.setChan_stat (n : Fin 16) (f : Chan → Chan) : (s.setChan n f).stat = s.stat := rfl
@[simp] theorem State.setChan_supraOn (n : Fin 16) (f : Chan → Chan) : (s.setChan n f).supraOn = s.supraOn := rfl
@[simp] theorem State.setChan_bil (n : Fin 16) (f : Chan → Chan) : (s.setChan n f).bil = s.bil := rfl
@[simp] theorem State.setChan_cals (n : Fin 16) (f : Chan → Chan) : (s.setChan n f).cals = s.cals := rfl
@[simp] theorem State.setChan_bilOut (n : Fin 16) (f : Chan → Chan) : (s.setChan n f).bilOut = s.bilOut := rfl
@[simp] theorem State.setChan_bilSaved (n : Fin 16) (f : Chan → Chan) : (s.setChan n f).bilSaved = s.bilSaved := rfl
@[simp] theorem State.setChan_deferW (n : Fin 16) (f : Chan → Chan) : (s.setChan n f).deferW = s.deferW := rfl
@[simp] theorem State.setChan_sar (n : Fin 16) (f : Chan → Chan) : (s.setChan n f).sar = s.sar := rfl
@[simp] theorem State.setChan_slc (n : Fin 16) (f : Chan → Chan) : (s.setChan n f).slc = s.slc := rfl
@[simp] theorem State.setChan_free (n : Fin 16) (f : Chan → Chan) : (s.setChan n f).free = s.free := rfl

@[simp] theorem State.setSar_pending (f : Sar → Sar) : (s.setSar f).pending = s.pending := rfl
@[simp] theorem State.setSar_chip (f : Sar → Sar) : (s.setSar f).chip = s.chip := rfl
@[simp] theorem State.setSar_rst (f : Sar → Sar) : (s.setSar f).rst = s.rst := rfl
@[simp] theorem State.setSar_persist (f : Sar → Sar) : (s.setSar f).persist = s.persist := rfl
@[simp] theorem State.setSar_regs (f : Sar → Sar) : (s.setSar f).regs = s.regs := rfl
@[simp] theorem State.setSar_latch (f : Sar → Sar) : (s.setSar f).latch = s.latch := rfl
@[simp] theorem State.setSar_rdPcie (f : Sar → Sar) : (s.setSar f).rdPcie = s.rdPcie := rfl
@[simp] theorem State.setSar_rdSpi (f : Sar → Sar) : (s.setSar f).rdSpi = s.rdSpi := rfl
@[simp] theorem State.setSar_link (f : Sar → Sar) : (s.setSar f).link = s.link := rfl
@[simp] theorem State.setSar_rings (f : Sar → Sar) : (s.setSar f).rings = s.rings := rfl
@[simp] theorem State.setSar_heldLog (f : Sar → Sar) : (s.setSar f).heldLog = s.heldLog := rfl
@[simp] theorem State.setSar_heldSec (f : Sar → Sar) : (s.setSar f).heldSec = s.heldSec := rfl
@[simp] theorem State.setSar_cmd (f : Sar → Sar) : (s.setSar f).cmd = s.cmd := rfl
@[simp] theorem State.setSar_formed (f : Sar → Sar) : (s.setSar f).formed = s.formed := rfl
@[simp] theorem State.setSar_out (f : Sar → Sar) : (s.setSar f).out = s.out := rfl
@[simp] theorem State.setSar_first (f : Sar → Sar) : (s.setSar f).first = s.first := rfl
@[simp] theorem State.setSar_openT (f : Sar → Sar) : (s.setSar f).openT = s.openT := rfl
@[simp] theorem State.setSar_fab (f : Sar → Sar) : (s.setSar f).fab = s.fab := rfl
@[simp] theorem State.setSar_mem (f : Sar → Sar) : (s.setSar f).mem = s.mem := rfl
@[simp] theorem State.setSar_bankPend (f : Sar → Sar) : (s.setSar f).bankPend = s.bankPend := rfl
@[simp] theorem State.setSar_mtest (f : Sar → Sar) : (s.setSar f).mtest = s.mtest := rfl
@[simp] theorem State.setSar_abp (f : Sar → Sar) : (s.setSar f).abp = s.abp := rfl
@[simp] theorem State.setSar_nvm (f : Sar → Sar) : (s.setSar f).nvm = s.nvm := rfl
@[simp] theorem State.setSar_sec (f : Sar → Sar) : (s.setSar f).sec = s.sec := rfl
@[simp] theorem State.setSar_ket (f : Sar → Sar) : (s.setSar f).ket = s.ket := rfl
@[simp] theorem State.setSar_time (f : Sar → Sar) : (s.setSar f).time = s.time := rfl
@[simp] theorem State.setSar_chk (f : Sar → Sar) : (s.setSar f).chk = s.chk := rfl
@[simp] theorem State.setSar_grp (f : Sar → Sar) : (s.setSar f).grp = s.grp := rfl
@[simp] theorem State.setSar_chan (f : Sar → Sar) : (s.setSar f).chan = s.chan := rfl
@[simp] theorem State.setSar_cap (f : Sar → Sar) : (s.setSar f).cap = s.cap := rfl
@[simp] theorem State.setSar_met (f : Sar → Sar) : (s.setSar f).met = s.met := rfl
@[simp] theorem State.setSar_stat (f : Sar → Sar) : (s.setSar f).stat = s.stat := rfl
@[simp] theorem State.setSar_supraOn (f : Sar → Sar) : (s.setSar f).supraOn = s.supraOn := rfl
@[simp] theorem State.setSar_bil (f : Sar → Sar) : (s.setSar f).bil = s.bil := rfl
@[simp] theorem State.setSar_cals (f : Sar → Sar) : (s.setSar f).cals = s.cals := rfl
@[simp] theorem State.setSar_bilOut (f : Sar → Sar) : (s.setSar f).bilOut = s.bilOut := rfl
@[simp] theorem State.setSar_bilSaved (f : Sar → Sar) : (s.setSar f).bilSaved = s.bilSaved := rfl
@[simp] theorem State.setSar_deferW (f : Sar → Sar) : (s.setSar f).deferW = s.deferW := rfl
@[simp] theorem State.setSar_slc (f : Sar → Sar) : (s.setSar f).slc = s.slc := rfl
@[simp] theorem State.setSar_free (f : Sar → Sar) : (s.setSar f).free = s.free := rfl

@[simp] theorem State.setBil_pending (g : Fin 2) (f : Bil → Bil) : (s.setBil g f).pending = s.pending := rfl
@[simp] theorem State.setBil_chip (g : Fin 2) (f : Bil → Bil) : (s.setBil g f).chip = s.chip := rfl
@[simp] theorem State.setBil_rst (g : Fin 2) (f : Bil → Bil) : (s.setBil g f).rst = s.rst := rfl
@[simp] theorem State.setBil_persist (g : Fin 2) (f : Bil → Bil) : (s.setBil g f).persist = s.persist := rfl
@[simp] theorem State.setBil_regs (g : Fin 2) (f : Bil → Bil) : (s.setBil g f).regs = s.regs := rfl
@[simp] theorem State.setBil_latch (g : Fin 2) (f : Bil → Bil) : (s.setBil g f).latch = s.latch := rfl
@[simp] theorem State.setBil_rdPcie (g : Fin 2) (f : Bil → Bil) : (s.setBil g f).rdPcie = s.rdPcie := rfl
@[simp] theorem State.setBil_rdSpi (g : Fin 2) (f : Bil → Bil) : (s.setBil g f).rdSpi = s.rdSpi := rfl
@[simp] theorem State.setBil_link (g : Fin 2) (f : Bil → Bil) : (s.setBil g f).link = s.link := rfl
@[simp] theorem State.setBil_rings (g : Fin 2) (f : Bil → Bil) : (s.setBil g f).rings = s.rings := rfl
@[simp] theorem State.setBil_heldLog (g : Fin 2) (f : Bil → Bil) : (s.setBil g f).heldLog = s.heldLog := rfl
@[simp] theorem State.setBil_heldSec (g : Fin 2) (f : Bil → Bil) : (s.setBil g f).heldSec = s.heldSec := rfl
@[simp] theorem State.setBil_cmd (g : Fin 2) (f : Bil → Bil) : (s.setBil g f).cmd = s.cmd := rfl
@[simp] theorem State.setBil_formed (g : Fin 2) (f : Bil → Bil) : (s.setBil g f).formed = s.formed := rfl
@[simp] theorem State.setBil_out (g : Fin 2) (f : Bil → Bil) : (s.setBil g f).out = s.out := rfl
@[simp] theorem State.setBil_first (g : Fin 2) (f : Bil → Bil) : (s.setBil g f).first = s.first := rfl
@[simp] theorem State.setBil_openT (g : Fin 2) (f : Bil → Bil) : (s.setBil g f).openT = s.openT := rfl
@[simp] theorem State.setBil_fab (g : Fin 2) (f : Bil → Bil) : (s.setBil g f).fab = s.fab := rfl
@[simp] theorem State.setBil_mem (g : Fin 2) (f : Bil → Bil) : (s.setBil g f).mem = s.mem := rfl
@[simp] theorem State.setBil_bankPend (g : Fin 2) (f : Bil → Bil) : (s.setBil g f).bankPend = s.bankPend := rfl
@[simp] theorem State.setBil_mtest (g : Fin 2) (f : Bil → Bil) : (s.setBil g f).mtest = s.mtest := rfl
@[simp] theorem State.setBil_abp (g : Fin 2) (f : Bil → Bil) : (s.setBil g f).abp = s.abp := rfl
@[simp] theorem State.setBil_nvm (g : Fin 2) (f : Bil → Bil) : (s.setBil g f).nvm = s.nvm := rfl
@[simp] theorem State.setBil_sec (g : Fin 2) (f : Bil → Bil) : (s.setBil g f).sec = s.sec := rfl
@[simp] theorem State.setBil_ket (g : Fin 2) (f : Bil → Bil) : (s.setBil g f).ket = s.ket := rfl
@[simp] theorem State.setBil_time (g : Fin 2) (f : Bil → Bil) : (s.setBil g f).time = s.time := rfl
@[simp] theorem State.setBil_chk (g : Fin 2) (f : Bil → Bil) : (s.setBil g f).chk = s.chk := rfl
@[simp] theorem State.setBil_grp (g : Fin 2) (f : Bil → Bil) : (s.setBil g f).grp = s.grp := rfl
@[simp] theorem State.setBil_chan (g : Fin 2) (f : Bil → Bil) : (s.setBil g f).chan = s.chan := rfl
@[simp] theorem State.setBil_cap (g : Fin 2) (f : Bil → Bil) : (s.setBil g f).cap = s.cap := rfl
@[simp] theorem State.setBil_met (g : Fin 2) (f : Bil → Bil) : (s.setBil g f).met = s.met := rfl
@[simp] theorem State.setBil_stat (g : Fin 2) (f : Bil → Bil) : (s.setBil g f).stat = s.stat := rfl
@[simp] theorem State.setBil_supraOn (g : Fin 2) (f : Bil → Bil) : (s.setBil g f).supraOn = s.supraOn := rfl
@[simp] theorem State.setBil_cals (g : Fin 2) (f : Bil → Bil) : (s.setBil g f).cals = s.cals := rfl
@[simp] theorem State.setBil_bilOut (g : Fin 2) (f : Bil → Bil) : (s.setBil g f).bilOut = s.bilOut := rfl
@[simp] theorem State.setBil_bilSaved (g : Fin 2) (f : Bil → Bil) : (s.setBil g f).bilSaved = s.bilSaved := rfl
@[simp] theorem State.setBil_deferW (g : Fin 2) (f : Bil → Bil) : (s.setBil g f).deferW = s.deferW := rfl
@[simp] theorem State.setBil_sar (g : Fin 2) (f : Bil → Bil) : (s.setBil g f).sar = s.sar := rfl
@[simp] theorem State.setBil_slc (g : Fin 2) (f : Bil → Bil) : (s.setBil g f).slc = s.slc := rfl
@[simp] theorem State.setBil_free (g : Fin 2) (f : Bil → Bil) : (s.setBil g f).free = s.free := rfl

@[simp] theorem State.gf_setRing (n : Fin 64) (h : Ring → Ring) (f : Fld) : (s.setRing n h).gf f = s.gf f := rfl
@[simp] theorem State.gf_setGrp (g : Fin 2) (h : Grp → Grp) (f : Fld) : (s.setGrp g h).gf f = s.gf f := rfl
@[simp] theorem State.gf_setChan (n : Fin 16) (h : Chan → Chan) (f : Fld) : (s.setChan n h).gf f = s.gf f := rfl
@[simp] theorem State.gf_setSar (h : Sar → Sar) (f : Fld) : (s.setSar h).gf f = s.gf f := rfl
@[simp] theorem State.gf_setBil (g : Fin 2) (h : Bil → Bil) (f : Fld) : (s.setBil g h).gf f = s.gf f := rfl

@[simp] theorem State.setGrp_get (g : Fin 2) (f : Grp → Grp) : (s.setGrp g f).grp[g] = f s.grp[g] := by simp [State.setGrp]

@[simp] theorem State.setRing_get (n : Fin 64) (f : Ring → Ring) : (s.setRing n f).rings[n] = f s.rings[n] := by simp [State.setRing]

@[simp] theorem State.setChan_get (n : Fin 16) (f : Chan → Chan) : (s.setChan n f).chan[n] = f s.chan[n] := by simp [State.setChan]

@[simp] theorem State.setBil_get (g : Fin 2) (f : Bil → Bil) : (s.setBil g f).bil[g] = f s.bil[g] := by simp [State.setBil]

end Sys2Proof.Machine
end

