-- ==== Sys2Proof/Laws/Fields.lean ====
section
/-! SUPPORT. Reading a register field after writes of several fields, of mask bits, and after folds. -/

namespace Sys2Proof.Machine

/-- The field that a list of writes names first reads what was written, when no later entry names it. -/
theorem State.gf_sfs_head (s : State) (f : Fld) (v : Nat) (l : List (Fld × Nat)) (h : ∀ e ∈ l, e.1.key ≠ f.key) :
    (s.sfs ((f, v) :: l)).gf f = v % 2 ^ f.w := by
  rw [State.sfs_cons, State.gf_sfs_ne _ _ h, State.gf_sf]

/-- A list of writes reads, at a field that it names, what its last entry for that field says. -/
theorem State.gf_sfs_at (s : State) (l1 : List (Fld × Nat)) (f : Fld) (v : Nat) (l2 : List (Fld × Nat)) (h : ∀ e ∈ l2, e.1.key ≠ f.key) :
    (s.sfs (l1 ++ (f, v) :: l2)).gf f = v % 2 ^ f.w := by
  induction l1 generalizing s with
  | nil => exact s.gf_sfs_head f v l2 h
  | cons e l ih => rw [List.cons_append, State.sfs_cons, ih]

/-- Entry `i` of a list of writes reads back, when no later entry names its field. -/
theorem State.gf_sfs_get (s : State) (l : List (Fld × Nat)) (i : Nat) (f : Fld) (v : Nat) (h : l[i]? = some (f, v))
    (hk : (l.drop (i + 1)).all (fun e => decide (e.1.key ≠ f.key)) = true) : (s.sfs l).gf f = v % 2 ^ f.w := by
  have hi : i < l.length := by
    by_contra hc
    rw [List.getElem?_eq_none (by omega)] at h; cases h
  rw [List.getElem?_eq_getElem hi, Option.some.injEq] at h
  have hl : l = l.take i ++ (f, v) :: l.drop (i + 1) := by rw [← h, List.getElem_cons_drop, List.take_append_drop]
  rw [hl]
  refine State.gf_sfs_at _ _ _ _ _ (fun e he => ?_)
  simpa using List.all_eq_true.mp hk e he

/-- A fold whose steps leave a field alone leaves it alone. -/
theorem State.foldl_gf {α : Type} (g : Fld) (f : State → α → State) (l : List α) (s : State) (h : ∀ u, ∀ a ∈ l, (f u a).gf g = u.gf g) :
    (l.foldl f s).gf g = s.gf g := by
  induction l generalizing s with
  | nil => rfl
  | cons a l ih => rw [List.foldl_cons, ih _ (fun u b hb => h u b (List.mem_cons_of_mem _ hb)), h s a List.mem_cons_self]

/-- A bit of a mask field after one of its bits was written. -/
theorem State.mbit_smbit (s : State) (f : Fld) (i j : Nat) (b : Bool) (hj : j < f.w) :
    (s.smbit f i b).mbit f j = if i = j then b else s.mbit f j := by
  unfold State.mbit State.smbit
  simp only [State.gf_sf]
  rw [Nat.testBit_mod_two_pow]
  simp only [hj, decide_true, Bool.true_and]
  by_cases hij : i = j
  · subst hij
    cases b
    · by_cases hv : (s.gf f).testBit i = true
      · simp [hv, Nat.testBit_xor]
      · simp [hv]
    · simp [Nat.testBit_or]
  · cases b
    · by_cases hv : (s.gf f).testBit i = true
      · simp [hv, hij, Nat.testBit_xor]
      · simp [hv, hij]
    · simp [Nat.testBit_or, hij]

theorem State.mbit_smbit_ne (s : State) {f g : Fld} (i j : Nat) (b : Bool) (h : f.key ≠ g.key) : (s.smbit f i b).mbit g j = s.mbit g j := by
  unfold State.mbit State.smbit
  rw [State.gf_sf_ne _ _ h]

/-- A register field with another offset or another place in its word has another key. -/
theorem Fld.key_ne {f g : Fld} (hf : f.lo < 32) (hg : g.lo < 32) (h : f.off ≠ g.off ∨ f.lo ≠ g.lo) : f.key ≠ g.key := by
  unfold Fld.key; omega

end Sys2Proof.Machine
end

