-- ==== Sys2Proof/Laws/Scope.lean ====
section
/-! SUPPORT. Masks of parts and register groups, and where each register group lies. -/

namespace Sys2Proof.Machine

/-- A mask names at least what another names. -/
def Has (w m : Nat) : Prop := Nat.land m w = m

theorem Has.bit {w m k : Nat} (h : Has w m) (hb : m.testBit k = true) : w.testBit k = true := by
  have h1 : (m &&& w).testBit k = m.testBit k := congrArg (fun n => n.testBit k) h
  rw [Nat.testBit_and, hb] at h1
  simpa using h1

theorem Has.mono {w m n : Nat} (h : Has w m) (hn : Nat.land n m = n) : Has w n := by
  have h1 : m &&& w = m := h
  have h2 : n &&& m = n := hn
  show n &&& w = n
  rw [← h2, Nat.and_assoc, h1]

/-- What a mask names or not. -/
theorem named {w k : Nat} {P : Prop} (hf : w.testBit k = false) (h : w.testBit k = true ∨ P) : P :=
  h.resolve_left (by rw [hf]; exact Bool.noConfusion)

/-- The group of an offset is that of the start of its stretch, when no cut lies between. -/
theorem groupFrom_eq {a o : Nat} (h1 : a ≤ o) (g : RegGroup) (l : List (Nat × RegGroup))
    (hl : ∀ e ∈ l, e.1 ≤ a ∨ o < e.1) : groupFrom o g l = groupFrom a g l := by
  induction l generalizing g with
  | nil => rfl
  | cons e l ih =>
    have he := hl e (by simp)
    have hl' := fun x hx => hl x (List.mem_cons_of_mem _ hx)
    unfold groupFrom
    split <;> rename_i h2
    · rw [if_pos (by omega)]
    · rw [if_neg (by omega), ih _ hl']

/-- No cut lies between two offsets (with 0 for the second: after the first). -/
def noCut (a b : Nat) : Bool := regCuts.all (fun e => decide (e.1 ≤ a) || (b != 0 && decide (b ≤ e.1)))

theorem RegGroup.at {o k : Nat} (a b : Nat) (hk : 64 + (regGroup a).ctorIdx = k) (hc : noCut a b = true) (h1 : a ≤ o)
    (h2 : o < b ∨ b = 0) : 64 + (regGroup o).ctorIdx = k := by
  rw [← hk]
  congr 2
  refine groupFrom_eq h1 _ _ fun e he => ?_
  have := List.all_eq_true.1 hc e he
  simp only [Bool.or_eq_true, decide_eq_true_eq, Bool.and_eq_true, bne_iff_ne] at this
  omega

theorem RegGroup.id_at {o : Nat} (h1 : 0x0000 ≤ o) (h2 : o < 0x0030) : 64 + (regGroup o).ctorIdx = 64 :=
  RegGroup.at 0x0000 0x0030 rfl rfl h1 (.inl h2)
theorem RegGroup.fence_at {o : Nat} (h1 : 0x0030 ≤ o) (h2 : o < 0x0040) : 64 + (regGroup o).ctorIdx = 65 :=
  RegGroup.at 0x0030 0x0040 rfl rfl h1 (.inl h2)
theorem RegGroup.rst_at {o : Nat} (h1 : 0x0040 ≤ o) (h2 : o < 0x0058) : 64 + (regGroup o).ctorIdx = 66 :=
  RegGroup.at 0x0040 0x0058 rfl rfl h1 (.inl h2)
theorem RegGroup.strap_at {o : Nat} (h1 : 0x0058 ≤ o) (h2 : o < 0x0060) : 64 + (regGroup o).ctorIdx = 67 :=
  RegGroup.at 0x0058 0x0060 rfl rfl h1 (.inl h2)
theorem RegGroup.intStat_at {o : Nat} (h1 : 0x0060 ≤ o) (h2 : o < 0x0064) : 64 + (regGroup o).ctorIdx = 68 :=
  RegGroup.at 0x0060 0x0064 rfl rfl h1 (.inl h2)
theorem RegGroup.intEn_at {o : Nat} (h1 : 0x0064 ≤ o) (h2 : o < 0x006C) : 64 + (regGroup o).ctorIdx = 69 :=
  RegGroup.at 0x0064 0x006C rfl rfl h1 (.inl h2)
theorem RegGroup.scratch_at {o : Nat} (h1 : 0x006C ≤ o) (h2 : o < 0x0080) : 64 + (regGroup o).ctorIdx = 70 :=
  RegGroup.at 0x006C 0x0080 rfl rfl h1 (.inl h2)
theorem RegGroup.err_at {o : Nat} (h1 : 0x0080 ≤ o) (h2 : o < 0x0094) : 64 + (regGroup o).ctorIdx = 71 :=
  RegGroup.at 0x0080 0x0094 rfl rfl h1 (.inl h2)
theorem RegGroup.errRing_at {o : Nat} (h1 : 0x0094 ≤ o) (h2 : o < 0x009C) : 64 + (regGroup o).ctorIdx = 72 :=
  RegGroup.at 0x0094 0x009C rfl rfl h1 (.inl h2)
theorem RegGroup.wdogCtrl_at {o : Nat} (h1 : 0x009C ≤ o) (h2 : o < 0x00A0) : 64 + (regGroup o).ctorIdx = 73 :=
  RegGroup.at 0x009C 0x00A0 rfl rfl h1 (.inl h2)
theorem RegGroup.wdogStat_at {o : Nat} (h1 : 0x00A0 ≤ o) (h2 : o < 0x0100) : 64 + (regGroup o).ctorIdx = 74 :=
  RegGroup.at 0x00A0 0x0100 rfl rfl h1 (.inl h2)
theorem RegGroup.clk_at {o : Nat} (h1 : 0x0100 ≤ o) (h2 : o < 0x0200) : 64 + (regGroup o).ctorIdx = 75 :=
  RegGroup.at 0x0100 0x0200 rfl rfl h1 (.inl h2)
theorem RegGroup.afeRef_at {o : Nat} (h1 : 0x0200 ≤ o) (h2 : o < 0x0204) : 64 + (regGroup o).ctorIdx = 76 :=
  RegGroup.at 0x0200 0x0204 rfl rfl h1 (.inl h2)
theorem RegGroup.afeStatus_at {o : Nat} (h1 : 0x0204 ≤ o) (h2 : o < 0x0208) : 64 + (regGroup o).ctorIdx = 77 :=
  RegGroup.at 0x0204 0x0208 rfl rfl h1 (.inl h2)
theorem RegGroup.afeErr_at {o : Nat} (h1 : 0x0208 ≤ o) (h2 : o < 0x0210) : 64 + (regGroup o).ctorIdx = 78 :=
  RegGroup.at 0x0208 0x0210 rfl rfl h1 (.inl h2)
theorem RegGroup.afeCfg_at {o : Nat} (h1 : 0x0210 ≤ o) (h2 : o < 0x0250) : 64 + (regGroup o).ctorIdx = 79 :=
  RegGroup.at 0x0210 0x0250 rfl rfl h1 (.inl h2)
theorem RegGroup.afeChk_at {o : Nat} (h1 : 0x0250 ≤ o) (h2 : o < 0x0400) : 64 + (regGroup o).ctorIdx = 80 :=
  RegGroup.at 0x0250 0x0400 rfl rfl h1 (.inl h2)
theorem RegGroup.profCfg_at {o : Nat} (h1 : 0x0400 ≤ o) (h2 : o < 0x0440) : 64 + (regGroup o).ctorIdx = 81 :=
  RegGroup.at 0x0400 0x0440 rfl rfl h1 (.inl h2)
theorem RegGroup.profStat_at {o : Nat} (h1 : 0x0440 ≤ o) (h2 : o < 0x0444) : 64 + (regGroup o).ctorIdx = 82 :=
  RegGroup.at 0x0440 0x0444 rfl rfl h1 (.inl h2)
theorem RegGroup.profErr_at {o : Nat} (h1 : 0x0444 ≤ o) (h2 : o < 0x0480) : 64 + (regGroup o).ctorIdx = 83 :=
  RegGroup.at 0x0444 0x0480 rfl rfl h1 (.inl h2)
theorem RegGroup.thr_at {o : Nat} (h1 : 0x0480 ≤ o) (h2 : o < 0x0580) : 64 + (regGroup o).ctorIdx = 84 :=
  RegGroup.at 0x0480 0x0580 rfl rfl h1 (.inl h2)
theorem RegGroup.evtPinMask_at {o : Nat} (h1 : 0x0580 ≤ o) (h2 : o < 0x0590) : 64 + (regGroup o).ctorIdx = 85 :=
  RegGroup.at 0x0580 0x0590 rfl rfl h1 (.inl h2)
theorem RegGroup.evtPin_at {o : Nat} (h1 : 0x0590 ≤ o) (h2 : o < 0x0600) : 64 + (regGroup o).ctorIdx = 86 :=
  RegGroup.at 0x0590 0x0600 rfl rfl h1 (.inl h2)
theorem RegGroup.sarCal_at {o : Nat} (h1 : 0x0600 ≤ o) (h2 : o < 0x0608) : 64 + (regGroup o).ctorIdx = 87 :=
  RegGroup.at 0x0600 0x0608 rfl rfl h1 (.inl h2)
theorem RegGroup.tsarCtrl_at {o : Nat} (h1 : 0x0608 ≤ o) (h2 : o < 0x060C) : 64 + (regGroup o).ctorIdx = 88 :=
  RegGroup.at 0x0608 0x060C rfl rfl h1 (.inl h2)
theorem RegGroup.tsarErr_at {o : Nat} (h1 : 0x060C ≤ o) (h2 : o < 0x0610) : 64 + (regGroup o).ctorIdx = 89 :=
  RegGroup.at 0x060C 0x0610 rfl rfl h1 (.inl h2)
theorem RegGroup.tsarMap_at {o : Nat} (h1 : 0x0610 ≤ o) (h2 : o < 0x0614) : 64 + (regGroup o).ctorIdx = 90 :=
  RegGroup.at 0x0610 0x0614 rfl rfl h1 (.inl h2)
theorem RegGroup.fastPin_at {o : Nat} (h1 : 0x0614 ≤ o) (h2 : o < 0x0620) : 64 + (regGroup o).ctorIdx = 91 :=
  RegGroup.at 0x0614 0x0620 rfl rfl h1 (.inl h2)
theorem RegGroup.hsar_at {o : Nat} (h1 : 0x0620 ≤ o) (h2 : o < 0x0640) : 64 + (regGroup o).ctorIdx = 92 :=
  RegGroup.at 0x0620 0x0640 rfl rfl h1 (.inl h2)
theorem RegGroup.tsarCal_at {o : Nat} (h1 : 0x0640 ≤ o) (h2 : o < 0x06C0) : 64 + (regGroup o).ctorIdx = 93 :=
  RegGroup.at 0x0640 0x06C0 rfl rfl h1 (.inl h2)
theorem RegGroup.fast_at {o : Nat} (h1 : 0x06C0 ≤ o) (h2 : o < 0x0700) : 64 + (regGroup o).ctorIdx = 94 :=
  RegGroup.at 0x06C0 0x0700 rfl rfl h1 (.inl h2)
theorem RegGroup.hsarSeq_at {o : Nat} (h1 : 0x0700 ≤ o) (h2 : o < 0x0780) : 64 + (regGroup o).ctorIdx = 95 :=
  RegGroup.at 0x0700 0x0780 rfl rfl h1 (.inl h2)
theorem RegGroup.hsarRes_at {o : Nat} (h1 : 0x0780 ≤ o) (h2 : o < 0x0800) : 64 + (regGroup o).ctorIdx = 96 :=
  RegGroup.at 0x0780 0x0800 rfl rfl h1 (.inl h2)
theorem RegGroup.timeCtrl_at {o : Nat} (h1 : 0x0800 ≤ o) (h2 : o < 0x0804) : 64 + (regGroup o).ctorIdx = 97 :=
  RegGroup.at 0x0800 0x0804 rfl rfl h1 (.inl h2)
theorem RegGroup.timeStat_at {o : Nat} (h1 : 0x0804 ≤ o) (h2 : o < 0x0818) : 64 + (regGroup o).ctorIdx = 98 :=
  RegGroup.at 0x0804 0x0818 rfl rfl h1 (.inl h2)
theorem RegGroup.timeAdj_at {o : Nat} (h1 : 0x0818 ≤ o) (h2 : o < 0x081C) : 64 + (regGroup o).ctorIdx = 99 :=
  RegGroup.at 0x0818 0x081C rfl rfl h1 (.inl h2)
theorem RegGroup.ppsOfs_at {o : Nat} (h1 : 0x081C ≤ o) (h2 : o < 0x0820) : 64 + (regGroup o).ctorIdx = 100 :=
  RegGroup.at 0x081C 0x0820 rfl rfl h1 (.inl h2)
theorem RegGroup.pps_at {o : Nat} (h1 : 0x0820 ≤ o) (h2 : o < 0x0830) : 64 + (regGroup o).ctorIdx = 101 :=
  RegGroup.at 0x0820 0x0830 rfl rfl h1 (.inl h2)
theorem RegGroup.leap_at {o : Nat} (h1 : 0x0830 ≤ o) (h2 : o < 0x0838) : 64 + (regGroup o).ctorIdx = 102 :=
  RegGroup.at 0x0830 0x0838 rfl rfl h1 (.inl h2)
theorem RegGroup.halt_at {o : Nat} (h1 : 0x0838 ≤ o) (h2 : o < 0x0880) : 64 + (regGroup o).ctorIdx = 103 :=
  RegGroup.at 0x0838 0x0880 rfl rfl h1 (.inl h2)
theorem RegGroup.freq_at {o : Nat} (h1 : 0x0880 ≤ o) (h2 : o < 0x0A00) : 64 + (regGroup o).ctorIdx = 104 :=
  RegGroup.at 0x0880 0x0A00 rfl rfl h1 (.inl h2)
theorem RegGroup.metCtrl_at {o : Nat} (h1 : 0x0A00 ≤ o) (h2 : o < 0x0A10) : 64 + (regGroup o).ctorIdx = 105 :=
  RegGroup.at 0x0A00 0x0A10 rfl rfl h1 (.inl h2)
theorem RegGroup.metStat_at {o : Nat} (h1 : 0x0A10 ≤ o) (h2 : o < 0x0A18) : 64 + (regGroup o).ctorIdx = 106 :=
  RegGroup.at 0x0A10 0x0A18 rfl rfl h1 (.inl h2)
theorem RegGroup.metCreep_at {o : Nat} (h1 : 0x0A18 ≤ o) (h2 : o < 0x0A20) : 64 + (regGroup o).ctorIdx = 107 :=
  RegGroup.at 0x0A18 0x0A20 rfl rfl h1 (.inl h2)
theorem RegGroup.metEsel_at {o : Nat} (h1 : 0x0A20 ≤ o) (h2 : o < 0x0A60) : 64 + (regGroup o).ctorIdx = 108 :=
  RegGroup.at 0x0A20 0x0A60 rfl rfl h1 (.inl h2)
theorem RegGroup.cf_at {o : Nat} (h1 : 0x0A60 ≤ o) (h2 : o < 0x0B00) : 64 + (regGroup o).ctorIdx = 109 :=
  RegGroup.at 0x0A60 0x0B00 rfl rfl h1 (.inl h2)
theorem RegGroup.cal_at {o : Nat} (h1 : 0x0B00 ≤ o) (h2 : o < 0x0C00) : 64 + (regGroup o).ctorIdx = 110 :=
  RegGroup.at 0x0B00 0x0C00 rfl rfl h1 (.inl h2)
theorem RegGroup.specCfg_at {o : Nat} (h1 : 0x0C00 ≤ o) (h2 : o < 0x0C08) : 64 + (regGroup o).ctorIdx = 111 :=
  RegGroup.at 0x0C00 0x0C08 rfl rfl h1 (.inl h2)
theorem RegGroup.specStat_at {o : Nat} (h1 : 0x0C08 ≤ o) (h2 : o < 0x0C10) : 64 + (regGroup o).ctorIdx = 112 :=
  RegGroup.at 0x0C08 0x0C10 rfl rfl h1 (.inl h2)
theorem RegGroup.specErr_at {o : Nat} (h1 : 0x0C10 ≤ o) (h2 : o < 0x0C18) : 64 + (regGroup o).ctorIdx = 113 :=
  RegGroup.at 0x0C10 0x0C18 rfl rfl h1 (.inl h2)
theorem RegGroup.supra_at {o : Nat} (h1 : 0x0C18 ≤ o) (h2 : o < 0x0D00) : 64 + (regGroup o).ctorIdx = 114 :=
  RegGroup.at 0x0C18 0x0D00 rfl rfl h1 (.inl h2)
theorem RegGroup.evtCfg_at {o : Nat} (h1 : 0x0D00 ≤ o) (h2 : o < 0x0D28) : 64 + (regGroup o).ctorIdx = 115 :=
  RegGroup.at 0x0D00 0x0D28 rfl rfl h1 (.inl h2)
theorem RegGroup.evtStat_at {o : Nat} (h1 : 0x0D28 ≤ o) (h2 : o < 0x0D30) : 64 + (regGroup o).ctorIdx = 116 :=
  RegGroup.at 0x0D28 0x0D30 rfl rfl h1 (.inl h2)
theorem RegGroup.evtErr_at {o : Nat} (h1 : 0x0D30 ≤ o) (h2 : o < 0x0D34) : 64 + (regGroup o).ctorIdx = 117 :=
  RegGroup.at 0x0D30 0x0D34 rfl rfl h1 (.inl h2)
theorem RegGroup.trnCfg_at {o : Nat} (h1 : 0x0D34 ≤ o) (h2 : o < 0x0D40) : 64 + (regGroup o).ctorIdx = 118 :=
  RegGroup.at 0x0D34 0x0D40 rfl rfl h1 (.inl h2)
theorem RegGroup.capCfg_at {o : Nat} (h1 : 0x0D40 ≤ o) (h2 : o < 0x0D60) : 64 + (regGroup o).ctorIdx = 119 :=
  RegGroup.at 0x0D40 0x0D60 rfl rfl h1 (.inl h2)
theorem RegGroup.capStat_at {o : Nat} (h1 : 0x0D60 ≤ o) (h2 : o < 0x0E00) : 64 + (regGroup o).ctorIdx = 120 :=
  RegGroup.at 0x0D60 0x0E00 rfl rfl h1 (.inl h2)
theorem RegGroup.aggCtrl_at {o : Nat} (h1 : 0x0E00 ≤ o) (h2 : o < 0x0E04) : 64 + (regGroup o).ctorIdx = 121 :=
  RegGroup.at 0x0E00 0x0E04 rfl rfl h1 (.inl h2)
theorem RegGroup.aggStat_at {o : Nat} (h1 : 0x0E04 ≤ o) (h2 : o < 0x0E10) : 64 + (regGroup o).ctorIdx = 122 :=
  RegGroup.at 0x0E04 0x0E10 rfl rfl h1 (.inl h2)
theorem RegGroup.statCtrl_at {o : Nat} (h1 : 0x0E10 ≤ o) (h2 : o < 0x0E1C) : 64 + (regGroup o).ctorIdx = 123 :=
  RegGroup.at 0x0E10 0x0E1C rfl rfl h1 (.inl h2)
theorem RegGroup.statDesc_at {o : Nat} (h1 : 0x0E1C ≤ o) (h2 : o < 0x0E30) : 64 + (regGroup o).ctorIdx = 124 :=
  RegGroup.at 0x0E1C 0x0E30 rfl rfl h1 (.inl h2)
theorem RegGroup.statHist_at {o : Nat} (h1 : 0x0E30 ≤ o) (h2 : o < 0x0E40) : 64 + (regGroup o).ctorIdx = 125 :=
  RegGroup.at 0x0E30 0x0E40 rfl rfl h1 (.inl h2)
theorem RegGroup.statSeq_at {o : Nat} (h1 : 0x0E40 ≤ o) (h2 : o < 0x0E50) : 64 + (regGroup o).ctorIdx = 126 :=
  RegGroup.at 0x0E40 0x0E50 rfl rfl h1 (.inl h2)
theorem RegGroup.bankMap_at {o : Nat} (h1 : 0x0E50 ≤ o) (h2 : o < 0x1000) : 64 + (regGroup o).ctorIdx = 127 :=
  RegGroup.at 0x0E50 0x1000 rfl rfl h1 (.inl h2)
theorem RegGroup.bilCtrl_at {o : Nat} (h1 : 0x1000 ≤ o) (h2 : o < 0x1008) : 64 + (regGroup o).ctorIdx = 128 :=
  RegGroup.at 0x1000 0x1008 rfl rfl h1 (.inl h2)
theorem RegGroup.bilCfg_at {o : Nat} (h1 : 0x1008 ≤ o) (h2 : o < 0x1010) : 64 + (regGroup o).ctorIdx = 129 :=
  RegGroup.at 0x1008 0x1010 rfl rfl h1 (.inl h2)
theorem RegGroup.bilStat_at {o : Nat} (h1 : 0x1010 ≤ o) (h2 : o < 0x1028) : 64 + (regGroup o).ctorIdx = 130 :=
  RegGroup.at 0x1010 0x1028 rfl rfl h1 (.inl h2)
theorem RegGroup.bilErr_at {o : Nat} (h1 : 0x1028 ≤ o) (h2 : o < 0x1040) : 64 + (regGroup o).ctorIdx = 131 :=
  RegGroup.at 0x1028 0x1040 rfl rfl h1 (.inl h2)
theorem RegGroup.bilCal_at {o : Nat} (h1 : 0x1040 ≤ o) (h2 : o < 0x1060) : 64 + (regGroup o).ctorIdx = 132 :=
  RegGroup.at 0x1040 0x1060 rfl rfl h1 (.inl h2)
theorem RegGroup.bilSel_at {o : Nat} (h1 : 0x1060 ≤ o) (h2 : o < 0x1080) : 64 + (regGroup o).ctorIdx = 133 :=
  RegGroup.at 0x1060 0x1080 rfl rfl h1 (.inl h2)
theorem RegGroup.bilSnap_at {o : Nat} (h1 : 0x1080 ≤ o) (h2 : o < 0x1400) : 64 + (regGroup o).ctorIdx = 134 :=
  RegGroup.at 0x1080 0x1400 rfl rfl h1 (.inl h2)
theorem RegGroup.ring_at {o : Nat} (h1 : 0x1400 ≤ o) (h2 : o < 0x1420) : 64 + (regGroup o).ctorIdx = 135 :=
  RegGroup.at 0x1400 0x1420 rfl rfl h1 (.inl h2)
theorem RegGroup.linkStat_at {o : Nat} (h1 : 0x1420 ≤ o) (h2 : o < 0x1424) : 64 + (regGroup o).ctorIdx = 136 :=
  RegGroup.at 0x1420 0x1424 rfl rfl h1 (.inl h2)
theorem RegGroup.dma_at {o : Nat} (h1 : 0x1424 ≤ o) (h2 : o < 0x1428) : 64 + (regGroup o).ctorIdx = 137 :=
  RegGroup.at 0x1424 0x1428 rfl rfl h1 (.inl h2)
theorem RegGroup.reserve_at {o : Nat} (h1 : 0x1428 ≤ o) (h2 : o < 0x142C) : 64 + (regGroup o).ctorIdx = 138 :=
  RegGroup.at 0x1428 0x142C rfl rfl h1 (.inl h2)
theorem RegGroup.hostErr_at {o : Nat} (h1 : 0x142C ≤ o) (h2 : o < 0x1500) : 64 + (regGroup o).ctorIdx = 139 :=
  RegGroup.at 0x142C 0x1500 rfl rfl h1 (.inl h2)
theorem RegGroup.ringStat_at {o : Nat} (h1 : 0x1500 ≤ o) (h2 : o < 0x1600) : 64 + (regGroup o).ctorIdx = 140 :=
  RegGroup.at 0x1500 0x1600 rfl rfl h1 (.inl h2)
theorem RegGroup.mboxCmd_at {o : Nat} (h1 : 0x1600 ≤ o) (h2 : o < 0x1644) : 64 + (regGroup o).ctorIdx = 141 :=
  RegGroup.at 0x1600 0x1644 rfl rfl h1 (.inl h2)
theorem RegGroup.mbox_at {o : Nat} (h1 : 0x1644 ≤ o) (h2 : o < 0x1800) : 64 + (regGroup o).ctorIdx = 142 :=
  RegGroup.at 0x1644 0x1800 rfl rfl h1 (.inl h2)
theorem RegGroup.bankOwner_at {o : Nat} (h1 : 0x1800 ≤ o) (h2 : o < 0x1820) : 64 + (regGroup o).ctorIdx = 143 :=
  RegGroup.at 0x1800 0x1820 rfl rfl h1 (.inl h2)
theorem RegGroup.bankPwr_at {o : Nat} (h1 : 0x1820 ≤ o) (h2 : o < 0x1830) : 64 + (regGroup o).ctorIdx = 144 :=
  RegGroup.at 0x1820 0x1830 rfl rfl h1 (.inl h2)
theorem RegGroup.bankErr_at {o : Nat} (h1 : 0x1830 ≤ o) (h2 : o < 0x1880) : 64 + (regGroup o).ctorIdx = 145 :=
  RegGroup.at 0x1830 0x1880 rfl rfl h1 (.inl h2)
theorem RegGroup.cw_at {o : Nat} (h1 : 0x1880 ≤ o) (h2 : o < 0x1900) : 64 + (regGroup o).ctorIdx = 146 :=
  RegGroup.at 0x1880 0x1900 rfl rfl h1 (.inl h2)
theorem RegGroup.mtest_at {o : Nat} (h1 : 0x1900 ≤ o) (h2 : o < 0x1940) : 64 + (regGroup o).ctorIdx = 147 :=
  RegGroup.at 0x1900 0x1940 rfl rfl h1 (.inl h2)
theorem RegGroup.abpCfg_at {o : Nat} (h1 : 0x1940 ≤ o) (h2 : o < 0x1954) : 64 + (regGroup o).ctorIdx = 148 :=
  RegGroup.at 0x1940 0x1954 rfl rfl h1 (.inl h2)
theorem RegGroup.abpErr_at {o : Nat} (h1 : 0x1954 ≤ o) (h2 : o < 0x1A00) : 64 + (regGroup o).ctorIdx = 149 :=
  RegGroup.at 0x1954 0x1A00 rfl rfl h1 (.inl h2)
theorem RegGroup.nvm_at {o : Nat} (h1 : 0x1A00 ≤ o) (h2 : o < 0x1C00) : 64 + (regGroup o).ctorIdx = 150 :=
  RegGroup.at 0x1A00 0x1C00 rfl rfl h1 (.inl h2)
theorem RegGroup.slice_at {o : Nat} (h1 : 0x1C00 ≤ o) (h2 : o < 0x1D00) : 64 + (regGroup o).ctorIdx = 151 :=
  RegGroup.at 0x1C00 0x1D00 rfl rfl h1 (.inl h2)
theorem RegGroup.sec_at {o : Nat} (h1 : 0x1D00 ≤ o) (h2 : o < 0x1D30) : 64 + (regGroup o).ctorIdx = 152 :=
  RegGroup.at 0x1D00 0x1D30 rfl rfl h1 (.inl h2)
theorem RegGroup.sealCfg_at {o : Nat} (h1 : 0x1D30 ≤ o) (h2 : o < 0x1D34) : 64 + (regGroup o).ctorIdx = 153 :=
  RegGroup.at 0x1D30 0x1D34 rfl rfl h1 (.inl h2)
theorem RegGroup.secKeys_at {o : Nat} (h1 : 0x1D34 ≤ o) (h2 : o < 0x1E00) : 64 + (regGroup o).ctorIdx = 154 :=
  RegGroup.at 0x1D34 0x1E00 rfl rfl h1 (.inl h2)
theorem RegGroup.ketStat_at {o : Nat} (h1 : 0x1E00 ≤ o) (h2 : o < 0x1E08) : 64 + (regGroup o).ctorIdx = 155 :=
  RegGroup.at 0x1E00 0x1E08 rfl rfl h1 (.inl h2)
theorem RegGroup.ketCfg_at {o : Nat} (h1 : 0x1E08 ≤ o) (h2 : o < 0x1E18) : 64 + (regGroup o).ctorIdx = 156 :=
  RegGroup.at 0x1E08 0x1E18 rfl rfl h1 (.inl h2)
theorem RegGroup.ketView_at {o : Nat} (h1 : 0x1E18 ≤ o) (h2 : o < 0x1E50) : 64 + (regGroup o).ctorIdx = 157 :=
  RegGroup.at 0x1E18 0x1E50 rfl rfl h1 (.inl h2)
theorem RegGroup.ketBist_at {o : Nat} (h1 : 0x1E50 ≤ o) (h2 : o < 0x1E58) : 64 + (regGroup o).ctorIdx = 158 :=
  RegGroup.at 0x1E50 0x1E58 rfl rfl h1 (.inl h2)
theorem RegGroup.ketAsense_at {o : Nat} (h1 : 0x1E58 ≤ o) (h2 : o < 0x1E80) : 64 + (regGroup o).ctorIdx = 159 :=
  RegGroup.at 0x1E58 0x1E80 rfl rfl h1 (.inl h2)
theorem RegGroup.ketSrc_at {o : Nat} (h1 : 0x1E80 ≤ o) (h2 : o < 0x1F00) : 64 + (regGroup o).ctorIdx = 160 :=
  RegGroup.at 0x1E80 0x1F00 rfl rfl h1 (.inl h2)
theorem RegGroup.arbCfg_at {o : Nat} (h1 : 0x1F00 ≤ o) (h2 : o < 0x1F20) : 64 + (regGroup o).ctorIdx = 161 :=
  RegGroup.at 0x1F00 0x1F20 rfl rfl h1 (.inl h2)
theorem RegGroup.arbCnt_at {o : Nat} (h1 : 0x1F20 ≤ o) : 64 + (regGroup o).ctorIdx = 162 :=
  RegGroup.at 0x1F20 0 rfl rfl h1 (.inr rfl)

/-- Every register group. -/
def allRegs : Nat := 0x7ffffffffffffffffffffffff0000000000000000

theorem ctorIdx_lt (g : RegGroup) : g.ctorIdx < 99 := by cases g <;> decide

theorem allRegs_bit : ∀ i < 99, allRegs.testBit (64 + i) = true := by decide

theorem Has.anyReg {w : Nat} (h : Has w allRegs) (g : RegGroup) : w.testBit (64 + g.ctorIdx) = true := h.bit (allRegs_bit _ (ctorIdx_lt _))

/-- The mask names the register group of a field, or all of them. -/
def regOk (w : Nat) (f : Fld) : Prop := (f.lo < 32 ∧ w.testBit (64 + (regGroup f.off).ctorIdx) = true) ∨ Has w allRegs

/-- The mask names the register groups of the fields of a list. -/
def regsOk (w : Nat) : List (Fld × Nat) → Prop
  | [] => True
  | e :: l => regOk w e.1 ∧ regsOk w l

theorem Has.reg {w m o l d k : Nat} (h : Has w m) (hl : l < 32) (hk : 64 + (regGroup o).ctorIdx = k) (hb : m.testBit k = true) :
    regOk w ⟨o, l, d⟩ := .inl ⟨hl, by rw [show (⟨o, l, d⟩ : Fld).off = o from rfl, hk]; exact h.bit hb⟩

theorem regOk.ite {w : Nat} {c : Prop} [Decidable c] {f g : Fld} (hf : regOk w f) (hg : regOk w g) : regOk w (if c then f else g) := by
  split <;> assumption

theorem regsOk_of {w : Nat} {l : List (Fld × Nat)} (h : ∀ e ∈ l, regOk w e.1) : regsOk w l := by
  induction l with
  | nil => trivial
  | cons e l ih => exact ⟨h e (by simp), ih fun x hx => h x (List.mem_cons_of_mem _ hx)⟩

theorem mem_bitsOf_lt {n v i : Nat} (h : i ∈ bitsOf n v) : i < n := List.mem_range.1 (List.mem_of_mem_filter h)

end Sys2Proof.Machine
end

