-- ==== Sys2Proof/Laws/Keeps.lean ====
section
/-! SUPPORT. The rules of `State.Keeps`: it is reflexive and transitive, and it passes through branches, folds and updates of
fields. -/

namespace Sys2Proof.Machine

variable {w : Nat} {s0 s t u : State}

theorem StatePart.same_refl (p : StatePart) (s : State) : p.same s s := by
  cases p <;> first | exact rfl | exact fun _ => rfl | exact Nat.le_refl _

theorem StatePart.same_trans (p : StatePart) (h : p.same s t) (h' : p.same t u) : p.same s u := by
  cases p
  case hwm => exact Nat.le_trans h h'
  all_goals first | exact Eq.trans h' h | exact fun n => (h' n).trans (h n)

theorem State.Keeps.refl (w : Nat) (s : State) : State.Keeps w s s :=
  ⟨rfl, rfl, id, id, fun _ h g => ⟨h, g⟩, fun h => ⟨Nat.le_refl _, h⟩, Nat.le_refl _, List.suffix_refl _, id, id, id, List.prefix_refl _,
    fun p _ => p.same_refl s, fun _ _ _ => rfl⟩

theorem State.Keeps.trans (h : State.Keeps w s t) (h' : State.Keeps w t u) : State.Keeps w s u :=
  ⟨h'.pending.trans h.pending, h'.chip.trans h.chip, h'.dbg ∘ h.dbg, h'.zeroised ∘ h.zeroised, fun k a b => h'.owner k (h.owner k a b).1 (h.owner k a b).2,
    fun a => ⟨(h.mcount a).1.trans (h'.mcount (h.mcount a).2).1, (h'.mcount (h.mcount a).2).2⟩, h.rcount.trans h'.rcount,
    h.retired.trans h'.retired, h'.regs ∘ h.regs, h'.memWf ∘ h.memWf, h'.nvmWf ∘ h.nvmWf, h.out.trans h'.out,
    fun p hp => p.same_trans (h.part p hp) (h'.part p hp), fun f hl hf => (h'.reg f hl hf).trans (h.reg f hl hf)⟩

/-- A larger mask allows more. -/
theorem State.Keeps.mono {m : Nat} (hw : Has w m) (h : State.Keeps m s t) : State.Keeps w s t := by
  have hb : ∀ k, w.testBit k = false → m.testBit k = false := fun k hk => by
    cases hm : m.testBit k with
    | false => rfl
    | true => rw [hw.bit hm] at hk; exact hk
  exact ⟨h.pending, h.chip, h.dbg, h.zeroised, h.owner, h.mcount, h.rcount, h.retired, h.regs, h.memWf, h.nvmWf, h.out,
    fun p hp => h.part p (hb _ hp), fun f hl hf => h.reg f hl (hb _ hf)⟩

theorem State.Keeps.idS (h : State.Keeps w s0 s) : State.Keeps w s0 (id s) := h

theorem State.Keeps.ite {c : Prop} [Decidable c] (ht : State.Keeps w s0 s) (hu : State.Keeps w s0 t) :
    State.Keeps w s0 (if c then s else t) := by
  split <;> assumption

theorem State.Keeps.cond {c : Bool} (ht : State.Keeps w s0 s) (hu : State.Keeps w s0 t) : State.Keeps w s0 (bif c then s else t) := by
  cases c <;> assumption

theorem State.Keeps.iteSnd {α : Type} {c : Prop} [Decidable c] {x y : α × State} (ht : State.Keeps w s0 x.2)
    (hu : State.Keeps w s0 y.2) : State.Keeps w s0 (if c then x else y).2 := by
  split <;> assumption

theorem State.Keeps.iteSnd2 {α β : Type} {c : Prop} [Decidable c] {x y : α × β × State} (ht : State.Keeps w s0 x.2.2)
    (hu : State.Keeps w s0 y.2.2) : State.Keeps w s0 (if c then x else y).2.2 := by
  split <;> assumption

theorem State.Keeps.pair {α : Type} {a : α} (h : State.Keeps w s0 s) : State.Keeps w s0 (a, s).2 := h

theorem State.Keeps.triple {α β : Type} {a : α} {b : β} (h : State.Keeps w s0 s) : State.Keeps w s0 (a, b, s).2.2 := h

theorem State.Keeps.ofPair {α : Type} {e : α × State} {a : α} (he : e = (a, s)) (h : State.Keeps w s0 e.2) : State.Keeps w s0 s := by
  subst he; exact h

theorem State.Keeps.ofTriple {α β : Type} {e : α × β × State} {a : α} {b : β} (he : e = (a, b, s)) (h : State.Keeps w s0 e.2.2) :
    State.Keeps w s0 s := by
  subst he; exact h

theorem State.Keeps.foldl {α : Type} {f : State → α → State} {l : List α} (h : State.Keeps w s0 s)
    (hf : ∀ t a, State.Keeps w s0 t → State.Keeps w s0 (f t a)) : State.Keeps w s0 (l.foldl f s) := by
  induction l generalizing s with
  | nil => exact h
  | cons a l ih => exact ih (hf s a h)

theorem State.Keeps.foldlSnd {α β : Type} {f : β × State → α → β × State} {l : List α} {x : β × State} (h : State.Keeps w s0 x.2)
    (hf : ∀ t a, State.Keeps w s0 t.2 → State.Keeps w s0 (f t a).2) : State.Keeps w s0 (l.foldl f x).2 := by
  induction l generalizing x with
  | nil => exact h
  | cons a l ih => exact ih (hf x a h)

theorem State.Keeps.foldlSnd2 {α β γ : Type} {f : β × γ × State → α → β × γ × State} {l : List α} {x : β × γ × State}
    (h : State.Keeps w s0 x.2.2) (hf : ∀ t a, State.Keeps w s0 t.2.2 → State.Keeps w s0 (f t a).2.2) :
    State.Keeps w s0 (l.foldl f x).2.2 := by
  induction l generalizing x with
  | nil => exact h
  | cons a l ih => exact ih (hf x a h)

theorem State.Keeps.foldlFst {α β : Type} {f : State × β → α → State × β} {l : List α} {x : State × β} (h : State.Keeps w s0 x.1)
    (hf : ∀ t a, State.Keeps w s0 t.1 → State.Keeps w s0 (f t a).1) : State.Keeps w s0 (l.foldl f x).1 := by
  induction l generalizing x with
  | nil => exact h
  | cons a l ih => exact ih (hf x a h)

/-- What an outcome that is a next state keeps. -/
def OutKeeps (w : Nat) (s0 : State) (o : Host.Outcome State Fault Refusal) : Prop :=
  ∀ t, o = .next t → State.Keeps w s0 t

theorem OutKeeps.next (h : State.Keeps w s0 s) : OutKeeps w s0 (.next s) := by
  intro t ht
  cases ht
  exact h

theorem OutKeeps.ite {c : Prop} [Decidable c] {x y : Host.Outcome State Fault Refusal} (hx : OutKeeps w s0 x) (hy : OutKeeps w s0 y) :
    OutKeeps w s0 (if c then x else y) := by
  split <;> assumption

theorem State.Keeps.foldlMem {α : Type} {f : State → α → State} {l : List α} (h : State.Keeps w s0 s)
    (hf : ∀ t a, a ∈ l → State.Keeps w s0 t → State.Keeps w s0 (f t a)) : State.Keeps w s0 (l.foldl f s) := by
  induction l generalizing s with
  | nil => exact h
  | cons a l ih => exact ih (hf s a (by simp) h) (fun t b hb => hf t b (List.mem_cons_of_mem _ hb))

/-! ### Updates of fields -/

theorem State.Keeps.upd_rst {v_rst : RstSt}
    (h0 : w.testBit 0 = true)
    (h1 : w.testBit 30 = true ∨ v_rst.phase = s.rst.phase)
    (h : State.Keeps w s0 s) :
    State.Keeps w s0 { s with rst := v_rst } :=
  h.trans ⟨rfl, rfl, id, id, fun _ a b => ⟨a, b⟩, fun a => ⟨Nat.le_refl _, a⟩, Nat.le_refl _, List.suffix_refl _, id, id, id, List.prefix_refl _,
    fun p hp => by
      cases p
      case rst => exact named hp (.inl h0)
      case phase => exact named hp h1
      case hwm => exact Nat.le_refl _
      all_goals first | exact rfl | exact fun _ => rfl,
    fun _ _ _ => rfl⟩

theorem State.Keeps.upd_persist {v_persist : Persist}
    (h0 : w.testBit 1 = true)
    (h1 : s.persist.rcount ≤ v_persist.rcount)
    (h : State.Keeps w s0 s) :
    State.Keeps w s0 { s with persist := v_persist } :=
  h.trans ⟨rfl, rfl, id, id, fun _ a b => ⟨a, b⟩, fun a => ⟨Nat.le_refl _, a⟩, h1, List.suffix_refl _, id, id, id, List.prefix_refl _,
    fun p hp => by
      cases p
      case persist => exact named hp (.inl h0)
      case hwm => exact Nat.le_refl _
      all_goals first | exact rfl | exact fun _ => rfl,
    fun _ _ _ => rfl⟩

theorem State.Keeps.upd_latch {v_latch : SMap Nat}
    (h0 : w.testBit 2 = true)
    (h : State.Keeps w s0 s) :
    State.Keeps w s0 { s with latch := v_latch } :=
  h.trans ⟨rfl, rfl, id, id, fun _ a b => ⟨a, b⟩, fun a => ⟨Nat.le_refl _, a⟩, Nat.le_refl _, List.suffix_refl _, id, id, id, List.prefix_refl _,
    fun p hp => by
      cases p
      case latch => exact named hp (.inl h0)
      case hwm => exact Nat.le_refl _
      all_goals first | exact rfl | exact fun _ => rfl,
    fun _ _ _ => rfl⟩

theorem State.Keeps.upd_rdPcie {v_rdPcie : List Nat}
    (h0 : w.testBit 3 = true)
    (h : State.Keeps w s0 s) :
    State.Keeps w s0 { s with rdPcie := v_rdPcie } :=
  h.trans ⟨rfl, rfl, id, id, fun _ a b => ⟨a, b⟩, fun a => ⟨Nat.le_refl _, a⟩, Nat.le_refl _, List.suffix_refl _, id, id, id, List.prefix_refl _,
    fun p hp => by
      cases p
      case rdPcie => exact named hp (.inl h0)
      case hwm => exact Nat.le_refl _
      all_goals first | exact rfl | exact fun _ => rfl,
    fun _ _ _ => rfl⟩

theorem State.Keeps.upd_rdSpi {v_rdSpi : List Nat}
    (h0 : w.testBit 4 = true)
    (h : State.Keeps w s0 s) :
    State.Keeps w s0 { s with rdSpi := v_rdSpi } :=
  h.trans ⟨rfl, rfl, id, id, fun _ a b => ⟨a, b⟩, fun a => ⟨Nat.le_refl _, a⟩, Nat.le_refl _, List.suffix_refl _, id, id, id, List.prefix_refl _,
    fun p hp => by
      cases p
      case rdSpi => exact named hp (.inl h0)
      case hwm => exact Nat.le_refl _
      all_goals first | exact rfl | exact fun _ => rfl,
    fun _ _ _ => rfl⟩

theorem State.Keeps.upd_heldLog {v_heldLog : List QItem}
    (h0 : w.testBit 5 = true)
    (h : State.Keeps w s0 s) :
    State.Keeps w s0 { s with heldLog := v_heldLog } :=
  h.trans ⟨rfl, rfl, id, id, fun _ a b => ⟨a, b⟩, fun a => ⟨Nat.le_refl _, a⟩, Nat.le_refl _, List.suffix_refl _, id, id, id, List.prefix_refl _,
    fun p hp => by
      cases p
      case heldLog => exact named hp (.inl h0)
      case hwm => exact Nat.le_refl _
      all_goals first | exact rfl | exact fun _ => rfl,
    fun _ _ _ => rfl⟩

theorem State.Keeps.upd_heldSec {v_heldSec : List Rec}
    (h0 : w.testBit 6 = true)
    (h : State.Keeps w s0 s) :
    State.Keeps w s0 { s with heldSec := v_heldSec } :=
  h.trans ⟨rfl, rfl, id, id, fun _ a b => ⟨a, b⟩, fun a => ⟨Nat.le_refl _, a⟩, Nat.le_refl _, List.suffix_refl _, id, id, id, List.prefix_refl _,
    fun p hp => by
      cases p
      case heldSec => exact named hp (.inl h0)
      case hwm => exact Nat.le_refl _
      all_goals first | exact rfl | exact fun _ => rfl,
    fun _ _ _ => rfl⟩

theorem State.Keeps.upd_cmd {v_cmd : CmdSt}
    (h0 : w.testBit 7 = true)
    (h : State.Keeps w s0 s) :
    State.Keeps w s0 { s with cmd := v_cmd } :=
  h.trans ⟨rfl, rfl, id, id, fun _ a b => ⟨a, b⟩, fun a => ⟨Nat.le_refl _, a⟩, Nat.le_refl _, List.suffix_refl _, id, id, id, List.prefix_refl _,
    fun p hp => by
      cases p
      case cmd => exact named hp (.inl h0)
      case hwm => exact Nat.le_refl _
      all_goals first | exact rfl | exact fun _ => rfl,
    fun _ _ _ => rfl⟩

theorem State.Keeps.upd_formed {v_formed : List Rec}
    (h0 : w.testBit 8 = true)
    (h : State.Keeps w s0 s) :
    State.Keeps w s0 { s with formed := v_formed } :=
  h.trans ⟨rfl, rfl, id, id, fun _ a b => ⟨a, b⟩, fun a => ⟨Nat.le_refl _, a⟩, Nat.le_refl _, List.suffix_refl _, id, id, id, List.prefix_refl _,
    fun p hp => by
      cases p
      case formed => exact named hp (.inl h0)
      case hwm => exact Nat.le_refl _
      all_goals first | exact rfl | exact fun _ => rfl,
    fun _ _ _ => rfl⟩

theorem State.Keeps.upd_out {v_out : List DmaWr}
    (h0 : w.testBit 9 = true)
    (h1 : s.out <+: v_out)
    (h : State.Keeps w s0 s) :
    State.Keeps w s0 { s with out := v_out } :=
  h.trans ⟨rfl, rfl, id, id, fun _ a b => ⟨a, b⟩, fun a => ⟨Nat.le_refl _, a⟩, Nat.le_refl _, List.suffix_refl _, id, id, id, h1,
    fun p hp => by
      cases p
      case out => exact named hp (.inl h0)
      case hwm => exact Nat.le_refl _
      all_goals first | exact rfl | exact fun _ => rfl,
    fun _ _ _ => rfl⟩

theorem State.Keeps.upd_first {v_first : SMap Nat}
    (h0 : w.testBit 10 = true)
    (h : State.Keeps w s0 s) :
    State.Keeps w s0 { s with first := v_first } :=
  h.trans ⟨rfl, rfl, id, id, fun _ a b => ⟨a, b⟩, fun a => ⟨Nat.le_refl _, a⟩, Nat.le_refl _, List.suffix_refl _, id, id, id, List.prefix_refl _,
    fun p hp => by
      cases p
      case first => exact named hp (.inl h0)
      case hwm => exact Nat.le_refl _
      all_goals first | exact rfl | exact fun _ => rfl,
    fun _ _ _ => rfl⟩

theorem State.Keeps.upd_openT {v_openT : SMap Nat}
    (h0 : w.testBit 11 = true)
    (h : State.Keeps w s0 s) :
    State.Keeps w s0 { s with openT := v_openT } :=
  h.trans ⟨rfl, rfl, id, id, fun _ a b => ⟨a, b⟩, fun a => ⟨Nat.le_refl _, a⟩, Nat.le_refl _, List.suffix_refl _, id, id, id, List.prefix_refl _,
    fun p hp => by
      cases p
      case openT => exact named hp (.inl h0)
      case hwm => exact Nat.le_refl _
      all_goals first | exact rfl | exact fun _ => rfl,
    fun _ _ _ => rfl⟩

theorem State.Keeps.upd_fab {v_fab : Fab}
    (h0 : w.testBit 12 = true)
    (h : State.Keeps w s0 s) :
    State.Keeps w s0 { s with fab := v_fab } :=
  h.trans ⟨rfl, rfl, id, id, fun _ a b => ⟨a, b⟩, fun a => ⟨Nat.le_refl _, a⟩, Nat.le_refl _, List.suffix_refl _, id, id, id, List.prefix_refl _,
    fun p hp => by
      cases p
      case fab => exact named hp (.inl h0)
      case hwm => exact Nat.le_refl _
      all_goals first | exact rfl | exact fun _ => rfl,
    fun _ _ _ => rfl⟩

theorem State.Keeps.upd_mem {v_mem : Memory}
    (h0 : w.testBit 13 = true)
    (h1 : Memory.wf s.mem = true → Memory.wf v_mem = true)
    (h : State.Keeps w s0 s) :
    State.Keeps w s0 { s with mem := v_mem } :=
  h.trans ⟨rfl, rfl, id, id, fun _ a b => ⟨a, b⟩, fun a => ⟨Nat.le_refl _, a⟩, Nat.le_refl _, List.suffix_refl _, id, h1, id, List.prefix_refl _,
    fun p hp => by
      cases p
      case mem => exact named hp (.inl h0)
      case hwm => exact Nat.le_refl _
      all_goals first | exact rfl | exact fun _ => rfl,
    fun _ _ _ => rfl⟩

theorem State.Keeps.upd_bankPend {v_bankPend : List BankPend}
    (h0 : w.testBit 14 = true)
    (h : State.Keeps w s0 s) :
    State.Keeps w s0 { s with bankPend := v_bankPend } :=
  h.trans ⟨rfl, rfl, id, id, fun _ a b => ⟨a, b⟩, fun a => ⟨Nat.le_refl _, a⟩, Nat.le_refl _, List.suffix_refl _, id, id, id, List.prefix_refl _,
    fun p hp => by
      cases p
      case bankPend => exact named hp (.inl h0)
      case hwm => exact Nat.le_refl _
      all_goals first | exact rfl | exact fun _ => rfl,
    fun _ _ _ => rfl⟩

theorem State.Keeps.upd_mtest {v_mtest : MTest}
    (h0 : w.testBit 15 = true)
    (h : State.Keeps w s0 s) :
    State.Keeps w s0 { s with mtest := v_mtest } :=
  h.trans ⟨rfl, rfl, id, id, fun _ a b => ⟨a, b⟩, fun a => ⟨Nat.le_refl _, a⟩, Nat.le_refl _, List.suffix_refl _, id, id, id, List.prefix_refl _,
    fun p hp => by
      cases p
      case mtest => exact named hp (.inl h0)
      case hwm => exact Nat.le_refl _
      all_goals first | exact rfl | exact fun _ => rfl,
    fun _ _ _ => rfl⟩

theorem State.Keeps.upd_abp {v_abp : Abp}
    (h0 : w.testBit 16 = true)
    (h : State.Keeps w s0 s) :
    State.Keeps w s0 { s with abp := v_abp } :=
  h.trans ⟨rfl, rfl, id, id, fun _ a b => ⟨a, b⟩, fun a => ⟨Nat.le_refl _, a⟩, Nat.le_refl _, List.suffix_refl _, id, id, id, List.prefix_refl _,
    fun p hp => by
      cases p
      case abp => exact named hp (.inl h0)
      case hwm => exact Nat.le_refl _
      all_goals first | exact rfl | exact fun _ => rfl,
    fun _ _ _ => rfl⟩

theorem State.Keeps.upd_chk {v_chk : Chk}
    (h0 : w.testBit 17 = true)
    (h : State.Keeps w s0 s) :
    State.Keeps w s0 { s with chk := v_chk } :=
  h.trans ⟨rfl, rfl, id, id, fun _ a b => ⟨a, b⟩, fun a => ⟨Nat.le_refl _, a⟩, Nat.le_refl _, List.suffix_refl _, id, id, id, List.prefix_refl _,
    fun p hp => by
      cases p
      case chk => exact named hp (.inl h0)
      case hwm => exact Nat.le_refl _
      all_goals first | exact rfl | exact fun _ => rfl,
    fun _ _ _ => rfl⟩

theorem State.Keeps.upd_cap {v_cap : Cap}
    (h0 : w.testBit 18 = true)
    (h : State.Keeps w s0 s) :
    State.Keeps w s0 { s with cap := v_cap } :=
  h.trans ⟨rfl, rfl, id, id, fun _ a b => ⟨a, b⟩, fun a => ⟨Nat.le_refl _, a⟩, Nat.le_refl _, List.suffix_refl _, id, id, id, List.prefix_refl _,
    fun p hp => by
      cases p
      case cap => exact named hp (.inl h0)
      case hwm => exact Nat.le_refl _
      all_goals first | exact rfl | exact fun _ => rfl,
    fun _ _ _ => rfl⟩

theorem State.Keeps.upd_met {v_met : Met}
    (h0 : w.testBit 19 = true)
    (h : State.Keeps w s0 s) :
    State.Keeps w s0 { s with met := v_met } :=
  h.trans ⟨rfl, rfl, id, id, fun _ a b => ⟨a, b⟩, fun a => ⟨Nat.le_refl _, a⟩, Nat.le_refl _, List.suffix_refl _, id, id, id, List.prefix_refl _,
    fun p hp => by
      cases p
      case met => exact named hp (.inl h0)
      case hwm => exact Nat.le_refl _
      all_goals first | exact rfl | exact fun _ => rfl,
    fun _ _ _ => rfl⟩

theorem State.Keeps.upd_stat {v_stat : StatSt}
    (h0 : w.testBit 20 = true)
    (h : State.Keeps w s0 s) :
    State.Keeps w s0 { s with stat := v_stat } :=
  h.trans ⟨rfl, rfl, id, id, fun _ a b => ⟨a, b⟩, fun a => ⟨Nat.le_refl _, a⟩, Nat.le_refl _, List.suffix_refl _, id, id, id, List.prefix_refl _,
    fun p hp => by
      cases p
      case stat => exact named hp (.inl h0)
      case hwm => exact Nat.le_refl _
      all_goals first | exact rfl | exact fun _ => rfl,
    fun _ _ _ => rfl⟩

theorem State.Keeps.upd_supraOn {v_supraOn : Nat}
    (h0 : w.testBit 21 = true)
    (h : State.Keeps w s0 s) :
    State.Keeps w s0 { s with supraOn := v_supraOn } :=
  h.trans ⟨rfl, rfl, id, id, fun _ a b => ⟨a, b⟩, fun a => ⟨Nat.le_refl _, a⟩, Nat.le_refl _, List.suffix_refl _, id, id, id, List.prefix_refl _,
    fun p hp => by
      cases p
      case supraOn => exact named hp (.inl h0)
      case hwm => exact Nat.le_refl _
      all_goals first | exact rfl | exact fun _ => rfl,
    fun _ _ _ => rfl⟩

theorem State.Keeps.upd_bil {v_bil : Vector Bil 2}
    (h0 : w.testBit 22 = true)
    (h : State.Keeps w s0 s) :
    State.Keeps w s0 { s with bil := v_bil } :=
  h.trans ⟨rfl, rfl, id, id, fun _ a b => ⟨a, b⟩, fun a => ⟨Nat.le_refl _, a⟩, Nat.le_refl _, List.suffix_refl _, id, id, id, List.prefix_refl _,
    fun p hp => by
      cases p
      case bil => exact named hp (.inl h0)
      case hwm => exact Nat.le_refl _
      all_goals first | exact rfl | exact fun _ => rfl,
    fun _ _ _ => rfl⟩

theorem State.Keeps.upd_cals {v_cals : Calendars}
    (h0 : w.testBit 23 = true)
    (h : State.Keeps w s0 s) :
    State.Keeps w s0 { s with cals := v_cals } :=
  h.trans ⟨rfl, rfl, id, id, fun _ a b => ⟨a, b⟩, fun a => ⟨Nat.le_refl _, a⟩, Nat.le_refl _, List.suffix_refl _, id, id, id, List.prefix_refl _,
    fun p hp => by
      cases p
      case cals => exact named hp (.inl h0)
      case hwm => exact Nat.le_refl _
      all_goals first | exact rfl | exact fun _ => rfl,
    fun _ _ _ => rfl⟩

theorem State.Keeps.upd_bilOut {v_bilOut : List (Nat × Rec)}
    (h0 : w.testBit 24 = true)
    (h : State.Keeps w s0 s) :
    State.Keeps w s0 { s with bilOut := v_bilOut } :=
  h.trans ⟨rfl, rfl, id, id, fun _ a b => ⟨a, b⟩, fun a => ⟨Nat.le_refl _, a⟩, Nat.le_refl _, List.suffix_refl _, id, id, id, List.prefix_refl _,
    fun p hp => by
      cases p
      case bilOut => exact named hp (.inl h0)
      case hwm => exact Nat.le_refl _
      all_goals first | exact rfl | exact fun _ => rfl,
    fun _ _ _ => rfl⟩

theorem State.Keeps.upd_bilSaved {v_bilSaved : List Rec}
    (h0 : w.testBit 25 = true)
    (h : State.Keeps w s0 s) :
    State.Keeps w s0 { s with bilSaved := v_bilSaved } :=
  h.trans ⟨rfl, rfl, id, id, fun _ a b => ⟨a, b⟩, fun a => ⟨Nat.le_refl _, a⟩, Nat.le_refl _, List.suffix_refl _, id, id, id, List.prefix_refl _,
    fun p hp => by
      cases p
      case bilSaved => exact named hp (.inl h0)
      case hwm => exact Nat.le_refl _
      all_goals first | exact rfl | exact fun _ => rfl,
    fun _ _ _ => rfl⟩

theorem State.Keeps.upd_deferW {v_deferW : List (Port × Nat × Word)}
    (h0 : w.testBit 26 = true)
    (h : State.Keeps w s0 s) :
    State.Keeps w s0 { s with deferW := v_deferW } :=
  h.trans ⟨rfl, rfl, id, id, fun _ a b => ⟨a, b⟩, fun a => ⟨Nat.le_refl _, a⟩, Nat.le_refl _, List.suffix_refl _, id, id, id, List.prefix_refl _,
    fun p hp => by
      cases p
      case deferW => exact named hp (.inl h0)
      case hwm => exact Nat.le_refl _
      all_goals first | exact rfl | exact fun _ => rfl,
    fun _ _ _ => rfl⟩

theorem State.Keeps.upd_sar {v_sar : Sar}
    (h0 : w.testBit 27 = true)
    (h : State.Keeps w s0 s) :
    State.Keeps w s0 { s with sar := v_sar } :=
  h.trans ⟨rfl, rfl, id, id, fun _ a b => ⟨a, b⟩, fun a => ⟨Nat.le_refl _, a⟩, Nat.le_refl _, List.suffix_refl _, id, id, id, List.prefix_refl _,
    fun p hp => by
      cases p
      case sar => exact named hp (.inl h0)
      case hwm => exact Nat.le_refl _
      all_goals first | exact rfl | exact fun _ => rfl,
    fun _ _ _ => rfl⟩

theorem State.Keeps.upd_slc {v_slc : Slices}
    (h0 : w.testBit 28 = true)
    (h : State.Keeps w s0 s) :
    State.Keeps w s0 { s with slc := v_slc } :=
  h.trans ⟨rfl, rfl, id, id, fun _ a b => ⟨a, b⟩, fun a => ⟨Nat.le_refl _, a⟩, Nat.le_refl _, List.suffix_refl _, id, id, id, List.prefix_refl _,
    fun p hp => by
      cases p
      case slc => exact named hp (.inl h0)
      case hwm => exact Nat.le_refl _
      all_goals first | exact rfl | exact fun _ => rfl,
    fun _ _ _ => rfl⟩

theorem State.Keeps.upd_free {v_free : Nat}
    (h0 : w.testBit 29 = true)
    (h : State.Keeps w s0 s) :
    State.Keeps w s0 { s with free := v_free } :=
  h.trans ⟨rfl, rfl, id, id, fun _ a b => ⟨a, b⟩, fun a => ⟨Nat.le_refl _, a⟩, Nat.le_refl _, List.suffix_refl _, id, id, id, List.prefix_refl _,
    fun p hp => by
      cases p
      case free => exact named hp (.inl h0)
      case hwm => exact Nat.le_refl _
      all_goals first | exact rfl | exact fun _ => rfl,
    fun _ _ _ => rfl⟩

theorem State.Keeps.upd_rings {v_rings : Vector Ring 64}
    (h0 : w.testBit 31 = true)
    (h1 : w.testBit 32 = true ∨ ∀ n : Fin 64, (v_rings[n]).settings = (s.rings[n]).settings)
    (h2 : w.testBit 33 = true ∨ ∀ n : Fin 64, (v_rings[n]).standing = (s.rings[n]).standing)
    (h : State.Keeps w s0 s) :
    State.Keeps w s0 { s with rings := v_rings } :=
  h.trans ⟨rfl, rfl, id, id, fun _ a b => ⟨a, b⟩, fun a => ⟨Nat.le_refl _, a⟩, Nat.le_refl _, List.suffix_refl _, id, id, id, List.prefix_refl _,
    fun p hp => by
      cases p
      case rings => exact named hp (.inl h0)
      case ringCfg => exact named hp h1
      case ringSt => exact named hp h2
      case hwm => exact Nat.le_refl _
      all_goals first | exact rfl | exact fun _ => rfl,
    fun _ _ _ => rfl⟩

theorem State.Keeps.upd_link {v_link : Link}
    (h0 : w.testBit 34 = true ∨ { v_link with pba := 0 } = { s.link with pba := 0 })
    (h1 : w.testBit 35 = true ∨ v_link.pba = s.link.pba)
    (h : State.Keeps w s0 s) :
    State.Keeps w s0 { s with link := v_link } :=
  h.trans ⟨rfl, rfl, id, id, fun _ a b => ⟨a, b⟩, fun a => ⟨Nat.le_refl _, a⟩, Nat.le_refl _, List.suffix_refl _, id, id, id, List.prefix_refl _,
    fun p hp => by
      cases p
      case link => exact named hp h0
      case pba => exact named hp h1
      case hwm => exact Nat.le_refl _
      all_goals first | exact rfl | exact fun _ => rfl,
    fun _ _ _ => rfl⟩

theorem State.Keeps.upd_nvm {v_nvm : Nvm}
    (h0 : w.testBit 36 = true ∨ { v_nvm with arch := [], bytes := [] } = { s.nvm with arch := [], bytes := [] })
    (h1 : w.testBit 37 = true ∨ v_nvm.arch = s.nvm.arch)
    (h2 : w.testBit 38 = true ∨ v_nvm.bytes = s.nvm.bytes)
    (h3 : s.nvm.retired <:+ v_nvm.retired)
    (h4 : Memory.wf s.nvm.bytes = true → Memory.wf v_nvm.bytes = true)
    (h : State.Keeps w s0 s) :
    State.Keeps w s0 { s with nvm := v_nvm } :=
  h.trans ⟨rfl, rfl, id, id, fun _ a b => ⟨a, b⟩, fun a => ⟨Nat.le_refl _, a⟩, Nat.le_refl _, h3, id, id, h4, List.prefix_refl _,
    fun p hp => by
      cases p
      case nvm => exact named hp h0
      case arch => exact named hp h1
      case nvmBytes => exact named hp h2
      case hwm => exact Nat.le_refl _
      all_goals first | exact rfl | exact fun _ => rfl,
    fun _ _ _ => rfl⟩

theorem State.Keeps.upd_sec {v_sec : Sec}
    (h0 : w.testBit 39 = true ∨ { v_sec with owner := none, dbg := false, zeroised := false, session := none, nonce := [] } = { s.sec with owner := none, dbg := false, zeroised := false, session := none, nonce := [] })
    (h1 : w.testBit 40 = true ∨ v_sec.owner = s.sec.owner)
    (h2 : w.testBit 41 = true ∨ v_sec.dbg = s.sec.dbg)
    (h3 : w.testBit 42 = true ∨ v_sec.zeroised = s.sec.zeroised)
    (h4 : w.testBit 43 = true ∨ v_sec.session = s.sec.session)
    (h5 : w.testBit 44 = true ∨ v_sec.nonce = s.sec.nonce)
    (h6 : s.sec.dbg = true → v_sec.dbg = true)
    (h7 : s.sec.zeroised = true → v_sec.zeroised = true)
    (h8 : ∀ k, s.sec.owner = some k → s.sec.stOwner = some k → v_sec.owner = some k ∧ v_sec.stOwner = some k)
    (h9 : s.sec.reserved ≤ s.sec.mres → s.sec.mcount ≤ v_sec.mcount ∧ v_sec.reserved ≤ v_sec.mres)
    (h : State.Keeps w s0 s) :
    State.Keeps w s0 { s with sec := v_sec } :=
  h.trans ⟨rfl, rfl, h6, h7, h8, h9, Nat.le_refl _, List.suffix_refl _, id, id, id, List.prefix_refl _,
    fun p hp => by
      cases p
      case sec => exact named hp h0
      case owner => exact named hp h1
      case dbg => exact named hp h2
      case zeroised => exact named hp h3
      case session => exact named hp h4
      case nonce => exact named hp h5
      case hwm => exact Nat.le_refl _
      all_goals first | exact rfl | exact fun _ => rfl,
    fun _ _ _ => rfl⟩

theorem State.Keeps.upd_ket {v_ket : Kettle}
    (h0 : w.testBit 45 = true ∨ { v_ket with hwm := 0 } = { s.ket with hwm := 0 })
    (h1 : w.testBit 46 = true ∨ s.ket.hwm ≤ v_ket.hwm)
    (h : State.Keeps w s0 s) :
    State.Keeps w s0 { s with ket := v_ket } :=
  h.trans ⟨rfl, rfl, id, id, fun _ a b => ⟨a, b⟩, fun a => ⟨Nat.le_refl _, a⟩, Nat.le_refl _, List.suffix_refl _, id, id, id, List.prefix_refl _,
    fun p hp => by
      cases p
      case ket => exact named hp h0
      case hwm => exact named hp h1
      all_goals first | exact rfl | exact fun _ => rfl,
    fun _ _ _ => rfl⟩

theorem State.Keeps.upd_time {v_time : TimeSt}
    (h0 : w.testBit 47 = true ∨ { v_time with t := 0 } = { s.time with t := 0 })
    (h1 : w.testBit 48 = true ∨ v_time.t = s.time.t)
    (h : State.Keeps w s0 s) :
    State.Keeps w s0 { s with time := v_time } :=
  h.trans ⟨rfl, rfl, id, id, fun _ a b => ⟨a, b⟩, fun a => ⟨Nat.le_refl _, a⟩, Nat.le_refl _, List.suffix_refl _, id, id, id, List.prefix_refl _,
    fun p hp => by
      cases p
      case time => exact named hp h0
      case devTime => exact named hp h1
      case hwm => exact Nat.le_refl _
      all_goals first | exact rfl | exact fun _ => rfl,
    fun _ _ _ => rfl⟩

theorem State.Keeps.upd_grp {v_grp : Vector Grp 2}
    (h0 : w.testBit 49 = true)
    (h1 : w.testBit 50 = true ∨ ∀ g : Fin 2, (v_grp[g]).production = (s.grp[g]).production)
    (h2 : w.testBit 51 = true ∨ ∀ g : Fin 2, (v_grp[g]).si = (s.grp[g]).si)
    (h : State.Keeps w s0 s) :
    State.Keeps w s0 { s with grp := v_grp } :=
  h.trans ⟨rfl, rfl, id, id, fun _ a b => ⟨a, b⟩, fun a => ⟨Nat.le_refl _, a⟩, Nat.le_refl _, List.suffix_refl _, id, id, id, List.prefix_refl _,
    fun p hp => by
      cases p
      case grp => exact named hp (.inl h0)
      case grpRun => exact named hp h1
      case grpSi => exact named hp h2
      case hwm => exact Nat.le_refl _
      all_goals first | exact rfl | exact fun _ => rfl,
    fun _ _ _ => rfl⟩

theorem State.Keeps.upd_chan {v_chan : Vector Chan 16}
    (h0 : w.testBit 52 = true)
    (h1 : w.testBit 53 = true ∨ ∀ n : Fin 16, (v_chan[n]).si = (s.chan[n]).si)
    (h : State.Keeps w s0 s) :
    State.Keeps w s0 { s with chan := v_chan } :=
  h.trans ⟨rfl, rfl, id, id, fun _ a b => ⟨a, b⟩, fun a => ⟨Nat.le_refl _, a⟩, Nat.le_refl _, List.suffix_refl _, id, id, id, List.prefix_refl _,
    fun p hp => by
      cases p
      case chan => exact named hp (.inl h0)
      case chanSi => exact named hp h1
      case hwm => exact Nat.le_refl _
      all_goals first | exact rfl | exact fun _ => rfl,
    fun _ _ _ => rfl⟩

theorem State.Keeps.upd_regs {v_regs : SMap Nat}
    (h0 : ∀ f : Fld, f.lo < 32 → w.testBit (64 + (regGroup f.off).ctorIdx) = false → SMap.get fldReset v_regs f.key = s.gf f)
    (h1 : SMap.wf fldReset s.regs = true → SMap.wf fldReset v_regs = true)
    (h : State.Keeps w s0 s) :
    State.Keeps w s0 { s with regs := v_regs } :=
  h.trans ⟨rfl, rfl, id, id, fun _ a b => ⟨a, b⟩, fun a => ⟨Nat.le_refl _, a⟩, Nat.le_refl _, List.suffix_refl _, h1, id, id, List.prefix_refl _,
    fun p hp => by
      cases p
      case hwm => exact Nat.le_refl _
      all_goals first | exact rfl | exact fun _ => rfl,
    h0⟩

theorem State.Keeps.upd_met_bil {v_met : Met} {v_bil : Vector Bil 2}
    (h0 : w.testBit 19 = true)
    (h1 : w.testBit 22 = true)
    (h : State.Keeps w s0 s) :
    State.Keeps w s0 { s with met := v_met, bil := v_bil } :=
  h.trans ⟨rfl, rfl, id, id, fun _ a b => ⟨a, b⟩, fun a => ⟨Nat.le_refl _, a⟩, Nat.le_refl _, List.suffix_refl _, id, id, id, List.prefix_refl _,
    fun p hp => by
      cases p
      case met => exact named hp (.inl h0)
      case bil => exact named hp (.inl h1)
      case hwm => exact Nat.le_refl _
      all_goals first | exact rfl | exact fun _ => rfl,
    fun _ _ _ => rfl⟩

theorem State.Keeps.upd_ket_time {v_ket : Kettle} {v_time : TimeSt}
    (h0 : w.testBit 45 = true ∨ { v_ket with hwm := 0 } = { s.ket with hwm := 0 })
    (h1 : w.testBit 46 = true ∨ s.ket.hwm ≤ v_ket.hwm)
    (h2 : w.testBit 47 = true ∨ { v_time with t := 0 } = { s.time with t := 0 })
    (h3 : w.testBit 48 = true ∨ v_time.t = s.time.t)
    (h : State.Keeps w s0 s) :
    State.Keeps w s0 { s with ket := v_ket, time := v_time } :=
  h.trans ⟨rfl, rfl, id, id, fun _ a b => ⟨a, b⟩, fun a => ⟨Nat.le_refl _, a⟩, Nat.le_refl _, List.suffix_refl _, id, id, id, List.prefix_refl _,
    fun p hp => by
      cases p
      case ket => exact named hp h0
      case hwm => exact named hp h1
      case time => exact named hp h2
      case devTime => exact named hp h3
      all_goals first | exact rfl | exact fun _ => rfl,
    fun _ _ _ => rfl⟩

theorem State.Keeps.upd_sec_ket {v_sec : Sec} {v_ket : Kettle}
    (h0 : w.testBit 39 = true ∨ { v_sec with owner := none, dbg := false, zeroised := false, session := none, nonce := [] } = { s.sec with owner := none, dbg := false, zeroised := false, session := none, nonce := [] })
    (h1 : w.testBit 40 = true ∨ v_sec.owner = s.sec.owner)
    (h2 : w.testBit 41 = true ∨ v_sec.dbg = s.sec.dbg)
    (h3 : w.testBit 42 = true ∨ v_sec.zeroised = s.sec.zeroised)
    (h4 : w.testBit 43 = true ∨ v_sec.session = s.sec.session)
    (h5 : w.testBit 44 = true ∨ v_sec.nonce = s.sec.nonce)
    (h6 : s.sec.dbg = true → v_sec.dbg = true)
    (h7 : s.sec.zeroised = true → v_sec.zeroised = true)
    (h8 : ∀ k, s.sec.owner = some k → s.sec.stOwner = some k → v_sec.owner = some k ∧ v_sec.stOwner = some k)
    (h9 : s.sec.reserved ≤ s.sec.mres → s.sec.mcount ≤ v_sec.mcount ∧ v_sec.reserved ≤ v_sec.mres)
    (h10 : w.testBit 45 = true ∨ { v_ket with hwm := 0 } = { s.ket with hwm := 0 })
    (h11 : w.testBit 46 = true ∨ s.ket.hwm ≤ v_ket.hwm)
    (h : State.Keeps w s0 s) :
    State.Keeps w s0 { s with sec := v_sec, ket := v_ket } :=
  h.trans ⟨rfl, rfl, h6, h7, h8, h9, Nat.le_refl _, List.suffix_refl _, id, id, id, List.prefix_refl _,
    fun p hp => by
      cases p
      case sec => exact named hp h0
      case owner => exact named hp h1
      case dbg => exact named hp h2
      case zeroised => exact named hp h3
      case session => exact named hp h4
      case nonce => exact named hp h5
      case ket => exact named hp h10
      case hwm => exact named hp h11
      all_goals first | exact rfl | exact fun _ => rfl,
    fun _ _ _ => rfl⟩

theorem State.Keeps.upd_rst_persist {v_rst : RstSt} {v_persist : Persist}
    (h0 : w.testBit 0 = true)
    (h1 : w.testBit 30 = true ∨ v_rst.phase = s.rst.phase)
    (h2 : w.testBit 1 = true)
    (h3 : s.persist.rcount ≤ v_persist.rcount)
    (h : State.Keeps w s0 s) :
    State.Keeps w s0 { s with rst := v_rst, persist := v_persist } :=
  h.trans ⟨rfl, rfl, id, id, fun _ a b => ⟨a, b⟩, fun a => ⟨Nat.le_refl _, a⟩, h3, List.suffix_refl _, id, id, id, List.prefix_refl _,
    fun p hp => by
      cases p
      case rst => exact named hp (.inl h0)
      case persist => exact named hp (.inl h2)
      case phase => exact named hp h1
      case hwm => exact Nat.le_refl _
      all_goals first | exact rfl | exact fun _ => rfl,
    fun _ _ _ => rfl⟩

theorem State.Keeps.upd_rst_link_ket {v_rst : RstSt} {v_link : Link} {v_ket : Kettle}
    (h0 : w.testBit 0 = true)
    (h1 : w.testBit 30 = true ∨ v_rst.phase = s.rst.phase)
    (h2 : w.testBit 34 = true ∨ { v_link with pba := 0 } = { s.link with pba := 0 })
    (h3 : w.testBit 35 = true ∨ v_link.pba = s.link.pba)
    (h4 : w.testBit 45 = true ∨ { v_ket with hwm := 0 } = { s.ket with hwm := 0 })
    (h5 : w.testBit 46 = true ∨ s.ket.hwm ≤ v_ket.hwm)
    (h : State.Keeps w s0 s) :
    State.Keeps w s0 { s with rst := v_rst, link := v_link, ket := v_ket } :=
  h.trans ⟨rfl, rfl, id, id, fun _ a b => ⟨a, b⟩, fun a => ⟨Nat.le_refl _, a⟩, Nat.le_refl _, List.suffix_refl _, id, id, id, List.prefix_refl _,
    fun p hp => by
      cases p
      case rst => exact named hp (.inl h0)
      case phase => exact named hp h1
      case link => exact named hp h2
      case pba => exact named hp h3
      case ket => exact named hp h4
      case hwm => exact named hp h5
      all_goals first | exact rfl | exact fun _ => rfl,
    fun _ _ _ => rfl⟩

theorem State.Keeps.upd_rst_cmd_sec {v_rst : RstSt} {v_cmd : CmdSt} {v_sec : Sec}
    (h0 : w.testBit 0 = true)
    (h1 : w.testBit 30 = true ∨ v_rst.phase = s.rst.phase)
    (h2 : w.testBit 7 = true)
    (h3 : w.testBit 39 = true ∨ { v_sec with owner := none, dbg := false, zeroised := false, session := none, nonce := [] } = { s.sec with owner := none, dbg := false, zeroised := false, session := none, nonce := [] })
    (h4 : w.testBit 40 = true ∨ v_sec.owner = s.sec.owner)
    (h5 : w.testBit 41 = true ∨ v_sec.dbg = s.sec.dbg)
    (h6 : w.testBit 42 = true ∨ v_sec.zeroised = s.sec.zeroised)
    (h7 : w.testBit 43 = true ∨ v_sec.session = s.sec.session)
    (h8 : w.testBit 44 = true ∨ v_sec.nonce = s.sec.nonce)
    (h9 : s.sec.dbg = true → v_sec.dbg = true)
    (h10 : s.sec.zeroised = true → v_sec.zeroised = true)
    (h11 : ∀ k, s.sec.owner = some k → s.sec.stOwner = some k → v_sec.owner = some k ∧ v_sec.stOwner = some k)
    (h12 : s.sec.reserved ≤ s.sec.mres → s.sec.mcount ≤ v_sec.mcount ∧ v_sec.reserved ≤ v_sec.mres)
    (h : State.Keeps w s0 s) :
    State.Keeps w s0 { s with rst := v_rst, cmd := v_cmd, sec := v_sec } :=
  h.trans ⟨rfl, rfl, h9, h10, h11, h12, Nat.le_refl _, List.suffix_refl _, id, id, id, List.prefix_refl _,
    fun p hp => by
      cases p
      case rst => exact named hp (.inl h0)
      case cmd => exact named hp (.inl h2)
      case phase => exact named hp h1
      case sec => exact named hp h3
      case owner => exact named hp h4
      case dbg => exact named hp h5
      case zeroised => exact named hp h6
      case session => exact named hp h7
      case nonce => exact named hp h8
      case hwm => exact Nat.le_refl _
      all_goals first | exact rfl | exact fun _ => rfl,
    fun _ _ _ => rfl⟩

theorem State.Keeps.upd_rst_cmd {v_rst : RstSt} {v_cmd : CmdSt}
    (h0 : w.testBit 0 = true)
    (h1 : w.testBit 30 = true ∨ v_rst.phase = s.rst.phase)
    (h2 : w.testBit 7 = true)
    (h : State.Keeps w s0 s) :
    State.Keeps w s0 { s with rst := v_rst, cmd := v_cmd } :=
  h.trans ⟨rfl, rfl, id, id, fun _ a b => ⟨a, b⟩, fun a => ⟨Nat.le_refl _, a⟩, Nat.le_refl _, List.suffix_refl _, id, id, id, List.prefix_refl _,
    fun p hp => by
      cases p
      case rst => exact named hp (.inl h0)
      case cmd => exact named hp (.inl h2)
      case phase => exact named hp h1
      case hwm => exact Nat.le_refl _
      all_goals first | exact rfl | exact fun _ => rfl,
    fun _ _ _ => rfl⟩

theorem State.Keeps.upd_rings_nvm {v_rings : Vector Ring 64} {v_nvm : Nvm}
    (h0 : w.testBit 31 = true)
    (h1 : w.testBit 32 = true ∨ ∀ n : Fin 64, (v_rings[n]).settings = (s.rings[n]).settings)
    (h2 : w.testBit 33 = true ∨ ∀ n : Fin 64, (v_rings[n]).standing = (s.rings[n]).standing)
    (h3 : w.testBit 36 = true ∨ { v_nvm with arch := [], bytes := [] } = { s.nvm with arch := [], bytes := [] })
    (h4 : w.testBit 37 = true ∨ v_nvm.arch = s.nvm.arch)
    (h5 : w.testBit 38 = true ∨ v_nvm.bytes = s.nvm.bytes)
    (h6 : s.nvm.retired <:+ v_nvm.retired)
    (h7 : Memory.wf s.nvm.bytes = true → Memory.wf v_nvm.bytes = true)
    (h : State.Keeps w s0 s) :
    State.Keeps w s0 { s with rings := v_rings, nvm := v_nvm } :=
  h.trans ⟨rfl, rfl, id, id, fun _ a b => ⟨a, b⟩, fun a => ⟨Nat.le_refl _, a⟩, Nat.le_refl _, h6, id, id, h7, List.prefix_refl _,
    fun p hp => by
      cases p
      case rings => exact named hp (.inl h0)
      case ringCfg => exact named hp h1
      case ringSt => exact named hp h2
      case nvm => exact named hp h3
      case arch => exact named hp h4
      case nvmBytes => exact named hp h5
      case hwm => exact Nat.le_refl _
      all_goals first | exact rfl | exact fun _ => rfl,
    fun _ _ _ => rfl⟩

theorem State.Keeps.upd_bilOut_bilSaved {v_bilOut : List (Nat × Rec)} {v_bilSaved : List Rec}
    (h0 : w.testBit 24 = true)
    (h1 : w.testBit 25 = true)
    (h : State.Keeps w s0 s) :
    State.Keeps w s0 { s with bilOut := v_bilOut, bilSaved := v_bilSaved } :=
  h.trans ⟨rfl, rfl, id, id, fun _ a b => ⟨a, b⟩, fun a => ⟨Nat.le_refl _, a⟩, Nat.le_refl _, List.suffix_refl _, id, id, id, List.prefix_refl _,
    fun p hp => by
      cases p
      case bilOut => exact named hp (.inl h0)
      case bilSaved => exact named hp (.inl h1)
      case hwm => exact Nat.le_refl _
      all_goals first | exact rfl | exact fun _ => rfl,
    fun _ _ _ => rfl⟩

theorem State.Keeps.upd_heldLog_formed {v_heldLog : List QItem} {v_formed : List Rec}
    (h0 : w.testBit 5 = true)
    (h1 : w.testBit 8 = true)
    (h : State.Keeps w s0 s) :
    State.Keeps w s0 { s with heldLog := v_heldLog, formed := v_formed } :=
  h.trans ⟨rfl, rfl, id, id, fun _ a b => ⟨a, b⟩, fun a => ⟨Nat.le_refl _, a⟩, Nat.le_refl _, List.suffix_refl _, id, id, id, List.prefix_refl _,
    fun p hp => by
      cases p
      case heldLog => exact named hp (.inl h0)
      case formed => exact named hp (.inl h1)
      case hwm => exact Nat.le_refl _
      all_goals first | exact rfl | exact fun _ => rfl,
    fun _ _ _ => rfl⟩

theorem State.Keeps.upd_chk_free {v_chk : Chk} {v_free : Nat}
    (h0 : w.testBit 17 = true)
    (h1 : w.testBit 29 = true)
    (h : State.Keeps w s0 s) :
    State.Keeps w s0 { s with chk := v_chk, free := v_free } :=
  h.trans ⟨rfl, rfl, id, id, fun _ a b => ⟨a, b⟩, fun a => ⟨Nat.le_refl _, a⟩, Nat.le_refl _, List.suffix_refl _, id, id, id, List.prefix_refl _,
    fun p hp => by
      cases p
      case chk => exact named hp (.inl h0)
      case free => exact named hp (.inl h1)
      case hwm => exact Nat.le_refl _
      all_goals first | exact rfl | exact fun _ => rfl,
    fun _ _ _ => rfl⟩

/-! ### The primitive operations -/

/-- Setting a field leaves the registers of other groups alone. -/
theorem State.sf_gf_group {s : State} {f g : Fld} {v : Nat} (hf : f.lo < 32) (hg : g.lo < 32)
    (h : (regGroup f.off).ctorIdx ≠ (regGroup g.off).ctorIdx) : (s.sf f v).gf g = s.gf g := by
  refine SMap.get_set_ne _ _ _ fun e => h ?_
  unfold Fld.key at e
  rw [show f.off = g.off by omega]

theorem State.sf_keeps {f : Fld} {v : Nat} (hf : regOk w f) (h : State.Keeps w s0 s) : State.Keeps w s0 (s.sf f v) :=
  State.Keeps.upd_regs (s := s)
    (fun g hl hg => hf.elim
      (fun hf => State.sf_gf_group hf.1 hl fun e => by rw [← e, hf.2] at hg; exact Bool.noConfusion hg)
      (fun hf => by rw [hf.anyReg] at hg; exact Bool.noConfusion hg))
    (fun a => SMap.wf_set _ _ _ _ a) h

theorem State.sb_keeps {f : Fld} {b : Bool} (hf : regOk w f) (h : State.Keeps w s0 s) : State.Keeps w s0 (s.sb f b) := State.sf_keeps hf h
theorem State.si_keeps {f : Fld} {v : Int} (hf : regOk w f) (h : State.Keeps w s0 s) : State.Keeps w s0 (s.si f v) := State.sf_keeps hf h
theorem State.incSat_keeps {f : Fld} {n : Nat} (hf : regOk w f) (h : State.Keeps w s0 s) : State.Keeps w s0 (s.incSat f n) :=
  State.sf_keeps hf h
theorem State.incWrap_keeps {f : Fld} {n : Nat} (hf : regOk w f) (h : State.Keeps w s0 s) : State.Keeps w s0 (s.incWrap f n) :=
  State.sf_keeps hf h
theorem State.smbit_keeps {f : Fld} {i : Nat} {b : Bool} (hf : regOk w f) (h : State.Keeps w s0 s) : State.Keeps w s0 (s.smbit f i b) :=
  State.sf_keeps hf h
theorem State.s64_keeps {f g : Fld} {v : Nat} (hf : regOk w f) (hg : regOk w g) (h : State.Keeps w s0 s) :
    State.Keeps w s0 (s.s64 f g v) := State.sf_keeps hg (State.sf_keeps hf h)

theorem State.sfs_keeps {l : List (Fld × Nat)} (hl : regsOk w l) (h : State.Keeps w s0 s) : State.Keeps w s0 (s.sfs l) := by
  induction l generalizing s with
  | nil => exact h
  | cons e l ih => exact ih hl.2 (State.sf_keeps hl.1 h)

/-- A group is changed. -/
theorem State.setGrp_keeps {g : Fin 2} {f : Grp → Grp} (h0 : w.testBit 49 = true)
    (h1 : w.testBit 50 = true ∨ ∀ x, (f x).production = x.production) (h2 : w.testBit 51 = true ∨ ∀ x, (f x).si = x.si)
    (h : State.Keeps w s0 s) : State.Keeps w s0 (s.setGrp g f) := by
  refine State.Keeps.upd_grp (s := s) h0 (h1.imp id fun h k => ?_) (h2.imp id fun h k => ?_) h
  all_goals
    by_cases e : g = k
    · subst e
      simpa using h _
    · simp [Fin.val_ne_of_ne e]

/-- A channel is changed. -/
theorem State.setChan_keeps {n : Fin 16} {f : Chan → Chan} (h0 : w.testBit 52 = true)
    (h1 : w.testBit 53 = true ∨ ∀ x, (f x).si = x.si) (h : State.Keeps w s0 s) : State.Keeps w s0 (s.setChan n f) := by
  refine State.Keeps.upd_chan (s := s) h0 (h1.imp id fun h k => ?_) h
  by_cases e : n = k
  · subst e
    simpa using h _
  · simp [Fin.val_ne_of_ne e]

/-- A ring is changed. -/
theorem State.setRing_keeps {n : Fin 64} {f : Ring → Ring} (h0 : w.testBit 31 = true)
    (h1 : w.testBit 32 = true ∨ ∀ x, (f x).settings = x.settings) (h2 : w.testBit 33 = true ∨ ∀ x, (f x).standing = x.standing)
    (h : State.Keeps w s0 s) : State.Keeps w s0 (s.setRing n f) := by
  refine State.Keeps.upd_rings (s := s) h0 (h1.imp id fun h k => ?_) (h2.imp id fun h k => ?_) h
  all_goals
    by_cases e : n = k
    · subst e
      simpa using h _
    · simp [Fin.val_ne_of_ne e]

/-- Changes of a ring's streams leave its settings and standing alone. -/
theorem Ring.setStreams_same {α : Type} {k : α → Nat} {f : α → Stream → Stream} (l : List α) (g : Ring) :
    (l.foldl (fun (g : Ring) e => g.setStream (k e) (f e)) g).settings = g.settings ∧
      (l.foldl (fun (g : Ring) e => g.setStream (k e) (f e)) g).standing = g.standing := by
  induction l generalizing g with
  | nil => exact ⟨rfl, rfl⟩
  | cons e l ih => exact ih _

/-- New reservations leave the rings' settings and standing alone. -/
theorem Ring.resv_settings (f : Ring → Nat) (r : Vector Ring 64) (n : Fin 64) :
    ((r.map fun (g : Ring) => { g with resv := f g })[n]).settings = (r[n]).settings := by
  simp only [Fin.getElem_fin, Vector.getElem_map, Ring.settings]

theorem Ring.resv_standing (f : Ring → Nat) (r : Vector Ring 64) (n : Fin 64) :
    ((r.map fun (g : Ring) => { g with resv := f g })[n]).standing = (r[n]).standing := by
  simp only [Fin.getElem_fin, Vector.getElem_map, Ring.standing]

/-- The owner's key is installed where none was. -/
theorem State.Keeps.setOwner {k : Nat × Nat} {t : DevTime} (h0 : w.testBit 39 = true) (h1 : w.testBit 40 = true)
    (hn : s.sec.owner = none) (h : State.Keeps w s0 s) :
    State.Keeps w s0 { s with sec := { s.sec with owner := some k, installT := t } } :=
  State.Keeps.upd_sec (s := s) (.inl h0) (.inl h1) (.inr rfl) (.inr rfl) (.inr rfl) (.inr rfl) id id
    (fun _ a _ => by rw [hn] at a; cases a) (fun a => ⟨Nat.le_refl _, a⟩) h

/-- A signature begins within the stored reservation (R448). -/
theorem State.Keeps.beginSeal {g : Signing} {l : List (Nat × Nat)} (h0 : w.testBit 39 = true)
    (hr : s.sec.mcount < s.sec.mres) (h : State.Keeps w s0 s) :
    State.Keeps w s0 { s with sec := { s.sec with signing := some g, due := l } } :=
  State.Keeps.upd_sec (s := s) (.inl h0) (.inr rfl) (.inr rfl) (.inr rfl) (.inr rfl) (.inr rfl) id id (fun _ a b => ⟨a, b⟩)
    (fun _ => ⟨Nat.le_refl _, hr⟩) h

/-- The seal in signing is counted (R448). -/
theorem State.Keeps.countSeal {v : List Byte} {n : Nat} {g : Signing} (h0 : w.testBit 39 = true) (hn : s.sec.signing = some g)
    (h : State.Keeps w s0 s) :
    State.Keeps w s0 { s with sec := { s.sec with signing := none, prev := v, mcount := s.sec.mcount + 1, sigCount := n } } := by
  refine State.Keeps.upd_sec (s := s) (.inl h0) (.inr rfl) (.inr rfl) (.inr rfl) (.inr rfl) (.inr rfl) id id (fun _ a b => ⟨a, b⟩)
    (fun a => ⟨Nat.le_succ _, ?_⟩) h
  unfold Sec.reserved at a
  rw [hn] at a
  exact a

/-- A further reservation is stored (R448). -/
theorem State.Keeps.moreSeals {n : Nat} (h0 : w.testBit 39 = true) (h : State.Keeps w s0 s) :
    State.Keeps w s0 { s with sec := { s.sec with mres := max s.sec.mres n, mdue := false } } :=
  State.Keeps.upd_sec (s := s) (.inl h0) (.inr rfl) (.inr rfl) (.inr rfl) (.inr rfl) (.inr rfl) id id (fun _ a b => ⟨a, b⟩)
    (fun a => ⟨Nat.le_refl _, a.trans (Nat.le_max_left _ _)⟩) h

/-- The owner record is stored (R438). -/
theorem State.Keeps.storedOwner {k : Option (Nat × Nat)} {t : DevTime} {n : Nat} (h0 : w.testBit 39 = true) (h : State.Keeps w s0 s) :
    State.Keeps w s0 { s with sec := { s.sec with stOwner := s.sec.stOwner.or k, stT := t, stNo := n } } :=
  State.Keeps.upd_sec (s := s) (.inl h0) (.inr rfl) (.inr rfl) (.inr rfl) (.inr rfl) (.inr rfl) id id
    (fun _ a b => ⟨a, by show s.sec.stOwner.or k = _; rw [b]; rfl⟩) (fun a => ⟨Nat.le_refl _, a⟩) h

/-- The Kettle's offset is rewritten. -/
theorem State.Keeps.setOffset {n : Nat} {b : Bool} (h0 : w.testBit 45 = true) (h : State.Keeps w s0 s) :
    State.Keeps w s0 { s with ket := { s.ket with offset := n, valid := b } } :=
  State.Keeps.upd_ket (s := s) (.inl h0) (.inr (Nat.le_refl _)) h

theorem State.newNonce_owner (s : State) : s.newNonce.sec.owner = s.sec.owner := by
  unfold State.newNonce
  split <;> rfl

/-- A verification leaves the owner's key alone. -/
theorem State.verify_owner (s : State) (b : List Byte) (k : Nat) (q : Bool) (key : List Byte) :
    (s.verify b k q key).2.2.sec.owner = s.sec.owner := by
  unfold State.verify
  split
  · exact State.newNonce_owner s
  · dsimp only
    rw [State.newNonce_owner]
    split <;> rfl

/-! ### The store's own operations -/

theorem Nvm.next_bytes (v : Nvm) : (Nvm.next v).bytes = v.bytes := by
  unfold Nvm.next
  split
  · rfl
  · split <;> rfl

theorem Nvm.next_retired (v : Nvm) : (Nvm.next v).retired = v.retired := by
  unfold Nvm.next
  split
  · rfl
  · split <;> rfl

theorem Nvm.requeue_bytes (v : Nvm) (r : NvmReq) : (Nvm.requeue v r).bytes = v.bytes := Nvm.next_bytes _

theorem Nvm.requeue_retired (v : Nvm) (r : NvmReq) : (Nvm.requeue v r).retired = v.retired := Nvm.next_retired _

theorem Nvm.writeWord_wf (v : Nvm) (page pos : Nat) (bs : List Byte) (h : Memory.wf v.bytes = true) :
    Memory.wf (v.writeWord page pos bs).bytes = true := by
  unfold Nvm.writeWord
  generalize List.range 8 = l
  induction l generalizing v with
  | nil => exact h
  | cons i l ih => exact ih _ (SMap.wf_set _ _ _ _ h)

theorem Nvm.writeWord_retired (v : Nvm) (page pos : Nat) (bs : List Byte) : (v.writeWord page pos bs).retired = v.retired := by
  unfold Nvm.writeWord
  generalize List.range 8 = l
  induction l generalizing v with
  | nil => rfl
  | cons i l ih => exact ih _

theorem Nvm.writeSome_wf (v : Nvm) (w : NvmWr) (k : Nat) (h : Memory.wf v.bytes = true) :
    Memory.wf (v.writeSome w k).bytes = true := by
  unfold Nvm.writeSome
  generalize List.range (min k (w.bytes.length / 8)) = l
  induction l generalizing v with
  | nil => exact h
  | cons i l ih => exact ih _ (Nvm.writeWord_wf _ _ _ _ h)

theorem Nvm.writeSome_retired (v : Nvm) (w : NvmWr) (k : Nat) : (v.writeSome w k).retired = v.retired := by
  unfold Nvm.writeSome
  generalize List.range (min k (w.bytes.length / 8)) = l
  induction l generalizing v with
  | nil => rfl
  | cons i l ih => exact (ih _).trans (Nvm.writeWord_retired _ _ _ _)

end Sys2Proof.Machine
end

