-- ==== Sys2Proof/Laws/KeepsA.lean ====
section
/-! SUPPORT. Every operation of the model keeps what `State.Keeps` says: one lemma for each operation, in the order in which they
call one another (part 1 of 5). Each names, as a mask, the parts and register groups that the operation may change. -/

namespace Sys2Proof.Machine

theorem State.issue_keeps {w : Nat} {s0 : State} {x0 : State} {x1 : DmaWr} (hw : Has w 512) (hx0 : State.Keeps w s0 x0) :
    State.Keeps w s0 (State.issue x0 x1) := by
  unfold State.issue
  refine State.Keeps.ite ?_ ?_
  · refine State.Keeps.upd_out (s := x0) ?_ ?_ ?_
    · exact hw.bit rfl
    · exact List.prefix_append _ _
    · assumption
  · assumption

theorem State.sendVec_keeps {w : Nat} {s0 : State} {x0 : State} {x1 : Fin 32} (hw : Has w 34359738880) (hx0 : State.Keeps w s0 x0) :
    State.Keeps w s0 (State.sendVec x0 x1) := by
  unfold State.sendVec
  refine State.Keeps.ite ?_ ?_
  · assumption
  · refine State.Keeps.ite ?_ ?_
    · refine State.issue_keeps (hw.mono rfl) ?_
      assumption
    · refine State.Keeps.upd_link (s := x0) ?_ ?_ ?_
      · exact .inr rfl
      · exact .inl (hw.bit rfl)
      · assumption

theorem State.intEdge_keeps {w : Nat} {s0 : State} {x0 : State} {x1 : State} (hw : Has w 34359738880) (hx0 : State.Keeps w s0 x0) (hx1 : State.Keeps w s0 x1) :
    State.Keeps w s0 (State.intEdge x0 x1) := by
  unfold State.intEdge
  refine State.Keeps.ite ?_ ?_
  · refine State.sendVec_keeps (hw.mono rfl) ?_
    assumption
  · assumption

theorem State.raise_keeps {w : Nat} {s0 : State} {x0 : State} {x1 : ℕ} (hw : Has w 295147905213712564736) (hx0 : State.Keeps w s0 x0) (hx1 : x1 < 32 ∨ Has w allRegs) :
    State.Keeps w s0 (State.raise x0 x1) := by
  unfold State.raise
  refine State.intEdge_keeps (hw.mono rfl) ?_ ?_
  · assumption
  · refine State.sf_keeps ?_ ?_
    · unfold intBit
      exact hx1.elim (fun _ => hw.reg (by omega) (RegGroup.intStat_at (by omega) (by omega)) rfl) .inr
    · assumption

theorem State.abpBankLost_keeps {w : Nat} {s0 : State} {x0 : State} {x1 : ℕ} (hw : Has w 1070435769529469910793714772235026565999624704) (hx0 : State.Keeps w s0 x0) :
    State.Keeps w s0 (State.abpBankLost x0 x1) := by
  unfold State.abpBankLost
  refine State.Keeps.ite ?_ ?_
  · refine State.raise_keeps (hw.mono rfl) ?_ ?_
    · refine State.sf_keeps ?_ ?_
      · exact hw.reg (by omega) (RegGroup.abpErr_at (by omega) (by omega)) rfl
      · refine State.sf_keeps ?_ ?_
        · exact hw.reg (by omega) (RegGroup.abpCfg_at (by omega) (by omega)) rfl
        · assumption
    · exact .inl (by omega)
  · assumption

theorem State.abpBuffer_keeps {w : Nat} {s0 : State} {x0 : State} {x1 : AbpEntry} (hw : Has w 65536) (hx0 : State.Keeps w s0 x0) :
    State.Keeps w s0 (State.abpBuffer x0 x1) := by
  unfold State.abpBuffer
  extract_lets -merge -useContext +onlyGivenNames v1
  clear_value v1
  extract_lets -merge -useContext +onlyGivenNames v3
  clear_value v3
  extract_lets -merge -useContext +onlyGivenNames v5
  clear_value v5
  refine State.Keeps.upd_abp (s := x0) ?_ ?_
  · exact hw.bit rfl
  · assumption

theorem State.memSet_keeps {w : Nat} {s0 : State} {x0 : State} {x1 : ℕ} {x2 : Byte} (hw : Has w 8192) (hx0 : State.Keeps w s0 x0) :
    State.Keeps w s0 (State.memSet x0 x1 x2) := by
  unfold State.memSet
  refine State.Keeps.upd_mem (s := x0) ?_ ?_ ?_
  · exact hw.bit rfl
  · exact SMap.wf_set _ _ _ _
  · assumption

theorem State.memWrite_keeps {w : Nat} {s0 : State} {x0 : State} {x1 : ℕ} {x2 : ℕ} {x3 : List Byte} (hw : Has w 8192) (hx0 : State.Keeps w s0 x0) :
    State.Keeps w s0 (State.memWrite x0 x1 x2 x3) := by
  unfold State.memWrite
  refine State.Keeps.foldlMem ?_ ?_
  · assumption
  · intro a2 a3 a4 a5
    have a6 := List.mem_range.1 a4
    refine State.Keeps.ite ?_ ?_
    · refine State.memSet_keeps (hw.mono rfl) ?_
      assumption
    · assumption

theorem State.abpPerform_keeps {w : Nat} {s0 : State} {x0 : State} {x1 : AbpEntry} (hw : Has w 73728) (hx0 : State.Keeps w s0 x0) :
    State.Keeps w s0 (State.abpPerform x0 x1) := by
  unfold State.abpPerform
  extract_lets -merge -useContext +onlyGivenNames y1
  have h2 : State.Keeps w s0 y1 := by
    unfold y1
    refine State.memWrite_keeps (hw.mono rfl) ?_
    assumption
  clear_value y1
  refine State.Keeps.ite ?_ ?_
  · refine State.Keeps.upd_abp (s := y1) ?_ ?_
    · exact hw.bit rfl
    · assumption
  · assumption

theorem State.abpFlush_keeps {w : Nat} {s0 : State} {x0 : State} (hw : Has w 73728) (hx0 : State.Keeps w s0 x0) :
    State.Keeps w s0 (State.abpFlush x0) := by
  unfold State.abpFlush
  refine State.Keeps.foldl ?_ ?_
  · refine State.Keeps.upd_abp (s := x0) ?_ ?_
    · exact hw.bit rfl
    · assumption
  · intro a5 a6 a7
    refine State.abpPerform_keeps (hw.mono rfl) ?_
    assumption

theorem State.abpMiss_keeps {w : Nat} {s0 : State} {x0 : State} {x1 : ℕ} {x2 : Bool} (hw : Has w 713623846352979940529143279872652781903938048) (hx0 : State.Keeps w s0 x0) :
    State.Keeps w s0 (State.abpMiss x0 x1 x2) := by
  unfold State.abpMiss
  refine State.raise_keeps (hw.mono rfl) ?_ ?_
  · refine State.sfs_keeps ?_ ?_
    · refine ⟨?_, ?_⟩
      · dsimp only
        exact hw.reg (by omega) (RegGroup.abpErr_at (by omega) (by omega)) rfl
      · refine ⟨?_, ?_⟩
        · dsimp only
          exact hw.reg (by omega) (RegGroup.abpErr_at (by omega) (by omega)) rfl
        · refine ⟨?_, ?_⟩
          · dsimp only
            exact hw.reg (by omega) (RegGroup.abpErr_at (by omega) (by omega)) rfl
          · exact trivial
    · assumption
  · exact .inl (by omega)

theorem State.abpNote_keeps {w : Nat} {s0 : State} {x0 : State} {x1 : ℕ} {x2 : ℕ} {x3 : Bool} (hw : Has w 65536) (hx0 : State.Keeps w s0 x0) :
    State.Keeps w s0 (State.abpNote x0 x1 x2 x3) := by
  unfold State.abpNote
  refine State.Keeps.upd_abp (s := x0) ?_ ?_
  · exact hw.bit rfl
  · assumption

theorem State.accAdd_keeps {w : Nat} {s0 : State} {x0 : State} {x1 : ℕ} {x2 : ℚ} (hw : Has w 524288) (hx0 : State.Keeps w s0 x0) :
    State.Keeps w s0 (State.accAdd x0 x1 x2).2 := by
  unfold State.accAdd
  extract_lets -merge -useContext +onlyGivenNames v1
  clear_value v1
  extract_lets -merge -useContext +onlyGivenNames v3
  clear_value v3
  refine State.Keeps.pair ?_
  refine State.Keeps.upd_met (s := x0) ?_ ?_
  · exact hw.bit rfl
  · assumption

theorem State.setBil_keeps {w : Nat} {s0 : State} {x0 : State} {x1 : Fin 2} {x2 : Bil → Bil} (hw : Has w 4194304) (hx0 : State.Keeps w s0 x0) :
    State.Keeps w s0 (State.setBil x0 x1 x2) := by
  unfold State.setBil
  refine State.Keeps.upd_bil (s := x0) ?_ ?_
  · exact hw.bit rfl
  · assumption

theorem State.addTariff_keeps {w : Nat} {s0 : State} {x0 : State} {x1 : Fin 2} {x2 : ℕ} {x3 : ℕ → ℕ} (hw : Has w 4194304) (hx0 : State.Keeps w s0 x0) :
    State.Keeps w s0 (State.addTariff x0 x1 x2 x3) := by
  unfold State.addTariff
  refine State.setBil_keeps (hw.mono rfl) ?_
  assumption

theorem State.accTo_keeps {w : Nat} {s0 : State} {x0 : State} {x1 : Fin 2} {x2 : ℕ} {x3 : ℕ → ℕ} (hw : Has w 4718592) (hx0 : State.Keeps w s0 x0) :
    State.Keeps w s0 (State.accTo x0 x1 x2 x3) := by
  unfold State.accTo
  extract_lets -merge -useContext +onlyGivenNames v1
  clear_value v1
  extract_lets -merge -useContext +onlyGivenNames v3
  clear_value v3
  extract_lets -merge -useContext +onlyGivenNames v5
  clear_value v5
  refine State.addTariff_keeps (hw.mono rfl) ?_
  refine State.Keeps.upd_met (s := x0) ?_ ?_
  · exact hw.bit rfl
  · assumption

theorem State.accumulate_keeps {w : Nat} {s0 : State} {x0 : State} {x1 : Fin 2} {x2 : StepEnd} (hw : Has w 524288) (hx0 : State.Keeps w s0 x0) :
    State.Keeps w s0 (State.accumulate x0 x1 x2).2 := by
  unfold State.accumulate
  extract_lets -merge -useContext +onlyGivenNames v1
  have h2 : State.Keeps w s0 v1.2 := by
    unfold v1
    refine State.Keeps.foldlSnd ?_ ?_
    · assumption
    · intro a6 a7 a8
      split
      rename_i b10 b11 b12 e13
      have h14 : State.Keeps w s0 b12 := by
        refine State.Keeps.ofPair e13 ?_
        refine State.accAdd_keeps (hw.mono rfl) ?_
        assumption
      assumption
  clear_value v1
  refine State.Keeps.pair ?_
  extract_lets -merge -useContext +onlyGivenNames y20
  have h21 : State.Keeps w s0 y20 := by
    unfold y20
    assumption
  clear_value y20
  refine State.Keeps.upd_met (s := y20) ?_ ?_
  · exact hw.bit rfl
  · assumption

theorem State.unguard_keeps {w : Nat} {s0 : State} {x0 : State} {x1 : ℕ} (hw : Has w 68719476736) (hx0 : State.Keeps w s0 x0) :
    State.Keeps w s0 (State.unguard x0 x1) := by
  unfold State.unguard
  refine State.Keeps.upd_nvm (s := x0) ?_ ?_ ?_ ?_ ?_ ?_
  · exact .inl (hw.bit rfl)
  · exact .inr rfl
  · exact .inr rfl
  · exact List.suffix_refl _
  · exact id
  · assumption

theorem State.unguardOpt_keeps {w : Nat} {s0 : State} {x0 : State} {x1 : Option ℕ} (hw : Has w 68719476736) (hx0 : State.Keeps w s0 x0) :
    State.Keeps w s0 (State.unguardOpt x0 x1) := by
  unfold State.unguardOpt
  split
  · rename_i b1 b2
    refine State.unguard_keeps (hw.mono rfl) ?_
    assumption
  · rename_i b5
    assumption

theorem State.nvmQueue_keeps {w : Nat} {s0 : State} {x0 : State} {x1 : NvmReq} (hw : Has w 206158430208) (hx0 : State.Keeps w s0 x0) :
    State.Keeps w s0 (State.nvmQueue x0 x1) := by
  unfold State.nvmQueue
  refine State.Keeps.upd_nvm (s := x0) ?_ ?_ ?_ ?_ ?_ ?_
  · exact .inl (hw.bit rfl)
  · exact .inl (hw.bit rfl)
  · exact .inr (Nvm.next_bytes _)
  · exact (Nvm.next_retired _).symm ▸ List.suffix_refl _
  · exact fun h => (Nvm.next_bytes _).symm ▸ h
  · assumption

theorem State.archFlush_keeps {w : Nat} {s0 : State} {x0 : State} (hw : Has w 206158430208) (hx0 : State.Keeps w s0 x0) :
    State.Keeps w s0 (State.archFlush x0) := by
  unfold State.archFlush
  refine State.Keeps.foldl ?_ ?_
  · refine State.Keeps.upd_nvm (s := x0) ?_ ?_ ?_ ?_ ?_ ?_
    · exact .inr rfl
    · exact .inl (hw.bit rfl)
    · exact .inr rfl
    · exact List.suffix_refl _
    · exact id
    · assumption
  · intro a9 a10 a11
    extract_lets -merge -useContext +onlyGivenNames v13
    clear_value v13
    extract_lets -merge -useContext +onlyGivenNames v15
    clear_value v15
    extract_lets -merge -useContext +onlyGivenNames v17
    clear_value v17
    extract_lets -merge -useContext +onlyGivenNames v19
    clear_value v19
    extract_lets -merge -useContext +onlyGivenNames v21
    clear_value v21
    refine State.nvmQueue_keeps (hw.mono rfl) ?_
    refine State.Keeps.upd_nvm (s := a9) ?_ ?_ ?_ ?_ ?_ ?_
    · exact .inl (hw.bit rfl)
    · exact .inr rfl
    · exact .inr rfl
    · exact List.suffix_refl _
    · exact id
    · assumption

theorem State.writeRec_keeps {w : Nat} {s0 : State} {x0 : State} {x1 : Fin 64} {x2 : ℕ} {x3 : Rec} (hw : Has w 2147484160) (hx0 : State.Keeps w s0 x0) :
    State.Keeps w s0 (State.writeRec x0 x1 x2 x3) := by
  unfold State.writeRec
  extract_lets -merge -useContext +onlyGivenNames v1
  clear_value v1
  extract_lets -merge -useContext +onlyGivenNames v3
  clear_value v3
  extract_lets -merge -useContext +onlyGivenNames v5
  clear_value v5
  extract_lets -merge -useContext +onlyGivenNames y7
  have h8 : State.Keeps w s0 y7 := by
    unfold y7
    refine State.Keeps.upd_out (s := x0) ?_ ?_ ?_
    · exact hw.bit rfl
    · exact List.prefix_append _ _
    · assumption
  clear_value y7
  refine State.setRing_keeps ?_ ?_ ?_ ?_
  · exact hw.bit rfl
  · exact .inr fun _ => rfl
  · exact .inr fun _ => rfl
  · assumption

theorem State.takePlace_keeps {w : Nat} {s0 : State} {x0 : State} {x1 : Fin 64} (hw : Has w 2147483648) (hx0 : State.Keeps w s0 x0) :
    State.Keeps w s0 (State.takePlace x0 x1) := by
  unfold State.takePlace
  refine State.setRing_keeps ?_ ?_ ?_ ?_
  · exact hw.bit rfl
  · exact .inr fun _ => rfl
  · exact .inr fun _ => rfl
  · assumption

theorem State.writeNow_keeps {w : Nat} {s0 : State} {x0 : State} {x1 : Fin 64} {x2 : Rec} (hw : Has w 2147484160) (hx0 : State.Keeps w s0 x0) :
    State.Keeps w s0 (State.writeNow x0 x1 x2) := by
  unfold State.writeNow
  extract_lets -merge -useContext +onlyGivenNames v1
  clear_value v1
  refine State.writeRec_keeps (hw.mono rfl) ?_
  refine State.takePlace_keeps (hw.mono rfl) ?_
  assumption

theorem State.writeGaps_keeps {w : Nat} {s0 : State} {x0 : Fin 64} {x1 : ℕ} {x2 : ℕ} {x3 : Bool} {x4 : List Gap} {x5 : State} (hw : Has w 2147484160) (hx5 : State.Keeps w s0 x5) :
    State.Keeps w s0 (State.writeGaps x0 x1 x2 x3 x4 x5) := by
  induction x4 generalizing x0 x1 x2 x3 x5
  · unfold State.writeGaps
    refine State.setRing_keeps ?_ ?_ ?_ ?_
    · exact hw.bit rfl
    · exact .inr fun _ => rfl
    · exact .inr fun _ => rfl
    · assumption
  · rename_i e l ih
    unfold State.writeGaps
    refine State.Keeps.ite ?_ ?_
    · apply ih
      refine State.writeNow_keeps (hw.mono rfl) ?_
      assumption
    · refine State.setRing_keeps ?_ ?_ ?_ ?_
      · exact hw.bit rfl
      · exact .inr fun _ => rfl
      · exact .inr fun _ => rfl
      · assumption

theorem State.pumpGaps_keeps {w : Nat} {s0 : State} {x0 : State} {x1 : Fin 64} (hw : Has w 2147484160) (hx0 : State.Keeps w s0 x0) :
    State.Keeps w s0 (State.pumpGaps x0 x1) := by
  unfold State.pumpGaps
  refine State.Keeps.foldl ?_ ?_
  · assumption
  · intro a3 a4 a5
    refine State.Keeps.ite ?_ ?_
    · assumption
    · refine State.writeGaps_keeps (hw.mono rfl) ?_
      assumption

theorem State.placeLossy_keeps {w : Nat} {s0 : State} {x0 : State} {x1 : Fin 64} {x2 : Rec} (hw : Has w 4722366482871792697856) (hx0 : State.Keeps w s0 x0) :
    State.Keeps w s0 (State.placeLossy x0 x1 x2) := by
  unfold State.placeLossy
  extract_lets -merge -useContext +onlyGivenNames v1
  clear_value v1
  extract_lets -merge -useContext +onlyGivenNames v3
  clear_value v3
  extract_lets -merge -useContext +onlyGivenNames v5
  clear_value v5
  refine State.Keeps.ite ?_ ?_
  · refine State.pumpGaps_keeps (hw.mono rfl) ?_
    refine State.setRing_keeps ?_ ?_ ?_ ?_
    · exact hw.bit rfl
    · exact .inr fun _ => rfl
    · exact .inr fun _ => rfl
    · assumption
  · refine State.Keeps.ite ?_ ?_
    · refine State.writeNow_keeps (hw.mono rfl) ?_
      refine State.writeGaps_keeps (hw.mono rfl) ?_
      assumption
    · refine State.incSat_keeps ?_ ?_
      · exact hw.reg (by omega) (RegGroup.errRing_at (by omega) (by omega)) rfl
      · refine State.setRing_keeps ?_ ?_ ?_ ?_
        · exact hw.bit rfl
        · exact .inr fun _ => rfl
        · exact .inr fun _ => rfl
        · assumption

theorem State.statDepth_keeps {w : Nat} {s0 : State} {x0 : State} (hw : Has w 5316911983139663491615228241122426880) (hx0 : State.Keeps w s0 x0) :
    State.Keeps w s0 (State.statDepth x0) := by
  unfold State.statDepth
  extract_lets -merge -useContext +onlyGivenNames v1
  clear_value v1
  extract_lets -merge -useContext +onlyGivenNames v3
  clear_value v3
  extract_lets -merge -useContext +onlyGivenNames y5
  clear_value y5
  extract_lets -merge -useContext +onlyGivenNames y7
  have h8 : State.Keeps w s0 y7 := by
    unfold y7
    refine State.Keeps.ite ?_ ?_
    · refine State.sf_keeps ?_ ?_
      · exact hw.reg (by omega) (RegGroup.aggStat_at (by omega) (by omega)) rfl
      · refine State.Keeps.upd_stat (s := x0) ?_ ?_
        · exact hw.bit rfl
        · assumption
    · assumption
  clear_value y7
  refine State.sfs_keeps ?_ ?_
  · refine ⟨?_, ?_⟩
    · dsimp only
      exact hw.reg (by omega) (RegGroup.aggStat_at (by omega) (by omega)) rfl
    · refine ⟨?_, ?_⟩
      · dsimp only
        exact hw.reg (by omega) (RegGroup.aggStat_at (by omega) (by omega)) rfl
      · exact trivial
  · assumption

theorem State.statMarks_keeps {w : Nat} {s0 : State} {x0 : ℕ} {x1 : State} (hw : Has w 85070591730234615865843651857943101440) (hx1 : State.Keeps w s0 x1) :
    State.Keeps w s0 (State.statMarks x0 x1) := by
  induction x0 generalizing x1
  · unfold State.statMarks
    assumption
  · rename_i n ih
    unfold State.statMarks
    split
    · rename_i b2 b3 b4 b5 e6
      apply ih
      refine State.sf_keeps ?_ ?_
      · exact hw.reg (by omega) (RegGroup.statSeq_at (by omega) (by omega)) rfl
      · refine State.Keeps.upd_stat (s := x1) ?_ ?_
        · exact hw.bit rfl
        · assumption
    · rename_i b13 e14
      assumption

theorem State.statTake_keeps {w : Nat} {s0 : State} {x0 : State} {x1 : AggIn} (hw : Has w 90387503713374279357458880099064479744) (hx0 : State.Keeps w s0 x0) :
    State.Keeps w s0 (State.statTake x0 x1) := by
  unfold State.statTake
  refine State.Keeps.ite ?_ ?_
  · assumption
  · extract_lets -merge -useContext +onlyGivenNames v3
    clear_value v3
    refine State.statDepth_keeps (hw.mono rfl) ?_
    refine State.statMarks_keeps (hw.mono rfl) ?_
    refine State.Keeps.upd_stat (s := x0) ?_ ?_
    · exact hw.bit rfl
    · assumption

theorem State.aggNote_keeps {w : Nat} {s0 : State} {x0 : State} {x1 : Fin 64} {x2 : ℕ} {x3 : Rec} (hw : Has w 90387503713374279357458880099064479744) (hx0 : State.Keeps w s0 x0) :
    State.Keeps w s0 (State.aggNote x0 x1 x2 x3) := by
  unfold State.aggNote
  refine State.Keeps.ite ?_ ?_
  · refine State.statTake_keeps (hw.mono rfl) ?_
    assumption
  · assumption

theorem State.pmeUpd_keeps {w : Nat} {s0 : State} {x0 : State} (hw : Has w 17179869184) (hx0 : State.Keeps w s0 x0) :
    State.Keeps w s0 (State.pmeUpd x0) := by
  unfold State.pmeUpd
  refine State.Keeps.ite ?_ ?_
  · refine State.Keeps.upd_link (s := x0) ?_ ?_ ?_
    · exact .inl (hw.bit rfl)
    · exact .inr rfl
    · assumption
  · assumption

theorem State.reserveUpd_keeps {w : Nat} {s0 : State} {x0 : State} (hw : Has w 348449143727040986591513112398231186178560) (hx0 : State.Keeps w s0 x0) :
    State.Keeps w s0 (State.reserveUpd x0) := by
  unfold State.reserveUpd
  extract_lets -merge -useContext +onlyGivenNames y1
  have h2 : State.Keeps w s0 y1 := by
    unfold y1
    refine State.pmeUpd_keeps (hw.mono rfl) ?_
    assumption
  clear_value y1
  extract_lets -merge -useContext +onlyGivenNames y6
  have h7 : State.Keeps w s0 y6 := by
    unfold y6
    refine State.sf_keeps ?_ ?_
    · exact hw.reg (by omega) (RegGroup.reserve_at (by omega) (by omega)) rfl
    · assumption
  clear_value y6
  extract_lets -merge -useContext +onlyGivenNames v12
  clear_value v12
  refine State.Keeps.ite ?_ ?_
  · refine State.Keeps.ite ?_ ?_
    · refine State.sf_keeps ?_ ?_
      · exact hw.reg (by omega) (RegGroup.errRing_at (by omega) (by omega)) rfl
      · assumption
    · assumption
  · refine State.Keeps.ite ?_ ?_
    · refine State.raise_keeps (hw.mono rfl) ?_ ?_
      · refine State.sf_keeps ?_ ?_
        · exact hw.reg (by omega) (RegGroup.errRing_at (by omega) (by omega)) rfl
        · assumption
      · exact .inl (by omega)
    · assumption

theorem State.pump_keeps {w : Nat} {s0 : State} {x0 : Fin 64} {x1 : ℕ} {x2 : State} (hw : Has w 2147484160) (hx2 : State.Keeps w s0 x2) :
    State.Keeps w s0 (State.pump x0 x1 x2) := by
  induction x1 generalizing x0 x2
  · unfold State.pump
    assumption
  · rename_i n ih
    unfold State.pump
    extract_lets -merge -useContext +onlyGivenNames v2
    clear_value v2
    split
    · rename_i b4 e5
      assumption
    · rename_i b7 b8 b9 e10
      extract_lets -merge -useContext +onlyGivenNames v12
      clear_value v12
      extract_lets -merge -useContext +onlyGivenNames v14
      clear_value v14
      refine State.Keeps.ite ?_ ?_
      · apply ih
        refine State.writeRec_keeps (hw.mono rfl) ?_
        refine State.setRing_keeps ?_ ?_ ?_ ?_
        · exact hw.bit rfl
        · exact .inr fun _ => rfl
        · exact .inr fun _ => rfl
        · assumption
      · assumption

theorem State.pumpRing_keeps {w : Nat} {s0 : State} {x0 : State} {x1 : Fin 64} (hw : Has w 348449143727040986591513112398233333662208) (hx0 : State.Keeps w s0 x0) :
    State.Keeps w s0 (State.pumpRing x0 x1) := by
  unfold State.pumpRing
  refine State.reserveUpd_keeps (hw.mono rfl) ?_
  refine State.pump_keeps (hw.mono rfl) ?_
  assumption

theorem State.placeLossless_keeps {w : Nat} {s0 : State} {x0 : State} {x1 : Fin 64} {x2 : Rec} (hw : Has w 348539531230754360870870571278332398141952) (hx0 : State.Keeps w s0 x0) :
    State.Keeps w s0 (State.placeLossless x0 x1 x2) := by
  unfold State.placeLossless
  extract_lets -merge -useContext +onlyGivenNames v1
  clear_value v1
  extract_lets -merge -useContext +onlyGivenNames v3
  clear_value v3
  refine State.Keeps.ite ?_ ?_
  · extract_lets -merge -useContext +onlyGivenNames v6
    clear_value v6
    refine State.aggNote_keeps (hw.mono rfl) ?_
    refine State.setRing_keeps ?_ ?_ ?_ ?_
    · exact hw.bit rfl
    · exact .inr fun _ => rfl
    · exact .inr fun _ => rfl
    · assumption
  · refine State.Keeps.ite ?_ ?_
    · extract_lets -merge -useContext +onlyGivenNames v15
      clear_value v15
      extract_lets -merge -useContext +onlyGivenNames y17
      have h18 : State.Keeps w s0 y17 := by
        unfold y17
        refine State.setRing_keeps ?_ ?_ ?_ ?_
        · exact hw.bit rfl
        · exact .inr fun _ => rfl
        · exact .inr fun _ => rfl
        · refine State.takePlace_keeps (hw.mono rfl) ?_
          assumption
      clear_value y17
      refine State.aggNote_keeps (hw.mono rfl) ?_
      refine State.reserveUpd_keeps (hw.mono rfl) ?_
      refine State.raise_keeps (hw.mono rfl) ?_ ?_
      · refine State.incSat_keeps ?_ ?_
        · exact hw.reg (by omega) (RegGroup.errRing_at (by omega) (by omega)) rfl
        · assumption
      · exact .inl (by omega)
    · extract_lets -merge -useContext +onlyGivenNames v33
      clear_value v33
      extract_lets -merge -useContext +onlyGivenNames y35
      have h36 : State.Keeps w s0 y35 := by
        unfold y35
        refine State.setRing_keeps ?_ ?_ ?_ ?_
        · exact hw.bit rfl
        · exact .inr fun _ => rfl
        · exact .inr fun _ => rfl
        · refine State.takePlace_keeps (hw.mono rfl) ?_
          assumption
      clear_value y35
      refine State.aggNote_keeps (hw.mono rfl) ?_
      refine State.pumpRing_keeps (hw.mono rfl) ?_
      assumption

theorem State.place_keeps {w : Nat} {s0 : State} {x0 : State} {x1 : Fin 64} {x2 : Rec} (hw : Has w 348539531230754360870870571278332398141952) (hx0 : State.Keeps w s0 x0) :
    State.Keeps w s0 (State.place x0 x1 x2) := by
  unfold State.place
  refine State.Keeps.ite ?_ ?_
  · refine State.placeLossy_keeps (hw.mono rfl) ?_
    assumption
  · refine State.placeLossless_keeps (hw.mono rfl) ?_
    assumption

theorem State.releaseGo_keeps {w : Nat} {s0 : State} {x0 : Fin 64} {x1 : ℕ} {x2 : State} (hw : Has w 348539531230754360870870571278332398141952) (hx2 : State.Keeps w s0 x2) :
    State.Keeps w s0 (State.releaseGo x0 x1 x2) := by
  induction x1 generalizing x0 x2
  · unfold State.releaseGo
    assumption
  · rename_i n ih
    unfold State.releaseGo
    split
    · rename_i b2 e3
      assumption
    · rename_i b5 b6 b7 e8
      extract_lets -merge -useContext +onlyGivenNames v10
      clear_value v10
      refine State.Keeps.ite ?_ ?_
      · apply ih
        refine State.place_keeps (hw.mono rfl) ?_
        refine State.setRing_keeps ?_ ?_ ?_ ?_
        · exact hw.bit rfl
        · exact .inr fun _ => rfl
        · exact .inr fun _ => rfl
        · assumption
      · assumption

theorem State.offer_keeps {w : Nat} {s0 : State} {x0 : State} {x1 : Fin 64} {x2 : Rec} (hw : Has w 348539531230754360870870571278332398141952) (hx0 : State.Keeps w s0 x0) :
    State.Keeps w s0 (State.offer x0 x1 x2) := by
  unfold State.offer
  extract_lets -merge -useContext +onlyGivenNames y1
  have h2 : State.Keeps w s0 y1 := by
    unfold y1
    refine State.setRing_keeps ?_ ?_ ?_ ?_
    · exact hw.bit rfl
    · exact .inr fun _ => rfl
    · exact .inr fun _ => rfl
    · assumption
  clear_value y1
  extract_lets -merge -useContext +onlyGivenNames y9
  have h10 : State.Keeps w s0 y9 := by
    unfold y9
    refine State.Keeps.ite ?_ ?_
    · assumption
    · refine State.Keeps.ite ?_ ?_
      · refine State.place_keeps (hw.mono rfl) ?_
        assumption
      · assumption
  clear_value y9
  refine State.Keeps.ite ?_ ?_
  · refine State.releaseGo_keeps (hw.mono rfl) ?_
    refine State.setRing_keeps ?_ ?_ ?_ ?_
    · exact hw.bit rfl
    · exact .inr fun _ => rfl
    · exact .inr fun _ => rfl
    · assumption
  · refine State.place_keeps (hw.mono rfl) ?_
    assumption

theorem State.holdLog_keeps {w : Nat} {s0 : State} {x0 : State} {x1 : Rec} (hw : Has w 348449143727040986591513112398231186178592) (hx0 : State.Keeps w s0 x0) :
    State.Keeps w s0 (State.holdLog x0 x1) := by
  unfold State.holdLog
  extract_lets -merge -useContext +onlyGivenNames v1
  clear_value v1
  refine State.Keeps.ite ?_ ?_
  · refine State.Keeps.upd_heldLog (s := x0) ?_ ?_
    · exact hw.bit rfl
    · assumption
  · refine State.Keeps.ite ?_ ?_
    · refine State.reserveUpd_keeps (hw.mono rfl) ?_
      refine State.raise_keeps (hw.mono rfl) ?_ ?_
      · refine State.incSat_keeps ?_ ?_
        · exact hw.reg (by omega) (RegGroup.errRing_at (by omega) (by omega)) rfl
        · refine State.Keeps.upd_heldLog (s := x0) ?_ ?_
          · exact hw.bit rfl
          · assumption
      · exact .inl (by omega)
    · refine State.reserveUpd_keeps (hw.mono rfl) ?_
      refine State.Keeps.upd_heldLog (s := x0) ?_ ?_
      · exact hw.bit rfl
      · assumption

theorem State.emitL_keeps {w : Nat} {s0 : State} {x0 : State} {x1 : ℕ} {x2 : Rec} (hw : Has w 348539531230754360870870571278538556572512) (hx0 : State.Keeps w s0 x0) :
    State.Keeps w s0 (State.emitL x0 x1 x2) := by
  unfold State.emitL
  extract_lets -merge -useContext +onlyGivenNames v1
  clear_value v1
  refine State.Keeps.ite ?_ ?_
  · assumption
  · refine State.Keeps.ite ?_ ?_
    · refine State.Keeps.ite ?_ ?_
      · refine State.archFlush_keeps (hw.mono rfl) ?_
        refine State.Keeps.upd_nvm (s := x0) ?_ ?_ ?_ ?_ ?_ ?_
        · exact .inr rfl
        · exact .inl (hw.bit rfl)
        · exact .inr rfl
        · exact List.suffix_refl _
        · exact id
        · assumption
      · assumption
    · extract_lets -merge -useContext +onlyGivenNames y16
      have h17 : State.Keeps w s0 y16 := by
        unfold y16
        refine State.Keeps.upd_formed (s := x0) ?_ ?_
        · exact hw.bit rfl
        · assumption
      clear_value y16
      extract_lets -merge -useContext +onlyGivenNames y22
      extract_lets -merge -useContext +onlyGivenNames y24
      have h25 : State.Keeps w s0 y24 := by
        unfold y24
        refine State.Keeps.ite ?_ ?_
        · refine State.Keeps.upd_nvm (s := y16) ?_ ?_ ?_ ?_ ?_ ?_
          · exact .inr rfl
          · exact .inl (hw.bit rfl)
          · exact .inr rfl
          · exact List.suffix_refl _
          · exact id
          · assumption
        · assumption
      clear_value y24
      split
      · rename_i b36 b37 e38
        refine State.Keeps.ite ?_ ?_
        · assumption
        · refine State.offer_keeps (hw.mono rfl) ?_
          assumption
      · rename_i b43 e44
        refine State.Keeps.ite ?_ ?_
        · refine State.holdLog_keeps (hw.mono rfl) ?_
          assumption
        · refine State.Keeps.ite ?_ ?_
          · refine State.reserveUpd_keeps (hw.mono rfl) ?_
            refine State.Keeps.upd_heldSec (s := y24) ?_ ?_
            · exact hw.bit rfl
            · assumption
          · assumption

theorem State.emit_keeps {w : Nat} {s0 : State} {x0 : State} {x1 : Rec} (hw : Has w 348539531230754360870870571278538556572512) (hx0 : State.Keeps w s0 x0) :
    State.Keeps w s0 (State.emit x0 x1) := by
  unfold State.emit
  refine State.emitL_keeps (hw.mono rfl) ?_
  assumption

theorem State.log_keeps {w : Nat} {s0 : State} {x0 : State} {x1 : ℕ} {x2 : ℕ} {x3 : List Byte} (hw : Has w 348539531230754360870870571278538556572512) (hx0 : State.Keeps w s0 x0) :
    State.Keeps w s0 (State.log x0 x1 x2 x3) := by
  unfold State.log
  refine State.emit_keeps (hw.mono rfl) ?_
  assumption

theorem State.calActivate_keeps {w : Nat} {s0 : State} {x0 : State} {x1 : ℕ} (hw : Has w 353984049101489376286284564997446856344416) (hx0 : State.Keeps w s0 x0) :
    State.Keeps w s0 (State.calActivate x0 x1) := by
  unfold State.calActivate
  extract_lets -merge -useContext +onlyGivenNames v1
  clear_value v1
  extract_lets -merge -useContext +onlyGivenNames v3
  clear_value v3
  extract_lets -merge -useContext +onlyGivenNames v5
  clear_value v5
  extract_lets -merge -useContext +onlyGivenNames y7
  have h8 : State.Keeps w s0 y7 := by
    unfold y7
    refine State.unguardOpt_keeps (hw.mono rfl) ?_
    assumption
  clear_value y7
  extract_lets -merge -useContext +onlyGivenNames y12
  have h13 : State.Keeps w s0 y12 := by
    unfold y12
    refine State.Keeps.upd_cals (s := y7) ?_ ?_
    · exact hw.bit rfl
    · assumption
  clear_value y12
  refine State.log_keeps (hw.mono rfl) ?_
  refine State.sfs_keeps ?_ ?_
  · refine ⟨?_, ?_⟩
    · dsimp only
      exact hw.reg (by omega) (RegGroup.bilCal_at (by omega) (by omega)) rfl
    · refine ⟨?_, ?_⟩
      · dsimp only
        exact hw.reg (by omega) (RegGroup.bilCal_at (by omega) (by omega)) rfl
      · refine ⟨?_, ?_⟩
        · dsimp only
          exact hw.reg (by omega) (RegGroup.bilCal_at (by omega) (by omega)) rfl
        · exact trivial
  · assumption

theorem State.actFor_keeps {w : Nat} {s0 : State} {x0 : State} {x1 : Fin 2} (hw : Has w 353984049101489376286284564997446856344416) (hx0 : State.Keeps w s0 x0) :
    State.Keeps w s0 (State.actFor x0 x1) := by
  unfold State.actFor
  refine State.Keeps.ite ?_ ?_
  · refine State.Keeps.upd_cals (s := x0) ?_ ?_
    · exact hw.bit rfl
    · assumption
  · extract_lets -merge -useContext +onlyGivenNames v5
    refine State.calActivate_keeps (hw.mono rfl) ?_
    assumption

theorem State.setBilDone_keeps {w : Nat} {s0 : State} {x0 : State} {x1 : ℕ} {x2 : DevTime} (hw : Has w 1361129467683753853853498429727072845824) (hx0 : State.Keeps w s0 x0) (hx1 : x1 < 2 ∨ Has w allRegs) :
    State.Keeps w s0 (State.setBilDone x0 x1 x2) := by
  unfold State.setBilDone
  refine State.s64_keeps ?_ ?_ ?_
  · exact hx1.elim (fun _ => hw.reg (by omega) (RegGroup.bilStat_at (by omega) (by omega)) rfl) .inr
  · exact hx1.elim (fun _ => hw.reg (by omega) (RegGroup.bilStat_at (by omega) (by omega)) rfl) .inr
  · assumption

theorem State.actNote_keeps {w : Nat} {s0 : State} {x0 : State} {x1 : Fin 2} {x2 : DevTime} (hw : Has w 1361129467683753853853498429727077040128) (hx0 : State.Keeps w s0 x0) :
    State.Keeps w s0 (State.actNote x0 x1 x2) := by
  unfold State.actNote
  refine State.Keeps.ite ?_ ?_
  · refine State.setBil_keeps (hw.mono rfl) ?_
    refine State.setBilDone_keeps (hw.mono rfl) ?_ ?_
    · assumption
    · exact .inl (by omega)
  · assumption

theorem State.setSar_keeps {w : Nat} {s0 : State} {x0 : State} {x1 : Sar → Sar} (hw : Has w 134217728) (hx0 : State.Keeps w s0 x0) :
    State.Keeps w s0 (State.setSar x0 x1) := by
  unfold State.setSar
  refine State.Keeps.upd_sar (s := x0) ?_ ?_
  · exact hw.bit rfl
  · assumption

theorem State.setTs_keeps {w : Nat} {s0 : State} {x0 : State} {x1 : Fin 8} {x2 : Tsar → Tsar} (hw : Has w 134217728) (hx0 : State.Keeps w s0 x0) :
    State.Keeps w s0 (State.setTs x0 x1 x2) := by
  unfold State.setTs
  refine State.setSar_keeps (hw.mono rfl) ?_
  assumption

theorem State.incChanged_keeps {w : Nat} {s0 : State} {x0 : State} {x1 : ℕ} (hw : Has w 562950087639040) (hx0 : State.Keeps w s0 x0) :
    State.Keeps w s0 (State.incChanged x0 x1) := by
  unfold State.incChanged
  refine State.Keeps.ite ?_ ?_
  · assumption
  · extract_lets -merge -useContext +onlyGivenNames y3
    have h4 : State.Keeps w s0 y3 := by
      unfold y3
      refine State.Keeps.foldl ?_ ?_
      · assumption
      · intro a8 a9 a10
        refine State.Keeps.ite ?_ ?_
        · refine State.setGrp_keeps ?_ ?_ ?_ ?_
          · exact hw.bit rfl
          · exact .inr fun _ => rfl
          · exact .inr fun _ => rfl
          · assumption
        · assumption
    clear_value y3
    refine State.Keeps.foldl ?_ ?_
    · assumption
    · intro a21 a22 a23
      refine State.Keeps.ite ?_ ?_
      · refine State.setTs_keeps (hw.mono rfl) ?_
        assumption
      · assumption

theorem State.adjStep_keeps {w : Nat} {s0 : State} {x0 : State} {x1 : ℤ} (hw : Has w 633825300114115263698976112640) (hx0 : State.Keeps w s0 x0) :
    State.Keeps w s0 (State.adjStep x0 x1) := by
  unfold State.adjStep
  refine State.Keeps.ite ?_ ?_
  · assumption
  · extract_lets -merge -useContext +onlyGivenNames v3
    clear_value v3
    extract_lets -merge -useContext +onlyGivenNames v5
    clear_value v5
    extract_lets -merge -useContext +onlyGivenNames v7
    clear_value v7
    extract_lets -merge -useContext +onlyGivenNames v9
    clear_value v9
    extract_lets -merge -useContext +onlyGivenNames v11
    clear_value v11
    refine State.incChanged_keeps (hw.mono rfl) ?_
    refine State.si_keeps ?_ ?_
    · exact hw.reg (by omega) (RegGroup.timeAdj_at (by omega) (by omega)) rfl
    · refine State.Keeps.upd_free (s := x0) ?_ ?_
      · exact hw.bit rfl
      · assumption

theorem State.ketCopy_keeps {w : Nat} {s0 : State} {x0 : State} (hw : Has w 228359630832953580969325755111919221821239459840) (hx0 : State.Keeps w s0 x0) :
    State.Keeps w s0 (State.ketCopy x0) := by
  unfold State.ketCopy
  refine State.sfs_keeps ?_ ?_
  · refine ⟨?_, ?_⟩
    · dsimp only
      exact hw.reg (by omega) (RegGroup.ketStat_at (by omega) (by omega)) rfl
    · refine ⟨?_, ?_⟩
      · dsimp only
        exact hw.reg (by omega) (RegGroup.ketStat_at (by omega) (by omega)) rfl
      · refine ⟨?_, ?_⟩
        · dsimp only
          exact hw.reg (by omega) (RegGroup.ketStat_at (by omega) (by omega)) rfl
        · refine ⟨?_, ?_⟩
          · dsimp only
            exact hw.reg (by omega) (RegGroup.ketStat_at (by omega) (by omega)) rfl
          · refine ⟨?_, ?_⟩
            · dsimp only
              exact hw.reg (by omega) (RegGroup.ketStat_at (by omega) (by omega)) rfl
            · refine ⟨?_, ?_⟩
              · dsimp only
                exact hw.reg (by omega) (RegGroup.ketStat_at (by omega) (by omega)) rfl
              · refine ⟨?_, ?_⟩
                · dsimp only
                  exact hw.reg (by omega) (RegGroup.ketStat_at (by omega) (by omega)) rfl
                · refine ⟨?_, ?_⟩
                  · dsimp only
                    exact hw.reg (by omega) (RegGroup.ketView_at (by omega) (by omega)) rfl
                  · refine ⟨?_, ?_⟩
                    · dsimp only
                      exact hw.reg (by omega) (RegGroup.ketView_at (by omega) (by omega)) rfl
                    · refine ⟨?_, ?_⟩
                      · dsimp only
                        exact hw.reg (by omega) (RegGroup.ketView_at (by omega) (by omega)) rfl
                      · refine ⟨?_, ?_⟩
                        · dsimp only
                          exact hw.reg (by omega) (RegGroup.ketView_at (by omega) (by omega)) rfl
                        · refine ⟨?_, ?_⟩
                          · dsimp only
                            exact hw.reg (by omega) (RegGroup.ketView_at (by omega) (by omega)) rfl
                          · refine ⟨?_, ?_⟩
                            · dsimp only
                              exact hw.reg (by omega) (RegGroup.ketView_at (by omega) (by omega)) rfl
                            · refine ⟨?_, ?_⟩
                              · dsimp only
                                exact hw.reg (by omega) (RegGroup.ketView_at (by omega) (by omega)) rfl
                              · exact trivial
  · assumption

theorem State.ketOffset_keeps {w : Nat} {s0 : State} {x0 : State} (hw : Has w 35184372088832) (hx0 : State.Keeps w s0 x0) :
    State.Keeps w s0 (State.ketOffset x0) := by
  unfold State.ketOffset
  refine State.Keeps.upd_ket (s := x0) ?_ ?_ ?_
  · exact .inl (hw.bit rfl)
  · exact .inr (Nat.le_refl _)
  · assumption

theorem State.mirror_keeps {w : Nat} {s0 : State} {x0 : State} (hw : Has w 228359630832953580969325755111919257005611548672) (hx0 : State.Keeps w s0 x0) :
    State.Keeps w s0 (State.mirror x0) := by
  unfold State.mirror
  refine State.Keeps.ite ?_ ?_
  · refine State.ketCopy_keeps (hw.mono rfl) ?_
    refine State.ketOffset_keeps (hw.mono rfl) ?_
    assumption
  · assumption

theorem State.stepNeeded_keeps {w : Nat} {s0 : State} {x0 : State} (hw : Has w 316912650352205255587888366081) (hx0 : State.Keeps w s0 x0) :
    State.Keeps w s0 (State.stepNeeded x0) := by
  unfold State.stepNeeded
  refine State.raise_keeps (hw.mono rfl) ?_ ?_
  · refine State.sf_keeps ?_ ?_
    · exact hw.reg (by omega) (RegGroup.timeStat_at (by omega) (by omega)) rfl
    · refine State.Keeps.upd_rst (s := x0) ?_ ?_ ?_
      · exact hw.bit rfl
      · exact .inr rfl
      · assumption
  · exact .inl (by omega)

theorem State.timeLoad_keeps {w : Nat} {s0 : State} {x0 : State} {x1 : Loaded} (hw : Has w 228359630832953581286238405464125005174709158401) (hx0 : State.Keeps w s0 x0) :
    State.Keeps w s0 (State.timeLoad x0 x1) := by
  unfold State.timeLoad
  extract_lets -merge -useContext +onlyGivenNames v1
  clear_value v1
  extract_lets -merge -useContext +onlyGivenNames v3
  clear_value v3
  extract_lets -merge -useContext +onlyGivenNames v5
  clear_value v5
  extract_lets -merge -useContext +onlyGivenNames y7
  extract_lets -merge -useContext +onlyGivenNames y9
  have h10 : State.Keeps w s0 y9 := by
    unfold y9
    refine State.Keeps.upd_ket_time (s := x0) ?_ ?_ ?_ ?_ ?_
    · exact .inr rfl
    · exact .inl (hw.bit rfl)
    · exact .inl (hw.bit rfl)
    · exact .inl (hw.bit rfl)
    · assumption
  clear_value y9
  extract_lets -merge -useContext +onlyGivenNames y18
  have h19 : State.Keeps w s0 y18 := by
    unfold y18
    refine State.sfs_keeps ?_ ?_
    · refine ⟨?_, ?_⟩
      · dsimp only
        exact hw.reg (by omega) (RegGroup.timeStat_at (by omega) (by omega)) rfl
      · refine ⟨?_, ?_⟩
        · dsimp only
          exact hw.reg (by omega) (RegGroup.timeStat_at (by omega) (by omega)) rfl
        · exact trivial
    · assumption
  clear_value y18
  refine State.mirror_keeps (hw.mono rfl) ?_
  refine State.Keeps.ite ?_ ?_
  · refine State.stepNeeded_keeps (hw.mono rfl) ?_
    assumption
  · assumption

theorem State.ringSeries_keeps {w : Nat} {s0 : State} {x0 : State} {x1 : Loaded} (hw : Has w 2147483648) (hx0 : State.Keeps w s0 x0) :
    State.Keeps w s0 (State.ringSeries x0 x1) := by
  unfold State.ringSeries
  refine State.Keeps.ite hx0 (State.Keeps.upd_rings (s := x0) (hw.bit rfl) (.inr fun n => ?_) (.inr fun n => ?_) hx0)
  · simp only [Fin.getElem_fin, Vector.getElem_ofFn, Fin.eta, Ring.settings]
  · simp only [Fin.getElem_fin, Vector.getElem_ofFn, Fin.eta, Ring.standing]

theorem State.ckptLoad_keeps {w : Nat} {s0 : State} {x0 : State} {x1 : List Byte} (hw : Has w 1361130116720861170706951996039118716928) (hx0 : State.Keeps w s0 x0) :
    State.Keeps w s0 (State.ckptLoad x0 x1) := by
  unfold State.ckptLoad
  refine State.Keeps.foldlMem ?_ fun t a ha h => State.sf_keeps (hw.reg (by omega) (RegGroup.cf_at (by have := List.mem_range.1 ha; omega) (by have := List.mem_range.1 ha; omega)) rfl) h
  exact State.sfs_keeps ⟨hw.reg (by omega) (RegGroup.bilStat_at (by omega) (by omega)) rfl, hw.reg (by omega) (RegGroup.bilStat_at (by omega) (by omega)) rfl, trivial⟩ (State.Keeps.upd_met_bil (s := x0) (hw.bit rfl) (hw.bit rfl) hx0)

theorem State.storeRecord_keeps {w : Nat} {s0 : State} {x0 : State} {x1 : Fin 10} {x2 : Fin 10} {x3 : ℕ} {x4 : ℕ → NvmKind} {x5 : List Byte} (hw : Has w 206158430208) (hx0 : State.Keeps w s0 x0) :
    State.Keeps w s0 (State.storeRecord x0 x1 x2 x3 x4 x5) := by
  unfold State.storeRecord
  extract_lets -merge -useContext +onlyGivenNames v1
  extract_lets -merge -useContext +onlyGivenNames v3
  clear_value v3
  extract_lets -merge -useContext +onlyGivenNames v5
  clear_value v5
  extract_lets -merge -useContext +onlyGivenNames v7
  clear_value v7
  extract_lets -merge -useContext +onlyGivenNames v9
  clear_value v9
  extract_lets -merge -useContext +onlyGivenNames v11
  refine State.nvmQueue_keeps (hw.mono rfl) ?_
  refine State.Keeps.upd_nvm (s := x0) ?_ ?_ ?_ ?_ ?_ ?_
  · exact .inl (hw.bit rfl)
  · exact .inr rfl
  · exact .inr rfl
  · exact List.suffix_refl _
  · exact id
  · assumption

theorem State.snapStore_keeps {w : Nat} {s0 : State} {x0 : State} {x1 : Fin 2} {x2 : Snap} (hw : Has w 206158430208) (hx0 : State.Keeps w s0 x0) :
    State.Keeps w s0 (State.snapStore x0 x1 x2) := by
  unfold State.snapStore
  refine State.storeRecord_keeps (hw.mono rfl) ?_
  assumption

theorem State.snapKeep_keeps {w : Nat} {s0 : State} {x0 : State} {x1 : Fin 2} {x2 : Snap} (hw : Has w 21778071482940061661655974875633169727488) (hx0 : State.Keeps w s0 x0) :
    State.Keeps w s0 (State.snapKeep x0 x1 x2) := by
  unfold State.snapKeep
  extract_lets -merge -useContext +onlyGivenNames y1
  have h2 : State.Keeps w s0 y1 := by
    unfold y1
    refine State.setBil_keeps (hw.mono rfl) ?_
    assumption
  clear_value y1
  refine State.sfs_keeps ?_ ?_
  · refine ⟨?_, ?_⟩
    · dsimp only
      exact hw.reg (by omega) (RegGroup.bilSnap_at (by omega) (by omega)) rfl
    · refine ⟨?_, ?_⟩
      · dsimp only
        exact hw.reg (by omega) (RegGroup.bilSnap_at (by omega) (by omega)) rfl
      · exact trivial
  · assumption

theorem State.snapMissing_keeps {w : Nat} {s0 : State} {x0 : State} {x1 : Fin 2} {x2 : ℕ} (hw : Has w 23139201599660922832362926871878442680320) (hx0 : State.Keeps w s0 x0) :
    State.Keeps w s0 (State.snapMissing x0 x1 x2) := by
  unfold State.snapMissing
  extract_lets -merge -useContext +onlyGivenNames v1
  clear_value v1
  extract_lets -merge -useContext +onlyGivenNames v3
  clear_value v3
  refine State.Keeps.ite ?_ ?_
  · assumption
  · extract_lets -merge -useContext +onlyGivenNames v7
    have h8 : State.Keeps w s0 v7 := by
      unfold v7
      refine State.ckptLoad_keeps (hw.mono rfl) ?_
      assumption
    clear_value v7
    extract_lets -merge -useContext +onlyGivenNames v12
    clear_value v12
    refine State.snapStore_keeps (hw.mono rfl) ?_
    refine State.snapKeep_keeps (hw.mono rfl) ?_
    assumption

theorem State.guard_keeps {w : Nat} {s0 : State} {x0 : State} {x1 : ℕ} (hw : Has w 68719476736) (hx0 : State.Keeps w s0 x0) :
    State.Keeps w s0 (State.guard x0 x1) := by
  unfold State.guard
  refine State.Keeps.upd_nvm (s := x0) ?_ ?_ ?_ ?_ ?_ ?_
  · exact .inl (hw.bit rfl)
  · exact .inr rfl
  · exact .inr rfl
  · exact List.suffix_refl _
  · exact id
  · assumption

theorem State.checkpointW_keeps {w : Nat} {s0 : State} {x0 : State} {x1 : ℕ} {x2 : ℕ} {x3 : List Byte} {x4 : List Byte} (hw : Has w 208305913856) (hx0 : State.Keeps w s0 x0) :
    State.Keeps w s0 (State.checkpointW x0 x1 x2 x3 x4) := by
  unfold State.checkpointW
  extract_lets r ring page body v s1 s2 s3
  have h1 : State.Keeps w s0 s1 := State.Keeps.upd_rings_nvm (s := x0) (hw.bit rfl) (.inr fun n => Ring.resv_settings (fun g => (g.nextSeq + 2 ^ 20) % 2 ^ 32) _ n) (.inr fun n => Ring.resv_standing (fun g => (g.nextSeq + 2 ^ 20) % 2 ^ 32) _ n) (.inl (hw.bit rfl)) (.inr rfl) (.inr rfl) (List.suffix_refl _) id hx0
  have h2 : State.Keeps w s0 s2 := State.storeRecord_keeps (hw.mono rfl) h1
  exact State.archFlush_keeps (hw.mono rfl) (State.Keeps.ite h2 (State.guard_keeps (hw.mono rfl) h2))

theorem State.checkpoint_keeps {w : Nat} {s0 : State} {x0 : State} {x1 : ℕ} (hw : Has w 208305913856) (hx0 : State.Keeps w s0 x0) :
    State.Keeps w s0 (State.checkpoint x0 x1) := by
  unfold State.checkpoint
  refine State.checkpointW_keeps (hw.mono rfl) ?_
  assumption

theorem State.storeWrites_keeps {w : Nat} {s0 : State} {x0 : State} (hw : Has w 23139201599660922832362926871880590163968) (hx0 : State.Keeps w s0 x0) :
    State.Keeps w s0 (State.storeWrites x0) := by
  unfold State.storeWrites
  extract_lets -merge -useContext +onlyGivenNames v1
  clear_value v1
  extract_lets -merge -useContext +onlyGivenNames v3
  clear_value v3
  extract_lets -merge -useContext +onlyGivenNames y5
  have h6 : State.Keeps w s0 y5 := by
    unfold y5
    refine State.Keeps.foldlMem ?_ ?_
    · assumption
    · intro a10 a11 a12 a13
      refine State.snapMissing_keeps (hw.mono rfl) ?_
      refine State.snapMissing_keeps (hw.mono rfl) ?_
      assumption
  clear_value y5
  refine State.checkpoint_keeps (hw.mono rfl) ?_
  assumption

theorem State.startTests_keeps {w : Nat} {s0 : State} {x0 : State} (hw : Has w 155951430730287163671445504) (hx0 : State.Keeps w s0 x0) :
    State.Keeps w s0 (State.startTests x0) := by
  unfold State.startTests
  extract_lets -merge -useContext +onlyGivenNames v1
  clear_value v1
  extract_lets -merge -useContext +onlyGivenNames v3
  clear_value v3
  extract_lets -merge -useContext +onlyGivenNames y5
  have h6 : State.Keeps w s0 y5 := by
    unfold y5
    refine State.Keeps.upd_chk (s := x0) ?_ ?_
    · exact hw.bit rfl
    · assumption
  clear_value y5
  refine State.sfs_keeps ?_ ?_
  · refine ⟨?_, ?_⟩
    · dsimp only
      exact hw.reg (by omega) (RegGroup.afeChk_at (by omega) (by omega)) rfl
    · refine ⟨?_, ?_⟩
      · dsimp only
        exact hw.reg (by omega) (RegGroup.sarCal_at (by omega) (by omega)) rfl
      · exact trivial
  · refine State.setSar_keeps (hw.mono rfl) ?_
    assumption

theorem State.afterLoad_keeps {w : Nat} {s0 : State} {x0 : State} {x1 : Loaded} (hw : Has w 229786901664861140828375475227231659372801819137) (hx0 : State.Keeps w s0 x0) :
    State.Keeps w s0 (State.afterLoad x0 x1) := by
  unfold State.afterLoad
  extract_lets -merge -useContext +onlyGivenNames y1
  have h2 : State.Keeps w s0 y1 := by
    unfold y1
    refine State.timeLoad_keeps (hw.mono rfl) ?_
    refine State.ringSeries_keeps (hw.mono rfl) ?_
    assumption
  clear_value y1
  extract_lets -merge -useContext +onlyGivenNames v7
  extract_lets -merge -useContext +onlyGivenNames v9
  extract_lets -merge -useContext +onlyGivenNames y11
  extract_lets -merge -useContext +onlyGivenNames y13
  have h14 : State.Keeps w s0 y13 := by
    unfold y13
    refine State.Keeps.upd_rst_link_ket (s := y1) ?_ ?_ ?_ ?_ ?_ ?_ ?_
    · exact hw.bit rfl
    · exact .inr rfl
    · exact .inl (hw.bit rfl)
    · exact .inl (hw.bit rfl)
    · exact .inl (hw.bit rfl)
    · exact .inr (Nat.le_refl _)
    · assumption
  clear_value y13
  extract_lets -merge -useContext +onlyGivenNames y24
  have h25 : State.Keeps w s0 y24 := by
    unfold y24
    refine State.storeWrites_keeps (hw.mono rfl) ?_
    refine State.s64_keeps ?_ ?_ ?_
    · exact hw.reg (by omega) (RegGroup.nvm_at (by omega) (by omega)) rfl
    · exact hw.reg (by omega) (RegGroup.nvm_at (by omega) (by omega)) rfl
    · assumption
  clear_value y24
  extract_lets -merge -useContext +onlyGivenNames y32
  have h33 : State.Keeps w s0 y32 := by
    unfold y32
    refine State.Keeps.upd_slc (s := y24) ?_ ?_
    · exact hw.bit rfl
    · assumption
  clear_value y32
  refine State.ketCopy_keeps (hw.mono rfl) ?_
  refine State.startTests_keeps (hw.mono rfl) ?_
  assumption

theorem State.startSign_keeps {w : Nat} {s0 : State} {x0 : State} (hw : Has w 551903297536) (hx0 : State.Keeps w s0 x0) :
    State.Keeps w s0 (State.startSign x0) := by
  unfold State.startSign
  split
  · rename_i n c l h1 h2
    by_cases hc : (x0.time.coreStop || x0.wedged 8 || decide (x0.sec.mres ≤ x0.sec.mcount) || !x0.forms) = true
    · rw [if_pos hc]
      exact hx0
    · rw [if_neg hc]
      have hr : x0.sec.mcount < x0.sec.mres := by
        simp only [Bool.or_eq_true, decide_eq_true_eq, not_or, Nat.not_le] at hc
        exact hc.1.2
      split
      · exact State.setRing_keeps (hw.bit rfl) (.inr fun _ => rfl) (.inr fun _ => rfl) (State.Keeps.beginSeal (hw.bit rfl) hr hx0)
      · exact State.Keeps.upd_sec (s := x0) (.inl (hw.bit rfl)) (.inr rfl) (.inr rfl) (.inr rfl) (.inr rfl) (.inr rfl) id id (fun _ a b => ⟨a, b⟩) (fun a => ⟨Nat.le_refl _, a⟩) hx0
  · exact hx0

theorem State.makeDue_keeps {w : Nat} {s0 : State} {x0 : State} {x1 : Fin 64} {x2 : ℕ} (hw : Has w 551903297536) (hx0 : State.Keeps w s0 x0) :
    State.Keeps w s0 (State.makeDue x0 x1 x2) := by
  unfold State.makeDue
  refine State.Keeps.ite ?_ ?_
  · refine State.startSign_keeps (hw.mono rfl) ?_
    refine State.Keeps.upd_sec (s := x0) ?_ ?_ ?_ ?_ ?_ ?_ ?_ ?_ ?_ ?_ ?_
    · exact .inl (hw.bit rfl)
    · exact .inr rfl
    · exact .inr rfl
    · exact .inr rfl
    · exact .inr rfl
    · exact .inr rfl
    · exact id
    · exact id
    · exact fun _ h h' => ⟨h, h'⟩
    · exact fun h => ⟨Nat.le_refl _, h⟩
    · assumption
  · assumption

theorem State.mboxData_keeps {w : Nat} {s0 : State} {x0 : State} {x1 : List Byte} (hw : Has w 5575186299632655785383929568162090376495104) (hx0 : State.Keeps w s0 x0) :
    State.Keeps w s0 (State.mboxData x0 x1) := by
  unfold State.mboxData
  refine State.Keeps.foldlMem ?_ ?_
  · assumption
  · intro a2 a3 a4 a5
    have a6 := List.mem_range.1 a4
    refine State.Keeps.ite ?_ ?_
    · refine State.sf_keeps ?_ ?_
      · exact hw.reg (by omega) (RegGroup.mbox_at (by omega) (by omega)) rfl
      · assumption
    · assumption

theorem State.tryCpl_keeps {w : Nat} {s0 : State} {x0 : State} (hw : Has w 5923725830863410146254800139440628933067744) (hx0 : State.Keeps w s0 x0) :
    State.Keeps w s0 (State.tryCpl x0) := by
  unfold State.tryCpl
  split
  · rename_i b1 e2
    assumption
  · rename_i b4 b5 e6
    refine State.Keeps.ite ?_ ?_
    · assumption
    · extract_lets -merge -useContext +onlyGivenNames y10
      clear_value y10
      extract_lets -merge -useContext +onlyGivenNames y12
      have h13 : State.Keeps w s0 y12 := by
        unfold y12
        refine State.Keeps.upd_cmd (s := x0) ?_ ?_
        · exact hw.bit rfl
        · assumption
      clear_value y12
      extract_lets -merge -useContext +onlyGivenNames y18
      have h19 : State.Keeps w s0 y18 := by
        unfold y18
        refine State.Keeps.ite ?_ ?_
        · refine State.sf_keeps ?_ ?_
          · exact hw.reg (by omega) (RegGroup.aggStat_at (by omega) (by omega)) rfl
          · assumption
        · assumption
      clear_value y18
      split
      · rename_i b26 e27
        refine State.emit_keeps (hw.mono rfl) ?_
        assumption
      · rename_i b30 b31 b32 b33 e34
        refine State.raise_keeps (hw.mono rfl) ?_ ?_
        · refine State.sfs_keeps ?_ ?_
          · refine ⟨?_, ?_⟩
            · dsimp only
              exact hw.reg (by omega) (RegGroup.mbox_at (by omega) (by omega)) rfl
            · refine ⟨?_, ?_⟩
              · dsimp only
                exact hw.reg (by omega) (RegGroup.mbox_at (by omega) (by omega)) rfl
              · refine ⟨?_, ?_⟩
                · dsimp only
                  exact hw.reg (by omega) (RegGroup.mbox_at (by omega) (by omega)) rfl
                · refine ⟨?_, ?_⟩
                  · dsimp only
                    exact hw.reg (by omega) (RegGroup.mbox_at (by omega) (by omega)) rfl
                  · exact trivial
          · refine State.mboxData_keeps (hw.mono rfl) ?_
            assumption
        · exact .inl (by omega)

theorem State.afterVisible_keeps {w : Nat} {s0 : State} {x0 : State} {x1 : Fin 64} (hw : Has w 5923725830863410146254800139441178688881632) (hx0 : State.Keeps w s0 x0) :
    State.Keeps w s0 (State.afterVisible x0 x1) := by
  unfold State.afterVisible
  extract_lets -merge -useContext +onlyGivenNames v1
  clear_value v1
  extract_lets -merge -useContext +onlyGivenNames y3
  have h4 : State.Keeps w s0 y3 := by
    unfold y3
    refine State.Keeps.ite ?_ ?_
    · refine State.makeDue_keeps (hw.mono rfl) ?_
      assumption
    · assumption
  clear_value y3
  extract_lets -merge -useContext +onlyGivenNames y10
  extract_lets -merge -useContext +onlyGivenNames y12
  have h13 : State.Keeps w s0 y12 := by
    unfold y12
    split
    · rename_i b15 b16 e17
      refine State.Keeps.ite ?_ ?_
      · refine State.makeDue_keeps (hw.mono rfl) ?_
        refine State.Keeps.upd_sec (s := y3) ?_ ?_ ?_ ?_ ?_ ?_ ?_ ?_ ?_ ?_ ?_
        · exact .inl (hw.bit rfl)
        · exact .inr rfl
        · exact .inr rfl
        · exact .inr rfl
        · exact .inr rfl
        · exact .inr rfl
        · exact id
        · exact id
        · exact fun _ h h' => ⟨h, h'⟩
        · exact fun h => ⟨Nat.le_refl _, h⟩
        · assumption
      · assumption
    · rename_i b33 e34
      assumption
  clear_value y12
  extract_lets -merge -useContext +onlyGivenNames y37
  have h38 : State.Keeps w s0 y37 := by
    unfold y37
    split
    · rename_i b40 b41 e42
      refine State.Keeps.foldl ?_ ?_
      · assumption
      · intro a46 a47 a48
        split
        · rename_i e50
          refine State.makeDue_keeps (hw.mono rfl) ?_
          assumption
        · rename_i e53
          assumption
    · rename_i b55 e56
      assumption
  clear_value y37
  refine State.tryCpl_keeps (hw.mono rfl) ?_
  assumption

theorem State.release_keeps {w : Nat} {s0 : State} {x0 : State} (hw : Has w 348539531230754360870870571278332398141952) (hx0 : State.Keeps w s0 x0) :
    State.Keeps w s0 (State.release x0) := by
  unfold State.release
  refine State.Keeps.foldl ?_ ?_
  · assumption
  · intro a3 a4 a5
    refine State.releaseGo_keeps (hw.mono rfl) ?_
    assumption

theorem State.dropTicks_keeps {w : Nat} {s0 : State} {x0 : State} {x1 : Fin 2} {x2 : ℕ} (hw : Has w 562949953421312) (hx0 : State.Keeps w s0 x0) :
    State.Keeps w s0 (State.dropTicks x0 x1 x2) := by
  unfold State.dropTicks
  extract_lets -merge -useContext +onlyGivenNames v1
  clear_value v1
  extract_lets -merge -useContext +onlyGivenNames v3
  clear_value v3
  refine State.setGrp_keeps ?_ ?_ ?_ ?_
  · exact hw.bit rfl
  · exact .inr fun _ => rfl
  · exact .inr fun _ => rfl
  · assumption

theorem State.prune_keeps {w : Nat} {s0 : State} {x0 : State} {x1 : Fin 2} (hw : Has w 562949953421312) (hx0 : State.Keeps w s0 x0) :
    State.Keeps w s0 (State.prune x0 x1) := by
  unfold State.prune
  extract_lets -merge -useContext +onlyGivenNames v1
  clear_value v1
  extract_lets -merge -useContext +onlyGivenNames v3
  clear_value v3
  extract_lets -merge -useContext +onlyGivenNames v5
  clear_value v5
  extract_lets -merge -useContext +onlyGivenNames v7
  clear_value v7
  refine State.setGrp_keeps ?_ ?_ ?_ ?_
  · exact hw.bit rfl
  · exact .inr fun _ => rfl
  · exact .inr fun _ => rfl
  · refine State.dropTicks_keeps (hw.mono rfl) ?_
    assumption

theorem State.setOpen_keeps {w : Nat} {s0 : State} {x0 : State} {x1 : ℕ} {x2 : ℕ} {x3 : ℕ} {x4 : Option DevTime} (hw : Has w 2048) (hx0 : State.Keeps w s0 x0) :
    State.Keeps w s0 (State.setOpen x0 x1 x2 x3 x4) := by
  unfold State.setOpen
  refine State.Keeps.upd_openT (s := x0) ?_ ?_
  · exact hw.bit rfl
  · assumption

theorem State.aggOpen_keeps {w : Nat} {s0 : State} {x0 : State} {x1 : Fin 2} (hw : Has w 2048) (hx0 : State.Keeps w s0 x0) :
    State.Keeps w s0 (State.aggOpen x0 x1) := by
  unfold State.aggOpen
  extract_lets -merge -useContext +onlyGivenNames v1
  clear_value v1
  extract_lets -merge -useContext +onlyGivenNames v3
  clear_value v3
  extract_lets -merge -useContext +onlyGivenNames v5
  clear_value v5
  extract_lets -merge -useContext +onlyGivenNames v7
  clear_value v7
  extract_lets -merge -useContext +onlyGivenNames y9
  have h10 : State.Keeps w s0 y9 := by
    unfold y9
    refine State.setOpen_keeps (hw.mono rfl) ?_
    assumption
  clear_value y9
  extract_lets -merge -useContext +onlyGivenNames v14
  have h15 : ∀ t0 t1, State.Keeps w s0 t0 → State.Keeps w s0 (v14 t0 t1) := by
    intro a16 a17 a18
    unfold v14
    extract_lets -merge -useContext +onlyGivenNames v20
    clear_value v20
    extract_lets -merge -useContext +onlyGivenNames v22
    clear_value v22
    refine State.setOpen_keeps (hw.mono rfl) ?_
    assumption
  clear_value v14
  apply_assumption
  apply_assumption
  apply_assumption
  assumption

theorem State.setLvl_keeps {w : Nat} {s0 : State} {x0 : State} {x1 : Fin 2} {x2 : Fin 3} {x3 : Lvl → Lvl} (hw : Has w 562949953421312) (hx0 : State.Keeps w s0 x0) :
    State.Keeps w s0 (State.setLvl x0 x1 x2 x3) := by
  unfold State.setLvl
  refine State.setGrp_keeps ?_ ?_ ?_ ?_
  · exact hw.bit rfl
  · exact .inr fun _ => rfl
  · exact .inr fun _ => rfl
  · assumption

theorem State.lvlAdd_keeps {w : Nat} {s0 : State} {x0 : State} {x1 : Fin 2} {x2 : Fin 3} {x3 : Part} (hw : Has w 562949953421312) (hx0 : State.Keeps w s0 x0) :
    State.Keeps w s0 (State.lvlAdd x0 x1 x2 x3) := by
  unfold State.lvlAdd
  refine State.setLvl_keeps (hw.mono rfl) ?_
  assumption

theorem State.lvlClose_keeps {w : Nat} {s0 : State} {x0 : State} {x1 : Fin 2} {x2 : Fin 3} {x3 : DevTime} {x4 : ℕ} {x5 : List (Option ℚ)} {x6 : List ℕ} (hw : Has w 348539531230754360870870571841488509993824) (hx0 : State.Keeps w s0 x0) :
    State.Keeps w s0 (State.lvlClose x0 x1 x2 x3 x4 x5 x6) := by
  unfold State.lvlClose
  extract_lets -merge -useContext +onlyGivenNames v1
  clear_value v1
  extract_lets -merge -useContext +onlyGivenNames v3
  clear_value v3
  extract_lets -merge -useContext +onlyGivenNames v5
  clear_value v5
  extract_lets -merge -useContext +onlyGivenNames v7
  clear_value v7
  extract_lets -merge -useContext +onlyGivenNames v9
  clear_value v9
  extract_lets -merge -useContext +onlyGivenNames v11
  clear_value v11
  extract_lets -merge -useContext +onlyGivenNames v13
  clear_value v13
  extract_lets -merge -useContext +onlyGivenNames v15
  clear_value v15
  extract_lets -merge -useContext +onlyGivenNames y17
  have h18 : State.Keeps w s0 y17 := by
    unfold y17
    refine State.setLvl_keeps (hw.mono rfl) ?_
    assumption
  clear_value y17
  refine State.emitL_keeps (hw.mono rfl) ?_
  assumption

theorem State.tenClose_keeps {w : Nat} {s0 : State} {x0 : State} {x1 : Fin 2} {x2 : DevTime} {x3 : ℕ} (hw : Has w 348539531230754360870870571841488509993824) (hx0 : State.Keeps w s0 x0) :
    State.Keeps w s0 (State.tenClose x0 x1 x2 x3) := by
  unfold State.tenClose
  extract_lets -merge -useContext +onlyGivenNames v1
  clear_value v1
  refine State.Keeps.ite ?_ ?_
  · assumption
  · extract_lets -merge -useContext +onlyGivenNames v5
    clear_value v5
    extract_lets -merge -useContext +onlyGivenNames y7
    have h8 : State.Keeps w s0 y7 := by
      unfold y7
      refine State.setGrp_keeps ?_ ?_ ?_ ?_
      · exact hw.bit rfl
      · exact .inr fun _ => rfl
      · exact .inr fun _ => rfl
      · assumption
    clear_value y7
    extract_lets -merge -useContext +onlyGivenNames v15
    clear_value v15
    extract_lets -merge -useContext +onlyGivenNames y17
    have h18 : State.Keeps w s0 y17 := by
      unfold y17
      refine State.lvlClose_keeps (hw.mono rfl) ?_
      assumption
    clear_value y17
    extract_lets -merge -useContext +onlyGivenNames y22
    have h23 : State.Keeps w s0 y22 := by
      unfold y22
      refine State.lvlAdd_keeps (hw.mono rfl) ?_
      assumption
    clear_value y22
    refine State.setLvl_keeps (hw.mono rfl) ?_
    assumption

theorem State.shortClose_keeps {w : Nat} {s0 : State} {x0 : State} {x1 : Fin 2} {x2 : DevTime} {x3 : ℕ} (hw : Has w 348539531230754360870870571841488509993824) (hx0 : State.Keeps w s0 x0) :
    State.Keeps w s0 (State.shortClose x0 x1 x2 x3) := by
  unfold State.shortClose
  refine State.Keeps.ite ?_ ?_
  · refine State.lvlClose_keeps (hw.mono rfl) ?_
    assumption
  · assumption

theorem State.twoClose_keeps {w : Nat} {s0 : State} {x0 : State} {x1 : Fin 2} {x2 : DevTime} {x3 : ℕ} (hw : Has w 348539531230754360870870571841488509993824) (hx0 : State.Keeps w s0 x0) :
    State.Keeps w s0 (State.twoClose x0 x1 x2 x3) := by
  unfold State.twoClose
  extract_lets -merge -useContext +onlyGivenNames v1
  clear_value v1
  refine State.Keeps.ite ?_ ?_
  · assumption
  · extract_lets -merge -useContext +onlyGivenNames v5
    clear_value v5
    extract_lets -merge -useContext +onlyGivenNames v7
    clear_value v7
    extract_lets -merge -useContext +onlyGivenNames v9
    clear_value v9
    extract_lets -merge -useContext +onlyGivenNames y11
    have h12 : State.Keeps w s0 y11 := by
      unfold y11
      refine State.setLvl_keeps (hw.mono rfl) ?_
      assumption
    clear_value y11
    refine State.lvlClose_keeps (hw.mono rfl) ?_
    assumption

theorem State.aggTake_keeps {w : Nat} {s0 : State} {x0 : State} {x1 : Fin 2} {x2 : WinDone} {x3 : Civ} {x4 : List (ℕ × ℚ)} (hw : Has w 348539531230754360870870571841488509993824) (hx0 : State.Keeps w s0 x0) :
    State.Keeps w s0 (State.aggTake x0 x1 x2 x3 x4) := by
  unfold State.aggTake
  refine State.Keeps.ite ?_ ?_
  · assumption
  · extract_lets -merge -useContext +onlyGivenNames v3
    clear_value v3
    extract_lets -merge -useContext +onlyGivenNames y5
    have h6 : State.Keeps w s0 y5 := by
      unfold y5
      refine State.lvlAdd_keeps (hw.mono rfl) ?_
      refine State.lvlAdd_keeps (hw.mono rfl) ?_
      assumption
    clear_value y5
    split
    · rename_i b11 b12 e13
      extract_lets -merge -useContext +onlyGivenNames y15
      have h16 : State.Keeps w s0 y15 := by
        unfold y15
        refine State.tenClose_keeps (hw.mono rfl) ?_
        refine State.shortClose_keeps (hw.mono rfl) ?_
        assumption
      clear_value y15
      refine State.Keeps.ite ?_ ?_
      · refine State.twoClose_keeps (hw.mono rfl) ?_
        assumption
      · assumption
    · rename_i b24 e25
      refine State.Keeps.ite ?_ ?_
      · refine State.shortClose_keeps (hw.mono rfl) ?_
        assumption
      · assumption

theorem State.aggFeedGo_keeps {w : Nat} {s0 : State} {x0 : Fin 2} {x1 : ℕ} {x2 : State} (hw : Has w 348539531230754360870870571841488509993824) (hx2 : State.Keeps w s0 x2) :
    State.Keeps w s0 (State.aggFeedGo x0 x1 x2) := by
  induction x1 generalizing x0 x2
  · unfold State.aggFeedGo
    assumption
  · rename_i n ih
    unfold State.aggFeedGo
    split
    · rename_i b2 b3 b4 e5
      split
      · rename_i b7 b8 b9 b10 e11 e12
        apply ih
        refine State.aggTake_keeps (hw.mono rfl) ?_
        refine State.setGrp_keeps ?_ ?_ ?_ ?_
        · exact hw.bit rfl
        · exact .inr fun _ => rfl
        · exact .inr fun _ => rfl
        · assumption
      · rename_i b20 b21 e22
        assumption
    · rename_i b24 e25
      assumption

theorem State.aggFeed_keeps {w : Nat} {s0 : State} {x0 : State} {x1 : Fin 2} (hw : Has w 348539531230754360870870571841488509995872) (hx0 : State.Keeps w s0 x0) :
    State.Keeps w s0 (State.aggFeed x0 x1) := by
  unfold State.aggFeed
  refine State.release_keeps (hw.mono rfl) ?_
  refine State.prune_keeps (hw.mono rfl) ?_
  refine State.aggOpen_keeps (hw.mono rfl) ?_
  refine State.aggFeedGo_keeps (hw.mono rfl) ?_
  assumption

theorem State.anchorEmit_keeps {w : Nat} {s0 : State} {x0 : State} {x1 : Rec} (hw : Has w 348539531230754360870870571278538556572512) (hx0 : State.Keeps w s0 x0) :
    State.Keeps w s0 (State.anchorEmit x0 x1) := by
  unfold State.anchorEmit
  extract_lets -merge -useContext +onlyGivenNames v1
  clear_value v1
  extract_lets -merge -useContext +onlyGivenNames v3
  clear_value v3
  split
  · rename_i b5 b6 e7
    refine State.Keeps.ite ?_ ?_
    · extract_lets -merge -useContext +onlyGivenNames y10
      have h11 : State.Keeps w s0 y10 := by
        unfold y10
        refine State.setRing_keeps ?_ ?_ ?_ ?_
        · exact hw.bit rfl
        · exact .inr fun _ => rfl
        · exact .inr fun _ => rfl
        · assumption
      clear_value y10
      refine State.Keeps.upd_formed (s := y10) ?_ ?_
      · exact hw.bit rfl
      · assumption
    · refine State.emit_keeps (hw.mono rfl) ?_
      assumption
  · rename_i b22 e23
    refine State.Keeps.ite ?_ ?_
    · refine State.Keeps.upd_heldLog_formed (s := x0) ?_ ?_ ?_
      · exact hw.bit rfl
      · exact hw.bit rfl
      · assumption
    · refine State.emit_keeps (hw.mono rfl) ?_
      assumption

theorem State.asenseApply_keeps {w : Nat} {s0 : State} {x0 : State} {x1 : ℕ} (hw : Has w 730750818665451459101842416358141509827966271488) (hx0 : State.Keeps w s0 x0) :
    State.Keeps w s0 (State.asenseApply x0 x1) := by
  unfold State.asenseApply
  refine State.Keeps.ite ?_ ?_
  · assumption
  · refine State.sfs_keeps ?_ ?_
    · refine ⟨?_, ?_⟩
      · dsimp only
        exact hw.reg (by omega) (RegGroup.ketAsense_at (by omega) (by omega)) rfl
      · refine ⟨?_, ?_⟩
        · dsimp only
          exact hw.reg (by omega) (RegGroup.ketAsense_at (by omega) (by omega)) rfl
        · exact trivial
    · assumption

theorem State.supOff_keeps {w : Nat} {s0 : State} {x0 : State} {x1 : Fin 8} (hw : Has w 2097152) (hx0 : State.Keeps w s0 x0) :
    State.Keeps w s0 (State.supOff x0 x1) := by
  unfold State.supOff
  refine State.Keeps.upd_supraOn (s := x0) ?_ ?_
  · exact hw.bit rfl
  · assumption

theorem State.supEnable_keeps {w : Nat} {s0 : State} {x0 : State} {x1 : Fin 8} (hw : Has w 10384593717069655257060992794755072) (hx0 : State.Keeps w s0 x0) :
    State.Keeps w s0 (State.supEnable x0 x1) := by
  unfold State.supEnable
  extract_lets -merge -useContext +onlyGivenNames y1
  have h2 : State.Keeps w s0 y1 := by
    unfold y1
    refine State.setTs_keeps (hw.mono rfl) ?_
    assumption
  clear_value y1
  extract_lets -merge -useContext +onlyGivenNames y6
  have h7 : State.Keeps w s0 y6 := by
    unfold y6
    refine State.supOff_keeps (hw.mono rfl) ?_
    assumption
  clear_value y6
  refine State.Keeps.ite ?_ ?_
  · refine State.setTs_keeps (hw.mono rfl) ?_
    assumption
  · refine State.Keeps.ite ?_ ?_
    · refine State.Keeps.upd_supraOn (s := y6) ?_ ?_
      · exact hw.bit rfl
      · assumption
    · refine State.sf_keeps ?_ ?_
      · exact hw.reg (by omega) (RegGroup.specErr_at (by omega) (by omega)) rfl
      · refine State.setTs_keeps (hw.mono rfl) ?_
        assumption

theorem State.tsApply_keeps {w : Nat} {s0 : State} {x0 : State} {x1 : Fin 8} (hw : Has w 10384594645524684721096198969098240) (hx0 : State.Keeps w s0 x0) :
    State.Keeps w s0 (State.tsApply x0 x1) := by
  unfold State.tsApply
  refine State.Keeps.ite ?_ ?_
  · extract_lets -merge -useContext +onlyGivenNames y2
    have h3 : State.Keeps w s0 y2 := by
      unfold y2
      refine State.smbit_keeps ?_ ?_
      · exact hw.reg (by omega) (RegGroup.tsarCtrl_at (by omega) (by omega)) rfl
      · assumption
    clear_value y2
    refine State.Keeps.ite ?_ ?_
    · assumption
    · refine State.supEnable_keeps (hw.mono rfl) ?_
      assumption
  · refine State.smbit_keeps ?_ ?_
    · exact hw.reg (by omega) (RegGroup.tsarErr_at (by omega) (by omega)) rfl
    · refine State.smbit_keeps ?_ ?_
      · exact hw.reg (by omega) (RegGroup.tsarCtrl_at (by omega) (by omega)) rfl
      · assumption

theorem State.tsEnable_keeps {w : Nat} {s0 : State} {x0 : State} {x1 : ℕ} (hw : Has w 10384594645524684721096198969098240) (hx0 : State.Keeps w s0 x0) :
    State.Keeps w s0 (State.tsEnable x0 x1) := by
  unfold State.tsEnable
  refine State.Keeps.foldl ?_ ?_
  · assumption
  · intro a3 a4 a5
    refine State.Keeps.ite ?_ ?_
    · assumption
    · refine State.Keeps.ite ?_ ?_
      · refine State.setSar_keeps (hw.mono rfl) ?_
        refine State.smbit_keeps ?_ ?_
        · exact hw.reg (by omega) (RegGroup.tsarCtrl_at (by omega) (by omega)) rfl
        · assumption
      · refine State.tsApply_keeps (hw.mono rfl) ?_
        assumption

theorem State.meterStart_keeps {w : Nat} {s0 : State} {x0 : State} {x1 : Fin 2} (hw : Has w 5192296858534827629093446282641408) (hx0 : State.Keeps w s0 x0) :
    State.Keeps w s0 (State.meterStart x0 x1) := by
  unfold State.meterStart
  extract_lets -merge -useContext +onlyGivenNames v1
  clear_value v1
  refine State.sfs_keeps ?_ ?_
  · refine ⟨?_, ?_⟩
    · dsimp only
      exact hw.reg (by omega) (RegGroup.specStat_at (by omega) (by omega)) rfl
    · refine ⟨?_, ?_⟩
      · dsimp only
        exact hw.reg (by omega) (RegGroup.specStat_at (by omega) (by omega)) rfl
      · exact trivial
  · refine State.setGrp_keeps ?_ ?_ ?_ ?_
    · exact hw.bit rfl
    · exact .inr fun _ => rfl
    · exact .inr fun _ => rfl
    · assumption

theorem State.specStart_keeps {w : Nat} {s0 : State} {x0 : State} {x1 : Fin 2} (hw : Has w 15576890575604482886154438941081600) (hx0 : State.Keeps w s0 x0) :
    State.Keeps w s0 (State.specStart x0 x1) := by
  unfold State.specStart
  extract_lets -merge -useContext +onlyGivenNames y1
  have h2 : State.Keeps w s0 y1 := by
    unfold y1
    refine State.setGrp_keeps ?_ ?_ ?_ ?_
    · exact hw.bit rfl
    · exact .inr fun _ => rfl
    · exact .inr fun _ => rfl
    · assumption
  clear_value y1
  extract_lets -merge -useContext +onlyGivenNames y9
  have h10 : State.Keeps w s0 y9 := by
    unfold y9
    refine State.sfs_keeps ?_ ?_
    · refine ⟨?_, ?_⟩
      · dsimp only
        exact hw.reg (by omega) (RegGroup.specStat_at (by omega) (by omega)) rfl
      · refine ⟨?_, ?_⟩
        · dsimp only
          exact hw.reg (by omega) (RegGroup.specStat_at (by omega) (by omega)) rfl
        · refine ⟨?_, ?_⟩
          · dsimp only
            exact hw.reg (by omega) (RegGroup.specStat_at (by omega) (by omega)) rfl
          · refine ⟨?_, ?_⟩
            · dsimp only
              exact hw.reg (by omega) (RegGroup.specStat_at (by omega) (by omega)) rfl
            · exact trivial
    · assumption
  clear_value y9
  refine State.Keeps.ite ?_ ?_
  · assumption
  · refine State.Keeps.ite ?_ ?_
    · refine State.meterStart_keeps (hw.mono rfl) ?_
      refine State.sf_keeps ?_ ?_
      · exact hw.reg (by omega) (RegGroup.specStat_at (by omega) (by omega)) rfl
      · refine State.setGrp_keeps ?_ ?_ ?_ ?_
        · exact hw.bit rfl
        · exact .inr fun _ => rfl
        · exact .inr fun _ => rfl
        · assumption
    · refine State.sf_keeps ?_ ?_
      · unfold nobank
        refine regOk.ite ?_ ?_
        · exact hw.reg (by omega) (RegGroup.specErr_at (by omega) (by omega)) rfl
        · exact hw.reg (by omega) (RegGroup.specErr_at (by omega) (by omega)) rfl
      · refine State.setGrp_keeps ?_ ?_ ?_ ?_
        · exact hw.bit rfl
        · exact .inr fun _ => rfl
        · exact .inr fun _ => rfl
        · assumption

theorem State.bilSample_keeps {w : Nat} {s0 : State} {x0 : State} {x1 : Fin 2} (hw : Has w 4194304) (hx0 : State.Keeps w s0 x0) :
    State.Keeps w s0 (State.bilSample x0 x1) := by
  unfold State.bilSample
  refine State.setBil_keeps (hw.mono rfl) ?_
  assumption

theorem State.setEv_keeps {w : Nat} {s0 : State} {x0 : State} {x1 : Fin 2} {x2 : Evs → Evs} (hw : Has w 562949953421312) (hx0 : State.Keeps w s0 x0) :
    State.Keeps w s0 (State.setEv x0 x1 x2) := by
  unfold State.setEv
  refine State.setGrp_keeps ?_ ?_ ?_ ?_
  · exact hw.bit rfl
  · exact .inr fun _ => rfl
  · exact .inr fun _ => rfl
  · assumption

theorem State.evStart_keeps {w : Nat} {s0 : State} {x0 : State} {x1 : Fin 2} (hw : Has w 348539697384253833985354684817371045036896) (hx0 : State.Keeps w s0 x0) :
    State.Keeps w s0 (State.evStart x0 x1) := by
  unfold State.evStart
  extract_lets -merge -useContext +onlyGivenNames v1
  clear_value v1
  extract_lets -merge -useContext +onlyGivenNames v3
  clear_value v3
  extract_lets -merge -useContext +onlyGivenNames v5
  clear_value v5
  extract_lets -merge -useContext +onlyGivenNames v7
  clear_value v7
  extract_lets -merge -useContext +onlyGivenNames v9
  clear_value v9
  extract_lets -merge -useContext +onlyGivenNames v11
  clear_value v11
  extract_lets -merge -useContext +onlyGivenNames v13
  clear_value v13
  extract_lets -merge -useContext +onlyGivenNames v15
  clear_value v15
  extract_lets -merge -useContext +onlyGivenNames y17
  have h18 : State.Keeps w s0 y17 := by
    unfold y17
    refine State.setEv_keeps (hw.mono rfl) ?_
    assumption
  clear_value y17
  refine State.Keeps.ite ?_ ?_
  · assumption
  · refine State.log_keeps (hw.mono rfl) ?_
    refine State.sf_keeps ?_ ?_
    · exact hw.reg (by omega) (RegGroup.evtErr_at (by omega) (by omega)) rfl
    · assumption

theorem State.startOne_keeps {w : Nat} {s0 : State} {x0 : State} {x1 : Fin 2} (hw : Has w 351261971997923979822912760393100069700449) (hx0 : State.Keeps w s0 x0) :
    State.Keeps w s0 (State.startOne x0 x1).2 := by
  unfold State.startOne
  extract_lets -merge -useContext +onlyGivenNames v1
  clear_value v1
  refine State.Keeps.iteSnd ?_ ?_
  · assumption
  · extract_lets -merge -useContext +onlyGivenNames v5
    clear_value v5
    extract_lets -merge -useContext +onlyGivenNames v7
    clear_value v7
    extract_lets -merge -useContext +onlyGivenNames v9
    clear_value v9
    extract_lets -merge -useContext +onlyGivenNames v11
    clear_value v11
    extract_lets -merge -useContext +onlyGivenNames v13
    clear_value v13
    extract_lets -merge -useContext +onlyGivenNames v15
    clear_value v15
    extract_lets -merge -useContext +onlyGivenNames y17
    have h18 : State.Keeps w s0 y17 := by
      unfold y17
      refine State.Keeps.ite ?_ ?_
      · refine State.sf_keeps ?_ ?_
        · refine regOk.ite ?_ ?_
          · exact hw.reg (by omega) (RegGroup.profErr_at (by omega) (by omega)) rfl
          · exact hw.reg (by omega) (RegGroup.profErr_at (by omega) (by omega)) rfl
        · assumption
      · assumption
    clear_value y17
    extract_lets -merge -useContext +onlyGivenNames y27
    have h28 : State.Keeps w s0 y27 := by
      unfold y27
      refine State.Keeps.ite ?_ ?_
      · refine State.sf_keeps ?_ ?_
        · refine regOk.ite ?_ ?_
          · exact hw.reg (by omega) (RegGroup.profErr_at (by omega) (by omega)) rfl
          · exact hw.reg (by omega) (RegGroup.profErr_at (by omega) (by omega)) rfl
        · assumption
      · assumption
    clear_value y27
    extract_lets -merge -useContext +onlyGivenNames y37
    have h38 : State.Keeps w s0 y37 := by
      unfold y37
      refine State.Keeps.ite ?_ ?_
      · refine State.sf_keeps ?_ ?_
        · exact hw.reg (by omega) (RegGroup.freq_at (by omega) (by omega)) rfl
        · assumption
      · assumption
    clear_value y37
    extract_lets -merge -useContext +onlyGivenNames y45
    have h46 : State.Keeps w s0 y45 := by
      unfold y45
      refine State.Keeps.ite ?_ ?_
      · refine State.sf_keeps ?_ ?_
        · exact hw.reg (by omega) (RegGroup.bilErr_at (by omega) (by omega)) rfl
        · assumption
      · assumption
    clear_value y45
    refine State.Keeps.iteSnd ?_ ?_
    · assumption
    · extract_lets -merge -useContext +onlyGivenNames y55
      have h56 : State.Keeps w s0 y55 := by
        unfold y55
        refine State.setGrp_keeps ?_ ?_ ?_ ?_
        · exact hw.bit rfl
        · exact .inl (hw.bit rfl)
        · exact .inr fun _ => rfl
        · assumption
      clear_value y55
      extract_lets -merge -useContext +onlyGivenNames y63
      extract_lets -merge -useContext +onlyGivenNames y65
      have h66 : State.Keeps w s0 y65 := by
        unfold y65
        refine State.Keeps.upd_rst (s := y55) ?_ ?_ ?_
        · exact hw.bit rfl
        · exact .inr rfl
        · assumption
      clear_value y65
      extract_lets -merge -useContext +onlyGivenNames y72
      have h73 : State.Keeps w s0 y72 := by
        unfold y72
        refine State.Keeps.foldlMem ?_ ?_
        · assumption
        · intro a77 a78 a79 a80
          split
          · rename_i e82
            refine State.setChan_keeps ?_ ?_ ?_
            · exact hw.bit rfl
            · exact .inr fun _ => rfl
            · assumption
          · rename_i e87
            assumption
      clear_value y72
      extract_lets -merge -useContext +onlyGivenNames v90
      clear_value v90
      extract_lets -merge -useContext +onlyGivenNames y92
      have h93 : State.Keeps w s0 y92 := by
        unfold y92
        refine State.sfs_keeps ?_ ?_
        · refine ⟨?_, ?_⟩
          · dsimp only
            refine regOk.ite ?_ ?_
            · exact hw.reg (by omega) (RegGroup.profStat_at (by omega) (by omega)) rfl
            · exact hw.reg (by omega) (RegGroup.profStat_at (by omega) (by omega)) rfl
          · refine ⟨?_, ?_⟩
            · dsimp only
              refine regOk.ite ?_ ?_
              · exact hw.reg (by omega) (RegGroup.profStat_at (by omega) (by omega)) rfl
              · exact hw.reg (by omega) (RegGroup.profStat_at (by omega) (by omega)) rfl
            · exact trivial
        · assumption
      clear_value y92
      extract_lets -merge -useContext +onlyGivenNames y106
      have h107 : State.Keeps w s0 y106 := by
        unfold y106
        refine State.specStart_keeps (hw.mono rfl) ?_
        assumption
      clear_value y106
      refine State.Keeps.iteSnd ?_ ?_
      · assumption
      · extract_lets -merge -useContext +onlyGivenNames y113
        have h114 : State.Keeps w s0 y113 := by
          unfold y113
          refine State.sfs_keeps ?_ ?_
          · refine ⟨?_, ?_⟩
            · dsimp only
              exact hw.reg (by omega) (RegGroup.freq_at (by omega) (by omega)) rfl
            · refine ⟨?_, ?_⟩
              · dsimp only
                exact hw.reg (by omega) (RegGroup.freq_at (by omega) (by omega)) rfl
              · refine ⟨?_, ?_⟩
                · dsimp only
                  exact hw.reg (by omega) (RegGroup.freq_at (by omega) (by omega)) rfl
                · refine ⟨?_, ?_⟩
                  · dsimp only
                    exact hw.reg (by omega) (RegGroup.freq_at (by omega) (by omega)) rfl
                  · refine ⟨?_, ?_⟩
                    · dsimp only
                      exact hw.reg (by omega) (RegGroup.metStat_at (by omega) (by omega)) rfl
                    · exact trivial
          · assumption
        clear_value y113
        refine State.Keeps.pair ?_
        refine State.bilSample_keeps (hw.mono rfl) ?_
        refine State.evStart_keeps (hw.mono rfl) ?_
        assumption

theorem State.startGroups_keeps {w : Nat} {s0 : State} {x0 : State} {x1 : ℕ} (hw : Has w 351261971997923979822912760393100069700449) (hx0 : State.Keeps w s0 x0) :
    State.Keeps w s0 (State.startGroups x0 x1).2.2 := by
  unfold State.startGroups
  refine State.Keeps.foldlSnd2 ?_ ?_
  · assumption
  · intro a3 a4 a5
    refine State.Keeps.iteSnd2 ?_ ?_
    · assumption
    · split
      rename_i b9 b10 b11 e12
      have h13 : State.Keeps w s0 b11 := by
        refine State.Keeps.ofPair e12 ?_
        refine State.startOne_keeps (hw.mono rfl) ?_
        assumption
      refine State.Keeps.iteSnd2 ?_ ?_
      · assumption
      · assumption

theorem State.autostart_keeps {w : Nat} {s0 : State} {x0 : State} (hw : Has w 351261971997924908278016011404601218564961) (hx0 : State.Keeps w s0 x0) :
    State.Keeps w s0 (State.autostart x0) := by
  unfold State.autostart
  extract_lets -merge -useContext +onlyGivenNames v1
  clear_value v1
  extract_lets -merge -useContext +onlyGivenNames y3
  have h4 : State.Keeps w s0 y3 := by
    unfold y3
    refine State.sf_keeps ?_ ?_
    · exact hw.reg (by omega) (RegGroup.tsarCtrl_at (by omega) (by omega)) rfl
    · assumption
  clear_value y3
  extract_lets -merge -useContext +onlyGivenNames v9
  clear_value v9
  extract_lets -merge -useContext +onlyGivenNames y11
  have h12 : State.Keeps w s0 y11 := by
    unfold y11
    refine State.tsEnable_keeps (hw.mono rfl) ?_
    refine State.tsEnable_keeps (hw.mono rfl) ?_
    assumption
  clear_value y11
  extract_lets -merge -useContext +onlyGivenNames y17
  have h18 : State.Keeps w s0 y17 := by
    unfold y17
    refine State.sf_keeps ?_ ?_
    · exact hw.reg (by omega) (RegGroup.rst_at (by omega) (by omega)) rfl
    · assumption
  clear_value y17
  split
  rename_i b23 b24 b25 b26 e27
  have h28 : State.Keeps w s0 b26 := by
    refine State.Keeps.ofTriple e27 ?_
    refine State.startGroups_keeps (hw.mono rfl) ?_
    assumption
  refine State.sfs_keeps ?_ ?_
  · refine ⟨?_, ?_⟩
    · dsimp only
      exact hw.reg (by omega) (RegGroup.rst_at (by omega) (by omega)) rfl
    · refine ⟨?_, ?_⟩
      · dsimp only
        exact hw.reg (by omega) (RegGroup.rst_at (by omega) (by omega)) rfl
      · exact trivial
  · assumption

theorem State.backupTamper_keeps {w : Nat} {s0 : State} {x0 : State} (hw : Has w 35184372088832) (hx0 : State.Keeps w s0 x0) :
    State.Keeps w s0 (State.backupTamper x0).2 := by
  unfold State.backupTamper
  extract_lets -merge -useContext +onlyGivenNames v1
  clear_value v1
  refine State.Keeps.pair ?_
  refine State.Keeps.upd_ket (s := x0) ?_ ?_ ?_
  · exact .inl (hw.bit rfl)
  · exact .inr (Nat.le_refl _)
  · assumption

theorem State.mtestDefer_keeps {w : Nat} {s0 : State} {x0 : State} {x1 : ℕ} (hw : Has w 178405961588244985132285746181186892047876096) (hx0 : State.Keeps w s0 x0) :
    State.Keeps w s0 (State.mtestDefer x0 x1) := by
  unfold State.mtestDefer
  refine State.Keeps.ite ?_ ?_
  · refine State.incSat_keeps ?_ ?_
    · exact hw.reg (by omega) (RegGroup.mtest_at (by omega) (by omega)) rfl
    · refine State.Keeps.upd_mtest (s := x0) ?_ ?_
      · exact hw.bit rfl
      · assumption
  · assumption

theorem State.missHeads_keeps {w : Nat} {s0 : State} {x0 : State} {x1 : ℕ} (hw : Has w 4096) (hx0 : State.Keeps w s0 x0) :
    State.Keeps w s0 (State.missHeads x0 x1) := by
  unfold State.missHeads
  refine State.Keeps.upd_fab (s := x0) ?_ ?_
  · exact hw.bit rfl
  · assumption

theorem State.bankBegin_keeps {w : Nat} {s0 : State} {x0 : State} {x1 : BankPend} (hw : Has w 178405961588244985132285746181186892047896576) (hx0 : State.Keeps w s0 x0) :
    State.Keeps w s0 (State.bankBegin x0 x1) := by
  unfold State.bankBegin
  refine State.mtestDefer_keeps (hw.mono rfl) ?_
  extract_lets -merge -useContext +onlyGivenNames y2
  have h3 : State.Keeps w s0 y2 := by
    unfold y2
    refine State.missHeads_keeps (hw.mono rfl) ?_
    assumption
  clear_value y2
  refine State.Keeps.upd_bankPend (s := y2) ?_ ?_
  · exact hw.bit rfl
  · assumption

theorem State.bankClear_keeps {w : Nat} {s0 : State} {x0 : State} {x1 : ℕ} (hw : Has w 8192) (hx0 : State.Keeps w s0 x0) :
    State.Keeps w s0 (State.bankClear x0 x1) := by
  unfold State.bankClear
  refine State.Keeps.upd_mem (s := x0) ?_ ?_ ?_
  · exact hw.bit rfl
  · exact SMap.wf_filter _ _ _
  · assumption

theorem State.errIf_keeps {w : Nat} {s0 : State} {x0 : State} {x1 : Fld} {x2 : Bool} (_hw : Has w 0) (hx0 : State.Keeps w s0 x0) (hx1 : regOk w x1) :
    State.Keeps w s0 (State.errIf x0 x1 x2) := by
  unfold State.errIf
  refine State.Keeps.ite ?_ ?_
  · refine State.sf_keeps ?_ ?_
    · assumption
    · assumption
  · assumption

theorem State.bankErrs_keeps {w : Nat} {s0 : State} {x0 : State} {x1 : Bool} {x2 : Bool} {x3 : Bool} {x4 : Bool} (hw : Has w 44601490397061246283071436545296723011960832) (hx0 : State.Keeps w s0 x0) :
    State.Keeps w s0 (State.bankErrs x0 x1 x2 x3 x4).2 := by
  unfold State.bankErrs
  refine State.Keeps.pair ?_
  refine State.errIf_keeps (hw.mono rfl) ?_ ?_
  · refine State.errIf_keeps (hw.mono rfl) ?_ ?_
    · refine State.errIf_keeps (hw.mono rfl) ?_ ?_
      · refine State.errIf_keeps (hw.mono rfl) ?_ ?_
        · assumption
        · exact hw.reg (by omega) (RegGroup.bankErr_at (by omega) (by omega)) rfl
      · exact hw.reg (by omega) (RegGroup.bankErr_at (by omega) (by omega)) rfl
    · exact hw.reg (by omega) (RegGroup.bankErr_at (by omega) (by omega)) rfl
  · exact hw.reg (by omega) (RegGroup.bankErr_at (by omega) (by omega)) rfl

theorem State.leave_keeps {w : Nat} {s0 : State} {x0 : State} (hw : Has w 2) (hx0 : State.Keeps w s0 x0) :
    State.Keeps w s0 (State.leave x0) := by
  unfold State.leave
  extract_lets -merge -useContext +onlyGivenNames v1
  clear_value v1
  extract_lets -merge -useContext +onlyGivenNames v3
  clear_value v3
  extract_lets -merge -useContext +onlyGivenNames v5
  clear_value v5
  refine State.Keeps.upd_persist (s := x0) ?_ ?_ ?_
  · exact hw.bit rfl
  · exact Nat.le_refl _
  · assumption

theorem State.drawNat_keeps {w : Nat} {s0 : State} {x0 : State} (hw : Has w 536870912) (hx0 : State.Keeps w s0 x0) :
    State.Keeps w s0 (State.drawNat x0).2 := by
  unfold State.drawNat
  refine State.Keeps.pair ?_
  refine State.Keeps.upd_free (s := x0) ?_ ?_
  · exact hw.bit rfl
  · assumption

theorem State.nvmAbandon_keeps {w : Nat} {s0 : State} {x0 : State} (hw : Has w 481573208064) (hx0 : State.Keeps w s0 x0) :
    State.Keeps w s0 (State.nvmAbandon x0) := by
  unfold State.nvmAbandon
  split
  · rename_i b1 e2
    refine State.Keeps.upd_nvm (s := x0) ?_ ?_ ?_ ?_ ?_ ?_
    · exact .inl (hw.bit rfl)
    · exact .inr rfl
    · exact .inr rfl
    · exact List.suffix_refl _
    · exact id
    · assumption
  · rename_i b10 b11 e12
    extract_lets -merge -useContext +onlyGivenNames y14
    have h15 : State.Keeps w s0 y14 := by
      unfold y14
      refine State.Keeps.foldl ?_ ?_
      · assumption
      · intro a19 a20 a21
        split
        rename_i b23 b24 b25 e26
        have h27 : State.Keeps w s0 b25 := by
          refine State.Keeps.ofPair e26 ?_
          refine State.drawNat_keeps (hw.mono rfl) ?_
          assumption
        refine State.Keeps.upd_nvm (s := b25) ?_ ?_ ?_ ?_ ?_ ?_
        · exact .inl (hw.bit rfl)
        · exact .inl (hw.bit rfl)
        · exact .inl (hw.bit rfl)
        · exact (Nvm.writeSome_retired _ _ _).symm ▸ List.suffix_refl _
        · exact Nvm.writeSome_wf _ _ _
        · assumption
    clear_value y14
    refine State.Keeps.upd_nvm (s := y14) ?_ ?_ ?_ ?_ ?_ ?_
    · exact .inl (hw.bit rfl)
    · exact .inr rfl
    · exact .inr rfl
    · exact List.suffix_refl _
    · exact id
    · assumption

theorem State.gaspStart_keeps {w : Nat} {s0 : State} {x0 : State} {x1 : ℕ} (hw : Has w 481623539714) (hx0 : State.Keeps w s0 x0) :
    State.Keeps w s0 (State.gaspStart x0 x1) := by
  unfold State.gaspStart
  extract_lets -merge -useContext +onlyGivenNames v1
  clear_value v1
  extract_lets -merge -useContext +onlyGivenNames y3
  have h4 : State.Keeps w s0 y3 := by
    unfold y3
    refine State.leave_keeps (hw.mono rfl) ?_
    assumption
  clear_value y3
  extract_lets -merge -useContext +onlyGivenNames y8
  have h9 : State.Keeps w s0 y8 := by
    unfold y8
    refine State.Keeps.upd_bilOut_bilSaved (s := y3) ?_ ?_ ?_
    · exact hw.bit rfl
    · exact hw.bit rfl
    · assumption
  clear_value y8
  refine State.storeRecord_keeps (hw.mono rfl) ?_
  refine State.nvmAbandon_keeps (hw.mono rfl) ?_
  assumption

theorem State.setThr_keeps {w : Nat} {s0 : State} {x0 : State} {x1 : Fin 16} {x2 : Bool} {x3 : Thr → Thr} (hw : Has w 4503599627370496) (hx0 : State.Keeps w s0 x0) :
    State.Keeps w s0 (State.setThr x0 x1 x2 x3) := by
  unfold State.setThr
  refine State.setChan_keeps ?_ ?_ ?_
  · exact hw.bit rfl
  · (refine .inr fun _ => ?_; split <;> rfl)
  · assumption

theorem State.thrDrop_keeps {w : Nat} {s0 : State} {x0 : State} (hw : Has w 19342813118337666422669312) (hx0 : State.Keeps w s0 x0) :
    State.Keeps w s0 (State.thrDrop x0) := by
  unfold State.thrDrop
  refine State.Keeps.foldl ?_ ?_
  · assumption
  · intro a3 a4 a5
    refine State.setThr_keeps (hw.mono rfl) ?_
    refine State.setThr_keeps (hw.mono rfl) ?_
    refine State.sfs_keeps ?_ ?_
    · refine ⟨?_, ?_⟩
      · dsimp only
        exact hw.reg (by omega) (RegGroup.thr_at (by omega) (by omega)) rfl
      · refine ⟨?_, ?_⟩
        · dsimp only
          exact hw.reg (by omega) (RegGroup.thr_at (by omega) (by omega)) rfl
        · exact trivial
    · assumption

theorem State.beginReset_keeps {w : Nat} {s0 : State} {x0 : State} {x1 : ℕ} (hw : Has w 19342813118338149119950979) (hx0 : State.Keeps w s0 x0) :
    State.Keeps w s0 (State.beginReset x0 x1) := by
  unfold State.beginReset
  split
  · rename_i b1 e2
    extract_lets -merge -useContext +onlyGivenNames y4
    extract_lets -merge -useContext +onlyGivenNames y6
    have h7 : State.Keeps w s0 y6 := by
      unfold y6
      refine State.Keeps.upd_rst_cmd (s := x0) ?_ ?_ ?_ ?_
      · exact hw.bit rfl
      · exact .inl (hw.bit rfl)
      · exact hw.bit rfl
      · assumption
    clear_value y6
    refine State.gaspStart_keeps (hw.mono rfl) ?_
    refine State.thrDrop_keeps (hw.mono rfl) ?_
    assumption
  · rename_i b16 e17
    extract_lets -merge -useContext +onlyGivenNames y19
    extract_lets -merge -useContext +onlyGivenNames y21
    have h22 : State.Keeps w s0 y21 := by
      unfold y21
      refine State.Keeps.upd_rst_cmd (s := x0) ?_ ?_ ?_ ?_
      · exact hw.bit rfl
      · exact .inl (hw.bit rfl)
      · exact hw.bit rfl
      · assumption
    clear_value y21
    refine State.gaspStart_keeps (hw.mono rfl) ?_
    refine State.thrDrop_keeps (hw.mono rfl) ?_
    assumption
  · rename_i b31 e32
    refine State.Keeps.upd_rst (s := x0) ?_ ?_ ?_
    · exact hw.bit rfl
    · exact .inr rfl
    · assumption
  · rename_i b37 e38 e39 e40
    assumption

theorem State.emits_keeps {w : Nat} {s0 : State} {x0 : State} {x1 : List Rec} (hw : Has w 348539531230754360870870571278538556572512) (hx0 : State.Keeps w s0 x0) :
    State.Keeps w s0 (State.emits x0 x1) := by
  unfold State.emits
  refine State.Keeps.foldl ?_ ?_
  · assumption
  · intro a3 a4 a5
    refine State.emit_keeps (hw.mono rfl) ?_
    assumption

theorem State.bilOrder_keeps {w : Nat} {s0 : State} {x0 : State} {x1 : Fin 2} (hw : Has w 2048) (hx0 : State.Keeps w s0 x0) :
    State.Keeps w s0 (State.bilOrder x0 x1) := by
  unfold State.bilOrder
  extract_lets -merge -useContext +onlyGivenNames v1
  clear_value v1
  extract_lets -merge -useContext +onlyGivenNames v3
  clear_value v3
  refine State.setOpen_keeps (hw.mono rfl) ?_
  assumption

theorem State.bilEmit_keeps {w : Nat} {s0 : State} {x0 : State} {x1 : Fin 2} {x2 : List Rec} (hw : Has w 348539531230754360870870571278538573351776) (hx0 : State.Keeps w s0 x0) :
    State.Keeps w s0 (State.bilEmit x0 x1 x2) := by
  unfold State.bilEmit
  split
  · rename_i b1 b2 b3 e4
    refine State.Keeps.upd_bilOut (s := x0) ?_ ?_
    · exact hw.bit rfl
    · assumption
  · rename_i b8 e9
    refine State.release_keeps (hw.mono rfl) ?_
    refine State.emits_keeps (hw.mono rfl) ?_
    refine State.bilOrder_keeps (hw.mono rfl) ?_
    assumption

theorem State.subClose_keeps {w : Nat} {s0 : State} {x0 : State} {x1 : Fin 2} {x2 : DevTime} {x3 : Bool} {x4 : ℕ} (hw : Has w 4194304) (hx0 : State.Keeps w s0 x0) :
    State.Keeps w s0 (State.subClose x0 x1 x2 x3 x4).2 := by
  unfold State.subClose
  extract_lets -merge -useContext +onlyGivenNames v1
  clear_value v1
  split
  · rename_i b3 e4
    assumption
  · rename_i b6 b7 e8
    extract_lets -merge -useContext +onlyGivenNames v10
    clear_value v10
    extract_lets -merge -useContext +onlyGivenNames v12
    clear_value v12
    extract_lets -merge -useContext +onlyGivenNames v14
    clear_value v14
    extract_lets -merge -useContext +onlyGivenNames v16
    clear_value v16
    extract_lets -merge -useContext +onlyGivenNames v18
    clear_value v18
    extract_lets -merge -useContext +onlyGivenNames v20
    clear_value v20
    extract_lets -merge -useContext +onlyGivenNames v22
    clear_value v22
    extract_lets -merge -useContext +onlyGivenNames v24
    clear_value v24
    extract_lets -merge -useContext +onlyGivenNames v26
    clear_value v26
    extract_lets -merge -useContext +onlyGivenNames v28
    clear_value v28
    refine State.Keeps.pair ?_
    refine State.setBil_keeps (hw.mono rfl) ?_
    assumption

theorem State.bilEnd_keeps {w : Nat} {s0 : State} {x0 : State} {x1 : Fin 2} {x2 : DevTime} {x3 : ℕ} (hw : Has w 348539531230754360870870571278538577546080) (hx0 : State.Keeps w s0 x0) :
    State.Keeps w s0 (State.bilEnd x0 x1 x2 x3) := by
  unfold State.bilEnd
  split
  · rename_i b1 e2
    refine State.bilOrder_keeps (hw.mono rfl) ?_
    assumption
  · rename_i b5 b6 e7
    refine State.Keeps.ite ?_ ?_
    · refine State.bilOrder_keeps (hw.mono rfl) ?_
      refine State.setBil_keeps (hw.mono rfl) ?_
      assumption
    · split
      rename_i b13 b14 b15 e16
      have h17 : State.Keeps w s0 b15 := by
        refine State.Keeps.ofPair e16 ?_
        refine State.subClose_keeps (hw.mono rfl) ?_
        assumption
      refine State.bilEmit_keeps (hw.mono rfl) ?_
      assumption

theorem State.bilOff_keeps {w : Nat} {s0 : State} {x0 : State} {x1 : Fin 2} (hw : Has w 1361129467683753853853498429727072845824) (hx0 : State.Keeps w s0 x0) :
    State.Keeps w s0 (State.bilOff x0 x1) := by
  unfold State.bilOff
  refine State.sfs_keeps ?_ ?_
  · refine ⟨?_, ?_⟩
    · dsimp only
      exact hw.reg (by omega) (RegGroup.bilStat_at (by omega) (by omega)) rfl
    · refine ⟨?_, ?_⟩
      · dsimp only
        exact hw.reg (by omega) (RegGroup.bilStat_at (by omega) (by omega)) rfl
      · exact trivial
  · assumption

theorem State.withActive_keeps {w : Nat} {s0 : State} {x0 : State} {x1 : Fin 2} {x2 : DevTime} (hw : Has w 5444517870735015415413993718908299771904) (hx0 : State.Keeps w s0 x0) :
    State.Keeps w s0 (State.withActive x0 x1 x2) := by
  unfold State.withActive
  refine State.Keeps.ite ?_ ?_
  · assumption
  · refine State.Keeps.ite ?_ ?_
    · refine State.Keeps.upd_cals (s := x0) ?_ ?_
      · exact hw.bit rfl
      · assumption
    · refine State.sf_keeps ?_ ?_
      · exact hw.reg (by omega) (RegGroup.bilCal_at (by omega) (by omega)) rfl
      · refine State.Keeps.upd_cals (s := x0) ?_ ?_
        · exact hw.bit rfl
        · assumption

theorem State.bilStart_keeps {w : Nat} {s0 : State} {x0 : State} {x1 : Fin 2} {x2 : DevTime} {x3 : Bool} {x4 : ℕ} (hw : Has w 1361129467683753853853498429727077040128) (hx0 : State.Keeps w s0 x0) :
    State.Keeps w s0 (State.bilStart x0 x1 x2 x3 x4) := by
  unfold State.bilStart
  extract_lets -merge -useContext +onlyGivenNames v1
  clear_value v1
  extract_lets -merge -useContext +onlyGivenNames y3
  have h4 : State.Keeps w s0 y3 := by
    unfold y3
    refine State.setBil_keeps (hw.mono rfl) ?_
    assumption
  clear_value y3
  extract_lets -merge -useContext +onlyGivenNames v8
  clear_value v8
  refine State.sfs_keeps ?_ ?_
  · refine ⟨?_, ?_⟩
    · dsimp only
      exact hw.reg (by omega) (RegGroup.bilStat_at (by omega) (by omega)) rfl
    · refine ⟨?_, ?_⟩
      · dsimp only
        exact hw.reg (by omega) (RegGroup.bilStat_at (by omega) (by omega)) rfl
      · exact trivial
  · assumption

theorem State.periodClose_keeps {w : Nat} {s0 : State} {x0 : State} {x1 : Fin 2} {x2 : DevTime} {x3 : ℕ} {x4 : ℕ} {x5 : Bool} (hw : Has w 23139200950623815515509473305566401003520) (hx0 : State.Keeps w s0 x0) :
    State.Keeps w s0 (State.periodClose x0 x1 x2 x3 x4 x5).2.2 := by
  unfold State.periodClose
  extract_lets -merge -useContext +onlyGivenNames v1
  clear_value v1
  extract_lets -merge -useContext +onlyGivenNames v3
  clear_value v3
  extract_lets -merge -useContext +onlyGivenNames v5
  clear_value v5
  extract_lets -merge -useContext +onlyGivenNames y7
  have h8 : State.Keeps w s0 y7 := by
    unfold y7
    refine State.snapStore_keeps (hw.mono rfl) ?_
    refine State.snapKeep_keeps (hw.mono rfl) ?_
    assumption
  clear_value y7
  extract_lets -merge -useContext +onlyGivenNames y13
  have h14 : State.Keeps w s0 y13 := by
    unfold y13
    refine State.setBil_keeps (hw.mono rfl) ?_
    assumption
  clear_value y13
  extract_lets -merge -useContext +onlyGivenNames y18
  have h19 : State.Keeps w s0 y18 := by
    unfold y18
    refine State.sf_keeps ?_ ?_
    · exact hw.reg (by omega) (RegGroup.bilStat_at (by omega) (by omega)) rfl
    · assumption
  clear_value y18
  assumption

theorem State.subOpen_keeps {w : Nat} {s0 : State} {x0 : State} {x1 : Fin 2} {x2 : DevTime} {x3 : ℕ} {x4 : Bool} (hw : Has w 4194304) (hx0 : State.Keeps w s0 x0) :
    State.Keeps w s0 (State.subOpen x0 x1 x2 x3 x4) := by
  unfold State.subOpen
  refine State.setBil_keeps (hw.mono rfl) ?_
  assumption

theorem State.journal_keeps {w : Nat} {s0 : State} {x0 : State} {x1 : ℕ} {x2 : ℕ} (hw : Has w 206158430208) (hx0 : State.Keeps w s0 x0) :
    State.Keeps w s0 (State.journal x0 x1 x2).2 := by
  unfold State.journal
  extract_lets -merge -useContext +onlyGivenNames v1
  clear_value v1
  extract_lets -merge -useContext +onlyGivenNames v3
  clear_value v3
  extract_lets -merge -useContext +onlyGivenNames v5
  clear_value v5
  extract_lets -merge -useContext +onlyGivenNames v7
  clear_value v7
  extract_lets -merge -useContext +onlyGivenNames v9
  clear_value v9
  extract_lets -merge -useContext +onlyGivenNames v11
  clear_value v11
  extract_lets -merge -useContext +onlyGivenNames y13
  extract_lets -merge -useContext +onlyGivenNames y15
  have h16 : State.Keeps w s0 y15 := by
    unfold y15
    refine State.Keeps.upd_nvm (s := x0) ?_ ?_ ?_ ?_ ?_ ?_
    · exact .inl (hw.bit rfl)
    · exact .inr rfl
    · exact .inr rfl
    · exact List.suffix_refl _
    · exact id
    · assumption
  clear_value y15
  refine State.Keeps.pair ?_
  refine State.nvmQueue_keeps (hw.mono rfl) ?_
  assumption

theorem State.billActs_keeps {w : Nat} {s0 : State} {x0 : State} {x1 : Fin 2} {x2 : DevTime} {x3 : ℕ} {x4 : Bool} {x5 : Option DevTime} {x6 : ℕ} {x7 : Bool} (hw : Has w 377123250052113191801794038302807115696992) (hx0 : State.Keeps w s0 x0) :
    State.Keeps w s0 (State.billActs x0 x1 x2 x3 x4 x5 x6 x7) := by
  unfold State.billActs
  split
  rename_i b1 b2 b3 e4
  have h5 : State.Keeps w s0 b3 := by
    refine State.Keeps.ofPair e4 ?_
    refine State.Keeps.iteSnd ?_ ?_
    · refine State.subClose_keeps (hw.mono rfl) ?_
      assumption
    · assumption
  extract_lets -merge -useContext +onlyGivenNames v11
  clear_value v11
  extract_lets -merge -useContext +onlyGivenNames y13
  have h14 : State.Keeps w s0 y13 := by
    unfold y13
    refine State.Keeps.ite ?_ ?_
    · refine State.actFor_keeps (hw.mono rfl) ?_
      assumption
    · assumption
  clear_value y13
  extract_lets -merge -useContext +onlyGivenNames v20
  clear_value v20
  extract_lets -merge -useContext +onlyGivenNames v22
  clear_value v22
  extract_lets -merge -useContext +onlyGivenNames v24
  clear_value v24
  split
  rename_i b26 b27 b28 e29
  have h30 : State.Keeps w s0 b28 := by
    refine State.Keeps.ofPair e29 ?_
    refine State.Keeps.iteSnd ?_ ?_
    · refine State.subClose_keeps (hw.mono rfl) ?_
      assumption
    · assumption
  extract_lets -merge -useContext +onlyGivenNames y36
  have h37 : State.Keeps w s0 y36 := by
    unfold y36
    refine State.Keeps.ite ?_ ?_
    · refine State.sf_keeps ?_ ?_
      · exact hw.reg (by omega) (RegGroup.bilStat_at (by omega) (by omega)) rfl
      · refine State.setBil_keeps (hw.mono rfl) ?_
        assumption
    · assumption
  clear_value y36
  extract_lets -merge -useContext +onlyGivenNames v45
  clear_value v45
  split
  rename_i b47 b48 b49 b50 e51
  have h52 : State.Keeps w s0 b50 := by
    refine State.Keeps.ofTriple e51 ?_
    split
    · rename_i b54 b55
      refine State.periodClose_keeps (hw.mono rfl) ?_
      assumption
    · rename_i b58
      assumption
  extract_lets -merge -useContext +onlyGivenNames y61
  have h62 : State.Keeps w s0 y61 := by
    unfold y61
    refine State.Keeps.ite ?_ ?_
    · refine State.subOpen_keeps (hw.mono rfl) ?_
      assumption
    · assumption
  clear_value y61
  extract_lets -merge -useContext +onlyGivenNames y68
  have h69 : State.Keeps w s0 y68 := by
    unfold y68
    refine State.setBilDone_keeps (hw.mono rfl) ?_ ?_
    · assumption
    · exact .inl (by omega)
  clear_value y68
  extract_lets -merge -useContext +onlyGivenNames v74
  clear_value v74
  extract_lets -merge -useContext +onlyGivenNames v76
  clear_value v76
  extract_lets -merge -useContext +onlyGivenNames y78
  have h79 : State.Keeps w s0 y78 := by
    unfold y78
    refine State.setBil_keeps (hw.mono rfl) ?_
    assumption
  clear_value y78
  split
  rename_i b83 b84 b85 e86
  have h87 : State.Keeps w s0 b85 := by
    refine State.Keeps.ofPair e86 ?_
    refine State.Keeps.iteSnd ?_ ?_
    · refine State.journal_keeps (hw.mono rfl) ?_
      assumption
    · refine State.journal_keeps (hw.mono rfl) ?_
      assumption
  extract_lets -merge -useContext +onlyGivenNames y94
  have h95 : State.Keeps w s0 y94 := by
    unfold y94
    refine State.Keeps.upd_bilOut (s := b85) ?_ ?_
    · exact hw.bit rfl
    · assumption
  clear_value y94
  extract_lets -merge -useContext +onlyGivenNames y100
  have h101 : State.Keeps w s0 y100 := by
    unfold y100
    refine State.bilOrder_keeps (hw.mono rfl) ?_
    assumption
  clear_value y100
  refine State.Keeps.ite ?_ ?_
  · refine State.checkpointW_keeps (hw.mono rfl) ?_
    assumption
  · refine State.checkpointW_keeps (hw.mono rfl) ?_
    assumption

theorem State.billAdd_keeps {w : Nat} {s0 : State} {x0 : State} {x1 : Fin 2} {x2 : StepEnd} {x3 : List (ℕ × ℕ)} (hw : Has w 4194304) (hx0 : State.Keeps w s0 x0) :
    State.Keeps w s0 (State.billAdd x0 x1 x2 x3) := by
  unfold State.billAdd
  refine State.setBil_keeps (hw.mono rfl) ?_
  assumption

theorem State.billEnd_keeps {w : Nat} {s0 : State} {x0 : State} {x1 : Fin 2} {x2 : StepEnd} (hw : Has w 377123250052113191801794038302807115696992) (hx0 : State.Keeps w s0 x0) :
    State.Keeps w s0 (State.billEnd x0 x1 x2) := by
  unfold State.billEnd
  extract_lets -merge -useContext +onlyGivenNames v1
  clear_value v1
  extract_lets -merge -useContext +onlyGivenNames v3
  clear_value v3
  extract_lets -merge -useContext +onlyGivenNames v5
  clear_value v5
  refine State.Keeps.ite ?_ ?_
  · extract_lets -merge -useContext +onlyGivenNames v8
    clear_value v8
    refine State.billActs_keeps (hw.mono rfl) ?_
    assumption
  · refine State.Keeps.ite ?_ ?_
    · split
      rename_i b13 b14 b15 e16
      have h17 : State.Keeps w s0 b15 := by
        refine State.Keeps.ofPair e16 ?_
        refine State.subClose_keeps (hw.mono rfl) ?_
        assumption
      extract_lets -merge -useContext +onlyGivenNames y21
      have h22 : State.Keeps w s0 y21 := by
        unfold y21
        refine State.setBil_keeps (hw.mono rfl) ?_
        assumption
      clear_value y21
      refine State.bilEmit_keeps (hw.mono rfl) ?_
      refine State.Keeps.ite ?_ ?_
      · assumption
      · refine State.subOpen_keeps (hw.mono rfl) ?_
        assumption
    · assumption

theorem State.billMissed_keeps {w : Nat} {s0 : State} {x0 : State} {x1 : Fin 2} {x2 : DevTime} {x3 : ℕ} (hw : Has w 377123250052113191801794038302807115696992) (hx0 : State.Keeps w s0 x0) :
    State.Keeps w s0 (State.billMissed x0 x1 x2 x3) := by
  unfold State.billMissed
  refine State.Keeps.ite ?_ ?_
  · assumption
  · extract_lets -merge -useContext +onlyGivenNames y3
    have h4 : State.Keeps w s0 y3 := by
      unfold y3
      refine State.setBil_keeps (hw.mono rfl) ?_
      assumption
    clear_value y3
    extract_lets -merge -useContext +onlyGivenNames v8
    have h9 : State.Keeps w s0 v8 := by
      unfold v8
      refine State.withActive_keeps (hw.mono rfl) ?_
      assumption
    clear_value v8
    split
    · rename_i b13 e14
      assumption
    · rename_i b16 b17 e18
      extract_lets -merge -useContext +onlyGivenNames v20
      clear_value v20
      extract_lets -merge -useContext +onlyGivenNames v22
      clear_value v22
      extract_lets -merge -useContext +onlyGivenNames v24
      clear_value v24
      extract_lets -merge -useContext +onlyGivenNames v26
      clear_value v26
      extract_lets -merge -useContext +onlyGivenNames v28
      clear_value v28
      extract_lets -merge -useContext +onlyGivenNames v30
      clear_value v30
      extract_lets -merge -useContext +onlyGivenNames v32
      clear_value v32
      extract_lets -merge -useContext +onlyGivenNames v34
      clear_value v34
      extract_lets -merge -useContext +onlyGivenNames v36
      clear_value v36
      refine State.billActs_keeps (hw.mono rfl) ?_
      assumption

theorem State.billOpen_keeps {w : Nat} {s0 : State} {x0 : State} {x1 : Fin 2} {x2 : StepEnd} (hw : Has w 4196352) (hx0 : State.Keeps w s0 x0) :
    State.Keeps w s0 (State.billOpen x0 x1 x2) := by
  unfold State.billOpen
  split
  · rename_i b1 b2 e3
    refine State.Keeps.ite ?_ ?_
    · refine State.bilOrder_keeps (hw.mono rfl) ?_
      refine State.subOpen_keeps (hw.mono rfl) ?_
      assumption
    · assumption
  · rename_i b9 e10
    assumption

theorem State.bistHit_keeps {w : Nat} {s0 : State} {x0 : State} {x1 : ℕ} (hw : Has w 35184372088832) (hx0 : State.Keeps w s0 x0) :
    State.Keeps w s0 (State.bistHit x0 x1) := by
  unfold State.bistHit
  refine State.Keeps.ite ?_ ?_
  · refine State.Keeps.upd_ket (s := x0) ?_ ?_ ?_
    · exact .inl (hw.bit rfl)
    · exact .inr (Nat.le_refl _)
    · assumption
  · assumption

theorem State.bistStart_keeps {w : Nat} {s0 : State} {x0 : State} {x1 : ℕ} (hw : Has w 593735040165679310520246963290990011919594684416) (hx0 : State.Keeps w s0 x0) :
    State.Keeps w s0 (State.bistStart x0 x1) := by
  unfold State.bistStart
  extract_lets -merge -useContext +onlyGivenNames y1
  have h2 : State.Keeps w s0 y1 := by
    unfold y1
    refine State.sf_keeps ?_ ?_
    · exact hw.reg (by omega) (RegGroup.ketBist_at (by omega) (by omega)) rfl
    · assumption
  clear_value y1
  refine State.Keeps.ite ?_ ?_
  · assumption
  · extract_lets -merge -useContext +onlyGivenNames v9
    clear_value v9
    extract_lets -merge -useContext +onlyGivenNames v11
    clear_value v11
    extract_lets -merge -useContext +onlyGivenNames v13
    extract_lets -merge -useContext +onlyGivenNames v15
    refine State.ketCopy_keeps (hw.mono rfl) ?_
    refine State.Keeps.upd_ket (s := y1) ?_ ?_ ?_
    · exact .inl (hw.bit rfl)
    · exact .inr (Nat.le_refl _)
    · assumption

theorem State.logRef_keeps {w : Nat} {s0 : State} {x0 : State} (hw : Has w 348539531230754360870870571278538556572512) (hx0 : State.Keeps w s0 x0) :
    State.Keeps w s0 (State.logRef x0) := by
  unfold State.logRef
  refine State.log_keeps (hw.mono rfl) ?_
  assumption

theorem State.refResult_keeps {w : Nat} {s0 : State} {x0 : State} {x1 : ℕ} (hw : Has w 348539531230754360946428435004452879991648) (hx0 : State.Keeps w s0 x0) :
    State.Keeps w s0 (State.refResult x0 x1) := by
  unfold State.refResult
  extract_lets -merge -useContext +onlyGivenNames v1
  clear_value v1
  extract_lets -merge -useContext +onlyGivenNames v3
  clear_value v3
  extract_lets -merge -useContext +onlyGivenNames y5
  have h6 : State.Keeps w s0 y5 := by
    unfold y5
    refine State.sb_keeps ?_ ?_
    · exact hw.reg (by omega) (RegGroup.afeRef_at (by omega) (by omega)) rfl
    · refine State.sf_keeps ?_ ?_
      · exact hw.reg (by omega) (RegGroup.afeRef_at (by omega) (by omega)) rfl
      · assumption
  clear_value y5
  refine State.Keeps.ite ?_ ?_
  · assumption
  · extract_lets -merge -useContext +onlyGivenNames y15
    have h16 : State.Keeps w s0 y15 := by
      unfold y15
      refine State.raise_keeps (hw.mono rfl) ?_ ?_
      · assumption
      · exact .inl (by omega)
    clear_value y15
    refine State.Keeps.ite ?_ ?_
    · refine State.logRef_keeps (hw.mono rfl) ?_
      assumption
    · assumption

theorem State.strapMeas_keeps {w : Nat} {s0 : State} {x0 : State} {x1 : ℕ} {x2 : ℕ} (hw : Has w 147573952589676412928) (hx0 : State.Keeps w s0 x0) :
    State.Keeps w s0 (State.strapMeas x0 x1 x2) := by
  unfold State.strapMeas
  extract_lets -merge -useContext +onlyGivenNames v1
  clear_value v1
  extract_lets -merge -useContext +onlyGivenNames y3
  have h4 : State.Keeps w s0 y3 := by
    unfold y3
    refine State.sf_keeps ?_ ?_
    · refine regOk.ite ?_ ?_
      · exact hw.reg (by omega) (RegGroup.strap_at (by omega) (by omega)) rfl
      · exact hw.reg (by omega) (RegGroup.strap_at (by omega) (by omega)) rfl
    · assumption
  clear_value y3
  refine State.sb_keeps ?_ ?_
  · refine regOk.ite ?_ ?_
    · exact hw.reg (by omega) (RegGroup.strap_at (by omega) (by omega)) rfl
    · exact hw.reg (by omega) (RegGroup.strap_at (by omega) (by omega)) rfl
  · assumption

theorem State.bootConv_keeps {w : Nat} {s0 : State} {x0 : State} {x1 : ℕ} {x2 : ℕ} (hw : Has w 348539531230754360946576008957042690622305) (hx0 : State.Keeps w s0 x0) :
    State.Keeps w s0 (State.bootConv x0 x1 x2) := by
  unfold State.bootConv
  refine State.Keeps.ite ?_ ?_
  · refine State.setSar_keeps (hw.mono rfl) ?_
    refine State.refResult_keeps (hw.mono rfl) ?_
    assumption
  · refine State.Keeps.ite ?_ ?_
    · refine State.setSar_keeps (hw.mono rfl) ?_
      refine State.strapMeas_keeps (hw.mono rfl) ?_
      assumption
    · extract_lets -merge -useContext +onlyGivenNames y9
      have h10 : State.Keeps w s0 y9 := by
        unfold y9
        refine State.setSar_keeps (hw.mono rfl) ?_
        refine State.strapMeas_keeps (hw.mono rfl) ?_
        assumption
      clear_value y9
      refine State.Keeps.upd_rst (s := y9) ?_ ?_ ?_
      · exact hw.bit rfl
      · exact .inr rfl
      · assumption

theorem State.unitLost_keeps {w : Nat} {s0 : State} {x0 : State} {x1 : ℕ} {x2 : ℕ} {x3 : ℕ} {x4 : List ℕ} (hw : Has w 348539531230754360870870571278538556572512) (hx0 : State.Keeps w s0 x0) :
    State.Keeps w s0 (State.unitLost x0 x1 x2 x3 x4) := by
  unfold State.unitLost
  refine State.log_keeps (hw.mono rfl) ?_
  assumption

theorem State.fenceBit_keeps {w : Nat} {s0 : State} {x0 : State} {x1 : Fld} {x2 : ℕ} (hw : Has w 332041393361131667968) (hx0 : State.Keeps w s0 x0) (hx1 : regOk w x1) :
    State.Keeps w s0 (State.fenceBit x0 x1 x2) := by
  unfold State.fenceBit
  refine State.raise_keeps (hw.mono rfl) ?_ ?_
  · refine State.incSat_keeps ?_ ?_
    · exact hw.reg (by omega) (RegGroup.fence_at (by omega) (by omega)) rfl
    · refine State.smbit_keeps ?_ ?_
      · assumption
      · assumption
  · exact .inl (by omega)

theorem State.fenceSlice_keeps {w : Nat} {s0 : State} {x0 : State} {x1 : ℕ} (hw : Has w 2854843924943150516477442846363756958741168992) (hx0 : State.Keeps w s0 x0) :
    State.Keeps w s0 (State.fenceSlice x0 x1) := by
  unfold State.fenceSlice
  refine State.Keeps.ite ?_ ?_
  · refine State.unitLost_keeps (hw.mono rfl) ?_
    refine State.fenceBit_keeps (hw.mono rfl) ?_ ?_
    · refine State.smbit_keeps ?_ ?_
      · exact hw.reg (by omega) (RegGroup.slice_at (by omega) (by omega)) rfl
      · assumption
    · exact hw.reg (by omega) (RegGroup.fence_at (by omega) (by omega)) rfl
  · assumption

theorem State.setRoles_keeps {w : Nat} {s0 : State} {x0 : State} {x1 : ℕ} {x2 : ℕ} {x3 : ℕ} (hw : Has w 2854495385411919762116571938898990272765493248) (hx0 : State.Keeps w s0 x0) :
    State.Keeps w s0 (State.setRoles x0 x1 x2 x3) := by
  unfold State.setRoles
  refine State.sfs_keeps ?_ ?_
  · refine ⟨?_, ?_⟩
    · dsimp only
      exact hw.reg (by omega) (RegGroup.slice_at (by omega) (by omega)) rfl
    · refine ⟨?_, ?_⟩
      · dsimp only
        exact hw.reg (by omega) (RegGroup.slice_at (by omega) (by omega)) rfl
      · refine ⟨?_, ?_⟩
        · dsimp only
          exact hw.reg (by omega) (RegGroup.slice_at (by omega) (by omega)) rfl
        · refine ⟨?_, ?_⟩
          · dsimp only
            exact hw.reg (by omega) (RegGroup.slice_at (by omega) (by omega)) rfl
          · exact trivial
  · assumption

theorem State.sealList_keeps {w : Nat} {s0 : State} {x0 : State} {x1 : Port} {x2 : ℕ} {x3 : Word} {x4 : ℕ} (hw : Has w 8796093022208) (hx0 : State.Keeps w s0 x0) :
    State.Keeps w s0 (State.sealList x0 x1 x2 x3 x4) := by
  unfold State.sealList
  split
  · rename_i b1 b2 e3
    extract_lets -merge -useContext +onlyGivenNames v5
    clear_value v5
    refine State.Keeps.upd_sec (s := x0) ?_ ?_ ?_ ?_ ?_ ?_ ?_ ?_ ?_ ?_ ?_
    · exact .inr rfl
    · exact .inr rfl
    · exact .inr rfl
    · exact .inr rfl
    · exact .inl (hw.bit rfl)
    · exact .inr rfl
    · exact id
    · exact id
    · exact fun _ h h' => ⟨h, h'⟩
    · exact fun h => ⟨Nat.le_refl _, h⟩
    · assumption
  · rename_i b18 e19
    assumption

theorem State.cfgReject_keeps {w : Nat} {s0 : State} {x0 : State} {x1 : Port} {x2 : ℕ} {x3 : Word} (hw : Has w 348539531230754360870870571278538556572512) (hx0 : State.Keeps w s0 x0) :
    State.Keeps w s0 (State.cfgReject x0 x1 x2 x3) := by
  unfold State.cfgReject
  refine State.log_keeps (hw.mono rfl) ?_
  assumption

theorem State.rws_keeps {w : Nat} {s0 : State} {x0 : State} {x1 : Port} {x2 : ℕ} {x3 : Word} {x4 : ℕ} {x5 : Bool} {x6 : State → State} {x7 : State → Bool × State} (hw : Has w 348539531230754360870870571287334649594720) (hx0 : State.Keeps w s0 x0) (hx6 : ∀ t0, State.Keeps w s0 t0 → State.Keeps w s0 (x6 t0)) (hx7 : ∀ t0, State.Keeps w s0 t0 → State.Keeps w s0 (x7 t0).2) :
    State.Keeps w s0 (State.rws x0 x1 x2 x3 x4 x5 x6 x7) := by
  unfold State.rws
  refine State.Keeps.ite ?_ ?_
  · apply_assumption
    assumption
  · refine State.Keeps.ite ?_ ?_
    · extract_lets -merge -useContext +onlyGivenNames v5
      have h6 : State.Keeps w s0 v5.2 := by
        unfold v5
        apply_assumption
        assumption
      clear_value v5
      refine State.Keeps.ite ?_ ?_
      · refine State.sealList_keeps (hw.mono rfl) ?_
        assumption
      · assumption
    · refine State.cfgReject_keeps (hw.mono rfl) ?_
      assumption

theorem State.wrMetCtrl_keeps {w : Nat} {s0 : State} {x0 : State} {x1 : Port} {x2 : Word} (hw : Has w 348539531271319180078173912135229156885344) (hx0 : State.Keeps w s0 x0) :
    State.Keeps w s0 (State.wrMetCtrl x0 x1 x2) := by
  unfold State.wrMetCtrl
  extract_lets -merge -useContext +onlyGivenNames v1
  clear_value v1
  extract_lets -merge -useContext +onlyGivenNames v3
  clear_value v3
  refine State.rws_keeps (hw.mono rfl) ?_ ?_ ?_
  · assumption
  · intro a7 a8
    refine State.Keeps.idS ?_
    assumption
  · intro a12 a13
    refine State.Keeps.iteSnd ?_ ?_
    · refine State.Keeps.pair ?_
      refine State.sf_keeps ?_ ?_
      · exact hw.reg (by omega) (RegGroup.metCtrl_at (by omega) (by omega)) rfl
      · assumption
    · extract_lets -merge -useContext +onlyGivenNames y20
      have h21 : State.Keeps w s0 y20 := by
        unfold y20
        refine State.sfs_keeps ?_ ?_
        · refine ⟨?_, ?_⟩
          · dsimp only
            exact hw.reg (by omega) (RegGroup.metCtrl_at (by omega) (by omega)) rfl
          · refine ⟨?_, ?_⟩
            · dsimp only
              exact hw.reg (by omega) (RegGroup.metCtrl_at (by omega) (by omega)) rfl
            · exact trivial
        · assumption
      clear_value y20
      refine State.Keeps.iteSnd ?_ ?_
      · extract_lets -merge -useContext +onlyGivenNames v31
        clear_value v31
        extract_lets -merge -useContext +onlyGivenNames v33
        clear_value v33
        extract_lets -merge -useContext +onlyGivenNames v35
        clear_value v35
        refine State.Keeps.pair ?_
        refine State.log_keeps (hw.mono rfl) ?_
        refine State.Keeps.upd_met_bil (s := y20) ?_ ?_ ?_
        · exact hw.bit rfl
        · exact hw.bit rfl
        · assumption
      · assumption

theorem State.putHigh_keeps {w : Nat} {s0 : State} {x0 : State} {x1 : ℕ} {x2 : ℕ} {x3 : ℕ} (hw : Has w 206158430208) (hx0 : State.Keeps w s0 x0) :
    State.Keeps w s0 (State.putHigh x0 x1 x2 x3) := by
  unfold State.putHigh
  refine State.nvmQueue_keeps (hw.mono rfl) ?_
  assumption

theorem State.highClear_keeps {w : Nat} {s0 : State} {x0 : State} {x1 : ℕ} {x2 : ℕ} (hw : Has w 206158430208) (hx0 : State.Keeps w s0 x0) :
    State.Keeps w s0 (State.highClear x0 x1 x2) := by
  unfold State.highClear
  refine State.Keeps.foldlMem ?_ ?_
  · assumption
  · intro a2 a3 a4 a5
    have a6 := List.mem_range.1 a4
    split
    rename_i b8 b9 b10 e11
    refine State.Keeps.ite ?_ ?_
    · assumption
    · refine State.putHigh_keeps (hw.mono rfl) ?_
      assumption

theorem State.metCtrl_keeps {w : Nat} {s0 : State} {x0 : State} {x1 : Port} {x2 : Word} (hw : Has w 348539531271319180078173912135229156885344) (hx0 : State.Keeps w s0 x0) :
    State.Keeps w s0 (State.metCtrl x0 x1 x2) := by
  unfold State.metCtrl
  extract_lets -merge -useContext +onlyGivenNames v1
  have h2 : State.Keeps w s0 v1 := by
    unfold v1
    refine State.wrMetCtrl_keeps (hw.mono rfl) ?_
    assumption
  clear_value v1
  refine State.Keeps.ite ?_ ?_
  · refine State.highClear_keeps (hw.mono rfl) ?_
    assumption
  · assumption

theorem State.calCommit_keeps {w : Nat} {s0 : State} {x0 : State} {x1 : Fin 2} (hw : Has w 40564819207303340848100661526528) (hx0 : State.Keeps w s0 x0) :
    State.Keeps w s0 (State.calCommit x0 x1).2 := by
  unfold State.calCommit
  extract_lets -merge -useContext +onlyGivenNames v1
  clear_value v1
  extract_lets -merge -useContext +onlyGivenNames v3
  clear_value v3
  refine State.Keeps.iteSnd ?_ ?_
  · assumption
  · refine State.Keeps.iteSnd ?_ ?_
    · refine State.Keeps.pair ?_
      refine State.sf_keeps ?_ ?_
      · exact hw.reg (by omega) (RegGroup.metCtrl_at (by omega) (by omega)) rfl
      · assumption
    · extract_lets -merge -useContext +onlyGivenNames y12
      have h13 : State.Keeps w s0 y12 := by
        unfold y12
        refine State.incWrap_keeps ?_ ?_
        · unfold calIdFld
          refine regOk.ite ?_ ?_
          · exact hw.reg (by omega) (RegGroup.metCtrl_at (by omega) (by omega)) rfl
          · exact hw.reg (by omega) (RegGroup.metCtrl_at (by omega) (by omega)) rfl
        · assumption
      clear_value y12
      extract_lets -merge -useContext +onlyGivenNames v21
      clear_value v21
      extract_lets -merge -useContext +onlyGivenNames y23
      clear_value y23
      extract_lets -merge -useContext +onlyGivenNames y25
      have h26 : State.Keeps w s0 y25 := by
        unfold y25
        refine State.Keeps.upd_met (s := y12) ?_ ?_
        · exact hw.bit rfl
        · assumption
      clear_value y25
      refine State.Keeps.pair ?_
      refine State.storeRecord_keeps (hw.mono rfl) ?_
      assumption

theorem State.wrCalCtrl_keeps {w : Nat} {s0 : State} {x0 : State} {x1 : Port} {x2 : Word} (hw : Has w 348539531271319180078173912135229152691040) (hx0 : State.Keeps w s0 x0) :
    State.Keeps w s0 (State.wrCalCtrl x0 x1 x2) := by
  unfold State.wrCalCtrl
  extract_lets -merge -useContext +onlyGivenNames v1
  clear_value v1
  extract_lets -merge -useContext +onlyGivenNames v3
  clear_value v3
  refine State.rws_keeps (hw.mono rfl) ?_ ?_ ?_
  · assumption
  · intro a7 a8
    refine State.Keeps.idS ?_
    assumption
  · intro a12 a13
    split
    rename_i b15 b16 b17 e18
    have h19 : State.Keeps w s0 b17 := by
      refine State.Keeps.ofPair e18 ?_
      refine State.Keeps.iteSnd ?_ ?_
      · refine State.calCommit_keeps (hw.mono rfl) ?_
        assumption
      · assumption
    split
    rename_i b25 b26 b27 e28
    have h29 : State.Keeps w s0 b27 := by
      refine State.Keeps.ofPair e28 ?_
      refine State.Keeps.iteSnd ?_ ?_
      · refine State.calCommit_keeps (hw.mono rfl) ?_
        assumption
      · assumption
    assumption

theorem State.cfClose_keeps {w : Nat} {s0 : State} {x0 : State} {x1 : Fin 2} {x2 : ℕ} {x3 : List (ℕ × ℕ)} (hw : Has w 649037107316853453566312041676800) (hx0 : State.Keeps w s0 x0) :
    State.Keeps w s0 (State.cfClose x0 x1 x2 x3) := by
  unfold State.cfClose
  refine State.Keeps.foldl ?_ ?_
  · assumption
  · intro a3 a4 a5
    refine State.Keeps.ite ?_ ?_
    · assumption
    · extract_lets -merge -useContext +onlyGivenNames v9
      clear_value v9
      extract_lets -merge -useContext +onlyGivenNames v11
      clear_value v11
      extract_lets -merge -useContext +onlyGivenNames v13
      clear_value v13
      extract_lets -merge -useContext +onlyGivenNames v15
      clear_value v15
      extract_lets -merge -useContext +onlyGivenNames v17
      clear_value v17
      extract_lets -merge -useContext +onlyGivenNames y19
      have h20 : State.Keeps w s0 y19 := by
        unfold y19
        refine State.Keeps.ite ?_ ?_
        · assumption
        · refine State.sf_keeps ?_ ?_
          · exact hw.reg (by omega) (RegGroup.cf_at (by omega) (by omega)) rfl
          · refine State.incSat_keeps ?_ ?_
            · exact hw.reg (by omega) (RegGroup.cf_at (by omega) (by omega)) rfl
            · assumption
      clear_value y19
      extract_lets -merge -useContext +onlyGivenNames v29
      clear_value v29
      extract_lets -merge -useContext +onlyGivenNames v31
      clear_value v31
      refine State.sf_keeps ?_ ?_
      · exact hw.reg (by omega) (RegGroup.cf_at (by omega) (by omega)) rfl
      · refine State.Keeps.upd_met (s := y19) ?_ ?_
        · exact hw.bit rfl
        · assumption

theorem State.stepClose_keeps {w : Nat} {s0 : State} {x0 : State} {x1 : Fin 2} {x2 : StepEnd} (hw : Has w 377123250701150299118647491869119157373792) (hx0 : State.Keeps w s0 x0) :
    State.Keeps w s0 (State.stepClose x0 x1 x2) := by
  unfold State.stepClose
  extract_lets -merge -useContext +onlyGivenNames y1
  have h2 : State.Keeps w s0 y1 := by
    unfold y1
    refine State.billMissed_keeps (hw.mono rfl) ?_
    assumption
  clear_value y1
  extract_lets -merge -useContext +onlyGivenNames y6
  have h7 : State.Keeps w s0 y6 := by
    unfold y6
    refine State.billOpen_keeps (hw.mono rfl) ?_
    assumption
  clear_value y6
  split
  rename_i b11 b12 b13 e14
  have h15 : State.Keeps w s0 b13 := by
    refine State.Keeps.ofPair e14 ?_
    refine State.accumulate_keeps (hw.mono rfl) ?_
    assumption
  extract_lets -merge -useContext +onlyGivenNames y19
  have h20 : State.Keeps w s0 y19 := by
    unfold y19
    refine State.billAdd_keeps (hw.mono rfl) ?_
    assumption
  clear_value y19
  extract_lets -merge -useContext +onlyGivenNames y24
  have h25 : State.Keeps w s0 y24 := by
    unfold y24
    refine State.cfClose_keeps (hw.mono rfl) ?_
    assumption
  clear_value y24
  extract_lets -merge -useContext +onlyGivenNames y29
  clear_value y29
  extract_lets -merge -useContext +onlyGivenNames y31
  have h32 : State.Keeps w s0 y31 := by
    unfold y31
    refine State.Keeps.upd_met (s := y24) ?_ ?_
    · exact hw.bit rfl
    · assumption
  clear_value y31
  refine State.billEnd_keeps (hw.mono rfl) ?_
  assumption

theorem State.stepsGo_keeps {w : Nat} {s0 : State} {x0 : Fin 2} {x1 : ℕ} {x2 : State} (hw : Has w 377123250701150299118647492432069110795104) (hx2 : State.Keeps w s0 x2) :
    State.Keeps w s0 (State.stepsGo x0 x1 x2) := by
  induction x1 generalizing x0 x2
  · unfold State.stepsGo
    assumption
  · rename_i n ih
    unfold State.stepsGo
    split
    · rename_i b2 e3
      assumption
    · rename_i b5 b6 b7 e8
      apply ih
      refine State.stepClose_keeps (hw.mono rfl) ?_
      refine State.setGrp_keeps ?_ ?_ ?_ ?_
      · exact hw.bit rfl
      · exact .inr fun _ => rfl
      · exact .inr fun _ => rfl
      · assumption

theorem State.stepsSettle_keeps {w : Nat} {s0 : State} {x0 : State} {x1 : Fin 2} (hw : Has w 377123250701150299118647492432069110795104) (hx0 : State.Keeps w s0 x0) :
    State.Keeps w s0 (State.stepsSettle x0 x1) := by
  unfold State.stepsSettle
  refine State.stepsGo_keeps (hw.mono rfl) ?_
  assumption

theorem State.wrMetEsel_keeps {w : Nat} {s0 : State} {x0 : State} {x1 : Word} (hw : Has w 377123251025668852777074219215225131371360) (hx0 : State.Keeps w s0 x0) :
    State.Keeps w s0 (State.wrMetEsel x0 x1) := by
  unfold State.wrMetEsel
  extract_lets
  have hr : ∀ {o l d}, 0x0A20 ≤ o → o < 0x0A60 → l < 32 → regOk w ⟨o, l, d⟩ := fun h1 h2 hl => hw.reg hl (RegGroup.metEsel_at h1 h2) rfl
  refine State.sfs_keeps (s := State.sfs _ _) ?_ ?_
  · exact ⟨hr (by omega) (by omega) (by omega), hr (by omega) (by omega) (by omega), hr (by omega) (by omega) (by omega), hr (by omega) (by omega) (by omega), hr (by omega) (by omega) (by omega), hr (by omega) (by omega) (by omega), hr (by omega) (by omega) (by omega), trivial⟩
  refine State.sfs_keeps (s := State.stepsSettle _ _) ?_ ?_
  · exact ⟨hr (by omega) (by omega) (by omega), hr (by omega) (by omega) (by omega), hr (by omega) (by omega) (by omega), trivial⟩
  exact State.stepsSettle_keeps (hw.mono rfl) hx0

theorem State.wrCfCfg_keeps {w : Nat} {s0 : State} {x0 : State} {x1 : Port} {x2 : Fin 4} {x3 : Word} (hw : Has w 348539531920356287395027365701541193843552) (hx0 : State.Keeps w s0 x0) :
    State.Keeps w s0 (State.wrCfCfg x0 x1 x2 x3) := by
  unfold State.wrCfCfg
  extract_lets -merge -useContext +onlyGivenNames v1
  clear_value v1
  extract_lets -merge -useContext +onlyGivenNames v3
  clear_value v3
  extract_lets -merge -useContext +onlyGivenNames v5
  clear_value v5
  extract_lets -merge -useContext +onlyGivenNames v7
  have h8 : ∀ t0, State.Keeps w s0 t0 → State.Keeps w s0 (v7 t0) := by
    intro a9 a10
    unfold v7
    refine State.sfs_keeps ?_ ?_
    · refine ⟨?_, ?_⟩
      · dsimp only
        exact hw.reg (by omega) (RegGroup.cf_at (by omega) (by omega)) rfl
      · refine ⟨?_, ?_⟩
        · dsimp only
          exact hw.reg (by omega) (RegGroup.cf_at (by omega) (by omega)) rfl
        · refine ⟨?_, ?_⟩
          · dsimp only
            exact hw.reg (by omega) (RegGroup.cf_at (by omega) (by omega)) rfl
          · refine ⟨?_, ?_⟩
            · dsimp only
              exact hw.reg (by omega) (RegGroup.cf_at (by omega) (by omega)) rfl
            · refine ⟨?_, ?_⟩
              · dsimp only
                exact hw.reg (by omega) (RegGroup.cf_at (by omega) (by omega)) rfl
              · exact trivial
    · assumption
  clear_value v7
  extract_lets -merge -useContext +onlyGivenNames v25
  have h26 : ∀ t0 t1, State.Keeps w s0 t1 → State.Keeps w s0 (v25 t0 t1) := by
    intro a27 a28 a29
    unfold v25
    refine State.sf_keeps ?_ ?_
    · exact hw.reg (by omega) (RegGroup.cf_at (by omega) (by omega)) rfl
    · refine State.Keeps.upd_met (s := a28) ?_ ?_
      · exact hw.bit rfl
      · assumption
  clear_value v25
  refine State.rws_keeps (hw.mono rfl) ?_ ?_ ?_
  · assumption
  · intro a38 a39
    refine State.Keeps.idS ?_
    assumption
  · intro a43 a44
    refine State.Keeps.iteSnd ?_ ?_
    · refine State.Keeps.iteSnd ?_ ?_
      · refine State.Keeps.pair ?_
        refine State.sf_keeps ?_ ?_
        · exact hw.reg (by omega) (RegGroup.metCtrl_at (by omega) (by omega)) rfl
        · assumption
      · extract_lets -merge -useContext +onlyGivenNames v52
        clear_value v52
        refine State.Keeps.pair ?_
        refine State.log_keeps (hw.mono rfl) ?_
        apply_assumption
        apply_assumption
        assumption
    · refine State.Keeps.pair ?_
      refine State.Keeps.ite ?_ ?_
      · apply_assumption
        apply_assumption
        assumption
      · apply_assumption
        assumption

theorem State.wrCfConst_keeps {w : Nat} {s0 : State} {x0 : State} {x1 : Port} {x2 : Fin 4} {x3 : Word} (hw : Has w 348539531920356287395027365701541193319264) (hx0 : State.Keeps w s0 x0) :
    State.Keeps w s0 (State.wrCfConst x0 x1 x2 x3) := by
  unfold State.wrCfConst
  extract_lets -merge -useContext +onlyGivenNames v1
  clear_value v1
  refine State.rws_keeps (hw.mono rfl) ?_ ?_ ?_
  · assumption
  · intro a5 a6
    refine State.Keeps.idS ?_
    assumption
  · intro a10 a11
    refine State.Keeps.iteSnd ?_ ?_
    · refine State.Keeps.pair ?_
      refine State.sf_keeps ?_ ?_
      · exact hw.reg (by omega) (RegGroup.metCtrl_at (by omega) (by omega)) rfl
      · assumption
    · refine State.Keeps.pair ?_
      refine State.sf_keeps ?_ ?_
      · exact hw.reg (by omega) (RegGroup.cf_at (by omega) (by omega)) rfl
      · assumption

theorem State.setCalShadow_keeps {w : Nat} {s0 : State} {x0 : State} {x1 : ℕ} {x2 : CalSet} (hw : Has w 1298074214633706907132624082305024) (hx0 : State.Keeps w s0 x0) (hx1 : x1 < 16 ∨ Has w allRegs) :
    State.Keeps w s0 (State.setCalShadow x0 x1 x2) := by
  unfold State.setCalShadow
  refine State.sfs_keeps ?_ ?_
  · refine ⟨?_, ?_⟩
    · dsimp only
      exact hx1.elim (fun _ => hw.reg (by omega) (RegGroup.cal_at (by omega) (by omega)) rfl) .inr
    · refine ⟨?_, ?_⟩
      · dsimp only
        exact hx1.elim (fun _ => hw.reg (by omega) (RegGroup.cal_at (by omega) (by omega)) rfl) .inr
      · refine ⟨?_, ?_⟩
        · dsimp only
          exact hx1.elim (fun _ => hw.reg (by omega) (RegGroup.cal_at (by omega) (by omega)) rfl) .inr
        · refine ⟨?_, ?_⟩
          · dsimp only
            exact hx1.elim (fun _ => hw.reg (by omega) (RegGroup.cal_at (by omega) (by omega)) rfl) .inr
          · exact trivial
  · assumption

theorem State.wrCal_keeps {w : Nat} {s0 : State} {x0 : State} {x1 : Port} {x2 : Fin 16} {x3 : ℕ} {x4 : Word} (hw : Has w 348539532528828575504577478419958731899744) (hx0 : State.Keeps w s0 x0) :
    State.Keeps w s0 (State.wrCal x0 x1 x2 x3 x4) := by
  unfold State.wrCal
  extract_lets -merge -useContext +onlyGivenNames v1
  clear_value v1
  extract_lets -merge -useContext +onlyGivenNames v3
  clear_value v3
  extract_lets -merge -useContext +onlyGivenNames v5
  clear_value v5
  refine State.Keeps.ite ?_ ?_
  · assumption
  · refine State.rws_keeps (hw.mono rfl) ?_ ?_ ?_
    · assumption
    · intro a11 a12
      refine State.Keeps.idS ?_
      assumption
    · intro a16 a17
      refine State.Keeps.pair ?_
      refine State.setCalShadow_keeps (hw.mono rfl) ?_ ?_
      · assumption
      · exact .inl (by omega)

theorem State.wrField_keeps {w : Nat} {s0 : State} {x0 : State} {x1 : ℕ} {x2 : ℕ} {x3 : FldRow} (hw : Has w 11692013098647223345629478661711817413173750792192) (hx0 : State.Keeps w s0 x0) :
    State.Keeps w s0 (State.wrField x0 x1 x2 x3) := by
  unfold State.wrField
  extract_lets -merge -useContext +onlyGivenNames v1
  clear_value v1
  split
  · rename_i b3 e4
    refine State.sf_keeps ?_ ?_
    · unfold FldRow.at
      exact .inr (hw.mono rfl)
    · assumption
  · rename_i b9 e10
    refine State.sf_keeps ?_ ?_
    · unfold FldRow.at
      exact .inr (hw.mono rfl)
    · assumption
  · rename_i b15 e16
    refine State.sf_keeps ?_ ?_
    · unfold FldRow.at
      exact .inr (hw.mono rfl)
    · assumption
  · rename_i b21 e22
    assumption
  · rename_i b24 e25
    assumption

theorem State.wrPlain_keeps {w : Nat} {s0 : State} {x0 : State} {x1 : Port} {x2 : ℕ} {x3 : Word} (hw : Has w 11692013098647223345629478661711817422229690385248) (hx0 : State.Keeps w s0 x0) :
    State.Keeps w s0 (State.wrPlain x0 x1 x2 x3) := by
  unfold State.wrPlain
  split
  · rename_i b1 e2
    assumption
  · rename_i b4 b5 e6
    extract_lets -merge -useContext +onlyGivenNames v8
    clear_value v8
    extract_lets -merge -useContext +onlyGivenNames v10
    clear_value v10
    extract_lets -merge -useContext +onlyGivenNames v12
    have h13 : ∀ t0, State.Keeps w s0 t0 → State.Keeps w s0 (v12 t0) := by
      intro a14 a15
      unfold v12
      refine State.Keeps.foldl ?_ ?_
      · assumption
      · intro a19 a20 a21
        refine State.wrField_keeps (hw.mono rfl) ?_
        assumption
    clear_value v12
    refine State.rws_keeps (hw.mono rfl) ?_ ?_ ?_
    · assumption
    · intro a27 a28
      apply_assumption
      assumption
    · intro a32 a33
      refine State.Keeps.pair ?_
      refine State.Keeps.foldl ?_ ?_
      · apply_assumption
        assumption
      · intro a39 a40 a41
        refine State.wrField_keeps (hw.mono rfl) ?_
        assumption

theorem State.wrMetBlock_keeps {w : Nat} {s0 : State} {x0 : State} {x1 : Port} {x2 : ℕ} {x3 : Word} (hw : Has w 11692013098647223345629478661711817985179673693024) (hx0 : State.Keeps w s0 x0) :
    State.Keeps w s0 (State.wrMetBlock x0 x1 x2 x3) := by
  unfold State.wrMetBlock
  refine State.Keeps.ite ?_ ?_
  · refine State.metCtrl_keeps (hw.mono rfl) ?_
    assumption
  · refine State.Keeps.ite ?_ ?_
    · refine State.wrCalCtrl_keeps (hw.mono rfl) ?_
      assumption
    · refine State.Keeps.ite ?_ ?_
      · refine State.wrMetEsel_keeps (hw.mono rfl) ?_
        assumption
      · refine State.Keeps.ite ?_ ?_
        · refine State.wrCfCfg_keeps (hw.mono rfl) ?_
          assumption
        · refine State.Keeps.ite ?_ ?_
          · refine State.wrCfConst_keeps (hw.mono rfl) ?_
            assumption
          · refine State.Keeps.ite ?_ ?_
            · refine State.wrCal_keeps (hw.mono rfl) ?_
              assumption
            · refine State.wrPlain_keeps (hw.mono rfl) ?_
              assumption

theorem State.tariffReset_keeps {w : Nat} {s0 : State} {x0 : State} {x1 : Fin 2} (hw : Has w 1361129467683753853853498429727077040128) (hx0 : State.Keeps w s0 x0) :
    State.Keeps w s0 (State.tariffReset x0 x1) := by
  unfold State.tariffReset
  refine State.sf_keeps ?_ ?_
  · exact hw.reg (by omega) (RegGroup.bilStat_at (by omega) (by omega)) rfl
  · refine State.setBil_keeps (hw.mono rfl) ?_
    assumption

theorem State.logTariff_keeps {w : Nat} {s0 : State} {x0 : State} {x1 : Fin 2} (hw : Has w 348539531230754360870870571278538556572512) (hx0 : State.Keeps w s0 x0) :
    State.Keeps w s0 (State.logTariff x0 x1) := by
  unfold State.logTariff
  refine State.log_keeps (hw.mono rfl) ?_
  assumption

theorem State.wrBilCtrl_keeps {w : Nat} {s0 : State} {x0 : State} {x1 : Port} {x2 : Word} (hw : Has w 352622919633805622432431066576515872326496) (hx0 : State.Keeps w s0 x0) :
    State.Keeps w s0 (State.wrBilCtrl x0 x1 x2) := by
  unfold State.wrBilCtrl
  extract_lets -merge -useContext +onlyGivenNames v1
  clear_value v1
  refine State.rws_keeps (hw.mono rfl) ?_ ?_ ?_
  · assumption
  · intro a5 a6
    refine State.Keeps.idS ?_
    assumption
  · intro a10 a11
    extract_lets -merge -useContext +onlyGivenNames v13
    have h14 : ∀ t0 t1, State.Keeps w s0 t0 → State.Keeps w s0 (v13 t0 t1) := by
      intro a15 a16 a17
      unfold v13
      refine State.Keeps.ite ?_ ?_
      · refine State.setBil_keeps (hw.mono rfl) ?_
        assumption
      · assumption
    clear_value v13
    extract_lets -merge -useContext +onlyGivenNames y23
    have h24 : State.Keeps w s0 y23 := by
      unfold y23
      apply_assumption
      apply_assumption
      assumption
    clear_value y23
    refine State.Keeps.iteSnd ?_ ?_
    · refine State.Keeps.iteSnd ?_ ?_
      · refine State.Keeps.pair ?_
        refine State.sf_keeps ?_ ?_
        · exact hw.reg (by omega) (RegGroup.bilErr_at (by omega) (by omega)) rfl
        · assumption
      · refine State.Keeps.pair ?_
        refine State.highClear_keeps (hw.mono rfl) ?_
        refine State.tariffReset_keeps (hw.mono rfl) ?_
        refine State.tariffReset_keeps (hw.mono rfl) ?_
        refine State.logTariff_keeps (hw.mono rfl) ?_
        refine State.logTariff_keeps (hw.mono rfl) ?_
        assumption
    · assumption

theorem State.wrBilCfg_keeps {w : Nat} {s0 : State} {x0 : State} {x1 : Port} {x2 : Fin 2} {x3 : Word} (hw : Has w 351942354899963745505504317361652331709280) (hx0 : State.Keeps w s0 x0) :
    State.Keeps w s0 (State.wrBilCfg x0 x1 x2 x3) := by
  unfold State.wrBilCfg
  extract_lets -merge -useContext +onlyGivenNames v1
  clear_value v1
  extract_lets -merge -useContext +onlyGivenNames v3
  clear_value v3
  extract_lets -merge -useContext +onlyGivenNames v5
  clear_value v5
  refine State.Keeps.ite ?_ ?_
  · assumption
  · refine State.rws_keeps (hw.mono rfl) ?_ ?_ ?_
    · assumption
    · intro a11 a12
      refine State.Keeps.idS ?_
      assumption
    · intro a16 a17
      refine State.Keeps.iteSnd ?_ ?_
      · refine State.Keeps.pair ?_
        refine State.sf_keeps ?_ ?_
        · exact hw.reg (by omega) (RegGroup.bilErr_at (by omega) (by omega)) rfl
        · assumption
      · refine State.Keeps.pair ?_
        refine State.sfs_keeps ?_ ?_
        · refine ⟨?_, ?_⟩
          · dsimp only
            exact hw.reg (by omega) (RegGroup.bilCfg_at (by omega) (by omega)) rfl
          · refine ⟨?_, ?_⟩
            · dsimp only
              exact hw.reg (by omega) (RegGroup.bilCfg_at (by omega) (by omega)) rfl
            · refine ⟨?_, ?_⟩
              · dsimp only
                exact hw.reg (by omega) (RegGroup.bilCfg_at (by omega) (by omega)) rfl
              · refine ⟨?_, ?_⟩
                · dsimp only
                  exact hw.reg (by omega) (RegGroup.bilCfg_at (by omega) (by omega)) rfl
                · exact trivial
        · assumption

end Sys2Proof.Machine
end

