-- ==== Sys2Proof/Laws/KeepsB.lean ====
section
/-! SUPPORT. Every operation of the model keeps what `State.Keeps` says: one lemma for each operation, in the order in which they
call one another (part 2 of 5). Each names, as a mask, the parts and register groups that the operation may change. -/

namespace Sys2Proof.Machine

theorem State.wrBilCalData_keeps {w : Nat} {s0 : State} {x0 : State} {x1 : Port} {x2 : Word} (hw : Has w 353984049101489376286284565006242949366624) (hx0 : State.Keeps w s0 x0) :
    State.Keeps w s0 (State.wrBilCalData x0 x1 x2) := by
  unfold State.wrBilCalData
  extract_lets -merge -useContext +onlyGivenNames v1
  clear_value v1
  refine State.Keeps.ite ?_ ?_
  · assumption
  · extract_lets -merge -useContext +onlyGivenNames v5
    clear_value v5
    refine State.rws_keeps (hw.mono rfl) ?_ ?_ ?_
    · assumption
    · intro a9 a10
      refine State.Keeps.idS ?_
      assumption
    · intro a14 a15
      refine State.Keeps.pair ?_
      refine State.sf_keeps ?_ ?_
      · exact hw.reg (by omega) (RegGroup.bilCal_at (by omega) (by omega)) rfl
      · refine State.Keeps.upd_cals (s := a14) ?_ ?_
        · exact hw.bit rfl
        · assumption

theorem State.calendarCommit_keeps {w : Nat} {s0 : State} {x0 : State} (hw : Has w 356706308036856883993991561856901002036064) (hx0 : State.Keeps w s0 x0) :
    State.Keeps w s0 (State.calendarCommit x0).2 := by
  unfold State.calendarCommit
  extract_lets -merge -useContext +onlyGivenNames v1
  clear_value v1
  extract_lets -merge -useContext +onlyGivenNames v3
  clear_value v3
  extract_lets -merge -useContext +onlyGivenNames v5
  clear_value v5
  extract_lets -merge -useContext +onlyGivenNames y7
  have h8 : State.Keeps w s0 y7 := by
    unfold y7
    refine State.Keeps.ite ?_ ?_
    · assumption
    · refine State.sf_keeps ?_ ?_
      · exact hw.reg (by omega) (RegGroup.bilErr_at (by omega) (by omega)) rfl
      · assumption
  clear_value y7
  extract_lets -merge -useContext +onlyGivenNames y15
  have h16 : State.Keeps w s0 y15 := by
    unfold y15
    refine State.Keeps.ite ?_ ?_
    · assumption
    · refine State.sf_keeps ?_ ?_
      · exact hw.reg (by omega) (RegGroup.bilErr_at (by omega) (by omega)) rfl
      · assumption
  clear_value y15
  refine State.Keeps.iteSnd ?_ ?_
  · assumption
  · extract_lets -merge -useContext +onlyGivenNames v25
    clear_value v25
    extract_lets -merge -useContext +onlyGivenNames y27
    have h28 : State.Keeps w s0 y27 := by
      unfold y27
      refine State.storeRecord_keeps (hw.mono rfl) ?_
      assumption
    clear_value y27
    extract_lets -merge -useContext +onlyGivenNames y32
    have h33 : State.Keeps w s0 y32 := by
      unfold y32
      refine State.guard_keeps (hw.mono rfl) ?_
      refine State.unguardOpt_keeps (hw.mono rfl) ?_
      assumption
    clear_value y32
    extract_lets -merge -useContext +onlyGivenNames y38
    clear_value y38
    extract_lets -merge -useContext +onlyGivenNames y40
    have h41 : State.Keeps w s0 y40 := by
      unfold y40
      refine State.Keeps.upd_cals (s := y32) ?_ ?_
      · exact hw.bit rfl
      · assumption
    clear_value y40
    refine State.Keeps.pair ?_
    refine State.log_keeps (hw.mono rfl) ?_
    refine State.sf_keeps ?_ ?_
    · exact hw.reg (by omega) (RegGroup.bilCal_at (by omega) (by omega)) rfl
    · assumption

theorem State.wrBilCalCtrl_keeps {w : Nat} {s0 : State} {x0 : State} {x1 : Port} {x2 : Word} (hw : Has w 356706308036856883993991561865697095058272) (hx0 : State.Keeps w s0 x0) :
    State.Keeps w s0 (State.wrBilCalCtrl x0 x1 x2) := by
  unfold State.wrBilCalCtrl
  refine State.rws_keeps (hw.mono rfl) ?_ ?_ ?_
  · assumption
  · intro a3 a4
    refine State.Keeps.idS ?_
    assumption
  · intro a8 a9
    refine State.calendarCommit_keeps (hw.mono rfl) ?_
    assumption

theorem State.wrBilSel_keeps {w : Nat} {s0 : State} {x0 : State} {x1 : Word} (hw : Has w 10889035741470030830827987437816582766592) (hx0 : State.Keeps w s0 x0) :
    State.Keeps w s0 (State.wrBilSel x0 x1) := by
  unfold State.wrBilSel
  extract_lets -merge -useContext +onlyGivenNames v1
  extract_lets -merge -useContext +onlyGivenNames v3
  clear_value v3
  extract_lets -merge -useContext +onlyGivenNames v5
  extract_lets -merge -useContext +onlyGivenNames v7
  clear_value v7
  extract_lets -merge -useContext +onlyGivenNames v9
  clear_value v9
  extract_lets -merge -useContext +onlyGivenNames y11
  have h12 : State.Keeps w s0 y11 := by
    unfold y11
    refine State.sfs_keeps ?_ ?_
    · refine ⟨?_, ?_⟩
      · dsimp only
        exact hw.reg (by omega) (RegGroup.bilSel_at (by omega) (by omega)) rfl
      · refine ⟨?_, ?_⟩
        · dsimp only
          exact hw.reg (by omega) (RegGroup.bilSel_at (by omega) (by omega)) rfl
        · refine ⟨?_, ?_⟩
          · dsimp only
            exact hw.reg (by omega) (RegGroup.bilSel_at (by omega) (by omega)) rfl
          · refine ⟨?_, ?_⟩
            · dsimp only
              exact hw.reg (by omega) (RegGroup.bilSel_at (by omega) (by omega)) rfl
            · refine ⟨?_, ?_⟩
              · dsimp only
                exact hw.reg (by omega) (RegGroup.bilSel_at (by omega) (by omega)) rfl
              · exact trivial
    · assumption
  clear_value y11
  extract_lets -merge -useContext +onlyGivenNames v27
  clear_value v27
  extract_lets -merge -useContext +onlyGivenNames v29
  have h30 : ∀ t0 t1 t2 t3 t4 t5 t6, State.Keeps w s0 (v29 t0 t1 t2 t3 t4 t5 t6) := by
    intro a31 a32 a33 a34 a35 a36 a37
    unfold v29
    refine State.sfs_keeps ?_ ?_
    · refine ⟨?_, ?_⟩
      · dsimp only
        exact hw.reg (by omega) (RegGroup.bilSel_at (by omega) (by omega)) rfl
      · refine ⟨?_, ?_⟩
        · dsimp only
          exact hw.reg (by omega) (RegGroup.bilSel_at (by omega) (by omega)) rfl
        · refine ⟨?_, ?_⟩
          · dsimp only
            exact hw.reg (by omega) (RegGroup.bilSel_at (by omega) (by omega)) rfl
          · refine ⟨?_, ?_⟩
            · dsimp only
              exact hw.reg (by omega) (RegGroup.bilSel_at (by omega) (by omega)) rfl
            · refine ⟨?_, ?_⟩
              · dsimp only
                exact hw.reg (by omega) (RegGroup.bilSel_at (by omega) (by omega)) rfl
              · refine ⟨?_, ?_⟩
                · dsimp only
                  exact hw.reg (by omega) (RegGroup.bilSel_at (by omega) (by omega)) rfl
                · refine ⟨?_, ?_⟩
                  · dsimp only
                    exact hw.reg (by omega) (RegGroup.bilSel_at (by omega) (by omega)) rfl
                  · exact trivial
    · assumption
  clear_value v29
  extract_lets -merge -useContext +onlyGivenNames v56
  have h57 : ∀ t0 t1 t2, State.Keeps w s0 (v56 t0 t1 t2) := by
    intro a58 a59 a60
    unfold v56
    apply_assumption
  clear_value v56
  extract_lets -merge -useContext +onlyGivenNames v63
  have h64 : ∀ t0 t1 t2 t3, State.Keeps w s0 (v63 t0 t1 t2 t3) := by
    intro a65 a66 a67 a68
    unfold v63
    apply_assumption
  clear_value v63
  refine State.Keeps.ite ?_ ?_
  · apply_assumption
  · split
    · rename_i b73
      apply_assumption
    · rename_i b75
      apply_assumption
    · rename_i b77 e78 e79
      split
      · rename_i b81 e82
        apply_assumption
      · rename_i b84 b85 e86
        extract_lets -merge -useContext +onlyGivenNames v88
        clear_value v88
        refine State.Keeps.ite ?_ ?_
        · apply_assumption
        · apply_assumption

theorem State.wrBilBlock_keeps {w : Nat} {s0 : State} {x0 : State} {x1 : Port} {x2 : ℕ} {x3 : Word} (hw : Has w 11692013098647223345629478661711817422229702968160) (hx0 : State.Keeps w s0 x0) :
    State.Keeps w s0 (State.wrBilBlock x0 x1 x2 x3) := by
  unfold State.wrBilBlock
  refine State.Keeps.ite ?_ ?_
  · refine State.wrBilCtrl_keeps (hw.mono rfl) ?_
    assumption
  · refine State.Keeps.ite ?_ ?_
    · refine State.wrBilCfg_keeps (hw.mono rfl) ?_
      assumption
    · refine State.Keeps.ite ?_ ?_
      · refine State.wrBilCfg_keeps (hw.mono rfl) ?_
        assumption
      · refine State.Keeps.ite ?_ ?_
        · refine State.wrBilCalData_keeps (hw.mono rfl) ?_
          assumption
        · refine State.Keeps.ite ?_ ?_
          · refine State.wrBilCalCtrl_keeps (hw.mono rfl) ?_
            assumption
          · refine State.Keeps.ite ?_ ?_
            · refine State.wrBilSel_keeps (hw.mono rfl) ?_
              assumption
            · refine State.wrPlain_keeps (hw.mono rfl) ?_
              assumption

theorem State.wrSliceBlock_keeps {w : Nat} {s0 : State} {x0 : State} {x1 : Port} {x2 : ℕ} {x3 : Word} (hw : Has w 11692013098647223345629478661711817985179673693024) (hx0 : State.Keeps w s0 x0) :
    State.Keeps w s0 (State.wrSliceBlock x0 x1 x2 x3) := by
  unfold State.wrSliceBlock
  refine State.Keeps.ite ?_ ?_
  · refine State.wrMetBlock_keeps (hw.mono rfl) ?_
    assumption
  · refine State.wrBilBlock_keeps (hw.mono rfl) ?_
    assumption

theorem State.deferRun_keeps {w : Nat} {s0 : State} {x0 : State} (hw : Has w 11692013098647223345629478661711817985179740801888) (hx0 : State.Keeps w s0 x0) :
    State.Keeps w s0 (State.deferRun x0) := by
  unfold State.deferRun
  refine State.Keeps.foldl ?_ ?_
  · refine State.Keeps.upd_deferW (s := x0) ?_ ?_
    · exact hw.bit rfl
    · assumption
  · intro a5 a6 a7
    refine State.wrSliceBlock_keeps (hw.mono rfl) ?_
    assumption

theorem State.smpRelease_keeps {w : Nat} {s0 : State} {x0 : State} {x1 : Fin 16} {x2 : Option DevTime} {x3 : ℕ} (hw : Has w 348539531230754360870870575782138183943008) (hx0 : State.Keeps w s0 x0) :
    State.Keeps w s0 (State.smpRelease x0 x1 x2 x3) := by
  unfold State.smpRelease
  extract_lets -merge -useContext +onlyGivenNames v1
  clear_value v1
  extract_lets -merge -useContext +onlyGivenNames v3
  clear_value v3
  extract_lets -merge -useContext +onlyGivenNames v5
  clear_value v5
  extract_lets -merge -useContext +onlyGivenNames v7
  clear_value v7
  extract_lets -merge -useContext +onlyGivenNames v9
  clear_value v9
  extract_lets -merge -useContext +onlyGivenNames v11
  clear_value v11
  split
  rename_i b13 b14 b15 e16
  extract_lets -merge -useContext +onlyGivenNames v18
  clear_value v18
  extract_lets -merge -useContext +onlyGivenNames y20
  have h21 : State.Keeps w s0 y20 := by
    unfold y20
    refine State.setChan_keeps ?_ ?_ ?_
    · exact hw.bit rfl
    · exact .inr fun _ => rfl
    · assumption
  clear_value y20
  refine State.Keeps.ite ?_ ?_
  · refine State.emits_keeps (hw.mono rfl) ?_
    assumption
  · refine State.emits_keeps (hw.mono rfl) ?_
    assumption

theorem State.evStat_keeps {w : Nat} {s0 : State} {x0 : State} {x1 : Fin 2} (hw : Has w 83076749736557242056487941267521536) (hx0 : State.Keeps w s0 x0) :
    State.Keeps w s0 (State.evStat x0 x1) := by
  unfold State.evStat
  extract_lets -merge -useContext +onlyGivenNames v1
  clear_value v1
  refine State.sfs_keeps ?_ ?_
  · refine ⟨?_, ?_⟩
    · dsimp only
      exact hw.reg (by omega) (RegGroup.evtStat_at (by omega) (by omega)) rfl
    · refine ⟨?_, ?_⟩
      · dsimp only
        exact hw.reg (by omega) (RegGroup.evtStat_at (by omega) (by omega)) rfl
      · refine ⟨?_, ?_⟩
        · dsimp only
          exact hw.reg (by omega) (RegGroup.evtStat_at (by omega) (by omega)) rfl
        · refine ⟨?_, ?_⟩
          · dsimp only
            exact hw.reg (by omega) (RegGroup.evtStat_at (by omega) (by omega)) rfl
          · refine ⟨?_, ?_⟩
            · dsimp only
              exact hw.reg (by omega) (RegGroup.evtStat_at (by omega) (by omega)) rfl
            · refine ⟨?_, ?_⟩
              · dsimp only
                exact hw.reg (by omega) (RegGroup.evtStat_at (by omega) (by omega)) rfl
              · exact trivial
  · assumption

theorem State.grpLost_keeps {w : Nat} {s0 : State} {x0 : State} {x1 : Fin 2} (hw : Has w 348539614388633735842719314528818414226272) (hx0 : State.Keeps w s0 x0) :
    State.Keeps w s0 (State.grpLost x0 x1) := by
  unfold State.grpLost
  extract_lets -merge -useContext +onlyGivenNames v1
  clear_value v1
  refine State.Keeps.ite ?_ ?_
  · assumption
  · extract_lets -merge -useContext +onlyGivenNames v5
    clear_value v5
    extract_lets -merge -useContext +onlyGivenNames y7
    have h8 : State.Keeps w s0 y7 := by
      unfold y7
      refine State.setGrp_keeps ?_ ?_ ?_ ?_
      · exact hw.bit rfl
      · exact .inr fun _ => rfl
      · exact .inr fun _ => rfl
      · assumption
    clear_value y7
    extract_lets -merge -useContext +onlyGivenNames y15
    have h16 : State.Keeps w s0 y15 := by
      unfold y15
      refine State.setBil_keeps (hw.mono rfl) ?_
      assumption
    clear_value y15
    extract_lets -merge -useContext +onlyGivenNames y20
    have h21 : State.Keeps w s0 y20 := by
      unfold y20
      refine State.setOpen_keeps (hw.mono rfl) ?_
      refine State.sf_keeps ?_ ?_
      · exact hw.reg (by omega) (RegGroup.metStat_at (by omega) (by omega)) rfl
      · assumption
    clear_value y20
    extract_lets -merge -useContext +onlyGivenNames y27
    have h28 : State.Keeps w s0 y27 := by
      unfold y27
      refine State.Keeps.foldlMem ?_ ?_
      · assumption
      · intro a31 a32 a33 a34
        have a35 := mem_bitsOf_lt a33
        split
        · rename_i e37
          refine State.smpRelease_keeps (hw.mono rfl) ?_
          assumption
        · rename_i e40
          refine State.smpRelease_keeps (hw.mono rfl) ?_
          assumption
    clear_value y27
    refine State.release_keeps (hw.mono rfl) ?_
    refine State.evStat_keeps (hw.mono rfl) ?_
    refine State.aggFeed_keeps (hw.mono rfl) ?_
    refine State.bilOrder_keeps (hw.mono rfl) ?_
    assumption

theorem State.sliceLost_keeps {w : Nat} {s0 : State} {x0 : State} (hw : Has w 11692013098647223345629478661711822488779636607840) (hx0 : State.Keeps w s0 x0) :
    State.Keeps w s0 (State.sliceLost x0) := by
  unfold State.sliceLost
  extract_lets -merge -useContext +onlyGivenNames y1
  clear_value y1
  extract_lets -merge -useContext +onlyGivenNames y3
  have h4 : State.Keeps w s0 y3 := by
    unfold y3
    refine State.Keeps.upd_slc (s := x0) ?_ ?_
    · exact hw.bit rfl
    · assumption
  clear_value y3
  extract_lets -merge -useContext +onlyGivenNames y9
  have h10 : State.Keeps w s0 y9 := by
    unfold y9
    refine State.sfs_keeps ?_ ?_
    · refine ⟨?_, ?_⟩
      · dsimp only
        exact hw.reg (by omega) (RegGroup.slice_at (by omega) (by omega)) rfl
      · refine ⟨?_, ?_⟩
        · dsimp only
          exact hw.reg (by omega) (RegGroup.slice_at (by omega) (by omega)) rfl
        · exact trivial
    · refine State.setRoles_keeps (hw.mono rfl) ?_
      assumption
  clear_value y9
  refine State.deferRun_keeps (hw.mono rfl) ?_
  refine State.grpLost_keeps (hw.mono rfl) ?_
  refine State.grpLost_keeps (hw.mono rfl) ?_
  refine State.raise_keeps (hw.mono rfl) ?_ ?_
  · assumption
  · exact .inl (by omega)

theorem State.setSw_keeps {w : Nat} {s0 : State} {x0 : State} {x1 : Switch → Switch} (hw : Has w 268435456) (hx0 : State.Keeps w s0 x0) :
    State.Keeps w s0 (State.setSw x0 x1) := by
  unfold State.setSw
  refine State.Keeps.upd_slc (s := x0) ?_ ?_
  · exact hw.bit rfl
  · assumption

theorem State.switchRoles_keeps {w : Nat} {s0 : State} {x0 : State} (hw : Has w 11692013098647223345629478661711822488779636607840) (hx0 : State.Keeps w s0 x0) :
    State.Keeps w s0 (State.switchRoles x0) := by
  unfold State.switchRoles
  split
  · rename_i b1 e2
    assumption
  · rename_i b4 b5 e6
    split
    · rename_i b8 e9
      assumption
    · rename_i b11 b12 b13 e14
      refine State.Keeps.ite ?_ ?_
      · assumption
      · split
        · rename_i b18 e19
          refine State.sliceLost_keeps (hw.mono rfl) ?_
          assumption
        · rename_i b22 b23 b24 b25 e26
          refine State.setSw_keeps (hw.mono rfl) ?_
          refine State.setRoles_keeps (hw.mono rfl) ?_
          assumption

theorem State.caddyFail_keeps {w : Nat} {s0 : State} {x0 : State} {x1 : Bool} (hw : Has w 11692013098647223345629478661711822488779636607840) (hx0 : State.Keeps w s0 x0) :
    State.Keeps w s0 (State.caddyFail x0 x1) := by
  unfold State.caddyFail
  split
  · rename_i b1 e2
    assumption
  · rename_i b4 b5 e6
    extract_lets -merge -useContext +onlyGivenNames y8
    have h9 : State.Keeps w s0 y8 := by
      unfold y8
      refine State.sf_keeps ?_ ?_
      · exact hw.reg (by omega) (RegGroup.slice_at (by omega) (by omega)) rfl
      · refine State.fenceSlice_keeps (hw.mono rfl) ?_
        assumption
    clear_value y8
    refine State.switchRoles_keeps (hw.mono rfl) ?_
    refine State.setSw_keeps (hw.mono rfl) ?_
    assumption

theorem State.calApply_keeps {w : Nat} {s0 : State} {x0 : State} {x1 : Fin 2} {x2 : ℕ} {x3 : Commit} (hw : Has w 348539531230754360870870571841488510518112) (hx0 : State.Keeps w s0 x0) :
    State.Keeps w s0 (State.calApply x0 x1 x2 x3) := by
  unfold State.calApply
  extract_lets -merge -useContext +onlyGivenNames v1
  clear_value v1
  extract_lets -merge -useContext +onlyGivenNames v3
  clear_value v3
  extract_lets -merge -useContext +onlyGivenNames v5
  clear_value v5
  extract_lets -merge -useContext +onlyGivenNames v7
  clear_value v7
  extract_lets -merge -useContext +onlyGivenNames v9
  clear_value v9
  extract_lets -merge -useContext +onlyGivenNames v11
  clear_value v11
  extract_lets -merge -useContext +onlyGivenNames y13
  have h14 : State.Keeps w s0 y13 := by
    unfold y13
    refine State.Keeps.upd_met (s := x0) ?_ ?_
    · exact hw.bit rfl
    · assumption
  clear_value y13
  extract_lets -merge -useContext +onlyGivenNames y19
  have h20 : State.Keeps w s0 y19 := by
    unfold y19
    refine State.setGrp_keeps ?_ ?_ ?_ ?_
    · exact hw.bit rfl
    · exact .inr fun _ => rfl
    · exact .inr fun _ => rfl
    · assumption
  clear_value y19
  refine State.log_keeps (hw.mono rfl) ?_
  assumption

theorem State.calApplyN_keeps {w : Nat} {s0 : State} {x0 : State} {x1 : Fin 2} {x2 : ℕ} {x3 : ℕ} (hw : Has w 348539531230754360870870571841488510518112) (hx0 : State.Keeps w s0 x0) :
    State.Keeps w s0 (State.calApplyN x0 x1 x2 x3) := by
  unfold State.calApplyN
  extract_lets -merge -useContext +onlyGivenNames v1
  clear_value v1
  extract_lets -merge -useContext +onlyGivenNames y3
  clear_value y3
  extract_lets -merge -useContext +onlyGivenNames y5
  have h6 : State.Keeps w s0 y5 := by
    unfold y5
    refine State.Keeps.upd_met (s := x0) ?_ ?_
    · exact hw.bit rfl
    · assumption
  clear_value y5
  extract_lets -merge -useContext +onlyGivenNames y11
  have h12 : State.Keeps w s0 y11 := by
    unfold y11
    refine State.setGrp_keeps ?_ ?_ ?_ ?_
    · exact hw.bit rfl
    · exact .inr fun _ => rfl
    · exact .inr fun _ => rfl
    · assumption
  clear_value y11
  refine State.Keeps.foldl ?_ ?_
  · assumption
  · intro a21 a22 a23
    refine State.calApply_keeps (hw.mono rfl) ?_
    assumption

theorem State.calReach_keeps {w : Nat} {s0 : State} {x0 : State} (hw : Has w 355345178569173130140138063427173933384544) (hx0 : State.Keeps w s0 x0) :
    State.Keeps w s0 (State.calReach x0) := by
  unfold State.calReach
  refine State.Keeps.ite ?_ ?_
  · extract_lets -merge -useContext +onlyGivenNames v2
    clear_value v2
    extract_lets -merge -useContext +onlyGivenNames y4
    have h5 : State.Keeps w s0 y4 := by
      unfold y4
      refine State.calActivate_keeps (hw.mono rfl) ?_
      assumption
    clear_value y4
    extract_lets -merge -useContext +onlyGivenNames v9
    clear_value v9
    extract_lets -merge -useContext +onlyGivenNames y11
    have h12 : State.Keeps w s0 y11 := by
      unfold y11
      refine State.actNote_keeps (hw.mono rfl) ?_
      refine State.actNote_keeps (hw.mono rfl) ?_
      assumption
    clear_value y11
    refine State.journal_keeps (hw.mono rfl) ?_
    assumption
  · assumption

theorem State.calRest_keeps {w : Nat} {s0 : State} {x0 : State} {x1 : Fin 2} (hw : Has w 348539531230754360870870571841488510518112) (hx0 : State.Keeps w s0 x0) :
    State.Keeps w s0 (State.calRest x0 x1) := by
  unfold State.calRest
  refine State.Keeps.ite ?_ ?_
  · assumption
  · refine State.calApplyN_keeps (hw.mono rfl) ?_
    assumption

theorem State.cutStep_keeps {w : Nat} {s0 : State} {x0 : State} {x1 : Fin 2} {x2 : DevTime} (hw : Has w 562949953421312) (hx0 : State.Keeps w s0 x0) :
    State.Keeps w s0 (State.cutStep x0 x1 x2) := by
  unfold State.cutStep
  refine State.setGrp_keeps ?_ ?_ ?_ ?_
  · exact hw.bit rfl
  · exact .inr fun _ => rfl
  · exact .inr fun _ => rfl
  · assumption

theorem State.calSettle_keeps {w : Nat} {s0 : State} {x0 : State} {x1 : Fin 2} (hw : Has w 348539531230754360870870571841488510518112) (hx0 : State.Keeps w s0 x0) :
    State.Keeps w s0 (State.calSettle x0 x1) := by
  unfold State.calSettle
  split
  · rename_i b1 e2
    assumption
  · rename_i b4 b5 b6 e7
    extract_lets -merge -useContext +onlyGivenNames v9
    clear_value v9
    refine State.calApplyN_keeps (hw.mono rfl) ?_
    refine State.cutStep_keeps (hw.mono rfl) ?_
    assumption

theorem State.calShadowReset_keeps {w : Nat} {s0 : State} {x0 : State} (hw : Has w 1298074214633706907132624082305024) (hx0 : State.Keeps w s0 x0) :
    State.Keeps w s0 (State.calShadowReset x0) := by
  unfold State.calShadowReset
  refine State.Keeps.foldl ?_ ?_
  · assumption
  · intro a3 a4 a5
    extract_lets -merge -useContext +onlyGivenNames v7
    extract_lets -merge -useContext +onlyGivenNames v9
    clear_value v9
    refine State.setCalShadow_keeps (hw.mono rfl) ?_ ?_
    · assumption
    · exact .inl (by omega)

theorem State.calStored_keeps {w : Nat} {s0 : State} {x0 : State} {x1 : ℕ} (hw : Has w 348539531230754360870870571841488510518112) (hx0 : State.Keeps w s0 x0) :
    State.Keeps w s0 (State.calStored x0 x1) := by
  unfold State.calStored
  extract_lets -merge -useContext +onlyGivenNames v1
  clear_value v1
  extract_lets -merge -useContext +onlyGivenNames y3
  clear_value y3
  extract_lets -merge -useContext +onlyGivenNames y5
  have h6 : State.Keeps w s0 y5 := by
    unfold y5
    refine State.Keeps.upd_met (s := x0) ?_ ?_
    · exact hw.bit rfl
    · assumption
  clear_value y5
  refine State.calRest_keeps (hw.mono rfl) ?_
  refine State.calRest_keeps (hw.mono rfl) ?_
  assumption

theorem State.calTake_keeps {w : Nat} {s0 : State} {x0 : State} {x1 : Option (ℕ × ℕ)} (hw : Has w 1427247692707298520092126979697475654968147968) (hx0 : State.Keeps w s0 x0) :
    State.Keeps w s0 (State.calTake x0 x1) := by
  unfold State.calTake
  split
  · rename_i b1
    refine State.sf_keeps ?_ ?_
    · exact hw.reg (by omega) (RegGroup.nvm_at (by omega) (by omega)) rfl
    · refine State.calShadowReset_keeps (hw.mono rfl) ?_
      assumption
  · rename_i b6 b7 b8
    extract_lets -merge -useContext +onlyGivenNames v10
    clear_value v10
    extract_lets -merge -useContext +onlyGivenNames v12
    clear_value v12
    extract_lets -merge -useContext +onlyGivenNames y14
    clear_value y14
    extract_lets -merge -useContext +onlyGivenNames y16
    have h17 : State.Keeps w s0 y16 := by
      unfold y16
      refine State.Keeps.upd_met (s := x0) ?_ ?_
      · exact hw.bit rfl
      · assumption
    clear_value y16
    refine State.sfs_keeps ?_ ?_
    · refine ⟨?_, ?_⟩
      · dsimp only
        exact hw.reg (by omega) (RegGroup.metCtrl_at (by omega) (by omega)) rfl
      · refine ⟨?_, ?_⟩
        · dsimp only
          exact hw.reg (by omega) (RegGroup.metCtrl_at (by omega) (by omega)) rfl
        · exact trivial
    · refine State.calShadowReset_keeps (hw.mono rfl) ?_
      assumption

theorem State.capArm_keeps {w : Nat} {s0 : State} {x0 : State} (hw : Has w 1329227995784915872903807060280606720) (hx0 : State.Keeps w s0 x0) :
    State.Keeps w s0 (State.capArm x0) := by
  unfold State.capArm
  refine State.sf_keeps ?_ ?_
  · exact hw.reg (by omega) (RegGroup.capStat_at (by omega) (by omega)) rfl
  · refine State.Keeps.upd_cap (s := x0) ?_ ?_
    · exact hw.bit rfl
    · assumption

theorem State.capBankLost_keeps {w : Nat} {s0 : State} {x0 : State} {x1 : ℕ} (hw : Has w 537133056) (hx0 : State.Keeps w s0 x0) :
    State.Keeps w s0 (State.capBankLost x0 x1) := by
  unfold State.capBankLost
  extract_lets -merge -useContext +onlyGivenNames v1
  clear_value v1
  refine State.Keeps.ite ?_ ?_
  · split
    rename_i b4 b5 b6 e7
    have h8 : State.Keeps w s0 b6 := by
      refine State.Keeps.ofPair e7 ?_
      refine State.drawNat_keeps (hw.mono rfl) ?_
      assumption
    extract_lets -merge -useContext +onlyGivenNames v12
    clear_value v12
    extract_lets -merge -useContext +onlyGivenNames v14
    clear_value v14
    extract_lets -merge -useContext +onlyGivenNames v16
    clear_value v16
    extract_lets -merge -useContext +onlyGivenNames y18
    clear_value y18
    extract_lets -merge -useContext +onlyGivenNames y20
    have h21 : State.Keeps w s0 y20 := by
      unfold y20
      refine State.Keeps.upd_cap (s := b6) ?_ ?_
      · exact hw.bit rfl
      · assumption
    clear_value y20
    refine State.Keeps.ite ?_ ?_
    · assumption
    · refine State.Keeps.foldlMem ?_ ?_
      · assumption
      · intro a29 a30 a31 a32
        have a33 := List.mem_range.1 a31
        split
        · rename_i b35 e36
          assumption
        · rename_i b38 b39 b40 e41
          extract_lets -merge -useContext +onlyGivenNames v43
          clear_value v43
          refine State.Keeps.upd_cap (s := a29) ?_ ?_
          · exact hw.bit rfl
          · assumption
  · assumption

theorem State.capErr_keeps {w : Nat} {s0 : State} {x0 : State} {x1 : ℕ} (hw : Has w 1329227995784915872903807060280344576) (hx0 : State.Keeps w s0 x0) :
    State.Keeps w s0 (State.capErr x0 x1) := by
  unfold State.capErr
  have h : ∀ f, regOk w f → ∀ {t : State} {c : Bool}, State.Keeps w s0 t → State.Keeps w s0 (if c then t.sf f 1 else t) := fun f hf t c h =>
    State.Keeps.ite (State.sf_keeps hf h) h
  exact h _ (hw.reg (by omega) (RegGroup.capStat_at (by omega) (by omega)) rfl) (h _ (hw.reg (by omega) (RegGroup.capStat_at (by omega) (by omega)) rfl) (h _ (hw.reg (by omega) (RegGroup.capStat_at (by omega) (by omega)) rfl) (h _ (hw.reg (by omega) (RegGroup.capStat_at (by omega) (by omega)) rfl) hx0)))

theorem State.capList_keeps {w : Nat} {s0 : State} {x0 : State} {x1 : List CapTrig} (hw : Has w 1329227995784915872903807060280606720) (hx0 : State.Keeps w s0 x0) :
    State.Keeps w s0 (State.capList x0 x1) := by
  unfold State.capList
  extract_lets -merge -useContext +onlyGivenNames y1
  clear_value y1
  extract_lets -merge -useContext +onlyGivenNames y3
  have h4 : State.Keeps w s0 y3 := by
    unfold y3
    refine State.Keeps.upd_cap (s := x0) ?_ ?_
    · exact hw.bit rfl
    · assumption
  clear_value y3
  refine State.s64_keeps ?_ ?_ ?_
  · exact hw.reg (by omega) (RegGroup.capStat_at (by omega) (by omega)) rfl
  · exact hw.reg (by omega) (RegGroup.capStat_at (by omega) (by omega)) rfl
  · assumption

theorem State.capTrigger_keeps {w : Nat} {s0 : State} {x0 : State} {x1 : ℕ} {x2 : ℕ} {x3 : DevTime} (hw : Has w 1329227995784915872903807060280606720) (hx0 : State.Keeps w s0 x0) :
    State.Keeps w s0 (State.capTrigger x0 x1 x2 x3) := by
  unfold State.capTrigger
  extract_lets -merge -useContext +onlyGivenNames v1
  clear_value v1
  extract_lets -merge -useContext +onlyGivenNames v3
  clear_value v3
  refine State.Keeps.ite ?_ ?_
  · refine State.incSat_keeps ?_ ?_
    · exact hw.reg (by omega) (RegGroup.capStat_at (by omega) (by omega)) rfl
    · assumption
  · refine State.Keeps.ite ?_ ?_
    · refine State.capList_keeps (hw.mono rfl) ?_
      refine State.sfs_keeps ?_ ?_
      · refine ⟨?_, ?_⟩
        · dsimp only
          exact hw.reg (by omega) (RegGroup.capStat_at (by omega) (by omega)) rfl
        · refine ⟨?_, ?_⟩
          · dsimp only
            exact hw.reg (by omega) (RegGroup.capStat_at (by omega) (by omega)) rfl
          · exact trivial
      · refine State.Keeps.upd_cap (s := x0) ?_ ?_
        · exact hw.bit rfl
        · assumption
    · extract_lets -merge -useContext +onlyGivenNames v20
      clear_value v20
      refine State.Keeps.ite ?_ ?_
      · extract_lets -merge -useContext +onlyGivenNames y23
        have h24 : State.Keeps w s0 y23 := by
          unfold y23
          refine State.Keeps.ite ?_ ?_
          · refine State.incSat_keeps ?_ ?_
            · exact hw.reg (by omega) (RegGroup.capStat_at (by omega) (by omega)) rfl
            · assumption
          · assumption
        clear_value y23
        refine State.capList_keeps (hw.mono rfl) ?_
        assumption
      · refine State.Keeps.ite ?_ ?_
        · refine State.capList_keeps (hw.mono rfl) ?_
          assumption
        · refine State.incSat_keeps ?_ ?_
          · exact hw.reg (by omega) (RegGroup.capStat_at (by omega) (by omega)) rfl
          · assumption

theorem State.capEvent_keeps {w : Nat} {s0 : State} {x0 : State} {x1 : ℕ} {x2 : ℕ} {x3 : DevTime} (hw : Has w 1329227995784915872903807060280606720) (hx0 : State.Keeps w s0 x0) :
    State.Keeps w s0 (State.capEvent x0 x1 x2 x3) := by
  unfold State.capEvent
  extract_lets -merge -useContext +onlyGivenNames v1
  clear_value v1
  refine State.Keeps.ite ?_ ?_
  · refine State.capTrigger_keeps (hw.mono rfl) ?_
    assumption
  · assumption

theorem State.capFlag_keeps {w : Nat} {s0 : State} {x0 : State} {x1 : ℕ} (hw : Has w 262144) (hx0 : State.Keeps w s0 x0) :
    State.Keeps w s0 (State.capFlag x0 x1) := by
  unfold State.capFlag
  refine State.Keeps.ite ?_ ?_
  · assumption
  · refine State.Keeps.upd_cap (s := x0) ?_ ?_
    · exact hw.bit rfl
    · assumption

theorem State.capGap_keeps {w : Nat} {s0 : State} {x0 : State} {x1 : ℕ} {x2 : Gap} (hw : Has w 262144) (hx0 : State.Keeps w s0 x0) :
    State.Keeps w s0 (State.capGap x0 x1 x2) := by
  unfold State.capGap
  extract_lets -merge -useContext +onlyGivenNames v1
  clear_value v1
  refine State.Keeps.ite ?_ ?_
  · refine State.Keeps.upd_cap (s := x0) ?_ ?_
    · exact hw.bit rfl
    · assumption
  · assumption

theorem State.capSample_keeps {w : Nat} {s0 : State} {x0 : State} {x1 : ℕ} {x2 : ℕ} {x3 : DevTime} {x4 : DevTime} {x5 : ℕ} (hw : Has w 262144) (hx0 : State.Keeps w s0 x0) :
    State.Keeps w s0 (State.capSample x0 x1 x2 x3 x4 x5) := by
  unfold State.capSample
  extract_lets -merge -useContext +onlyGivenNames v1
  clear_value v1
  refine State.Keeps.ite ?_ ?_
  · extract_lets -merge -useContext +onlyGivenNames v4
    clear_value v4
    extract_lets -merge -useContext +onlyGivenNames v6
    clear_value v6
    refine State.Keeps.upd_cap (s := x0) ?_ ?_
    · exact hw.bit rfl
    · assumption
  · assumption

theorem State.capWritable_keeps {w : Nat} {s0 : State} {x0 : State} {x1 : State → State} (hw : Has w 1329227995784915872903807060280344576) (hx0 : State.Keeps w s0 x0) (hx1 : ∀ t0, State.Keeps w s0 t0 → State.Keeps w s0 (x1 t0)) :
    State.Keeps w s0 (State.capWritable x0 x1) := by
  unfold State.capWritable
  refine State.Keeps.ite ?_ ?_
  · apply_assumption
    assumption
  · refine State.sf_keeps ?_ ?_
    · exact hw.reg (by omega) (RegGroup.capStat_at (by omega) (by omega)) rfl
    · assumption

theorem State.cellsClear_keeps {w : Nat} {s0 : State} {x0 : State} {x1 : ℕ} {x2 : ℕ} (hw : Has w 1048576) (hx0 : State.Keeps w s0 x0) :
    State.Keeps w s0 (State.cellsClear x0 x1 x2) := by
  unfold State.cellsClear
  refine State.Keeps.upd_stat (s := x0) ?_ ?_
  · exact hw.bit rfl
  · assumption

theorem State.histLoad_keeps {w : Nat} {s0 : State} {x0 : State} {x1 : List Byte} (hw : Has w 1048576) (hx0 : State.Keeps w s0 x0) :
    State.Keeps w s0 (State.histLoad x0 x1) := by
  unfold State.histLoad
  refine State.Keeps.foldlMem ?_ ?_
  · assumption
  · intro a2 a3 a4 a5
    have a6 := List.mem_range.1 a4
    extract_lets -merge -useContext +onlyGivenNames v8
    clear_value v8
    refine State.Keeps.upd_stat (s := a2) ?_ ?_
    · exact hw.bit rfl
    · assumption

theorem State.cfgLoad_keeps {w : Nat} {s0 : State} {x0 : State} {x1 : List Byte} (hw : Has w 11692013098647223345629478661711817413173751840768) (hx0 : State.Keeps w s0 x0) :
    State.Keeps w s0 (State.cfgLoad x0 x1) := by
  unfold State.cfgLoad
  extract_lets r
  have h : State.Keeps w s0 r.1 := by
    unfold r
    refine State.Keeps.foldlFst hx0 fun t a h => ?_
    split
    · refine State.Keeps.foldlFst h fun t a h => ?_
      refine State.Keeps.foldl h fun t a h => ?_
      split
      · exact State.sf_keeps (.inr (hw.mono rfl)) h
      · exact h
    · exact h
  exact State.histLoad_keeps (hw.mono rfl) (State.sf_keeps (.inr (hw.mono rfl)) h)

theorem State.chDiscard_keeps {w : Nat} {s0 : State} {x0 : State} {x1 : Fin 16} (hw : Has w 4503599627370496) (hx0 : State.Keeps w s0 x0) :
    State.Keeps w s0 (State.chDiscard x0 x1) := by
  unfold State.chDiscard
  refine State.setChan_keeps ?_ ?_ ?_
  · exact hw.bit rfl
  · exact .inr fun _ => rfl
  · assumption

theorem State.thrRec_keeps {w : Nat} {s0 : State} {x0 : State} {x1 : Fin 16} {x2 : ℕ} {x3 : ℕ} {x4 : List Byte} (hw : Has w 348539531230754360870870575782138183943008) (hx0 : State.Keeps w s0 x0) :
    State.Keeps w s0 (State.thrRec x0 x1 x2 x3 x4) := by
  unfold State.thrRec
  extract_lets -merge -useContext +onlyGivenNames v1
  clear_value v1
  extract_lets -merge -useContext +onlyGivenNames v3
  clear_value v3
  extract_lets -merge -useContext +onlyGivenNames v5
  clear_value v5
  refine State.emit_keeps (hw.mono rfl) ?_
  refine State.setChan_keeps ?_ ?_ ?_
  · exact hw.bit rfl
  · exact .inr fun _ => rfl
  · assumption

theorem State.thrMake_keeps {w : Nat} {s0 : State} {x0 : State} {x1 : Fin 16} {x2 : Bool} (hw : Has w 348540860458750165129556593423265259848544) (hx0 : State.Keeps w s0 x0) :
    State.Keeps w s0 (State.thrMake x0 x1 x2) := by
  unfold State.thrMake
  extract_lets -merge -useContext +onlyGivenNames v1
  clear_value v1
  split
  · rename_i b3 e4
    assumption
  · rename_i b6 b7 e8
    extract_lets -merge -useContext +onlyGivenNames v10
    clear_value v10
    extract_lets -merge -useContext +onlyGivenNames v12
    clear_value v12
    extract_lets -merge -useContext +onlyGivenNames y14
    have h15 : State.Keeps w s0 y14 := by
      unfold y14
      refine State.setThr_keeps (hw.mono rfl) ?_
      assumption
    clear_value y14
    extract_lets -merge -useContext +onlyGivenNames y19
    have h20 : State.Keeps w s0 y19 := by
      unfold y19
      refine State.sb_keeps ?_ ?_
      · unfold thrState
        refine regOk.ite ?_ ?_
        · exact hw.reg (by omega) (RegGroup.thr_at (by omega) (by omega)) rfl
        · exact hw.reg (by omega) (RegGroup.thr_at (by omega) (by omega)) rfl
      · assumption
    clear_value y19
    extract_lets -merge -useContext +onlyGivenNames y28
    have h29 : State.Keeps w s0 y28 := by
      unfold y28
      refine State.Keeps.ite ?_ ?_
      · refine State.sf_keeps ?_ ?_
        · unfold thrSeen
          refine regOk.ite ?_ ?_
          · exact hw.reg (by omega) (RegGroup.thr_at (by omega) (by omega)) rfl
          · exact hw.reg (by omega) (RegGroup.thr_at (by omega) (by omega)) rfl
        · assumption
      · assumption
    clear_value y28
    extract_lets -merge -useContext +onlyGivenNames y39
    have h40 : State.Keeps w s0 y39 := by
      unfold y39
      refine State.Keeps.ite ?_ ?_
      · refine State.setThr_keeps (hw.mono rfl) ?_
        refine State.thrRec_keeps (hw.mono rfl) ?_
        assumption
      · refine State.setThr_keeps (hw.mono rfl) ?_
        assumption
    clear_value y39
    refine State.Keeps.ite ?_ ?_
    · refine State.capTrigger_keeps (hw.mono rfl) ?_
      assumption
    · assumption

theorem State.thrSettleTo_keeps {w : Nat} {s0 : State} {x0 : State} {x1 : Fin 16} {x2 : Bool} (hw : Has w 348540860458750165129556593423265259848544) (hx0 : State.Keeps w s0 x0) :
    State.Keeps w s0 (State.thrSettleTo x0 x1 x2) := by
  unfold State.thrSettleTo
  refine State.Keeps.foldl ?_ ?_
  · assumption
  · intro a3 a4 a5
    refine State.Keeps.ite ?_ ?_
    · refine State.thrMake_keeps (hw.mono rfl) ?_
      refine State.thrMake_keeps (hw.mono rfl) ?_
      assumption
    · refine State.Keeps.ite ?_ ?_
      · extract_lets -merge -useContext +onlyGivenNames y12
        have h13 : State.Keeps w s0 y12 := by
          unfold y12
          refine State.thrMake_keeps (hw.mono rfl) ?_
          assumption
        clear_value y12
        refine State.Keeps.ite ?_ ?_
        · refine State.thrMake_keeps (hw.mono rfl) ?_
          assumption
        · assumption
      · assumption

theorem State.thrSettle_keeps {w : Nat} {s0 : State} {x0 : State} {x1 : Fin 2} (hw : Has w 348540860458750165129556593423265259848544) (hx0 : State.Keeps w s0 x0) :
    State.Keeps w s0 (State.thrSettle x0 x1) := by
  unfold State.thrSettle
  refine State.Keeps.foldl ?_ ?_
  · assumption
  · intro a3 a4 a5
    refine State.thrMake_keeps (hw.mono rfl) ?_
    refine State.thrMake_keeps (hw.mono rfl) ?_
    assumption

theorem State.smpGap_keeps {w : Nat} {s0 : State} {x0 : State} {x1 : Fin 16} {x2 : Gap} (hw : Has w 348539531230754360870870575782138183943008) (hx0 : State.Keeps w s0 x0) :
    State.Keeps w s0 (State.smpGap x0 x1 x2) := by
  unfold State.smpGap
  extract_lets -merge -useContext +onlyGivenNames v1
  clear_value v1
  extract_lets -merge -useContext +onlyGivenNames v3
  clear_value v3
  refine State.Keeps.ite ?_ ?_
  · refine State.setChan_keeps ?_ ?_ ?_
    · exact hw.bit rfl
    · exact .inr fun _ => rfl
    · assumption
  · refine State.emit_keeps (hw.mono rfl) ?_
    refine State.smpRelease_keeps (hw.mono rfl) ?_
    assumption

theorem State.fencedGap_keeps {w : Nat} {s0 : State} {x0 : State} {x1 : Fin 16} (hw : Has w 348539531230754360870870575782138184205152) (hx0 : State.Keeps w s0 x0) :
    State.Keeps w s0 (State.fencedGap x0 x1) := by
  unfold State.fencedGap
  split
  · rename_i b1 e2
    assumption
  · rename_i b4 b5 e6
    extract_lets -merge -useContext +onlyGivenNames v8
    clear_value v8
    refine State.Keeps.ite ?_ ?_
    · assumption
    · extract_lets -merge -useContext +onlyGivenNames v12
      clear_value v12
      extract_lets -merge -useContext +onlyGivenNames y14
      have h15 : State.Keeps w s0 y14 := by
        unfold y14
        refine State.setChan_keeps ?_ ?_ ?_
        · exact hw.bit rfl
        · exact .inr fun _ => rfl
        · assumption
      clear_value y14
      refine State.capGap_keeps (hw.mono rfl) ?_
      refine State.emit_keeps (hw.mono rfl) ?_
      refine State.smpGap_keeps (hw.mono rfl) ?_
      assumption

theorem State.thrEval_keeps {w : Nat} {s0 : State} {x0 : State} {x1 : Fin 16} {x2 : ℕ} {x3 : ℕ} (hw : Has w 348539531230754360870870575782138183943008) (hx0 : State.Keeps w s0 x0) :
    State.Keeps w s0 (State.thrEval x0 x1 x2 x3) := by
  unfold State.thrEval
  extract_lets -merge -useContext +onlyGivenNames v1
  clear_value v1
  extract_lets -merge -useContext +onlyGivenNames v3
  clear_value v3
  extract_lets -merge -useContext +onlyGivenNames v5
  clear_value v5
  refine State.emit_keeps (hw.mono rfl) ?_
  refine State.setChan_keeps ?_ ?_ ?_
  · exact hw.bit rfl
  · exact .inr fun _ => rfl
  · assumption

theorem State.evRec_keeps {w : Nat} {s0 : State} {x0 : State} {x1 : Fin 2} {x2 : ℕ} {x3 : ℕ} {x4 : ℕ} {x5 : ℕ} {x6 : List Byte} (hw : Has w 348539531230754360870870571841488509993824) (hx0 : State.Keeps w s0 x0) :
    State.Keeps w s0 (State.evRec x0 x1 x2 x3 x4 x5 x6) := by
  unfold State.evRec
  extract_lets -merge -useContext +onlyGivenNames v1
  clear_value v1
  extract_lets -merge -useContext +onlyGivenNames v3
  clear_value v3
  extract_lets -merge -useContext +onlyGivenNames v5
  clear_value v5
  extract_lets -merge -useContext +onlyGivenNames v7
  clear_value v7
  refine State.emit_keeps (hw.mono rfl) ?_
  refine State.setEv_keeps (hw.mono rfl) ?_
  assumption

theorem State.evEval_keeps {w : Nat} {s0 : State} {x0 : State} {x1 : Fin 2} {x2 : ℕ} {x3 : ℕ} (hw : Has w 348539531230754360870870571841488509993824) (hx0 : State.Keeps w s0 x0) :
    State.Keeps w s0 (State.evEval x0 x1 x2 x3) := by
  unfold State.evEval
  refine State.evRec_keeps (hw.mono rfl) ?_
  assumption

theorem State.specGapOut_keeps {w : Nat} {s0 : State} {x0 : State} {x1 : Fin 2} {x2 : ℕ} {x3 : ℕ} (hw : Has w 348539531230754360870870571841488509993824) (hx0 : State.Keeps w s0 x0) :
    State.Keeps w s0 (State.specGapOut x0 x1 x2 x3) := by
  unfold State.specGapOut
  split
  · rename_i b1 e2
    assumption
  · rename_i b4 b5 b6 e7
    extract_lets -merge -useContext +onlyGivenNames v9
    have h10 : State.Keeps w s0 v9 := by
      unfold v9
      refine State.setGrp_keeps ?_ ?_ ?_ ?_
      · exact hw.bit rfl
      · exact .inr fun _ => rfl
      · exact .inr fun _ => rfl
      · assumption
    clear_value v9
    refine State.Keeps.ite ?_ ?_
    · assumption
    · extract_lets -merge -useContext +onlyGivenNames v19
      clear_value v19
      refine State.emit_keeps (hw.mono rfl) ?_
      assumption

theorem State.flickOne_keeps {w : Nat} {s0 : State} {x0 : State} {x1 : Fin 2} {x2 : Tick} (hw : Has w 562950490292224) (hx0 : State.Keeps w s0 x0) :
    State.Keeps w s0 (State.flickOne x0 x1 x2) := by
  unfold State.flickOne
  extract_lets -merge -useContext +onlyGivenNames v1
  clear_value v1
  extract_lets -merge -useContext +onlyGivenNames v3
  clear_value v3
  extract_lets -merge -useContext +onlyGivenNames v5
  clear_value v5
  extract_lets -merge -useContext +onlyGivenNames v7
  clear_value v7
  extract_lets -merge -useContext +onlyGivenNames v9
  have h10 : State.Keeps w s0 v9 := by
    unfold v9
    refine State.Keeps.upd_free (s := x0) ?_ ?_
    · exact hw.bit rfl
    · assumption
  clear_value v9
  refine State.setGrp_keeps ?_ ?_ ?_ ?_
  · exact hw.bit rfl
  · exact .inr fun _ => rfl
  · exact .inr fun _ => rfl
  · assumption

theorem State.flickTo_keeps {w : Nat} {s0 : State} {x0 : State} {x1 : Fin 2} {x2 : ℕ} (hw : Has w 562950490292224) (hx0 : State.Keeps w s0 x0) :
    State.Keeps w s0 (State.flickTo x0 x1 x2) := by
  unfold State.flickTo
  extract_lets -merge -useContext +onlyGivenNames v1
  clear_value v1
  refine State.Keeps.ite ?_ ?_
  · assumption
  · extract_lets -merge -useContext +onlyGivenNames v5
    clear_value v5
    refine State.setGrp_keeps ?_ ?_ ?_ ?_
    · exact hw.bit rfl
    · exact .inr fun _ => rfl
    · exact .inr fun _ => rfl
    · refine State.Keeps.foldl ?_ ?_
      · assumption
      · intro a13 a14 a15
        refine State.flickOne_keeps (hw.mono rfl) ?_
        assumption

theorem State.pstClose_keeps {w : Nat} {s0 : State} {x0 : State} {x1 : Fin 2} (hw : Has w 562950490292224) (hx0 : State.Keeps w s0 x0) :
    State.Keeps w s0 (State.pstClose x0 x1) := by
  unfold State.pstClose
  extract_lets -merge -useContext +onlyGivenNames y1
  have h2 : State.Keeps w s0 y1 := by
    unfold y1
    refine State.flickTo_keeps (hw.mono rfl) ?_
    assumption
  clear_value y1
  refine State.setGrp_keeps ?_ ?_ ?_ ?_
  · exact hw.bit rfl
  · exact .inr fun _ => rfl
  · exact .inr fun _ => rfl
  · assumption

theorem State.spcOpen_keeps {w : Nat} {s0 : State} {x0 : State} {x1 : Fin 2} (hw : Has w 2048) (hx0 : State.Keeps w s0 x0) :
    State.Keeps w s0 (State.spcOpen x0 x1) := by
  unfold State.spcOpen
  extract_lets -merge -useContext +onlyGivenNames v1
  clear_value v1
  extract_lets -merge -useContext +onlyGivenNames v3
  clear_value v3
  refine State.setOpen_keeps (hw.mono rfl) ?_
  assumption

theorem State.rsmpStat_keeps {w : Nat} {s0 : State} {x0 : State} {x1 : Fin 2} (hw : Has w 5316932265549267143285652188372664320) (hx0 : State.Keeps w s0 x0) :
    State.Keeps w s0 (State.rsmpStat x0 x1) := by
  unfold State.rsmpStat
  extract_lets -merge -useContext +onlyGivenNames v1
  clear_value v1
  refine State.sfs_keeps ?_ ?_
  · refine ⟨?_, ?_⟩
    · dsimp only
      exact hw.reg (by omega) (RegGroup.freq_at (by omega) (by omega)) rfl
    · refine ⟨?_, ?_⟩
      · dsimp only
        exact hw.reg (by omega) (RegGroup.freq_at (by omega) (by omega)) rfl
      · refine ⟨?_, ?_⟩
        · dsimp only
          exact hw.reg (by omega) (RegGroup.freq_at (by omega) (by omega)) rfl
        · refine ⟨?_, ?_⟩
          · dsimp only
            refine regOk.ite ?_ ?_
            · exact hw.reg (by omega) (RegGroup.aggStat_at (by omega) (by omega)) rfl
            · exact hw.reg (by omega) (RegGroup.aggStat_at (by omega) (by omega)) rfl
          · exact trivial
  · assumption

theorem State.winNote_keeps {w : Nat} {s0 : State} {x0 : State} {x1 : Fin 2} (hw : Has w 5316932265549267143286215138326085632) (hx0 : State.Keeps w s0 x0) :
    State.Keeps w s0 (State.winNote x0 x1) := by
  unfold State.winNote
  extract_lets -merge -useContext +onlyGivenNames v1
  clear_value v1
  extract_lets -merge -useContext +onlyGivenNames v3
  clear_value v3
  refine State.rsmpStat_keeps (hw.mono rfl) ?_
  refine State.setGrp_keeps ?_ ?_ ?_ ?_
  · exact hw.bit rfl
  · exact .inr fun _ => rfl
  · exact .inr fun _ => rfl
  · assumption

theorem State.winOpen_keeps {w : Nat} {s0 : State} {x0 : State} {x1 : Fin 2} {x2 : DevTime} {x3 : ℕ} (hw : Has w 5316932265549267143286215138326087680) (hx0 : State.Keeps w s0 x0) :
    State.Keeps w s0 (State.winOpen x0 x1 x2 x3) := by
  unfold State.winOpen
  extract_lets -merge -useContext +onlyGivenNames v1
  clear_value v1
  refine State.Keeps.ite ?_ ?_
  · assumption
  · extract_lets -merge -useContext +onlyGivenNames v5
    clear_value v5
    extract_lets -merge -useContext +onlyGivenNames y7
    have h8 : State.Keeps w s0 y7 := by
      unfold y7
      refine State.Keeps.ite ?_ ?_
      · assumption
      · refine State.setGrp_keeps ?_ ?_ ?_ ?_
        · exact hw.bit rfl
        · exact .inr fun _ => rfl
        · exact .inr fun _ => rfl
        · assumption
    clear_value y7
    extract_lets -merge -useContext +onlyGivenNames v17
    clear_value v17
    extract_lets -merge -useContext +onlyGivenNames v19
    clear_value v19
    extract_lets -merge -useContext +onlyGivenNames y21
    have h22 : State.Keeps w s0 y21 := by
      unfold y21
      refine State.setGrp_keeps ?_ ?_ ?_ ?_
      · exact hw.bit rfl
      · exact .inr fun _ => rfl
      · exact .inr fun _ => rfl
      · assumption
    clear_value y21
    refine State.spcOpen_keeps (hw.mono rfl) ?_
    refine State.aggOpen_keeps (hw.mono rfl) ?_
    refine State.winNote_keeps (hw.mono rfl) ?_
    assumption

theorem State.tickGroup_keeps {w : Nat} {s0 : State} {x0 : State} {x1 : Fin 2} {x2 : DevTime} (hw : Has w 348540860479032574733208264410163001428832) (hx0 : State.Keeps w s0 x0) :
    State.Keeps w s0 (State.tickGroup x0 x1 x2) := by
  unfold State.tickGroup
  extract_lets -merge -useContext +onlyGivenNames y1
  have h2 : State.Keeps w s0 y1 := by
    unfold y1
    refine State.thrSettle_keeps (hw.mono rfl) ?_
    assumption
  clear_value y1
  extract_lets -merge -useContext +onlyGivenNames y6
  have h7 : State.Keeps w s0 y6 := by
    unfold y6
    refine State.setGrp_keeps ?_ ?_ ?_ ?_
    · exact hw.bit rfl
    · exact .inr fun _ => rfl
    · exact .inr fun _ => rfl
    · assumption
  clear_value y6
  extract_lets -merge -useContext +onlyGivenNames y14
  have h15 : State.Keeps w s0 y14 := by
    unfold y14
    refine State.Keeps.foldlMem ?_ ?_
    · assumption
    · intro a18 a19 a20 a21
      have a22 := mem_bitsOf_lt a20
      split
      · rename_i e24
        extract_lets -merge -useContext +onlyGivenNames v26
        refine State.Keeps.ite ?_ ?_
        · refine State.fencedGap_keeps (hw.mono rfl) ?_
          assumption
        · refine State.thrEval_keeps (hw.mono rfl) ?_
          assumption
      · rename_i e32
        extract_lets -merge -useContext +onlyGivenNames v34
        refine State.Keeps.ite ?_ ?_
        · refine State.fencedGap_keeps (hw.mono rfl) ?_
          assumption
        · refine State.thrEval_keeps (hw.mono rfl) ?_
          assumption
  clear_value y14
  refine State.Keeps.ite ?_ ?_
  · assumption
  · extract_lets -merge -useContext +onlyGivenNames v43
    clear_value v43
    extract_lets -merge -useContext +onlyGivenNames y45
    have h46 : State.Keeps w s0 y45 := by
      unfold y45
      refine State.Keeps.ite ?_ ?_
      · assumption
      · refine State.cutStep_keeps (hw.mono rfl) ?_
        refine State.evEval_keeps (hw.mono rfl) ?_
        assumption
    clear_value y45
    extract_lets -merge -useContext +onlyGivenNames y53
    have h54 : State.Keeps w s0 y53 := by
      unfold y53
      refine State.specGapOut_keeps (hw.mono rfl) ?_
      assumption
    clear_value y53
    extract_lets -merge -useContext +onlyGivenNames v58
    clear_value v58
    refine State.Keeps.ite ?_ ?_
    · assumption
    · extract_lets -merge -useContext +onlyGivenNames y62
      have h63 : State.Keeps w s0 y62 := by
        unfold y62
        refine State.setGrp_keeps ?_ ?_ ?_ ?_
        · exact hw.bit rfl
        · exact .inr fun _ => rfl
        · exact .inr fun _ => rfl
        · assumption
      clear_value y62
      extract_lets -merge -useContext +onlyGivenNames y70
      have h71 : State.Keeps w s0 y70 := by
        unfold y70
        refine State.Keeps.ite ?_ ?_
        · refine State.pstClose_keeps (hw.mono rfl) ?_
          assumption
        · assumption
      clear_value y70
      refine State.winOpen_keeps (hw.mono rfl) ?_
      assumption

theorem State.smpFlush_keeps {w : Nat} {s0 : State} {x0 : State} {x1 : Fin 2} (hw : Has w 348539531230754360870870575782138183943008) (hx0 : State.Keeps w s0 x0) :
    State.Keeps w s0 (State.smpFlush x0 x1) := by
  unfold State.smpFlush
  refine State.Keeps.foldlMem ?_ ?_
  · assumption
  · intro a2 a3 a4 a5
    have a6 := mem_bitsOf_lt a4
    split
    · rename_i e8
      refine State.smpRelease_keeps (hw.mono rfl) ?_
      assumption
    · rename_i e11
      refine State.smpRelease_keeps (hw.mono rfl) ?_
      assumption

theorem State.f10Open_keeps {w : Nat} {s0 : State} {x0 : State} {x1 : Fin 2} (hw : Has w 2048) (hx0 : State.Keeps w s0 x0) :
    State.Keeps w s0 (State.f10Open x0 x1) := by
  unfold State.f10Open
  refine State.setOpen_keeps (hw.mono rfl) ?_
  assumption

theorem State.f10Start_keeps {w : Nat} {s0 : State} {x0 : State} {x1 : Fin 2} {x2 : DevTime} {x3 : ℕ} (hw : Has w 562949953423360) (hx0 : State.Keeps w s0 x0) :
    State.Keeps w s0 (State.f10Start x0 x1 x2 x3) := by
  unfold State.f10Start
  extract_lets -merge -useContext +onlyGivenNames v1
  clear_value v1
  refine State.f10Open_keeps (hw.mono rfl) ?_
  refine State.setGrp_keeps ?_ ?_ ?_ ?_
  · exact hw.bit rfl
  · exact .inr fun _ => rfl
  · exact .inr fun _ => rfl
  · assumption

theorem State.f10Close_keeps {w : Nat} {s0 : State} {x0 : State} {x1 : Fin 2} {x2 : DevTime} {x3 : DevTime} {x4 : ℕ} (hw : Has w 348539531251036770474522242265436298152800) (hx0 : State.Keeps w s0 x0) :
    State.Keeps w s0 (State.f10Close x0 x1 x2 x3 x4) := by
  unfold State.f10Close
  split
  · rename_i b1 e2
    assumption
  · rename_i b4 b5 e6
    extract_lets -merge -useContext +onlyGivenNames v8
    clear_value v8
    extract_lets -merge -useContext +onlyGivenNames v10
    clear_value v10
    extract_lets -merge -useContext +onlyGivenNames v12
    clear_value v12
    extract_lets -merge -useContext +onlyGivenNames v14
    clear_value v14
    split
    rename_i b16 b17 b18 e19
    extract_lets -merge -useContext +onlyGivenNames v21
    clear_value v21
    extract_lets -merge -useContext +onlyGivenNames v23
    have h24 : ∀ t0, State.Keeps w s0 t0 → State.Keeps w s0 (v23 t0) := by
      intro a25 a26
      unfold v23
      refine State.Keeps.ite ?_ ?_
      · refine State.f10Start_keeps (hw.mono rfl) ?_
        assumption
      · refine State.f10Open_keeps (hw.mono rfl) ?_
        refine State.setGrp_keeps ?_ ?_ ?_ ?_
        · exact hw.bit rfl
        · exact .inr fun _ => rfl
        · exact .inr fun _ => rfl
        · assumption
    clear_value v23
    refine State.Keeps.ite ?_ ?_
    · apply_assumption
      assumption
    · extract_lets -merge -useContext +onlyGivenNames v40
      clear_value v40
      extract_lets -merge -useContext +onlyGivenNames v42
      clear_value v42
      extract_lets -merge -useContext +onlyGivenNames v44
      clear_value v44
      extract_lets -merge -useContext +onlyGivenNames v46
      clear_value v46
      extract_lets -merge -useContext +onlyGivenNames v48
      clear_value v48
      extract_lets -merge -useContext +onlyGivenNames y50
      have h51 : State.Keeps w s0 y50 := by
        unfold y50
        refine State.Keeps.ite ?_ ?_
        · assumption
        · refine State.Keeps.upd_free (s := x0) ?_ ?_
          · exact hw.bit rfl
          · assumption
      clear_value y50
      extract_lets -merge -useContext +onlyGivenNames v58
      clear_value v58
      extract_lets -merge -useContext +onlyGivenNames v60
      clear_value v60
      extract_lets -merge -useContext +onlyGivenNames y62
      have h63 : State.Keeps w s0 y62 := by
        unfold y62
        refine State.sfs_keeps ?_ ?_
        · refine ⟨?_, ?_⟩
          · dsimp only
            exact hw.reg (by omega) (RegGroup.freq_at (by omega) (by omega)) rfl
          · refine ⟨?_, ?_⟩
            · dsimp only
              exact hw.reg (by omega) (RegGroup.freq_at (by omega) (by omega)) rfl
            · refine ⟨?_, ?_⟩
              · dsimp only
                exact hw.reg (by omega) (RegGroup.freq_at (by omega) (by omega)) rfl
              · refine ⟨?_, ?_⟩
                · dsimp only
                  exact hw.reg (by omega) (RegGroup.freq_at (by omega) (by omega)) rfl
                · refine ⟨?_, ?_⟩
                  · dsimp only
                    exact hw.reg (by omega) (RegGroup.freq_at (by omega) (by omega)) rfl
                  · refine ⟨?_, ?_⟩
                    · dsimp only
                      exact hw.reg (by omega) (RegGroup.freq_at (by omega) (by omega)) rfl
                    · refine ⟨?_, ?_⟩
                      · dsimp only
                        exact hw.reg (by omega) (RegGroup.freq_at (by omega) (by omega)) rfl
                      · exact trivial
        · assumption
      clear_value y62
      extract_lets -merge -useContext +onlyGivenNames v82
      clear_value v82
      extract_lets -merge -useContext +onlyGivenNames y84
      have h85 : State.Keeps w s0 y84 := by
        unfold y84
        apply_assumption
        assumption
      clear_value y84
      refine State.Keeps.ite ?_ ?_
      · refine State.emitL_keeps (hw.mono rfl) ?_
        assumption
      · assumption

theorem State.f10Settle_keeps {w : Nat} {s0 : State} {x0 : Fin 2} {x1 : ℕ} {x2 : DevTime} {x3 : State} (hw : Has w 348539531251036770474522242265436298152800) (hx3 : State.Keeps w s0 x3) :
    State.Keeps w s0 (State.f10Settle x0 x1 x2 x3) := by
  induction x1 generalizing x0 x2 x3
  · unfold State.f10Settle
    assumption
  · rename_i n ih
    unfold State.f10Settle
    split
    · rename_i b2 b3 e4
      refine State.Keeps.ite ?_ ?_
      · apply ih
        refine State.release_keeps (hw.mono rfl) ?_
        refine State.f10Close_keeps (hw.mono rfl) ?_
        assumption
      · assumption
    · rename_i b11 e12
      assumption

theorem State.grpClear_keeps {w : Nat} {s0 : State} {x0 : State} {x1 : Fin 2} (hw : Has w 562949953421312) (hx0 : State.Keeps w s0 x0) :
    State.Keeps w s0 (State.grpClear x0 x1) := by
  unfold State.grpClear
  refine State.setGrp_keeps ?_ ?_ ?_ ?_
  · exact hw.bit rfl
  · exact .inr fun _ => rfl
  · exact .inr fun _ => rfl
  · assumption

theorem State.specErr_keeps {w : Nat} {s0 : State} {x0 : State} {x1 : Fin 2} {x2 : Spectrum} {x3 : List (ℕ × ℚ)} (hw : Has w 536870912) (hx0 : State.Keeps w s0 x0) :
    State.Keeps w s0 (State.specErr x0 x1 x2 x3).2 := by
  unfold State.specErr
  extract_lets -merge -useContext +onlyGivenNames v1
  clear_value v1
  refine State.Keeps.pair ?_
  refine State.Keeps.upd_free (s := x0) ?_ ?_
  · exact hw.bit rfl
  · assumption

theorem State.specVals_keeps {w : Nat} {s0 : State} {x0 : State} {x1 : Fin 2} {x2 : Spectrum} {x3 : ℕ → Bool} (hw : Has w 536870912) (hx0 : State.Keeps w s0 x0) :
    State.Keeps w s0 (State.specVals x0 x1 x2 x3).2 := by
  unfold State.specVals
  extract_lets -merge -useContext +onlyGivenNames v1
  clear_value v1
  extract_lets -merge -useContext +onlyGivenNames v3
  clear_value v3
  extract_lets -merge -useContext +onlyGivenNames v5
  clear_value v5
  split
  rename_i b7 b8 b9 e10
  have h11 : State.Keeps w s0 b9 := by
    refine State.Keeps.ofPair e10 ?_
    refine State.specErr_keeps (hw.mono rfl) ?_
    assumption
  assumption

theorem State.harmRec_keeps {w : Nat} {s0 : State} {x0 : State} {x1 : Fin 2} {x2 : WinDone} (hw : Has w 536870912) (hx0 : State.Keeps w s0 x0) :
    State.Keeps w s0 (State.harmRec x0 x1 x2).2.2 := by
  unfold State.harmRec
  extract_lets -merge -useContext +onlyGivenNames v1
  clear_value v1
  extract_lets -merge -useContext +onlyGivenNames v3
  clear_value v3
  split
  rename_i b5 b6 b7 b8 e9
  extract_lets -merge -useContext +onlyGivenNames v11
  clear_value v11
  extract_lets -merge -useContext +onlyGivenNames v13
  clear_value v13
  extract_lets -merge -useContext +onlyGivenNames v15
  clear_value v15
  extract_lets -merge -useContext +onlyGivenNames v17
  clear_value v17
  extract_lets -merge -useContext +onlyGivenNames v19
  clear_value v19
  extract_lets -merge -useContext +onlyGivenNames v21
  clear_value v21
  split
  rename_i b23 b24 b25 b26 e27
  have h28 : State.Keeps w s0 b26 := by
    refine State.Keeps.ofTriple e27 ?_
    refine State.Keeps.iteSnd2 ?_ ?_
    · assumption
    · extract_lets -merge -useContext +onlyGivenNames v32
      clear_value v32
      split
      rename_i b34 b35 b36 e37
      have h38 : State.Keeps w s0 b36 := by
        refine State.Keeps.ofPair e37 ?_
        refine State.specVals_keeps (hw.mono rfl) ?_
        assumption
      extract_lets -merge -useContext +onlyGivenNames v42
      clear_value v42
      extract_lets -merge -useContext +onlyGivenNames v44
      clear_value v44
      refine State.Keeps.triple ?_
      refine State.Keeps.upd_free (s := b36) ?_ ?_
      · exact hw.bit rfl
      · assumption
  assumption

theorem State.msvStep_keeps {w : Nat} {s0 : State} {x0 : State} {x1 : Fin 2} {x2 : ℕ} {x3 : DevTime} {x4 : ℕ} {x5 : List (Option ℚ)} (hw : Has w 348540860458750145786743475648548790600544) (hx0 : State.Keeps w s0 x0) :
    State.Keeps w s0 (State.msvStep x0 x1 x2 x3 x4 x5) := by
  unfold State.msvStep
  extract_lets -merge -useContext +onlyGivenNames v1
  clear_value v1
  extract_lets -merge -useContext +onlyGivenNames v3
  clear_value v3
  extract_lets -merge -useContext +onlyGivenNames v5
  clear_value v5
  refine State.Keeps.ite ?_ ?_
  · assumption
  · extract_lets -merge -useContext +onlyGivenNames v9
    clear_value v9
    extract_lets -merge -useContext +onlyGivenNames v11
    have h12 : ∀ t0 t1, State.Keeps w s0 t1 → State.Keeps w s0 (v11 t0 t1) := by
      intro a13 a14 a15
      unfold v11
      refine State.setEv_keeps (hw.mono rfl) ?_
      assumption
    clear_value v11
    split
    · rename_i b19 e20
      refine State.Keeps.ite ?_ ?_
      · refine State.capEvent_keeps (hw.mono rfl) ?_
        apply_assumption
        assumption
      · assumption
    · rename_i b26 b27 e28
      extract_lets -merge -useContext +onlyGivenNames v30
      clear_value v30
      refine State.Keeps.ite ?_ ?_
      · apply_assumption
        assumption
      · refine State.evRec_keeps (hw.mono rfl) ?_
        apply_assumption
        assumption

theorem State.harmDone_keeps {w : Nat} {s0 : State} {x0 : State} {x1 : Fin 2} (hw : Has w 348540948727796740878813160666986924215136) (hx0 : State.Keeps w s0 x0) :
    State.Keeps w s0 (State.harmDone x0 x1) := by
  unfold State.harmDone
  split
  · rename_i b1 e2
    assumption
  · rename_i b4 b5 e6
    extract_lets -merge -useContext +onlyGivenNames y8
    have h9 : State.Keeps w s0 y8 := by
      unfold y8
      refine State.flickTo_keeps (hw.mono rfl) ?_
      assumption
    clear_value y8
    split
    rename_i b13 b14 b15 b16 e17
    have h18 : State.Keeps w s0 b16 := by
      refine State.Keeps.ofTriple e17 ?_
      refine State.harmRec_keeps (hw.mono rfl) ?_
      assumption
    extract_lets -merge -useContext +onlyGivenNames y22
    have h23 : State.Keeps w s0 y22 := by
      unfold y22
      refine State.setGrp_keeps ?_ ?_ ?_ ?_
      · exact hw.bit rfl
      · exact .inr fun _ => rfl
      · exact .inr fun _ => rfl
      · assumption
    clear_value y22
    extract_lets -merge -useContext +onlyGivenNames y30
    have h31 : State.Keeps w s0 y30 := by
      unfold y30
      refine State.incWrap_keeps ?_ ?_
      · exact hw.reg (by omega) (RegGroup.specStat_at (by omega) (by omega)) rfl
      · refine State.spcOpen_keeps (hw.mono rfl) ?_
        assumption
    clear_value y30
    extract_lets -merge -useContext +onlyGivenNames y37
    have h38 : State.Keeps w s0 y37 := by
      unfold y37
      refine State.emit_keeps (hw.mono rfl) ?_
      assumption
    clear_value y37
    extract_lets -merge -useContext +onlyGivenNames v42
    clear_value v42
    refine State.Keeps.ite ?_ ?_
    · assumption
    · refine State.evStat_keeps (hw.mono rfl) ?_
      refine State.Keeps.foldlMem ?_ ?_
      · assumption
      · intro a48 a49 a50 a51
        have a52 := List.mem_range.1 a50
        refine State.msvStep_keeps (hw.mono rfl) ?_
        assumption

theorem State.harmFlush_keeps {w : Nat} {s0 : State} {x0 : State} {x1 : Fin 2} (hw : Has w 348540948727796740878813160666986924215136) (hx0 : State.Keeps w s0 x0) :
    State.Keeps w s0 (State.harmFlush x0 x1) := by
  unfold State.harmFlush
  refine State.Keeps.foldl ?_ ?_
  · assumption
  · intro a3 a4 a5
    refine State.harmDone_keeps (hw.mono rfl) ?_
    assumption

theorem State.winEnd_keeps {w : Nat} {s0 : State} {x0 : State} {x1 : Fin 2} {x2 : DevTime} {x3 : ℕ} {x4 : List (List ℚ)} (hw : Has w 5316932265549267143286215138862956544) (hx0 : State.Keeps w s0 x0) :
    State.Keeps w s0 (State.winEnd x0 x1 x2 x3 x4) := by
  unfold State.winEnd
  split
  · rename_i b1 e2
    assumption
  · rename_i b4 b5 b6 e7
    extract_lets -merge -useContext +onlyGivenNames v9
    clear_value v9
    extract_lets -merge -useContext +onlyGivenNames y11
    have h12 : State.Keeps w s0 y11 := by
      unfold y11
      refine State.Keeps.upd_free (s := x0) ?_ ?_
      · exact hw.bit rfl
      · assumption
    clear_value y11
    extract_lets -merge -useContext +onlyGivenNames v17
    clear_value v17
    extract_lets -merge -useContext +onlyGivenNames v19
    clear_value v19
    extract_lets -merge -useContext +onlyGivenNames y21
    have h22 : State.Keeps w s0 y21 := by
      unfold y21
      refine State.setGrp_keeps ?_ ?_ ?_ ?_
      · exact hw.bit rfl
      · exact .inr fun _ => rfl
      · exact .inr fun _ => rfl
      · assumption
    clear_value y21
    extract_lets -merge -useContext +onlyGivenNames y29
    have h30 : State.Keeps w s0 y29 := by
      unfold y29
      refine State.Keeps.ite ?_ ?_
      · refine State.incWrap_keeps ?_ ?_
        · exact hw.reg (by omega) (RegGroup.freq_at (by omega) (by omega)) rfl
        · assumption
      · assumption
    clear_value y29
    refine State.rsmpStat_keeps (hw.mono rfl) ?_
    assumption

theorem State.cutBills_keeps {w : Nat} {s0 : State} {x0 : State} {x1 : Fin 2} {x2 : DevTime} {x3 : DevTime} (hw : Has w 562949953421312) (hx0 : State.Keeps w s0 x0) :
    State.Keeps w s0 (State.cutBills x0 x1 x2 x3) := by
  unfold State.cutBills
  extract_lets -merge -useContext +onlyGivenNames v1
  clear_value v1
  refine State.Keeps.ite ?_ ?_
  · refine State.cutStep_keeps (hw.mono rfl) ?_
    assumption
  · assumption

theorem State.cycleEnd_keeps {w : Nat} {s0 : State} {x0 : State} {x1 : Fin 2} {x2 : DevTime} {x3 : ℕ → ℚ} {x4 : ℕ} (hw : Has w 81129638414606682258738958565376) (hx0 : State.Keeps w s0 x0) :
    State.Keeps w s0 (State.cycleEnd x0 x1 x2 x3 x4) := by
  unfold State.cycleEnd
  extract_lets -merge -useContext +onlyGivenNames v1
  clear_value v1
  extract_lets -merge -useContext +onlyGivenNames v3
  clear_value v3
  extract_lets -merge -useContext +onlyGivenNames v5
  clear_value v5
  extract_lets -merge -useContext +onlyGivenNames v7
  clear_value v7
  extract_lets -merge -useContext +onlyGivenNames v9
  clear_value v9
  extract_lets -merge -useContext +onlyGivenNames v11
  clear_value v11
  extract_lets -merge -useContext +onlyGivenNames v13
  clear_value v13
  extract_lets -merge -useContext +onlyGivenNames v15
  clear_value v15
  extract_lets -merge -useContext +onlyGivenNames v17
  clear_value v17
  extract_lets -merge -useContext +onlyGivenNames v19
  clear_value v19
  extract_lets -merge -useContext +onlyGivenNames v21
  clear_value v21
  extract_lets -merge -useContext +onlyGivenNames v23
  clear_value v23
  extract_lets -merge -useContext +onlyGivenNames v25
  clear_value v25
  extract_lets -merge -useContext +onlyGivenNames v27
  clear_value v27
  extract_lets -merge -useContext +onlyGivenNames v29
  clear_value v29
  extract_lets -merge -useContext +onlyGivenNames v31
  clear_value v31
  extract_lets -merge -useContext +onlyGivenNames y33
  have h34 : State.Keeps w s0 y33 := by
    unfold y33
    refine State.sf_keeps ?_ ?_
    · exact hw.reg (by omega) (RegGroup.metStat_at (by omega) (by omega)) rfl
    · assumption
  clear_value y33
  extract_lets -merge -useContext +onlyGivenNames v39
  clear_value v39
  refine State.setGrp_keeps ?_ ?_ ?_ ?_
  · exact hw.bit rfl
  · exact .inr fun _ => rfl
  · exact .inr fun _ => rfl
  · assumption

theorem State.cycleCut_keeps {w : Nat} {s0 : State} {x0 : State} {x1 : Fin 2} {x2 : DevTime} (hw : Has w 81129638414606682258739495436288) (hx0 : State.Keeps w s0 x0) :
    State.Keeps w s0 (State.cycleCut x0 x1 x2) := by
  unfold State.cycleCut
  extract_lets -merge -useContext +onlyGivenNames v1
  clear_value v1
  extract_lets -merge -useContext +onlyGivenNames v3
  clear_value v3
  refine State.cycleEnd_keeps (hw.mono rfl) ?_
  refine State.Keeps.upd_free (s := x0) ?_ ?_
  · exact hw.bit rfl
  · assumption

theorem State.msvClose_keeps {w : Nat} {s0 : State} {x0 : State} {x1 : Fin 2} {x2 : ℕ} {x3 : ℕ} (hw : Has w 348539531230754360870870571841488509993824) (hx0 : State.Keeps w s0 x0) :
    State.Keeps w s0 (State.msvClose x0 x1 x2 x3) := by
  unfold State.msvClose
  extract_lets -merge -useContext +onlyGivenNames v1
  clear_value v1
  extract_lets -merge -useContext +onlyGivenNames v3
  clear_value v3
  refine State.Keeps.foldlMem ?_ ?_
  · assumption
  · intro a6 a7 a8 a9
    have a10 := List.mem_range.1 a8
    split
    · rename_i b12 b13 e14
      refine State.evRec_keeps (hw.mono rfl) ?_
      refine State.setEv_keeps (hw.mono rfl) ?_
      assumption
    · rename_i b18 e19
      assumption

theorem State.evEmit_keeps {w : Nat} {s0 : State} {x0 : State} {x1 : Fin 2} {x2 : ℕ} {x3 : Ev} {x4 : Option DevTime} {x5 : ℕ} {x6 : ℕ} {x7 : ℕ} (hw : Has w 348539531230754360870870571841488509993824) (hx0 : State.Keeps w s0 x0) :
    State.Keeps w s0 (State.evEmit x0 x1 x2 x3 x4 x5 x6 x7) := by
  unfold State.evEmit
  extract_lets -merge -useContext +onlyGivenNames v1
  clear_value v1
  extract_lets -merge -useContext +onlyGivenNames v3
  clear_value v3
  extract_lets -merge -useContext +onlyGivenNames v5
  clear_value v5
  extract_lets -merge -useContext +onlyGivenNames v7
  clear_value v7
  refine State.evRec_keeps (hw.mono rfl) ?_
  assumption

theorem State.evFinish_keeps {w : Nat} {s0 : State} {x0 : State} {x1 : Fin 2} {x2 : ℕ} {x3 : Ev} {x4 : DevTime} {x5 : ℕ} {x6 : ℕ} {x7 : ℕ} (hw : Has w 348539531230754360870870571841488509993824) (hx0 : State.Keeps w s0 x0) :
    State.Keeps w s0 (State.evFinish x0 x1 x2 x3 x4 x5 x6 x7) := by
  unfold State.evFinish
  extract_lets -merge -useContext +onlyGivenNames y1
  have h2 : State.Keeps w s0 y1 := by
    unfold y1
    refine State.setEv_keeps (hw.mono rfl) ?_
    assumption
  clear_value y1
  refine State.evEmit_keeps (hw.mono rfl) ?_
  assumption

theorem State.evClose_keeps {w : Nat} {s0 : State} {x0 : State} {x1 : Fin 2} {x2 : ℕ} {x3 : ℕ} (hw : Has w 348539531230754360870870571841488509993824) (hx0 : State.Keeps w s0 x0) :
    State.Keeps w s0 (State.evClose x0 x1 x2 x3) := by
  unfold State.evClose
  extract_lets -merge -useContext +onlyGivenNames v1
  clear_value v1
  extract_lets -merge -useContext +onlyGivenNames v3
  clear_value v3
  extract_lets -merge -useContext +onlyGivenNames y5
  have h6 : State.Keeps w s0 y5 := by
    unfold y5
    refine State.Keeps.foldlMem ?_ ?_
    · assumption
    · intro a10 a11 a12 a13
      split
      · rename_i b15 b16 e17
        refine State.evFinish_keeps (hw.mono rfl) ?_
        assumption
      · rename_i b20 e21
        assumption
  clear_value y5
  refine State.setEv_keeps (hw.mono rfl) ?_
  assumption

theorem State.evEnd_keeps {w : Nat} {s0 : State} {x0 : State} {x1 : Fin 2} {x2 : ℕ} {x3 : ℕ} (hw : Has w 348539614307504097428112628329429777515360) (hx0 : State.Keeps w s0 x0) :
    State.Keeps w s0 (State.evEnd x0 x1 x2 x3) := by
  unfold State.evEnd
  extract_lets -merge -useContext +onlyGivenNames y1
  have h2 : State.Keeps w s0 y1 := by
    unfold y1
    refine State.msvClose_keeps (hw.mono rfl) ?_
    refine State.evClose_keeps (hw.mono rfl) ?_
    assumption
  clear_value y1
  extract_lets -merge -useContext +onlyGivenNames y7
  have h8 : State.Keeps w s0 y7 := by
    unfold y7
    refine State.setEv_keeps (hw.mono rfl) ?_
    assumption
  clear_value y7
  extract_lets -merge -useContext +onlyGivenNames y12
  have h13 : State.Keeps w s0 y12 := by
    unfold y12
    refine State.Keeps.ite ?_ ?_
    · assumption
    · refine State.evEval_keeps (hw.mono rfl) ?_
      assumption
  clear_value y12
  refine State.evStat_keeps (hw.mono rfl) ?_
  assumption

theorem State.cycDone_keeps {w : Nat} {s0 : State} {x0 : State} {x1 : Fin 2} (hw : Has w 348539531230754360870870576345088137366368) (hx0 : State.Keeps w s0 x0) :
    State.Keeps w s0 (State.cycDone x0 x1) := by
  unfold State.cycDone
  split
  · rename_i b1 e2
    assumption
  · rename_i b4 b5 e6
    split
    rename_i b8 b9 b10 e11
    extract_lets -merge -useContext +onlyGivenNames y13
    have h14 : State.Keeps w s0 y13 := by
      unfold y13
      refine State.setGrp_keeps ?_ ?_ ?_ ?_
      · exact hw.bit rfl
      · exact .inr fun _ => rfl
      · exact .inr fun _ => rfl
      · assumption
    clear_value y13
    extract_lets -merge -useContext +onlyGivenNames y21
    have h22 : State.Keeps w s0 y21 := by
      unfold y21
      refine State.aggOpen_keeps (hw.mono rfl) ?_
      assumption
    clear_value y21
    extract_lets -merge -useContext +onlyGivenNames y26
    have h27 : State.Keeps w s0 y26 := by
      unfold y26
      refine State.Keeps.ite ?_ ?_
      · assumption
      · refine State.emit_keeps (hw.mono rfl) ?_
        assumption
    clear_value y26
    refine State.Keeps.foldlMem ?_ ?_
    · assumption
    · intro a34 a35 a36 a37
      have a38 := mem_bitsOf_lt a36
      split
      · rename_i e40
        refine State.smpRelease_keeps (hw.mono rfl) ?_
        assumption
      · rename_i e43
        refine State.smpRelease_keeps (hw.mono rfl) ?_
        assumption

theorem State.cycFlush_keeps {w : Nat} {s0 : State} {x0 : State} {x1 : Fin 2} (hw : Has w 348539531230754360870870576345088137366368) (hx0 : State.Keeps w s0 x0) :
    State.Keeps w s0 (State.cycFlush x0 x1) := by
  unfold State.cycFlush
  refine State.Keeps.foldlMem ?_ ?_
  · assumption
  · intro a2 a3 a4 a5
    have a6 := List.mem_range.1 a4
    refine State.cycDone_keeps (hw.mono rfl) ?_
    assumption

theorem State.sliceCut_keeps {w : Nat} {s0 : State} {x0 : State} {x1 : Fin 2} {x2 : DevTime} {x3 : DevTime} {x4 : ℕ} {x5 : ℕ} (hw : Has w 377124668299604727144848437880903408814944) (hx0 : State.Keeps w s0 x0) :
    State.Keeps w s0 (State.sliceCut x0 x1 x2 x3 x4 x5) := by
  unfold State.sliceCut
  extract_lets -merge -useContext +onlyGivenNames y1
  have h2 : State.Keeps w s0 y1 := by
    unfold y1
    refine State.calSettle_keeps (hw.mono rfl) ?_
    assumption
  clear_value y1
  extract_lets -merge -useContext +onlyGivenNames y6
  have h7 : State.Keeps w s0 y6 := by
    unfold y6
    refine State.cutBills_keeps (hw.mono rfl) ?_
    assumption
  clear_value y6
  extract_lets -merge -useContext +onlyGivenNames y11
  have h12 : State.Keeps w s0 y11 := by
    unfold y11
    refine State.Keeps.ite ?_ ?_
    · refine State.cycleCut_keeps (hw.mono rfl) ?_
      assumption
    · assumption
  clear_value y11
  extract_lets -merge -useContext +onlyGivenNames y18
  have h19 : State.Keeps w s0 y18 := by
    unfold y18
    refine State.stepsSettle_keeps (hw.mono rfl) ?_
    assumption
  clear_value y18
  extract_lets -merge -useContext +onlyGivenNames y23
  have h24 : State.Keeps w s0 y23 := by
    unfold y23
    refine State.winEnd_keeps (hw.mono rfl) ?_
    refine State.winEnd_keeps (hw.mono rfl) ?_
    assumption
  clear_value y23
  extract_lets -merge -useContext +onlyGivenNames y29
  have h30 : State.Keeps w s0 y29 := by
    unfold y29
    refine State.evEnd_keeps (hw.mono rfl) ?_
    refine State.harmFlush_keeps (hw.mono rfl) ?_
    assumption
  clear_value y29
  extract_lets -merge -useContext +onlyGivenNames y35
  have h36 : State.Keeps w s0 y35 := by
    unfold y35
    refine State.aggFeed_keeps (hw.mono rfl) ?_
    refine State.cycFlush_keeps (hw.mono rfl) ?_
    assumption
  clear_value y35
  extract_lets -merge -useContext +onlyGivenNames y41
  have h42 : State.Keeps w s0 y41 := by
    unfold y41
    refine State.pstClose_keeps (hw.mono rfl) ?_
    assumption
  clear_value y41
  extract_lets -merge -useContext +onlyGivenNames y46
  have h47 : State.Keeps w s0 y46 := by
    unfold y46
    refine State.shortClose_keeps (hw.mono rfl) ?_
    assumption
  clear_value y46
  extract_lets -merge -useContext +onlyGivenNames v51
  clear_value v51
  extract_lets -merge -useContext +onlyGivenNames v53
  clear_value v53
  extract_lets -merge -useContext +onlyGivenNames y55
  have h56 : State.Keeps w s0 y55 := by
    unfold y55
    refine State.tenClose_keeps (hw.mono rfl) ?_
    assumption
  clear_value y55
  extract_lets -merge -useContext +onlyGivenNames y60
  have h61 : State.Keeps w s0 y60 := by
    unfold y60
    refine State.twoClose_keeps (hw.mono rfl) ?_
    assumption
  clear_value y60
  refine State.bilEnd_keeps (hw.mono rfl) ?_
  refine State.grpClear_keeps (hw.mono rfl) ?_
  refine State.f10Close_keeps (hw.mono rfl) ?_
  assumption

theorem State.grpOrder_keeps {w : Nat} {s0 : State} {x0 : State} {x1 : Fin 2} (hw : Has w 348539531230754360870870571278332398144000) (hx0 : State.Keeps w s0 x0) :
    State.Keeps w s0 (State.grpOrder x0 x1) := by
  unfold State.grpOrder
  refine State.release_keeps (hw.mono rfl) ?_
  refine State.bilOrder_keeps (hw.mono rfl) ?_
  refine State.f10Open_keeps (hw.mono rfl) ?_
  refine State.spcOpen_keeps (hw.mono rfl) ?_
  refine State.aggOpen_keeps (hw.mono rfl) ?_
  assumption

theorem State.grpCut_keeps {w : Nat} {s0 : State} {x0 : State} {x1 : Fin 2} {x2 : DevTime} {x3 : ℕ} {x4 : ℕ} (hw : Has w 377124668299604727144848437880903408814944) (hx0 : State.Keeps w s0 x0) :
    State.Keeps w s0 (State.grpCut x0 x1 x2 x3 x4) := by
  unfold State.grpCut
  extract_lets -merge -useContext +onlyGivenNames v1
  clear_value v1
  extract_lets -merge -useContext +onlyGivenNames y3
  have h4 : State.Keeps w s0 y3 := by
    unfold y3
    refine State.f10Settle_keeps (hw.mono rfl) ?_
    assumption
  clear_value y3
  extract_lets -merge -useContext +onlyGivenNames y8
  have h9 : State.Keeps w s0 y8 := by
    unfold y8
    refine State.Keeps.ite ?_ ?_
    · refine State.grpClear_keeps (hw.mono rfl) ?_
      refine State.f10Close_keeps (hw.mono rfl) ?_
      refine State.aggFeed_keeps (hw.mono rfl) ?_
      refine State.harmFlush_keeps (hw.mono rfl) ?_
      refine State.winEnd_keeps (hw.mono rfl) ?_
      refine State.winEnd_keeps (hw.mono rfl) ?_
      assumption
    · refine State.sliceCut_keeps (hw.mono rfl) ?_
      assumption
  clear_value y8
  refine State.grpOrder_keeps (hw.mono rfl) ?_
  refine State.setGrp_keeps ?_ ?_ ?_ ?_
  · exact hw.bit rfl
  · exact .inr fun _ => rfl
  · exact .inr fun _ => rfl
  · refine State.smpFlush_keeps (hw.mono rfl) ?_
    assumption

theorem State.gapsOn_keeps {w : Nat} {s0 : State} {x0 : State} {x1 : List ℕ} {x2 : ℕ} {x3 : Gap} {x4 : ℕ} (hw : Has w 348539531230754360870870571278538556572512) (hx0 : State.Keeps w s0 x0) :
    State.Keeps w s0 (State.gapsOn x0 x1 x2 x3 x4) := by
  unfold State.gapsOn
  refine State.Keeps.foldlMem ?_ ?_
  · assumption
  · intro a3 a4 a5 a6
    extract_lets -merge -useContext +onlyGivenNames v8
    clear_value v8
    extract_lets -merge -useContext +onlyGivenNames v10
    clear_value v10
    refine State.Keeps.ite ?_ ?_
    · refine State.Keeps.foldlMem ?_ ?_
      · assumption
      · intro a15 a16 a17 a18
        refine State.emitL_keeps (hw.mono rfl) ?_
        assumption
    · refine State.emit_keeps (hw.mono rfl) ?_
      assumption

theorem State.spanGap_keeps {w : Nat} {s0 : State} {x0 : State} {x1 : Fin 2} (hw : Has w 348539531230754360870870576345088137626464) (hx0 : State.Keeps w s0 x0) :
    State.Keeps w s0 (State.spanGap x0 x1) := by
  unfold State.spanGap
  split
  · rename_i b1 e2
    assumption
  · rename_i b4 b5 b6 e7
    extract_lets -merge -useContext +onlyGivenNames v9
    clear_value v9
    extract_lets -merge -useContext +onlyGivenNames v11
    clear_value v11
    extract_lets -merge -useContext +onlyGivenNames y13
    have h14 : State.Keeps w s0 y13 := by
      unfold y13
      refine State.Keeps.foldlMem ?_ ?_
      · assumption
      · intro a17 a18 a19 a20
        have a21 := mem_bitsOf_lt a19
        split
        · rename_i e23
          extract_lets -merge -useContext +onlyGivenNames v25
          extract_lets -merge -useContext +onlyGivenNames y27
          have h28 : State.Keeps w s0 y27 := by
            unfold y27
            refine State.smpRelease_keeps (hw.mono rfl) ?_
            assumption
          clear_value y27
          extract_lets -merge -useContext +onlyGivenNames v32
          clear_value v32
          extract_lets -merge -useContext +onlyGivenNames y34
          have h35 : State.Keeps w s0 y34 := by
            unfold y34
            refine State.setChan_keeps ?_ ?_ ?_
            · exact hw.bit rfl
            · exact .inr fun _ => rfl
            · assumption
          clear_value y34
          extract_lets -merge -useContext +onlyGivenNames v41
          clear_value v41
          refine State.Keeps.ite ?_ ?_
          · assumption
          · extract_lets -merge -useContext +onlyGivenNames v45
            clear_value v45
            refine State.capGap_keeps (hw.mono rfl) ?_
            refine State.gapsOn_keeps (hw.mono rfl) ?_
            assumption
        · rename_i e49
          extract_lets -merge -useContext +onlyGivenNames v51
          extract_lets -merge -useContext +onlyGivenNames y53
          have h54 : State.Keeps w s0 y53 := by
            unfold y53
            refine State.smpRelease_keeps (hw.mono rfl) ?_
            assumption
          clear_value y53
          extract_lets -merge -useContext +onlyGivenNames v58
          clear_value v58
          extract_lets -merge -useContext +onlyGivenNames y60
          have h61 : State.Keeps w s0 y60 := by
            unfold y60
            refine State.setChan_keeps ?_ ?_ ?_
            · exact hw.bit rfl
            · exact .inr fun _ => rfl
            · assumption
          clear_value y60
          extract_lets -merge -useContext +onlyGivenNames v67
          clear_value v67
          refine State.Keeps.ite ?_ ?_
          · assumption
          · extract_lets -merge -useContext +onlyGivenNames v71
            clear_value v71
            refine State.capGap_keeps (hw.mono rfl) ?_
            refine State.gapsOn_keeps (hw.mono rfl) ?_
            assumption
    clear_value y13
    extract_lets -merge -useContext +onlyGivenNames y76
    have h77 : State.Keeps w s0 y76 := by
      unfold y76
      refine State.Keeps.ite ?_ ?_
      · assumption
      · refine State.gapsOn_keeps (hw.mono rfl) ?_
        assumption
    clear_value y76
    refine State.setGrp_keeps ?_ ?_ ?_ ?_
    · exact hw.bit rfl
    · exact .inr fun _ => rfl
    · exact .inr fun _ => rfl
    · assumption

theorem State.monGap_keeps {w : Nat} {s0 : State} {x0 : State} {x1 : Fin 2} {x2 : Bool} (hw : Has w 348539531230754360870870571841488509993824) (hx0 : State.Keeps w s0 x0) :
    State.Keeps w s0 (State.monGap x0 x1 x2) := by
  unfold State.monGap
  extract_lets -merge -useContext +onlyGivenNames v1
  clear_value v1
  extract_lets -merge -useContext +onlyGivenNames v3
  clear_value v3
  extract_lets -merge -useContext +onlyGivenNames v5
  clear_value v5
  extract_lets -merge -useContext +onlyGivenNames v7
  clear_value v7
  extract_lets -merge -useContext +onlyGivenNames y9
  have h10 : State.Keeps w s0 y9 := by
    unfold y9
    refine State.Keeps.ite ?_ ?_
    · refine State.gapsOn_keeps (hw.mono rfl) ?_
      assumption
    · assumption
  clear_value y9
  extract_lets -merge -useContext +onlyGivenNames y16
  have h17 : State.Keeps w s0 y16 := by
    unfold y16
    refine State.Keeps.ite ?_ ?_
    · refine State.emit_keeps (hw.mono rfl) ?_
      assumption
    · assumption
  clear_value y16
  refine State.setGrp_keeps ?_ ?_ ?_ ?_
  · exact hw.bit rfl
  · exact .inr fun _ => rfl
  · exact .inr fun _ => rfl
  · assumption

theorem State.lostGap_keeps {w : Nat} {s0 : State} {x0 : State} {x1 : Fin 2} {x2 : Bool} (hw : Has w 348539531230754360870870571841488509993824) (hx0 : State.Keeps w s0 x0) :
    State.Keeps w s0 (State.lostGap x0 x1 x2) := by
  unfold State.lostGap
  extract_lets -merge -useContext +onlyGivenNames v1
  clear_value v1
  extract_lets -merge -useContext +onlyGivenNames v3
  clear_value v3
  extract_lets -merge -useContext +onlyGivenNames v5
  clear_value v5
  extract_lets -merge -useContext +onlyGivenNames v7
  clear_value v7
  extract_lets -merge -useContext +onlyGivenNames v9
  have h10 : ∀ t0 t1 t2 t3 t4, State.Keeps w s0 t0 → State.Keeps w s0 (v9 t0 t1 t2 t3 t4) := by
    intro a11 a12 a13 a14 a15 a16
    unfold v9
    refine State.Keeps.ite ?_ ?_
    · refine State.emitL_keeps (hw.mono rfl) ?_
      assumption
    · assumption
  clear_value v9
  extract_lets -merge -useContext +onlyGivenNames y22
  have h23 : State.Keeps w s0 y22 := by
    unfold y22
    apply_assumption
    assumption
  clear_value y22
  extract_lets -merge -useContext +onlyGivenNames y27
  have h28 : State.Keeps w s0 y27 := by
    unfold y27
    refine State.Keeps.foldlMem ?_ ?_
    · assumption
    · intro a32 a33 a34 a35
      apply_assumption
      assumption
  clear_value y27
  extract_lets -merge -useContext +onlyGivenNames y39
  have h40 : State.Keeps w s0 y39 := by
    unfold y39
    apply_assumption
    assumption
  clear_value y39
  extract_lets -merge -useContext +onlyGivenNames y44
  have h45 : State.Keeps w s0 y44 := by
    unfold y44
    apply_assumption
    assumption
  clear_value y44
  refine State.setGrp_keeps ?_ ?_ ?_ ?_
  · exact hw.bit rfl
  · exact .inr fun _ => rfl
  · exact .inr fun _ => rfl
  · assumption

theorem State.publishAnchor_keeps {w : Nat} {s0 : State} {x0 : State} {x1 : Fin 2} {x2 : Anchor} {x3 : ℕ} (hw : Has w 348539531230754360870870571841488509993824) (hx0 : State.Keeps w s0 x0) :
    State.Keeps w s0 (State.publishAnchor x0 x1 x2 x3) := by
  unfold State.publishAnchor
  extract_lets -merge -useContext +onlyGivenNames y1
  have h2 : State.Keeps w s0 y1 := by
    unfold y1
    refine State.setGrp_keeps ?_ ?_ ?_ ?_
    · exact hw.bit rfl
    · exact .inr fun _ => rfl
    · exact .inr fun _ => rfl
    · assumption
  clear_value y1
  refine State.anchorEmit_keeps (hw.mono rfl) ?_
  assumption

theorem State.grpOpen_keeps {w : Nat} {s0 : State} {x0 : State} {x1 : Fin 2} {x2 : DevTime} {x3 : ℕ} {x4 : Bool} {x5 : Bool} (hw : Has w 1366446399949303120996784644865403127808) (hx0 : State.Keeps w s0 x0) :
    State.Keeps w s0 (State.grpOpen x0 x1 x2 x3 x4 x5) := by
  unfold State.grpOpen
  extract_lets -merge -useContext +onlyGivenNames v1
  clear_value v1
  extract_lets -merge -useContext +onlyGivenNames y3
  have h4 : State.Keeps w s0 y3 := by
    unfold y3
    refine State.setGrp_keeps ?_ ?_ ?_ ?_
    · exact hw.bit rfl
    · exact .inr fun _ => rfl
    · exact .inr fun _ => rfl
    · assumption
  clear_value y3
  extract_lets -merge -useContext +onlyGivenNames y11
  have h12 : State.Keeps w s0 y11 := by
    unfold y11
    refine State.Keeps.ite ?_ ?_
    · assumption
    · refine State.f10Start_keeps (hw.mono rfl) ?_
      assumption
  clear_value y11
  refine State.Keeps.ite ?_ ?_
  · refine State.winOpen_keeps (hw.mono rfl) ?_
    assumption
  · refine State.bilStart_keeps (hw.mono rfl) ?_
    refine State.winOpen_keeps (hw.mono rfl) ?_
    assumption

theorem State.stepSwitch_keeps {w : Nat} {s0 : State} {x0 : State} {x1 : Fin 2} {x2 : PStep} (hw : Has w 377124668299604727144848437880903408814944) (hx0 : State.Keeps w s0 x0) :
    State.Keeps w s0 (State.stepSwitch x0 x1 x2) := by
  unfold State.stepSwitch
  extract_lets -merge -useContext +onlyGivenNames v1
  clear_value v1
  extract_lets -merge -useContext +onlyGivenNames v3
  clear_value v3
  extract_lets -merge -useContext +onlyGivenNames y5
  have h6 : State.Keeps w s0 y5 := by
    unfold y5
    refine State.Keeps.ite ?_ ?_
    · refine State.smpFlush_keeps (hw.mono rfl) ?_
      assumption
    · refine State.grpCut_keeps (hw.mono rfl) ?_
      assumption
  clear_value y5
  extract_lets -merge -useContext +onlyGivenNames y13
  have h14 : State.Keeps w s0 y13 := by
    unfold y13
    refine State.setGrp_keeps ?_ ?_ ?_ ?_
    · exact hw.bit rfl
    · exact .inr fun _ => rfl
    · exact .inr fun _ => rfl
    · assumption
  clear_value y13
  extract_lets -merge -useContext +onlyGivenNames v21
  clear_value v21
  extract_lets -merge -useContext +onlyGivenNames v23
  clear_value v23
  extract_lets -merge -useContext +onlyGivenNames v25
  clear_value v25
  extract_lets -merge -useContext +onlyGivenNames y27
  have h28 : State.Keeps w s0 y27 := by
    unfold y27
    refine State.Keeps.ite ?_ ?_
    · refine State.monGap_keeps (hw.mono rfl) ?_
      assumption
    · refine State.Keeps.ite ?_ ?_
      · refine State.lostGap_keeps (hw.mono rfl) ?_
        assumption
      · assumption
  clear_value y27
  extract_lets -merge -useContext +onlyGivenNames y37
  have h38 : State.Keeps w s0 y37 := by
    unfold y37
    split
    · rename_i b40 b41 b42 b43 b44 e45 e46
      refine State.setGrp_keeps ?_ ?_ ?_ ?_
      · exact hw.bit rfl
      · exact .inr fun _ => rfl
      · exact .inr fun _ => rfl
      · assumption
    · rename_i b52 b53 b54 e55 e56
      refine State.spanGap_keeps (hw.mono rfl) ?_
      assumption
    · rename_i b59 b60 b61 e62 e63
      refine State.Keeps.ite ?_ ?_
      · refine State.setGrp_keeps ?_ ?_ ?_ ?_
        · exact hw.bit rfl
        · exact .inr fun _ => rfl
        · exact .inr fun _ => rfl
        · assumption
      · assumption
    · rename_i b71 b72 e73 e74
      assumption
  clear_value y37
  extract_lets -merge -useContext +onlyGivenNames y77
  have h78 : State.Keeps w s0 y77 := by
    unfold y77
    refine State.publishAnchor_keeps (hw.mono rfl) ?_
    assumption
  clear_value y77
  extract_lets -merge -useContext +onlyGivenNames v82
  clear_value v82
  refine State.Keeps.ite ?_ ?_
  · assumption
  · refine State.grpOpen_keeps (hw.mono rfl) ?_
    assumption

theorem State.spanEnd_keeps {w : Nat} {s0 : State} {x0 : State} {x1 : Fin 2} {x2 : DevTime} (hw : Has w 349900660718720524328375745198763002825568) (hx0 : State.Keeps w s0 x0) :
    State.Keeps w s0 (State.spanEnd x0 x1 x2) := by
  unfold State.spanEnd
  extract_lets -merge -useContext +onlyGivenNames v1
  clear_value v1
  extract_lets -merge -useContext +onlyGivenNames y3
  have h4 : State.Keeps w s0 y3 := by
    unfold y3
    refine State.spanGap_keeps (hw.mono rfl) ?_
    refine State.flickTo_keeps (hw.mono rfl) ?_
    assumption
  clear_value y3
  refine State.Keeps.ite ?_ ?_
  · assumption
  · extract_lets -merge -useContext +onlyGivenNames v11
    clear_value v11
    extract_lets -merge -useContext +onlyGivenNames y13
    have h14 : State.Keeps w s0 y13 := by
      unfold y13
      refine State.Keeps.ite ?_ ?_
      · assumption
      · refine State.cutStep_keeps (hw.mono rfl) ?_
        assumption
    clear_value y13
    extract_lets -merge -useContext +onlyGivenNames y20
    have h21 : State.Keeps w s0 y20 := by
      unfold y20
      refine State.winOpen_keeps (hw.mono rfl) ?_
      refine State.f10Start_keeps (hw.mono rfl) ?_
      assumption
    clear_value y20
    refine State.Keeps.ite ?_ ?_
    · assumption
    · refine State.bilStart_keeps (hw.mono rfl) ?_
      assumption

theorem State.grpDue_keeps {w : Nat} {s0 : State} {x0 : State} {x1 : Fin 2} (hw : Has w 377124668299604746487661551714970204113760) (hx0 : State.Keeps w s0 x0) :
    State.Keeps w s0 (State.grpDue x0 x1) := by
  unfold State.grpDue
  extract_lets -merge -useContext +onlyGivenNames v1
  clear_value v1
  refine State.Keeps.ite ?_ ?_
  · assumption
  · extract_lets -merge -useContext +onlyGivenNames y5
    have h6 : State.Keeps w s0 y5 := by
      unfold y5
      split
      · rename_i b8 b9 e10
        refine State.Keeps.ite ?_ ?_
        · refine State.tickGroup_keeps (hw.mono rfl) ?_
          assumption
        · assumption
      · rename_i b15 e16
        assumption
    clear_value y5
    extract_lets -merge -useContext +onlyGivenNames y19
    have h20 : State.Keeps w s0 y19 := by
      unfold y19
      refine State.Keeps.foldl ?_ ?_
      · assumption
      · intro a24 a25 a26
        refine State.Keeps.ite ?_ ?_
        · refine State.stepSwitch_keeps (hw.mono rfl) ?_
          assumption
        · assumption
    clear_value y19
    split
    · rename_i b32 b33 b34 e35
      refine State.Keeps.ite ?_ ?_
      · refine State.spanEnd_keeps (hw.mono rfl) ?_
        assumption
      · assumption
    · rename_i b40 e41
      assumption

theorem State.thrChatter_keeps {w : Nat} {s0 : State} {x0 : State} {x1 : Fin 16} {x2 : Bool} {x3 : ℕ} (hw : Has w 348539531230754380213683689616204979241824) (hx0 : State.Keeps w s0 x0) :
    State.Keeps w s0 (State.thrChatter x0 x1 x2 x3) := by
  unfold State.thrChatter
  extract_lets -merge -useContext +onlyGivenNames v1
  clear_value v1
  refine State.Keeps.ite ?_ ?_
  · assumption
  · extract_lets -merge -useContext +onlyGivenNames v5
    clear_value v5
    refine State.sf_keeps ?_ ?_
    · exact hw.reg (by omega) (RegGroup.thr_at (by omega) (by omega)) rfl
    · refine State.setThr_keeps (hw.mono rfl) ?_
      refine State.thrRec_keeps (hw.mono rfl) ?_
      assumption

theorem State.thrForce_keeps {w : Nat} {s0 : State} {x0 : State} {x1 : Fin 16} {x2 : Bool} {x3 : ℕ} (hw : Has w 348539531230754380213683689616204979241824) (hx0 : State.Keeps w s0 x0) :
    State.Keeps w s0 (State.thrForce x0 x1 x2 x3) := by
  unfold State.thrForce
  extract_lets -merge -useContext +onlyGivenNames v1
  clear_value v1
  extract_lets -merge -useContext +onlyGivenNames y3
  have h4 : State.Keeps w s0 y3 := by
    unfold y3
    refine State.thrChatter_keeps (hw.mono rfl) ?_
    assumption
  clear_value y3
  extract_lets -merge -useContext +onlyGivenNames y8
  have h9 : State.Keeps w s0 y8 := by
    unfold y8
    refine State.sf_keeps ?_ ?_
    · unfold thrState
      refine regOk.ite ?_ ?_
      · exact hw.reg (by omega) (RegGroup.thr_at (by omega) (by omega)) rfl
      · exact hw.reg (by omega) (RegGroup.thr_at (by omega) (by omega)) rfl
    · assumption
  clear_value y8
  extract_lets -merge -useContext +onlyGivenNames y17
  have h18 : State.Keeps w s0 y17 := by
    unfold y17
    refine State.Keeps.ite ?_ ?_
    · refine State.thrRec_keeps (hw.mono rfl) ?_
      assumption
    · assumption
  clear_value y17
  refine State.setThr_keeps (hw.mono rfl) ?_
  assumption

theorem State.thrEnd_keeps {w : Nat} {s0 : State} {x0 : State} {x1 : Fin 16} {x2 : ℕ} {x3 : ℕ} (hw : Has w 348540860458750165129556593423265259848544) (hx0 : State.Keeps w s0 x0) :
    State.Keeps w s0 (State.thrEnd x0 x1 x2 x3) := by
  unfold State.thrEnd
  extract_lets -merge -useContext +onlyGivenNames v1
  clear_value v1
  extract_lets -merge -useContext +onlyGivenNames y3
  have h4 : State.Keeps w s0 y3 := by
    unfold y3
    refine State.thrMake_keeps (hw.mono rfl) ?_
    refine State.thrMake_keeps (hw.mono rfl) ?_
    assumption
  clear_value y3
  extract_lets -merge -useContext +onlyGivenNames y9
  have h10 : State.Keeps w s0 y9 := by
    unfold y9
    refine State.thrChatter_keeps (hw.mono rfl) ?_
    refine State.thrForce_keeps (hw.mono rfl) ?_
    assumption
  clear_value y9
  extract_lets -merge -useContext +onlyGivenNames y15
  have h16 : State.Keeps w s0 y15 := by
    unfold y15
    refine State.thrChatter_keeps (hw.mono rfl) ?_
    refine State.thrForce_keeps (hw.mono rfl) ?_
    assumption
  clear_value y15
  refine State.thrEval_keeps (hw.mono rfl) ?_
  assumption

theorem State.meterSync_keeps {w : Nat} {s0 : State} {x0 : State} {x1 : Fin 2} (hw : Has w 5192296858534827628530496329220096) (hx0 : State.Keeps w s0 x0) :
    State.Keeps w s0 (State.meterSync x0 x1) := by
  unfold State.meterSync
  extract_lets -merge -useContext +onlyGivenNames v1
  clear_value v1
  refine State.Keeps.ite ?_ ?_
  · refine State.sfs_keeps ?_ ?_
    · refine ⟨?_, ?_⟩
      · dsimp only
        exact hw.reg (by omega) (RegGroup.specStat_at (by omega) (by omega)) rfl
      · refine ⟨?_, ?_⟩
        · dsimp only
          exact hw.reg (by omega) (RegGroup.specStat_at (by omega) (by omega)) rfl
        · exact trivial
    · assumption
  · assumption

theorem State.evDrop_keeps {w : Nat} {s0 : State} {x0 : State} {x1 : Fin 2} {x2 : Fin 8} (hw : Has w 562949953421312) (hx0 : State.Keeps w s0 x0) :
    State.Keeps w s0 (State.evDrop x0 x1 x2) := by
  unfold State.evDrop
  refine State.setEv_keeps (hw.mono rfl) ?_
  assumption

theorem State.metLost_keeps {w : Nat} {s0 : State} {x0 : State} {x1 : Fin 2} {x2 : Fin 8} {x3 : DevTime} (hw : Has w 81129638414606682258738958565376) (hx0 : State.Keeps w s0 x0) :
    State.Keeps w s0 (State.metLost x0 x1 x2 x3) := by
  unfold State.metLost
  extract_lets -merge -useContext +onlyGivenNames v1
  clear_value v1
  extract_lets -merge -useContext +onlyGivenNames y3
  have h4 : State.Keeps w s0 y3 := by
    unfold y3
    refine State.Keeps.ite ?_ ?_
    · refine State.smbit_keeps ?_ ?_
      · exact hw.reg (by omega) (RegGroup.metStat_at (by omega) (by omega)) rfl
      · assumption
    · assumption
  clear_value y3
  refine State.Keeps.ite ?_ ?_
  · refine State.sf_keeps ?_ ?_
    · exact hw.reg (by omega) (RegGroup.metStat_at (by omega) (by omega)) rfl
    · refine State.setGrp_keeps ?_ ?_ ?_ ?_
      · exact hw.bit rfl
      · exact .inr fun _ => rfl
      · exact .inr fun _ => rfl
      · assumption
  · assumption

theorem State.evFence_keeps {w : Nat} {s0 : State} {x0 : State} {x1 : Fin 2} {x2 : Fin 8} (hw : Has w 348539614307504097428112628329429777515360) (hx0 : State.Keeps w s0 x0) :
    State.Keeps w s0 (State.evFence x0 x1 x2) := by
  unfold State.evFence
  extract_lets -merge -useContext +onlyGivenNames v1
  clear_value v1
  extract_lets -merge -useContext +onlyGivenNames v3
  clear_value v3
  refine State.Keeps.ite ?_ ?_
  · assumption
  · extract_lets -merge -useContext +onlyGivenNames y7
    have h8 : State.Keeps w s0 y7 := by
      unfold y7
      refine State.evClose_keeps (hw.mono rfl) ?_
      assumption
    clear_value y7
    extract_lets -merge -useContext +onlyGivenNames v12
    clear_value v12
    extract_lets -merge -useContext +onlyGivenNames y14
    have h15 : State.Keeps w s0 y14 := by
      unfold y14
      refine State.setEv_keeps (hw.mono rfl) ?_
      assumption
    clear_value y14
    extract_lets -merge -useContext +onlyGivenNames y19
    have h20 : State.Keeps w s0 y19 := by
      unfold y19
      refine State.Keeps.ite ?_ ?_
      · refine State.evEval_keeps (hw.mono rfl) ?_
        assumption
      · assumption
    clear_value y19
    refine State.evStat_keeps (hw.mono rfl) ?_
    assumption

theorem State.metFence_keeps {w : Nat} {s0 : State} {x0 : State} {x1 : Fin 2} {x2 : Fin 8} {x3 : DevTime} {x4 : Bool} (hw : Has w 81129638414606682258738962759680) (hx0 : State.Keeps w s0 x0) :
    State.Keeps w s0 (State.metFence x0 x1 x2 x3 x4) := by
  unfold State.metFence
  extract_lets -merge -useContext +onlyGivenNames y1
  have h2 : State.Keeps w s0 y1 := by
    unfold y1
    refine State.cutStep_keeps (hw.mono rfl) ?_
    assumption
  clear_value y1
  extract_lets -merge -useContext +onlyGivenNames y6
  clear_value y6
  extract_lets -merge -useContext +onlyGivenNames y8
  have h9 : State.Keeps w s0 y8 := by
    unfold y8
    refine State.Keeps.ite ?_ ?_
    · refine State.Keeps.upd_bil (s := y1) ?_ ?_
      · exact hw.bit rfl
      · assumption
    · assumption
  clear_value y8
  refine State.metLost_keeps (hw.mono rfl) ?_
  assumption

theorem State.chFence_keeps {w : Nat} {s0 : State} {x0 : State} {x1 : Fin 16} (hw : Has w 377124668299604746789929900106774916893536) (hx0 : State.Keeps w s0 x0) :
    State.Keeps w s0 (State.chFence x0 x1) := by
  unfold State.chFence
  extract_lets -merge -useContext +onlyGivenNames v1
  extract_lets -merge -useContext +onlyGivenNames v3
  extract_lets -merge -useContext +onlyGivenNames y5
  have h6 : State.Keeps w s0 y5 := by
    unfold y5
    refine State.Keeps.ite ?_ ?_
    · assumption
    · refine State.thrSettleTo_keeps (hw.mono rfl) ?_
      refine State.grpDue_keeps (hw.mono rfl) ?_
      assumption
  clear_value y5
  extract_lets -merge -useContext +onlyGivenNames v13
  clear_value v13
  extract_lets -merge -useContext +onlyGivenNames v15
  clear_value v15
  extract_lets -merge -useContext +onlyGivenNames v17
  clear_value v17
  extract_lets -merge -useContext +onlyGivenNames y19
  have h20 : State.Keeps w s0 y19 := by
    unfold y19
    refine State.fenceBit_keeps (hw.mono rfl) ?_ ?_
    · refine State.smbit_keeps ?_ ?_
      · exact hw.reg (by omega) (RegGroup.afeErr_at (by omega) (by omega)) rfl
      · assumption
    · exact hw.reg (by omega) (RegGroup.fence_at (by omega) (by omega)) rfl
  clear_value y19
  extract_lets -merge -useContext +onlyGivenNames y27
  have h28 : State.Keeps w s0 y27 := by
    unfold y27
    refine State.setGrp_keeps ?_ ?_ ?_ ?_
    · exact hw.bit rfl
    · exact .inr fun _ => rfl
    · exact .inr fun _ => rfl
    · assumption
  clear_value y27
  extract_lets -merge -useContext +onlyGivenNames v35
  clear_value v35
  extract_lets -merge -useContext +onlyGivenNames y37
  have h38 : State.Keeps w s0 y37 := by
    unfold y37
    refine State.setChan_keeps ?_ ?_ ?_
    · exact hw.bit rfl
    · exact .inr fun _ => rfl
    · refine State.Keeps.ite ?_ ?_
      · assumption
      · refine State.thrEnd_keeps (hw.mono rfl) ?_
        assumption
  clear_value y37
  extract_lets -merge -useContext +onlyGivenNames y47
  have h48 : State.Keeps w s0 y47 := by
    unfold y47
    refine State.unitLost_keeps (hw.mono rfl) ?_
    assumption
  clear_value y47
  refine State.Keeps.ite ?_ ?_
  · refine State.Keeps.ite ?_ ?_
    · assumption
    · refine State.smpRelease_keeps (hw.mono rfl) ?_
      assumption
  · refine State.Keeps.ite ?_ ?_
    · refine State.meterSync_keeps (hw.mono rfl) ?_
      refine State.evDrop_keeps (hw.mono rfl) ?_
      refine State.metLost_keeps (hw.mono rfl) ?_
      assumption
    · refine State.meterSync_keeps (hw.mono rfl) ?_
      refine State.evFence_keeps (hw.mono rfl) ?_
      refine State.metFence_keeps (hw.mono rfl) ?_
      assumption

theorem State.integrate_keeps {w : Nat} {s0 : State} {x0 : State} {x1 : Fin 16} {x2 : ℕ} {x3 : ℤ} (hw : Has w 4503600164241408) (hx0 : State.Keeps w s0 x0) :
    State.Keeps w s0 (State.integrate x0 x1 x2 x3).2.2 := by
  unfold State.integrate
  extract_lets -merge -useContext +onlyGivenNames v1
  clear_value v1
  extract_lets -merge -useContext +onlyGivenNames v3
  clear_value v3
  extract_lets -merge -useContext +onlyGivenNames v5
  clear_value v5
  extract_lets -merge -useContext +onlyGivenNames v7
  clear_value v7
  extract_lets -merge -useContext +onlyGivenNames v9
  clear_value v9
  refine State.Keeps.triple ?_
  extract_lets -merge -useContext +onlyGivenNames y12
  have h13 : State.Keeps w s0 y12 := by
    unfold y12
    refine State.setChan_keeps ?_ ?_ ?_
    · exact hw.bit rfl
    · exact .inr fun _ => rfl
    · assumption
  clear_value y12
  refine State.Keeps.upd_free (s := y12) ?_ ?_
  · exact hw.bit rfl
  · assumption

theorem State.chain_keeps {w : Nat} {s0 : State} {x0 : State} {x1 : Fin 16} {x2 : ℕ} {x3 : ℕ} {x4 : ChIn} {x5 : ℚ} (hw : Has w 4503600164241408) (hx0 : State.Keeps w s0 x0) :
    State.Keeps w s0 (State.chain x0 x1 x2 x3 x4 x5).2 := by
  unfold State.chain
  extract_lets -merge -useContext +onlyGivenNames v1
  clear_value v1
  extract_lets -merge -useContext +onlyGivenNames v3
  clear_value v3
  extract_lets -merge -useContext +onlyGivenNames v5
  clear_value v5
  extract_lets -merge -useContext +onlyGivenNames v7
  clear_value v7
  extract_lets -merge -useContext +onlyGivenNames v9
  clear_value v9
  extract_lets -merge -useContext +onlyGivenNames v11
  clear_value v11
  extract_lets -merge -useContext +onlyGivenNames v13
  clear_value v13
  extract_lets -merge -useContext +onlyGivenNames y15
  have h16 : State.Keeps w s0 y15 := by
    unfold y15
    refine State.setChan_keeps ?_ ?_ ?_
    · exact hw.bit rfl
    · exact .inr fun _ => rfl
    · assumption
  clear_value y15
  extract_lets -merge -useContext +onlyGivenNames v22
  clear_value v22
  extract_lets -merge -useContext +onlyGivenNames v24
  clear_value v24
  refine State.Keeps.iteSnd ?_ ?_
  · split
    rename_i b27 b28 b29 b30 e31
    have h32 : State.Keeps w s0 b30 := by
      refine State.Keeps.ofTriple e31 ?_
      refine State.integrate_keeps (hw.mono rfl) ?_
      assumption
    assumption
  · assumption

theorem State.thrSample_keeps {w : Nat} {s0 : State} {x0 : State} {x1 : Fin 16} {x2 : Bool} {x3 : ℕ} {x4 : ℤ} (hw : Has w 4503599627370496) (hx0 : State.Keeps w s0 x0) :
    State.Keeps w s0 (State.thrSample x0 x1 x2 x3 x4) := by
  unfold State.thrSample
  refine State.Keeps.ite ?_ ?_
  · assumption
  · extract_lets -merge -useContext +onlyGivenNames v3
    clear_value v3
    extract_lets -merge -useContext +onlyGivenNames v5
    clear_value v5
    refine State.setThr_keeps (hw.mono rfl) ?_
    assumption

theorem State.chSample_keeps {w : Nat} {s0 : State} {x0 : State} {x1 : Fin 2} {x2 : Fin 8} {x3 : ℕ} {x4 : ChIn} {x5 : ℚ} {x6 : Bool} (hw : Has w 348539531230754380364799426075233417692000) (hx0 : State.Keeps w s0 x0) :
    State.Keeps w s0 (State.chSample x0 x1 x2 x3 x4 x5 x6).2 := by
  unfold State.chSample
  extract_lets -merge -useContext +onlyGivenNames v1
  extract_lets -merge -useContext +onlyGivenNames v3
  clear_value v3
  refine State.Keeps.iteSnd ?_ ?_
  · assumption
  · extract_lets -merge -useContext +onlyGivenNames v7
    clear_value v7
    extract_lets -merge -useContext +onlyGivenNames v9
    clear_value v9
    refine State.Keeps.iteSnd ?_ ?_
    · refine State.Keeps.pair ?_
      refine State.setChan_keeps ?_ ?_ ?_
      · exact hw.bit rfl
      · exact .inl (hw.bit rfl)
      · assumption
    · split
      rename_i b17 b18 b19 e20
      have h21 : State.Keeps w s0 b19 := by
        refine State.Keeps.ofPair e20 ?_
        refine State.chain_keeps (hw.mono rfl) ?_
        assumption
      extract_lets -merge -useContext +onlyGivenNames y25
      have h26 : State.Keeps w s0 y25 := by
        unfold y25
        refine State.Keeps.ite ?_ ?_
        · refine State.smbit_keeps ?_ ?_
          · exact hw.reg (by omega) (RegGroup.afeStatus_at (by omega) (by omega)) rfl
          · assumption
        · assumption
      clear_value y25
      extract_lets -merge -useContext +onlyGivenNames y33
      have h34 : State.Keeps w s0 y33 := by
        unfold y33
        refine State.Keeps.ite ?_ ?_
        · refine State.smbit_keeps ?_ ?_
          · exact hw.reg (by omega) (RegGroup.afeStatus_at (by omega) (by omega)) rfl
          · assumption
        · assumption
      clear_value y33
      extract_lets -merge -useContext +onlyGivenNames y41
      have h42 : State.Keeps w s0 y41 := by
        unfold y41
        refine State.Keeps.ite ?_ ?_
        · refine State.thrChatter_keeps (hw.mono rfl) ?_
          assumption
        · assumption
      clear_value y41
      extract_lets -merge -useContext +onlyGivenNames y48
      have h49 : State.Keeps w s0 y48 := by
        unfold y48
        refine State.Keeps.ite ?_ ?_
        · refine State.thrChatter_keeps (hw.mono rfl) ?_
          assumption
        · assumption
      clear_value y48
      extract_lets -merge -useContext +onlyGivenNames y55
      have h56 : State.Keeps w s0 y55 := by
        unfold y55
        refine State.thrSample_keeps (hw.mono rfl) ?_
        refine State.thrSample_keeps (hw.mono rfl) ?_
        assumption
      clear_value y55
      extract_lets -merge -useContext +onlyGivenNames v61
      clear_value v61
      refine State.Keeps.pair ?_
      refine State.setChan_keeps ?_ ?_ ?_
      · exact hw.bit rfl
      · exact .inl (hw.bit rfl)
      · assumption

theorem State.chStall_keeps {w : Nat} {s0 : State} {x0 : State} {x1 : Fin 16} (hw : Has w 348539531230754360870870575782138184205152) (hx0 : State.Keeps w s0 x0) :
    State.Keeps w s0 (State.chStall x0 x1) := by
  unfold State.chStall
  extract_lets -merge -useContext +onlyGivenNames v1
  have h2 : State.Keeps w s0 v1 := by
    unfold v1
    refine State.setChan_keeps ?_ ?_ ?_
    · exact hw.bit rfl
    · exact .inr fun _ => rfl
    · assumption
  clear_value v1
  extract_lets -merge -useContext +onlyGivenNames v8
  clear_value v8
  refine State.Keeps.foldl ?_ ?_
  · assumption
  · intro a12 a13 a14
    extract_lets -merge -useContext +onlyGivenNames v16
    clear_value v16
    refine State.capGap_keeps (hw.mono rfl) ?_
    refine State.smpGap_keeps (hw.mono rfl) ?_
    assumption

theorem State.chainStart_keeps {w : Nat} {s0 : State} {x0 : State} {x1 : Fin 16} (hw : Has w 4503599627370496) (hx0 : State.Keeps w s0 x0) :
    State.Keeps w s0 (State.chainStart x0 x1) := by
  unfold State.chainStart
  refine State.setChan_keeps ?_ ?_ ?_
  · exact hw.bit rfl
  · exact .inr fun _ => rfl
  · assumption

theorem State.chkClear_keeps {w : Nat} {s0 : State} {x0 : State} {x1 : ℕ} (hw : Has w 1208925819614629174706176) (hx0 : State.Keeps w s0 x0) :
    State.Keeps w s0 (State.chkClear x0 x1) := by
  unfold State.chkClear
  refine State.Keeps.foldlMem ?_ ?_
  · assumption
  · intro a2 a3 a4 a5
    have a6 := mem_bitsOf_lt a4
    refine State.sfs_keeps ?_ ?_
    · refine ⟨?_, ?_⟩
      · dsimp only
        exact hw.reg (by omega) (RegGroup.afeChk_at (by omega) (by omega)) rfl
      · refine ⟨?_, ?_⟩
        · dsimp only
          exact hw.reg (by omega) (RegGroup.afeChk_at (by omega) (by omega)) rfl
        · refine ⟨?_, ?_⟩
          · dsimp only
            exact hw.reg (by omega) (RegGroup.afeChk_at (by omega) (by omega)) rfl
          · refine ⟨?_, ?_⟩
            · dsimp only
              exact hw.reg (by omega) (RegGroup.afeChk_at (by omega) (by omega)) rfl
            · exact trivial
    · assumption

theorem State.chkResult_keeps {w : Nat} {s0 : State} {x0 : State} {x1 : ℕ} {x2 : ℤ} {x3 : ℤ} {x4 : ℕ} (hw : Has w 1208925819614629174706176) (hx0 : State.Keeps w s0 x0) (hx1 : x1 < 16 ∨ Has w allRegs) :
    State.Keeps w s0 (State.chkResult x0 x1 x2 x3 x4) := by
  unfold State.chkResult
  extract_lets -merge -useContext +onlyGivenNames v1
  clear_value v1
  extract_lets -merge -useContext +onlyGivenNames y3
  have h4 : State.Keeps w s0 y3 := by
    unfold y3
    refine State.si_keeps ?_ ?_
    · exact hx1.elim (fun _ => hw.reg (by omega) (RegGroup.afeChk_at (by omega) (by omega)) rfl) .inr
    · refine State.si_keeps ?_ ?_
      · exact hx1.elim (fun _ => hw.reg (by omega) (RegGroup.afeChk_at (by omega) (by omega)) rfl) .inr
      · assumption
  clear_value y3
  refine State.sfs_keeps ?_ ?_
  · refine ⟨?_, ?_⟩
    · dsimp only
      exact hx1.elim (fun _ => hw.reg (by omega) (RegGroup.afeChk_at (by omega) (by omega)) rfl) .inr
    · refine ⟨?_, ?_⟩
      · dsimp only
        exact hx1.elim (fun _ => hw.reg (by omega) (RegGroup.afeChk_at (by omega) (by omega)) rfl) .inr
      · refine ⟨?_, ?_⟩
        · dsimp only
          exact hx1.elim (fun _ => hw.reg (by omega) (RegGroup.afeChk_at (by omega) (by omega)) rfl) .inr
        · refine ⟨?_, ?_⟩
          · dsimp only
            exact hx1.elim (fun _ => hw.reg (by omega) (RegGroup.afeChk_at (by omega) (by omega)) rfl) .inr
          · refine ⟨?_, ?_⟩
            · dsimp only
              exact hx1.elim (fun _ => hw.reg (by omega) (RegGroup.afeChk_at (by omega) (by omega)) rfl) .inr
            · exact trivial
  · assumption

theorem State.chkResults_keeps {w : Nat} {s0 : State} {x0 : State} {x1 : ℕ} {x2 : List ℤ} {x3 : List ℤ} {x4 : List ℕ} (hw : Has w 1208925819614629174706176) (hx0 : State.Keeps w s0 x0) :
    State.Keeps w s0 (State.chkResults x0 x1 x2 x3 x4) := by
  unfold State.chkResults
  refine State.Keeps.foldlMem ?_ ?_
  · assumption
  · intro a2 a3 a4 a5
    have a6 := mem_bitsOf_lt a4
    refine State.chkResult_keeps (hw.mono rfl) ?_ ?_
    · assumption
    · exact .inl (by omega)

theorem State.ckptUse_keeps {w : Nat} {s0 : State} {x0 : State} (hw : Has w 11692013098647223345629478661711822488779636607840) (hx0 : State.Keeps w s0 x0) :
    State.Keeps w s0 (State.ckptUse x0) := by
  unfold State.ckptUse
  refine State.Keeps.ite ?_ ?_
  · assumption
  · split
    · rename_i b3 b4 e5
      refine State.sfs_keeps ?_ ?_
      · refine ⟨?_, ?_⟩
        · dsimp only
          exact hw.reg (by omega) (RegGroup.slice_at (by omega) (by omega)) rfl
        · refine ⟨?_, ?_⟩
          · dsimp only
            exact hw.reg (by omega) (RegGroup.slice_at (by omega) (by omega)) rfl
          · exact trivial
      · refine State.Keeps.upd_slc (s := x0) ?_ ?_
        · exact hw.bit rfl
        · assumption
    · rename_i b15 e16
      refine State.sliceLost_keeps (hw.mono rfl) ?_
      assumption

theorem State.ckptHit_keeps {w : Nat} {s0 : State} {x0 : State} (hw : Has w 11692013098647223345629478661711822488779636607840) (hx0 : State.Keeps w s0 x0) :
    State.Keeps w s0 (State.ckptHit x0) := by
  unfold State.ckptHit
  extract_lets -merge -useContext +onlyGivenNames y1
  clear_value y1
  extract_lets -merge -useContext +onlyGivenNames y3
  have h4 : State.Keeps w s0 y3 := by
    unfold y3
    refine State.Keeps.upd_slc (s := x0) ?_ ?_
    · exact hw.bit rfl
    · assumption
  clear_value y3
  refine State.Keeps.ite ?_ ?_
  · refine State.ckptUse_keeps (hw.mono rfl) ?_
    assumption
  · assumption

theorem State.loadCalendars_keeps {w : Nat} {s0 : State} {x0 : State} {x1 : DevTime} (hw : Has w 5444517870735015415413993718977019248640) (hx0 : State.Keeps w s0 x0) :
    State.Keeps w s0 (State.loadCalendars x0 x1) := by
  unfold State.loadCalendars
  extract_lets -merge -useContext +onlyGivenNames v1
  clear_value v1
  extract_lets -merge -useContext +onlyGivenNames v3
  clear_value v3
  extract_lets -merge -useContext +onlyGivenNames v5
  clear_value v5
  extract_lets -merge -useContext +onlyGivenNames v7
  clear_value v7
  extract_lets -merge -useContext +onlyGivenNames y9
  clear_value y9
  extract_lets -merge -useContext +onlyGivenNames y11
  have h12 : State.Keeps w s0 y11 := by
    unfold y11
    split
    · rename_i b14 b15 b16 b17 b18
      refine State.sfs_keeps ?_ ?_
      · refine ⟨?_, ?_⟩
        · dsimp only
          exact hw.reg (by omega) (RegGroup.bilCal_at (by omega) (by omega)) rfl
        · refine ⟨?_, ?_⟩
          · dsimp only
            exact hw.reg (by omega) (RegGroup.bilCal_at (by omega) (by omega)) rfl
          · exact trivial
      · extract_lets -merge -useContext +onlyGivenNames y26
        have h27 : State.Keeps w s0 y26 := by
          unfold y26
          refine State.guard_keeps (hw.mono rfl) ?_
          assumption
        clear_value y26
        refine State.Keeps.upd_cals (s := y26) ?_ ?_
        · exact hw.bit rfl
        · assumption
    · rename_i b33
      assumption
  clear_value y11
  split
  · rename_i b36 b37 b38 b39 b40
    refine State.s64_keeps ?_ ?_ ?_
    · exact hw.reg (by omega) (RegGroup.bilCal_at (by omega) (by omega)) rfl
    · exact hw.reg (by omega) (RegGroup.bilCal_at (by omega) (by omega)) rfl
    · refine State.sf_keeps ?_ ?_
      · exact hw.reg (by omega) (RegGroup.bilCal_at (by omega) (by omega)) rfl
      · extract_lets -merge -useContext +onlyGivenNames y47
        have h48 : State.Keeps w s0 y47 := by
          unfold y47
          refine State.guard_keeps (hw.mono rfl) ?_
          assumption
        clear_value y47
        refine State.Keeps.upd_cals (s := y47) ?_ ?_
        · exact hw.bit rfl
        · assumption
  · rename_i b54
    assumption

theorem State.splitCheck_keeps {w : Nat} {s0 : State} {x0 : State} {x1 : List Byte} (hw : Has w 2722258935367507707706996859660304121857) (hx0 : State.Keeps w s0 x0) :
    State.Keeps w s0 (State.splitCheck x0 x1) := by
  unfold State.splitCheck
  refine State.Keeps.foldlMem ?_ ?_
  · assumption
  · intro a2 a3 a4 a5
    have a6 := List.mem_range.1 a4
    extract_lets -merge -useContext +onlyGivenNames v8
    clear_value v8
    split
    rename_i b10 b11 b12 b13 e14
    refine State.Keeps.ite ?_ ?_
    · refine State.sf_keeps ?_ ?_
      · exact hw.reg (by omega) (RegGroup.bilErr_at (by omega) (by omega)) rfl
      · refine State.Keeps.upd_rst (s := a2) ?_ ?_ ?_
        · exact hw.bit rfl
        · exact .inr rfl
        · assumption
    · refine State.Keeps.ite ?_ ?_
      · refine State.putHigh_keeps (hw.mono rfl) ?_
        assumption
      · assumption

theorem State.instLoad_keeps {w : Nat} {s0 : State} {x0 : State} {x1 : Fin 2} {x2 : BilInst} (hw : Has w 23139200950623815515509473305566401003520) (hx0 : State.Keeps w s0 x0) :
    State.Keeps w s0 (State.instLoad x0 x1 x2) := by
  unfold State.instLoad
  extract_lets -merge -useContext +onlyGivenNames v1
  clear_value v1
  extract_lets -merge -useContext +onlyGivenNames v3
  clear_value v3
  extract_lets -merge -useContext +onlyGivenNames y5
  have h6 : State.Keeps w s0 y5 := by
    unfold y5
    refine State.Keeps.ite ?_ ?_
    · refine State.subClose_keeps (hw.mono rfl) ?_
      assumption
    · assumption
  clear_value y5
  extract_lets -merge -useContext +onlyGivenNames y12
  have h13 : State.Keeps w s0 y12 := by
    unfold y12
    refine State.Keeps.ite ?_ ?_
    · refine State.setBil_keeps (hw.mono rfl) ?_
      assumption
    · assumption
  clear_value y12
  extract_lets -merge -useContext +onlyGivenNames y19
  have h20 : State.Keeps w s0 y19 := by
    unfold y19
    refine State.Keeps.ite ?_ ?_
    · refine State.periodClose_keeps (hw.mono rfl) ?_
      assumption
    · assumption
  clear_value y19
  refine State.Keeps.ite ?_ ?_
  · refine State.setBil_keeps (hw.mono rfl) ?_
    assumption
  · assumption

theorem State.gaspGroup_keeps {w : Nat} {s0 : State} {x0 : State} {x1 : List Byte} {x2 : Fin 2} (hw : Has w 23139200950623815515509473305566401527808) (hx0 : State.Keeps w s0 x0) :
    State.Keeps w s0 (State.gaspGroup x0 x1 x2) := by
  unfold State.gaspGroup
  extract_lets -merge -useContext +onlyGivenNames v1
  clear_value v1
  split
  · rename_i b3 e4
    refine State.accTo_keeps (hw.mono rfl) ?_
    assumption
  · rename_i b7 b8 e9
    extract_lets -merge -useContext +onlyGivenNames y11
    have h12 : State.Keeps w s0 y11 := by
      unfold y11
      refine State.accTo_keeps (hw.mono rfl) ?_
      refine State.instLoad_keeps (hw.mono rfl) ?_
      refine State.accTo_keeps (hw.mono rfl) ?_
      assumption
    clear_value y11
    refine State.setBilDone_keeps (hw.mono rfl) ?_ ?_
    · assumption
    · exact .inl (by omega)

theorem State.gaspApply_keeps {w : Nat} {s0 : State} {x0 : State} {x1 : List Byte} (hw : Has w 23139201599660922832362926871878442680320) (hx0 : State.Keeps w s0 x0) :
    State.Keeps w s0 (State.gaspApply x0 x1) := by
  unfold State.gaspApply
  extract_lets -merge -useContext +onlyGivenNames v1
  clear_value v1
  extract_lets -merge -useContext +onlyGivenNames y3
  have h4 : State.Keeps w s0 y3 := by
    unfold y3
    refine State.gaspGroup_keeps (hw.mono rfl) ?_
    refine State.gaspGroup_keeps (hw.mono rfl) ?_
    assumption
  clear_value y3
  extract_lets -merge -useContext +onlyGivenNames v9
  clear_value v9
  extract_lets -merge -useContext +onlyGivenNames y11
  clear_value y11
  extract_lets -merge -useContext +onlyGivenNames y13
  have h14 : State.Keeps w s0 y13 := by
    unfold y13
    refine State.Keeps.upd_met (s := y3) ?_ ?_
    · exact hw.bit rfl
    · assumption
  clear_value y13
  refine State.Keeps.foldlMem ?_ ?_
  · assumption
  · intro a20 a21 a22 a23
    have a24 := List.mem_range.1 a22
    refine State.sf_keeps ?_ ?_
    · exact hw.reg (by omega) (RegGroup.cf_at (by omega) (by omega)) rfl
    · assumption

theorem State.subRestore_keeps {w : Nat} {s0 : State} {x0 : State} {x1 : Fin 2} {x2 : DevTime} (hw : Has w 37748736) (hx0 : State.Keeps w s0 x0) :
    State.Keeps w s0 (State.subRestore x0 x1 x2) := by
  unfold State.subRestore
  refine State.Keeps.ite ?_ ?_
  · assumption
  · split
    rename_i b3 b4 b5 e6
    have h7 : State.Keeps w s0 b5 := by
      refine State.Keeps.ofPair e6 ?_
      refine State.subClose_keeps (hw.mono rfl) ?_
      assumption
    refine State.Keeps.upd_bilSaved (s := b5) ?_ ?_
    · exact hw.bit rfl
    · assumption

theorem State.journalAhead_keeps {w : Nat} {s0 : State} {x0 : State} {x1 : Fin 2} {x2 : DevTime} (hw : Has w 1427270831906910504873801478922800702783750144) (hx0 : State.Keeps w s0 x0) :
    State.Keeps w s0 (State.journalAhead x0 x1 x2) := by
  unfold State.journalAhead
  extract_lets -merge -useContext +onlyGivenNames v1
  clear_value v1
  extract_lets -merge -useContext +onlyGivenNames v3
  clear_value v3
  refine State.Keeps.ite ?_ ?_
  · assumption
  · extract_lets -merge -useContext +onlyGivenNames y7
    have h8 : State.Keeps w s0 y7 := by
      unfold y7
      refine State.sf_keeps ?_ ?_
      · exact hw.reg (by omega) (RegGroup.nvm_at (by omega) (by omega)) rfl
      · assumption
    clear_value y7
    extract_lets -merge -useContext +onlyGivenNames v13
    clear_value v13
    refine State.Keeps.ite ?_ ?_
    · extract_lets -merge -useContext +onlyGivenNames v16
      clear_value v16
      extract_lets -merge -useContext +onlyGivenNames v18
      clear_value v18
      refine State.sf_keeps ?_ ?_
      · exact hw.reg (by omega) (RegGroup.bilStat_at (by omega) (by omega)) rfl
      · refine State.snapStore_keeps (hw.mono rfl) ?_
        refine State.snapKeep_keeps (hw.mono rfl) ?_
        assumption
    · assumption

theorem State.gaspTake_keeps {w : Nat} {s0 : State} {x0 : State} {x1 : List Byte} {x2 : DevTime} {x3 : Option (List Byte)} (hw : Has w 1427276276425430276996533746370085923158753280) (hx0 : State.Keeps w s0 x0) :
    State.Keeps w s0 (State.gaspTake x0 x1 x2 x3).2 := by
  unfold State.gaspTake
  split
  · rename_i b1 b2
    extract_lets -merge -useContext +onlyGivenNames y4
    have h5 : State.Keeps w s0 y4 := by
      unfold y4
      refine State.gaspApply_keeps (hw.mono rfl) ?_
      refine State.loadCalendars_keeps (hw.mono rfl) ?_
      assumption
    clear_value y4
    extract_lets -merge -useContext +onlyGivenNames v10
    clear_value v10
    extract_lets -merge -useContext +onlyGivenNames y12
    have h13 : State.Keeps w s0 y12 := by
      unfold y12
      refine State.subRestore_keeps (hw.mono rfl) ?_
      refine State.subRestore_keeps (hw.mono rfl) ?_
      assumption
    clear_value y12
    refine State.Keeps.pair ?_
    refine State.sfs_keeps ?_ ?_
    · refine ⟨?_, ?_⟩
      · dsimp only
        exact hw.reg (by omega) (RegGroup.nvm_at (by omega) (by omega)) rfl
      · refine ⟨?_, ?_⟩
        · dsimp only
          exact hw.reg (by omega) (RegGroup.nvm_at (by omega) (by omega)) rfl
        · exact trivial
    · assumption
  · rename_i b25
    extract_lets -merge -useContext +onlyGivenNames v27
    clear_value v27
    extract_lets -merge -useContext +onlyGivenNames y29
    have h30 : State.Keeps w s0 y29 := by
      unfold y29
      refine State.loadCalendars_keeps (hw.mono rfl) ?_
      refine State.Keeps.upd_bilSaved (s := x0) ?_ ?_
      · exact hw.bit rfl
      · assumption
    clear_value y29
    extract_lets -merge -useContext +onlyGivenNames y36
    have h37 : State.Keeps w s0 y36 := by
      unfold y36
      refine State.journalAhead_keeps (hw.mono rfl) ?_
      refine State.journalAhead_keeps (hw.mono rfl) ?_
      assumption
    clear_value y36
    extract_lets -merge -useContext +onlyGivenNames y42
    have h43 : State.Keeps w s0 y42 := by
      unfold y42
      refine State.subRestore_keeps (hw.mono rfl) ?_
      refine State.subRestore_keeps (hw.mono rfl) ?_
      assumption
    clear_value y42
    extract_lets -merge -useContext +onlyGivenNames v48
    clear_value v48
    refine State.Keeps.pair ?_
    refine State.sfs_keeps ?_ ?_
    · refine ⟨?_, ?_⟩
      · dsimp only
        exact hw.reg (by omega) (RegGroup.nvm_at (by omega) (by omega)) rfl
      · refine ⟨?_, ?_⟩
        · dsimp only
          exact hw.reg (by omega) (RegGroup.nvm_at (by omega) (by omega)) rfl
        · exact trivial
    · assumption

theorem State.ckptTake_keeps {w : Nat} {s0 : State} {x0 : State} {x1 : DevTime} {x2 : Option (ℕ × ℕ)} (hw : Has w 1427278998684365644504241453366945377304444929) (hx0 : State.Keeps w s0 x0) :
    State.Keeps w s0 (State.ckptTake x0 x1 x2).2 := by
  unfold State.ckptTake
  split
  · rename_i b1
    refine State.Keeps.pair ?_
    refine State.loadCalendars_keeps (hw.mono rfl) ?_
    refine State.Keeps.upd_bilSaved (s := x0) ?_ ?_
    · exact hw.bit rfl
    · assumption
  · rename_i b7 b8 b9
    extract_lets -merge -useContext +onlyGivenNames v11
    clear_value v11
    extract_lets -merge -useContext +onlyGivenNames y13
    have h14 : State.Keeps w s0 y13 := by
      unfold y13
      refine State.sf_keeps ?_ ?_
      · exact hw.reg (by omega) (RegGroup.nvm_at (by omega) (by omega)) rfl
      · refine State.splitCheck_keeps (hw.mono rfl) ?_
        refine State.ckptLoad_keeps (hw.mono rfl) ?_
        assumption
    clear_value y13
    refine State.gaspTake_keeps (hw.mono rfl) ?_
    assumption

theorem State.ckptTimer_keeps {w : Nat} {s0 : State} {x0 : State} (hw : Has w 2854495385411919762116571938898990481076125696) (hx0 : State.Keeps w s0 x0) :
    State.Keeps w s0 (State.ckptTimer x0) := by
  unfold State.ckptTimer
  split
  · rename_i c hc
    extract_lets v
    have h1 : State.Keeps w s0 v := State.checkpoint_keeps (hw.mono rfl) (State.Keeps.upd_met_bil (s := x0) (hw.bit rfl) (hw.bit rfl) hx0)
    exact State.sf_keeps (hw.reg (by omega) (RegGroup.slice_at (by omega) (by omega)) rfl) (State.Keeps.upd_met_bil (s := v) (hw.bit rfl) (hw.bit rfl) h1)
  · exact State.checkpoint_keeps (hw.mono rfl) hx0

theorem State.closeAggSummaries_keeps {w : Nat} {s0 : State} {x0 : State} (hw : Has w 2147483648) (hx0 : State.Keeps w s0 x0) :
    State.Keeps w s0 (State.closeAggSummaries x0) := by
  unfold State.closeAggSummaries
  refine State.Keeps.foldl ?_ ?_
  · assumption
  · intro a3 a4 a5
    refine State.Keeps.ite ?_ ?_
    · refine State.setRing_keeps ?_ ?_ ?_ ?_
      · exact hw.bit rfl
      · exact .inr fun _ => rfl
      · exact .inr fun _ => rfl
      · assumption
    · assumption

theorem State.configSave_keeps {w : Nat} {s0 : State} {x0 : State} (hw : Has w 206158430208) (hx0 : State.Keeps w s0 x0) :
    State.Keeps w s0 (State.configSave x0) := by
  unfold State.configSave
  refine State.storeRecord_keeps (hw.mono rfl) ?_
  assumption

theorem State.closeSession_keeps {w : Nat} {s0 : State} {x0 : State} (hw : Has w 348539532528828575504577478420508487713632) (hx0 : State.Keeps w s0 x0) :
    State.Keeps w s0 (State.closeSession x0) := by
  unfold State.closeSession
  split
  · rename_i b1 e2
    assumption
  · rename_i b4 b5 e6
    extract_lets -merge -useContext +onlyGivenNames y8
    have h9 : State.Keeps w s0 y8 := by
      unfold y8
      refine State.configSave_keeps (hw.mono rfl) ?_
      refine State.calShadowReset_keeps (hw.mono rfl) ?_
      assumption
    clear_value y8
    extract_lets -merge -useContext +onlyGivenNames y14
    extract_lets -merge -useContext +onlyGivenNames y16
    have h17 : State.Keeps w s0 y16 := by
      unfold y16
      refine State.Keeps.upd_sec (s := y8) ?_ ?_ ?_ ?_ ?_ ?_ ?_ ?_ ?_ ?_ ?_
      · exact .inr rfl
      · exact .inr rfl
      · exact .inr rfl
      · exact .inr rfl
      · exact .inl (hw.bit rfl)
      · exact .inr rfl
      · exact id
      · exact id
      · exact fun _ h h' => ⟨h, h'⟩
      · exact fun h => ⟨Nat.le_refl _, h⟩
      · assumption
    clear_value y16
    extract_lets -merge -useContext +onlyGivenNames y31
    have h32 : State.Keeps w s0 y31 := by
      unfold y31
      refine State.log_keeps (hw.mono rfl) ?_
      assumption
    clear_value y31
    refine State.Keeps.upd_sec (s := y31) ?_ ?_ ?_ ?_ ?_ ?_ ?_ ?_ ?_ ?_ ?_
    · exact .inl (hw.bit rfl)
    · exact .inr rfl
    · exact .inr rfl
    · exact .inr rfl
    · exact .inr rfl
    · exact .inr rfl
    · exact id
    · exact id
    · exact fun _ h h' => ⟨h, h'⟩
    · exact fun h => ⟨Nat.le_refl _, h⟩
    · assumption

theorem State.clrConflicts_keeps {w : Nat} {s0 : State} {x0 : State} (hw : Has w 4096) (hx0 : State.Keeps w s0 x0) :
    State.Keeps w s0 (State.clrConflicts x0) := by
  unfold State.clrConflicts
  refine State.Keeps.upd_fab (s := x0) ?_ ?_
  · exact hw.bit rfl
  · assumption

theorem State.clrLatencies_keeps {w : Nat} {s0 : State} {x0 : State} (hw : Has w 5846006549323611672814739330865132078623730171904) (hx0 : State.Keeps w s0 x0) :
    State.Keeps w s0 (State.clrLatencies x0) := by
  unfold State.clrLatencies
  refine State.sfs_keeps (regsOk_of fun e he => ?_) hx0
  obtain ⟨m, hm, he⟩ := List.mem_flatMap.1 he
  simp only [List.mem_cons, List.not_mem_nil, or_false] at he
  have h1 := List.mem_range.1 hm
  rcases he with rfl | rfl <;> exact hw.reg (by omega) (RegGroup.arbCnt_at (by omega)) rfl

theorem State.configTake_keeps {w : Nat} {s0 : State} {x0 : State} {x1 : ℕ} {x2 : Option (ℕ × ℕ)} (hw : Has w 11692013098647223345629478661711817413173751840768) (hx0 : State.Keeps w s0 x0) :
    State.Keeps w s0 (State.configTake x0 x1 x2) := by
  unfold State.configTake
  split
  · rename_i b1 b2 b3
    refine State.sf_keeps ?_ ?_
    · exact hw.reg (by omega) (RegGroup.nvm_at (by omega) (by omega)) rfl
    · refine State.cfgLoad_keeps (hw.mono rfl) ?_
      assumption
  · rename_i b8
    refine State.sf_keeps ?_ ?_
    · exact hw.reg (by omega) (RegGroup.nvm_at (by omega) (by omega)) rfl
    · assumption

theorem State.countColl_keeps {w : Nat} {s0 : State} {x0 : State} (hw : Has w 713623846352979940529143279872652781903938048) (hx0 : State.Keeps w s0 x0) :
    State.Keeps w s0 (State.countColl x0) := by
  unfold State.countColl
  refine State.raise_keeps (hw.mono rfl) ?_ ?_
  · refine State.incSat_keeps ?_ ?_
    · exact hw.reg (by omega) (RegGroup.abpErr_at (by omega) (by omega)) rfl
    · refine State.sf_keeps ?_ ?_
      · exact hw.reg (by omega) (RegGroup.abpErr_at (by omega) (by omega)) rfl
      · assumption
  · exact .inl (by omega)

theorem State.cplSealed_keeps {w : Nat} {s0 : State} {x0 : State} {x1 : ℕ} {x2 : ℕ} (hw : Has w 5923725830863410146254800139441178688881632) (hx0 : State.Keeps w s0 x0) :
    State.Keeps w s0 (State.cplSealed x0 x1 x2) := by
  unfold State.cplSealed
  split
  · rename_i b1 e2
    assumption
  · rename_i b4 b5 e6
    refine State.Keeps.ite ?_ ?_
    · extract_lets -merge -useContext +onlyGivenNames v9
      clear_value v9
      extract_lets -merge -useContext +onlyGivenNames v11
      clear_value v11
      extract_lets -merge -useContext +onlyGivenNames y13
      clear_value y13
      extract_lets -merge -useContext +onlyGivenNames y15
      have h16 : State.Keeps w s0 y15 := by
        unfold y15
        refine State.tryCpl_keeps (hw.mono rfl) ?_
        refine State.Keeps.upd_cmd (s := x0) ?_ ?_
        · exact hw.bit rfl
        · assumption
      clear_value y15
      refine State.Keeps.foldl ?_ ?_
      · assumption
      · intro a24 a25 a26
        split
        · rename_i e28
          refine State.Keeps.ite ?_ ?_
          · refine State.makeDue_keeps (hw.mono rfl) ?_
            assumption
          · assumption
        · rename_i e33
          assumption
    · assumption

theorem State.finishC_keeps {w : Nat} {s0 : State} {x0 : State} {x1 : ℕ} {x2 : ℕ} {x3 : List Byte} {x4 : Cpl → Cpl} (hw : Has w 5923725830863410146254800139440628933067744) (hx0 : State.Keeps w s0 x0) :
    State.Keeps w s0 (State.finishC x0 x1 x2 x3 x4) := by
  unfold State.finishC
  split
  · rename_i b1 e2
    assumption
  · rename_i b4 b5 e6
    split
    rename_i b8 b9 b10 e11
    extract_lets -merge -useContext +onlyGivenNames v13
    clear_value v13
    refine State.tryCpl_keeps (hw.mono rfl) ?_
    refine State.Keeps.upd_cmd (s := x0) ?_ ?_
    · exact hw.bit rfl
    · assumption

theorem State.finishW_keeps {w : Nat} {s0 : State} {x0 : State} {x1 : ℕ} {x2 : ℕ} {x3 : List Byte} {x4 : List ℕ} {x5 : List (ℕ × ℕ)} (hw : Has w 5923725830863410146254800139440628933067744) (hx0 : State.Keeps w s0 x0) :
    State.Keeps w s0 (State.finishW x0 x1 x2 x3 x4 x5) := by
  unfold State.finishW
  refine State.finishC_keeps (hw.mono rfl) ?_
  assumption

theorem State.finish_keeps {w : Nat} {s0 : State} {x0 : State} {x1 : ℕ} {x2 : ℕ} {x3 : List Byte} (hw : Has w 5923725830863410146254800139440628933067744) (hx0 : State.Keeps w s0 x0) :
    State.Keeps w s0 (State.finish x0 x1 x2 x3) := by
  unfold State.finish
  refine State.finishW_keeps (hw.mono rfl) ?_
  assumption

theorem State.deliver_keeps {w : Nat} {s0 : State} {x0 : State} {x1 : Cmd} {x2 : ℕ} {x3 : List Byte} (hw : Has w 5923725830863410146254800139440628933067744) (hx0 : State.Keeps w s0 x0) :
    State.Keeps w s0 (State.deliver x0 x1 x2 x3) := by
  unfold State.deliver
  refine State.Keeps.ite ?_ ?_
  · refine State.finish_keeps (hw.mono rfl) ?_
    assumption
  · refine State.finish_keeps (hw.mono rfl) ?_
    refine State.issue_keeps (hw.mono rfl) ?_
    assumption

theorem State.setHist_keeps {w : Nat} {s0 : State} {x0 : State} {x1 : ℕ} {x2 : Hist → Hist} (hw : Has w 1048576) (hx0 : State.Keeps w s0 x0) :
    State.Keeps w s0 (State.setHist x0 x1 x2) := by
  unfold State.setHist
  refine State.Keeps.upd_stat (s := x0) ?_ ?_
  · exact hw.bit rfl
  · assumption

theorem State.histClear_keeps {w : Nat} {s0 : State} {x0 : State} {x1 : ℕ} (hw : Has w 1048576) (hx0 : State.Keeps w s0 x0) :
    State.Keeps w s0 (State.histClear x0 x1) := by
  unfold State.histClear
  extract_lets -merge -useContext +onlyGivenNames v1
  clear_value v1
  extract_lets -merge -useContext +onlyGivenNames y3
  have h4 : State.Keeps w s0 y3 := by
    unfold y3
    refine State.cellsClear_keeps (hw.mono rfl) ?_
    assumption
  clear_value y3
  refine State.setHist_keeps (hw.mono rfl) ?_
  assumption

theorem State.descApply_keeps {w : Nat} {s0 : State} {x0 : State} {x1 : ℕ} {x2 : List ℕ} (hw : Has w 10633823966279326983230456482243805184) (hx0 : State.Keeps w s0 x0) :
    State.Keeps w s0 (State.descApply x0 x1 x2) := by
  unfold State.descApply
  extract_lets v1 v2
  refine State.Keeps.ite ?_ ?_
  · refine State.Keeps.foldlMem hx0 fun t a ha h => State.Keeps.ite (State.sf_keeps ?_ h) h
    have h1 : a.2 ∈ statErrs := (List.of_mem_zip (show (a.1, a.2) ∈ _ from ha)).2
    have h2 : ∀ f ∈ statErrs, regOk w f := by
      intro f hf
      simp only [statErrs, List.mem_cons, List.not_mem_nil, or_false] at hf
      rcases hf with rfl | rfl | rfl | rfl | rfl | rfl <;> exact hw.reg (by omega) (RegGroup.statCtrl_at (by omega) (by omega)) rfl
    exact h2 _ h1
  · refine State.sf_keeps (hw.reg (by omega) (RegGroup.statCtrl_at (by omega) (by omega)) rfl) (State.Keeps.ite (State.histClear_keeps (hw.mono rfl) ?_) ?_)
    · exact State.setHist_keeps (hw.mono rfl) hx0
    · exact State.setHist_keeps (hw.mono rfl) hx0

theorem State.doArm_keeps {w : Nat} {s0 : State} {x0 : State} (hw : Has w 5923727160091405931170673043247689213674464) (hx0 : State.Keeps w s0 x0) :
    State.Keeps w s0 (State.doArm x0) := by
  unfold State.doArm
  extract_lets -merge -useContext +onlyGivenNames v1
  clear_value v1
  refine State.Keeps.ite ?_ ?_
  · refine State.finish_keeps (hw.mono rfl) ?_
    refine State.capArm_keeps (hw.mono rfl) ?_
    assumption
  · refine State.finish_keeps (hw.mono rfl) ?_
    refine State.capErr_keeps (hw.mono rfl) ?_
    assumption

theorem State.doClose_keeps {w : Nat} {s0 : State} {x0 : State} (hw : Has w 5714914496656001008594032384844563144395195360) (hx0 : State.Keeps w s0 x0) :
    State.Keeps w s0 (State.doClose x0) := by
  unfold State.doClose
  split
  · rename_i b1 e2
    refine State.finish_keeps (hw.mono rfl) ?_
    refine State.sf_keeps ?_ ?_
    · exact hw.reg (by omega) (RegGroup.sec_at (by omega) (by omega)) rfl
    · assumption
  · rename_i b7 b8 e9
    extract_lets -merge -useContext +onlyGivenNames y11
    have h12 : State.Keeps w s0 y11 := by
      unfold y11
      refine State.closeSession_keeps (hw.mono rfl) ?_
      assumption
    clear_value y11
    refine State.finishC_keeps (hw.mono rfl) ?_
    assumption

theorem State.doForce_keeps {w : Nat} {s0 : State} {x0 : State} (hw : Has w 5923727160091405931170673043247689213674464) (hx0 : State.Keeps w s0 x0) :
    State.Keeps w s0 (State.doForce x0) := by
  unfold State.doForce
  refine State.Keeps.ite ?_ ?_
  · extract_lets -merge -useContext +onlyGivenNames y2
    have h3 : State.Keeps w s0 y2 := by
      unfold y2
      refine State.capTrigger_keeps (hw.mono rfl) ?_
      assumption
    clear_value y2
    refine State.finish_keeps (hw.mono rfl) ?_
    assumption
  · refine State.finish_keeps (hw.mono rfl) ?_
    refine State.sf_keeps ?_ ?_
    · exact hw.reg (by omega) (RegGroup.capStat_at (by omega) (by omega)) rfl
    · assumption

end Sys2Proof.Machine
end

