-- ==== Sys2Proof/Laws/KeepsC.lean ====
section
/-! SUPPORT. Every operation of the model keeps what `State.Keeps` says: one lemma for each operation, in the order in which they
call one another (part 3 of 5). Each names, as a mask, the parts and register groups that the operation may change. -/

namespace Sys2Proof.Machine

theorem State.publish_keeps {w : Nat} {s0 : State} {x0 : State} {x1 : Fin 64} (hw : Has w 2147484160) (hx0 : State.Keeps w s0 x0) :
    State.Keeps w s0 (State.publish x0 x1) := by
  unfold State.publish
  extract_lets s'
  have h1 : State.Keeps w s0 s' := by
    unfold s'
    refine State.setRing_keeps (hw.bit rfl) (.inr fun x => ?_) (.inr fun x => ?_) hx0
    · exact (Ring.setStreams_same (f := fun e t => { t with covT := max t.covT e.2 }) x.unvis x).1
    · exact (Ring.setStreams_same (f := fun e t => { t with covT := max t.covT e.2 }) x.unvis x).2
  exact State.issue_keeps (hw.mono rfl) h1

theorem State.doFullReset_keeps {w : Nat} {s0 : State} {x0 : State} {x1 : Cmd} (hw : Has w 5923725830863410165597613257778571894588387) (hx0 : State.Keeps w s0 x0) :
    State.Keeps w s0 (State.doFullReset x0 x1) := by
  unfold State.doFullReset
  refine State.Keeps.ite ?_ ?_
  · refine State.beginReset_keeps (hw.mono rfl) ?_
    assumption
  · extract_lets -merge -useContext +onlyGivenNames y4
    clear_value y4
    extract_lets -merge -useContext +onlyGivenNames y6
    have h7 : State.Keeps w s0 y6 := by
      unfold y6
      refine State.finish_keeps (hw.mono rfl) ?_
      refine State.Keeps.upd_cmd (s := x0) ?_ ?_
      · exact hw.bit rfl
      · assumption
    clear_value y6
    extract_lets -merge -useContext +onlyGivenNames y13
    have h14 : State.Keeps w s0 y13 := by
      unfold y13
      split
      · rename_i b16 b17 e18
        refine State.Keeps.ite ?_ ?_
        · refine State.publish_keeps (hw.mono rfl) ?_
          assumption
        · assumption
      · rename_i b23 e24
        assumption
    clear_value y13
    refine State.beginReset_keeps (hw.mono rfl) ?_
    assumption

theorem State.doNvmRead_keeps {w : Nat} {s0 : State} {x0 : State} {x1 : Cmd} {x2 : ℕ} {x3 : List ℕ} (hw : Has w 1433171418536823291204540769588935765315814368) (hx0 : State.Keeps w s0 x0) :
    State.Keeps w s0 (State.doNvmRead x0 x1 x2 x3) := by
  unfold State.doNvmRead
  extract_lets -merge -useContext +onlyGivenNames v1
  clear_value v1
  extract_lets -merge -useContext +onlyGivenNames v3
  clear_value v3
  refine State.Keeps.ite ?_ ?_
  · refine State.finish_keeps (hw.mono rfl) ?_
    assumption
  · refine State.Keeps.ite ?_ ?_
    · assumption
    · extract_lets -merge -useContext +onlyGivenNames v10
      clear_value v10
      extract_lets -merge -useContext +onlyGivenNames y12
      have h13 : State.Keeps w s0 y12 := by
        unfold y12
        refine State.incSat_keeps ?_ ?_
        · exact hw.reg (by omega) (RegGroup.nvm_at (by omega) (by omega)) rfl
        · refine State.incSat_keeps ?_ ?_
          · exact hw.reg (by omega) (RegGroup.nvm_at (by omega) (by omega)) rfl
          · assumption
      clear_value y12
      extract_lets -merge -useContext +onlyGivenNames v20
      clear_value v20
      refine State.deliver_keeps (hw.mono rfl) ?_
      assumption

theorem State.doNvmWrite_keeps {w : Nat} {s0 : State} {x0 : State} {x1 : Cmd} {x2 : List Byte} (hw : Has w 5923725830863410146254800139440628933067744) (hx0 : State.Keeps w s0 x0) :
    State.Keeps w s0 (State.doNvmWrite x0 x1 x2) := by
  unfold State.doNvmWrite
  extract_lets -merge -useContext +onlyGivenNames v1
  clear_value v1
  extract_lets -merge -useContext +onlyGivenNames v3
  clear_value v3
  refine State.Keeps.ite ?_ ?_
  · assumption
  · refine State.Keeps.ite ?_ ?_
    · refine State.finish_keeps (hw.mono rfl) ?_
      assumption
    · refine State.Keeps.ite ?_ ?_
      · refine State.finish_keeps (hw.mono rfl) ?_
        assumption
      · refine State.nvmQueue_keeps (hw.mono rfl) ?_
        assumption

theorem State.drawBytes_keeps {w : Nat} {s0 : State} {x0 : State} {x1 : ℕ} (hw : Has w 536870912) (hx0 : State.Keeps w s0 x0) :
    State.Keeps w s0 (State.drawBytes x0 x1).2 := by
  unfold State.drawBytes
  refine State.Keeps.pair ?_
  refine State.Keeps.upd_free (s := x0) ?_ ?_
  · exact hw.bit rfl
  · assumption

theorem State.newNonce_keeps {w : Nat} {s0 : State} {x0 : State} (hw : Has w 17592722915328) (hx0 : State.Keeps w s0 x0) :
    State.Keeps w s0 (State.newNonce x0) := by
  unfold State.newNonce
  refine State.Keeps.ite ?_ ?_
  · refine State.Keeps.upd_sec (s := x0) ?_ ?_ ?_ ?_ ?_ ?_ ?_ ?_ ?_ ?_ ?_
    · exact .inr rfl
    · exact .inr rfl
    · exact .inr rfl
    · exact .inr rfl
    · exact .inr rfl
    · exact .inl (hw.bit rfl)
    · exact id
    · exact id
    · exact fun _ h h' => ⟨h, h'⟩
    · exact fun h => ⟨Nat.le_refl _, h⟩
    · assumption
  · split
    rename_i b14 b15 b16 e17
    have h18 : State.Keeps w s0 b16 := by
      refine State.Keeps.ofPair e17 ?_
      refine State.drawBytes_keeps (hw.mono rfl) ?_
      assumption
    refine State.Keeps.upd_sec (s := b16) ?_ ?_ ?_ ?_ ?_ ?_ ?_ ?_ ?_ ?_ ?_
    · exact .inr rfl
    · exact .inr rfl
    · exact .inr rfl
    · exact .inr rfl
    · exact .inr rfl
    · exact .inl (hw.bit rfl)
    · exact id
    · exact id
    · exact fun _ h h' => ⟨h, h'⟩
    · exact fun h => ⟨Nat.le_refl _, h⟩
    · assumption

theorem State.verify_keeps {w : Nat} {s0 : State} {x0 : State} {x1 : List Byte} {x2 : ℕ} {x3 : Bool} {x4 : List Byte} (hw : Has w 5708990770823839524233143877797998138253901824) (hx0 : State.Keeps w s0 x0) :
    State.Keeps w s0 (State.verify x0 x1 x2 x3 x4).2.2 := by
  unfold State.verify
  refine State.Keeps.iteSnd2 ?_ ?_
  · refine State.Keeps.triple ?_
    refine State.newNonce_keeps (hw.mono rfl) ?_
    assumption
  · extract_lets -merge -useContext +onlyGivenNames v5
    clear_value v5
    extract_lets -merge -useContext +onlyGivenNames v7
    have h8 : State.Keeps w s0 v7 := by
      unfold v7
      refine State.sf_keeps ?_ ?_
      · exact hw.reg (by omega) (RegGroup.sec_at (by omega) (by omega)) rfl
      · assumption
    clear_value v7
    extract_lets -merge -useContext +onlyGivenNames v13
    have h14 : State.Keeps w s0 v13 := by
      unfold v13
      refine State.Keeps.ite ?_ ?_
      · refine State.sf_keeps ?_ ?_
        · exact hw.reg (by omega) (RegGroup.sec_at (by omega) (by omega)) rfl
        · assumption
      · assumption
    clear_value v13
    refine State.Keeps.triple ?_
    refine State.newNonce_keeps (hw.mono rfl) ?_
    assumption

theorem State.storeOwner_keeps {w : Nat} {s0 : State} {x0 : State} (hw : Has w 206158430208) (hx0 : State.Keeps w s0 x0) :
    State.Keeps w s0 (State.storeOwner x0) := by
  unfold State.storeOwner
  split
  rename_i b1 b2 b3 e4
  refine State.storeRecord_keeps (hw.mono rfl) ?_
  assumption

theorem State.openSession_keeps {w : Nat} {s0 : State} {x0 : State} {x1 : Port} {x2 : ℕ} (hw : Has w 348539531230754360870870571287884405408608) (hx0 : State.Keeps w s0 x0) :
    State.Keeps w s0 (State.openSession x0 x1 x2) := by
  unfold State.openSession
  extract_lets -merge -useContext +onlyGivenNames v1
  clear_value v1
  extract_lets -merge -useContext +onlyGivenNames y3
  extract_lets -merge -useContext +onlyGivenNames y5
  have h6 : State.Keeps w s0 y5 := by
    unfold y5
    refine State.Keeps.upd_sec (s := x0) ?_ ?_ ?_ ?_ ?_ ?_ ?_ ?_ ?_ ?_ ?_
    · exact .inl (hw.bit rfl)
    · exact .inr rfl
    · exact .inr rfl
    · exact .inr rfl
    · exact .inl (hw.bit rfl)
    · exact .inr rfl
    · exact id
    · exact id
    · exact fun _ h h' => ⟨h, h'⟩
    · exact fun h => ⟨Nat.le_refl _, h⟩
    · assumption
  clear_value y5
  refine State.log_keeps (hw.mono rfl) ?_
  refine State.storeOwner_keeps (hw.mono rfl) ?_
  assumption

theorem State.doOpen_keeps {w : Nat} {s0 : State} {x0 : State} {x1 : Cmd} {x2 : List Byte} (hw : Has w 5714914496654702934379398677937449212547433440) (hx0 : State.Keeps w s0 x0) :
    State.Keeps w s0 (State.doOpen x0 x1 x2) := by
  unfold State.doOpen
  extract_lets -merge -useContext +onlyGivenNames k
  have hf : ∀ {t : State} {f : Nat}, State.Keeps w s0 t → 0x1D00 ≤ f → f < 0x1D30 → ∀ {l d v}, l < 32 → State.Keeps w s0 (t.sf ⟨f, l, d⟩ v) := fun h h1 h2 l d v hl => State.sf_keeps (hw.reg hl (RegGroup.sec_at h1 h2) rfl) h
  refine State.Keeps.ite (State.finish_keeps (hw.mono rfl) hx0) (State.Keeps.ite (State.finish_keeps (hw.mono rfl) hx0) ?_)
  extract_lets -merge -useContext +onlyGivenNames held no busy lock
  refine State.Keeps.ite (State.finish_keeps (hw.mono rfl) hx0) ?_
  by_cases hc : (held || no || busy || lock) = true
  · rw [if_pos hc]
    clear_value k held no busy lock
    extract_lets -merge -useContext +onlyGivenNames s1 s2 s3 s4
    have q1 : State.Keeps w s0 s1 := State.Keeps.ite (hf hx0 (by omega) (by omega) (by omega)) hx0
    have q2 : State.Keeps w s0 s2 := State.Keeps.ite (hf q1 (by omega) (by omega) (by omega)) q1
    have q3 : State.Keeps w s0 s3 := State.Keeps.ite (hf q2 (by omega) (by omega) (by omega)) q2
    have q4 : State.Keeps w s0 s4 := State.Keeps.ite (hf q3 (by omega) (by omega) (by omega)) q3
    exact State.finish_keeps (hw.mono rfl) q4
  rw [if_neg hc]
  by_cases hk : k = 1
  · rw [if_pos hk]
    have hn : x0.sec.owner = none := by
      cases ho : x0.sec.owner with
      | none => rfl
      | some v => exact absurd (by simp [held, hk, ho]) hc
    clear_value k held no busy lock
    extract_lets -merge -useContext +onlyGivenNames x
    clear_value x
    split
    rename_i ok bits s he
    have h2 : State.Keeps w s0 s := State.Keeps.ofTriple he (State.verify_keeps (hw.mono rfl) hx0)
    have h3 : s.sec.owner = none := by
      have h4 := State.verify_owner x0 x2 1 true (decompress (leAt x2 1 1) x)
      rw [he] at h4
      exact h4.trans hn
    exact State.Keeps.ite (State.finishC_keeps (hw.mono rfl) (State.openSession_keeps (hw.mono rfl) (State.Keeps.setOwner (hw.bit rfl) (hw.bit rfl) h3 h2))) (State.finish_keeps (hw.mono rfl) h2)
  · rw [if_neg hk]
    clear_value k held no busy lock
    extract_lets -merge -useContext +onlyGivenNames x
    clear_value x
    split
    rename_i ok bits s he
    have h2 : State.Keeps w s0 s := State.Keeps.ofTriple he (State.verify_keeps (hw.mono rfl) hx0)
    exact State.Keeps.ite (State.finishC_keeps (hw.mono rfl) (State.openSession_keeps (hw.mono rfl) h2)) (State.finish_keeps (hw.mono rfl) h2)

theorem State.doPercentile_keeps {w : Nat} {s0 : State} {x0 : State} {x1 : Cmd} (hw : Has w 5923725830863410146254800139440628933067744) (hx0 : State.Keeps w s0 x0) :
    State.Keeps w s0 (State.doPercentile x0 x1) := by
  unfold State.doPercentile
  extract_lets -merge -useContext +onlyGivenNames v1
  clear_value v1
  extract_lets -merge -useContext +onlyGivenNames v3
  clear_value v3
  extract_lets -merge -useContext +onlyGivenNames v5
  clear_value v5
  extract_lets -merge -useContext +onlyGivenNames v7
  clear_value v7
  extract_lets -merge -useContext +onlyGivenNames v9
  clear_value v9
  refine State.Keeps.ite ?_ ?_
  · assumption
  · refine State.Keeps.ite ?_ ?_
    · refine State.finish_keeps (hw.mono rfl) ?_
      assumption
    · extract_lets -merge -useContext +onlyGivenNames y16
      have h17 : State.Keeps w s0 y16 := by
        unfold y16
        refine State.closeAggSummaries_keeps (hw.mono rfl) ?_
        assumption
      clear_value y16
      extract_lets -merge -useContext +onlyGivenNames v21
      clear_value v21
      split
      · rename_i b23 b24 e25
        refine State.finish_keeps (hw.mono rfl) ?_
        assumption
      · rename_i b28 b29 e30
        split
        · rename_i b32 e33
          refine State.finish_keeps (hw.mono rfl) ?_
          assumption
        · rename_i b36 b37 e38
          extract_lets -merge -useContext +onlyGivenNames v40
          clear_value v40
          refine State.finish_keeps (hw.mono rfl) ?_
          refine State.emit_keeps (hw.mono rfl) ?_
          assumption

theorem State.doReadCert_keeps {w : Nat} {s0 : State} {x0 : State} {x1 : Cmd} (hw : Has w 5923725830863410146254800139440628933067744) (hx0 : State.Keeps w s0 x0) :
    State.Keeps w s0 (State.doReadCert x0 x1) := by
  unfold State.doReadCert
  extract_lets -merge -useContext +onlyGivenNames v1
  clear_value v1
  extract_lets -merge -useContext +onlyGivenNames v3
  clear_value v3
  extract_lets -merge -useContext +onlyGivenNames v5
  refine State.Keeps.ite ?_ ?_
  · refine State.finish_keeps (hw.mono rfl) ?_
    assumption
  · refine State.Keeps.ite ?_ ?_
    · refine State.finish_keeps (hw.mono rfl) ?_
      assumption
    · extract_lets -merge -useContext +onlyGivenNames v13
      clear_value v13
      refine State.Keeps.ite ?_ ?_
      · refine State.finish_keeps (hw.mono rfl) ?_
        assumption
      · refine State.finish_keeps (hw.mono rfl) ?_
        refine State.issue_keeps (hw.mono rfl) ?_
        assumption

theorem State.doSealNow_keeps {w : Nat} {s0 : State} {x0 : State} {x1 : Cmd} (hw : Has w 5923725830863410146254800139441178688881632) (hx0 : State.Keeps w s0 x0) :
    State.Keeps w s0 (State.doSealNow x0 x1) := by
  unfold State.doSealNow
  extract_lets -merge -useContext +onlyGivenNames v1
  clear_value v1
  extract_lets -merge -useContext +onlyGivenNames v3
  clear_value v3
  extract_lets -merge -useContext +onlyGivenNames v5
  clear_value v5
  extract_lets -merge -useContext +onlyGivenNames v7
  clear_value v7
  extract_lets -merge -useContext +onlyGivenNames y9
  have h10 : State.Keeps w s0 y9 := by
    unfold y9
    refine State.Keeps.foldl ?_ ?_
    · assumption
    · intro a14 a15 a16
      refine State.makeDue_keeps (hw.mono rfl) ?_
      assumption
  clear_value y9
  refine State.finishC_keeps (hw.mono rfl) ?_
  assumption

theorem State.setTimeDone_keeps {w : Nat} {s0 : State} {x0 : State} {x1 : DevTime} (hw : Has w 5923725830863727058904857196791003108869088) (hx0 : State.Keeps w s0 x0) :
    State.Keeps w s0 (State.setTimeDone x0 x1) := by
  unfold State.setTimeDone
  extract_lets -merge -useContext +onlyGivenNames y1
  have h2 : State.Keeps w s0 y1 := by
    unfold y1
    refine State.sfs_keeps ?_ ?_
    · refine ⟨?_, ?_⟩
      · dsimp only
        exact hw.reg (by omega) (RegGroup.timeStat_at (by omega) (by omega)) rfl
      · refine ⟨?_, ?_⟩
        · dsimp only
          exact hw.reg (by omega) (RegGroup.timeStat_at (by omega) (by omega)) rfl
        · exact trivial
    · assumption
  clear_value y1
  refine State.finish_keeps (hw.mono rfl) ?_
  assumption

theorem State.slewStop_keeps {w : Nat} {s0 : State} {x0 : State} (hw : Has w 316912650057058054061751795712) (hx0 : State.Keeps w s0 x0) :
    State.Keeps w s0 (State.slewStop x0) := by
  unfold State.slewStop
  refine State.Keeps.ite ?_ ?_
  · assumption
  · refine State.incChanged_keeps (hw.mono rfl) ?_
    refine State.sf_keeps ?_ ?_
    · exact hw.reg (by omega) (RegGroup.timeStat_at (by omega) (by omega)) rfl
    · refine State.Keeps.upd_time (s := x0) ?_ ?_ ?_
      · exact .inl (hw.bit rfl)
      · exact .inr rfl
      · assumption

theorem State.slewStart_keeps {w : Nat} {s0 : State} {x0 : State} {x1 : ℤ} (hw : Has w 316912650057058335536728506368) (hx0 : State.Keeps w s0 x0) :
    State.Keeps w s0 (State.slewStart x0 x1) := by
  unfold State.slewStart
  extract_lets -merge -useContext +onlyGivenNames v1
  have h2 : State.Keeps w s0 v1 := by
    unfold v1
    refine State.slewStop_keeps (hw.mono rfl) ?_
    assumption
  clear_value v1
  refine State.Keeps.ite ?_ ?_
  · assumption
  · extract_lets -merge -useContext +onlyGivenNames v8
    clear_value v8
    extract_lets -merge -useContext +onlyGivenNames v10
    clear_value v10
    refine State.incChanged_keeps (hw.mono rfl) ?_
    refine State.sf_keeps ?_ ?_
    · exact hw.reg (by omega) (RegGroup.timeStat_at (by omega) (by omega)) rfl
    · refine State.Keeps.upd_time (s := v1) ?_ ?_ ?_
      · exact .inl (hw.bit rfl)
      · exact .inl (hw.bit rfl)
      · assumption

theorem State.gapOn_keeps {w : Nat} {s0 : State} {x0 : State} {x1 : List ℕ} {x2 : ℕ} {x3 : Gap} (hw : Has w 348539531230754360870870571278538556572512) (hx0 : State.Keeps w s0 x0) :
    State.Keeps w s0 (State.gapOn x0 x1 x2 x3) := by
  unfold State.gapOn
  refine State.Keeps.foldlMem ?_ ?_
  · assumption
  · intro a3 a4 a5 a6
    refine State.Keeps.ite ?_ ?_
    · refine State.Keeps.foldlMem ?_ ?_
      · assumption
      · intro a11 a12 a13 a14
        refine State.emitL_keeps (hw.mono rfl) ?_
        assumption
    · refine State.emit_keeps (hw.mono rfl) ?_
      assumption

theorem State.tsLost_keeps {w : Nat} {s0 : State} {x0 : State} {x1 : Fin 8} {x2 : ℕ} {x3 : ℕ} (hw : Has w 348539531230754360870870571278538556834656) (hx0 : State.Keeps w s0 x0) :
    State.Keeps w s0 (State.tsLost x0 x1 x2 x3) := by
  unfold State.tsLost
  extract_lets -merge -useContext +onlyGivenNames v1
  clear_value v1
  refine State.Keeps.ite ?_ ?_
  · assumption
  · extract_lets -merge -useContext +onlyGivenNames v5
    clear_value v5
    refine State.capGap_keeps (hw.mono rfl) ?_
    refine State.gapOn_keeps (hw.mono rfl) ?_
    assumption

theorem State.tsRelease_keeps {w : Nat} {s0 : State} {x0 : State} {x1 : Fin 8} {x2 : ℕ} (hw : Has w 348539531230754360870870571278538691052384) (hx0 : State.Keeps w s0 x0) :
    State.Keeps w s0 (State.tsRelease x0 x1 x2) := by
  unfold State.tsRelease
  extract_lets -merge -useContext +onlyGivenNames v1
  clear_value v1
  split
  · rename_i b3 e4
    assumption
  · rename_i b6 b7 b8 b9 e10
    extract_lets -merge -useContext +onlyGivenNames v12
    clear_value v12
    extract_lets -merge -useContext +onlyGivenNames y14
    have h15 : State.Keeps w s0 y14 := by
      unfold y14
      refine State.Keeps.foldl ?_ ?_
      · assumption
      · intro a19 a20 a21
        refine State.tsLost_keeps (hw.mono rfl) ?_
        assumption
    clear_value y14
    extract_lets -merge -useContext +onlyGivenNames y25
    have h26 : State.Keeps w s0 y25 := by
      unfold y25
      refine State.setTs_keeps (hw.mono rfl) ?_
      assumption
    clear_value y25
    refine State.emit_keeps (hw.mono rfl) ?_
    assumption

theorem State.supOrder_keeps {w : Nat} {s0 : State} {x0 : State} {x1 : Fin 8} (hw : Has w 2048) (hx0 : State.Keeps w s0 x0) :
    State.Keeps w s0 (State.supOrder x0 x1) := by
  unfold State.supOrder
  extract_lets -merge -useContext +onlyGivenNames v1
  clear_value v1
  extract_lets -merge -useContext +onlyGivenNames v3
  clear_value v3
  extract_lets -merge -useContext +onlyGivenNames v5
  clear_value v5
  extract_lets -merge -useContext +onlyGivenNames v7
  clear_value v7
  refine State.setOpen_keeps (hw.mono rfl) ?_
  refine State.setOpen_keeps (hw.mono rfl) ?_
  refine State.setOpen_keeps (hw.mono rfl) ?_
  assumption

theorem State.supGapTo_keeps {w : Nat} {s0 : State} {x0 : State} {x1 : Fin 8} {x2 : ℕ} {x3 : ℕ} {x4 : ℕ} (hw : Has w 348539531230754360870870571278538690792288) (hx0 : State.Keeps w s0 x0) :
    State.Keeps w s0 (State.supGapTo x0 x1 x2 x3 x4) := by
  unfold State.supGapTo
  extract_lets -merge -useContext +onlyGivenNames v1
  clear_value v1
  refine State.Keeps.ite ?_ ?_
  · assumption
  · extract_lets -merge -useContext +onlyGivenNames v5
    clear_value v5
    extract_lets -merge -useContext +onlyGivenNames y7
    have h8 : State.Keeps w s0 y7 := by
      unfold y7
      refine State.setTs_keeps (hw.mono rfl) ?_
      assumption
    clear_value y7
    extract_lets -merge -useContext +onlyGivenNames v12
    clear_value v12
    extract_lets -merge -useContext +onlyGivenNames y14
    have h15 : State.Keeps w s0 y14 := by
      unfold y14
      refine State.emit_keeps (hw.mono rfl) ?_
      refine State.supOrder_keeps (hw.mono rfl) ?_
      assumption
    clear_value y14
    refine State.Keeps.ite ?_ ?_
    · refine State.emitL_keeps (hw.mono rfl) ?_
      refine State.emitL_keeps (hw.mono rfl) ?_
      assumption
    · assumption

theorem State.supFree_keeps {w : Nat} {s0 : State} {x0 : State} {x1 : ℕ} (hw : Has w 536870912) (hx0 : State.Keeps w s0 x0) :
    State.Keeps w s0 (State.supFree x0 x1).2 := by
  unfold State.supFree
  refine State.Keeps.pair ?_
  refine State.Keeps.upd_free (s := x0) ?_ ?_
  · exact hw.bit rfl
  · assumption

theorem State.supClose_keeps {w : Nat} {s0 : State} {x0 : State} {x1 : Fin 8} {x2 : Fin 2} {x3 : ℕ} (hw : Has w 348539531230754360870870571278538690790240) (hx0 : State.Keeps w s0 x0) :
    State.Keeps w s0 (State.supClose x0 x1 x2 x3) := by
  unfold State.supClose
  extract_lets -merge -useContext +onlyGivenNames v1
  clear_value v1
  refine State.Keeps.ite ?_ ?_
  · assumption
  · extract_lets -merge -useContext +onlyGivenNames v5
    clear_value v5
    extract_lets -merge -useContext +onlyGivenNames v7
    clear_value v7
    extract_lets -merge -useContext +onlyGivenNames v9
    clear_value v9
    extract_lets -merge -useContext +onlyGivenNames y11
    have h12 : State.Keeps w s0 y11 := by
      unfold y11
      refine State.setTs_keeps (hw.mono rfl) ?_
      assumption
    clear_value y11
    refine State.emitL_keeps (hw.mono rfl) ?_
    assumption

theorem State.supAdd_keeps {w : Nat} {s0 : State} {x0 : State} {x1 : Fin 8} {x2 : Fin 2} {x3 : DevTime} {x4 : ℕ} {x5 : ℕ} {x6 : ℕ} {x7 : ℕ} {x8 : List ℚ} (hw : Has w 134217728) (hx0 : State.Keeps w s0 x0) :
    State.Keeps w s0 (State.supAdd x0 x1 x2 x3 x4 x5 x6 x7 x8) := by
  unfold State.supAdd
  refine State.setTs_keeps (hw.mono rfl) ?_
  assumption

theorem State.supRecord_keeps {w : Nat} {s0 : State} {x0 : State} {x1 : Fin 8} {x2 : ℕ} {x3 : ℕ} {x4 : List (List ℚ)} {x5 : ℕ} (hw : Has w 348539531230754360870870571278538690792288) (hx0 : State.Keeps w s0 x0) :
    State.Keeps w s0 (State.supRecord x0 x1 x2 x3 x4 x5) := by
  unfold State.supRecord
  extract_lets -merge -useContext +onlyGivenNames v1
  clear_value v1
  extract_lets -merge -useContext +onlyGivenNames v3
  clear_value v3
  extract_lets -merge -useContext +onlyGivenNames v5
  clear_value v5
  extract_lets -merge -useContext +onlyGivenNames v7
  clear_value v7
  extract_lets -merge -useContext +onlyGivenNames v9
  clear_value v9
  extract_lets -merge -useContext +onlyGivenNames v11
  clear_value v11
  extract_lets -merge -useContext +onlyGivenNames v13
  clear_value v13
  extract_lets -merge -useContext +onlyGivenNames v15
  clear_value v15
  extract_lets -merge -useContext +onlyGivenNames v17
  clear_value v17
  extract_lets -merge -useContext +onlyGivenNames v19
  clear_value v19
  extract_lets -merge -useContext +onlyGivenNames v21
  clear_value v21
  extract_lets -merge -useContext +onlyGivenNames y23
  have h24 : State.Keeps w s0 y23 := by
    unfold y23
    refine State.setTs_keeps (hw.mono rfl) ?_
    assumption
  clear_value y23
  extract_lets -merge -useContext +onlyGivenNames y28
  have h29 : State.Keeps w s0 y28 := by
    unfold y28
    refine State.supOrder_keeps (hw.mono rfl) ?_
    assumption
  clear_value y28
  extract_lets -merge -useContext +onlyGivenNames y33
  have h34 : State.Keeps w s0 y33 := by
    unfold y33
    refine State.emit_keeps (hw.mono rfl) ?_
    assumption
  clear_value y33
  refine State.Keeps.ite ?_ ?_
  · assumption
  · extract_lets -merge -useContext +onlyGivenNames v40
    have h41 : ∀ t0 t1, State.Keeps w s0 t0 → State.Keeps w s0 (v40 t0 t1) := by
      intro a42 a43 a44
      unfold v40
      extract_lets -merge -useContext +onlyGivenNames y46
      have h47 : State.Keeps w s0 y46 := by
        unfold y46
        refine State.Keeps.ite ?_ ?_
        · refine State.supClose_keeps (hw.mono rfl) ?_
          assumption
        · assumption
      clear_value y46
      extract_lets -merge -useContext +onlyGivenNames y53
      have h54 : State.Keeps w s0 y53 := by
        unfold y53
        refine State.supAdd_keeps (hw.mono rfl) ?_
        assumption
      clear_value y53
      refine State.Keeps.ite ?_ ?_
      · refine State.supClose_keeps (hw.mono rfl) ?_
        assumption
      · assumption
    clear_value v40
    refine State.release_keeps (hw.mono rfl) ?_
    refine State.supOrder_keeps (hw.mono rfl) ?_
    apply_assumption
    apply_assumption
    assumption

theorem State.supRun_keeps {w : Nat} {s0 : State} {x0 : State} {x1 : Fin 8} {x2 : ℕ} {x3 : ℕ} {x4 : Option (List (List ℚ))} (hw : Has w 348539531230754360870870571278539227663200) (hx0 : State.Keeps w s0 x0) :
    State.Keeps w s0 (State.supRun x0 x1 x2 x3 x4) := by
  unfold State.supRun
  extract_lets -merge -useContext +onlyGivenNames v1
  clear_value v1
  extract_lets -merge -useContext +onlyGivenNames v3
  clear_value v3
  extract_lets -merge -useContext +onlyGivenNames v5
  clear_value v5
  refine State.Keeps.ite ?_ ?_
  · assumption
  · extract_lets -merge -useContext +onlyGivenNames v9
    clear_value v9
    extract_lets -merge -useContext +onlyGivenNames v11
    clear_value v11
    extract_lets -merge -useContext +onlyGivenNames y13
    have h14 : State.Keeps w s0 y13 := by
      unfold y13
      refine State.supGapTo_keeps (hw.mono rfl) ?_
      assumption
    clear_value y13
    split
    rename_i b18 b19 b20 e21
    have h22 : State.Keeps w s0 b20 := by
      refine State.Keeps.ofPair e21 ?_
      split
      · rename_i b24 b25
        assumption
      · rename_i b27
        refine State.supFree_keeps (hw.mono rfl) ?_
        assumption
    refine State.supRecord_keeps (hw.mono rfl) ?_
    assumption

theorem State.supRuns_keeps {w : Nat} {s0 : State} {x0 : State} {x1 : Fin 8} {x2 : ℕ} {x3 : ℕ} (hw : Has w 348539531230754360870870571278539227663200) (hx0 : State.Keeps w s0 x0) :
    State.Keeps w s0 (State.supRuns x0 x1 x2 x3) := by
  unfold State.supRuns
  extract_lets -merge -useContext +onlyGivenNames v1
  clear_value v1
  refine State.Keeps.foldlMem ?_ ?_
  · assumption
  · intro a4 a5 a6 a7
    have a8 := List.mem_range.1 a6
    refine State.supRun_keeps (hw.mono rfl) ?_
    assumption

theorem State.supCut_keeps {w : Nat} {s0 : State} {x0 : State} {x1 : Fin 8} {x2 : ℕ} {x3 : ℕ} (hw : Has w 348539531230754360870870571278539227663200) (hx0 : State.Keeps w s0 x0) :
    State.Keeps w s0 (State.supCut x0 x1 x2 x3) := by
  unfold State.supCut
  refine State.Keeps.ite ?_ ?_
  · assumption
  · extract_lets -merge -useContext +onlyGivenNames v3
    clear_value v3
    extract_lets -merge -useContext +onlyGivenNames y5
    have h6 : State.Keeps w s0 y5 := by
      unfold y5
      refine State.supRuns_keeps (hw.mono rfl) ?_
      assumption
    clear_value y5
    extract_lets -merge -useContext +onlyGivenNames y10
    have h11 : State.Keeps w s0 y10 := by
      unfold y10
      refine State.supClose_keeps (hw.mono rfl) ?_
      refine State.supClose_keeps (hw.mono rfl) ?_
      assumption
    clear_value y10
    extract_lets -merge -useContext +onlyGivenNames v16
    clear_value v16
    refine State.supGapTo_keeps (hw.mono rfl) ?_
    assumption

theorem State.tsStep_keeps {w : Nat} {s0 : State} {x0 : State} {x1 : Fin 8} {x2 : ℤ} (hw : Has w 348539531230754360870870571278539227925344) (hx0 : State.Keeps w s0 x0) :
    State.Keeps w s0 (State.tsStep x0 x1 x2) := by
  unfold State.tsStep
  refine State.Keeps.ite ?_ ?_
  · assumption
  · extract_lets -merge -useContext +onlyGivenNames y3
    have h4 : State.Keeps w s0 y3 := by
      unfold y3
      refine State.tsRelease_keeps (hw.mono rfl) ?_
      assumption
    clear_value y3
    extract_lets -merge -useContext +onlyGivenNames y8
    have h9 : State.Keeps w s0 y8 := by
      unfold y8
      refine State.Keeps.ite ?_ ?_
      · refine State.supCut_keeps (hw.mono rfl) ?_
        assumption
      · assumption
    clear_value y8
    refine State.setTs_keeps (hw.mono rfl) ?_
    assumption

theorem State.tsShadow_keeps {w : Nat} {s0 : State} {x0 : State} {x1 : Fin 8} (hw : Has w 134219776) (hx0 : State.Keeps w s0 x0) :
    State.Keeps w s0 (State.tsShadow x0 x1) := by
  unfold State.tsShadow
  refine State.Keeps.ite ?_ ?_
  · refine State.supOrder_keeps (hw.mono rfl) ?_
    refine State.setTs_keeps (hw.mono rfl) ?_
    assumption
  · assumption

theorem State.tsShadowEnd_keeps {w : Nat} {s0 : State} {x0 : State} {x1 : Fin 8} {x2 : DevTime} (hw : Has w 348539531230754360870870571278538691054432) (hx0 : State.Keeps w s0 x0) :
    State.Keeps w s0 (State.tsShadowEnd x0 x1 x2) := by
  unfold State.tsShadowEnd
  split
  · rename_i b1 e2
    assumption
  · rename_i b4 b5 e6
    extract_lets -merge -useContext +onlyGivenNames v8
    clear_value v8
    extract_lets -merge -useContext +onlyGivenNames v10
    clear_value v10
    extract_lets -merge -useContext +onlyGivenNames v12
    clear_value v12
    extract_lets -merge -useContext +onlyGivenNames y14
    have h15 : State.Keeps w s0 y14 := by
      unfold y14
      refine State.setTs_keeps (hw.mono rfl) ?_
      assumption
    clear_value y14
    extract_lets -merge -useContext +onlyGivenNames y19
    have h20 : State.Keeps w s0 y19 := by
      unfold y19
      refine State.capGap_keeps (hw.mono rfl) ?_
      refine State.emit_keeps (hw.mono rfl) ?_
      assumption
    clear_value y19
    extract_lets -merge -useContext +onlyGivenNames y25
    have h26 : State.Keeps w s0 y25 := by
      unfold y25
      refine State.emit_keeps (hw.mono rfl) ?_
      assumption
    clear_value y25
    extract_lets -merge -useContext +onlyGivenNames y30
    have h31 : State.Keeps w s0 y30 := by
      unfold y30
      refine State.Keeps.ite ?_ ?_
      · assumption
      · refine State.Keeps.ite ?_ ?_
        · refine State.Keeps.ite ?_ ?_
          · refine State.emitL_keeps (hw.mono rfl) ?_
            refine State.emitL_keeps (hw.mono rfl) ?_
            assumption
          · assumption
        · assumption
    clear_value y30
    refine State.supOrder_keeps (hw.mono rfl) ?_
    assumption

theorem State.logTime_keeps {w : Nat} {s0 : State} {x0 : State} {x1 : ℕ} {x2 : DevTime} {x3 : ℤ} {x4 : List (ℕ × ℕ)} (hw : Has w 348539531230754360870870571278538556572512) (hx0 : State.Keeps w s0 x0) :
    State.Keeps w s0 (State.logTime x0 x1 x2 x3 x4) := by
  unfold State.logTime
  refine State.log_keeps (hw.mono rfl) ?_
  assumption

theorem State.timeStep_keeps {w : Nat} {s0 : State} {x0 : State} {x1 : ℤ} (hw : Has w 228359986178132150459368545307041019716810574688) (hx0 : State.Keeps w s0 x0) :
    State.Keeps w s0 (State.timeStep x0 x1) := by
  unfold State.timeStep
  extract_lets -merge -useContext +onlyGivenNames y1
  have h2 : State.Keeps w s0 y1 := by
    unfold y1
    refine State.slewStop_keeps (hw.mono rfl) ?_
    assumption
  extract_lets -merge -useContext +onlyGivenNames v6
  extract_lets -merge -useContext +onlyGivenNames v8
  extract_lets -merge -useContext +onlyGivenNames v10
  extract_lets -merge -useContext +onlyGivenNames v12
  extract_lets -merge -useContext +onlyGivenNames v14
  extract_lets -merge -useContext +onlyGivenNames v16
  extract_lets -merge -useContext +onlyGivenNames v18
  extract_lets -merge -useContext +onlyGivenNames v20
  extract_lets -merge -useContext +onlyGivenNames v22
  extract_lets -merge -useContext +onlyGivenNames y24
  have h25 : State.Keeps w s0 y24 := by
    unfold y24
    refine State.Keeps.foldl ?_ ?_
    · assumption
    · intro a29 a30 a31
      extract_lets -merge -useContext +onlyGivenNames v33
      refine State.Keeps.ite ?_ ?_
      · assumption
      · refine State.Keeps.ite ?_ ?_
        · refine State.setGrp_keeps ?_ ?_ ?_ ?_
          · exact hw.bit rfl
          · exact .inr fun _ => rfl
          · exact .inr fun _ => rfl
          · assumption
        · extract_lets -merge -useContext +onlyGivenNames v43
          refine State.setGrp_keeps ?_ ?_ ?_ ?_
          · exact hw.bit rfl
          · exact .inr fun _ => rfl
          · exact .inr fun _ => rfl
          · assumption
  extract_lets -merge -useContext +onlyGivenNames y50
  have h51 : State.Keeps w s0 y50 := by
    unfold y50
    refine State.Keeps.foldl ?_ ?_
    · assumption
    · intro a55 a56 a57
      refine State.tsStep_keeps (hw.mono rfl) ?_
      assumption
  extract_lets -merge -useContext +onlyGivenNames y61
  have h62 : State.Keeps w s0 y61 := by
    unfold y61
    refine State.capFlag_keeps (hw.mono rfl) ?_
    assumption
  extract_lets -merge -useContext +onlyGivenNames v66
  extract_lets -merge -useContext +onlyGivenNames v68
  extract_lets -merge -useContext +onlyGivenNames y70
  extract_lets -merge -useContext +onlyGivenNames y72
  have h73 : State.Keeps w s0 y72 := by
    unfold y72
    refine State.capFlag_keeps (hw.mono rfl) ?_
    refine State.Keeps.upd_ket_time (s := y61) ?_ ?_ ?_ ?_ ?_
    · exact .inr rfl
    · exact .inr (le_max_left _ _)
    · exact .inl (hw.bit rfl)
    · exact .inl (hw.bit rfl)
    · assumption
  extract_lets -merge -useContext +onlyGivenNames y82
  have h83 : State.Keeps w s0 y82 := by
    unfold y82
    refine State.mirror_keeps (hw.mono rfl) ?_
    refine State.sb_keeps ?_ ?_
    · exact hw.reg (by omega) (RegGroup.timeStat_at (by omega) (by omega)) rfl
    · assumption
  extract_lets -merge -useContext +onlyGivenNames y89
  have h90 : State.Keeps w s0 y89 := by
    unfold y89
    refine State.Keeps.ite ?_ ?_
    · refine State.Keeps.foldl ?_ ?_
      · assumption
      · intro a95 a96 a97
        refine State.tsShadow_keeps (hw.mono rfl) ?_
        assumption
    · refine State.Keeps.ite ?_ ?_
      · refine State.Keeps.foldl ?_ ?_
        · assumption
        · intro a104 a105 a106
          refine State.tsShadowEnd_keeps (hw.mono rfl) ?_
          assumption
      · assumption
  extract_lets -merge -useContext +onlyGivenNames y111
  have h112 : State.Keeps w s0 y111 := by
    unfold y111
    refine State.logTime_keeps (hw.mono rfl) ?_
    assumption
  refine State.calReach_keeps (hw.mono rfl) ?_
  refine State.Keeps.ite ?_ ?_
  · refine State.raise_keeps (hw.mono rfl) ?_ ?_
    · assumption
    · exact .inl (by omega)
  · assumption

theorem State.timeChange_keeps {w : Nat} {s0 : State} {x0 : State} {x1 : ℤ} (hw : Has w 228359986178132150459368545307041019716810574688) (hx0 : State.Keeps w s0 x0) :
    State.Keeps w s0 (State.timeChange x0 x1) := by
  unfold State.timeChange
  refine State.Keeps.ite ?_ ?_
  · refine State.slewStart_keeps (hw.mono rfl) ?_
    assumption
  · refine State.timeStep_keeps (hw.mono rfl) ?_
    assumption

theorem State.setLeap_keeps {w : Nat} {s0 : State} {x0 : State} {x1 : ℕ} (hw : Has w 5923725830868797661305770114396989921690592) (hx0 : State.Keeps w s0 x0) :
    State.Keeps w s0 (State.setLeap x0 x1) := by
  unfold State.setLeap
  extract_lets -merge -useContext +onlyGivenNames v1
  clear_value v1
  extract_lets -merge -useContext +onlyGivenNames y3
  have h4 : State.Keeps w s0 y3 := by
    unfold y3
    refine State.sf_keeps ?_ ?_
    · exact hw.reg (by omega) (RegGroup.timeStat_at (by omega) (by omega)) rfl
    · assumption
  clear_value y3
  extract_lets -merge -useContext +onlyGivenNames y9
  have h10 : State.Keeps w s0 y9 := by
    unfold y9
    refine State.Keeps.ite ?_ ?_
    · refine State.sfs_keeps ?_ ?_
      · refine ⟨?_, ?_⟩
        · dsimp only
          exact hw.reg (by omega) (RegGroup.leap_at (by omega) (by omega)) rfl
        · refine ⟨?_, ?_⟩
          · dsimp only
            exact hw.reg (by omega) (RegGroup.leap_at (by omega) (by omega)) rfl
          · refine ⟨?_, ?_⟩
            · dsimp only
              exact hw.reg (by omega) (RegGroup.timeStat_at (by omega) (by omega)) rfl
            · exact trivial
      · assumption
    · refine State.logTime_keeps (hw.mono rfl) ?_
      refine State.sfs_keeps ?_ ?_
      · refine ⟨?_, ?_⟩
        · dsimp only
          exact hw.reg (by omega) (RegGroup.leap_at (by omega) (by omega)) rfl
        · refine ⟨?_, ?_⟩
          · dsimp only
            exact hw.reg (by omega) (RegGroup.leap_at (by omega) (by omega)) rfl
          · refine ⟨?_, ?_⟩
            · dsimp only
              exact hw.reg (by omega) (RegGroup.timeStat_at (by omega) (by omega)) rfl
            · exact trivial
      · assumption
  clear_value y9
  refine State.finish_keeps (hw.mono rfl) ?_
  assumption

theorem State.doSetTime_keeps {w : Nat} {s0 : State} {x0 : State} {x1 : Cmd} {x2 : List Byte} (hw : Has w 234074552135255627709989474027324785931716922336) (hx0 : State.Keeps w s0 x0) :
    State.Keeps w s0 (State.doSetTime x0 x1 x2) := by
  unfold State.doSetTime
  extract_lets -merge -useContext +onlyGivenNames v1
  clear_value v1
  extract_lets -merge -useContext +onlyGivenNames v3
  clear_value v3
  extract_lets -merge -useContext +onlyGivenNames v5
  clear_value v5
  refine State.Keeps.ite ?_ ?_
  · assumption
  · refine State.Keeps.ite ?_ ?_
    · refine State.finish_keeps (hw.mono rfl) ?_
      assumption
    · refine State.Keeps.ite ?_ ?_
      · refine State.finish_keeps (hw.mono rfl) ?_
        assumption
      · refine State.Keeps.ite ?_ ?_
        · refine State.finish_keeps (hw.mono rfl) ?_
          assumption
        · refine State.Keeps.ite ?_ ?_
          · refine State.finish_keeps (hw.mono rfl) ?_
            refine State.sf_keeps ?_ ?_
            · exact hw.reg (by omega) (RegGroup.sec_at (by omega) (by omega)) rfl
            · assumption
          · split
            rename_i b23 b24 b25 b26 e27
            have h28 : State.Keeps w s0 b26 := by
              refine State.Keeps.ofTriple e27 ?_
              refine State.verify_keeps (hw.mono rfl) ?_
              assumption
            refine State.Keeps.ite ?_ ?_
            · refine State.finish_keeps (hw.mono rfl) ?_
              assumption
            · extract_lets -merge -useContext +onlyGivenNames v35
              clear_value v35
              split
              · rename_i b37
                refine State.setTimeDone_keeps (hw.mono rfl) ?_
                refine State.timeChange_keeps (hw.mono rfl) ?_
                refine State.slewStop_keeps (hw.mono rfl) ?_
                assumption
              · rename_i b42
                refine State.Keeps.upd_time (s := b26) ?_ ?_ ?_
                · exact .inl (hw.bit rfl)
                · exact .inr rfl
                · assumption
              · rename_i b47
                refine State.setTimeDone_keeps (hw.mono rfl) ?_
                refine State.timeChange_keeps (hw.mono rfl) ?_
                assumption
              · rename_i b51 e52 e53 e54
                refine State.setLeap_keeps (hw.mono rfl) ?_
                assumption

theorem State.snapClear_keeps {w : Nat} {s0 : State} {x0 : State} {x1 : ℕ} {x2 : ℕ} (hw : Has w 1048576) (hx0 : State.Keeps w s0 x0) :
    State.Keeps w s0 (State.snapClear x0 x1 x2) := by
  unfold State.snapClear
  extract_lets -merge -useContext +onlyGivenNames y1
  have h2 : State.Keeps w s0 y1 := by
    unfold y1
    refine State.cellsClear_keeps (hw.mono rfl) ?_
    assumption
  clear_value y1
  refine State.Keeps.foldl ?_ ?_
  · assumption
  · intro a8 a9 a10
    refine State.Keeps.ite ?_ ?_
    · refine State.setHist_keeps (hw.mono rfl) ?_
      assumption
    · assumption

theorem State.doSnapshot_keeps {w : Nat} {s0 : State} {x0 : State} {x1 : Cmd} (hw : Has w 5923725830863410146254800139440628933067744) (hx0 : State.Keeps w s0 x0) :
    State.Keeps w s0 (State.doSnapshot x0 x1) := by
  unfold State.doSnapshot
  extract_lets -merge -useContext +onlyGivenNames v1
  clear_value v1
  extract_lets -merge -useContext +onlyGivenNames v3
  clear_value v3
  extract_lets -merge -useContext +onlyGivenNames v5
  clear_value v5
  extract_lets -merge -useContext +onlyGivenNames v7
  clear_value v7
  refine State.Keeps.ite ?_ ?_
  · assumption
  · split
    · rename_i b11 b12 e13
      refine State.finish_keeps (hw.mono rfl) ?_
      assumption
    · rename_i b16 b17 e18
      refine State.Keeps.ite ?_ ?_
      · refine State.finish_keeps (hw.mono rfl) ?_
        assumption
      · split
        · rename_i b23 e24
          refine State.finish_keeps (hw.mono rfl) ?_
          assumption
        · rename_i b27 b28 e29
          extract_lets -merge -useContext +onlyGivenNames v31
          have h32 : State.Keeps w s0 v31 := by
            unfold v31
            refine State.closeAggSummaries_keeps (hw.mono rfl) ?_
            assumption
          clear_value v31
          extract_lets -merge -useContext +onlyGivenNames v36
          clear_value v36
          extract_lets -merge -useContext +onlyGivenNames v38
          clear_value v38
          extract_lets -merge -useContext +onlyGivenNames v40
          clear_value v40
          refine State.Keeps.ite ?_ ?_
          · refine State.finish_keeps (hw.mono rfl) ?_
            assumption
          · extract_lets -merge -useContext +onlyGivenNames y45
            have h46 : State.Keeps w s0 y45 := by
              unfold y45
              refine State.emits_keeps (hw.mono rfl) ?_
              assumption
            clear_value y45
            extract_lets -merge -useContext +onlyGivenNames y50
            have h51 : State.Keeps w s0 y50 := by
              unfold y50
              refine State.Keeps.ite ?_ ?_
              · refine State.snapClear_keeps (hw.mono rfl) ?_
                assumption
              · assumption
            clear_value y50
            refine State.finish_keeps (hw.mono rfl) ?_
            refine State.sf_keeps ?_ ?_
            · exact hw.reg (by omega) (RegGroup.aggStat_at (by omega) (by omega)) rfl
            · assumption

theorem State.doStart_keeps {w : Nat} {s0 : State} {x0 : State} {x1 : Cmd} (hw : Has w 5926448271630579765206842328555190446195681) (hx0 : State.Keeps w s0 x0) :
    State.Keeps w s0 (State.doStart x0 x1) := by
  unfold State.doStart
  extract_lets -merge -useContext +onlyGivenNames v1
  clear_value v1
  refine State.Keeps.ite ?_ ?_
  · assumption
  · split
    rename_i b5 b6 b7 b8 e9
    have h10 : State.Keeps w s0 b8 := by
      refine State.Keeps.ofTriple e9 ?_
      refine State.startGroups_keeps (hw.mono rfl) ?_
      assumption
    extract_lets -merge -useContext +onlyGivenNames v14
    clear_value v14
    refine State.finishW_keeps (hw.mono rfl) ?_
    assumption

theorem State.grpEnd_keeps {w : Nat} {s0 : State} {x0 : State} {x1 : Fin 2} {x2 : Bool} (hw : Has w 377124668299604746487661551714970204113760) (hx0 : State.Keeps w s0 x0) :
    State.Keeps w s0 (State.grpEnd x0 x1 x2) := by
  unfold State.grpEnd
  extract_lets -merge -useContext +onlyGivenNames y1
  have h2 : State.Keeps w s0 y1 := by
    unfold y1
    refine State.grpDue_keeps (hw.mono rfl) ?_
    assumption
  clear_value y1
  extract_lets -merge -useContext +onlyGivenNames v6
  clear_value v6
  refine State.Keeps.ite ?_ ?_
  · assumption
  · extract_lets -merge -useContext +onlyGivenNames v10
    clear_value v10
    extract_lets -merge -useContext +onlyGivenNames y12
    have h13 : State.Keeps w s0 y12 := by
      unfold y12
      refine State.setGrp_keeps ?_ ?_ ?_ ?_
      · exact hw.bit rfl
      · exact .inr fun _ => rfl
      · exact .inr fun _ => rfl
      · assumption
    clear_value y12
    extract_lets -merge -useContext +onlyGivenNames y20
    have h21 : State.Keeps w s0 y20 := by
      unfold y20
      refine State.spanGap_keeps (hw.mono rfl) ?_
      refine State.thrSettle_keeps (hw.mono rfl) ?_
      assumption
    clear_value y20
    extract_lets -merge -useContext +onlyGivenNames y26
    have h27 : State.Keeps w s0 y26 := by
      unfold y26
      refine State.Keeps.ite ?_ ?_
      · refine State.monGap_keeps (hw.mono rfl) ?_
        assumption
      · refine State.grpCut_keeps (hw.mono rfl) ?_
        refine State.Keeps.ite ?_ ?_
        · refine State.lostGap_keeps (hw.mono rfl) ?_
          assumption
        · assumption
    clear_value y26
    extract_lets -merge -useContext +onlyGivenNames y37
    have h38 : State.Keeps w s0 y37 := by
      unfold y37
      refine State.Keeps.foldlMem ?_ ?_
      · assumption
      · intro a41 a42 a43 a44
        have a45 := mem_bitsOf_lt a43
        split
        · rename_i e47
          extract_lets -merge -useContext +onlyGivenNames v49
          extract_lets -merge -useContext +onlyGivenNames y51
          have h52 : State.Keeps w s0 y51 := by
            unfold y51
            refine State.smpRelease_keeps (hw.mono rfl) ?_
            assumption
          clear_value y51
          extract_lets -merge -useContext +onlyGivenNames y56
          have h57 : State.Keeps w s0 y56 := by
            unfold y56
            refine State.Keeps.ite ?_ ?_
            · refine State.fencedGap_keeps (hw.mono rfl) ?_
              assumption
            · refine State.thrEnd_keeps (hw.mono rfl) ?_
              assumption
          clear_value y56
          extract_lets -merge -useContext +onlyGivenNames v64
          clear_value v64
          refine State.setChan_keeps ?_ ?_ ?_
          · exact hw.bit rfl
          · exact .inr fun _ => rfl
          · refine State.smpRelease_keeps (hw.mono rfl) ?_
            assumption
        · rename_i e70
          extract_lets -merge -useContext +onlyGivenNames v72
          extract_lets -merge -useContext +onlyGivenNames y74
          have h75 : State.Keeps w s0 y74 := by
            unfold y74
            refine State.smpRelease_keeps (hw.mono rfl) ?_
            assumption
          clear_value y74
          extract_lets -merge -useContext +onlyGivenNames y79
          have h80 : State.Keeps w s0 y79 := by
            unfold y79
            refine State.Keeps.ite ?_ ?_
            · refine State.fencedGap_keeps (hw.mono rfl) ?_
              assumption
            · refine State.thrEnd_keeps (hw.mono rfl) ?_
              assumption
          clear_value y79
          extract_lets -merge -useContext +onlyGivenNames v87
          clear_value v87
          refine State.setChan_keeps ?_ ?_ ?_
          · exact hw.bit rfl
          · exact .inr fun _ => rfl
          · refine State.smpRelease_keeps (hw.mono rfl) ?_
            assumption
    clear_value y37
    extract_lets -merge -useContext +onlyGivenNames y94
    have h95 : State.Keeps w s0 y94 := by
      unfold y94
      refine State.specGapOut_keeps (hw.mono rfl) ?_
      assumption
    clear_value y94
    extract_lets -merge -useContext +onlyGivenNames v99
    clear_value v99
    refine State.setGrp_keeps ?_ ?_ ?_ ?_
    · exact hw.bit rfl
    · exact .inr fun _ => rfl
    · exact .inr fun _ => rfl
    · assumption

theorem State.stopOne_keeps {w : Nat} {s0 : State} {x0 : State} {x1 : Fin 2} (hw : Has w 377124668299604751323364831299386809781088) (hx0 : State.Keeps w s0 x0) :
    State.Keeps w s0 (State.stopOne x0 x1) := by
  unfold State.stopOne
  extract_lets -merge -useContext +onlyGivenNames y1
  have h2 : State.Keeps w s0 y1 := by
    unfold y1
    refine State.grpEnd_keeps (hw.mono rfl) ?_
    assumption
  clear_value y1
  extract_lets -merge -useContext +onlyGivenNames y6
  have h7 : State.Keeps w s0 y6 := by
    unfold y6
    refine State.calApplyN_keeps (hw.mono rfl) ?_
    assumption
  clear_value y6
  extract_lets -merge -useContext +onlyGivenNames y11
  have h12 : State.Keeps w s0 y11 := by
    unfold y11
    refine State.setGrp_keeps ?_ ?_ ?_ ?_
    · exact hw.bit rfl
    · exact .inl (hw.bit rfl)
    · exact .inr fun _ => rfl
    · assumption
  clear_value y11
  extract_lets -merge -useContext +onlyGivenNames y19
  have h20 : State.Keeps w s0 y19 := by
    unfold y19
    refine State.sfs_keeps ?_ ?_
    · refine ⟨?_, ?_⟩
      · dsimp only
        refine regOk.ite ?_ ?_
        · exact hw.reg (by omega) (RegGroup.profStat_at (by omega) (by omega)) rfl
        · exact hw.reg (by omega) (RegGroup.profStat_at (by omega) (by omega)) rfl
      · refine ⟨?_, ?_⟩
        · dsimp only
          refine regOk.ite ?_ ?_
          · exact hw.reg (by omega) (RegGroup.profStat_at (by omega) (by omega)) rfl
          · exact hw.reg (by omega) (RegGroup.profStat_at (by omega) (by omega)) rfl
        · refine ⟨?_, ?_⟩
          · dsimp only
            exact hw.reg (by omega) (RegGroup.freq_at (by omega) (by omega)) rfl
          · refine ⟨?_, ?_⟩
            · dsimp only
              exact hw.reg (by omega) (RegGroup.metStat_at (by omega) (by omega)) rfl
            · refine ⟨?_, ?_⟩
              · dsimp only
                exact hw.reg (by omega) (RegGroup.specStat_at (by omega) (by omega)) rfl
              · refine ⟨?_, ?_⟩
                · dsimp only
                  exact hw.reg (by omega) (RegGroup.specStat_at (by omega) (by omega)) rfl
                · refine ⟨?_, ?_⟩
                  · dsimp only
                    exact hw.reg (by omega) (RegGroup.specStat_at (by omega) (by omega)) rfl
                  · exact trivial
    · assumption
  clear_value y19
  refine State.release_keeps (hw.mono rfl) ?_
  refine State.bilOrder_keeps (hw.mono rfl) ?_
  refine State.f10Open_keeps (hw.mono rfl) ?_
  refine State.spcOpen_keeps (hw.mono rfl) ?_
  refine State.aggOpen_keeps (hw.mono rfl) ?_
  refine State.bilOff_keeps (hw.mono rfl) ?_
  refine State.rsmpStat_keeps (hw.mono rfl) ?_
  refine State.evStat_keeps (hw.mono rfl) ?_
  assumption

theorem State.doStop_keeps {w : Nat} {s0 : State} {x0 : State} {x1 : Cmd} (hw : Has w 5952310967932260536707294399461477186276320) (hx0 : State.Keeps w s0 x0) :
    State.Keeps w s0 (State.doStop x0 x1) := by
  unfold State.doStop
  extract_lets -merge -useContext +onlyGivenNames v1
  clear_value v1
  refine State.Keeps.ite ?_ ?_
  · assumption
  · extract_lets -merge -useContext +onlyGivenNames v5
    clear_value v5
    extract_lets -merge -useContext +onlyGivenNames y7
    have h8 : State.Keeps w s0 y7 := by
      unfold y7
      refine State.Keeps.foldl ?_ ?_
      · assumption
      · intro a12 a13 a14
        refine State.stopOne_keeps (hw.mono rfl) ?_
        assumption
    clear_value y7
    extract_lets -merge -useContext +onlyGivenNames v18
    clear_value v18
    refine State.finish_keeps (hw.mono rfl) ?_
    assumption

theorem State.ketSync_keeps {w : Nat} {s0 : State} {x0 : State} (hw : Has w 228359979372486109797901259689397642329727173472) (hx0 : State.Keeps w s0 x0) :
    State.Keeps w s0 (State.ketSync x0) := by
  unfold State.ketSync
  extract_lets -merge -useContext +onlyGivenNames v1
  clear_value v1
  extract_lets -merge -useContext +onlyGivenNames y3
  have h4 : State.Keeps w s0 y3 := by
    unfold y3
    refine State.ketCopy_keeps (hw.mono rfl) ?_
    assumption
  clear_value y3
  refine State.Keeps.ite ?_ ?_
  · refine State.closeSession_keeps (hw.mono rfl) ?_
    assumption
  · assumption

theorem State.ketClear_keeps {w : Nat} {s0 : State} {x0 : State} {x1 : Fin 12} (hw : Has w 348539531230754360870870571313722928661344) (hx0 : State.Keeps w s0 x0) :
    State.Keeps w s0 (State.ketClear x0 x1) := by
  unfold State.ketClear
  extract_lets -merge -useContext +onlyGivenNames v1
  clear_value v1
  refine State.emit_keeps (hw.mono rfl) ?_
  refine State.Keeps.upd_ket (s := x0) ?_ ?_ ?_
  · exact .inl (hw.bit rfl)
  · exact .inr (Nat.le_refl _)
  · assumption

theorem State.doTamperClear_keeps {w : Nat} {s0 : State} {x0 : State} {x1 : List Byte} (hw : Has w 234074545329609581977919787496763837742729659360) (hx0 : State.Keeps w s0 x0) :
    State.Keeps w s0 (State.doTamperClear x0 x1) := by
  unfold State.doTamperClear
  refine State.Keeps.ite ?_ ?_
  · refine State.finish_keeps (hw.mono rfl) ?_
    assumption
  · refine State.Keeps.ite ?_ ?_
    · refine State.finish_keeps (hw.mono rfl) ?_
      assumption
    · refine State.Keeps.ite ?_ ?_
      · refine State.finish_keeps (hw.mono rfl) ?_
        refine State.sf_keeps ?_ ?_
        · exact hw.reg (by omega) (RegGroup.sec_at (by omega) (by omega)) rfl
        · assumption
      · split
        rename_i b12 b13 b14 b15 e16
        have h17 : State.Keeps w s0 b15 := by
          refine State.Keeps.ofTriple e16 ?_
          refine State.verify_keeps (hw.mono rfl) ?_
          assumption
        refine State.Keeps.ite ?_ ?_
        · refine State.finish_keeps (hw.mono rfl) ?_
          assumption
        · extract_lets -merge -useContext +onlyGivenNames v24
          clear_value v24
          extract_lets -merge -useContext +onlyGivenNames v26
          clear_value v26
          extract_lets -merge -useContext +onlyGivenNames y28
          have h29 : State.Keeps w s0 y28 := by
            unfold y28
            refine State.ketSync_keeps (hw.mono rfl) ?_
            refine State.Keeps.foldl ?_ ?_
            · assumption
            · intro a34 a35 a36
              refine State.ketClear_keeps (hw.mono rfl) ?_
              assumption
          clear_value y28
          refine State.finish_keeps (hw.mono rfl) ?_
          assumption

theorem State.drawBool_keeps {w : Nat} {s0 : State} {x0 : State} (hw : Has w 536870912) (hx0 : State.Keeps w s0 x0) :
    State.Keeps w s0 (State.drawBool x0).2 := by
  unfold State.drawBool
  refine State.Keeps.pair ?_
  refine State.Keeps.upd_free (s := x0) ?_ ?_
  · exact hw.bit rfl
  · assumption

theorem State.drawRat_keeps {w : Nat} {s0 : State} {x0 : State} (hw : Has w 536870912) (hx0 : State.Keeps w s0 x0) :
    State.Keeps w s0 (State.drawRat x0).2 := by
  unfold State.drawRat
  refine State.Keeps.pair ?_
  refine State.Keeps.upd_free (s := x0) ?_ ?_
  · exact hw.bit rfl
  · assumption

theorem State.eccCount_keeps {w : Nat} {s0 : State} {x0 : State} {x1 : Ecc} {x2 : ℕ} {x3 : ℕ} (hw : Has w 2656331146648535171584) (hx0 : State.Keeps w s0 x0) :
    State.Keeps w s0 (State.eccCount x0 x1 x2 x3) := by
  unfold State.eccCount
  split
  · rename_i b1
    assumption
  · rename_i b3
    refine State.sfs_keeps ?_ ?_
    · refine ⟨?_, ?_⟩
      · dsimp only
        exact hw.reg (by omega) (RegGroup.err_at (by omega) (by omega)) rfl
      · refine ⟨?_, ?_⟩
        · dsimp only
          exact hw.reg (by omega) (RegGroup.err_at (by omega) (by omega)) rfl
        · exact trivial
    · refine State.incSat_keeps ?_ ?_
      · exact hw.reg (by omega) (RegGroup.err_at (by omega) (by omega)) rfl
      · assumption
  · rename_i b13
    refine State.raise_keeps (hw.mono rfl) ?_ ?_
    · refine State.sfs_keeps ?_ ?_
      · refine ⟨?_, ?_⟩
        · dsimp only
          exact hw.reg (by omega) (RegGroup.err_at (by omega) (by omega)) rfl
        · refine ⟨?_, ?_⟩
          · dsimp only
            exact hw.reg (by omega) (RegGroup.err_at (by omega) (by omega)) rfl
          · exact trivial
      · refine State.incSat_keeps ?_ ?_
        · exact hw.reg (by omega) (RegGroup.err_at (by omega) (by omega)) rfl
        · assumption
    · exact .inl (by omega)
  · rename_i b25
    refine State.raise_keeps (hw.mono rfl) ?_ ?_
    · refine State.sfs_keeps ?_ ?_
      · refine ⟨?_, ?_⟩
        · dsimp only
          exact hw.reg (by omega) (RegGroup.err_at (by omega) (by omega)) rfl
        · refine ⟨?_, ?_⟩
          · dsimp only
            exact hw.reg (by omega) (RegGroup.err_at (by omega) (by omega)) rfl
          · exact trivial
      · refine State.incSat_keeps ?_ ?_
        · exact hw.reg (by omega) (RegGroup.err_at (by omega) (by omega)) rfl
        · refine State.incSat_keeps ?_ ?_
          · exact hw.reg (by omega) (RegGroup.err_at (by omega) (by omega)) rfl
          · assumption
    · exact .inl (by omega)

theorem State.statPoison_keeps {w : Nat} {s0 : State} {x0 : State} {x1 : ℕ} (hw : Has w 1048576) (hx0 : State.Keeps w s0 x0) :
    State.Keeps w s0 (State.statPoison x0 x1) := by
  unfold State.statPoison
  refine State.Keeps.foldl ?_ ?_
  · assumption
  · intro a3 a4 a5
    refine State.Keeps.ite ?_ ?_
    · refine State.setHist_keeps (hw.mono rfl) ?_
      assumption
    · assumption

theorem State.ueSamples_keeps {w : Nat} {s0 : State} {x0 : State} {x1 : Fin 16} {x2 : ℕ} {x3 : ℕ} (hw : Has w 348539531230754360870870576345088141820768) (hx0 : State.Keeps w s0 x0) :
    State.Keeps w s0 (State.ueSamples x0 x1 x2 x3) := by
  unfold State.ueSamples
  extract_lets -merge -useContext +onlyGivenNames v1
  extract_lets -merge -useContext +onlyGivenNames v3
  clear_value v3
  extract_lets -merge -useContext +onlyGivenNames v5
  clear_value v5
  extract_lets -merge -useContext +onlyGivenNames v7
  clear_value v7
  split
  · rename_i b9
    assumption
  · rename_i b11 b12 b13
    extract_lets -merge -useContext +onlyGivenNames v15
    clear_value v15
    extract_lets -merge -useContext +onlyGivenNames v17
    clear_value v17
    extract_lets -merge -useContext +onlyGivenNames v19
    clear_value v19
    extract_lets -merge -useContext +onlyGivenNames v21
    clear_value v21
    extract_lets -merge -useContext +onlyGivenNames v23
    clear_value v23
    extract_lets -merge -useContext +onlyGivenNames y25
    have h26 : State.Keeps w s0 y25 := by
      unfold y25
      refine State.setGrp_keeps ?_ ?_ ?_ ?_
      · exact hw.bit rfl
      · exact .inr fun _ => rfl
      · exact .inr fun _ => rfl
      · assumption
    clear_value y25
    extract_lets -merge -useContext +onlyGivenNames y33
    clear_value y33
    extract_lets -merge -useContext +onlyGivenNames y35
    have h36 : State.Keeps w s0 y35 := by
      unfold y35
      refine State.Keeps.upd_bil (s := y25) ?_ ?_
      · exact hw.bit rfl
      · assumption
    clear_value y35
    extract_lets -merge -useContext +onlyGivenNames y41
    have h42 : State.Keeps w s0 y41 := by
      unfold y41
      refine State.capGap_keeps (hw.mono rfl) ?_
      refine State.smpGap_keeps (hw.mono rfl) ?_
      assumption
    clear_value y41
    extract_lets -merge -useContext +onlyGivenNames y47
    clear_value y47
    extract_lets -merge -useContext +onlyGivenNames y49
    have h50 : State.Keeps w s0 y49 := by
      unfold y49
      refine State.Keeps.upd_cap (s := y41) ?_ ?_
      · exact hw.bit rfl
      · assumption
    clear_value y49
    refine State.Keeps.ite ?_ ?_
    · assumption
    · extract_lets -merge -useContext +onlyGivenNames y57
      have h58 : State.Keeps w s0 y57 := by
        unfold y57
        refine State.setChan_keeps ?_ ?_ ?_
        · exact hw.bit rfl
        · exact .inr fun _ => rfl
        · refine State.thrEval_keeps (hw.mono rfl) ?_
          assumption
      clear_value y57
      refine State.emit_keeps (hw.mono rfl) ?_
      assumption

theorem State.tsEvt_keeps {w : Nat} {s0 : State} {x0 : State} {x1 : Fin 8} {x2 : ℕ} {x3 : ℕ} {x4 : ℕ} {x5 : List Byte} (hw : Has w 348539531230754360870870571278538690790240) (hx0 : State.Keeps w s0 x0) :
    State.Keeps w s0 (State.tsEvt x0 x1 x2 x3 x4 x5) := by
  unfold State.tsEvt
  extract_lets -merge -useContext +onlyGivenNames v1
  clear_value v1
  extract_lets -merge -useContext +onlyGivenNames v3
  clear_value v3
  extract_lets -merge -useContext +onlyGivenNames y5
  have h6 : State.Keeps w s0 y5 := by
    unfold y5
    refine State.setTs_keeps (hw.mono rfl) ?_
    assumption
  clear_value y5
  refine State.emit_keeps (hw.mono rfl) ?_
  assumption

theorem State.tsEval_keeps {w : Nat} {s0 : State} {x0 : State} {x1 : Fin 8} {x2 : ℕ} (hw : Has w 348539531230754360870870571278538690790240) (hx0 : State.Keeps w s0 x0) :
    State.Keeps w s0 (State.tsEval x0 x1 x2) := by
  unfold State.tsEval
  refine State.tsEvt_keeps (hw.mono rfl) ?_
  assumption

theorem State.ueTransient_keeps {w : Nat} {s0 : State} {x0 : State} {x1 : Fin 8} {x2 : ℕ} {x3 : ℕ} (hw : Has w 348539531230754360870870571278538691052384) (hx0 : State.Keeps w s0 x0) :
    State.Keeps w s0 (State.ueTransient x0 x1 x2 x3) := by
  unfold State.ueTransient
  extract_lets -merge -useContext +onlyGivenNames v1
  clear_value v1
  extract_lets -merge -useContext +onlyGivenNames v3
  clear_value v3
  split
  · rename_i b5 e6
    assumption
  · rename_i b8 b9 b10 e11
    extract_lets -merge -useContext +onlyGivenNames v13
    clear_value v13
    extract_lets -merge -useContext +onlyGivenNames v15
    clear_value v15
    extract_lets -merge -useContext +onlyGivenNames v17
    clear_value v17
    extract_lets -merge -useContext +onlyGivenNames y19
    have h20 : State.Keeps w s0 y19 := by
      unfold y19
      refine State.setTs_keeps (hw.mono rfl) ?_
      assumption
    clear_value y19
    extract_lets -merge -useContext +onlyGivenNames y24
    have h25 : State.Keeps w s0 y24 := by
      unfold y24
      refine State.setTs_keeps (hw.mono rfl) ?_
      refine State.tsRelease_keeps (hw.mono rfl) ?_
      assumption
    clear_value y24
    extract_lets -merge -useContext +onlyGivenNames y30
    have h31 : State.Keeps w s0 y30 := by
      unfold y30
      refine State.capGap_keeps (hw.mono rfl) ?_
      refine State.gapOn_keeps (hw.mono rfl) ?_
      assumption
    clear_value y30
    extract_lets -merge -useContext +onlyGivenNames y36
    clear_value y36
    extract_lets -merge -useContext +onlyGivenNames y38
    have h39 : State.Keeps w s0 y38 := by
      unfold y38
      refine State.Keeps.upd_cap (s := y30) ?_ ?_
      · exact hw.bit rfl
      · assumption
    clear_value y38
    extract_lets -merge -useContext +onlyGivenNames y44
    have h45 : State.Keeps w s0 y44 := by
      unfold y44
      refine State.Keeps.ite ?_ ?_
      · refine State.setTs_keeps (hw.mono rfl) ?_
        assumption
      · assumption
    clear_value y44
    refine State.Keeps.ite ?_ ?_
    · assumption
    · refine State.emit_keeps (hw.mono rfl) ?_
      refine State.setTs_keeps (hw.mono rfl) ?_
      refine State.tsEval_keeps (hw.mono rfl) ?_
      assumption

theorem State.ueCapture_keeps {w : Nat} {s0 : State} {x0 : State} {x1 : ℕ} {x2 : ℕ} {x3 : ℕ} (hw : Has w 262144) (hx0 : State.Keeps w s0 x0) :
    State.Keeps w s0 (State.ueCapture x0 x1 x2 x3) := by
  unfold State.ueCapture
  extract_lets -merge -useContext +onlyGivenNames v1
  clear_value v1
  split
  · rename_i b3 e4
    assumption
  · rename_i b6 b7 b8 e9
    extract_lets -merge -useContext +onlyGivenNames v11
    clear_value v11
    refine State.Keeps.upd_cap (s := x0) ?_ ?_
    · exact hw.bit rfl
    · assumption

theorem State.ueSpec_keeps {w : Nat} {s0 : State} {x0 : State} {x1 : Fin 2} {x2 : ℕ} (hw : Has w 562949953421312) (hx0 : State.Keeps w s0 x0) :
    State.Keeps w s0 (State.ueSpec x0 x1 x2) := by
  unfold State.ueSpec
  refine State.setGrp_keeps ?_ ?_ ?_ ?_
  · exact hw.bit rfl
  · (refine .inr fun _ => ?_; dsimp only; split <;> (try split) <;> rfl)
  · (refine .inr fun _ => ?_; dsimp only; split <;> (try split) <;> rfl)
  · assumption

theorem State.ueRunning_keeps {w : Nat} {s0 : State} {x0 : State} {x1 : Fin 2} {x2 : Fin 3} {x3 : List ℕ} (hw : Has w 562949953421312) (hx0 : State.Keeps w s0 x0) :
    State.Keeps w s0 (State.ueRunning x0 x1 x2 x3) := by
  unfold State.ueRunning
  refine State.Keeps.ite ?_ ?_
  · refine State.setLvl_keeps (hw.mono rfl) ?_
    assumption
  · assumption

theorem State.ueHit_keeps {w : Nat} {s0 : State} {x0 : State} {x1 : UeHit} (hw : Has w 348539531230754360870870576345088276038496) (hx0 : State.Keeps w s0 x0) :
    State.Keeps w s0 (State.ueHit x0 x1) := by
  unfold State.ueHit
  split
  · rename_i b1 b2 b3 b4 b5
    refine State.ueSamples_keeps (hw.mono rfl) ?_
    assumption
  · rename_i b8 b9 b10 b11
    refine State.ueTransient_keeps (hw.mono rfl) ?_
    assumption
  · rename_i b14 b15 b16 b17
    refine State.ueCapture_keeps (hw.mono rfl) ?_
    assumption
  · rename_i b20 b21 b22
    refine State.ueSpec_keeps (hw.mono rfl) ?_
    assumption
  · rename_i b25 b26
    refine State.Keeps.ite ?_ ?_
    · refine State.setTs_keeps (hw.mono rfl) ?_
      assumption
    · assumption
  · rename_i b31 b32 b33 b34
    refine State.ueRunning_keeps (hw.mono rfl) ?_
    assumption
  · rename_i b37 b38 b39 b40
    refine State.setRing_keeps ?_ ?_ ?_ ?_
    · exact hw.bit rfl
    · exact .inr fun _ => rfl
    · exact .inr fun _ => rfl
    · assumption
  · rename_i b46 b47 b48
    refine State.setRing_keeps ?_ ?_ ?_ ?_
    · exact hw.bit rfl
    · exact .inr fun _ => rfl
    · exact .inr fun _ => rfl
    · assumption

theorem State.ueRegion_keeps {w : Nat} {s0 : State} {x0 : State} {x1 : ℕ} {x2 : ℕ} {x3 : List UeHit} (hw : Has w 11692013098647223345629478661711822488779771087712) (hx0 : State.Keeps w s0 x0) :
    State.Keeps w s0 (State.ueRegion x0 x1 x2 x3) := by
  unfold State.ueRegion
  extract_lets -merge -useContext +onlyGivenNames y1
  have h2 : State.Keeps w s0 y1 := by
    unfold y1
    refine State.Keeps.ite ?_ ?_
    · refine State.ckptHit_keeps (hw.mono rfl) ?_
      assumption
    · assumption
  clear_value y1
  extract_lets -merge -useContext +onlyGivenNames y8
  have h9 : State.Keeps w s0 y8 := by
    unfold y8
    split
    · rename_i b11 b12 e13
      refine State.statPoison_keeps (hw.mono rfl) ?_
      assumption
    · rename_i b16 e17
      assumption
  clear_value y8
  refine State.Keeps.foldl ?_ ?_
  · assumption
  · intro a22 a23 a24
    refine State.ueHit_keeps (hw.mono rfl) ?_
    assumption

theorem State.eccRead_keeps {w : Nat} {s0 : State} {x0 : State} {x1 : Ecc} {x2 : ℕ} {x3 : ℕ} {x4 : List UeHit} (hw : Has w 11692013098647223345629478661711822488779771087712) (hx0 : State.Keeps w s0 x0) :
    State.Keeps w s0 (State.eccRead x0 x1 x2 x3 x4) := by
  unfold State.eccRead
  extract_lets -merge -useContext +onlyGivenNames y1
  have h2 : State.Keeps w s0 y1 := by
    unfold y1
    refine State.eccCount_keeps (hw.mono rfl) ?_
    assumption
  clear_value y1
  refine State.Keeps.ite ?_ ?_
  · refine State.ueRegion_keeps (hw.mono rfl) ?_
    assumption
  · assumption

theorem State.evTestEnd_keeps {w : Nat} {s0 : State} {x0 : State} {x1 : Fin 2} {x2 : ℕ} {x3 : DevTime} {x4 : ℕ} {x5 : List (Option ℚ)} (hw : Has w 348539531230754360870870571841488509993824) (hx0 : State.Keeps w s0 x0) :
    State.Keeps w s0 (State.evTestEnd x0 x1 x2 x3 x4 x5) := by
  unfold State.evTestEnd
  extract_lets -merge -useContext +onlyGivenNames v1
  clear_value v1
  split
  · rename_i b3 e4
    assumption
  · rename_i b6 b7 e8
    extract_lets -merge -useContext +onlyGivenNames v10
    clear_value v10
    refine State.Keeps.ite ?_ ?_
    · refine State.evFinish_keeps (hw.mono rfl) ?_
      assumption
    · refine State.setEv_keeps (hw.mono rfl) ?_
      assumption

theorem State.evTestStart_keeps {w : Nat} {s0 : State} {x0 : State} {x1 : Fin 2} {x2 : ℕ} {x3 : Bool} {x4 : DevTime} {x5 : ℕ} {x6 : List (Option ℚ)} (hw : Has w 348540943535499882343985532136490058122080) (hx0 : State.Keeps w s0 x0) :
    State.Keeps w s0 (State.evTestStart x0 x1 x2 x3 x4 x5 x6) := by
  unfold State.evTestStart
  extract_lets -merge -useContext +onlyGivenNames v1
  clear_value v1
  refine State.Keeps.ite ?_ ?_
  · assumption
  · extract_lets -merge -useContext +onlyGivenNames v5
    clear_value v5
    extract_lets -merge -useContext +onlyGivenNames y7
    have h8 : State.Keeps w s0 y7 := by
      unfold y7
      refine State.setEv_keeps (hw.mono rfl) ?_
      assumption
    clear_value y7
    extract_lets -merge -useContext +onlyGivenNames y12
    have h13 : State.Keeps w s0 y12 := by
      unfold y12
      refine State.incWrap_keeps ?_ ?_
      · exact hw.reg (by omega) (RegGroup.evtStat_at (by omega) (by omega)) rfl
      · refine State.evEmit_keeps (hw.mono rfl) ?_
        assumption
    clear_value y12
    extract_lets -merge -useContext +onlyGivenNames y19
    have h20 : State.Keeps w s0 y19 := by
      unfold y19
      refine State.setEv_keeps (hw.mono rfl) ?_
      assumption
    clear_value y19
    refine State.capEvent_keeps (hw.mono rfl) ?_
    assumption

theorem State.rvcEmit_keeps {w : Nat} {s0 : State} {x0 : State} {x1 : Fin 2} {x2 : RvcCand} {x3 : ℕ} (hw : Has w 348539531230754360870870571841488509993824) (hx0 : State.Keeps w s0 x0) :
    State.Keeps w s0 (State.rvcEmit x0 x1 x2 x3) := by
  unfold State.rvcEmit
  extract_lets -merge -useContext +onlyGivenNames v1
  clear_value v1
  extract_lets -merge -useContext +onlyGivenNames v3
  clear_value v3
  extract_lets -merge -useContext +onlyGivenNames v5
  clear_value v5
  extract_lets -merge -useContext +onlyGivenNames v7
  clear_value v7
  extract_lets -merge -useContext +onlyGivenNames v9
  clear_value v9
  extract_lets -merge -useContext +onlyGivenNames v11
  clear_value v11
  extract_lets -merge -useContext +onlyGivenNames v13
  clear_value v13
  extract_lets -merge -useContext +onlyGivenNames v15
  clear_value v15
  extract_lets -merge -useContext +onlyGivenNames v17
  clear_value v17
  extract_lets -merge -useContext +onlyGivenNames v19
  clear_value v19
  refine State.evRec_keeps (hw.mono rfl) ?_
  assumption

theorem State.rvcStep_keeps {w : Nat} {s0 : State} {x0 : State} {x1 : Fin 2} {x2 : DevTime} {x3 : ℕ} {x4 : List (Option ℚ)} (hw : Has w 348540860458750145786743475648548790600544) (hx0 : State.Keeps w s0 x0) :
    State.Keeps w s0 (State.rvcStep x0 x1 x2 x3 x4) := by
  unfold State.rvcStep
  extract_lets -merge -useContext +onlyGivenNames v1
  clear_value v1
  extract_lets -merge -useContext +onlyGivenNames v3
  clear_value v3
  extract_lets -merge -useContext +onlyGivenNames v5
  clear_value v5
  extract_lets -merge -useContext +onlyGivenNames v7
  clear_value v7
  extract_lets -merge -useContext +onlyGivenNames v9
  have h10 : ∀ t0 t1, State.Keeps w s0 t1 → State.Keeps w s0 (v9 t0 t1) := by
    intro a11 a12 a13
    unfold v9
    refine State.setEv_keeps (hw.mono rfl) ?_
    assumption
  clear_value v9
  split
  · rename_i b17 b18 e19
    extract_lets -merge -useContext +onlyGivenNames v21
    clear_value v21
    refine State.Keeps.ite ?_ ?_
    · apply_assumption
      refine State.rvcEmit_keeps (hw.mono rfl) ?_
      assumption
    · apply_assumption
      assumption
  · rename_i b28 e29
    refine State.Keeps.ite ?_ ?_
    · extract_lets -merge -useContext +onlyGivenNames v32
      clear_value v32
      refine State.Keeps.ite ?_ ?_
      · refine State.capEvent_keeps (hw.mono rfl) ?_
        apply_assumption
        assumption
      · apply_assumption
        assumption
    · apply_assumption
      assumption

theorem State.evValue_keeps {w : Nat} {s0 : State} {x0 : State} {x1 : Fin 2} {x2 : DevTime} {x3 : ℕ} {x4 : List (Option ℚ)} (hw : Has w 348540943535499882343985532136490058122080) (hx0 : State.Keeps w s0 x0) :
    State.Keeps w s0 (State.evValue x0 x1 x2 x3 x4) := by
  unfold State.evValue
  extract_lets -merge -useContext +onlyGivenNames v1
  clear_value v1
  refine State.Keeps.ite ?_ ?_
  · assumption
  · extract_lets -merge -useContext +onlyGivenNames v5
    clear_value v5
    extract_lets -merge -useContext +onlyGivenNames y7
    have h8 : State.Keeps w s0 y7 := by
      unfold y7
      refine State.Keeps.foldlMem ?_ ?_
      · assumption
      · intro a12 a13 a14 a15
        refine State.evTestEnd_keeps (hw.mono rfl) ?_
        assumption
    clear_value y7
    extract_lets -merge -useContext +onlyGivenNames v19
    clear_value v19
    extract_lets -merge -useContext +onlyGivenNames y21
    have h22 : State.Keeps w s0 y21 := by
      unfold y21
      refine State.Keeps.foldlMem ?_ ?_
      · assumption
      · intro a26 a27 a28 a29
        refine State.evTestStart_keeps (hw.mono rfl) ?_
        assumption
    clear_value y21
    extract_lets -merge -useContext +onlyGivenNames v33
    clear_value v33
    extract_lets -merge -useContext +onlyGivenNames v35
    clear_value v35
    extract_lets -merge -useContext +onlyGivenNames y37
    have h38 : State.Keeps w s0 y37 := by
      unfold y37
      refine State.Keeps.ite ?_ ?_
      · refine State.setEv_keeps (hw.mono rfl) ?_
        assumption
      · refine State.Keeps.ite ?_ ?_
        · assumption
        · refine State.rvcStep_keeps (hw.mono rfl) ?_
          assumption
    clear_value y37
    refine State.evStat_keeps (hw.mono rfl) ?_
    assumption

theorem State.f10Cross_keeps {w : Nat} {s0 : State} {x0 : State} {x1 : Fin 2} {x2 : DevTime} (hw : Has w 562949953421312) (hx0 : State.Keeps w s0 x0) :
    State.Keeps w s0 (State.f10Cross x0 x1 x2) := by
  unfold State.f10Cross
  split
  · rename_i b1 b2 e3
    refine State.Keeps.ite ?_ ?_
    · assumption
    · refine State.setGrp_keeps ?_ ?_ ?_ ?_
      · exact hw.bit rfl
      · exact .inr fun _ => rfl
      · exact .inr fun _ => rfl
      · assumption
  · rename_i b11 e12
    assumption

theorem State.fabPresent_keeps {w : Nat} {s0 : State} {x0 : State} {x1 : FabPresent} (hw : Has w 4096) (hx0 : State.Keeps w s0 x0) :
    State.Keeps w s0 (State.fabPresent x0 x1) := by
  unfold State.fabPresent
  refine State.Keeps.ite ?_ ?_
  · refine State.Keeps.upd_fab (s := x0) ?_ ?_
    · exact hw.bit rfl
    · assumption
  · assumption

theorem State.fabRun_keeps {w : Nat} {s0 : State} {x0 : State} {x1 : List FabPresent} (hw : Has w 5846006549323611672814739330865132078623730176000) (hx0 : State.Keeps w s0 x0) :
    State.Keeps w s0 (State.fabRun x0 x1).2 := by
  unfold State.fabRun
  extract_lets -merge -useContext +onlyGivenNames y1
  have h2 : State.Keeps w s0 y1 := by
    unfold y1
    refine State.Keeps.foldl ?_ ?_
    · assumption
    · intro a6 a7 a8
      refine State.fabPresent_keeps (hw.mono rfl) ?_
      assumption
  clear_value y1
  split
  · rename_i b12 b13 b14 b15 b16 e17
    extract_lets -merge -useContext +onlyGivenNames y19
    have h20 : State.Keeps w s0 y19 := by
      unfold y19
      refine State.Keeps.upd_fab (s := y1) ?_ ?_
      · exact hw.bit rfl
      · assumption
    clear_value y19
    extract_lets -merge -useContext +onlyGivenNames v25
    clear_value v25
    refine State.Keeps.pair ?_
    refine State.sf_keeps ?_ ?_
    · exact hw.reg (by omega) (RegGroup.arbCnt_at (by omega)) rfl
    · assumption
  · rename_i b30 b31 e32
    refine State.Keeps.pair ?_
    refine State.Keeps.upd_fab (s := y1) ?_ ?_
    · exact hw.bit rfl
    · assumption

theorem State.tsBurst_keeps {w : Nat} {s0 : State} {x0 : State} {x1 : Fin 8} (hw : Has w 348539531230754360870870571278538690790240) (hx0 : State.Keeps w s0 x0) :
    State.Keeps w s0 (State.tsBurst x0 x1) := by
  unfold State.tsBurst
  extract_lets -merge -useContext +onlyGivenNames v1
  clear_value v1
  refine State.Keeps.ite ?_ ?_
  · assumption
  · extract_lets -merge -useContext +onlyGivenNames y5
    have h6 : State.Keeps w s0 y5 := by
      unfold y5
      refine State.setTs_keeps (hw.mono rfl) ?_
      assumption
    clear_value y5
    refine State.tsEvt_keeps (hw.mono rfl) ?_
    assumption

theorem State.transientTake_keeps {w : Nat} {s0 : State} {x0 : State} {x1 : FastEntry} (hw : Has w 348539531230754360870870571278538690790240) (hx0 : State.Keeps w s0 x0) :
    State.Keeps w s0 (State.transientTake x0 x1) := by
  unfold State.transientTake
  extract_lets -merge -useContext +onlyGivenNames v1
  clear_value v1
  extract_lets -merge -useContext +onlyGivenNames v3
  clear_value v3
  extract_lets -merge -useContext +onlyGivenNames y5
  have h6 : State.Keeps w s0 y5 := by
    unfold y5
    refine State.Keeps.ite ?_ ?_
    · refine State.setTs_keeps (hw.mono rfl) ?_
      refine State.tsBurst_keeps (hw.mono rfl) ?_
      assumption
    · assumption
  clear_value y5
  refine State.Keeps.ite ?_ ?_
  · refine State.tsEvt_keeps (hw.mono rfl) ?_
    refine State.setTs_keeps (hw.mono rfl) ?_
    assumption
  · refine State.setTs_keeps (hw.mono rfl) ?_
    assumption

theorem State.fastDrain_keeps {w : Nat} {s0 : State} {x0 : State} (hw : Has w 348539531230754360870870571278538690790240) (hx0 : State.Keeps w s0 x0) :
    State.Keeps w s0 (State.fastDrain x0) := by
  unfold State.fastDrain
  refine State.Keeps.foldl ?_ ?_
  · refine State.setSar_keeps (hw.mono rfl) ?_
    assumption
  · intro a4 a5 a6
    refine State.transientTake_keeps (hw.mono rfl) ?_
    assumption

theorem State.fastEntry_keeps {w : Nat} {s0 : State} {x0 : State} {x1 : Fin 8} {x2 : Bool} {x3 : ℕ} {x4 : ℤ} {x5 : ℤ} (hw : Has w 1329227998260795951474567610213072896) (hx0 : State.Keeps w s0 x0) :
    State.Keeps w s0 (State.fastEntry x0 x1 x2 x3 x4 x5) := by
  unfold State.fastEntry
  extract_lets -merge -useContext +onlyGivenNames v1
  clear_value v1
  extract_lets -merge -useContext +onlyGivenNames y3
  clear_value y3
  extract_lets -merge -useContext +onlyGivenNames y5
  clear_value y5
  extract_lets -merge -useContext +onlyGivenNames y7
  clear_value y7
  extract_lets -merge -useContext +onlyGivenNames y9
  have h10 : State.Keeps w s0 y9 := by
    unfold y9
    refine State.Keeps.ite ?_ ?_
    · refine State.setSar_keeps (hw.mono rfl) ?_
      refine State.incWrap_keeps ?_ ?_
      · exact hw.reg (by omega) (RegGroup.fastPin_at (by omega) (by omega)) rfl
      · assumption
    · refine State.setSar_keeps (hw.mono rfl) ?_
      assumption
  clear_value y9
  refine State.Keeps.ite ?_ ?_
  · refine State.capTrigger_keeps (hw.mono rfl) ?_
    assumption
  · assumption

theorem State.fastPins_keeps {w : Nat} {s0 : State} {x0 : State} (hw : Has w 2475880078570760549798248448) (hx0 : State.Keeps w s0 x0) :
    State.Keeps w s0 (State.fastPins x0) := by
  unfold State.fastPins
  refine State.Keeps.foldlMem ?_ ?_
  · assumption
  · intro a3 a4 a5 a6
    refine State.Keeps.ite ?_ ?_
    · refine State.smbit_keeps ?_ ?_
      · exact hw.reg (by omega) (RegGroup.fastPin_at (by omega) (by omega)) rfl
      · assumption
    · refine State.Keeps.ite ?_ ?_
      · refine State.smbit_keeps ?_ ?_
        · exact hw.reg (by omega) (RegGroup.fastPin_at (by omega) (by omega)) rfl
        · assumption
      · assumption

theorem State.fastSample_keeps {w : Nat} {s0 : State} {x0 : State} {x1 : Fin 8} {x2 : ℕ} {x3 : ℤ} (hw : Has w 1329228018067836580040652008599060480) (hx0 : State.Keeps w s0 x0) :
    State.Keeps w s0 (State.fastSample x0 x1 x2 x3) := by
  unfold State.fastSample
  extract_lets -merge -useContext +onlyGivenNames v1
  clear_value v1
  extract_lets -merge -useContext +onlyGivenNames v3
  clear_value v3
  extract_lets -merge -useContext +onlyGivenNames y5
  have h6 : State.Keeps w s0 y5 := by
    unfold y5
    refine State.Keeps.ite ?_ ?_
    · assumption
    · refine State.Keeps.ite ?_ ?_
      · refine State.Keeps.ite ?_ ?_
        · refine State.sf_keeps ?_ ?_
          · exact hw.reg (by omega) (RegGroup.fast_at (by omega) (by omega)) rfl
          · assumption
        · assumption
      · refine State.Keeps.ite ?_ ?_
        · refine State.fastEntry_keeps (hw.mono rfl) ?_
          refine State.sf_keeps ?_ ?_
          · exact hw.reg (by omega) (RegGroup.fast_at (by omega) (by omega)) rfl
          · assumption
        · assumption
  clear_value y5
  split
  · rename_i b22
    assumption
  · rename_i b24 b25
    extract_lets -merge -useContext +onlyGivenNames v27
    clear_value v27
    refine State.Keeps.ite ?_ ?_
    · assumption
    · refine State.Keeps.ite ?_ ?_
      · refine State.Keeps.ite ?_ ?_
        · assumption
        · refine State.fastEntry_keeps (hw.mono rfl) ?_
          refine State.sf_keeps ?_ ?_
          · exact hw.reg (by omega) (RegGroup.fast_at (by omega) (by omega)) rfl
          · assumption
      · refine State.sf_keeps ?_ ?_
        · exact hw.reg (by omega) (RegGroup.fast_at (by omega) (by omega)) rfl
        · assumption

theorem State.putMap_keeps {w : Nat} {s0 : State} {x0 : State} {x1 : List (Option ℕ)} (hw : Has w 170141183460469231731687303715884105728) (hx0 : State.Keeps w s0 x0) :
    State.Keeps w s0 (State.putMap x0 x1) := by
  unfold State.putMap
  extract_lets -merge -useContext +onlyGivenNames y1
  have h2 : State.Keeps w s0 y1 := by
    unfold y1
    refine State.Keeps.foldlMem ?_ ?_
    · assumption
    · intro a5 a6 a7 a8
      have a9 := List.mem_range.1 a7
      refine State.sfs_keeps ?_ ?_
      · refine ⟨?_, ?_⟩
        · dsimp only
          exact hw.reg (by omega) (RegGroup.bankMap_at (by omega) (by omega)) rfl
        · refine ⟨?_, ?_⟩
          · dsimp only
            exact hw.reg (by omega) (RegGroup.bankMap_at (by omega) (by omega)) rfl
          · exact trivial
      · assumption
  clear_value y1
  refine State.sf_keeps ?_ ?_
  · exact hw.reg (by omega) (RegGroup.bankMap_at (by omega) (by omega)) rfl
  · assumption

theorem State.statBankLost_keeps {w : Nat} {s0 : State} {x0 : State} {x1 : ℕ} (hw : Has w 180775007426748558714917760198127910912) (hx0 : State.Keeps w s0 x0) :
    State.Keeps w s0 (State.statBankLost x0 x1).2 := by
  unfold State.statBankLost
  extract_lets -merge -useContext +onlyGivenNames v1
  clear_value v1
  split
  · rename_i b3 e4
    refine State.Keeps.pair ?_
    refine State.sf_keeps ?_ ?_
    · exact hw.reg (by omega) (RegGroup.bankMap_at (by omega) (by omega)) rfl
    · assumption
  · rename_i b9 b10 e11
    extract_lets -merge -useContext +onlyGivenNames v13
    clear_value v13
    extract_lets -merge -useContext +onlyGivenNames v15
    clear_value v15
    extract_lets -merge -useContext +onlyGivenNames y17
    have h18 : State.Keeps w s0 y17 := by
      unfold y17
      refine State.putMap_keeps (hw.mono rfl) ?_
      assumption
    clear_value y17
    extract_lets -merge -useContext +onlyGivenNames y22
    have h23 : State.Keeps w s0 y22 := by
      unfold y22
      refine State.Keeps.foldlMem ?_ ?_
      · assumption
      · intro a27 a28 a29 a30
        extract_lets -merge -useContext +onlyGivenNames y32
        have h33 : State.Keeps w s0 y32 := by
          unfold y32
          refine State.setHist_keeps (hw.mono rfl) ?_
          assumption
        clear_value y32
        refine State.Keeps.ite ?_ ?_
        · refine State.histClear_keeps (hw.mono rfl) ?_
          assumption
        · refine State.setHist_keeps (hw.mono rfl) ?_
          assumption
    clear_value y22
    extract_lets -merge -useContext +onlyGivenNames y42
    have h43 : State.Keeps w s0 y42 := by
      unfold y42
      refine State.Keeps.ite ?_ ?_
      · refine State.cellsClear_keeps (hw.mono rfl) ?_
        assumption
      · assumption
    clear_value y42
    refine State.Keeps.pair ?_
    refine State.sf_keeps ?_ ?_
    · exact hw.reg (by omega) (RegGroup.statCtrl_at (by omega) (by omega)) rfl
    · refine State.sf_keeps ?_ ?_
      · exact hw.reg (by omega) (RegGroup.statCtrl_at (by omega) (by omega)) rfl
      · assumption

theorem State.supDrop_keeps {w : Nat} {s0 : State} {x0 : State} {x1 : Fin 8} (hw : Has w 134219776) (hx0 : State.Keeps w s0 x0) :
    State.Keeps w s0 (State.supDrop x0 x1) := by
  unfold State.supDrop
  extract_lets -merge -useContext +onlyGivenNames v1
  clear_value v1
  extract_lets -merge -useContext +onlyGivenNames y3
  have h4 : State.Keeps w s0 y3 := by
    unfold y3
    refine State.setTs_keeps (hw.mono rfl) ?_
    assumption
  clear_value y3
  refine State.setOpen_keeps (hw.mono rfl) ?_
  refine State.setOpen_keeps (hw.mono rfl) ?_
  refine State.setOpen_keeps (hw.mono rfl) ?_
  assumption

theorem State.supSync_keeps {w : Nat} {s0 : State} {x0 : State} {x1 : ℕ} (hw : Has w 671090688) (hx0 : State.Keeps w s0 x0) :
    State.Keeps w s0 (State.supSync x0 x1) := by
  unfold State.supSync
  refine State.Keeps.foldl ?_ ?_
  · assumption
  · intro a3 a4 a5
    refine State.Keeps.ite ?_ ?_
    · refine State.supDrop_keeps (hw.mono rfl) ?_
      assumption
    · refine State.Keeps.ite ?_ ?_
      · split
        rename_i b11 b12 b13 e14
        have h15 : State.Keeps w s0 b13 := by
          refine State.Keeps.ofPair e14 ?_
          refine State.drawBool_keeps (hw.mono rfl) ?_
          assumption
        refine State.Keeps.ite ?_ ?_
        · refine State.setTs_keeps (hw.mono rfl) ?_
          assumption
        · assumption
      · assumption

theorem State.specDrop_keeps {w : Nat} {s0 : State} {x0 : State} {x1 : Fin 2} {x2 : ℕ} (hw : Has w 15576890575604482886154438941083648) (hx0 : State.Keeps w s0 x0) :
    State.Keeps w s0 (State.specDrop x0 x1 x2) := by
  unfold State.specDrop
  extract_lets -merge -useContext +onlyGivenNames v1
  clear_value v1
  extract_lets -merge -useContext +onlyGivenNames y3
  have h4 : State.Keeps w s0 y3 := by
    unfold y3
    refine State.setGrp_keeps ?_ ?_ ?_ ?_
    · exact hw.bit rfl
    · exact .inr fun _ => rfl
    · exact .inr fun _ => rfl
    · assumption
  clear_value y3
  refine State.spcOpen_keeps (hw.mono rfl) ?_
  refine State.sfs_keeps ?_ ?_
  · refine ⟨?_, ?_⟩
    · dsimp only
      unfold nobank
      refine regOk.ite ?_ ?_
      · exact hw.reg (by omega) (RegGroup.specErr_at (by omega) (by omega)) rfl
      · exact hw.reg (by omega) (RegGroup.specErr_at (by omega) (by omega)) rfl
    · refine ⟨?_, ?_⟩
      · dsimp only
        exact hw.reg (by omega) (RegGroup.specStat_at (by omega) (by omega)) rfl
      · refine ⟨?_, ?_⟩
        · dsimp only
          exact hw.reg (by omega) (RegGroup.specStat_at (by omega) (by omega)) rfl
        · refine ⟨?_, ?_⟩
          · dsimp only
            exact hw.reg (by omega) (RegGroup.specStat_at (by omega) (by omega)) rfl
          · exact trivial
  · assumption

theorem State.specBankLost_keeps {w : Nat} {s0 : State} {x0 : State} {x1 : ℕ} (hw : Has w 15576890575604482886154439480051712) (hx0 : State.Keeps w s0 x0) :
    State.Keeps w s0 (State.specBankLost x0 x1) := by
  unfold State.specBankLost
  extract_lets -merge -useContext +onlyGivenNames y1
  have h2 : State.Keeps w s0 y1 := by
    unfold y1
    refine State.Keeps.foldl ?_ ?_
    · assumption
    · intro a6 a7 a8
      split
      rename_i b10 b11 b12 e13
      have h14 : State.Keeps w s0 b12 := by
        refine State.Keeps.ofPair e13 ?_
        refine State.drawBool_keeps (hw.mono rfl) ?_
        assumption
      refine State.Keeps.ite ?_ ?_
      · refine State.setGrp_keeps ?_ ?_ ?_ ?_
        · exact hw.bit rfl
        · exact .inr fun _ => rfl
        · exact .inr fun _ => rfl
        · assumption
      · assumption
  clear_value y1
  extract_lets -merge -useContext +onlyGivenNames y25
  have h26 : State.Keeps w s0 y25 := by
    unfold y25
    refine State.Keeps.foldlMem ?_ ?_
    · assumption
    · intro a30 a31 a32 a33
      refine State.Keeps.ite ?_ ?_
      · refine State.sf_keeps ?_ ?_
        · exact hw.reg (by omega) (RegGroup.specErr_at (by omega) (by omega)) rfl
        · refine State.Keeps.upd_supraOn (s := a30) ?_ ?_
          · exact hw.bit rfl
          · assumption
      · assumption
  clear_value y25
  refine State.Keeps.foldl ?_ ?_
  · assumption
  · intro a44 a45 a46
    refine State.Keeps.ite ?_ ?_
    · refine State.specDrop_keeps (hw.mono rfl) ?_
      assumption
    · assumption

theorem State.fenceBank_keeps {w : Nat} {s0 : State} {x0 : State} {x1 : ℕ} (hw : Has w 1070784489851284982478748582355802676004129632) (hx0 : State.Keeps w s0 x0) :
    State.Keeps w s0 (State.fenceBank x0 x1) := by
  unfold State.fenceBank
  extract_lets -merge -useContext +onlyGivenNames v1
  clear_value v1
  extract_lets -merge -useContext +onlyGivenNames v3
  have h4 : State.Keeps w s0 v3 := by
    unfold v3
    refine State.abpBankLost_keeps (hw.mono rfl) ?_
    assumption
  clear_value v3
  extract_lets -merge -useContext +onlyGivenNames y8
  have h9 : State.Keeps w s0 y8 := by
    unfold y8
    refine State.Keeps.ite ?_ ?_
    · refine State.fenceBit_keeps (hw.mono rfl) ?_ ?_
      · assumption
      · exact hw.reg (by omega) (RegGroup.fence_at (by omega) (by omega)) rfl
    · refine State.fenceBit_keeps (hw.mono rfl) ?_ ?_
      · assumption
      · exact hw.reg (by omega) (RegGroup.fence_at (by omega) (by omega)) rfl
  clear_value y8
  split
  rename_i b18 b19 b20 e21
  have h22 : State.Keeps w s0 b20 := by
    refine State.Keeps.ofPair e21 ?_
    refine State.Keeps.iteSnd ?_ ?_
    · refine State.statBankLost_keeps (hw.mono rfl) ?_
      assumption
    · assumption
  extract_lets -merge -useContext +onlyGivenNames y28
  have h29 : State.Keeps w s0 y28 := by
    unfold y28
    refine State.Keeps.ite ?_ ?_
    · refine State.capBankLost_keeps (hw.mono rfl) ?_
      assumption
    · assumption
  clear_value y28
  extract_lets -merge -useContext +onlyGivenNames y35
  have h36 : State.Keeps w s0 y35 := by
    unfold y35
    refine State.Keeps.ite ?_ ?_
    · refine State.supSync_keeps (hw.mono rfl) ?_
      refine State.specBankLost_keeps (hw.mono rfl) ?_
      assumption
    · assumption
  clear_value y35
  refine State.unitLost_keeps (hw.mono rfl) ?_
  assumption

theorem State.tickIn_keeps {w : Nat} {s0 : State} {x0 : State} {x1 : Fin 2} {x2 : Tick} (hw : Has w 348539531230754360870870576345088406061920) (hx0 : State.Keeps w s0 x0) :
    State.Keeps w s0 (State.tickIn x0 x1 x2) := by
  unfold State.tickIn
  extract_lets -merge -useContext +onlyGivenNames y1
  have h2 : State.Keeps w s0 y1 := by
    unfold y1
    refine State.setGrp_keeps ?_ ?_ ?_ ?_
    · exact hw.bit rfl
    · exact .inr fun _ => rfl
    · exact .inr fun _ => rfl
    · assumption
  clear_value y1
  extract_lets -merge -useContext +onlyGivenNames v9
  clear_value v9
  extract_lets -merge -useContext +onlyGivenNames y11
  clear_value y11
  extract_lets -merge -useContext +onlyGivenNames y13
  have h14 : State.Keeps w s0 y13 := by
    unfold y13
    refine State.Keeps.ite ?_ ?_
    · assumption
    · refine State.Keeps.upd_slc (s := y1) ?_ ?_
      · exact hw.bit rfl
      · assumption
  clear_value y13
  extract_lets -merge -useContext +onlyGivenNames y21
  have h22 : State.Keeps w s0 y21 := by
    unfold y21
    refine State.Keeps.foldl ?_ ?_
    · assumption
    · intro a26 a27 a28
      split
      · rename_i b30 b31 e32
        extract_lets -merge -useContext +onlyGivenNames v34
        clear_value v34
        refine State.capSample_keeps (hw.mono rfl) ?_
        assumption
      · rename_i b37 e38
        assumption
  clear_value y21
  refine State.Keeps.ite ?_ ?_
  · extract_lets -merge -useContext +onlyGivenNames y42
    have h43 : State.Keeps w s0 y42 := by
      unfold y42
      refine State.Keeps.foldl ?_ ?_
      · assumption
      · intro a47 a48 a49
        refine State.Keeps.ite ?_ ?_
        · refine State.smpRelease_keeps (hw.mono rfl) ?_
          assumption
        · assumption
    clear_value y42
    refine State.setGrp_keeps ?_ ?_ ?_ ?_
    · exact hw.bit rfl
    · exact .inr fun _ => rfl
    · exact .inr fun _ => rfl
    · assumption
  · assumption

theorem State.fifoDrain_keeps {w : Nat} {s0 : State} {x0 : State} (hw : Has w 348539531230754360870870576345088406061920) (hx0 : State.Keeps w s0 x0) :
    State.Keeps w s0 (State.fifoDrain x0) := by
  unfold State.fifoDrain
  refine State.Keeps.foldl ?_ ?_
  · assumption
  · intro a3 a4 a5
    extract_lets -merge -useContext +onlyGivenNames v7
    clear_value v7
    refine State.Keeps.foldl ?_ ?_
    · refine State.setGrp_keeps ?_ ?_ ?_ ?_
      · exact hw.bit rfl
      · exact .inr fun _ => rfl
      · exact .inr fun _ => rfl
      · assumption
    · intro a15 a16 a17
      refine State.tickIn_keeps (hw.mono rfl) ?_
      assumption

theorem State.restartGaps_keeps {w : Nat} {s0 : State} {x0 : State} {x1 : Fin 2} {x2 : List (Option DevTime)} (hw : Has w 348539531230754360870870575782138184205152) (hx0 : State.Keeps w s0 x0) :
    State.Keeps w s0 (State.restartGaps x0 x1 x2) := by
  unfold State.restartGaps
  extract_lets -merge -useContext +onlyGivenNames v1
  clear_value v1
  extract_lets -merge -useContext +onlyGivenNames y3
  have h4 : State.Keeps w s0 y3 := by
    unfold y3
    split
    · rename_i b6 e7
      assumption
    · rename_i b9 b10 e11
      extract_lets -merge -useContext +onlyGivenNames v13
      clear_value v13
      refine State.gapsOn_keeps (hw.mono rfl) ?_
      assumption
  clear_value y3
  refine State.Keeps.foldlMem ?_ ?_
  · assumption
  · intro a18 a19 a20 a21
    have a22 := mem_bitsOf_lt a20
    split
    · rename_i e24
      extract_lets -merge -useContext +onlyGivenNames v26
      split
      · rename_i b28 e29
        assumption
      · rename_i b31 b32 e33
        extract_lets -merge -useContext +onlyGivenNames v35
        clear_value v35
        extract_lets -merge -useContext +onlyGivenNames v37
        clear_value v37
        refine State.capGap_keeps (hw.mono rfl) ?_
        refine State.gapsOn_keeps (hw.mono rfl) ?_
        refine State.smpGap_keeps (hw.mono rfl) ?_
        assumption
    · rename_i e42
      extract_lets -merge -useContext +onlyGivenNames v44
      split
      · rename_i b46 e47
        assumption
      · rename_i b49 b50 e51
        extract_lets -merge -useContext +onlyGivenNames v53
        clear_value v53
        extract_lets -merge -useContext +onlyGivenNames v55
        clear_value v55
        refine State.capGap_keeps (hw.mono rfl) ?_
        refine State.gapsOn_keeps (hw.mono rfl) ?_
        refine State.smpGap_keeps (hw.mono rfl) ?_
        assumption

theorem State.trkFreq_keeps {w : Nat} {s0 : State} {x0 : State} {x1 : Fin 2} {x2 : ℕ} (hw : Has w 20282409603651670986897204707328) (hx0 : State.Keeps w s0 x0) :
    State.Keeps w s0 (State.trkFreq x0 x1 x2) := by
  unfold State.trkFreq
  extract_lets -merge -useContext +onlyGivenNames v1
  clear_value v1
  extract_lets -merge -useContext +onlyGivenNames v3
  clear_value v3
  refine State.Keeps.ite ?_ ?_
  · refine State.Keeps.ite ?_ ?_
    · refine State.sfs_keeps ?_ ?_
      · refine ⟨?_, ?_⟩
        · dsimp only
          exact hw.reg (by omega) (RegGroup.freq_at (by omega) (by omega)) rfl
        · refine ⟨?_, ?_⟩
          · dsimp only
            exact hw.reg (by omega) (RegGroup.freq_at (by omega) (by omega)) rfl
          · exact trivial
      · assumption
    · refine State.sf_keeps ?_ ?_
      · exact hw.reg (by omega) (RegGroup.freq_at (by omega) (by omega)) rfl
      · assumption
  · split
    rename_i b17 b18 b19 e20
    extract_lets -merge -useContext +onlyGivenNames v22
    clear_value v22
    extract_lets -merge -useContext +onlyGivenNames y24
    have h25 : State.Keeps w s0 y24 := by
      unfold y24
      refine State.sfs_keeps ?_ ?_
      · refine ⟨?_, ?_⟩
        · dsimp only
          exact hw.reg (by omega) (RegGroup.freq_at (by omega) (by omega)) rfl
        · refine ⟨?_, ?_⟩
          · dsimp only
            exact hw.reg (by omega) (RegGroup.freq_at (by omega) (by omega)) rfl
          · exact trivial
      · assumption
    clear_value y24
    refine State.Keeps.ite ?_ ?_
    · refine State.setGrp_keeps ?_ ?_ ?_ ?_
      · exact hw.bit rfl
      · exact .inr fun _ => rfl
      · exact .inr fun _ => rfl
      · assumption
    · assumption

theorem State.timeTo_keeps {w : Nat} {s0 : State} {x0 : State} {x1 : ℕ} (hw : Has w 281474976710656) (hx0 : State.Keeps w s0 x0) :
    State.Keeps w s0 (State.timeTo x0 x1) := by
  unfold State.timeTo
  extract_lets -merge -useContext +onlyGivenNames v1
  clear_value v1
  refine State.Keeps.upd_ket_time (s := x0) ?_ ?_ ?_ ?_ ?_
  · exact .inr rfl
  · exact .inr (le_max_left _ _)
  · exact .inr rfl
  · exact .inl (hw.bit rfl)
  · assumption

theorem State.tickLost_keeps {w : Nat} {s0 : State} {x0 : State} {x1 : Fin 2} {x2 : ℕ} (hw : Has w 562949957615616) (hx0 : State.Keeps w s0 x0) :
    State.Keeps w s0 (State.tickLost x0 x1 x2) := by
  unfold State.tickLost
  extract_lets -merge -useContext +onlyGivenNames y1
  have h2 : State.Keeps w s0 y1 := by
    unfold y1
    refine State.setGrp_keeps ?_ ?_ ?_ ?_
    · exact hw.bit rfl
    · exact .inr fun _ => rfl
    · exact .inr fun _ => rfl
    · assumption
  clear_value y1
  refine State.Keeps.upd_bil (s := y1) ?_ ?_
  · exact hw.bit rfl
  · assumption

theorem State.groupTick_keeps {w : Nat} {s0 : State} {x0 : State} {x1 : Fin 2} {x2 : List ChIn} {x3 : ℚ} {x4 : Bool} (hw : Has w 348540860458750165280672332978518714746720) (hx0 : State.Keeps w s0 x0) :
    State.Keeps w s0 (State.groupTick x0 x1 x2 x3 x4) := by
  unfold State.groupTick
  extract_lets -merge -useContext +onlyGivenNames y1
  have h2 : State.Keeps w s0 y1 := by
    unfold y1
    refine State.thrSettle_keeps (hw.mono rfl) ?_
    assumption
  clear_value y1
  extract_lets -merge -useContext +onlyGivenNames v6
  clear_value v6
  extract_lets -merge -useContext +onlyGivenNames y8
  have h9 : State.Keeps w s0 y8 := by
    unfold y8
    split
    · rename_i b11 b12 e13
      refine State.Keeps.ite ?_ ?_
      · assumption
      · refine State.publishAnchor_keeps (hw.mono rfl) ?_
        assumption
    · rename_i b18 e19
      assumption
  clear_value y8
  extract_lets -merge -useContext +onlyGivenNames v22
  clear_value v22
  extract_lets -merge -useContext +onlyGivenNames v24
  clear_value v24
  extract_lets -merge -useContext +onlyGivenNames y26
  have h27 : State.Keeps w s0 y26 := by
    unfold y26
    refine State.timeTo_keeps (hw.mono rfl) ?_
    assumption
  clear_value y26
  extract_lets -merge -useContext +onlyGivenNames y31
  have h32 : State.Keeps w s0 y31 := by
    unfold y31
    refine State.Keeps.ite ?_ ?_
    · refine State.Keeps.upd_first (s := y26) ?_ ?_
      · exact hw.bit rfl
      · assumption
    · assumption
  clear_value y31
  split
  rename_i b39 b40 b41 e42
  have h43 : State.Keeps w s0 b41 := by
    refine State.Keeps.ofPair e42 ?_
    refine State.Keeps.foldlSnd ?_ ?_
    · assumption
    · intro a47 a48 a49
      split
      rename_i b51 b52 b53 e54
      have h55 : State.Keeps w s0 b53 := by
        refine State.Keeps.ofPair e54 ?_
        refine State.chSample_keeps (hw.mono rfl) ?_
        assumption
      extract_lets -merge -useContext +onlyGivenNames y59
      have h60 : State.Keeps w s0 y59 := by
        unfold y59
        refine State.Keeps.ite ?_ ?_
        · refine State.Keeps.upd_first (s := b53) ?_ ?_
          · exact hw.bit rfl
          · assumption
        · assumption
      clear_value y59
      assumption
  extract_lets -merge -useContext +onlyGivenNames v68
  clear_value v68
  extract_lets -merge -useContext +onlyGivenNames y70
  have h71 : State.Keeps w s0 y70 := by
    unfold y70
    refine State.setGrp_keeps ?_ ?_ ?_ ?_
    · exact hw.bit rfl
    · exact .inr fun _ => rfl
    · exact .inl (hw.bit rfl)
    · assumption
  clear_value y70
  extract_lets -merge -useContext +onlyGivenNames y78
  have h79 : State.Keeps w s0 y78 := by
    unfold y78
    refine State.Keeps.upd_free (s := y70) ?_ ?_
    · exact hw.bit rfl
    · assumption
  clear_value y78
  refine State.Keeps.ite ?_ ?_
  · extract_lets -merge -useContext +onlyGivenNames v85
    clear_value v85
    split
    rename_i b87 b88 b89 e90
    have h91 : State.Keeps w s0 b89 := by
      refine State.Keeps.ofPair e90 ?_
      refine State.Keeps.foldlSnd ?_ ?_
      · assumption
      · intro a95 a96 a97
        split
        · rename_i b99 e100
          assumption
        · rename_i b102 b103 e104
          refine State.Keeps.iteSnd ?_ ?_
          · assumption
          · refine State.Keeps.pair ?_
            refine State.chDiscard_keeps (hw.mono rfl) ?_
            assumption
    refine State.Keeps.ite ?_ ?_
    · refine State.tickLost_keeps (hw.mono rfl) ?_
      assumption
    · refine State.setGrp_keeps ?_ ?_ ?_ ?_
      · exact hw.bit rfl
      · exact .inr fun _ => rfl
      · exact .inr fun _ => rfl
      · assumption
  · refine State.tickIn_keeps (hw.mono rfl) ?_
    assumption

theorem State.flickTick_keeps {w : Nat} {s0 : State} {x0 : State} {x1 : Fin 2} (hw : Has w 562950490292224) (hx0 : State.Keeps w s0 x0) :
    State.Keeps w s0 (State.flickTick x0 x1) := by
  unfold State.flickTick
  refine State.flickTo_keeps (hw.mono rfl) ?_
  assumption

theorem State.firstSample_keeps {w : Nat} {s0 : State} {x0 : State} {x1 : Fin 2} {x2 : ℕ} {x3 : List ChIn} {x4 : ℚ} (hw : Has w 5925088294852798611071541380220568750264288) (hx0 : State.Keeps w s0 x0) :
    State.Keeps w s0 (State.firstSample x0 x1 x2 x3 x4) := by
  unfold State.firstSample
  extract_lets -merge -useContext +onlyGivenNames v1
  clear_value v1
  extract_lets -merge -useContext +onlyGivenNames v3
  clear_value v3
  extract_lets -merge -useContext +onlyGivenNames v5
  clear_value v5
  extract_lets -merge -useContext +onlyGivenNames y7
  have h8 : State.Keeps w s0 y7 := by
    unfold y7
    refine State.setGrp_keeps ?_ ?_ ?_ ?_
    · exact hw.bit rfl
    · exact .inr fun _ => rfl
    · exact .inr fun _ => rfl
    · assumption
  clear_value y7
  extract_lets -merge -useContext +onlyGivenNames y15
  have h16 : State.Keeps w s0 y15 := by
    unfold y15
    refine State.publishAnchor_keeps (hw.mono rfl) ?_
    assumption
  clear_value y15
  extract_lets -merge -useContext +onlyGivenNames v20
  clear_value v20
  extract_lets -merge -useContext +onlyGivenNames y22
  have h23 : State.Keeps w s0 y22 := by
    unfold y22
    refine State.restartGaps_keeps (hw.mono rfl) ?_
    assumption
  clear_value y22
  extract_lets -merge -useContext +onlyGivenNames v27
  clear_value v27
  extract_lets -merge -useContext +onlyGivenNames y29
  have h30 : State.Keeps w s0 y29 := by
    unfold y29
    refine State.Keeps.foldlMem ?_ ?_
    · assumption
    · intro a33 a34 a35 a36
      have a37 := mem_bitsOf_lt a35
      split
      · rename_i e39
        extract_lets -merge -useContext +onlyGivenNames v41
        clear_value v41
        refine State.chainStart_keeps (hw.mono rfl) ?_
        refine State.setChan_keeps ?_ ?_ ?_
        · exact hw.bit rfl
        · exact .inr fun _ => rfl
        · assumption
      · rename_i e47
        extract_lets -merge -useContext +onlyGivenNames v49
        clear_value v49
        refine State.chainStart_keeps (hw.mono rfl) ?_
        refine State.setChan_keeps ?_ ?_ ?_
        · exact hw.bit rfl
        · exact .inr fun _ => rfl
        · assumption
  clear_value y29
  extract_lets -merge -useContext +onlyGivenNames y56
  have h57 : State.Keeps w s0 y56 := by
    unfold y56
    refine State.Keeps.ite ?_ ?_
    · refine State.setGrp_keeps ?_ ?_ ?_ ?_
      · exact hw.bit rfl
      · exact .inr fun _ => rfl
      · exact .inr fun _ => rfl
      · assumption
    · assumption
  clear_value y56
  extract_lets -merge -useContext +onlyGivenNames y66
  clear_value y66
  extract_lets -merge -useContext +onlyGivenNames y68
  have h69 : State.Keeps w s0 y68 := by
    unfold y68
    refine State.setGrp_keeps ?_ ?_ ?_ ?_
    · exact hw.bit rfl
    · exact .inr fun _ => rfl
    · exact .inr fun _ => rfl
    · assumption
  clear_value y68
  extract_lets -merge -useContext +onlyGivenNames y76
  have h77 : State.Keeps w s0 y76 := by
    unfold y76
    refine State.sf_keeps ?_ ?_
    · exact hw.reg (by omega) (RegGroup.freq_at (by omega) (by omega)) rfl
    · assumption
  clear_value y76
  extract_lets -merge -useContext +onlyGivenNames y82
  have h83 : State.Keeps w s0 y82 := by
    unfold y82
    refine State.sf_keeps ?_ ?_
    · exact hw.reg (by omega) (RegGroup.metStat_at (by omega) (by omega)) rfl
    · refine State.trkFreq_keeps (hw.mono rfl) ?_
      assumption
  clear_value y82
  extract_lets -merge -useContext +onlyGivenNames y89
  have h90 : State.Keeps w s0 y89 := by
    unfold y89
    refine State.Keeps.ite ?_ ?_
    · refine State.meterStart_keeps (hw.mono rfl) ?_
      assumption
    · assumption
  clear_value y89
  extract_lets -merge -useContext +onlyGivenNames y96
  have h97 : State.Keeps w s0 y96 := by
    unfold y96
    refine State.Keeps.ite ?_ ?_
    · assumption
    · refine State.grpOpen_keeps (hw.mono rfl) ?_
      assumption
  clear_value y96
  extract_lets -merge -useContext +onlyGivenNames y103
  have h104 : State.Keeps w s0 y103 := by
    unfold y103
    refine State.groupTick_keeps (hw.mono rfl) ?_
    refine State.calSettle_keeps (hw.mono rfl) ?_
    assumption
  clear_value y103
  extract_lets -merge -useContext +onlyGivenNames y109
  have h110 : State.Keeps w s0 y109 := by
    unfold y109
    refine State.Keeps.ite ?_ ?_
    · assumption
    · refine State.flickTick_keeps (hw.mono rfl) ?_
      assumption
  clear_value y109
  extract_lets -merge -useContext +onlyGivenNames y116
  clear_value y116
  extract_lets -merge -useContext +onlyGivenNames y118
  have h119 : State.Keeps w s0 y118 := by
    unfold y118
    refine State.Keeps.upd_cmd (s := y109) ?_ ?_
    · exact hw.bit rfl
    · assumption
  clear_value y118
  refine State.tryCpl_keeps (hw.mono rfl) ?_
  assumption

theorem State.gaspBegin_keeps {w : Nat} {s0 : State} {x0 : State} (hw : Has w 1032453095555) (hx0 : State.Keeps w s0 x0) :
    State.Keeps w s0 (State.gaspBegin x0) := by
  unfold State.gaspBegin
  extract_lets -merge -useContext +onlyGivenNames y1
  extract_lets -merge -useContext +onlyGivenNames y3
  extract_lets -merge -useContext +onlyGivenNames y5
  have h6 : State.Keeps w s0 y5 := by
    unfold y5
    refine State.Keeps.upd_rst_cmd_sec (s := x0) ?_ ?_ ?_ ?_ ?_ ?_ ?_ ?_ ?_ ?_ ?_ ?_ ?_ ?_
    · exact hw.bit rfl
    · exact .inl (hw.bit rfl)
    · exact hw.bit rfl
    · exact .inl (hw.bit rfl)
    · exact .inr rfl
    · exact .inr rfl
    · exact .inr rfl
    · exact .inr rfl
    · exact .inr rfl
    · exact id
    · exact id
    · exact fun _ h h' => ⟨h, h'⟩
    · exact fun h => ⟨Nat.le_refl _, (Nat.le_add_right _ _).trans h⟩
    · assumption
  clear_value y5
  refine State.gaspStart_keeps (hw.mono rfl) ?_
  assumption

theorem State.opWrite_keeps {w : Nat} {s0 : State} {x0 : State} {x1 : List NvmWr} {x2 : Option (Fin 8)} (hw : Has w 481573208064) (hx0 : State.Keeps w s0 x0) :
    State.Keeps w s0 (State.opWrite x0 x1 x2) := by
  unfold State.opWrite
  refine State.Keeps.foldl ?_ ?_
  · assumption
  · intro a3 a4 a5
    split
    · rename_i b7 b8 b9
      refine State.Keeps.ite ?_ ?_
      · split
        rename_i b12 b13 b14 e15
        have h16 : State.Keeps w s0 b14 := by
          refine State.Keeps.ofPair e15 ?_
          refine State.drawBytes_keeps (hw.mono rfl) ?_
          assumption
        refine State.Keeps.upd_nvm (s := b14) ?_ ?_ ?_ ?_ ?_ ?_
        · exact .inl (hw.bit rfl)
        · exact .inl (hw.bit rfl)
        · exact .inl (hw.bit rfl)
        · exact (Nvm.writeSome_retired _ _ _).symm ▸ List.suffix_refl _
        · exact Nvm.writeSome_wf _ _ _
        · assumption
      · refine State.Keeps.upd_nvm (s := a3) ?_ ?_ ?_ ?_ ?_ ?_
        · exact .inl (hw.bit rfl)
        · exact .inl (hw.bit rfl)
        · exact .inl (hw.bit rfl)
        · exact (Nvm.writeSome_retired _ _ _).symm ▸ List.suffix_refl _
        · exact Nvm.writeSome_wf _ _ _
        · assumption
    · rename_i b33 b34
      refine State.Keeps.upd_nvm (s := a3) ?_ ?_ ?_ ?_ ?_ ?_
      · exact .inl (hw.bit rfl)
      · exact .inl (hw.bit rfl)
      · exact .inl (hw.bit rfl)
      · exact (Nvm.writeSome_retired _ _ _).symm ▸ List.suffix_refl _
      · exact Nvm.writeSome_wf _ _ _
      · assumption

theorem State.hostDone_keeps {w : Nat} {s0 : State} {x0 : State} {x1 : ℕ} {x2 : ℕ} (hw : Has w 5923725830863410146254800139440628933067744) (hx0 : State.Keeps w s0 x0) :
    State.Keeps w s0 (State.hostDone x0 x1 x2) := by
  unfold State.hostDone
  split
  · rename_i b1 b2 e3
    refine State.Keeps.ite ?_ ?_
    · refine State.finish_keeps (hw.mono rfl) ?_
      assumption
    · assumption
  · rename_i b8 e9
    assumption

theorem State.nvmFail_keeps {w : Nat} {s0 : State} {x0 : State} {x1 : NvmReq} (hw : Has w 1427247692705959881058286264597400556253741568) (hx0 : State.Keeps w s0 x0) :
    State.Keeps w s0 (State.nvmFail x0 x1) := by
  unfold State.nvmFail
  extract_lets -merge -useContext +onlyGivenNames y1
  have h2 : State.Keeps w s0 y1 := by
    unfold y1
    refine State.raise_keeps (hw.mono rfl) ?_ ?_
    · refine State.sf_keeps ?_ ?_
      · exact hw.reg (by omega) (RegGroup.nvm_at (by omega) (by omega)) rfl
      · assumption
    · exact .inl (by omega)
  clear_value y1
  split
  · rename_i b9 e10
    refine State.Keeps.upd_nvm (s := y1) ?_ ?_ ?_ ?_ ?_ ?_
    · exact .inl (hw.bit rfl)
    · exact .inl (hw.bit rfl)
    · exact .inr (Nvm.next_bytes _)
    · exact (Nvm.next_retired _).symm ▸ List.suffix_refl _
    · exact fun h => (Nvm.next_bytes _).symm ▸ h
    · assumption
  · rename_i b18 b19 e20
    extract_lets -merge -useContext +onlyGivenNames v22
    extract_lets -merge -useContext +onlyGivenNames v24
    extract_lets -merge -useContext +onlyGivenNames v26
    clear_value v26
    extract_lets -merge -useContext +onlyGivenNames v28
    clear_value v28
    extract_lets -merge -useContext +onlyGivenNames v30
    clear_value v30
    extract_lets -merge -useContext +onlyGivenNames v32
    extract_lets -merge -useContext +onlyGivenNames y34
    have h35 : State.Keeps w s0 y34 := by
      unfold y34
      refine State.Keeps.upd_nvm (s := y1) ?_ ?_ ?_ ?_ ?_ ?_
      · exact .inl (hw.bit rfl)
      · exact .inl (hw.bit rfl)
      · exact .inr (Nvm.next_bytes _)
      · exact (Nvm.requeue_retired _ _).symm ▸ List.suffix_cons _ _
      · exact fun h => (Nvm.next_bytes _).symm ▸ h
      · assumption
    clear_value y34
    extract_lets -merge -useContext +onlyGivenNames y44
    have h45 : State.Keeps w s0 y44 := by
      unfold y44
      refine State.Keeps.ite ?_ ?_
      · refine State.sf_keeps ?_ ?_
        · exact hw.reg (by omega) (RegGroup.nvm_at (by omega) (by omega)) rfl
        · assumption
      · assumption
    clear_value y44
    refine State.incSat_keeps ?_ ?_
    · exact hw.reg (by omega) (RegGroup.nvm_at (by omega) (by omega)) rfl
    · refine State.sf_keeps ?_ ?_
      · exact hw.reg (by omega) (RegGroup.nvm_at (by omega) (by omega)) rfl
      · assumption

theorem State.journalDone_keeps {w : Nat} {s0 : State} {x0 : State} {x1 : ℕ} (hw : Has w 348539531230754360870870571278538573351776) (hx0 : State.Keeps w s0 x0) :
    State.Keeps w s0 (State.journalDone x0 x1) := by
  unfold State.journalDone
  split
  rename_i b1 b2 b3 e4
  extract_lets -merge -useContext +onlyGivenNames y6
  have h7 : State.Keeps w s0 y6 := by
    unfold y6
    refine State.Keeps.upd_bilOut (s := x0) ?_ ?_
    · exact hw.bit rfl
    · assumption
  clear_value y6
  refine State.release_keeps (hw.mono rfl) ?_
  refine State.emits_keeps (hw.mono rfl) ?_
  refine State.bilOrder_keeps (hw.mono rfl) ?_
  refine State.bilOrder_keeps (hw.mono rfl) ?_
  assumption

theorem State.highCells_keeps {w : Nat} {s0 : State} {x0 : State} {x1 : List Byte} (hw : Has w 206158430208) (hx0 : State.Keeps w s0 x0) :
    State.Keeps w s0 (State.highCells x0 x1) := by
  unfold State.highCells
  refine State.Keeps.foldlMem ?_ ?_
  · assumption
  · intro a2 a3 a4 a5
    have a6 := List.mem_range.1 a4
    split
    rename_i b8 b9 b10 e11
    extract_lets -merge -useContext +onlyGivenNames v13
    clear_value v13
    refine State.Keeps.ite ?_ ?_
    · assumption
    · refine State.putHigh_keeps (hw.mono rfl) ?_
      assumption

theorem State.snapsDone_keeps {w : Nat} {s0 : State} {x0 : State} (hw : Has w 68719476736) (hx0 : State.Keeps w s0 x0) :
    State.Keeps w s0 (State.snapsDone x0) := by
  unfold State.snapsDone
  refine State.Keeps.ite ?_ ?_
  · assumption
  · refine State.Keeps.upd_nvm (s := x0) ?_ ?_ ?_ ?_ ?_ ?_
    · exact .inl (hw.bit rfl)
    · exact .inr rfl
    · exact .inr rfl
    · exact List.suffix_refl _
    · exact id
    · assumption

theorem State.ownerStored_keeps {w : Nat} {s0 : State} {x0 : State} {x1 : List Byte} (hw : Has w 549755813888) (hx0 : State.Keeps w s0 x0) :
    State.Keeps w s0 (State.ownerStored x0 x1) := by
  exact State.Keeps.storedOwner (hw.bit rfl) hx0

theorem State.sealsStored_keeps {w : Nat} {s0 : State} {x0 : State} {x1 : List Byte} (hw : Has w 549755813888) (hx0 : State.Keeps w s0 x0) :
    State.Keeps w s0 (State.sealsStored x0 x1) := by
  exact State.Keeps.moreSeals (hw.bit rfl) hx0

theorem State.nvmComplete_keeps {w : Nat} {s0 : State} {x0 : State} {x1 : NvmReq} (hw : Has w 1433171418536823291204540769589499265042353120) (hx0 : State.Keeps w s0 x0) :
    State.Keeps w s0 (State.nvmComplete x0 x1) := by
  unfold State.nvmComplete
  extract_lets -merge -useContext +onlyGivenNames y1
  extract_lets -merge -useContext +onlyGivenNames y3
  have h4 : State.Keeps w s0 y3 := by
    unfold y3
    refine State.Keeps.upd_nvm (s := x0) ?_ ?_ ?_ ?_ ?_ ?_
    · exact .inl (hw.bit rfl)
    · exact .inl (hw.bit rfl)
    · exact .inr (Nvm.next_bytes _)
    · exact (Nvm.next_retired _).symm ▸ List.suffix_refl _
    · exact fun h => (Nvm.next_bytes _).symm ▸ h
    · assumption
  clear_value y3
  split
  · rename_i b13 e14
    refine State.journalDone_keeps (hw.mono rfl) ?_
    assumption
  · rename_i b17 b18 b19 e20
    refine State.highCells_keeps (hw.mono rfl) ?_
    refine State.sf_keeps ?_ ?_
    · exact hw.reg (by omega) (RegGroup.nvm_at (by omega) (by omega)) rfl
    · assumption
  · rename_i b25 b26 b27 e28
    refine State.snapsDone_keeps (hw.mono rfl) ?_
    assumption
  · rename_i b31 e32
    refine State.hostDone_keeps (hw.mono rfl) ?_
    assumption
  · rename_i b35 b36 e37
    refine State.tryCpl_keeps (hw.mono rfl) ?_
    refine State.ownerStored_keeps (hw.mono rfl) ?_
    assumption
  · rename_i b41 b42 e43
    refine State.startSign_keeps (hw.mono rfl) ?_
    refine State.sealsStored_keeps (hw.mono rfl) ?_
    assumption
  · rename_i b47 e48
    refine State.tryCpl_keeps (hw.mono rfl) ?_
    assumption
  · rename_i b51 b52 e53
    refine State.calStored_keeps (hw.mono rfl) ?_
    assumption
  · rename_i b56 e57 e58 e59 e60 e61 e62 e63 e64
    assumption

theorem State.nvmOpDone_keeps {w : Nat} {s0 : State} {x0 : State} {x1 : Option (Fin 8)} (hw : Has w 1433171418536823291204540769589499540457130976) (hx0 : State.Keeps w s0 x0) :
    State.Keeps w s0 (State.nvmOpDone x0 x1) := by
  unfold State.nvmOpDone
  split
  · rename_i b1 e2
    assumption
  · rename_i b4 b5 e6
    extract_lets -merge -useContext +onlyGivenNames v8
    clear_value v8
    extract_lets -merge -useContext +onlyGivenNames y10
    have h11 : State.Keeps w s0 y10 := by
      unfold y10
      refine State.opWrite_keeps (hw.mono rfl) ?_
      assumption
    clear_value y10
    refine State.Keeps.ite ?_ ?_
    · refine State.Keeps.ite ?_ ?_
      · refine State.hostDone_keeps (hw.mono rfl) ?_
        refine State.Keeps.upd_nvm (s := y10) ?_ ?_ ?_ ?_ ?_ ?_
        · exact .inl (hw.bit rfl)
        · exact .inl (hw.bit rfl)
        · exact .inr (Nvm.next_bytes _)
        · exact (Nvm.next_retired _).symm ▸ List.suffix_refl _
        · exact fun h => (Nvm.next_bytes _).symm ▸ h
        · assumption
      · refine State.nvmFail_keeps (hw.mono rfl) ?_
        assumption
    · refine State.Keeps.ite ?_ ?_
      · refine State.nvmComplete_keeps (hw.mono rfl) ?_
        assumption
      · refine State.Keeps.upd_nvm (s := y10) ?_ ?_ ?_ ?_ ?_ ?_
        · exact .inl (hw.bit rfl)
        · exact .inl (hw.bit rfl)
        · exact .inr (Nvm.next_bytes _)
        · exact (Nvm.next_retired _).symm ▸ List.suffix_refl _
        · exact fun h => (Nvm.next_bytes _).symm ▸ h
        · assumption

theorem State.gaspEnd_keeps {w : Nat} {s0 : State} {x0 : State} (hw : Has w 1433171418536823291204540769589499540457130976) (hx0 : State.Keeps w s0 x0) :
    State.Keeps w s0 (State.gaspEnd x0) := by
  unfold State.gaspEnd
  split
  · rename_i b1 b2 e3
    refine State.Keeps.ite ?_ ?_
    · refine State.nvmOpDone_keeps (hw.mono rfl) ?_
      assumption
    · assumption
  · rename_i b8 e9
    assumption

theorem State.linkLanes_keeps {w : Nat} {s0 : State} {x0 : State} (hw : Has w 87112285931760246646623899502532662132736) (hx0 : State.Keeps w s0 x0) :
    State.Keeps w s0 (State.linkLanes x0) := by
  unfold State.linkLanes
  refine State.Keeps.ite ?_ ?_
  · refine State.sfs_keeps ?_ ?_
    · refine ⟨?_, ?_⟩
      · dsimp only
        exact hw.reg (by omega) (RegGroup.linkStat_at (by omega) (by omega)) rfl
      · refine ⟨?_, ?_⟩
        · dsimp only
          exact hw.reg (by omega) (RegGroup.linkStat_at (by omega) (by omega)) rfl
        · refine ⟨?_, ?_⟩
          · dsimp only
            exact hw.reg (by omega) (RegGroup.linkStat_at (by omega) (by omega)) rfl
          · refine ⟨?_, ?_⟩
            · dsimp only
              exact hw.reg (by omega) (RegGroup.linkStat_at (by omega) (by omega)) rfl
            · exact trivial
    · assumption
  · refine State.Keeps.ite ?_ ?_
    · refine State.sf_keeps ?_ ?_
      · exact hw.reg (by omega) (RegGroup.linkStat_at (by omega) (by omega)) rfl
      · assumption
    · assumption

theorem State.startFences_keeps {w : Nat} {s0 : State} {x0 : State} {x1 : List (Fin 64)} {x2 : List (Fin 2)} (hw : Has w 87112285931760556131670614335748806017024) (hx0 : State.Keeps w s0 x0) :
    State.Keeps w s0 (State.startFences x0 x1 x2) := by
  unfold State.startFences
  extract_lets -merge -useContext +onlyGivenNames y1
  have h2 : State.Keeps w s0 y1 := by
    unfold y1
    refine State.Keeps.foldlMem ?_ ?_
    · assumption
    · intro a5 a6 a7 a8
      have a9 := List.mem_range.1 a7
      refine State.Keeps.ite ?_ ?_
      · refine State.smbit_keeps ?_ ?_
        · exact hw.reg (by omega) (RegGroup.fence_at (by omega) (by omega)) rfl
        · assumption
      · assumption
  clear_value y1
  extract_lets -merge -useContext +onlyGivenNames y16
  have h17 : State.Keeps w s0 y16 := by
    unfold y16
    refine State.Keeps.foldlMem ?_ ?_
    · assumption
    · intro a20 a21 a22 a23
      have a24 := List.mem_range.1 a22
      refine State.Keeps.ite ?_ ?_
      · refine State.smbit_keeps ?_ ?_
        · exact hw.reg (by omega) (RegGroup.tsarCtrl_at (by omega) (by omega)) rfl
        · refine State.smbit_keeps ?_ ?_
          · exact hw.reg (by omega) (RegGroup.fence_at (by omega) (by omega)) rfl
          · assumption
      · assumption
  clear_value y16
  extract_lets -merge -useContext +onlyGivenNames y33
  have h34 : State.Keeps w s0 y33 := by
    unfold y33
    refine State.Keeps.foldl ?_ ?_
    · assumption
    · intro a38 a39 a40
      refine State.Keeps.ite ?_ ?_
      · refine State.smbit_keeps ?_ ?_
        · exact hw.reg (by omega) (RegGroup.fence_at (by omega) (by omega)) rfl
        · assumption
      · refine State.smbit_keeps ?_ ?_
        · exact hw.reg (by omega) (RegGroup.fence_at (by omega) (by omega)) rfl
        · assumption
  clear_value y33
  refine State.linkLanes_keeps (hw.mono rfl) ?_
  refine State.Keeps.foldl ?_ ?_
  · assumption
  · intro a52 a53 a54
    refine State.smbit_keeps ?_ ?_
    · exact hw.reg (by omega) (RegGroup.fence_at (by omega) (by omega)) rfl
    · assumption

theorem State.readySlices_keeps {w : Nat} {s0 : State} {x0 : State} (hw : Has w 11692013098647223345629478661711822488779636607840) (hx0 : State.Keeps w s0 x0) :
    State.Keeps w s0 (State.readySlices x0) := by
  unfold State.readySlices
  refine State.Keeps.ite ?_ ?_
  · refine State.sliceLost_keeps (hw.mono rfl) ?_
    assumption
  · assumption

theorem State.logReset_keeps {w : Nat} {s0 : State} {x0 : State} (hw : Has w 348539531230754360870870571278538556572512) (hx0 : State.Keeps w s0 x0) :
    State.Keeps w s0 (State.logReset x0) := by
  unfold State.logReset
  refine State.log_keeps (hw.mono rfl) ?_
  assumption

theorem State.startLogs_keeps {w : Nat} {s0 : State} {x0 : State} {x1 : List (ℕ × ℕ)} (hw : Has w 348539531230754360870870571278538556572512) (hx0 : State.Keeps w s0 x0) :
    State.Keeps w s0 (State.startLogs x0 x1) := by
  unfold State.startLogs
  extract_lets -merge -useContext +onlyGivenNames y1
  have h2 : State.Keeps w s0 y1 := by
    unfold y1
    refine State.Keeps.foldl ?_ ?_
    · refine State.logReset_keeps (hw.mono rfl) ?_
      assumption
    · intro a7 a8 a9
      refine State.unitLost_keeps (hw.mono rfl) ?_
      assumption
  clear_value y1
  extract_lets -merge -useContext +onlyGivenNames y13
  have h14 : State.Keeps w s0 y13 := by
    unfold y13
    refine State.Keeps.foldl ?_ ?_
    · assumption
    · intro a18 a19 a20
      refine State.log_keeps (hw.mono rfl) ?_
      assumption
  clear_value y13
  refine State.Keeps.ite ?_ ?_
  · refine State.logRef_keeps (hw.mono rfl) ?_
    refine State.raise_keeps (hw.mono rfl) ?_ ?_
    · assumption
    · exact .inl (by omega)
  · assumption

theorem State.statRemap_keeps {w : Nat} {s0 : State} {x0 : State} {x1 : List (Option ℕ)} (hw : Has w 180775007426748558714917760198127910912) (hx0 : State.Keeps w s0 x0) :
    State.Keeps w s0 (State.statRemap x0 x1) := by
  unfold State.statRemap
  extract_lets -merge -useContext +onlyGivenNames v1
  clear_value v1
  extract_lets -merge -useContext +onlyGivenNames v3
  clear_value v3
  extract_lets -merge -useContext +onlyGivenNames y5
  have h6 : State.Keeps w s0 y5 := by
    unfold y5
    refine State.putMap_keeps (hw.mono rfl) ?_
    assumption
  clear_value y5
  extract_lets -merge -useContext +onlyGivenNames y10
  have h11 : State.Keeps w s0 y10 := by
    unfold y10
    refine State.Keeps.foldl ?_ ?_
    · assumption
    · intro a15 a16 a17
      extract_lets -merge -useContext +onlyGivenNames v19
      clear_value v19
      refine State.Keeps.ite ?_ ?_
      · assumption
      · extract_lets -merge -useContext +onlyGivenNames y23
        have h24 : State.Keeps w s0 y23 := by
          unfold y23
          refine State.histClear_keeps (hw.mono rfl) ?_
          assumption
        clear_value y23
        refine State.Keeps.ite ?_ ?_
        · refine State.setHist_keeps (hw.mono rfl) ?_
          assumption
        · assumption
  clear_value y10
  refine State.sf_keeps ?_ ?_
  · exact hw.reg (by omega) (RegGroup.statCtrl_at (by omega) (by omega)) rfl
  · assumption

theorem State.readyInts_keeps {w : Nat} {s0 : State} {x0 : State} (hw : Has w 180775007426748559010065665411840475648) (hx0 : State.Keeps w s0 x0) :
    State.Keeps w s0 (State.readyInts x0) := by
  unfold State.readyInts
  extract_lets -merge -useContext +onlyGivenNames y1
  have h2 : State.Keeps w s0 y1 := by
    unfold y1
    refine State.raise_keeps (hw.mono rfl) ?_ ?_
    · refine State.statRemap_keeps (hw.mono rfl) ?_
      assumption
    · exact .inl (by omega)
  clear_value y1
  refine State.Keeps.ite ?_ ?_
  · refine State.raise_keeps (hw.mono rfl) ?_ ?_
    · assumption
    · exact .inl (by omega)
  · assumption

theorem State.readyRegs_keeps {w : Nat} {s0 : State} {x0 : State} {x1 : Bool} (hw : Has w 73786976294838206464) (hx0 : State.Keeps w s0 x0) :
    State.Keeps w s0 (State.readyRegs x0 x1) := by
  unfold State.readyRegs
  extract_lets -merge -useContext +onlyGivenNames v1
  clear_value v1
  refine State.sfs_keeps ?_ ?_
  · refine ⟨?_, ?_⟩
    · dsimp only
      exact hw.reg (by omega) (RegGroup.rst_at (by omega) (by omega)) rfl
    · refine ⟨?_, ?_⟩
      · dsimp only
        exact hw.reg (by omega) (RegGroup.rst_at (by omega) (by omega)) rfl
      · refine ⟨?_, ?_⟩
        · dsimp only
          exact hw.reg (by omega) (RegGroup.rst_at (by omega) (by omega)) rfl
        · refine ⟨?_, ?_⟩
          · dsimp only
            exact hw.reg (by omega) (RegGroup.rst_at (by omega) (by omega)) rfl
          · refine ⟨?_, ?_⟩
            · dsimp only
              exact hw.reg (by omega) (RegGroup.rst_at (by omega) (by omega)) rfl
            · exact trivial
  · refine State.s64_keeps ?_ ?_ ?_
    · exact hw.reg (by omega) (RegGroup.rst_at (by omega) (by omega)) rfl
    · exact hw.reg (by omega) (RegGroup.rst_at (by omega) (by omega)) rfl
    · assumption

theorem State.readyState_keeps {w : Nat} {s0 : State} {x0 : State} (hw : Has w 1073741827) (hx0 : State.Keeps w s0 x0) :
    State.Keeps w s0 (State.readyState x0) := by
  unfold State.readyState
  refine State.Keeps.upd_rst_persist (s := x0) ?_ ?_ ?_ ?_ ?_
  · exact hw.bit rfl
  · exact .inl (hw.bit rfl)
  · exact hw.bit rfl
  · exact Nat.le_add_right _ _
  · assumption

theorem State.goReady_keeps {w : Nat} {s0 : State} {x0 : State} {x1 : ℕ} {x2 : List (Fin 64)} {x3 : List (Fin 2)} (hw : Has w 11692013098647223345629478661711823896155730217827) (hx0 : State.Keeps w s0 x0) :
    State.Keeps w s0 (State.goReady x0 x1 x2 x3) := by
  unfold State.goReady
  extract_lets -merge -useContext +onlyGivenNames y1
  have h2 : State.Keeps w s0 y1 := by
    unfold y1
    refine State.startFences_keeps (hw.mono rfl) ?_
    refine State.timeTo_keeps (hw.mono rfl) ?_
    assumption
  clear_value y1
  extract_lets -merge -useContext +onlyGivenNames v7
  clear_value v7
  refine State.calReach_keeps (hw.mono rfl) ?_
  refine State.autostart_keeps (hw.mono rfl) ?_
  refine State.readySlices_keeps (hw.mono rfl) ?_
  refine State.startLogs_keeps (hw.mono rfl) ?_
  refine State.readyInts_keeps (hw.mono rfl) ?_
  refine State.readyRegs_keeps (hw.mono rfl) ?_
  refine State.readyState_keeps (hw.mono rfl) ?_
  assumption

theorem State.grpReplayed_keeps {w : Nat} {s0 : State} {x0 : State} {x1 : Fin 2} {x2 : ℕ} (hw : Has w 562949953421312) (hx0 : State.Keeps w s0 x0) :
    State.Keeps w s0 (State.grpReplayed x0 x1 x2) := by
  unfold State.grpReplayed
  extract_lets -merge -useContext +onlyGivenNames v1
  clear_value v1
  extract_lets -merge -useContext +onlyGivenNames v3
  clear_value v3
  refine State.setGrp_keeps ?_ ?_ ?_ ?_
  · exact hw.bit rfl
  · (refine .inr fun _ => ?_; split <;> rfl)
  · (refine .inr fun _ => ?_; split <;> rfl)
  · assumption

theorem State.grpStall_keeps {w : Nat} {s0 : State} {x0 : State} {x1 : Fin 2} (hw : Has w 348539531230754360870870571841488509993824) (hx0 : State.Keeps w s0 x0) :
    State.Keeps w s0 (State.grpStall x0 x1) := by
  unfold State.grpStall
  extract_lets -merge -useContext +onlyGivenNames v1
  clear_value v1
  extract_lets -merge -useContext +onlyGivenNames v3
  clear_value v3
  extract_lets -merge -useContext +onlyGivenNames y5
  have h6 : State.Keeps w s0 y5 := by
    unfold y5
    refine State.setGrp_keeps ?_ ?_ ?_ ?_
    · exact hw.bit rfl
    · exact .inr fun _ => rfl
    · exact .inr fun _ => rfl
    · assumption
  clear_value y5
  refine State.Keeps.ite ?_ ?_
  · assumption
  · refine State.Keeps.foldl ?_ ?_
    · assumption
    · intro a17 a18 a19
      extract_lets -merge -useContext +onlyGivenNames v21
      clear_value v21
      extract_lets -merge -useContext +onlyGivenNames y23
      have h24 : State.Keeps w s0 y23 := by
        unfold y23
        refine State.gapsOn_keeps (hw.mono rfl) ?_
        assumption
      clear_value y23
      extract_lets -merge -useContext +onlyGivenNames y28
      have h29 : State.Keeps w s0 y28 := by
        unfold y28
        refine State.Keeps.ite ?_ ?_
        · refine State.evEval_keeps (hw.mono rfl) ?_
          assumption
        · assumption
      clear_value y28
      refine State.Keeps.ite ?_ ?_
      · refine State.emit_keeps (hw.mono rfl) ?_
        refine State.setEv_keeps (hw.mono rfl) ?_
        assumption
      · assumption

theorem State.halfEnd_keeps {w : Nat} {s0 : State} {x0 : State} {x1 : Fin 2} {x2 : DevTime} (hw : Has w 348540943535499882343985532136490058122080) (hx0 : State.Keeps w s0 x0) :
    State.Keeps w s0 (State.halfEnd x0 x1 x2) := by
  unfold State.halfEnd
  extract_lets -merge -useContext +onlyGivenNames v1
  clear_value v1
  extract_lets -merge -useContext +onlyGivenNames v3
  have h4 : State.Keeps w s0 v3 := by
    unfold v3
    refine State.setGrp_keeps ?_ ?_ ?_ ?_
    · exact hw.bit rfl
    · exact .inr fun _ => rfl
    · exact .inr fun _ => rfl
    · assumption
  clear_value v3
  split
  · rename_i b11 b12 b13 b14 e15
    extract_lets -merge -useContext +onlyGivenNames v17
    clear_value v17
    extract_lets -merge -useContext +onlyGivenNames v19
    have h20 : State.Keeps w s0 v19 := by
      unfold v19
      refine State.setGrp_keeps ?_ ?_ ?_ ?_
      · exact hw.bit rfl
      · exact .inr fun _ => rfl
      · exact .inr fun _ => rfl
      · assumption
    clear_value v19
    split
    · rename_i b27 b28 e29
      refine State.evValue_keeps (hw.mono rfl) ?_
      assumption
    · rename_i b32 e33
      assumption
  · rename_i b35 e36
    assumption

theorem State.supGapOut_keeps {w : Nat} {s0 : State} {x0 : State} {x1 : Fin 8} (hw : Has w 348539531230754360870870571278538690792288) (hx0 : State.Keeps w s0 x0) :
    State.Keeps w s0 (State.supGapOut x0 x1) := by
  unfold State.supGapOut
  split
  · rename_i b1 e2
    assumption
  · rename_i b4 b5 b6 e7
    refine State.supGapTo_keeps (hw.mono rfl) ?_
    assumption

theorem State.tsEnd_keeps {w : Nat} {s0 : State} {x0 : State} {x1 : Fin 8} {x2 : ℕ} (hw : Has w 348539541615370670346242786529548797479776) (hx0 : State.Keeps w s0 x0) :
    State.Keeps w s0 (State.tsEnd x0 x1 x2) := by
  unfold State.tsEnd
  extract_lets -merge -useContext +onlyGivenNames v1
  clear_value v1
  extract_lets -merge -useContext +onlyGivenNames y3
  have h4 : State.Keeps w s0 y3 := by
    unfold y3
    refine State.tsShadowEnd_keeps (hw.mono rfl) ?_
    assumption
  clear_value y3
  extract_lets -merge -useContext +onlyGivenNames y8
  have h9 : State.Keeps w s0 y8 := by
    unfold y8
    refine State.fastPins_keeps (hw.mono rfl) ?_
    refine State.sfs_keeps ?_ ?_
    · refine ⟨?_, ?_⟩
      · dsimp only
        exact hw.reg (by omega) (RegGroup.fast_at (by omega) (by omega)) rfl
      · refine ⟨?_, ?_⟩
        · dsimp only
          exact hw.reg (by omega) (RegGroup.fast_at (by omega) (by omega)) rfl
        · exact trivial
    · assumption
  clear_value y8
  extract_lets -merge -useContext +onlyGivenNames y19
  have h20 : State.Keeps w s0 y19 := by
    unfold y19
    refine State.tsEval_keeps (hw.mono rfl) ?_
    refine State.fastDrain_keeps (hw.mono rfl) ?_
    refine State.tsRelease_keeps (hw.mono rfl) ?_
    assumption
  clear_value y19
  extract_lets -merge -useContext +onlyGivenNames y26
  have h27 : State.Keeps w s0 y26 := by
    unfold y26
    refine State.supGapOut_keeps (hw.mono rfl) ?_
    refine State.supCut_keeps (hw.mono rfl) ?_
    assumption
  clear_value y26
  extract_lets -merge -useContext +onlyGivenNames y32
  have h33 : State.Keeps w s0 y32 := by
    unfold y32
    refine State.setTs_keeps (hw.mono rfl) ?_
    assumption
  clear_value y32
  extract_lets -merge -useContext +onlyGivenNames y37
  have h38 : State.Keeps w s0 y37 := by
    unfold y37
    refine State.smbit_keeps ?_ ?_
    · exact hw.reg (by omega) (RegGroup.tsarCtrl_at (by omega) (by omega)) rfl
    · assumption
  clear_value y37
  extract_lets -merge -useContext +onlyGivenNames y43
  have h44 : State.Keeps w s0 y43 := by
    unfold y43
    refine State.Keeps.ite ?_ ?_
    · assumption
    · refine State.Keeps.ite ?_ ?_
      · refine State.supEnable_keeps (hw.mono rfl) ?_
        assumption
      · refine State.supOff_keeps (hw.mono rfl) ?_
        assumption
  clear_value y43
  refine State.release_keeps (hw.mono rfl) ?_
  refine State.supOrder_keeps (hw.mono rfl) ?_
  assumption

theorem State.haltClose_keeps {w : Nat} {s0 : State} {x0 : State} (hw : Has w 377124678684221055963033766965979907885920) (hx0 : State.Keeps w s0 x0) :
    State.Keeps w s0 (State.haltClose x0) := by
  unfold State.haltClose
  extract_lets -merge -useContext +onlyGivenNames y1
  have h2 : State.Keeps w s0 y1 := by
    unfold y1
    refine State.Keeps.foldl ?_ ?_
    · assumption
    · intro a6 a7 a8
      refine State.Keeps.ite ?_ ?_
      · refine State.grpEnd_keeps (hw.mono rfl) ?_
        assumption
      · assumption
  clear_value y1
  extract_lets -merge -useContext +onlyGivenNames y14
  have h15 : State.Keeps w s0 y14 := by
    unfold y14
    refine State.Keeps.foldl ?_ ?_
    · assumption
    · intro a19 a20 a21
      refine State.Keeps.ite ?_ ?_
      · refine State.tsEnd_keeps (hw.mono rfl) ?_
        assumption
      · assumption
  clear_value y14
  refine State.logTime_keeps (hw.mono rfl) ?_
  refine State.capFlag_keeps (hw.mono rfl) ?_
  assumption

theorem State.storeKeyZero_keeps {w : Nat} {s0 : State} {x0 : State} (hw : Has w 206158430208) (hx0 : State.Keeps w s0 x0) :
    State.Keeps w s0 (State.storeKeyZero x0) := by
  unfold State.storeKeyZero
  extract_lets -merge -useContext +onlyGivenNames v1
  clear_value v1
  refine State.nvmQueue_keeps (hw.mono rfl) ?_
  assumption

theorem State.storeSeals_keeps {w : Nat} {s0 : State} {x0 : State} (hw : Has w 755914244096) (hx0 : State.Keeps w s0 x0) :
    State.Keeps w s0 (State.storeSeals x0) := by
  unfold State.storeSeals
  refine State.Keeps.ite ?_ ?_
  · assumption
  · refine State.storeRecord_keeps (hw.mono rfl) ?_
    refine State.Keeps.upd_sec (s := x0) ?_ ?_ ?_ ?_ ?_ ?_ ?_ ?_ ?_ ?_ ?_
    · exact .inl (hw.bit rfl)
    · exact .inr rfl
    · exact .inr rfl
    · exact .inr rfl
    · exact .inr rfl
    · exact .inr rfl
    · exact id
    · exact id
    · exact fun _ h h' => ⟨h, h'⟩
    · exact fun h => ⟨Nat.le_refl _, h⟩
    · assumption

theorem State.sealFinish_keeps {w : Nat} {s0 : State} {x0 : State} (hw : Has w 5923725830863410146254800139441178688881632) (hx0 : State.Keeps w s0 x0) :
    State.Keeps w s0 (State.sealFinish x0) := by
  unfold State.sealFinish
  split
  · exact hx0
  · rename_i g hg
    extract_lets -merge -useContext +onlyGivenNames prev b sg p r mc
    clear_value prev b sg p r
    have h1 := State.Keeps.countSeal (v := sha256 p) (n := x0.sec.sigCount + 1) (hw.bit rfl) hg hx0
    exact State.startSign_keeps (hw.mono rfl) (State.cplSealed_keeps (hw.mono rfl) (State.emit_keeps (hw.mono rfl) (State.Keeps.ite (State.storeSeals_keeps (hw.mono rfl) h1) h1)))

theorem State.zeroise_keeps {w : Nat} {s0 : State} {x0 : State} (hw : Has w 5923725830863410146254800139445576735392736) (hx0 : State.Keeps w s0 x0) :
    State.Keeps w s0 (State.zeroise x0) := by
  unfold State.zeroise
  refine State.storeKeyZero_keeps (hw.mono rfl) ?_
  refine State.sealFinish_keeps (hw.mono rfl) ?_
  refine State.Keeps.upd_sec (s := x0) ?_ ?_ ?_ ?_ ?_ ?_ ?_ ?_ ?_ ?_ ?_
  · exact .inr rfl
  · exact .inr rfl
  · exact .inr rfl
  · exact .inl (hw.bit rfl)
  · exact .inr rfl
  · exact .inr rfl
  · exact id
  · exact fun _ => rfl
  · exact fun _ h h' => ⟨h, h'⟩
  · exact fun h => ⟨Nat.le_refl _, h⟩
  · assumption

theorem State.ketZero_keeps {w : Nat} {s0 : State} {x0 : State} (hw : Has w 5923725830863410146254800139480761107481568) (hx0 : State.Keeps w s0 x0) :
    State.Keeps w s0 (State.ketZero x0) := by
  unfold State.ketZero
  refine State.Keeps.ite ?_ ?_
  · refine State.zeroise_keeps (hw.mono rfl) ?_
    refine State.Keeps.upd_ket (s := x0) ?_ ?_ ?_
    · exact .inl (hw.bit rfl)
    · exact .inr (Nat.le_refl _)
    · assumption
  · refine State.Keeps.upd_ket (s := x0) ?_ ?_ ?_
    · exact .inl (hw.bit rfl)
    · exact .inr (Nat.le_refl _)
    · assumption

theorem State.ketEvent_keeps {w : Nat} {s0 : State} {x0 : State} {x1 : Fin 12} (hw : Has w 5923725830863410146254800139480761107481568) (hx0 : State.Keeps w s0 x0) :
    State.Keeps w s0 (State.ketEvent x0 x1) := by
  unfold State.ketEvent
  refine State.Keeps.ite ?_ ?_
  · assumption
  · refine State.Keeps.ite ?_ ?_
    · assumption
    · extract_lets -merge -useContext +onlyGivenNames v5
      clear_value v5
      extract_lets -merge -useContext +onlyGivenNames v7
      clear_value v7
      extract_lets -merge -useContext +onlyGivenNames v9
      clear_value v9
      extract_lets -merge -useContext +onlyGivenNames v11
      clear_value v11
      extract_lets -merge -useContext +onlyGivenNames v13
      clear_value v13
      extract_lets -merge -useContext +onlyGivenNames y15
      extract_lets -merge -useContext +onlyGivenNames y17
      have h18 : State.Keeps w s0 y17 := by
        unfold y17
        refine State.Keeps.upd_ket (s := x0) ?_ ?_ ?_
        · exact .inl (hw.bit rfl)
        · exact .inr (Nat.le_refl _)
        · assumption
      clear_value y17
      refine State.Keeps.ite ?_ ?_
      · assumption
      · extract_lets -merge -useContext +onlyGivenNames y26
        have h27 : State.Keeps w s0 y26 := by
          unfold y26
          refine State.Keeps.ite ?_ ?_
          · refine State.raise_keeps (hw.mono rfl) ?_ ?_
            · refine State.emit_keeps (hw.mono rfl) ?_
              assumption
            · exact .inl (by omega)
          · assumption
        clear_value y26
        refine State.Keeps.ite ?_ ?_
        · refine State.ketZero_keeps (hw.mono rfl) ?_
          assumption
        · assumption

end Sys2Proof.Machine
end

