-- ==== Sys2Proof/Laws/KeepsD.lean ====
section
/-! SUPPORT. Every operation of the model keeps what `State.Keeps` says: one lemma for each operation, in the order in which they
call one another (part 4 of 5). Each names, as a mask, the parts and register groups that the operation may change. -/

namespace Sys2Proof.Machine

theorem State.halt_keeps {w : Nat} {s0 : State} {x0 : State} (hw : Has w 228365583143933206378499225443986378961301801952) (hx0 : State.Keeps w s0 x0) :
    State.Keeps w s0 (State.halt x0) := by
  unfold State.halt
  extract_lets -merge -useContext +onlyGivenNames y1
  clear_value y1
  extract_lets -merge -useContext +onlyGivenNames y3
  have h4 : State.Keeps w s0 y3 := by
    unfold y3
    refine State.Keeps.upd_time (s := x0) ?_ ?_ ?_
    · exact .inl (hw.bit rfl)
    · exact .inl (hw.bit rfl)
    · assumption
  clear_value y3
  extract_lets -merge -useContext +onlyGivenNames y10
  have h11 : State.Keeps w s0 y10 := by
    unfold y10
    refine State.incSat_keeps ?_ ?_
    · exact hw.reg (by omega) (RegGroup.halt_at (by omega) (by omega)) rfl
    · refine State.sfs_keeps ?_ ?_
      · refine ⟨?_, ?_⟩
        · dsimp only
          exact hw.reg (by omega) (RegGroup.timeStat_at (by omega) (by omega)) rfl
        · refine ⟨?_, ?_⟩
          · dsimp only
            exact hw.reg (by omega) (RegGroup.clk_at (by omega) (by omega)) rfl
          · refine ⟨?_, ?_⟩
            · dsimp only
              exact hw.reg (by omega) (RegGroup.clk_at (by omega) (by omega)) rfl
            · refine ⟨?_, ?_⟩
              · dsimp only
                exact hw.reg (by omega) (RegGroup.clk_at (by omega) (by omega)) rfl
              · exact trivial
      · assumption
  clear_value y10
  extract_lets -merge -useContext +onlyGivenNames y26
  clear_value y26
  extract_lets -merge -useContext +onlyGivenNames y28
  have h29 : State.Keeps w s0 y28 := by
    unfold y28
    refine State.raise_keeps (hw.mono rfl) ?_ ?_
    · refine State.sf_keeps ?_ ?_
      · exact hw.reg (by omega) (RegGroup.clk_at (by omega) (by omega)) rfl
      · assumption
    · exact .inl (by omega)
  clear_value y28
  extract_lets -merge -useContext +onlyGivenNames y36
  clear_value y36
  extract_lets -merge -useContext +onlyGivenNames y38
  have h39 : State.Keeps w s0 y38 := by
    unfold y38
    refine State.Keeps.ite ?_ ?_
    · refine State.sf_keeps ?_ ?_
      · exact hw.reg (by omega) (RegGroup.clk_at (by omega) (by omega)) rfl
      · refine State.Keeps.upd_time (s := y10) ?_ ?_ ?_
        · exact .inl (hw.bit rfl)
        · exact .inl (hw.bit rfl)
        · assumption
    · refine State.Keeps.ite ?_ ?_
      · refine State.Keeps.upd_time (s := y28) ?_ ?_ ?_
        · exact .inl (hw.bit rfl)
        · exact .inl (hw.bit rfl)
        · assumption
      · refine State.haltClose_keeps (hw.mono rfl) ?_
        assumption
  clear_value y38
  refine State.ketSync_keeps (hw.mono rfl) ?_
  refine State.ketEvent_keeps (hw.mono rfl) ?_
  assumption

theorem State.haltLate_keeps {w : Nat} {s0 : State} {x0 : State} (hw : Has w 377124678684221055963033767106717396241248) (hx0 : State.Keeps w s0 x0) :
    State.Keeps w s0 (State.haltLate x0) := by
  unfold State.haltLate
  refine State.Keeps.ite ?_ ?_
  · refine State.haltClose_keeps (hw.mono rfl) ?_
    refine State.Keeps.upd_time (s := x0) ?_ ?_ ?_
    · exact .inl (hw.bit rfl)
    · exact .inr rfl
    · assumption
  · assumption

theorem State.haltWb_keeps {w : Nat} {s0 : State} {x0 : State} {x1 : Fin 64} (hw : Has w 5923725830863410146254800139441178688881632) (hx0 : State.Keeps w s0 x0) :
    State.Keeps w s0 (State.haltWb x0 x1) := by
  unfold State.haltWb
  refine State.Keeps.ite ?_ ?_
  · refine State.afterVisible_keeps (hw.mono rfl) ?_
    refine State.publish_keeps (hw.mono rfl) ?_
    assumption
  · refine State.setRing_keeps ?_ ?_ ?_ ?_
    · exact hw.bit rfl
    · exact .inr fun _ => rfl
    · exact .inr fun _ => rfl
    · assumption

theorem State.haltRing_keeps {w : Nat} {s0 : State} {x0 : State} {x1 : Fin 64} {x2 : ℕ} (hw : Has w 5923725830863410146254800139441187278816224) (hx0 : State.Keeps w s0 x0) :
    State.Keeps w s0 (State.haltRing x0 x1 x2) := by
  unfold State.haltRing
  refine State.raise_keeps (hw.mono rfl) ?_ ?_
  · refine State.haltWb_keeps (hw.mono rfl) ?_
    refine State.setRing_keeps ?_ ?_ ?_ ?_
    · exact hw.bit rfl
    · exact .inr fun _ => rfl
    · exact .inl (hw.bit rfl)
    · assumption
  · exact .inl (by omega)

theorem State.hsarUrgent_keeps {w : Nat} {s0 : State} {x0 : State} (hw : Has w 134217728) (hx0 : State.Keeps w s0 x0) :
    State.Keeps w s0 (State.hsarUrgent x0) := by
  unfold State.hsarUrgent
  split
  · rename_i b1 b2 e3
    assumption
  · rename_i b5 e6
    split
    · rename_i b8 b9 b10 e11
      refine State.setSar_keeps (hw.mono rfl) ?_
      assumption
    · rename_i b14 b15 b16 e17 e18
      refine State.setSar_keeps (hw.mono rfl) ?_
      assumption
    · rename_i b21 b22 e23 e24
      assumption

theorem State.hsarPfi_keeps {w : Nat} {s0 : State} {x0 : State} (hw : Has w 134217728) (hx0 : State.Keeps w s0 x0) :
    State.Keeps w s0 (State.hsarPfi x0) := by
  unfold State.hsarPfi
  refine State.hsarUrgent_keeps (hw.mono rfl) ?_
  refine State.setSar_keeps (hw.mono rfl) ?_
  assumption

theorem State.tdrift_keeps {w : Nat} {s0 : State} {x0 : State} {x1 : ℤ} (hw : Has w 309485009821345068724781056) (hx0 : State.Keeps w s0 x0) :
    State.Keeps w s0 (State.tdrift x0 x1) := by
  unfold State.tdrift
  refine State.Keeps.foldlMem ?_ ?_
  · assumption
  · intro a2 a3 a4 a5
    have a6 := List.mem_range.1 a4
    refine State.Keeps.ite ?_ ?_
    · refine State.smbit_keeps ?_ ?_
      · exact hw.reg (by omega) (RegGroup.tsarCtrl_at (by omega) (by omega)) rfl
      · assumption
    · assumption

theorem State.hsarPut_keeps {w : Nat} {s0 : State} {x0 : State} {x1 : ℕ} {x2 : ℤ} {x3 : Bool} (hw : Has w 348539531230833898593952520687115148723040) (hx0 : State.Keeps w s0 x0) (hx1 : x1 < 32 ∨ Has w allRegs) :
    State.Keeps w s0 (State.hsarPut x0 x1 x2 x3) := by
  unfold State.hsarPut
  extract_lets -merge -useContext +onlyGivenNames y1
  have h2 : State.Keeps w s0 y1 := by
    unfold y1
    refine State.si_keeps ?_ ?_
    · exact hx1.elim (fun _ => hw.reg (by omega) (RegGroup.hsarRes_at (by omega) (by omega)) rfl) .inr
    · assumption
  clear_value y1
  extract_lets -merge -useContext +onlyGivenNames y7
  have h8 : State.Keeps w s0 y7 := by
    unfold y7
    refine State.incWrap_keeps ?_ ?_
    · exact hx1.elim (fun _ => hw.reg (by omega) (RegGroup.hsarRes_at (by omega) (by omega)) rfl) .inr
    · refine State.sfs_keeps ?_ ?_
      · refine ⟨?_, ?_⟩
        · dsimp only
          exact hx1.elim (fun _ => hw.reg (by omega) (RegGroup.hsarRes_at (by omega) (by omega)) rfl) .inr
        · refine ⟨?_, ?_⟩
          · dsimp only
            exact hx1.elim (fun _ => hw.reg (by omega) (RegGroup.hsarRes_at (by omega) (by omega)) rfl) .inr
          · refine ⟨?_, ?_⟩
            · dsimp only
              exact hx1.elim (fun _ => hw.reg (by omega) (RegGroup.hsarRes_at (by omega) (by omega)) rfl) .inr
            · exact trivial
      · assumption
  clear_value y7
  extract_lets -merge -useContext +onlyGivenNames y21
  have h22 : State.Keeps w s0 y21 := by
    unfold y21
    refine State.Keeps.ite ?_ ?_
    · refine State.tdrift_keeps (hw.mono rfl) ?_
      assumption
    · assumption
  clear_value y21
  refine State.Keeps.ite ?_ ?_
  · refine State.refResult_keeps (hw.mono rfl) ?_
    assumption
  · assumption

theorem State.hsarRestart_keeps {w : Nat} {s0 : State} {x0 : State} {x1 : Fin 32} (hw : Has w 79228162514264337593678168064) (hx0 : State.Keeps w s0 x0) :
    State.Keeps w s0 (State.hsarRestart x0 x1) := by
  unfold State.hsarRestart
  refine State.sf_keeps ?_ ?_
  · exact hw.reg (by omega) (RegGroup.hsarRes_at (by omega) (by omega)) rfl
  · refine State.setSar_keeps (hw.mono rfl) ?_
    assumption

theorem State.hsarWindow_keeps {w : Nat} {s0 : State} {x0 : State} (hw : Has w 134217728) (hx0 : State.Keeps w s0 x0) :
    State.Keeps w s0 (State.hsarWindow x0) := by
  unfold State.hsarWindow
  refine State.setSar_keeps (hw.mono rfl) ?_
  assumption

theorem State.idle_keeps {w : Nat} {s0 : State} {x0 : State} (hw : Has w 355345178569173130140138063708648910095200) (hx0 : State.Keeps w s0 x0) :
    State.Keeps w s0 (State.idle x0) := by
  unfold State.idle
  refine State.Keeps.ite ?_ ?_
  · refine State.calReach_keeps (hw.mono rfl) ?_
    refine State.timeTo_keeps (hw.mono rfl) ?_
    assumption
  · assumption

theorem State.intAfterWrite_keeps {w : Nat} {s0 : State} {x0 : State} (hw : Has w 34359738880) (hx0 : State.Keeps w s0 x0) :
    State.Keeps w s0 (State.intAfterWrite x0) := by
  unfold State.intAfterWrite
  refine State.Keeps.ite ?_ ?_
  · refine State.sendVec_keeps (hw.mono rfl) ?_
    assumption
  · assumption

theorem State.ketFresh_keeps {w : Nat} {s0 : State} {x0 : State} {x1 : ℕ} (hw : Has w 35184372088832) (hx0 : State.Keeps w s0 x0) :
    State.Keeps w s0 (State.ketFresh x0 x1) := by
  unfold State.ketFresh
  extract_lets -merge -useContext +onlyGivenNames v1
  extract_lets -merge -useContext +onlyGivenNames v3
  refine State.Keeps.upd_ket (s := x0) ?_ ?_ ?_
  · exact .inl (hw.bit rfl)
  · exact .inr (Nat.le_refl _)
  · assumption

theorem State.ketSrcApply_keeps {w : Nat} {s0 : State} {x0 : State} {x1 : ℕ} {x2 : ℕ} (hw : Has w 2192252455996354377305527249074424564668270903296) (hx0 : State.Keeps w s0 x0) (hx1 : x1 < 12 ∨ Has w allRegs) :
    State.Keeps w s0 (State.ketSrcApply x0 x1 x2) := by
  unfold State.ketSrcApply
  extract_lets -merge -useContext +onlyGivenNames v1
  clear_value v1
  extract_lets -merge -useContext +onlyGivenNames v3
  clear_value v3
  extract_lets -merge -useContext +onlyGivenNames y5
  have h6 : State.Keeps w s0 y5 := by
    unfold y5
    refine State.Keeps.ite ?_ ?_
    · refine State.sf_keeps ?_ ?_
      · exact hw.reg (by omega) (RegGroup.ketAsense_at (by omega) (by omega)) rfl
      · assumption
    · assumption
  clear_value y5
  extract_lets -merge -useContext +onlyGivenNames y13
  have h14 : State.Keeps w s0 y13 := by
    unfold y13
    refine State.Keeps.ite ?_ ?_
    · refine State.ketFresh_keeps (hw.mono rfl) ?_
      assumption
    · assumption
  clear_value y13
  extract_lets -merge -useContext +onlyGivenNames y20
  have h21 : State.Keeps w s0 y20 := by
    unfold y20
    refine State.Keeps.ite ?_ ?_
    · assumption
    · refine State.sf_keeps ?_ ?_
      · exact hx1.elim (fun _ => hw.reg (by omega) (RegGroup.ketSrc_at (by omega) (by omega)) rfl) .inr
      · assumption
  clear_value y20
  extract_lets -merge -useContext +onlyGivenNames v28
  clear_value v28
  extract_lets -merge -useContext +onlyGivenNames v30
  clear_value v30
  refine State.sfs_keeps ?_ ?_
  · refine ⟨?_, ?_⟩
    · dsimp only
      exact hx1.elim (fun _ => hw.reg (by omega) (RegGroup.ketSrc_at (by omega) (by omega)) rfl) .inr
    · refine ⟨?_, ?_⟩
      · dsimp only
        exact hx1.elim (fun _ => hw.reg (by omega) (RegGroup.ketSrc_at (by omega) (by omega)) rfl) .inr
      · refine ⟨?_, ?_⟩
        · dsimp only
          exact hx1.elim (fun _ => hw.reg (by omega) (RegGroup.ketSrc_at (by omega) (by omega)) rfl) .inr
        · refine ⟨?_, ?_⟩
          · dsimp only
            exact hx1.elim (fun _ => hw.reg (by omega) (RegGroup.ketSrc_at (by omega) (by omega)) rfl) .inr
          · refine ⟨?_, ?_⟩
            · dsimp only
              exact hx1.elim (fun _ => hw.reg (by omega) (RegGroup.ketSrc_at (by omega) (by omega)) rfl) .inr
            · exact trivial
  · assumption

theorem State.ketApply_keeps {w : Nat} {s0 : State} {x0 : State} {x1 : ℕ} {x2 : ℕ} (hw : Has w 2877331348495215120213504514410182230131989282816) (hx0 : State.Keeps w s0 x0) :
    State.Keeps w s0 (State.ketApply x0 x1 x2) := by
  unfold State.ketApply
  refine State.Keeps.ite ?_ ?_
  · refine State.sfs_keeps ?_ ?_
    · refine ⟨?_, ?_⟩
      · dsimp only
        exact hw.reg (by omega) (RegGroup.ketCfg_at (by omega) (by omega)) rfl
      · refine ⟨?_, ?_⟩
        · dsimp only
          exact hw.reg (by omega) (RegGroup.ketCfg_at (by omega) (by omega)) rfl
        · exact trivial
    · assumption
  · refine State.Keeps.ite ?_ ?_
    · refine State.sf_keeps ?_ ?_
      · exact hw.reg (by omega) (RegGroup.ketCfg_at (by omega) (by omega)) rfl
      · assumption
    · refine State.Keeps.ite ?_ ?_
      · refine State.sfs_keeps ?_ ?_
        · refine ⟨?_, ?_⟩
          · dsimp only
            exact hw.reg (by omega) (RegGroup.ketCfg_at (by omega) (by omega)) rfl
          · refine ⟨?_, ?_⟩
            · dsimp only
              exact hw.reg (by omega) (RegGroup.ketCfg_at (by omega) (by omega)) rfl
            · refine ⟨?_, ?_⟩
              · dsimp only
                exact hw.reg (by omega) (RegGroup.ketCfg_at (by omega) (by omega)) rfl
              · exact trivial
        · assumption
      · refine State.Keeps.ite ?_ ?_
        · refine State.si_keeps ?_ ?_
          · exact hw.reg (by omega) (RegGroup.ketCfg_at (by omega) (by omega)) rfl
          · assumption
        · refine State.Keeps.ite ?_ ?_
          · refine State.sf_keeps ?_ ?_
            · exact hw.reg (by omega) (RegGroup.ketView_at (by omega) (by omega)) rfl
            · assumption
          · refine State.Keeps.ite ?_ ?_
            · refine State.Keeps.ite ?_ ?_
              · refine State.bistStart_keeps (hw.mono rfl) ?_
                assumption
              · refine State.sf_keeps ?_ ?_
                · exact hw.reg (by omega) (RegGroup.ketBist_at (by omega) (by omega)) rfl
                · assumption
            · refine State.Keeps.ite ?_ ?_
              · refine State.Keeps.ite ?_ ?_
                · refine State.sf_keeps ?_ ?_
                  · exact hw.reg (by omega) (RegGroup.ketBist_at (by omega) (by omega)) rfl
                  · assumption
                · assumption
              · refine State.Keeps.ite ?_ ?_
                · refine State.asenseApply_keeps (hw.mono rfl) ?_
                  assumption
                · refine State.Keeps.ite ?_ ?_
                  · refine State.ketSrcApply_keeps (hw.mono rfl) ?_ ?_
                    · assumption
                    · exact .inl (by omega)
                  · assumption

theorem State.ketQueue_keeps {w : Nat} {s0 : State} {x0 : State} {x1 : ℕ} {x2 : Word} (hw : Has w 45671926166590716193865151022383879548619980800) (hx0 : State.Keeps w s0 x0) :
    State.Keeps w s0 (State.ketQueue x0 x1 x2) := by
  unfold State.ketQueue
  refine State.sf_keeps ?_ ?_
  · exact hw.reg (by omega) (RegGroup.ketStat_at (by omega) (by omega)) rfl
  · refine State.Keeps.upd_ket (s := x0) ?_ ?_ ?_
    · exact .inl (hw.bit rfl)
    · exact .inr (Nat.le_refl _)
    · assumption

theorem State.ketRegsReset_keeps {w : Nat} {s0 : State} {x0 : State} (hw : Has w 2877331348495215120213504514410182194947617193984) (hx0 : State.Keeps w s0 x0) :
    State.Keeps w s0 (State.ketRegsReset x0) := by
  unfold State.ketRegsReset
  refine State.Keeps.upd_regs (s := x0) (fun f hl hf => ?_) (SMap.wf_clearRange _ _ _ _) hx0
  refine (SMap.get_clearRange _ _ _ _ _).trans (if_neg fun hk => ?_)
  have h1 : 0x1E00 ≤ f.off ∧ f.off < 0x1F00 := by
    unfold Fld.key at hk
    omega
  have h2 := h1.1
  have h3 := h1.2
  by_cases a1 : f.off < 0x1E08
  · rw [RegGroup.ketStat_at h2 a1, hw.bit rfl] at hf; exact Bool.noConfusion hf
  by_cases a2 : f.off < 0x1E18
  · rw [RegGroup.ketCfg_at (by omega) a2, hw.bit rfl] at hf; exact Bool.noConfusion hf
  by_cases a3 : f.off < 0x1E50
  · rw [RegGroup.ketView_at (by omega) a3, hw.bit rfl] at hf; exact Bool.noConfusion hf
  by_cases a4 : f.off < 0x1E58
  · rw [RegGroup.ketBist_at (by omega) a4, hw.bit rfl] at hf; exact Bool.noConfusion hf
  by_cases a5 : f.off < 0x1E80
  · rw [RegGroup.ketAsense_at (by omega) a5, hw.bit rfl] at hf; exact Bool.noConfusion hf
  rw [RegGroup.ketSrc_at (by omega) h3, hw.bit rfl] at hf; exact Bool.noConfusion hf

theorem State.ketRun_keeps {w : Nat} {s0 : State} {x0 : State} {x1 : ℕ} (hw : Has w 35184372088832) (hx0 : State.Keeps w s0 x0) :
    State.Keeps w s0 (State.ketRun x0 x1) := by
  unfold State.ketRun
  extract_lets -merge -useContext +onlyGivenNames v1
  clear_value v1
  extract_lets -merge -useContext +onlyGivenNames v3
  clear_value v3
  extract_lets -merge -useContext +onlyGivenNames v5
  clear_value v5
  extract_lets -merge -useContext +onlyGivenNames v7
  clear_value v7
  refine State.Keeps.upd_ket (s := x0) ?_ ?_ ?_
  · exact .inl (hw.bit rfl)
  · exact .inr (Nat.le_refl _)
  · assumption

theorem State.ketSwitch_keeps {w : Nat} {s0 : State} {x0 : State} {x1 : BitVec 4} {x2 : Fin 4} (hw : Has w 5923725830863410146254800139480761107481568) (hx0 : State.Keeps w s0 x0) :
    State.Keeps w s0 (State.ketSwitch x0 x1 x2) := by
  unfold State.ketSwitch
  refine State.Keeps.ite ?_ ?_
  · assumption
  · extract_lets -merge -useContext +onlyGivenNames v3
    clear_value v3
    split
    rename_i b5 b6 b7 b8 e9
    split
    rename_i b11 b12 b13 b14 e15
    extract_lets -merge -useContext +onlyGivenNames y17
    extract_lets -merge -useContext +onlyGivenNames y19
    have h20 : State.Keeps w s0 y19 := by
      unfold y19
      refine State.Keeps.upd_ket (s := x0) ?_ ?_ ?_
      · exact .inl (hw.bit rfl)
      · exact .inr (Nat.le_refl _)
      · assumption
    clear_value y19
    extract_lets -merge -useContext +onlyGivenNames y26
    have h27 : State.Keeps w s0 y26 := by
      unfold y26
      refine State.Keeps.ite ?_ ?_
      · refine State.bistHit_keeps (hw.mono rfl) ?_
        assumption
      · assumption
    clear_value y26
    refine State.Keeps.ite ?_ ?_
    · refine State.ketEvent_keeps (hw.mono rfl) ?_
      assumption
    · assumption

theorem State.linkLost_keeps {w : Nat} {s0 : State} {x0 : State} (hw : Has w 87112285931760246646919047407763554566656) (hx0 : State.Keeps w s0 x0) :
    State.Keeps w s0 (State.linkLost x0) := by
  unfold State.linkLost
  refine State.raise_keeps (hw.mono rfl) ?_ ?_
  · refine State.sfs_keeps ?_ ?_
    · refine ⟨?_, ?_⟩
      · dsimp only
        exact hw.reg (by omega) (RegGroup.linkStat_at (by omega) (by omega)) rfl
      · refine ⟨?_, ?_⟩
        · dsimp only
          exact hw.reg (by omega) (RegGroup.linkStat_at (by omega) (by omega)) rfl
        · refine ⟨?_, ?_⟩
          · dsimp only
            exact hw.reg (by omega) (RegGroup.linkStat_at (by omega) (by omega)) rfl
          · refine ⟨?_, ?_⟩
            · dsimp only
              exact hw.reg (by omega) (RegGroup.linkStat_at (by omega) (by omega)) rfl
            · refine ⟨?_, ?_⟩
              · dsimp only
                exact hw.reg (by omega) (RegGroup.linkStat_at (by omega) (by omega)) rfl
              · exact trivial
    · refine State.Keeps.upd_link (s := x0) ?_ ?_ ?_
      · exact .inl (hw.bit rfl)
      · exact .inr rfl
      · assumption
  · exact .inl (by omega)

theorem State.loadCal_keeps {w : Nat} {s0 : State} {x0 : State} (hw : Has w 1427247692707298520092126979697475654968147968) (hx0 : State.Keeps w s0 x0) :
    State.Keeps w s0 (State.loadCal x0) := by
  unfold State.loadCal
  refine State.calTake_keeps (hw.mono rfl) ?_
  assumption

theorem State.loadConfig_keeps {w : Nat} {s0 : State} {x0 : State} (hw : Has w 11692013098647223345629478661711817413173751840768) (hx0 : State.Keeps w s0 x0) :
    State.Keeps w s0 (State.loadConfig x0) := by
  unfold State.loadConfig
  extract_lets -merge -useContext +onlyGivenNames v1
  clear_value v1
  extract_lets -merge -useContext +onlyGivenNames v3
  clear_value v3
  extract_lets -merge -useContext +onlyGivenNames y5
  have h6 : State.Keeps w s0 y5 := by
    unfold y5
    refine State.sb_keeps ?_ ?_
    · exact hw.reg (by omega) (RegGroup.nvm_at (by omega) (by omega)) rfl
    · assumption
  clear_value y5
  refine State.configTake_keeps (hw.mono rfl) ?_
  assumption

theorem State.loadSnaps_keeps {w : Nat} {s0 : State} {x0 : State} {x1 : Fin 2} (hw : Has w 21778071482940061661655974875633169727488) (hx0 : State.Keeps w s0 x0) :
    State.Keeps w s0 (State.loadSnaps x0 x1) := by
  unfold State.loadSnaps
  extract_lets -merge -useContext +onlyGivenNames v1
  clear_value v1
  extract_lets -merge -useContext +onlyGivenNames v3
  clear_value v3
  extract_lets -merge -useContext +onlyGivenNames v5
  clear_value v5
  extract_lets -merge -useContext +onlyGivenNames v7
  clear_value v7
  extract_lets -merge -useContext +onlyGivenNames v9
  clear_value v9
  extract_lets -merge -useContext +onlyGivenNames v11
  clear_value v11
  extract_lets -merge -useContext +onlyGivenNames y13
  have h14 : State.Keeps w s0 y13 := by
    unfold y13
    refine State.setBil_keeps (hw.mono rfl) ?_
    assumption
  clear_value y13
  refine State.sfs_keeps ?_ ?_
  · refine ⟨?_, ?_⟩
    · dsimp only
      exact hw.reg (by omega) (RegGroup.bilSnap_at (by omega) (by omega)) rfl
    · refine ⟨?_, ?_⟩
      · dsimp only
        exact hw.reg (by omega) (RegGroup.bilSnap_at (by omega) (by omega)) rfl
      · exact trivial
  · assumption

theorem State.mboxRun_keeps {w : Nat} {s0 : State} {x0 : State} {x1 : Cmd} {x2 : ℕ} {x3 : List ℕ} (hw : Has w 235501824329888089557591140183372547038650305507) (hx0 : State.Keeps w s0 x0) :
    State.Keeps w s0 (State.mboxRun x0 x1 x2 x3) := by
  unfold State.mboxRun
  split
  · rename_i b1 e2
    refine State.doStart_keeps (hw.mono rfl) ?_
    assumption
  · rename_i b5 e6
    refine State.doStop_keeps (hw.mono rfl) ?_
    assumption
  · rename_i b9 e10
    refine State.doSnapshot_keeps (hw.mono rfl) ?_
    assumption
  · rename_i b13 e14
    refine State.doPercentile_keeps (hw.mono rfl) ?_
    assumption
  · rename_i b17 e18
    refine State.doArm_keeps (hw.mono rfl) ?_
    assumption
  · rename_i b21 e22
    refine State.doForce_keeps (hw.mono rfl) ?_
    assumption
  · rename_i b25 e26
    refine State.doNvmRead_keeps (hw.mono rfl) ?_
    assumption
  · rename_i b29 e30
    refine State.doNvmWrite_keeps (hw.mono rfl) ?_
    assumption
  · rename_i b33 e34
    refine State.doSealNow_keeps (hw.mono rfl) ?_
    assumption
  · rename_i b37 e38
    refine State.doSetTime_keeps (hw.mono rfl) ?_
    assumption
  · rename_i b41 e42
    refine State.doOpen_keeps (hw.mono rfl) ?_
    assumption
  · rename_i b45 e46
    refine State.doClose_keeps (hw.mono rfl) ?_
    assumption
  · rename_i b49 e50
    refine State.doReadCert_keeps (hw.mono rfl) ?_
    assumption
  · rename_i b53 e54
    refine State.doTamperClear_keeps (hw.mono rfl) ?_
    assumption
  · rename_i b57 e58
    refine State.doFullReset_keeps (hw.mono rfl) ?_
    assumption
  · rename_i b61 e62 e63 e64 e65 e66 e67 e68 e69 e70 e71 e72 e73 e74 e75 e76
    refine State.finish_keeps (hw.mono rfl) ?_
    assumption

theorem State.mboxBegin_keeps {w : Nat} {s0 : State} {x0 : State} {x1 : ℕ} {x2 : List ℕ} (hw : Has w 235501824329888089557591140183372547038650305507) (hx0 : State.Keeps w s0 x0) :
    State.Keeps w s0 (State.mboxBegin x0 x1 x2) := by
  unfold State.mboxBegin
  extract_lets -merge -useContext +onlyGivenNames v1
  clear_value v1
  extract_lets -merge -useContext +onlyGivenNames y3
  clear_value y3
  extract_lets -merge -useContext +onlyGivenNames y5
  have h6 : State.Keeps w s0 y5 := by
    unfold y5
    refine State.Keeps.upd_cmd (s := x0) ?_ ?_
    · exact hw.bit rfl
    · assumption
  clear_value y5
  split
  · rename_i b11 e12
    refine State.finish_keeps (hw.mono rfl) ?_
    assumption
  · rename_i b15 e16
    refine State.mboxRun_keeps (hw.mono rfl) ?_
    assumption
  · rename_i b19 b20 e21 e22
    refine State.finish_keeps (hw.mono rfl) ?_
    assumption

theorem State.msixFlush_keeps {w : Nat} {s0 : State} {x0 : State} (hw : Has w 34359738880) (hx0 : State.Keeps w s0 x0) :
    State.Keeps w s0 (State.msixFlush x0) := by
  unfold State.msixFlush
  refine State.Keeps.foldl ?_ ?_
  · assumption
  · intro a3 a4 a5
    refine State.Keeps.ite ?_ ?_
    · refine State.sendVec_keeps (hw.mono rfl) ?_
      refine State.Keeps.upd_link (s := a3) ?_ ?_ ?_
      · exact .inr rfl
      · exact .inl (hw.bit rfl)
      · assumption
    · assumption

theorem State.offerItem_keeps {w : Nat} {s0 : State} {x0 : State} {x1 : Fin 64} {x2 : QItem} (hw : Has w 348539531230754360870870571278332398141952) (hx0 : State.Keeps w s0 x0) :
    State.Keeps w s0 (State.offerItem x0 x1 x2) := by
  unfold State.offerItem
  split
  · rename_i b1 b2 b3
    refine State.offer_keeps (hw.mono rfl) ?_
    assumption
  · rename_i b6 b7 b8 b9 b10
    extract_lets -merge -useContext +onlyGivenNames v12
    clear_value v12
    refine State.pumpRing_keeps (hw.mono rfl) ?_
    refine State.setRing_keeps ?_ ?_ ?_ ?_
    · exact hw.bit rfl
    · exact .inr fun _ => rfl
    · exact .inr fun _ => rfl
    · refine State.takePlace_keeps (hw.mono rfl) ?_
      assumption

theorem State.onCmd_keeps {w : Nat} {s0 : State} {x0 : State} {x1 : ℕ} {x2 : State → Cmd → State} (_hw : Has w 0) (hx0 : State.Keeps w s0 x0) (hx2 : ∀ t0 t1, State.Keeps w s0 t0 → State.Keeps w s0 (x2 t0 t1)) :
    State.Keeps w s0 (State.onCmd x0 x1 x2) := by
  unfold State.onCmd
  split
  · rename_i b1 b2 b3 e4
    refine State.Keeps.ite ?_ ?_
    · apply_assumption
      assumption
    · assumption
  · rename_i b9 e10
    assumption

theorem State.orDefer_keeps {w : Nat} {s0 : State} {x0 : State} {x1 : Port} {x2 : ℕ} {x3 : Word} {x4 : State → State} (hw : Has w 67108864) (hx0 : State.Keeps w s0 x0) (hx4 : ∀ t0, State.Keeps w s0 t0 → State.Keeps w s0 (x4 t0)) :
    State.Keeps w s0 (State.orDefer x0 x1 x2 x3 x4) := by
  unfold State.orDefer
  refine State.Keeps.ite ?_ ?_
  · refine State.Keeps.upd_deferW (s := x0) ?_ ?_
    · exact hw.bit rfl
    · assumption
  · apply_assumption
    assumption

theorem State.ownerReq_keeps {w : Nat} {s0 : State} {x0 : State} {x1 : ℕ} {x2 : ℕ} {x3 : Bool} (hw : Has w 223007451985306231415357182726483615059857408) (hx0 : State.Keeps w s0 x0) :
    State.Keeps w s0 (State.ownerReq x0 x1 x2 x3) := by
  unfold State.ownerReq
  extract_lets -merge -useContext +onlyGivenNames v1
  clear_value v1
  extract_lets -merge -useContext +onlyGivenNames v3
  clear_value v3
  split
  rename_i b5 b6 b7 e8
  have h9 : State.Keeps w s0 b7 := by
    refine State.Keeps.ofPair e8 ?_
    refine State.bankErrs_keeps (hw.mono rfl) ?_
    assumption
  refine State.Keeps.ite ?_ ?_
  · assumption
  · refine State.bankBegin_keeps (hw.mono rfl) ?_
    assumption

theorem State.pfi_keeps {w : Nat} {s0 : State} {x0 : State} (hw : Has w 1032587313283) (hx0 : State.Keeps w s0 x0) :
    State.Keeps w s0 (State.pfi x0) := by
  unfold State.pfi
  split
  · rename_i b1 e2
    assumption
  · rename_i b4 e5
    assumption
  · rename_i b7 e8
    assumption
  · rename_i b10 e11
    refine State.hsarPfi_keeps (hw.mono rfl) ?_
    assumption
  · rename_i b14 e15
    refine State.hsarPfi_keeps (hw.mono rfl) ?_
    assumption
  · rename_i b18 e19
    refine State.gaspBegin_keeps (hw.mono rfl) ?_
    refine State.hsarPfi_keeps (hw.mono rfl) ?_
    assumption
  · rename_i b23 e24
    refine State.Keeps.ite ?_ ?_
    · refine State.gaspBegin_keeps (hw.mono rfl) ?_
      refine State.hsarPfi_keeps (hw.mono rfl) ?_
      assumption
    · refine State.nvmAbandon_keeps (hw.mono rfl) ?_
      refine State.hsarPfi_keeps (hw.mono rfl) ?_
      assumption

theorem State.powerReq_keeps {w : Nat} {s0 : State} {x0 : State} {x1 : ℕ} {x2 : ℕ} (hw : Has w 223007451985306231415357182726483615059857408) (hx0 : State.Keeps w s0 x0) :
    State.Keeps w s0 (State.powerReq x0 x1 x2) := by
  unfold State.powerReq
  extract_lets -merge -useContext +onlyGivenNames v1
  clear_value v1
  extract_lets -merge -useContext +onlyGivenNames v3
  clear_value v3
  split
  rename_i b5 b6 b7 e8
  have h9 : State.Keeps w s0 b7 := by
    refine State.Keeps.ofPair e8 ?_
    refine State.bankErrs_keeps (hw.mono rfl) ?_
    assumption
  refine State.Keeps.ite ?_ ?_
  · assumption
  · refine State.bankBegin_keeps (hw.mono rfl) ?_
    assumption

theorem State.ppsState_keeps {w : Nat} {s0 : State} {x0 : State} {x1 : ℕ} (hw : Has w 348539531231071273520927628628912732373856) (hx0 : State.Keeps w s0 x0) :
    State.Keeps w s0 (State.ppsState x0 x1) := by
  unfold State.ppsState
  refine State.Keeps.ite ?_ ?_
  · assumption
  · extract_lets -merge -useContext +onlyGivenNames y3
    have h4 : State.Keeps w s0 y3 := by
      unfold y3
      refine State.sf_keeps ?_ ?_
      · exact hw.reg (by omega) (RegGroup.timeStat_at (by omega) (by omega)) rfl
      · assumption
    clear_value y3
    extract_lets -merge -useContext +onlyGivenNames y9
    have h10 : State.Keeps w s0 y9 := by
      unfold y9
      refine State.Keeps.ite ?_ ?_
      · refine State.sf_keeps ?_ ?_
        · exact hw.reg (by omega) (RegGroup.timeStat_at (by omega) (by omega)) rfl
        · assumption
      · assumption
    clear_value y9
    refine State.logTime_keeps (hw.mono rfl) ?_
    assumption

theorem State.ppsAccept_keeps {w : Nat} {s0 : State} {x0 : State} {x1 : DevTime} (hw : Has w 348539531234240400021498203117817579963232) (hx0 : State.Keeps w s0 x0) :
    State.Keeps w s0 (State.ppsAccept x0 x1) := by
  unfold State.ppsAccept
  have ht : ∀ {t : State} {m : TimeSt}, m.t = t.time.t → State.Keeps w s0 t → State.Keeps w s0 { t with time := m } := fun e h => State.Keeps.upd_time (s := _) (.inl (hw.bit rfl)) (.inr e) h
  have hp : ∀ {o l d}, 0x0820 ≤ o → o < 0x0830 → l < 32 → regOk w ⟨o, l, d⟩ := fun h1 h2 hl => hw.reg hl (RegGroup.pps_at h1 h2) rfl
  have hs : ∀ {o l d}, 0x0804 ≤ o → o < 0x0818 → l < 32 → regOk w ⟨o, l, d⟩ := fun h1 h2 hl => hw.reg hl (RegGroup.timeStat_at h1 h2) rfl
  have h1 : ∀ {t : State} {e : Int}, State.Keeps w s0 t → State.Keeps w s0 ((((t.incWrap PPS_CNT_ACCEPTED 1).s64 PPS_LAST_LO_FRAC PPS_LAST_HI_SEC x1).si PPS_ERR_E e).slewStop) := fun h => State.slewStop_keeps (hw.mono rfl) (State.si_keeps (hp (by omega) (by omega) (by omega)) (State.s64_keeps (hp (by omega) (by omega) (by omega)) (hp (by omega) (by omega) (by omega)) (State.incWrap_keeps (hp (by omega) (by omega) (by omega)) h)))
  have h2 : ∀ {t : State}, State.Keeps w s0 t → State.Keeps w s0 (match x0.time.lastEdge with | some l => t.adjStep (((l : Int) + 2 ^ 32 - (x1 : Int)) * 256) | none => t) := by
    intro t h
    split
    · exact State.adjStep_keeps (hw.mono rfl) h
    · exact h
  refine State.Keeps.ite ?_ ?_
  · exact State.slewStart_keeps (hw.mono rfl) (State.ppsState_keeps (hw.mono rfl) (State.sf_keeps (hs (by omega) (by omega) (by omega)) (ht rfl (h2 (h1 (ht rfl hx0))))))
  · refine State.Keeps.ite ?_ ?_
    · exact State.ppsState_keeps (hw.mono rfl) (ht rfl (h2 (h1 (ht rfl hx0))))
    · exact State.raise_keeps (hw.mono rfl) (State.logTime_keeps (hw.mono rfl) (State.sf_keeps (hs (by omega) (by omega) (by omega)) (State.ppsState_keeps (hw.mono rfl) (ht rfl (h2 (h1 (ht rfl hx0))))))) (.inl (by omega))

theorem State.ppsSet_keeps {w : Nat} {s0 : State} {x0 : State} (hw : Has w 228365561364431783115153929236609181807187069920) (hx0 : State.Keeps w s0 x0) :
    State.Keeps w s0 (State.ppsSet x0) := by
  unfold State.ppsSet
  split
  · rename_i b1 e2
    assumption
  · rename_i b4 b5 e6
    extract_lets -merge -useContext +onlyGivenNames v8
    clear_value v8
    extract_lets -merge -useContext +onlyGivenNames y10
    clear_value y10
    extract_lets -merge -useContext +onlyGivenNames y12
    have h13 : State.Keeps w s0 y12 := by
      unfold y12
      refine State.Keeps.upd_time (s := x0) ?_ ?_ ?_
      · exact .inl (hw.bit rfl)
      · exact .inl (hw.bit rfl)
      · assumption
    clear_value y12
    refine State.setTimeDone_keeps (hw.mono rfl) ?_
    refine State.timeChange_keeps (hw.mono rfl) ?_
    refine State.slewStop_keeps (hw.mono rfl) ?_
    assumption

theorem State.pulse_keeps {w : Nat} {s0 : State} {x0 : State} {x1 : ℕ} {x2 : ℕ} {x3 : ℕ} (hw : Has w 536870912) (hx0 : State.Keeps w s0 x0) :
    State.Keeps w s0 (State.pulse x0 x1 x2 x3).2 := by
  unfold State.pulse
  refine State.Keeps.iteSnd ?_ ?_
  · assumption
  · refine State.Keeps.iteSnd ?_ ?_
    · assumption
    · refine State.drawBool_keeps (hw.mono rfl) ?_
      assumption

theorem State.setLatch_keeps {w : Nat} {s0 : State} {x0 : State} {x1 : Port} {x2 : ℕ} {x3 : ℕ} (hw : Has w 4) (hx0 : State.Keeps w s0 x0) :
    State.Keeps w s0 (State.setLatch x0 x1 x2 x3) := by
  unfold State.setLatch
  refine State.Keeps.upd_latch (s := x0) ?_ ?_
  · exact hw.bit rfl
  · assumption

theorem State.readReg_keeps {w : Nat} {s0 : State} {x0 : State} {x1 : Port} {x2 : ℕ} (hw : Has w 4) (hx0 : State.Keeps w s0 x0) :
    State.Keeps w s0 (State.readReg x0 x1 x2).2 := by
  unfold State.readReg
  extract_lets -merge -useContext +onlyGivenNames v1
  clear_value v1
  refine State.Keeps.iteSnd ?_ ?_
  · refine State.Keeps.pair ?_
    refine State.Keeps.upd_latch (s := x0) ?_ ?_
    · exact hw.bit rfl
    · assumption
  · refine State.Keeps.iteSnd ?_ ?_
    · refine State.Keeps.pair ?_
      refine State.setLatch_keeps (hw.mono rfl) ?_
      assumption
    · assumption

theorem State.readDw_keeps {w : Nat} {s0 : State} {x0 : State} {x1 : Port} {x2 : ℕ} (hw : Has w 4) (hx0 : State.Keeps w s0 x0) :
    State.Keeps w s0 (State.readDw x0 x1 x2).2 := by
  unfold State.readDw
  refine State.Keeps.iteSnd ?_ ?_
  · refine State.readReg_keeps (hw.mono rfl) ?_
    assumption
  · split
    · rename_i e4
      assumption
    · rename_i e6
      split
      · rename_i e8
        assumption
      · rename_i e10
        refine State.Keeps.iteSnd ?_ ?_
        · assumption
        · assumption

theorem State.setRetried_keeps {w : Nat} {s0 : State} {x0 : State} {x1 : Bool} {x2 : DmaReadOf} (hw : Has w 2147483776) (hx0 : State.Keeps w s0 x0) :
    State.Keeps w s0 (State.setRetried x0 x1 x2) := by
  unfold State.setRetried
  split
  · rename_i b1 b2
    refine State.setRing_keeps ?_ ?_ ?_ ?_
    · exact hw.bit rfl
    · exact .inr fun _ => rfl
    · exact .inr fun _ => rfl
    · assumption
  · rename_i b8 e9
    refine State.Keeps.upd_cmd (s := x0) ?_ ?_
    · exact hw.bit rfl
    · assumption

theorem State.statRingOn_keeps {w : Nat} {s0 : State} {x0 : State} {x1 : ℕ} {x2 : ℕ} (hw : Has w 1048576) (hx0 : State.Keeps w s0 x0) :
    State.Keeps w s0 (State.statRingOn x0 x1 x2) := by
  unfold State.statRingOn
  refine State.Keeps.ite ?_ ?_
  · assumption
  · extract_lets -merge -useContext +onlyGivenNames v3
    clear_value v3
    refine State.Keeps.upd_stat (s := x0) ?_ ?_
    · exact hw.bit rfl
    · assumption

theorem State.ringOn_keeps {w : Nat} {s0 : State} {x0 : State} {x1 : Fin 64} {x2 : Ring} (hw : Has w 348539531230754360870870571313529688687456) (hx0 : State.Keeps w s0 x0) :
    State.Keeps w s0 (State.ringOn x0 x1 x2) := by
  unfold State.ringOn
  extract_lets -merge -useContext +onlyGivenNames y1
  have h2 : State.Keeps w s0 y1 := by
    unfold y1
    refine State.setRing_keeps ?_ ?_ ?_ ?_
    · exact hw.bit rfl
    · exact .inl (hw.bit rfl)
    · exact .inl (hw.bit rfl)
    · assumption
  clear_value y1
  extract_lets -merge -useContext +onlyGivenNames y9
  have h10 : State.Keeps w s0 y9 := by
    unfold y9
    refine State.issue_keeps (hw.mono rfl) ?_
    assumption
  clear_value y9
  refine State.Keeps.ite ?_ ?_
  · assumption
  · extract_lets -merge -useContext +onlyGivenNames y16
    have h17 : State.Keeps w s0 y16 := by
      unfold y16
      refine State.place_keeps (hw.mono rfl) ?_
      assumption
    clear_value y16
    extract_lets -merge -useContext +onlyGivenNames y21
    have h22 : State.Keeps w s0 y21 := by
      unfold y21
      refine State.Keeps.ite ?_ ?_
      · refine State.statRingOn_keeps (hw.mono rfl) ?_
        assumption
      · assumption
    clear_value y21
    refine State.Keeps.ite ?_ ?_
    · split
      rename_i b29 b30 b31 e32
      have h33 : State.Keeps w s0 b31 := by
        refine State.Keeps.ofPair e32 ?_
        refine State.backupTamper_keeps (hw.mono rfl) ?_
        assumption
      extract_lets -merge -useContext +onlyGivenNames v37
      clear_value v37
      extract_lets -merge -useContext +onlyGivenNames y39
      have h40 : State.Keeps w s0 y39 := by
        unfold y39
        refine State.Keeps.upd_heldLog_formed (s := b31) ?_ ?_ ?_
        · exact hw.bit rfl
        · exact hw.bit rfl
        · assumption
      clear_value y39
      refine State.Keeps.foldl ?_ ?_
      · assumption
      · intro a48 a49 a50
        refine State.offerItem_keeps (hw.mono rfl) ?_
        assumption
    · refine State.Keeps.ite ?_ ?_
      · extract_lets -merge -useContext +onlyGivenNames v55
        clear_value v55
        refine State.Keeps.foldl ?_ ?_
        · refine State.Keeps.upd_heldSec (s := y21) ?_ ?_
          · exact hw.bit rfl
          · assumption
        · intro a61 a62 a63
          refine State.offer_keeps (hw.mono rfl) ?_
          assumption
      · refine State.Keeps.ite ?_ ?_
        · split
          rename_i b68 b69 b70 e71
          refine State.Keeps.foldl ?_ ?_
          · refine State.Keeps.upd_bilSaved (s := y21) ?_ ?_
            · exact hw.bit rfl
            · assumption
          · intro a77 a78 a79
            refine State.place_keeps (hw.mono rfl) ?_
            assumption
        · assumption

theorem State.ringDecide_keeps {w : Nat} {s0 : State} {x0 : State} {x1 : Fin 64} (hw : Has w 348539531230754360870870571313529688687456) (hx0 : State.Keeps w s0 x0) :
    State.Keeps w s0 (State.ringDecide x0 x1) := by
  unfold State.ringDecide
  split
  · rename_i b1 e2
    assumption
  · rename_i b4 b5 e6
    split
    · rename_i b8 b9 b10 e11
      refine State.ringOn_keeps (hw.mono rfl) ?_
      assumption
    · rename_i b14 b15 b16 e17
      refine State.setRing_keeps ?_ ?_ ?_ ?_
      · exact hw.bit rfl
      · exact .inr fun _ => rfl
      · exact .inl (hw.bit rfl)
      · assumption

theorem State.ringsDecide_keeps {w : Nat} {s0 : State} {x0 : State} (hw : Has w 348539531230754360870870571313529688687456) (hx0 : State.Keeps w s0 x0) :
    State.Keeps w s0 (State.ringsDecide x0) := by
  unfold State.ringsDecide
  extract_lets -merge -useContext +onlyGivenNames v1
  clear_value v1
  refine State.Keeps.ite ?_ ?_
  · extract_lets -merge -useContext +onlyGivenNames v4
    clear_value v4
    refine State.Keeps.foldl ?_ ?_
    · assumption
    · intro a8 a9 a10
      refine State.ringDecide_keeps (hw.mono rfl) ?_
      assumption
  · assumption

theorem State.readFailed_keeps {w : Nat} {s0 : State} {x0 : State} {x1 : DmaReadOf} {x2 : DmaFail} (hw : Has w 6620624118317492119427791335496637276488672) (hx0 : State.Keeps w s0 x0) :
    State.Keeps w s0 (State.readFailed x0 x1 x2) := by
  unfold State.readFailed
  extract_lets -merge -useContext +onlyGivenNames y1
  have h2 : State.Keeps w s0 y1 := by
    unfold y1
    refine State.sf_keeps ?_ ?_
    · cases x2 <;> exact hw.reg (by decide) (RegGroup.hostErr_at (by decide) (by decide)) rfl
    · assumption
  clear_value y1
  refine State.Keeps.ite ?_ ?_
  · refine State.setRetried_keeps (hw.mono rfl) ?_
    assumption
  · extract_lets -merge -useContext +onlyGivenNames y10
    have h11 : State.Keeps w s0 y10 := by
      unfold y10
      refine State.setRetried_keeps (hw.mono rfl) ?_
      assumption
    clear_value y10
    split
    · rename_i b15
      split
      · rename_i b17 b18 e19
        refine State.haltRing_keeps (hw.mono rfl) ?_
        assumption
      · rename_i b22 e23
        assumption
    · rename_i b25
      refine State.finish_keeps (hw.mono rfl) ?_
      assumption
    · rename_i b28 b29
      refine State.ringsDecide_keeps (hw.mono rfl) ?_
      refine State.setRing_keeps ?_ ?_ ?_ ?_
      · exact hw.bit rfl
      · exact .inr fun _ => rfl
      · exact .inr fun _ => rfl
      · assumption

theorem State.readRun_keeps {w : Nat} {s0 : State} {x0 : Port} {x1 : ℕ} {x2 : ℕ} {x3 : State} (hw : Has w 4) (hx3 : State.Keeps w s0 x3) :
    State.Keeps w s0 (State.readRun x0 x1 x2 x3).2 := by
  induction x1 generalizing x0 x2 x3
  · unfold State.readRun
    assumption
  · rename_i n ih
    unfold State.readRun
    extract_lets -merge -useContext +onlyGivenNames v2
    have h3 : State.Keeps w s0 v2.2 := by
      unfold v2
      refine State.readDw_keeps (hw.mono rfl) ?_
      assumption
    clear_value v2
    extract_lets -merge -useContext +onlyGivenNames v7
    have h8 : State.Keeps w s0 v7.2 := by
      unfold v7
      apply ih
      assumption
    clear_value v7
    assumption

theorem State.rebuildMismatch_keeps {w : Nat} {s0 : State} {x0 : State} {x1 : Switch} (hw : Has w 11692013098647223345629478661711822488779636607840) (hx0 : State.Keeps w s0 x0) :
    State.Keeps w s0 (State.rebuildMismatch x0 x1) := by
  unfold State.rebuildMismatch
  extract_lets -merge -useContext +onlyGivenNames v1
  clear_value v1
  extract_lets -merge -useContext +onlyGivenNames v3
  clear_value v3
  refine State.Keeps.ite ?_ ?_
  · refine State.caddyFail_keeps (hw.mono rfl) ?_
    assumption
  · extract_lets -merge -useContext +onlyGivenNames y8
    have h9 : State.Keeps w s0 y8 := by
      unfold y8
      refine State.fenceSlice_keeps (hw.mono rfl) ?_
      refine State.fenceSlice_keeps (hw.mono rfl) ?_
      assumption
    clear_value y8
    split
    · rename_i b14 b15 e16
      refine State.setSw_keeps (hw.mono rfl) ?_
      refine State.setRoles_keeps (hw.mono rfl) ?_
      assumption
    · rename_i b20 e21
      refine State.sliceLost_keeps (hw.mono rfl) ?_
      assumption

theorem State.storeLoad_keeps {w : Nat} {s0 : State} {x0 : State} (hw : Has w 11692013098647223345629478661711817413379956932609) (hx0 : State.Keeps w s0 x0) :
    State.Keeps w s0 (State.storeLoad x0).2 := by
  unfold State.storeLoad
  extract_lets -merge -useContext +onlyGivenNames y1
  have h2 : State.Keeps w s0 y1 := by
    unfold y1
    refine State.bilSample_keeps (hw.mono rfl) ?_
    refine State.bilSample_keeps (hw.mono rfl) ?_
    refine State.loadCal_keeps (hw.mono rfl) ?_
    refine State.loadConfig_keeps (hw.mono rfl) ?_
    assumption
  clear_value y1
  extract_lets -merge -useContext +onlyGivenNames v9
  clear_value v9
  extract_lets -merge -useContext +onlyGivenNames y11
  have h12 : State.Keeps w s0 y11 := by
    unfold y11
    refine State.setBilDone_keeps (hw.mono rfl) ?_ ?_
    · refine State.setBilDone_keeps (hw.mono rfl) ?_ ?_
      · assumption
      · exact .inl (by omega)
    · exact .inl (by omega)
  clear_value y11
  extract_lets -merge -useContext +onlyGivenNames y19
  have h20 : State.Keeps w s0 y19 := by
    unfold y19
    refine State.loadSnaps_keeps (hw.mono rfl) ?_
    refine State.loadSnaps_keeps (hw.mono rfl) ?_
    assumption
  clear_value y19
  refine State.ckptTake_keeps (hw.mono rfl) ?_
  assumption

theorem State.zeroDemand_keeps {w : Nat} {s0 : State} {x0 : State} (hw : Has w 39788577030144) (hx0 : State.Keeps w s0 x0) :
    State.Keeps w s0 (State.zeroDemand x0) := by
  unfold State.zeroDemand
  refine State.Keeps.ite ?_ ?_
  · refine State.storeKeyZero_keeps (hw.mono rfl) ?_
    refine State.Keeps.upd_sec_ket (s := x0) ?_ ?_ ?_ ?_ ?_ ?_ ?_ ?_ ?_ ?_ ?_ ?_ ?_
    · exact .inr rfl
    · exact .inr rfl
    · exact .inr rfl
    · exact .inl (hw.bit rfl)
    · exact .inr rfl
    · exact .inr rfl
    · exact id
    · exact fun _ => rfl
    · exact fun _ h h' => ⟨h, h'⟩
    · exact fun h => ⟨Nat.le_refl _, h⟩
    · exact .inl (hw.bit rfl)
    · exact .inr (Nat.le_refl _)
    · assumption
  · assumption

theorem State.strapSample_keeps {w : Nat} {s0 : State} {x0 : State} {x1 : Straps} (hw : Has w 37926505815546838122496) (hx0 : State.Keeps w s0 x0) :
    State.Keeps w s0 (State.strapSample x0 x1) := by
  unfold State.strapSample
  extract_lets -merge -useContext +onlyGivenNames v1
  clear_value v1
  refine State.sfs_keeps ?_ ?_
  · refine ⟨?_, ?_⟩
    · dsimp only
      exact hw.reg (by omega) (RegGroup.strap_at (by omega) (by omega)) rfl
    · refine ⟨?_, ?_⟩
      · dsimp only
        exact hw.reg (by omega) (RegGroup.strap_at (by omega) (by omega)) rfl
      · refine ⟨?_, ?_⟩
        · dsimp only
          exact hw.reg (by omega) (RegGroup.strap_at (by omega) (by omega)) rfl
        · refine ⟨?_, ?_⟩
          · dsimp only
            exact hw.reg (by omega) (RegGroup.strap_at (by omega) (by omega)) rfl
          · refine ⟨?_, ?_⟩
            · dsimp only
              exact hw.reg (by omega) (RegGroup.strap_at (by omega) (by omega)) rfl
            · refine ⟨?_, ?_⟩
              · dsimp only
                exact hw.reg (by omega) (RegGroup.strap_at (by omega) (by omega)) rfl
              · refine ⟨?_, ?_⟩
                · dsimp only
                  exact hw.reg (by omega) (RegGroup.clk_at (by omega) (by omega)) rfl
                · refine ⟨?_, ?_⟩
                  · dsimp only
                    exact hw.reg (by omega) (RegGroup.clk_at (by omega) (by omega)) rfl
                  · refine ⟨?_, ?_⟩
                    · dsimp only
                      exact hw.reg (by omega) (RegGroup.clk_at (by omega) (by omega)) rfl
                    · refine ⟨?_, ?_⟩
                      · dsimp only
                        exact hw.reg (by omega) (RegGroup.clk_at (by omega) (by omega)) rfl
                      · exact trivial
  · assumption

theorem State.releaseReset_keeps {w : Nat} {s0 : State} {x0 : State} {x1 : Straps} (hw : Has w 11692013098647223345629478661711817946148504207873) (hx0 : State.Keeps w s0 x0) :
    State.Keeps w s0 (State.releaseReset x0 x1) := by
  unfold State.releaseReset
  extract_lets -merge -useContext +onlyGivenNames y1
  extract_lets -merge -useContext +onlyGivenNames y3
  have h4 : State.Keeps w s0 y3 := by
    unfold y3
    refine State.Keeps.upd_rst (s := x0) ?_ ?_ ?_
    · exact hw.bit rfl
    · exact .inl (hw.bit rfl)
    · assumption
  clear_value y3
  extract_lets -merge -useContext +onlyGivenNames v10
  have h11 : State.Keeps w s0 v10.2 := by
    unfold v10
    refine State.storeLoad_keeps (hw.mono rfl) ?_
    refine State.zeroDemand_keeps (hw.mono rfl) ?_
    refine State.strapSample_keeps (hw.mono rfl) ?_
    assumption
  clear_value v10
  refine State.storeSeals_keeps (hw.mono rfl) ?_
  refine State.afterLoad_keeps (hw.mono rfl) ?_
  assumption

theorem State.resume_keeps {w : Nat} {s0 : State} {x0 : State} (hw : Has w 5923725830863410146254800139441178688881632) (hx0 : State.Keeps w s0 x0) :
    State.Keeps w s0 (State.resume x0) := by
  unfold State.resume
  extract_lets -merge -useContext +onlyGivenNames y1
  have h2 : State.Keeps w s0 y1 := by
    unfold y1
    refine State.Keeps.foldl ?_ ?_
    · assumption
    · intro a6 a7 a8
      refine State.Keeps.ite ?_ ?_
      · refine State.haltWb_keeps (hw.mono rfl) ?_
        assumption
      · refine State.pumpGaps_keeps (hw.mono rfl) ?_
        refine State.pumpRing_keeps (hw.mono rfl) ?_
        assumption
  clear_value y1
  refine State.tryCpl_keeps (hw.mono rfl) ?_
  refine State.msixFlush_keeps (hw.mono rfl) ?_
  assumption

theorem State.ringSend_keeps {w : Nat} {s0 : State} {x0 : State} {x1 : Fin 64} (hw : Has w 36507222528) (hx0 : State.Keeps w s0 x0) :
    State.Keeps w s0 (State.ringSend x0 x1) := by
  unfold State.ringSend
  extract_lets -merge -useContext +onlyGivenNames y1
  have h2 : State.Keeps w s0 y1 := by
    unfold y1
    refine State.setRing_keeps ?_ ?_ ?_ ?_
    · exact hw.bit rfl
    · exact .inr fun _ => rfl
    · exact .inr fun _ => rfl
    · assumption
  clear_value y1
  split
  · rename_i e9
    refine State.sendVec_keeps (hw.mono rfl) ?_
    assumption
  · rename_i e12
    assumption

theorem State.ringIrq_keeps {w : Nat} {s0 : State} {x0 : State} {x1 : Fin 64} (hw : Has w 36507222528) (hx0 : State.Keeps w s0 x0) :
    State.Keeps w s0 (State.ringIrq x0 x1) := by
  unfold State.ringIrq
  extract_lets -merge -useContext +onlyGivenNames v1
  clear_value v1
  refine State.Keeps.ite ?_ ?_
  · refine State.Keeps.ite ?_ ?_
    · refine State.ringSend_keeps (hw.mono rfl) ?_
      assumption
    · refine State.setRing_keeps ?_ ?_ ?_ ?_
      · exact hw.bit rfl
      · exact .inr fun _ => rfl
      · exact .inr fun _ => rfl
      · assumption
  · assumption

theorem State.sarFactors_keeps {w : Nat} {s0 : State} {x0 : State} {x1 : ℕ} {x2 : SarRes} {x3 : ℤ} (hw : Has w 9903520314283042199192993792) (hx0 : State.Keeps w s0 x0) (hx1 : x1 < 8 ∨ Has w allRegs) :
    State.Keeps w s0 (State.sarFactors x0 x1 x2 x3) := by
  unfold State.sarFactors
  refine State.si_keeps ?_ ?_
  · exact hx1.elim (fun _ => hw.reg (by omega) (RegGroup.tsarCal_at (by omega) (by omega)) rfl) .inr
  · refine State.sf_keeps ?_ ?_
    · exact hx1.elim (fun _ => hw.reg (by omega) (RegGroup.tsarCal_at (by omega) (by omega)) rfl) .inr
    · refine State.si_keeps ?_ ?_
      · exact hx1.elim (fun _ => hw.reg (by omega) (RegGroup.tsarCal_at (by omega) (by omega)) rfl) .inr
      · refine State.sf_keeps ?_ ?_
        · exact hx1.elim (fun _ => hw.reg (by omega) (RegGroup.tsarCal_at (by omega) (by omega)) rfl) .inr
        · refine State.si_keeps ?_ ?_
          · exact hx1.elim (fun _ => hw.reg (by omega) (RegGroup.tsarCal_at (by omega) (by omega)) rfl) .inr
          · refine State.sf_keeps ?_ ?_
            · exact hx1.elim (fun _ => hw.reg (by omega) (RegGroup.tsarCal_at (by omega) (by omega)) rfl) .inr
            · refine State.si_keeps ?_ ?_
              · exact hx1.elim (fun _ => hw.reg (by omega) (RegGroup.tsarCal_at (by omega) (by omega)) rfl) .inr
              · assumption

theorem State.sarPair_keeps {w : Nat} {s0 : State} {x0 : State} {x1 : ℕ} {x2 : SarRes} {x3 : ℤ} (hw : Has w 10367747829015059802280165376) (hx0 : State.Keeps w s0 x0) (hx1 : x1 < 8 ∨ Has w allRegs) :
    State.Keeps w s0 (State.sarPair x0 x1 x2 x3) := by
  unfold State.sarPair
  refine State.Keeps.ite ?_ ?_
  · refine State.smbit_keeps ?_ ?_
    · exact hw.reg (by omega) (RegGroup.tsarCtrl_at (by omega) (by omega)) rfl
    · refine State.smbit_keeps ?_ ?_
      · exact hw.reg (by omega) (RegGroup.sarCal_at (by omega) (by omega)) rfl
      · refine State.smbit_keeps ?_ ?_
        · exact hw.reg (by omega) (RegGroup.sarCal_at (by omega) (by omega)) rfl
        · refine State.sarFactors_keeps (hw.mono rfl) ?_ ?_
          · assumption
          · assumption
  · refine State.smbit_keeps ?_ ?_
    · exact hw.reg (by omega) (RegGroup.sarCal_at (by omega) (by omega)) rfl
    · assumption

theorem State.sarHouse_keeps {w : Nat} {s0 : State} {x0 : State} {x1 : HsarRes} (hw : Has w 84334665176316531227637055488) (hx0 : State.Keeps w s0 x0) :
    State.Keeps w s0 (State.sarHouse x0 x1) := by
  unfold State.sarHouse
  extract_lets -merge -useContext +onlyGivenNames y1
  have h2 : State.Keeps w s0 y1 := by
    unfold y1
    refine State.Keeps.ite ?_ ?_
    · refine State.sfs_keeps ?_ ?_
      · refine ⟨?_, ?_⟩
        · dsimp only
          exact hw.reg (by omega) (RegGroup.sarCal_at (by omega) (by omega)) rfl
        · refine ⟨?_, ?_⟩
          · dsimp only
            exact hw.reg (by omega) (RegGroup.sarCal_at (by omega) (by omega)) rfl
          · exact trivial
      · refine State.sf_keeps ?_ ?_
        · exact hw.reg (by omega) (RegGroup.hsar_at (by omega) (by omega)) rfl
        · refine State.si_keeps ?_ ?_
          · exact hw.reg (by omega) (RegGroup.hsar_at (by omega) (by omega)) rfl
          · assumption
    · refine State.sf_keeps ?_ ?_
      · exact hw.reg (by omega) (RegGroup.sarCal_at (by omega) (by omega)) rfl
      · assumption
  clear_value y1
  extract_lets -merge -useContext +onlyGivenNames y19
  have h20 : State.Keeps w s0 y19 := by
    unfold y19
    refine State.setSar_keeps (hw.mono rfl) ?_
    assumption
  clear_value y19
  refine State.Keeps.foldlMem ?_ ?_
  · assumption
  · intro a25 a26 a27 a28
    have a29 := List.mem_range.1 a27
    refine State.sf_keeps ?_ ?_
    · exact hw.reg (by omega) (RegGroup.hsarRes_at (by omega) (by omega)) rfl
    · assumption

theorem State.sarDone_keeps {w : Nat} {s0 : State} {x0 : State} {x1 : List SarRes} {x2 : HsarRes} {x3 : ℤ} (hw : Has w 10384688883710175320669625664929792) (hx0 : State.Keeps w s0 x0) :
    State.Keeps w s0 (State.sarDone x0 x1 x2 x3) := by
  unfold State.sarDone
  extract_lets -merge -useContext +onlyGivenNames v1
  clear_value v1
  extract_lets -merge -useContext +onlyGivenNames v3
  clear_value v3
  extract_lets -merge -useContext +onlyGivenNames y5
  have h6 : State.Keeps w s0 y5 := by
    unfold y5
    refine State.Keeps.foldlMem ?_ ?_
    · assumption
    · intro a9 a10 a11 a12
      have a13 := mem_bitsOf_lt a11
      split
      · rename_i b15 b16 e17
        refine State.sarPair_keeps (hw.mono rfl) ?_ ?_
        · assumption
        · exact .inl (by omega)
      · rename_i b21 e22
        refine State.smbit_keeps ?_ ?_
        · exact hw.reg (by omega) (RegGroup.sarCal_at (by omega) (by omega)) rfl
        · assumption
  clear_value y5
  extract_lets -merge -useContext +onlyGivenNames y27
  have h28 : State.Keeps w s0 y27 := by
    unfold y27
    refine State.Keeps.ite ?_ ?_
    · refine State.sarHouse_keeps (hw.mono rfl) ?_
      assumption
    · assumption
  clear_value y27
  extract_lets -merge -useContext +onlyGivenNames y34
  have h35 : State.Keeps w s0 y34 := by
    unfold y34
    refine State.setSar_keeps (hw.mono rfl) ?_
    assumption
  clear_value y34
  extract_lets -merge -useContext +onlyGivenNames y39
  have h40 : State.Keeps w s0 y39 := by
    unfold y39
    refine State.sfs_keeps ?_ ?_
    · refine ⟨?_, ?_⟩
      · dsimp only
        exact hw.reg (by omega) (RegGroup.sarCal_at (by omega) (by omega)) rfl
      · refine ⟨?_, ?_⟩
        · dsimp only
          exact hw.reg (by omega) (RegGroup.sarCal_at (by omega) (by omega)) rfl
        · exact trivial
    · assumption
  clear_value y39
  refine State.Keeps.ite ?_ ?_
  · refine State.setSar_keeps (hw.mono rfl) ?_
    assumption
  · refine State.Keeps.foldl ?_ ?_
    · assumption
    · intro a54 a55 a56
      refine State.Keeps.ite ?_ ?_
      · refine State.tsApply_keeps (hw.mono rfl) ?_
        assumption
      · assumption

theorem State.saveView_keeps {w : Nat} {s0 : State} {x0 : State} (hw : Has w 4718592) (hx0 : State.Keeps w s0 x0) :
    State.Keeps w s0 (State.saveView x0) := by
  unfold State.saveView
  refine State.Keeps.ite ?_ ?_
  · split
    · rename_i b2 b3 e4
      refine State.Keeps.upd_met_bil (s := x0) ?_ ?_ ?_
      · exact hw.bit rfl
      · exact hw.bit rfl
      · assumption
    · rename_i b9 e10
      assumption
  · assumption

theorem State.seeds_keeps {w : Nat} {s0 : State} {x0 : State} {x1 : ℕ} (hw : Has w 536870912) (hx0 : State.Keeps w s0 x0) :
    State.Keeps w s0 (State.seeds x0 x1).2 := by
  induction x1 generalizing x0
  · unfold State.seeds
    assumption
  · rename_i n ih
    unfold State.seeds
    split
    rename_i b2 b3 b4 e5
    have h6 : State.Keeps w s0 b4 := by
      refine State.Keeps.ofPair e5 ?_
      apply ih
      assumption
    split
    rename_i b10 b11 b12 e13
    have h14 : State.Keeps w s0 b12 := by
      refine State.Keeps.ofPair e13 ?_
      refine State.drawNat_keeps (hw.mono rfl) ?_
      assumption
    assumption

theorem State.seedLoops_keeps {w : Nat} {s0 : State} {x0 : State} (hw : Has w 35184908959744) (hx0 : State.Keeps w s0 x0) :
    State.Keeps w s0 (State.seedLoops x0) := by
  unfold State.seedLoops
  split
  rename_i b1 b2 b3 e4
  have h5 : State.Keeps w s0 b3 := by
    refine State.Keeps.ofPair e4 ?_
    refine State.seeds_keeps (hw.mono rfl) ?_
    assumption
  refine State.Keeps.upd_ket (s := b3) ?_ ?_ ?_
  · exact .inl (hw.bit rfl)
  · exact .inr (Nat.le_refl _)
  · assumption

theorem State.setServed_keeps {w : Nat} {s0 : State} {x0 : State} (hw : Has w 87112285931760246646623899502532662132736) (hx0 : State.Keeps w s0 x0) :
    State.Keeps w s0 (State.setServed x0) := by
  unfold State.setServed
  refine State.sb_keeps ?_ ?_
  · exact hw.reg (by omega) (RegGroup.linkStat_at (by omega) (by omega)) rfl
  · assumption

theorem State.setTimeMode_keeps {w : Nat} {s0 : State} {x0 : State} {x1 : ℕ} {x2 : List Byte} (hw : Has w 234074552135255627709989474027324785931716922336) (hx0 : State.Keeps w s0 x0) :
    State.Keeps w s0 (State.setTimeMode x0 x1 x2) := by
  unfold State.setTimeMode
  refine State.onCmd_keeps (hw.mono rfl) ?_ ?_
  · assumption
  · intro a3 a4 a5
    refine State.Keeps.ite ?_ ?_
    · refine State.doSetTime_keeps (hw.mono rfl) ?_
      assumption
    · assumption

theorem State.spiRead_keeps {w : Nat} {s0 : State} {x0 : ℕ} {x1 : ℕ} {x2 : State} (hw : Has w 4) (hx2 : State.Keeps w s0 x2) :
    State.Keeps w s0 (State.spiRead x0 x1 x2).2 := by
  induction x0 generalizing x1 x2
  · unfold State.spiRead
    assumption
  · rename_i n ih
    unfold State.spiRead
    extract_lets -merge -useContext +onlyGivenNames v2
    have h3 : State.Keeps w s0 v2.2 := by
      unfold v2
      refine State.Keeps.iteSnd ?_ ?_
      · refine State.readReg_keeps (hw.mono rfl) ?_
        assumption
      · assumption
    clear_value v2
    extract_lets -merge -useContext +onlyGivenNames v9
    have h10 : State.Keeps w s0 v9.2 := by
      unfold v9
      apply ih
      assumption
    clear_value v9
    assumption

theorem State.wrIntStat_keeps {w : Nat} {s0 : State} {x0 : State} {x1 : Word} (hw : Has w 295147905213712564736) (hx0 : State.Keeps w s0 x0) :
    State.Keeps w s0 (State.wrIntStat x0 x1) := by
  unfold State.wrIntStat
  refine State.intAfterWrite_keeps (hw.mono rfl) ?_
  refine State.Keeps.foldlMem ?_ ?_
  · assumption
  · intro a3 a4 a5 a6
    have a7 := List.mem_range.1 a5
    refine State.Keeps.ite ?_ ?_
    · refine State.sf_keeps ?_ ?_
      · unfold intBit
        exact hw.reg (by omega) (RegGroup.intStat_at (by omega) (by omega)) rfl
      · assumption
    · assumption

theorem State.wrIntEn_keeps {w : Nat} {s0 : State} {x0 : State} {x1 : Word} (hw : Has w 590295810393065390592) (hx0 : State.Keeps w s0 x0) :
    State.Keeps w s0 (State.wrIntEn x0 x1) := by
  unfold State.wrIntEn
  refine State.intAfterWrite_keeps (hw.mono rfl) ?_
  refine State.sf_keeps ?_ ?_
  · exact hw.reg (by omega) (RegGroup.intEn_at (by omega) (by omega)) rfl
  · assumption

theorem State.wrIntSet_keeps {w : Nat} {s0 : State} {x0 : State} {x1 : Word} (hw : Has w 295147905213712564736) (hx0 : State.Keeps w s0 x0) :
    State.Keeps w s0 (State.wrIntSet x0 x1) := by
  unfold State.wrIntSet
  refine State.intAfterWrite_keeps (hw.mono rfl) ?_
  refine State.Keeps.foldlMem ?_ ?_
  · assumption
  · intro a3 a4 a5 a6
    have a7 := List.mem_range.1 a5
    refine State.Keeps.ite ?_ ?_
    · refine State.sf_keeps ?_ ?_
      · unfold intBit
        exact hw.reg (by omega) (RegGroup.intStat_at (by omega) (by omega)) rfl
      · assumption
    · assumption

theorem State.wrAfeRef_keeps {w : Nat} {s0 : State} {x0 : State} {x1 : Port} {x2 : Word} (hw : Has w 348539531230754361248659889916906266690400) (hx0 : State.Keeps w s0 x0) :
    State.Keeps w s0 (State.wrAfeRef x0 x1 x2) := by
  unfold State.wrAfeRef
  extract_lets -merge -useContext +onlyGivenNames v1
  clear_value v1
  refine State.rws_keeps (hw.mono rfl) ?_ ?_ ?_
  · assumption
  · intro a5 a6
    refine State.Keeps.idS ?_
    assumption
  · intro a10 a11
    refine State.Keeps.iteSnd ?_ ?_
    · refine State.Keeps.pair ?_
      refine State.sf_keeps ?_ ?_
      · exact hw.reg (by omega) (RegGroup.afeErr_at (by omega) (by omega)) rfl
      · assumption
    · refine State.Keeps.pair ?_
      refine State.sfs_keeps ?_ ?_
      · refine ⟨?_, ?_⟩
        · dsimp only
          exact hw.reg (by omega) (RegGroup.afeRef_at (by omega) (by omega)) rfl
        · refine ⟨?_, ?_⟩
          · dsimp only
            exact hw.reg (by omega) (RegGroup.afeRef_at (by omega) (by omega)) rfl
          · exact trivial
      · assumption

theorem State.wrAfeCh_keeps {w : Nat} {s0 : State} {x0 : State} {x1 : Port} {x2 : ℕ} {x3 : Word} (hw : Has w 348539531230754361777564935998306530624352) (hx0 : State.Keeps w s0 x0) (hx2 : x2 < 16 ∨ Has w allRegs) :
    State.Keeps w s0 (State.wrAfeCh x0 x1 x2 x3) := by
  unfold State.wrAfeCh
  extract_lets -merge -useContext +onlyGivenNames v1
  clear_value v1
  extract_lets -merge -useContext +onlyGivenNames v3
  clear_value v3
  extract_lets -merge -useContext +onlyGivenNames v5
  clear_value v5
  extract_lets -merge -useContext +onlyGivenNames v7
  clear_value v7
  extract_lets -merge -useContext +onlyGivenNames v9
  clear_value v9
  refine State.Keeps.ite ?_ ?_
  · assumption
  · extract_lets -merge -useContext +onlyGivenNames v13
    clear_value v13
    extract_lets -merge -useContext +onlyGivenNames v15
    clear_value v15
    extract_lets -merge -useContext +onlyGivenNames v17
    clear_value v17
    extract_lets -merge -useContext +onlyGivenNames v19
    have h20 : ∀ t0, State.Keeps w s0 t0 → State.Keeps w s0 (v19 t0) := by
      intro a21 a22
      unfold v19
      refine State.Keeps.ite ?_ ?_
      · refine State.sf_keeps ?_ ?_
        · exact hw.reg (by omega) (RegGroup.afeErr_at (by omega) (by omega)) rfl
        · assumption
      · refine State.sf_keeps ?_ ?_
        · exact hx2.elim (fun _ => hw.reg (by omega) (RegGroup.afeCfg_at (by omega) (by omega)) rfl) .inr
        · assumption
    clear_value v19
    extract_lets -merge -useContext +onlyGivenNames v31
    clear_value v31
    extract_lets -merge -useContext +onlyGivenNames v33
    have h34 : ∀ t0, State.Keeps w s0 t0 → State.Keeps w s0 (v33 t0).2 := by
      intro a35 a36
      unfold v33
      extract_lets -merge -useContext +onlyGivenNames v38
      clear_value v38
      refine State.Keeps.iteSnd ?_ ?_
      · extract_lets -merge -useContext +onlyGivenNames y41
        have h42 : State.Keeps w s0 y41 := by
          unfold y41
          refine State.Keeps.ite ?_ ?_
          · refine State.sf_keeps ?_ ?_
            · exact hw.reg (by omega) (RegGroup.afeErr_at (by omega) (by omega)) rfl
            · assumption
          · assumption
        clear_value y41
        refine State.Keeps.pair ?_
        refine State.Keeps.ite ?_ ?_
        · refine State.sf_keeps ?_ ?_
          · exact hw.reg (by omega) (RegGroup.afeErr_at (by omega) (by omega)) rfl
          · assumption
        · assumption
      · refine State.Keeps.pair ?_
        refine State.sfs_keeps ?_ ?_
        · refine ⟨?_, ?_⟩
          · dsimp only
            exact hx2.elim (fun _ => hw.reg (by omega) (RegGroup.afeCfg_at (by omega) (by omega)) rfl) .inr
          · refine ⟨?_, ?_⟩
            · dsimp only
              exact hx2.elim (fun _ => hw.reg (by omega) (RegGroup.afeCfg_at (by omega) (by omega)) rfl) .inr
            · refine ⟨?_, ?_⟩
              · dsimp only
                exact hx2.elim (fun _ => hw.reg (by omega) (RegGroup.afeCfg_at (by omega) (by omega)) rfl) .inr
              · refine ⟨?_, ?_⟩
                · dsimp only
                  exact hx2.elim (fun _ => hw.reg (by omega) (RegGroup.afeCfg_at (by omega) (by omega)) rfl) .inr
                · exact trivial
        · assumption
    clear_value v33
    refine State.rws_keeps (hw.mono rfl) ?_ ?_ ?_
    · assumption
    · intro a69 a70
      apply_assumption
      assumption
    · intro a74 a75
      apply_assumption
      assumption

theorem State.wrChk_keeps {w : Nat} {s0 : State} {x0 : State} {x1 : Word} (hw : Has w 1511157274518286468513792) (hx0 : State.Keeps w s0 x0) :
    State.Keeps w s0 (State.wrChk x0 x1) := by
  unfold State.wrChk
  extract_lets -merge -useContext +onlyGivenNames v1
  clear_value v1
  extract_lets -merge -useContext +onlyGivenNames y3
  have h4 : State.Keeps w s0 y3 := by
    unfold y3
    refine State.sfs_keeps ?_ ?_
    · refine ⟨?_, ?_⟩
      · dsimp only
        exact hw.reg (by omega) (RegGroup.afeChk_at (by omega) (by omega)) rfl
      · refine ⟨?_, ?_⟩
        · dsimp only
          exact hw.reg (by omega) (RegGroup.afeChk_at (by omega) (by omega)) rfl
        · refine ⟨?_, ?_⟩
          · dsimp only
            exact hw.reg (by omega) (RegGroup.afeChk_at (by omega) (by omega)) rfl
          · exact trivial
    · assumption
  clear_value y3
  refine State.Keeps.ite ?_ ?_
  · assumption
  · refine State.Keeps.ite ?_ ?_
    · refine State.sf_keeps ?_ ?_
      · exact hw.reg (by omega) (RegGroup.afeErr_at (by omega) (by omega)) rfl
      · assumption
    · extract_lets -merge -useContext +onlyGivenNames v21
      clear_value v21
      extract_lets -merge -useContext +onlyGivenNames y23
      have h24 : State.Keeps w s0 y23 := by
        unfold y23
        refine State.chkClear_keeps (hw.mono rfl) ?_
        assumption
      clear_value y23
      extract_lets -merge -useContext +onlyGivenNames v28
      clear_value v28
      extract_lets -merge -useContext +onlyGivenNames y30
      have h31 : State.Keeps w s0 y30 := by
        unfold y30
        refine State.Keeps.ite ?_ ?_
        · assumption
        · refine State.sf_keeps ?_ ?_
          · exact hw.reg (by omega) (RegGroup.afeErr_at (by omega) (by omega)) rfl
          · assumption
      clear_value y30
      extract_lets -merge -useContext +onlyGivenNames v38
      clear_value v38
      refine State.sf_keeps ?_ ?_
      · exact hw.reg (by omega) (RegGroup.afeChk_at (by omega) (by omega)) rfl
      · refine State.Keeps.upd_chk (s := y30) ?_ ?_
        · exact hw.bit rfl
        · assumption

theorem State.wrRegs0_keeps {w : Nat} {s0 : State} {x0 : State} {x1 : Port} {x2 : ℕ} {x3 : Word} (hw : Has w 11692013098647223345629478661711817422229690516320) (hx0 : State.Keeps w s0 x0) :
    State.Keeps w s0 (State.wrRegs0 x0 x1 x2 x3) := by
  unfold State.wrRegs0
  refine State.Keeps.ite ?_ ?_
  · refine State.wrIntStat_keeps (hw.mono rfl) ?_
    assumption
  · refine State.Keeps.ite ?_ ?_
    · refine State.wrIntEn_keeps (hw.mono rfl) ?_
      assumption
    · refine State.Keeps.ite ?_ ?_
      · refine State.wrIntSet_keeps (hw.mono rfl) ?_
        assumption
      · refine State.Keeps.ite ?_ ?_
        · refine State.wrAfeRef_keeps (hw.mono rfl) ?_
          assumption
        · refine State.Keeps.ite ?_ ?_
          · refine State.wrAfeCh_keeps (hw.mono rfl) ?_ ?_
            · assumption
            · exact .inr (hw.mono rfl)
          · refine State.Keeps.ite ?_ ?_
            · refine State.wrChk_keeps (hw.mono rfl) ?_
              assumption
            · refine State.wrPlain_keeps (hw.mono rfl) ?_
              assumption

theorem State.wrProf_keeps {w : Nat} {s0 : State} {x0 : State} {x1 : Port} {x2 : ℕ} {x3 : Word} (hw : Has w 348539531230754372960128767433626396656480) (hx0 : State.Keeps w s0 x0) (hx2 : x2 < 16 ∨ Has w allRegs) :
    State.Keeps w s0 (State.wrProf x0 x1 x2 x3) := by
  unfold State.wrProf
  extract_lets -merge -useContext +onlyGivenNames v1
  clear_value v1
  refine State.Keeps.ite ?_ ?_
  · assumption
  · refine State.rws_keeps (hw.mono rfl) ?_ ?_ ?_
    · assumption
    · intro a7 a8
      refine State.Keeps.idS ?_
      assumption
    · intro a12 a13
      extract_lets -merge -useContext +onlyGivenNames v15
      clear_value v15
      extract_lets -merge -useContext +onlyGivenNames v17
      clear_value v17
      refine State.Keeps.iteSnd ?_ ?_
      · extract_lets -merge -useContext +onlyGivenNames y20
        have h21 : State.Keeps w s0 y20 := by
          unfold y20
          refine State.Keeps.ite ?_ ?_
          · refine State.sf_keeps ?_ ?_
            · exact hw.reg (by omega) (RegGroup.profErr_at (by omega) (by omega)) rfl
            · assumption
          · assumption
        clear_value y20
        refine State.Keeps.pair ?_
        refine State.Keeps.ite ?_ ?_
        · refine State.sf_keeps ?_ ?_
          · exact hw.reg (by omega) (RegGroup.profErr_at (by omega) (by omega)) rfl
          · assumption
        · assumption
      · refine State.Keeps.pair ?_
        refine State.sf_keeps ?_ ?_
        · exact hx2.elim (fun _ => hw.reg (by omega) (RegGroup.profCfg_at (by omega) (by omega)) rfl) .inr
        · assumption

theorem State.wrThr_keeps {w : Nat} {s0 : State} {x0 : State} {x1 : Fin 16} {x2 : ℕ} {x3 : Word} (hw : Has w 348540860458750165129556593423265259848544) (hx0 : State.Keeps w s0 x0) :
    State.Keeps w s0 (State.wrThr x0 x1 x2 x3) := by
  unfold State.wrThr
  extract_lets -merge -useContext +onlyGivenNames v1
  clear_value v1
  extract_lets -merge -useContext +onlyGivenNames y3
  have h4 : State.Keeps w s0 y3 := by
    unfold y3
    refine State.thrSettleTo_keeps (hw.mono rfl) ?_
    assumption
  clear_value y3
  refine State.Keeps.ite ?_ ?_
  · assumption
  · refine State.Keeps.ite ?_ ?_
    · refine State.sf_keeps ?_ ?_
      · exact hw.reg (by omega) (RegGroup.thr_at (by omega) (by omega)) rfl
      · assumption
    · refine State.Keeps.ite ?_ ?_
      · refine State.sf_keeps ?_ ?_
        · exact hw.reg (by omega) (RegGroup.thr_at (by omega) (by omega)) rfl
        · assumption
      · extract_lets -merge -useContext +onlyGivenNames v18
        clear_value v18
        extract_lets -merge -useContext +onlyGivenNames y20
        have h21 : State.Keeps w s0 y20 := by
          unfold y20
          refine State.Keeps.ite ?_ ?_
          · refine State.thrForce_keeps (hw.mono rfl) ?_
            assumption
          · assumption
        clear_value y20
        extract_lets -merge -useContext +onlyGivenNames y27
        have h28 : State.Keeps w s0 y27 := by
          unfold y27
          refine State.Keeps.ite ?_ ?_
          · refine State.thrForce_keeps (hw.mono rfl) ?_
            assumption
          · assumption
        clear_value y27
        extract_lets -merge -useContext +onlyGivenNames y34
        have h35 : State.Keeps w s0 y34 := by
          unfold y34
          refine State.Keeps.ite ?_ ?_
          · refine State.setThr_keeps (hw.mono rfl) ?_
            assumption
          · assumption
        clear_value y34
        extract_lets -merge -useContext +onlyGivenNames y41
        have h42 : State.Keeps w s0 y41 := by
          unfold y41
          refine State.Keeps.ite ?_ ?_
          · refine State.setThr_keeps (hw.mono rfl) ?_
            assumption
          · assumption
        clear_value y41
        refine State.sfs_keeps ?_ ?_
        · refine ⟨?_, ?_⟩
          · dsimp only
            exact hw.reg (by omega) (RegGroup.thr_at (by omega) (by omega)) rfl
          · refine ⟨?_, ?_⟩
            · dsimp only
              exact hw.reg (by omega) (RegGroup.thr_at (by omega) (by omega)) rfl
            · refine ⟨?_, ?_⟩
              · dsimp only
                exact hw.reg (by omega) (RegGroup.thr_at (by omega) (by omega)) rfl
              · refine ⟨?_, ?_⟩
                · dsimp only
                  exact hw.reg (by omega) (RegGroup.thr_at (by omega) (by omega)) rfl
                · refine ⟨?_, ?_⟩
                  · dsimp only
                    exact hw.reg (by omega) (RegGroup.thr_at (by omega) (by omega)) rfl
                  · exact trivial
        · assumption

theorem State.wrSarCal_keeps {w : Nat} {s0 : State} {x0 : State} {x1 : Word} (hw : Has w 154742504910672534496608256) (hx0 : State.Keeps w s0 x0) :
    State.Keeps w s0 (State.wrSarCal x0 x1) := by
  unfold State.wrSarCal
  extract_lets -merge -useContext +onlyGivenNames v1
  clear_value v1
  extract_lets -merge -useContext +onlyGivenNames y3
  have h4 : State.Keeps w s0 y3 := by
    unfold y3
    refine State.sfs_keeps ?_ ?_
    · refine ⟨?_, ?_⟩
      · dsimp only
        exact hw.reg (by omega) (RegGroup.sarCal_at (by omega) (by omega)) rfl
      · refine ⟨?_, ?_⟩
        · dsimp only
          exact hw.reg (by omega) (RegGroup.sarCal_at (by omega) (by omega)) rfl
        · refine ⟨?_, ?_⟩
          · dsimp only
            exact hw.reg (by omega) (RegGroup.sarCal_at (by omega) (by omega)) rfl
          · exact trivial
    · assumption
  clear_value y3
  refine State.Keeps.ite ?_ ?_
  · assumption
  · refine State.Keeps.ite ?_ ?_
    · refine State.sf_keeps ?_ ?_
      · exact hw.reg (by omega) (RegGroup.sarCal_at (by omega) (by omega)) rfl
      · assumption
    · extract_lets -merge -useContext +onlyGivenNames v21
      clear_value v21
      extract_lets -merge -useContext +onlyGivenNames v23
      clear_value v23
      extract_lets -merge -useContext +onlyGivenNames y25
      have h26 : State.Keeps w s0 y25 := by
        unfold y25
        refine State.Keeps.ite ?_ ?_
        · assumption
        · refine State.sf_keeps ?_ ?_
          · exact hw.reg (by omega) (RegGroup.sarCal_at (by omega) (by omega)) rfl
          · assumption
      clear_value y25
      extract_lets -merge -useContext +onlyGivenNames v33
      clear_value v33
      extract_lets -merge -useContext +onlyGivenNames v35
      clear_value v35
      extract_lets -merge -useContext +onlyGivenNames y37
      have h38 : State.Keeps w s0 y37 := by
        unfold y37
        refine State.setSar_keeps (hw.mono rfl) ?_
        assumption
      clear_value y37
      refine State.sf_keeps ?_ ?_
      · exact hw.reg (by omega) (RegGroup.sarCal_at (by omega) (by omega)) rfl
      · assumption

theorem State.tsDisable_keeps {w : Nat} {s0 : State} {x0 : State} {x1 : ℕ} (hw : Has w 309485009821345068861095936) (hx0 : State.Keeps w s0 x0) :
    State.Keeps w s0 (State.tsDisable x0 x1) := by
  unfold State.tsDisable
  refine State.Keeps.foldl ?_ ?_
  · assumption
  · intro a3 a4 a5
    refine State.Keeps.ite ?_ ?_
    · assumption
    · extract_lets -merge -useContext +onlyGivenNames y9
      have h10 : State.Keeps w s0 y9 := by
        unfold y9
        refine State.setSar_keeps (hw.mono rfl) ?_
        refine State.smbit_keeps ?_ ?_
        · exact hw.reg (by omega) (RegGroup.tsarCtrl_at (by omega) (by omega)) rfl
        · assumption
      clear_value y9
      refine State.Keeps.ite ?_ ?_
      · refine State.setTs_keeps (hw.mono rfl) ?_
        assumption
      · refine State.supOff_keeps (hw.mono rfl) ?_
        assumption

theorem State.wrTsarCtrl_keeps {w : Nat} {s0 : State} {x0 : State} {x1 : Word} (hw : Has w 10384594645524684721096198969098240) (hx0 : State.Keeps w s0 x0) :
    State.Keeps w s0 (State.wrTsarCtrl x0 x1) := by
  unfold State.wrTsarCtrl
  extract_lets -merge -useContext +onlyGivenNames v1
  clear_value v1
  extract_lets -merge -useContext +onlyGivenNames v3
  clear_value v3
  refine State.tsEnable_keeps (hw.mono rfl) ?_
  refine State.tsDisable_keeps (hw.mono rfl) ?_
  assumption

theorem State.wrTsarMap_keeps {w : Nat} {s0 : State} {x0 : State} {x1 : Word} (hw : Has w 1856910058928070412348686336) (hx0 : State.Keeps w s0 x0) :
    State.Keeps w s0 (State.wrTsarMap x0 x1) := by
  unfold State.wrTsarMap
  refine State.Keeps.foldl ?_ ?_
  · assumption
  · intro a3 a4 a5
    extract_lets -merge -useContext +onlyGivenNames v7
    clear_value v7
    refine State.Keeps.ite ?_ ?_
    · assumption
    · extract_lets -merge -useContext +onlyGivenNames v11
      clear_value v11
      extract_lets -merge -useContext +onlyGivenNames v13
      clear_value v13
      extract_lets -merge -useContext +onlyGivenNames y15
      have h16 : State.Keeps w s0 y15 := by
        unfold y15
        refine State.Keeps.ite ?_ ?_
        · refine State.smbit_keeps ?_ ?_
          · exact hw.reg (by omega) (RegGroup.tsarErr_at (by omega) (by omega)) rfl
          · assumption
        · assumption
      clear_value y15
      extract_lets -merge -useContext +onlyGivenNames y23
      have h24 : State.Keeps w s0 y23 := by
        unfold y23
        refine State.Keeps.ite ?_ ?_
        · refine State.sf_keeps ?_ ?_
          · exact hw.reg (by omega) (RegGroup.tsarErr_at (by omega) (by omega)) rfl
          · assumption
        · assumption
      clear_value y23
      refine State.Keeps.ite ?_ ?_
      · assumption
      · refine State.sf_keeps ?_ ?_
        · exact hw.reg (by omega) (RegGroup.tsarMap_at (by omega) (by omega)) rfl
        · assumption

theorem State.wrFast_keeps {w : Nat} {s0 : State} {x0 : State} {x1 : FastReg} {x2 : Word} (hw : Has w 22282920707136844948184236032) (hx0 : State.Keeps w s0 x0) :
    State.Keeps w s0 (State.wrFast x0 x1 x2) := by
  unfold State.wrFast
  extract_lets -merge -useContext +onlyGivenNames v1
  clear_value v1
  split
  · rename_i b3 b4
    refine State.Keeps.ite ?_ ?_
    · assumption
    · refine State.sfs_keeps ?_ ?_
      · refine ⟨?_, ?_⟩
        · dsimp only
          exact hw.reg (by omega) (RegGroup.fast_at (by omega) (by omega)) rfl
        · refine ⟨?_, ?_⟩
          · dsimp only
            exact hw.reg (by omega) (RegGroup.fast_at (by omega) (by omega)) rfl
          · exact trivial
      · assumption
  · rename_i b14 b15
    refine State.Keeps.ite ?_ ?_
    · assumption
    · extract_lets -merge -useContext +onlyGivenNames y19
      have h20 : State.Keeps w s0 y19 := by
        unfold y19
        refine State.sfs_keeps ?_ ?_
        · refine ⟨?_, ?_⟩
          · dsimp only
            exact hw.reg (by omega) (RegGroup.fast_at (by omega) (by omega)) rfl
          · refine ⟨?_, ?_⟩
            · dsimp only
              exact hw.reg (by omega) (RegGroup.fast_at (by omega) (by omega)) rfl
            · refine ⟨?_, ?_⟩
              · dsimp only
                exact hw.reg (by omega) (RegGroup.fast_at (by omega) (by omega)) rfl
              · exact trivial
        · assumption
      clear_value y19
      extract_lets -merge -useContext +onlyGivenNames y31
      have h32 : State.Keeps w s0 y31 := by
        unfold y31
        refine State.Keeps.ite ?_ ?_
        · assumption
        · refine State.sf_keeps ?_ ?_
          · exact hw.reg (by omega) (RegGroup.fast_at (by omega) (by omega)) rfl
          · assumption
      clear_value y31
      extract_lets -merge -useContext +onlyGivenNames y39
      have h40 : State.Keeps w s0 y39 := by
        unfold y39
        refine State.Keeps.ite ?_ ?_
        · assumption
        · refine State.sf_keeps ?_ ?_
          · exact hw.reg (by omega) (RegGroup.fast_at (by omega) (by omega)) rfl
          · assumption
      clear_value y39
      refine State.fastPins_keeps (hw.mono rfl) ?_
      assumption
  · rename_i b48
    extract_lets -merge -useContext +onlyGivenNames v50
    clear_value v50
    refine State.fastPins_keeps (hw.mono rfl) ?_
    refine State.sfs_keeps ?_ ?_
    · refine ⟨?_, ?_⟩
      · dsimp only
        exact hw.reg (by omega) (RegGroup.fastPin_at (by omega) (by omega)) rfl
      · refine ⟨?_, ?_⟩
        · dsimp only
          exact hw.reg (by omega) (RegGroup.fastPin_at (by omega) (by omega)) rfl
        · exact trivial
    · assumption
  · rename_i b59
    refine State.fastPins_keeps (hw.mono rfl) ?_
    refine State.sfs_keeps ?_ ?_
    · refine ⟨?_, ?_⟩
      · dsimp only
        exact hw.reg (by omega) (RegGroup.fastPin_at (by omega) (by omega)) rfl
      · refine ⟨?_, ?_⟩
        · dsimp only
          exact hw.reg (by omega) (RegGroup.fastPin_at (by omega) (by omega)) rfl
        · exact trivial
    · assumption

theorem State.wrHsarCtrl_keeps {w : Nat} {s0 : State} {x0 : State} {x1 : Word} (hw : Has w 84179922671405858693274664960) (hx0 : State.Keeps w s0 x0) :
    State.Keeps w s0 (State.wrHsarCtrl x0 x1) := by
  unfold State.wrHsarCtrl
  extract_lets -merge -useContext +onlyGivenNames v1
  clear_value v1
  refine State.Keeps.ite ?_ ?_
  · assumption
  · refine State.Keeps.foldl ?_ ?_
    · refine State.setSar_keeps (hw.mono rfl) ?_
      refine State.sf_keeps ?_ ?_
      · exact hw.reg (by omega) (RegGroup.hsar_at (by omega) (by omega)) rfl
      · assumption
    · intro a10 a11 a12
      refine State.hsarRestart_keeps (hw.mono rfl) ?_
      assumption

theorem State.wrHsarUrg_keeps {w : Nat} {s0 : State} {x0 : State} {x1 : Word} (hw : Has w 4951760157141521099730714624) (hx0 : State.Keeps w s0 x0) :
    State.Keeps w s0 (State.wrHsarUrg x0 x1) := by
  unfold State.wrHsarUrg
  extract_lets -merge -useContext +onlyGivenNames v1
  clear_value v1
  extract_lets -merge -useContext +onlyGivenNames y3
  have h4 : State.Keeps w s0 y3 := by
    unfold y3
    refine State.Keeps.ite ?_ ?_
    · refine State.sf_keeps ?_ ?_
      · exact hw.reg (by omega) (RegGroup.hsar_at (by omega) (by omega)) rfl
      · assumption
    · assumption
  clear_value y3
  extract_lets -merge -useContext +onlyGivenNames y11
  have h12 : State.Keeps w s0 y11 := by
    unfold y11
    refine State.Keeps.ite ?_ ?_
    · refine State.sf_keeps ?_ ?_
      · exact hw.reg (by omega) (RegGroup.hsar_at (by omega) (by omega)) rfl
      · assumption
    · assumption
  clear_value y11
  extract_lets -merge -useContext +onlyGivenNames y19
  have h20 : State.Keeps w s0 y19 := by
    unfold y19
    refine State.Keeps.ite ?_ ?_
    · refine State.sf_keeps ?_ ?_
      · exact hw.reg (by omega) (RegGroup.hsar_at (by omega) (by omega)) rfl
      · assumption
    · assumption
  clear_value y19
  extract_lets -merge -useContext +onlyGivenNames y27
  have h28 : State.Keeps w s0 y27 := by
    unfold y27
    refine State.Keeps.ite ?_ ?_
    · refine State.sf_keeps ?_ ?_
      · exact hw.reg (by omega) (RegGroup.hsar_at (by omega) (by omega)) rfl
      · assumption
    · assumption
  clear_value y27
  refine State.Keeps.ite ?_ ?_
  · assumption
  · refine State.Keeps.ite ?_ ?_
    · refine State.sf_keeps ?_ ?_
      · exact hw.reg (by omega) (RegGroup.hsar_at (by omega) (by omega)) rfl
      · assumption
    · refine State.hsarUrgent_keeps (hw.mono rfl) ?_
      refine State.setSar_keeps (hw.mono rfl) ?_
      refine State.sf_keeps ?_ ?_
      · exact hw.reg (by omega) (RegGroup.hsar_at (by omega) (by omega)) rfl
      · assumption

theorem State.wrHsarSeq_keeps {w : Nat} {s0 : State} {x0 : State} {x1 : Fin 32} {x2 : Word} (hw : Has w 118842243771396506390450143232) (hx0 : State.Keeps w s0 x0) :
    State.Keeps w s0 (State.wrHsarSeq x0 x1 x2) := by
  unfold State.wrHsarSeq
  extract_lets -merge -useContext +onlyGivenNames v1
  clear_value v1
  refine State.Keeps.ite ?_ ?_
  · assumption
  · extract_lets -merge -useContext +onlyGivenNames v5
    clear_value v5
    extract_lets -merge -useContext +onlyGivenNames v7
    clear_value v7
    extract_lets -merge -useContext +onlyGivenNames v9
    clear_value v9
    extract_lets -merge -useContext +onlyGivenNames y11
    have h12 : State.Keeps w s0 y11 := by
      unfold y11
      refine State.sfs_keeps ?_ ?_
      · refine ⟨?_, ?_⟩
        · dsimp only
          exact hw.reg (by omega) (RegGroup.hsarSeq_at (by omega) (by omega)) rfl
        · refine ⟨?_, ?_⟩
          · dsimp only
            exact hw.reg (by omega) (RegGroup.hsarSeq_at (by omega) (by omega)) rfl
          · refine ⟨?_, ?_⟩
            · dsimp only
              exact hw.reg (by omega) (RegGroup.hsarSeq_at (by omega) (by omega)) rfl
            · exact trivial
      · assumption
    clear_value y11
    refine State.Keeps.ite ?_ ?_
    · refine State.hsarRestart_keeps (hw.mono rfl) ?_
      assumption
    · assumption

theorem State.wrTimeCtrl_keeps {w : Nat} {s0 : State} {x0 : State} {x1 : Port} {x2 : Word} (hw : Has w 348539531231229729845956158016583489291104) (hx0 : State.Keeps w s0 x0) :
    State.Keeps w s0 (State.wrTimeCtrl x0 x1 x2) := by
  unfold State.wrTimeCtrl
  extract_lets -merge -useContext +onlyGivenNames v1
  clear_value v1
  extract_lets -merge -useContext +onlyGivenNames v3
  clear_value v3
  refine State.rws_keeps (hw.mono rfl) ?_ ?_ ?_
  · assumption
  · intro a7 a8
    refine State.Keeps.idS ?_
    assumption
  · intro a12 a13
    extract_lets -merge -useContext +onlyGivenNames v15
    clear_value v15
    extract_lets -merge -useContext +onlyGivenNames y17
    have h18 : State.Keeps w s0 y17 := by
      unfold y17
      refine State.sfs_keeps ?_ ?_
      · refine ⟨?_, ?_⟩
        · dsimp only
          exact hw.reg (by omega) (RegGroup.timeCtrl_at (by omega) (by omega)) rfl
        · refine ⟨?_, ?_⟩
          · dsimp only
            exact hw.reg (by omega) (RegGroup.timeCtrl_at (by omega) (by omega)) rfl
          · exact trivial
      · assumption
    clear_value y17
    refine State.Keeps.iteSnd ?_ ?_
    · refine State.Keeps.pair ?_
      refine State.Keeps.upd_time (s := y17) ?_ ?_ ?_
      · exact .inl (hw.bit rfl)
      · exact .inr rfl
      · assumption
    · refine State.Keeps.iteSnd ?_ ?_
      · refine State.Keeps.pair ?_
        refine State.ppsState_keeps (hw.mono rfl) ?_
        refine State.slewStop_keeps (hw.mono rfl) ?_
        assumption
      · assumption

theorem State.wrPpsOffset_keeps {w : Nat} {s0 : State} {x0 : State} {x1 : Port} {x2 : Word} (hw : Has w 348539531232022011471098800688831352800096) (hx0 : State.Keeps w s0 x0) :
    State.Keeps w s0 (State.wrPpsOffset x0 x1 x2) := by
  unfold State.wrPpsOffset
  extract_lets -merge -useContext +onlyGivenNames v1
  clear_value v1
  refine State.rws_keeps (hw.mono rfl) ?_ ?_ ?_
  · assumption
  · intro a5 a6
    refine State.Keeps.idS ?_
    assumption
  · intro a10 a11
    refine State.Keeps.pair ?_
    refine State.si_keeps ?_ ?_
    · exact hw.reg (by omega) (RegGroup.ppsOfs_at (by omega) (by omega)) rfl
    · assumption

theorem State.wrFreqCfg_keeps {w : Nat} {s0 : State} {x0 : State} {x1 : Port} {x2 : Fin 2} {x3 : Word} (hw : Has w 348539531251036770474522241711281900880736) (hx0 : State.Keeps w s0 x0) :
    State.Keeps w s0 (State.wrFreqCfg x0 x1 x2 x3) := by
  unfold State.wrFreqCfg
  extract_lets -merge -useContext +onlyGivenNames v1
  clear_value v1
  extract_lets -merge -useContext +onlyGivenNames v3
  clear_value v3
  extract_lets -merge -useContext +onlyGivenNames v5
  clear_value v5
  refine State.Keeps.ite ?_ ?_
  · assumption
  · refine State.rws_keeps (hw.mono rfl) ?_ ?_ ?_
    · assumption
    · intro a11 a12
      refine State.Keeps.idS ?_
      assumption
    · intro a16 a17
      refine State.Keeps.pair ?_
      refine State.sfs_keeps ?_ ?_
      · refine ⟨?_, ?_⟩
        · dsimp only
          exact hw.reg (by omega) (RegGroup.freq_at (by omega) (by omega)) rfl
        · refine ⟨?_, ?_⟩
          · dsimp only
            exact hw.reg (by omega) (RegGroup.freq_at (by omega) (by omega)) rfl
          · refine ⟨?_, ?_⟩
            · dsimp only
              exact hw.reg (by omega) (RegGroup.freq_at (by omega) (by omega)) rfl
            · exact trivial
      · assumption

theorem State.wrRegs1_keeps {w : Nat} {s0 : State} {x0 : State} {x1 : Port} {x2 : ℕ} {x3 : Word} (hw : Has w 11692013098647223345629478661711822629516896109408) (hx0 : State.Keeps w s0 x0) :
    State.Keeps w s0 (State.wrRegs1 x0 x1 x2 x3) := by
  unfold State.wrRegs1
  refine State.Keeps.ite ?_ ?_
  · refine State.wrProf_keeps (hw.mono rfl) ?_ ?_
    · assumption
    · exact .inr (hw.mono rfl)
  · refine State.Keeps.ite ?_ ?_
    · refine State.wrThr_keeps (hw.mono rfl) ?_
      assumption
    · refine State.Keeps.ite ?_ ?_
      · refine State.wrSarCal_keeps (hw.mono rfl) ?_
        assumption
      · refine State.Keeps.ite ?_ ?_
        · refine State.wrTsarCtrl_keeps (hw.mono rfl) ?_
          assumption
        · refine State.Keeps.ite ?_ ?_
          · refine State.wrTsarMap_keeps (hw.mono rfl) ?_
            assumption
          · refine State.Keeps.ite ?_ ?_
            · refine State.wrFast_keeps (hw.mono rfl) ?_
              assumption
            · refine State.Keeps.ite ?_ ?_
              · refine State.wrFast_keeps (hw.mono rfl) ?_
                assumption
              · refine State.Keeps.ite ?_ ?_
                · refine State.wrHsarCtrl_keeps (hw.mono rfl) ?_
                  assumption
                · refine State.Keeps.ite ?_ ?_
                  · refine State.wrHsarUrg_keeps (hw.mono rfl) ?_
                    assumption
                  · refine State.Keeps.ite ?_ ?_
                    · refine State.wrFast_keeps (hw.mono rfl) ?_
                      assumption
                    · refine State.Keeps.ite ?_ ?_
                      · refine State.wrHsarSeq_keeps (hw.mono rfl) ?_
                        assumption
                      · refine State.Keeps.ite ?_ ?_
                        · refine State.wrTimeCtrl_keeps (hw.mono rfl) ?_
                          assumption
                        · refine State.Keeps.ite ?_ ?_
                          · refine State.wrPpsOffset_keeps (hw.mono rfl) ?_
                            assumption
                          · refine State.Keeps.ite ?_ ?_
                            · refine State.wrFreqCfg_keeps (hw.mono rfl) ?_
                              assumption
                            · refine State.Keeps.ite ?_ ?_
                              · refine State.wrFreqCfg_keeps (hw.mono rfl) ?_
                                assumption
                              · refine State.wrPlain_keeps (hw.mono rfl) ?_
                                assumption

theorem State.wrSpecCfg_keeps {w : Nat} {s0 : State} {x0 : State} {x1 : Port} {x2 : Fin 2} {x3 : Word} (hw : Has w 348539544211496507207939642613575472644960) (hx0 : State.Keeps w s0 x0) :
    State.Keeps w s0 (State.wrSpecCfg x0 x1 x2 x3) := by
  unfold State.wrSpecCfg
  extract_lets -merge -useContext +onlyGivenNames v1
  clear_value v1
  extract_lets -merge -useContext +onlyGivenNames v3
  clear_value v3
  refine State.Keeps.ite ?_ ?_
  · assumption
  · refine State.rws_keeps (hw.mono rfl) ?_ ?_ ?_
    · assumption
    · intro a9 a10
      refine State.Keeps.idS ?_
      assumption
    · intro a14 a15
      refine State.Keeps.iteSnd ?_ ?_
      · refine State.Keeps.pair ?_
        refine State.sf_keeps ?_ ?_
        · exact hw.reg (by omega) (RegGroup.specErr_at (by omega) (by omega)) rfl
        · assumption
      · refine State.Keeps.pair ?_
        refine State.sfs_keeps ?_ ?_
        · refine ⟨?_, ?_⟩
          · dsimp only
            exact hw.reg (by omega) (RegGroup.specCfg_at (by omega) (by omega)) rfl
          · refine ⟨?_, ?_⟩
            · dsimp only
              exact hw.reg (by omega) (RegGroup.specCfg_at (by omega) (by omega)) rfl
            · refine ⟨?_, ?_⟩
              · dsimp only
                exact hw.reg (by omega) (RegGroup.specCfg_at (by omega) (by omega)) rfl
              · refine ⟨?_, ?_⟩
                · dsimp only
                  exact hw.reg (by omega) (RegGroup.specCfg_at (by omega) (by omega)) rfl
                · refine ⟨?_, ?_⟩
                  · dsimp only
                    exact hw.reg (by omega) (RegGroup.specCfg_at (by omega) (by omega)) rfl
                  · refine ⟨?_, ?_⟩
                    · dsimp only
                      exact hw.reg (by omega) (RegGroup.specCfg_at (by omega) (by omega)) rfl
                    · refine ⟨?_, ?_⟩
                      · dsimp only
                        exact hw.reg (by omega) (RegGroup.specCfg_at (by omega) (by omega)) rfl
                      · exact trivial
        · assumption

theorem State.wrSupraCtrl_keeps {w : Nat} {s0 : State} {x0 : State} {x1 : Port} {x2 : Word} (hw : Has w 348539562384535512079836342470312624915296) (hx0 : State.Keeps w s0 x0) :
    State.Keeps w s0 (State.wrSupraCtrl x0 x1 x2) := by
  unfold State.wrSupraCtrl
  extract_lets -merge -useContext +onlyGivenNames v1
  clear_value v1
  extract_lets -merge -useContext +onlyGivenNames v3
  clear_value v3
  extract_lets -merge -useContext +onlyGivenNames v5
  clear_value v5
  refine State.rws_keeps (hw.mono rfl) ?_ ?_ ?_
  · assumption
  · intro a9 a10
    refine State.Keeps.idS ?_
    assumption
  · intro a14 a15
    refine State.Keeps.iteSnd ?_ ?_
    · refine State.Keeps.pair ?_
      refine State.sf_keeps ?_ ?_
      · exact hw.reg (by omega) (RegGroup.specErr_at (by omega) (by omega)) rfl
      · assumption
    · refine State.Keeps.pair ?_
      refine State.sfs_keeps ?_ ?_
      · refine ⟨?_, ?_⟩
        · dsimp only
          exact hw.reg (by omega) (RegGroup.supra_at (by omega) (by omega)) rfl
        · refine ⟨?_, ?_⟩
          · dsimp only
            exact hw.reg (by omega) (RegGroup.supra_at (by omega) (by omega)) rfl
          · exact trivial
      · assumption

theorem State.wrMsv_keeps {w : Nat} {s0 : State} {x0 : State} {x1 : Port} {x2 : Fin 2} {x3 : ℕ} {x4 : Word} (hw : Has w 348539562384535512079836342470312624915296) (hx0 : State.Keeps w s0 x0) (hx3 : x3 < 4 ∨ Has w allRegs) :
    State.Keeps w s0 (State.wrMsv x0 x1 x2 x3 x4) := by
  unfold State.wrMsv
  extract_lets -merge -useContext +onlyGivenNames v1
  extract_lets -merge -useContext +onlyGivenNames v3
  extract_lets -merge -useContext +onlyGivenNames v5
  refine State.Keeps.ite ?_ ?_
  · assumption
  · refine State.rws_keeps (hw.mono rfl) ?_ ?_ ?_
    · assumption
    · intro a11 a12
      refine State.Keeps.idS ?_
      assumption
    · intro a16 a17
      extract_lets -merge -useContext +onlyGivenNames v19
      extract_lets -merge -useContext +onlyGivenNames v21
      refine State.Keeps.iteSnd ?_ ?_
      · extract_lets -merge -useContext +onlyGivenNames y24
        have h25 : State.Keeps w s0 y24 := by
          unfold y24
          refine State.Keeps.ite ?_ ?_
          · refine State.sf_keeps ?_ ?_
            · exact hw.reg (by omega) (RegGroup.specErr_at (by omega) (by omega)) rfl
            · assumption
          · assumption
        refine State.Keeps.pair ?_
        refine State.Keeps.ite ?_ ?_
        · refine State.sf_keeps ?_ ?_
          · exact hw.reg (by omega) (RegGroup.specErr_at (by omega) (by omega)) rfl
          · assumption
        · assumption
      · refine State.Keeps.pair ?_
        refine State.sfs_keeps ?_ ?_
        · refine ⟨?_, ?_⟩
          · dsimp only
            exact hx3.elim (fun _ => hw.reg (by omega) (RegGroup.supra_at (by omega) (by omega)) rfl) .inr
          · refine ⟨?_, ?_⟩
            · dsimp only
              exact hx3.elim (fun _ => hw.reg (by omega) (RegGroup.supra_at (by omega) (by omega)) rfl) .inr
            · exact trivial
        · assumption

theorem State.wrSupraScale_keeps {w : Nat} {s0 : State} {x0 : State} {x1 : Port} {x2 : Fin 8} {x3 : Word} (hw : Has w 348539562384535512079836342470312624915296) (hx0 : State.Keeps w s0 x0) :
    State.Keeps w s0 (State.wrSupraScale x0 x1 x2 x3) := by
  unfold State.wrSupraScale
  refine State.Keeps.ite ?_ ?_
  · assumption
  · refine State.rws_keeps (hw.mono rfl) ?_ ?_ ?_
    · assumption
    · intro a5 a6
      refine State.Keeps.idS ?_
      assumption
    · intro a10 a11
      refine State.Keeps.iteSnd ?_ ?_
      · refine State.Keeps.pair ?_
        refine State.sf_keeps ?_ ?_
        · exact hw.reg (by omega) (RegGroup.specErr_at (by omega) (by omega)) rfl
        · assumption
      · refine State.Keeps.pair ?_
        refine State.sf_keeps ?_ ?_
        · exact hw.reg (by omega) (RegGroup.supra_at (by omega) (by omega)) rfl
        · assumption

theorem State.wrDsel_keeps {w : Nat} {s0 : State} {x0 : State} {x1 : Word} (hw : Has w 21267647932558653966460912964486561792) (hx0 : State.Keeps w s0 x0) :
    State.Keeps w s0 (State.wrDsel x0 x1) := by
  unfold State.wrDsel
  extract_lets -merge -useContext +onlyGivenNames v1
  clear_value v1
  extract_lets -merge -useContext +onlyGivenNames v3
  clear_value v3
  refine State.sf_keeps ?_ ?_
  · exact hw.reg (by omega) (RegGroup.statDesc_at (by omega) (by omega)) rfl
  · refine State.Keeps.upd_stat (s := x0) ?_ ?_
    · exact hw.bit rfl
    · assumption

theorem State.wrDesc0_keeps {w : Nat} {s0 : State} {x0 : State} {x1 : Word} (hw : Has w 10633823966279326983230456482243805184) (hx0 : State.Keeps w s0 x0) :
    State.Keeps w s0 (State.wrDesc0 x0 x1) := by
  unfold State.wrDesc0
  extract_lets -merge -useContext +onlyGivenNames v1
  clear_value v1
  extract_lets -merge -useContext +onlyGivenNames v3
  clear_value v3
  extract_lets -merge -useContext +onlyGivenNames v5
  clear_value v5
  refine State.Keeps.ite ?_ ?_
  · refine State.Keeps.upd_stat (s := x0) ?_ ?_
    · exact hw.bit rfl
    · assumption
  · refine State.descApply_keeps (hw.mono rfl) ?_
    assumption

theorem State.wrDescStage_keeps {w : Nat} {s0 : State} {x0 : State} {x1 : ℕ} {x2 : Word} (hw : Has w 1048576) (hx0 : State.Keeps w s0 x0) :
    State.Keeps w s0 (State.wrDescStage x0 x1 x2) := by
  unfold State.wrDescStage
  extract_lets -merge -useContext +onlyGivenNames v1
  clear_value v1
  split
  · rename_i b3
    refine State.Keeps.upd_stat (s := x0) ?_ ?_
    · exact hw.bit rfl
    · assumption
  · rename_i b7
    refine State.Keeps.upd_stat (s := x0) ?_ ?_
    · exact hw.bit rfl
    · assumption
  · rename_i b11 e12 e13
    refine State.Keeps.upd_stat (s := x0) ?_ ?_
    · exact hw.bit rfl
    · assumption

theorem State.wrRegs2_keeps {w : Nat} {s0 : State} {x0 : State} {x1 : Port} {x2 : ℕ} {x3 : Word} (hw : Has w 11692013098647223345629478661711817422229690385248) (hx0 : State.Keeps w s0 x0) :
    State.Keeps w s0 (State.wrRegs2 x0 x1 x2 x3) := by
  unfold State.wrRegs2
  refine State.Keeps.ite ?_ ?_
  · refine State.wrSpecCfg_keeps (hw.mono rfl) ?_
    assumption
  · refine State.Keeps.ite ?_ ?_
    · refine State.wrSpecCfg_keeps (hw.mono rfl) ?_
      assumption
    · refine State.Keeps.ite ?_ ?_
      · refine State.wrSupraCtrl_keeps (hw.mono rfl) ?_
        assumption
      · refine State.Keeps.ite ?_ ?_
        · refine State.wrMsv_keeps (hw.mono rfl) ?_ ?_
          · assumption
          · exact .inl (by omega)
        · refine State.Keeps.ite ?_ ?_
          · refine State.wrSupraScale_keeps (hw.mono rfl) ?_
            assumption
          · refine State.Keeps.ite ?_ ?_
            · refine State.capWritable_keeps (hw.mono rfl) ?_ ?_
              · assumption
              · intro a20 a21
                refine State.wrPlain_keeps (hw.mono rfl) ?_
                assumption
            · refine State.Keeps.ite ?_ ?_
              · refine State.wrDsel_keeps (hw.mono rfl) ?_
                assumption
              · refine State.Keeps.ite ?_ ?_
                · refine State.wrDesc0_keeps (hw.mono rfl) ?_
                  assumption
                · refine State.Keeps.ite ?_ ?_
                  · refine State.wrDescStage_keeps (hw.mono rfl) ?_
                    assumption
                  · refine State.wrPlain_keeps (hw.mono rfl) ?_
                    assumption

theorem State.wrRingEnable_keeps {w : Nat} {s0 : State} {x0 : State} {x1 : Bool} {x2 : Word} (hw : Has w 10737418240) (hx0 : State.Keeps w s0 x0) :
    State.Keeps w s0 (State.wrRingEnable x0 x1 x2) := by
  unfold State.wrRingEnable
  refine State.Keeps.foldl ?_ ?_
  · assumption
  · intro a3 a4 a5
    refine State.Keeps.ite ?_ ?_
    · extract_lets -merge -useContext +onlyGivenNames v8
      extract_lets -merge -useContext +onlyGivenNames v10
      clear_value v10
      refine State.Keeps.ite ?_ ?_
      · refine State.setRing_keeps ?_ ?_ ?_ ?_
        · exact hw.bit rfl
        · exact .inr fun _ => rfl
        · exact .inl (hw.bit rfl)
        · assumption
      · assumption
    · assumption

theorem State.wrMboxGo_keeps {w : Nat} {s0 : State} {x0 : State} {x1 : Port} (hw : Has w 5575186299632655785383929568162090376495232) (hx0 : State.Keeps w s0 x0) :
    State.Keeps w s0 (State.wrMboxGo x0 x1) := by
  unfold State.wrMboxGo
  refine State.Keeps.ite ?_ ?_
  · refine State.sf_keeps ?_ ?_
    · exact hw.reg (by omega) (RegGroup.mbox_at (by omega) (by omega)) rfl
    · assumption
  · refine State.sf_keeps ?_ ?_
    · exact hw.reg (by omega) (RegGroup.mbox_at (by omega) (by omega)) rfl
    · refine State.Keeps.upd_cmd (s := x0) ?_ ?_
      · exact hw.bit rfl
      · assumption

theorem State.wrBankOwner_keeps {w : Nat} {s0 : State} {x0 : State} {x1 : ℕ} {x2 : Word} (hw : Has w 223007451985306231415357182726483615059857408) (hx0 : State.Keeps w s0 x0) :
    State.Keeps w s0 (State.wrBankOwner x0 x1 x2) := by
  unfold State.wrBankOwner
  refine State.Keeps.foldlMem ?_ ?_
  · assumption
  · intro a2 a3 a4 a5
    have a6 := List.mem_range.1 a4
    refine State.ownerReq_keeps (hw.mono rfl) ?_
    assumption

theorem State.wrBankPwr_keeps {w : Nat} {s0 : State} {x0 : State} {x1 : ℕ} {x2 : Word} (hw : Has w 223007451985306231415357182726483615059857408) (hx0 : State.Keeps w s0 x0) :
    State.Keeps w s0 (State.wrBankPwr x0 x1 x2) := by
  unfold State.wrBankPwr
  refine State.Keeps.foldlMem ?_ ?_
  · assumption
  · intro a2 a3 a4 a5
    have a6 := List.mem_range.1 a4
    refine State.powerReq_keeps (hw.mono rfl) ?_
    assumption

theorem State.wrCwCfg_keeps {w : Nat} {s0 : State} {x0 : State} {x1 : ℕ} {x2 : Word} (hw : Has w 133804471191183738849214309635890169035882496) (hx0 : State.Keeps w s0 x0) (hx1 : x1 < 16 ∨ Has w allRegs) :
    State.Keeps w s0 (State.wrCwCfg x0 x1 x2) := by
  unfold State.wrCwCfg
  extract_lets -merge -useContext +onlyGivenNames v1
  clear_value v1
  extract_lets -merge -useContext +onlyGivenNames v3
  clear_value v3
  extract_lets -merge -useContext +onlyGivenNames v5
  clear_value v5
  extract_lets -merge -useContext +onlyGivenNames v7
  clear_value v7
  extract_lets -merge -useContext +onlyGivenNames v9
  clear_value v9
  extract_lets -merge -useContext +onlyGivenNames v11
  clear_value v11
  extract_lets -merge -useContext +onlyGivenNames y13
  have h14 : State.Keeps w s0 y13 := by
    unfold y13
    refine State.errIf_keeps (hw.mono rfl) ?_ ?_
    · refine State.errIf_keeps (hw.mono rfl) ?_ ?_
      · assumption
      · exact hw.reg (by omega) (RegGroup.bankErr_at (by omega) (by omega)) rfl
    · exact hw.reg (by omega) (RegGroup.bankErr_at (by omega) (by omega)) rfl
  clear_value y13
  refine State.Keeps.ite ?_ ?_
  · assumption
  · refine State.sfs_keeps ?_ ?_
    · refine ⟨?_, ?_⟩
      · dsimp only
        exact hx1.elim (fun _ => hw.reg (by omega) (RegGroup.cw_at (by omega) (by omega)) rfl) .inr
      · refine ⟨?_, ?_⟩
        · dsimp only
          exact hx1.elim (fun _ => hw.reg (by omega) (RegGroup.cw_at (by omega) (by omega)) rfl) .inr
        · refine ⟨?_, ?_⟩
          · dsimp only
            exact hx1.elim (fun _ => hw.reg (by omega) (RegGroup.cw_at (by omega) (by omega)) rfl) .inr
          · exact trivial
    · assumption

theorem State.wrSliceCtrl_keeps {w : Nat} {s0 : State} {x0 : State} {x1 : Port} {x2 : Word} (hw : Has w 2854843924943150516477442809470277607683523424) (hx0 : State.Keeps w s0 x0) :
    State.Keeps w s0 (State.wrSliceCtrl x0 x1 x2) := by
  unfold State.wrSliceCtrl
  refine State.rws_keeps (hw.mono rfl) ?_ ?_ ?_
  · assumption
  · intro a3 a4
    refine State.Keeps.idS ?_
    assumption
  · intro a8 a9
    refine State.Keeps.iteSnd ?_ ?_
    · refine State.Keeps.pair ?_
      refine State.sf_keeps ?_ ?_
      · exact hw.reg (by omega) (RegGroup.slice_at (by omega) (by omega)) rfl
      · assumption
    · refine State.Keeps.pair ?_
      refine State.Keeps.upd_slc (s := a8) ?_ ?_
      · exact hw.bit rfl
      · assumption

theorem State.wrSealCfg_keeps {w : Nat} {s0 : State} {x0 : State} {x1 : Port} {x2 : Word} (hw : Has w 17127320852002749327060302503965228971242554208) (hx0 : State.Keeps w s0 x0) :
    State.Keeps w s0 (State.wrSealCfg x0 x1 x2) := by
  unfold State.wrSealCfg
  extract_lets -merge -useContext +onlyGivenNames v1
  clear_value v1
  extract_lets -merge -useContext +onlyGivenNames v3
  clear_value v3
  refine State.rws_keeps (hw.mono rfl) ?_ ?_ ?_
  · assumption
  · intro a7 a8
    refine State.Keeps.idS ?_
    assumption
  · intro a12 a13
    refine State.Keeps.iteSnd ?_ ?_
    · refine State.Keeps.pair ?_
      refine State.sfs_keeps ?_ ?_
      · refine ⟨?_, ?_⟩
        · dsimp only
          exact hw.reg (by omega) (RegGroup.sealCfg_at (by omega) (by omega)) rfl
        · refine ⟨?_, ?_⟩
          · dsimp only
            exact hw.reg (by omega) (RegGroup.sealCfg_at (by omega) (by omega)) rfl
          · exact trivial
      · assumption
    · refine State.Keeps.pair ?_
      refine State.sf_keeps ?_ ?_
      · exact hw.reg (by omega) (RegGroup.sec_at (by omega) (by omega)) rfl
      · assumption

theorem State.wrKettle_keeps {w : Nat} {s0 : State} {x0 : State} {x1 : Port} {x2 : ℕ} {x3 : Word} (hw : Has w 2877331697034746350967865385280753517466638877536) (hx0 : State.Keeps w s0 x0) :
    State.Keeps w s0 (State.wrKettle x0 x1 x2 x3) := by
  unfold State.wrKettle
  refine State.Keeps.ite ?_ ?_
  · assumption
  · extract_lets -merge -useContext +onlyGivenNames v3
    have h4 : State.Keeps w s0 v3 := by
      unfold v3
      refine State.Keeps.foldl ?_ ?_
      · assumption
      · intro a8 a9 a10
        refine State.ketApply_keeps (hw.mono rfl) ?_
        assumption
    clear_value v3
    extract_lets -merge -useContext +onlyGivenNames v14
    clear_value v14
    refine State.rws_keeps (hw.mono rfl) ?_ ?_ ?_
    · assumption
    · intro a18 a19
      refine State.Keeps.ite ?_ ?_
      · assumption
      · refine State.ketQueue_keeps (hw.mono rfl) ?_
        assumption
    · intro a25 a26
      refine State.Keeps.pair ?_
      refine State.ketQueue_keeps (hw.mono rfl) ?_
      assumption

theorem State.wrArbCtrl_keeps {w : Nat} {s0 : State} {x0 : State} {x1 : Word} (hw : Has w 8769009823985417509222108996297698117935595261952) (hx0 : State.Keeps w s0 x0) :
    State.Keeps w s0 (State.wrArbCtrl x0 x1) := by
  unfold State.wrArbCtrl
  extract_lets -merge -useContext +onlyGivenNames y1
  have h2 : State.Keeps w s0 y1 := by
    unfold y1
    refine State.sb_keeps ?_ ?_
    · exact hw.reg (by omega) (RegGroup.arbCfg_at (by omega) (by omega)) rfl
    · assumption
  clear_value y1
  extract_lets -merge -useContext +onlyGivenNames y7
  have h8 : State.Keeps w s0 y7 := by
    unfold y7
    refine State.Keeps.ite ?_ ?_
    · refine State.clrConflicts_keeps (hw.mono rfl) ?_
      assumption
    · assumption
  clear_value y7
  refine State.Keeps.ite ?_ ?_
  · refine State.clrLatencies_keeps (hw.mono rfl) ?_
    assumption
  · assumption

theorem State.wrArbWeight_keeps {w : Nat} {s0 : State} {x0 : State} {x1 : Bool} {x2 : Word} (hw : Has w 2923003274661805836407369665432566039311865085952) (hx0 : State.Keeps w s0 x0) :
    State.Keeps w s0 (State.wrArbWeight x0 x1 x2) := by
  unfold State.wrArbWeight
  refine State.Keeps.ite (State.sfs_keeps (regsOk_of fun e he => ?_) hx0) (State.sf_keeps (hw.reg (by omega) (RegGroup.arbCfg_at (by omega) (by omega)) rfl) hx0)
  obtain ⟨m, hm, rfl⟩ := List.mem_map.1 he
  have h1 := List.mem_range.1 hm
  exact regOk.ite (hw.reg (by omega) (RegGroup.arbCfg_at (by omega) (by omega)) rfl) (hw.reg (by omega) (RegGroup.arbCfg_at (by omega) (by omega)) rfl)

theorem State.wrRegs3_keeps {w : Nat} {s0 : State} {x0 : State} {x1 : Port} {x2 : ℕ} {x3 : Word} (hw : Has w 11692013098647223345629478661711817457422920897504) (hx0 : State.Keeps w s0 x0) :
    State.Keeps w s0 (State.wrRegs3 x0 x1 x2 x3) := by
  unfold State.wrRegs3
  refine State.Keeps.ite ?_ ?_
  · refine State.Keeps.ite ?_ ?_
    · assumption
    · refine State.wrRingEnable_keeps (hw.mono rfl) ?_
      assumption
  · refine State.Keeps.ite ?_ ?_
    · refine State.Keeps.ite ?_ ?_
      · assumption
      · refine State.wrRingEnable_keeps (hw.mono rfl) ?_
        assumption
    · refine State.Keeps.ite ?_ ?_
      · refine State.Keeps.ite ?_ ?_
        · refine State.wrMboxGo_keeps (hw.mono rfl) ?_
          assumption
        · assumption
      · refine State.Keeps.ite ?_ ?_
        · refine State.wrBankOwner_keeps (hw.mono rfl) ?_
          assumption
        · refine State.Keeps.ite ?_ ?_
          · refine State.wrBankPwr_keeps (hw.mono rfl) ?_
            assumption
          · refine State.Keeps.ite ?_ ?_
            · refine State.wrCwCfg_keeps (hw.mono rfl) ?_ ?_
              · assumption
              · exact .inr (hw.mono rfl)
            · refine State.Keeps.ite ?_ ?_
              · refine State.Keeps.ite ?_ ?_
                · refine State.configSave_keeps (hw.mono rfl) ?_
                  assumption
                · assumption
              · refine State.Keeps.ite ?_ ?_
                · refine State.wrSliceCtrl_keeps (hw.mono rfl) ?_
                  assumption
                · refine State.Keeps.ite ?_ ?_
                  · refine State.wrSealCfg_keeps (hw.mono rfl) ?_
                    assumption
                  · refine State.Keeps.ite ?_ ?_
                    · refine State.wrKettle_keeps (hw.mono rfl) ?_
                      assumption
                    · refine State.Keeps.ite ?_ ?_
                      · refine State.wrArbCtrl_keeps (hw.mono rfl) ?_
                        assumption
                      · refine State.Keeps.ite ?_ ?_
                        · refine State.wrArbWeight_keeps (hw.mono rfl) ?_
                          assumption
                        · refine State.Keeps.ite ?_ ?_
                          · refine State.wrArbWeight_keeps (hw.mono rfl) ?_
                            assumption
                          · refine State.wrPlain_keeps (hw.mono rfl) ?_
                            assumption

theorem State.writeReg_keeps {w : Nat} {s0 : State} {x0 : State} {x1 : Port} {x2 : ℕ} {x3 : Word} (hw : Has w 11692013098647223345629478661711822664710223748064) (hx0 : State.Keeps w s0 x0) :
    State.Keeps w s0 (State.writeReg x0 x1 x2 x3) := by
  unfold State.writeReg
  refine State.Keeps.ite ?_ ?_
  · assumption
  · refine State.Keeps.ite ?_ ?_
    · refine State.wrRegs0_keeps (hw.mono rfl) ?_
      assumption
    · refine State.Keeps.ite ?_ ?_
      · refine State.wrRegs1_keeps (hw.mono rfl) ?_
        assumption
      · refine State.Keeps.ite ?_ ?_
        · refine State.orDefer_keeps (hw.mono rfl) ?_ ?_
          · assumption
          · intro a12 a13
            refine State.wrSliceBlock_keeps (hw.mono rfl) ?_
            assumption
        · refine State.Keeps.ite ?_ ?_
          · refine State.wrRegs2_keeps (hw.mono rfl) ?_
            assumption
          · refine State.Keeps.ite ?_ ?_
            · refine State.orDefer_keeps (hw.mono rfl) ?_ ?_
              · assumption
              · intro a23 a24
                refine State.wrSliceBlock_keeps (hw.mono rfl) ?_
                assumption
            · refine State.wrRegs3_keeps (hw.mono rfl) ?_
              assumption

theorem State.spiWrite_keeps {w : Nat} {s0 : State} {x0 : State} {x1 : ℕ} {x2 : Word} (hw : Has w 11692013098647223345629478661711822664710223748064) (hx0 : State.Keeps w s0 x0) :
    State.Keeps w s0 (State.spiWrite x0 x1 x2) := by
  unfold State.spiWrite
  refine State.Keeps.ite ?_ ?_
  · refine State.writeReg_keeps (hw.mono rfl) ?_
    assumption
  · assumption

theorem State.startRoles_keeps {w : Nat} {s0 : State} {x0 : State} (hw : Has w 2854495385411919762116571938898990272765493248) (hx0 : State.Keeps w s0 x0) :
    State.Keeps w s0 (State.startRoles x0) := by
  unfold State.startRoles
  extract_lets -merge -useContext +onlyGivenNames v1
  clear_value v1
  refine State.setRoles_keeps (hw.mono rfl) ?_
  assumption

theorem State.statInc_keeps {w : Nat} {s0 : State} {x0 : State} {x1 : ℕ} {x2 : Option ℕ} (hw : Has w 1048576) (hx0 : State.Keeps w s0 x0) :
    State.Keeps w s0 (State.statInc x0 x1 x2) := by
  unfold State.statInc
  split
  · rename_i b1 e2
    refine State.setHist_keeps (hw.mono rfl) ?_
    assumption
  · rename_i b5 b6 e7
    extract_lets -merge -useContext +onlyGivenNames v9
    clear_value v9
    split
    rename_i b11 b12 b13 b14 e15
    extract_lets -merge -useContext +onlyGivenNames v17
    clear_value v17
    extract_lets -merge -useContext +onlyGivenNames v19
    clear_value v19
    extract_lets -merge -useContext +onlyGivenNames y21
    clear_value y21
    extract_lets -merge -useContext +onlyGivenNames y23
    have h24 : State.Keeps w s0 y23 := by
      unfold y23
      refine State.Keeps.ite ?_ ?_
      · refine State.Keeps.upd_stat (s := x0) ?_ ?_
        · exact hw.bit rfl
        · assumption
      · assumption
    clear_value y23
    refine State.setHist_keeps (hw.mono rfl) ?_
    assumption

theorem State.supHole_keeps {w : Nat} {s0 : State} {x0 : State} {x1 : Fin 8} {x2 : ℕ} {x3 : ℕ} (hw : Has w 348539531230754360870870571278539227663200) (hx0 : State.Keeps w s0 x0) :
    State.Keeps w s0 (State.supHole x0 x1 x2 x3) := by
  unfold State.supHole
  refine State.Keeps.ite ?_ ?_
  · assumption
  · extract_lets -merge -useContext +onlyGivenNames y3
    have h4 : State.Keeps w s0 y3 := by
      unfold y3
      refine State.supRuns_keeps (hw.mono rfl) ?_
      assumption
    clear_value y3
    refine State.supOrder_keeps (hw.mono rfl) ?_
    refine State.setTs_keeps (hw.mono rfl) ?_
    assumption

theorem State.switchEnd_keeps {w : Nat} {s0 : State} {x0 : State} {x1 : ℕ} {x2 : ℕ} (hw : Has w 11692013098647223345629478661711817985180009237344) (hx0 : State.Keeps w s0 x0) :
    State.Keeps w s0 (State.switchEnd x0 x1 x2) := by
  unfold State.switchEnd
  split
  · rename_i b1 e2
    assumption
  · rename_i b4 b5 e6
    extract_lets -merge -useContext +onlyGivenNames v8
    clear_value v8
    extract_lets -merge -useContext +onlyGivenNames v10
    clear_value v10
    extract_lets -merge -useContext +onlyGivenNames y12
    clear_value y12
    extract_lets -merge -useContext +onlyGivenNames y14
    have h15 : State.Keeps w s0 y14 := by
      unfold y14
      refine State.Keeps.upd_slc (s := x0) ?_ ?_
      · exact hw.bit rfl
      · assumption
    clear_value y14
    extract_lets -merge -useContext +onlyGivenNames y20
    have h21 : State.Keeps w s0 y20 := by
      unfold y20
      refine State.sfs_keeps ?_ ?_
      · refine ⟨?_, ?_⟩
        · dsimp only
          exact hw.reg (by omega) (RegGroup.slice_at (by omega) (by omega)) rfl
        · refine ⟨?_, ?_⟩
          · dsimp only
            exact hw.reg (by omega) (RegGroup.slice_at (by omega) (by omega)) rfl
          · refine ⟨?_, ?_⟩
            · dsimp only
              exact hw.reg (by omega) (RegGroup.slice_at (by omega) (by omega)) rfl
            · refine ⟨?_, ?_⟩
              · dsimp only
                exact hw.reg (by omega) (RegGroup.slice_at (by omega) (by omega)) rfl
              · refine ⟨?_, ?_⟩
                · dsimp only
                  exact hw.reg (by omega) (RegGroup.slice_at (by omega) (by omega)) rfl
                · refine ⟨?_, ?_⟩
                  · dsimp only
                    exact hw.reg (by omega) (RegGroup.slice_at (by omega) (by omega)) rfl
                  · refine ⟨?_, ?_⟩
                    · dsimp only
                      exact hw.reg (by omega) (RegGroup.slice_at (by omega) (by omega)) rfl
                    · refine ⟨?_, ?_⟩
                      · dsimp only
                        exact hw.reg (by omega) (RegGroup.slice_at (by omega) (by omega)) rfl
                      · exact trivial
      · assumption
    clear_value y20
    extract_lets -merge -useContext +onlyGivenNames y42
    have h43 : State.Keeps w s0 y42 := by
      unfold y42
      refine State.grpReplayed_keeps (hw.mono rfl) ?_
      refine State.grpReplayed_keeps (hw.mono rfl) ?_
      assumption
    clear_value y42
    extract_lets -merge -useContext +onlyGivenNames v48
    clear_value v48
    extract_lets -merge -useContext +onlyGivenNames y50
    have h51 : State.Keeps w s0 y50 := by
      unfold y50
      refine State.stepsSettle_keeps (hw.mono rfl) ?_
      refine State.stepsSettle_keeps (hw.mono rfl) ?_
      assumption
    clear_value y50
    extract_lets -merge -useContext +onlyGivenNames y56
    have h57 : State.Keeps w s0 y56 := by
      unfold y56
      refine State.Keeps.upd_bilOut (s := y50) ?_ ?_
      · exact hw.bit rfl
      · assumption
    clear_value y56
    refine State.deferRun_keeps (hw.mono rfl) ?_
    assumption

theorem State.switchStart_keeps {w : Nat} {s0 : State} {x0 : State} {x1 : ℕ} {x2 : Option (ℕ × ℕ)} (hw : Has w 11692013098647223345629478661711822488779636607840) (hx0 : State.Keeps w s0 x0) :
    State.Keeps w s0 (State.switchStart x0 x1 x2) := by
  unfold State.switchStart
  extract_lets -merge -useContext +onlyGivenNames v1
  clear_value v1
  extract_lets -merge -useContext +onlyGivenNames y3
  clear_value y3
  extract_lets -merge -useContext +onlyGivenNames y5
  have h6 : State.Keeps w s0 y5 := by
    unfold y5
    refine State.Keeps.upd_slc (s := x0) ?_ ?_
    · exact hw.bit rfl
    · assumption
  clear_value y5
  extract_lets -merge -useContext +onlyGivenNames y11
  have h12 : State.Keeps w s0 y11 := by
    unfold y11
    refine State.incSat_keeps ?_ ?_
    · exact hw.reg (by omega) (RegGroup.slice_at (by omega) (by omega)) rfl
    · refine State.raise_keeps (hw.mono rfl) ?_ ?_
      · refine State.sf_keeps ?_ ?_
        · exact hw.reg (by omega) (RegGroup.slice_at (by omega) (by omega)) rfl
        · assumption
      · exact .inl (by omega)
  clear_value y11
  extract_lets -merge -useContext +onlyGivenNames y21
  have h22 : State.Keeps w s0 y21 := by
    unfold y21
    refine State.Keeps.ite ?_ ?_
    · refine State.incSat_keeps ?_ ?_
      · exact hw.reg (by omega) (RegGroup.slice_at (by omega) (by omega)) rfl
      · assumption
    · assumption
  clear_value y21
  extract_lets -merge -useContext +onlyGivenNames y29
  have h30 : State.Keeps w s0 y29 := by
    unfold y29
    split
    · rename_i b32 b33 b34
      refine State.sfs_keeps ?_ ?_
      · refine ⟨?_, ?_⟩
        · dsimp only
          exact hw.reg (by omega) (RegGroup.slice_at (by omega) (by omega)) rfl
        · refine ⟨?_, ?_⟩
          · dsimp only
            exact hw.reg (by omega) (RegGroup.slice_at (by omega) (by omega)) rfl
          · exact trivial
      · refine State.s64_keeps ?_ ?_ ?_
        · exact hw.reg (by omega) (RegGroup.slice_at (by omega) (by omega)) rfl
        · exact hw.reg (by omega) (RegGroup.slice_at (by omega) (by omega)) rfl
        · assumption
    · rename_i b45
      assumption
  clear_value y29
  refine State.ckptUse_keeps (hw.mono rfl) ?_
  assumption

theorem State.tsTick_keeps {w : Nat} {s0 : State} {x0 : State} {x1 : Fin 8} {x2 : DevTime} (hw : Has w 348539531230754360870870571278538690792288) (hx0 : State.Keeps w s0 x0) :
    State.Keeps w s0 (State.tsTick x0 x1 x2) := by
  unfold State.tsTick
  refine State.Keeps.ite ?_ ?_
  · assumption
  · refine State.setTs_keeps (hw.mono rfl) ?_
    refine State.supGapOut_keeps (hw.mono rfl) ?_
    refine State.tsEval_keeps (hw.mono rfl) ?_
    refine State.fastDrain_keeps (hw.mono rfl) ?_
    assumption

theorem State.tenMinTick_keeps {w : Nat} {s0 : State} {x0 : State} (hw : Has w 377124668299604746487661552137182803397472) (hx0 : State.Keeps w s0 x0) :
    State.Keeps w s0 (State.tenMinTick x0) := by
  unfold State.tenMinTick
  extract_lets -merge -useContext +onlyGivenNames v1
  clear_value v1
  extract_lets -merge -useContext +onlyGivenNames v3
  clear_value v3
  extract_lets -merge -useContext +onlyGivenNames y5
  have h6 : State.Keeps w s0 y5 := by
    unfold y5
    refine State.timeTo_keeps (hw.mono rfl) ?_
    assumption
  clear_value y5
  extract_lets -merge -useContext +onlyGivenNames y10
  clear_value y10
  extract_lets -merge -useContext +onlyGivenNames y12
  have h13 : State.Keeps w s0 y12 := by
    unfold y12
    refine State.Keeps.upd_time (s := y5) ?_ ?_ ?_
    · exact .inl (hw.bit rfl)
    · exact .inl (hw.bit rfl)
    · assumption
  clear_value y12
  extract_lets -merge -useContext +onlyGivenNames y19
  have h20 : State.Keeps w s0 y19 := by
    unfold y19
    refine State.Keeps.foldl ?_ ?_
    · assumption
    · intro a24 a25 a26
      refine State.Keeps.ite ?_ ?_
      · refine State.grpDue_keeps (hw.mono rfl) ?_
        refine State.setGrp_keeps ?_ ?_ ?_ ?_
        · exact hw.bit rfl
        · exact .inr fun _ => rfl
        · exact .inr fun _ => rfl
        · assumption
      · assumption
  clear_value y19
  refine State.calReach_keeps (hw.mono rfl) ?_
  refine State.Keeps.foldl ?_ ?_
  · assumption
  · intro a39 a40 a41
    refine State.tsTick_keeps (hw.mono rfl) ?_
    assumption

theorem State.trkState_keeps {w : Nat} {s0 : State} {x0 : State} {x1 : Fin 2} {x2 : ℕ} (hw : Has w 5316932265549267143286215138326085632) (hx0 : State.Keeps w s0 x0) :
    State.Keeps w s0 (State.trkState x0 x1 x2) := by
  unfold State.trkState
  extract_lets -merge -useContext +onlyGivenNames y1
  have h2 : State.Keeps w s0 y1 := by
    unfold y1
    refine State.sf_keeps ?_ ?_
    · exact hw.reg (by omega) (RegGroup.freq_at (by omega) (by omega)) rfl
    · assumption
  clear_value y1
  extract_lets -merge -useContext +onlyGivenNames y7
  have h8 : State.Keeps w s0 y7 := by
    unfold y7
    refine State.Keeps.ite ?_ ?_
    · refine State.sf_keeps ?_ ?_
      · exact hw.reg (by omega) (RegGroup.freq_at (by omega) (by omega)) rfl
      · assumption
    · refine State.setGrp_keeps ?_ ?_ ?_ ?_
      · exact hw.bit rfl
      · exact .inr fun _ => rfl
      · exact .inr fun _ => rfl
      · assumption
  clear_value y7
  refine State.winNote_keeps (hw.mono rfl) ?_
  assumption

theorem State.trkCycle_keeps {w : Nat} {s0 : State} {x0 : State} {x1 : Fin 2} {x2 : ℕ} (hw : Has w 5316932265549267143286215138326085632) (hx0 : State.Keeps w s0 x0) :
    State.Keeps w s0 (State.trkCycle x0 x1 x2) := by
  unfold State.trkCycle
  extract_lets -merge -useContext +onlyGivenNames v1
  clear_value v1
  extract_lets -merge -useContext +onlyGivenNames v3
  clear_value v3
  extract_lets -merge -useContext +onlyGivenNames v5
  clear_value v5
  extract_lets -merge -useContext +onlyGivenNames v7
  clear_value v7
  extract_lets -merge -useContext +onlyGivenNames v9
  clear_value v9
  extract_lets -merge -useContext +onlyGivenNames v11
  clear_value v11
  extract_lets -merge -useContext +onlyGivenNames v13
  clear_value v13
  refine State.trkState_keeps (hw.mono rfl) ?_
  refine State.setGrp_keeps ?_ ?_ ?_ ?_
  · exact hw.bit rfl
  · exact .inr fun _ => rfl
  · exact .inr fun _ => rfl
  · assumption

theorem State.tsIn_keeps {w : Nat} {s0 : State} {x0 : State} {x1 : Fin 8} {x2 : ℕ} {x3 : ℕ} (hw : Has w 348539531230754360870870571278538691052384) (hx0 : State.Keeps w s0 x0) :
    State.Keeps w s0 (State.tsIn x0 x1 x2 x3) := by
  unfold State.tsIn
  extract_lets -merge -useContext +onlyGivenNames y1
  have h2 : State.Keeps w s0 y1 := by
    unfold y1
    refine State.capSample_keeps (hw.mono rfl) ?_
    assumption
  clear_value y1
  extract_lets -merge -useContext +onlyGivenNames v6
  clear_value v6
  refine State.Keeps.ite ?_ ?_
  · assumption
  · extract_lets -merge -useContext +onlyGivenNames y10
    have h11 : State.Keeps w s0 y10 := by
      unfold y10
      split
      · rename_i b13 b14 b15 e16
        refine State.Keeps.ite ?_ ?_
        · assumption
        · refine State.tsRelease_keeps (hw.mono rfl) ?_
          assumption
      · rename_i b21 e22
        assumption
    clear_value y10
    extract_lets -merge -useContext +onlyGivenNames y25
    have h26 : State.Keeps w s0 y25 := by
      unfold y25
      refine State.setTs_keeps (hw.mono rfl) ?_
      assumption
    clear_value y25
    refine State.Keeps.ite ?_ ?_
    · refine State.tsRelease_keeps (hw.mono rfl) ?_
      assumption
    · assumption

theorem State.tsDrain_keeps {w : Nat} {s0 : State} {x0 : State} (hw : Has w 348539531230754360870870571278538691052384) (hx0 : State.Keeps w s0 x0) :
    State.Keeps w s0 (State.tsDrain x0) := by
  unfold State.tsDrain
  refine State.Keeps.foldl ?_ ?_
  · assumption
  · intro a3 a4 a5
    extract_lets -merge -useContext +onlyGivenNames v7
    clear_value v7
    refine State.Keeps.foldl ?_ ?_
    · refine State.setTs_keeps (hw.mono rfl) ?_
      assumption
    · intro a12 a13 a14
      refine State.tsIn_keeps (hw.mono rfl) ?_
      assumption

theorem State.tsFifo_keeps {w : Nat} {s0 : State} {x0 : State} {x1 : Fin 8} {x2 : ℕ} {x3 : ℕ} (hw : Has w 134217728) (hx0 : State.Keeps w s0 x0) :
    State.Keeps w s0 (State.tsFifo x0 x1 x2 x3) := by
  unfold State.tsFifo
  refine State.setTs_keeps (hw.mono rfl) ?_
  assumption

theorem State.tsPublish_keeps {w : Nat} {s0 : State} {x0 : State} {x1 : Fin 8} {x2 : ℕ} {x3 : ℕ} {x4 : ℕ} (hw : Has w 348539531230754360870870571278538690790240) (hx0 : State.Keeps w s0 x0) :
    State.Keeps w s0 (State.tsPublish x0 x1 x2 x3 x4) := by
  unfold State.tsPublish
  extract_lets -merge -useContext +onlyGivenNames v1
  clear_value v1
  extract_lets -merge -useContext +onlyGivenNames y3
  have h4 : State.Keeps w s0 y3 := by
    unfold y3
    refine State.setTs_keeps (hw.mono rfl) ?_
    assumption
  clear_value y3
  extract_lets -merge -useContext +onlyGivenNames v8
  clear_value v8
  refine State.anchorEmit_keeps (hw.mono rfl) ?_
  assumption

theorem State.tsRestartGap_keeps {w : Nat} {s0 : State} {x0 : State} {x1 : Fin 8} {x2 : DevTime} {x3 : DevTime} (hw : Has w 348539531230754360870870571278538556834656) (hx0 : State.Keeps w s0 x0) :
    State.Keeps w s0 (State.tsRestartGap x0 x1 x2 x3) := by
  unfold State.tsRestartGap
  extract_lets -merge -useContext +onlyGivenNames v1
  clear_value v1
  extract_lets -merge -useContext +onlyGivenNames v3
  clear_value v3
  extract_lets -merge -useContext +onlyGivenNames y5
  have h6 : State.Keeps w s0 y5 := by
    unfold y5
    refine State.capGap_keeps (hw.mono rfl) ?_
    refine State.gapOn_keeps (hw.mono rfl) ?_
    assumption
  clear_value y5
  refine State.Keeps.ite ?_ ?_
  · extract_lets -merge -useContext +onlyGivenNames y12
    have h13 : State.Keeps w s0 y12 := by
      unfold y12
      refine State.emit_keeps (hw.mono rfl) ?_
      assumption
    clear_value y12
    refine State.Keeps.ite ?_ ?_
    · refine State.emitL_keeps (hw.mono rfl) ?_
      refine State.emitL_keeps (hw.mono rfl) ?_
      assumption
    · assumption
  · assumption

theorem State.tsSample_keeps {w : Nat} {s0 : State} {x0 : State} {x1 : Fin 8} {x2 : ℤ} (hw : Has w 355346507797191197976718104360657509156704) (hx0 : State.Keeps w s0 x0) :
    State.Keeps w s0 (State.tsSample x0 x1 x2) := by
  unfold State.tsSample
  extract_lets -merge -useContext +onlyGivenNames v1
  extract_lets -merge -useContext +onlyGivenNames v3
  extract_lets -merge -useContext +onlyGivenNames y5
  have h6 : State.Keeps w s0 y5 := by
    unfold y5
    refine State.Keeps.cond ?_ ?_
    · refine State.setTs_keeps (hw.mono rfl) ?_
      assumption
    · assumption
  extract_lets -merge -useContext +onlyGivenNames y12
  extract_lets -merge -useContext +onlyGivenNames y14
  have h15 : State.Keeps w s0 y14 := by
    unfold y14
    split
    · rename_i b17 b18 e19
      refine State.tsPublish_keeps (hw.mono rfl) ?_
      assumption
    · rename_i b22 e23
      assumption
  extract_lets -merge -useContext +onlyGivenNames v26
  clear_value v26
  extract_lets -merge -useContext +onlyGivenNames y28
  have h29 : State.Keeps w s0 y28 := by
    unfold y28
    refine State.calReach_keeps (hw.mono rfl) ?_
    refine State.timeTo_keeps (hw.mono rfl) ?_
    assumption
  extract_lets -merge -useContext +onlyGivenNames y34
  have h35 : State.Keeps w s0 y34 := by
    unfold y34
    refine State.Keeps.ite ?_ ?_
    · refine State.Keeps.upd_first (s := y28) ?_ ?_
      · exact hw.bit rfl
      · assumption
    · assumption
  clear_value y34
  extract_lets -merge -useContext +onlyGivenNames y42
  have h43 : State.Keeps w s0 y42 := by
    unfold y42
    refine State.fastPins_keeps (hw.mono rfl) ?_
    refine State.fastSample_keeps (hw.mono rfl) ?_
    assumption
  clear_value y42
  extract_lets -merge -useContext +onlyGivenNames v48
  clear_value v48
  extract_lets -merge -useContext +onlyGivenNames v50
  clear_value v50
  extract_lets -merge -useContext +onlyGivenNames y52
  have h53 : State.Keeps w s0 y52 := by
    unfold y52
    refine State.setTs_keeps (hw.mono rfl) ?_
    assumption
  clear_value y52
  refine State.Keeps.ite ?_ ?_
  · refine State.tsFifo_keeps (hw.mono rfl) ?_
    assumption
  · refine State.tsIn_keeps (hw.mono rfl) ?_
    assumption

theorem State.tsStall_keeps {w : Nat} {s0 : State} {x0 : State} {x1 : Fin 8} (hw : Has w 348539531230754360870870571278539227925344) (hx0 : State.Keeps w s0 x0) :
    State.Keeps w s0 (State.tsStall x0 x1) := by
  unfold State.tsStall
  extract_lets -merge -useContext +onlyGivenNames v1
  clear_value v1
  extract_lets -merge -useContext +onlyGivenNames y3
  have h4 : State.Keeps w s0 y3 := by
    unfold y3
    split
    · rename_i b6 b7 b8 b9 b10 b11 b12 e13
      refine State.Keeps.ite ?_ ?_
      · refine State.tsRelease_keeps (hw.mono rfl) ?_
        assumption
      · assumption
    · rename_i b18 b19 b20 e21
      assumption
  clear_value y3
  extract_lets -merge -useContext +onlyGivenNames y24
  have h25 : State.Keeps w s0 y24 := by
    unfold y24
    refine State.Keeps.foldl ?_ ?_
    · refine State.setTs_keeps (hw.mono rfl) ?_
      assumption
    · intro a30 a31 a32
      refine State.tsLost_keeps (hw.mono rfl) ?_
      assumption
  clear_value y24
  extract_lets -merge -useContext +onlyGivenNames v36
  clear_value v36
  refine State.Keeps.foldl ?_ ?_
  · refine State.setTs_keeps (hw.mono rfl) ?_
    assumption
  · intro a41 a42 a43
    refine State.Keeps.ite ?_ ?_
    · refine State.supHole_keeps (hw.mono rfl) ?_
      assumption
    · assumption

theorem State.tsStart_keeps {w : Nat} {s0 : State} {x0 : State} {x1 : Fin 8} {x2 : ℕ} {x3 : ℤ} (hw : Has w 355346507797191507461727925705726233939808) (hx0 : State.Keeps w s0 x0) :
    State.Keeps w s0 (State.tsStart x0 x1 x2 x3) := by
  unfold State.tsStart
  extract_lets -merge -useContext +onlyGivenNames v1
  clear_value v1
  extract_lets -merge -useContext +onlyGivenNames v3
  clear_value v3
  extract_lets -merge -useContext +onlyGivenNames y5
  have h6 : State.Keeps w s0 y5 := by
    unfold y5
    refine State.setSar_keeps (hw.mono rfl) ?_
    refine State.smbit_keeps ?_ ?_
    · exact hw.reg (by omega) (RegGroup.tsarCtrl_at (by omega) (by omega)) rfl
    · assumption
  clear_value y5
  extract_lets -merge -useContext +onlyGivenNames y12
  have h13 : State.Keeps w s0 y12 := by
    unfold y12
    refine State.setTs_keeps (hw.mono rfl) ?_
    assumption
  clear_value y12
  extract_lets -merge -useContext +onlyGivenNames y17
  have h18 : State.Keeps w s0 y17 := by
    unfold y17
    refine State.tsPublish_keeps (hw.mono rfl) ?_
    assumption
  clear_value y17
  extract_lets -merge -useContext +onlyGivenNames y22
  have h23 : State.Keeps w s0 y22 := by
    unfold y22
    refine State.Keeps.ite ?_ ?_
    · refine State.tsRestartGap_keeps (hw.mono rfl) ?_
      assumption
    · assumption
  clear_value y22
  refine State.tsSample_keeps (hw.mono rfl) ?_
  refine State.supOrder_keeps (hw.mono rfl) ?_
  assumption

theorem State.unlockEnd_keeps {w : Nat} {s0 : State} {x0 : State} (hw : Has w 7352984010752) (hx0 : State.Keeps w s0 x0) :
    State.Keeps w s0 (State.unlockEnd x0) := by
  unfold State.unlockEnd
  refine State.Keeps.ite ?_ ?_
  · refine State.storeKeyZero_keeps (hw.mono rfl) ?_
    refine State.Keeps.upd_sec (s := x0) ?_ ?_ ?_ ?_ ?_ ?_ ?_ ?_ ?_ ?_ ?_
    · exact .inl (hw.bit rfl)
    · exact .inr rfl
    · exact .inl (hw.bit rfl)
    · exact .inl (hw.bit rfl)
    · exact .inr rfl
    · exact .inr rfl
    · exact fun _ => rfl
    · exact fun _ => rfl
    · exact fun _ h h' => ⟨h, h'⟩
    · exact fun h => ⟨Nat.le_refl _, h⟩
    · assumption
  · assumption

theorem State.wiped_keeps {w : Nat} {s0 : State} {x0 : State} {x1 : Phase} (hw : Has w 11692013098647223345629478661711835350330997997053) (hx0 : State.Keeps w s0 x0) :
    State.Keeps w s0 (State.wiped x0 x1) := by
  refine hx0.trans ⟨rfl, rfl, id, id, fun _ _ h => ⟨h, h⟩, fun h => ⟨(Nat.le_add_right _ _).trans h, Nat.le_refl _⟩, Nat.le_refl _, List.suffix_refl _, SMap.wf_filter _ _ _, fun _ => rfl, id, List.prefix_refl _, fun p hp => ?_, fun f hl hf => ?_⟩
  · cases p <;> first | exact named hp (.inl (hw.bit rfl)) | exact rfl | exact Nat.le_refl _
  · rw [(hw.mono rfl : Has w allRegs).anyReg] at hf
    exact Bool.noConfusion hf

theorem State.wrDoorbell_keeps {w : Nat} {s0 : State} {x0 : State} {x1 : Fin 64} {x2 : Word} (hw : Has w 6620624118317492119427791335461448575878112) (hx0 : State.Keeps w s0 x0) :
    State.Keeps w s0 (State.wrDoorbell x0 x1 x2) := by
  unfold State.wrDoorbell
  extract_lets -merge -useContext +onlyGivenNames v1
  clear_value v1
  refine State.Keeps.ite ?_ ?_
  · refine State.sf_keeps ?_ ?_
    · exact hw.reg (by omega) (RegGroup.hostErr_at (by omega) (by omega)) rfl
    · assumption
  · refine State.Keeps.ite ?_ ?_
    · extract_lets -merge -useContext +onlyGivenNames y8
      have h9 : State.Keeps w s0 y8 := by
        unfold y8
        refine State.setRing_keeps ?_ ?_ ?_ ?_
        · exact hw.bit rfl
        · exact .inr fun _ => rfl
        · exact .inr fun _ => rfl
        · assumption
      clear_value y8
      refine State.Keeps.ite ?_ ?_
      · assumption
      · refine State.tryCpl_keeps (hw.mono rfl) ?_
        refine State.pumpGaps_keeps (hw.mono rfl) ?_
        refine State.pumpRing_keeps (hw.mono rfl) ?_
        assumption
    · refine State.haltRing_keeps (hw.mono rfl) ?_
      assumption

theorem State.wrMsix_keeps {w : Nat} {s0 : State} {x0 : State} {x1 : ℕ} {x2 : Word} (hw : Has w 51539608064) (hx0 : State.Keeps w s0 x0) :
    State.Keeps w s0 (State.wrMsix x0 x1 x2) := by
  unfold State.wrMsix
  extract_lets -merge -useContext +onlyGivenNames k e w1 e1
  clear_value e1
  exact State.msixFlush_keeps (hw.mono rfl) (State.Keeps.upd_link (s := x0) (.inl (hw.bit rfl)) (.inr rfl) hx0)

theorem State.writeDw_keeps {w : Nat} {s0 : State} {x0 : State} {x1 : ℕ} {x2 : Word} (hw : Has w 11692013098647223345629478661711822665259979561952) (hx0 : State.Keeps w s0 x0) :
    State.Keeps w s0 (State.writeDw x0 x1 x2) := by
  unfold State.writeDw
  refine State.Keeps.ite ?_ ?_
  · refine State.writeReg_keeps (hw.mono rfl) ?_
    assumption
  · refine State.Keeps.ite ?_ ?_
    · refine State.Keeps.ite ?_ ?_
      · refine State.wrDoorbell_keeps (hw.mono rfl) ?_
        assumption
      · assumption
    · refine State.Keeps.ite ?_ ?_
      · refine State.wrMsix_keeps (hw.mono rfl) ?_
        assumption
      · assumption

theorem execPowerOnReset_keeps {w : Nat} {s0 : State} {x0 : ℕ} {x1 : State} (hw : Has w 11692013098647223345629478661711835350606412774911) (hx1 : State.Keeps w s0 x1) :
    OutKeeps w s0 (execPowerOnReset x0 x1) := by
  unfold execPowerOnReset
  split
  rename_i b1 b2 b3 e4
  have h5 : State.Keeps w s0 b3 := by
    refine State.Keeps.ofPair e4 ?_
    refine State.pulse_keeps (hw.mono rfl) ?_
    assumption
  refine OutKeeps.next ?_
  refine State.Keeps.ite ?_ ?_
  · assumption
  · extract_lets -merge -useContext +onlyGivenNames y12
    have h13 : State.Keeps w s0 y12 := by
      unfold y12
      refine State.Keeps.ite ?_ ?_
      · refine State.leave_keeps (hw.mono rfl) ?_
        assumption
      · assumption
    clear_value y12
    extract_lets -merge -useContext +onlyGivenNames y19
    have h20 : State.Keeps w s0 y19 := by
      unfold y19
      refine State.nvmAbandon_keeps (hw.mono rfl) ?_
      assumption
    clear_value y19
    extract_lets -merge -useContext +onlyGivenNames y24
    extract_lets -merge -useContext +onlyGivenNames y26
    have h27 : State.Keeps w s0 y26 := by
      unfold y26
      refine State.Keeps.upd_rst (s := y19) ?_ ?_ ?_
      · exact hw.bit rfl
      · exact .inl (hw.bit rfl)
      · assumption
    clear_value y26
    refine State.wiped_keeps (hw.mono rfl) ?_
    assumption

end Sys2Proof.Machine
end

