-- ==== Sys2Proof/Laws/KeepsE.lean ====
section
/-! SUPPORT. Every operation of the model keeps what `State.Keeps` says: one lemma for each operation, in the order in which they
call one another (part 5 of 5). Each names, as a mask, the parts and register groups that the operation may change. -/

namespace Sys2Proof.Machine

theorem execPorSuppliesSettled_keeps {w : Nat} {s0 : State} {x0 : State} (hw : Has w 1073741825) (hx0 : State.Keeps w s0 x0) :
    OutKeeps w s0 (execPorSuppliesSettled x0) := by
  unfold execPorSuppliesSettled
  refine OutKeeps.next ?_
  refine State.Keeps.ite ?_ ?_
  · refine State.Keeps.upd_rst (s := x0) ?_ ?_ ?_
    · exact hw.bit rfl
    · exact .inl (hw.bit rfl)
    · assumption
  · assumption

theorem execResetNAssert_keeps {w : Nat} {s0 : State} {x0 : ℕ} {x1 : State} (hw : Has w 19342813118338149119950979) (hx1 : State.Keeps w s0 x1) :
    OutKeeps w s0 (execResetNAssert x0 x1) := by
  unfold execResetNAssert
  split
  rename_i b1 b2 b3 e4
  have h5 : State.Keeps w s0 b3 := by
    refine State.Keeps.ofPair e4 ?_
    refine State.pulse_keeps (hw.mono rfl) ?_
    assumption
  refine OutKeeps.next ?_
  refine State.Keeps.ite ?_ ?_
  · refine State.beginReset_keeps (hw.mono rfl) ?_
    assumption
  · assumption

theorem execPerstNAssert_keeps {w : Nat} {s0 : State} {x0 : ℕ} {x1 : State} (hw : Has w 19342813118338149119950979) (hx1 : State.Keeps w s0 x1) :
    OutKeeps w s0 (execPerstNAssert x0 x1) := by
  unfold execPerstNAssert
  split
  rename_i b1 b2 b3 e4
  have h5 : State.Keeps w s0 b3 := by
    refine State.Keeps.ofPair e4 ?_
    refine State.pulse_keeps (hw.mono rfl) ?_
    assumption
  refine OutKeeps.next ?_
  refine State.Keeps.ite ?_ ?_
  · refine State.beginReset_keeps (hw.mono rfl) ?_
    assumption
  · assumption

theorem execHotReset_keeps {w : Nat} {s0 : State} {x0 : State} (hw : Has w 19342813118338149119950979) (hx0 : State.Keeps w s0 x0) :
    OutKeeps w s0 (execHotReset x0) := by
  unfold execHotReset
  refine OutKeeps.next ?_
  refine State.Keeps.ite ?_ ?_
  · refine State.beginReset_keeps (hw.mono rfl) ?_
    assumption
  · assumption

theorem execFullResetSaveDone_keeps {w : Nat} {s0 : State} {x0 : State} (hw : Has w 11692013098647223345629478661711835350606412775421) (hx0 : State.Keeps w s0 x0) :
    OutKeeps w s0 (execFullResetSaveDone x0) := by
  unfold execFullResetSaveDone
  refine OutKeeps.next ?_
  refine State.Keeps.ite ?_ ?_
  · refine State.wiped_keeps (hw.mono rfl) ?_
    refine State.gaspEnd_keeps (hw.mono rfl) ?_
    assumption
  · assumption

theorem execResetRelease_keeps {w : Nat} {s0 : State} {x0 : Straps} {x1 : State} (hw : Has w 11692013098647223345629478661711817946148504207873) (hx1 : State.Keeps w s0 x1) :
    OutKeeps w s0 (execResetRelease x0 x1) := by
  unfold execResetRelease
  refine OutKeeps.next ?_
  refine State.Keeps.ite ?_ ?_
  · extract_lets -merge -useContext +onlyGivenNames y3
    extract_lets -merge -useContext +onlyGivenNames y5
    have h6 : State.Keeps w s0 y5 := by
      unfold y5
      refine State.Keeps.upd_rst (s := x1) ?_ ?_ ?_
      · exact hw.bit rfl
      · exact .inr rfl
      · assumption
    clear_value y5
    refine State.Keeps.ite ?_ ?_
    · assumption
    · refine State.releaseReset_keeps (hw.mono rfl) ?_
      assumption
  · assumption

theorem execStartupReady_keeps {w : Nat} {s0 : State} {x0 : ℕ} {x1 : List (Fin 64)} {x2 : List (Fin 2)} {x3 : State} (hw : Has w 11692013098647223345629478661711823896155730217827) (hx3 : State.Keeps w s0 x3) :
    OutKeeps w s0 (execStartupReady x0 x1 x2 x3) := by
  unfold execStartupReady
  refine OutKeeps.next ?_
  refine State.Keeps.ite ?_ ?_
  · refine State.goReady_keeps (hw.mono rfl) ?_
    assumption
  · assumption

theorem execPfiRegister_keeps {w : Nat} {s0 : State} {x0 : ℕ} {x1 : State} (hw : Has w 1032587313283) (hx1 : State.Keeps w s0 x1) :
    OutKeeps w s0 (execPfiRegister x0 x1) := by
  unfold execPfiRegister
  split
  rename_i b1 b2 b3 e4
  have h5 : State.Keeps w s0 b3 := by
    refine State.Keeps.ofPair e4 ?_
    refine State.pulse_keeps (hw.mono rfl) ?_
    assumption
  refine OutKeeps.next ?_
  refine State.Keeps.ite ?_ ?_
  · refine State.pfi_keeps (hw.mono rfl) ?_
    assumption
  · assumption

theorem execLastGaspSaveDone_keeps {w : Nat} {s0 : State} {x0 : State} (hw : Has w 11692013098647223345629478661711835350606412775421) (hx0 : State.Keeps w s0 x0) :
    OutKeeps w s0 (execLastGaspSaveDone x0) := by
  unfold execLastGaspSaveDone
  refine OutKeeps.next ?_
  refine State.Keeps.ite ?_ ?_
  · refine State.wiped_keeps (hw.mono rfl) ?_
    refine State.gaspEnd_keeps (hw.mono rfl) ?_
    assumption
  · assumption

theorem execPfiReleaseRestart_keeps {w : Nat} {s0 : State} {x0 : State} (hw : Has w 1073741825) (hx0 : State.Keeps w s0 x0) :
    OutKeeps w s0 (execPfiReleaseRestart x0) := by
  unfold execPfiReleaseRestart
  refine OutKeeps.next ?_
  refine State.Keeps.ite ?_ ?_
  · refine State.Keeps.upd_rst (s := x0) ?_ ?_ ?_
    · exact hw.bit rfl
    · exact .inl (hw.bit rfl)
    · assumption
  · assumption

theorem execRefclkStop_keeps {w : Nat} {s0 : State} {x0 : State} (hw : Has w 87112285931760246684697979411458204631552) (hx0 : State.Keeps w s0 x0) :
    OutKeeps w s0 (execRefclkStop x0) := by
  unfold execRefclkStop
  refine OutKeeps.next ?_
  refine State.Keeps.ite ?_ ?_
  · assumption
  · extract_lets -merge -useContext +onlyGivenNames y4
    have h5 : State.Keeps w s0 y4 := by
      unfold y4
      refine State.linkLost_keeps (hw.mono rfl) ?_
      refine State.sf_keeps ?_ ?_
      · exact hw.reg (by omega) (RegGroup.clk_at (by omega) (by omega)) rfl
      · assumption
    clear_value y4
    refine State.Keeps.ite ?_ ?_
    · assumption
    · refine State.sfs_keeps ?_ ?_
      · refine ⟨?_, ?_⟩
        · dsimp only
          exact hw.reg (by omega) (RegGroup.clk_at (by omega) (by omega)) rfl
        · refine ⟨?_, ?_⟩
          · dsimp only
            exact hw.reg (by omega) (RegGroup.clk_at (by omega) (by omega)) rfl
          · refine ⟨?_, ?_⟩
            · dsimp only
              exact hw.reg (by omega) (RegGroup.clk_at (by omega) (by omega)) rfl
            · exact trivial
      · refine State.Keeps.upd_time (s := y4) ?_ ?_ ?_
        · exact .inl (hw.bit rfl)
        · exact .inr rfl
        · assumption

theorem execCorePllRelock_keeps {w : Nat} {s0 : State} {x0 : State} (hw : Has w 348539531230754360908649508349332946158432) (hx0 : State.Keeps w s0 x0) :
    OutKeeps w s0 (execCorePllRelock x0) := by
  unfold execCorePllRelock
  refine OutKeeps.next ?_
  refine State.Keeps.ite ?_ ?_
  · refine State.startSign_keeps (hw.mono rfl) ?_
    refine State.tsDrain_keeps (hw.mono rfl) ?_
    refine State.fifoDrain_keeps (hw.mono rfl) ?_
    refine State.sf_keeps ?_ ?_
    · exact hw.reg (by omega) (RegGroup.clk_at (by omega) (by omega)) rfl
    · refine State.Keeps.upd_time (s := x0) ?_ ?_ ?_
      · exact .inl (hw.bit rfl)
      · exact .inr rfl
      · assumption
  · assumption

theorem execDecimatorOutputSample_keeps {w : Nat} {s0 : State} {x0 : Fin 2} {x1 : List ChIn} {x2 : ℚ} {x3 : State} (hw : Has w 377124668299604746638777290707273164525408) (hx3 : State.Keeps w s0 x3) :
    OutKeeps w s0 (execDecimatorOutputSample x0 x1 x2 x3) := by
  unfold execDecimatorOutputSample
  refine OutKeeps.next ?_
  refine State.Keeps.ite ?_ ?_
  · extract_lets -merge -useContext +onlyGivenNames y3
    have h4 : State.Keeps w s0 y3 := by
      unfold y3
      refine State.grpDue_keeps (hw.mono rfl) ?_
      assumption
    clear_value y3
    extract_lets -merge -useContext +onlyGivenNames y8
    have h9 : State.Keeps w s0 y8 := by
      unfold y8
      refine State.groupTick_keeps (hw.mono rfl) ?_
      refine State.calSettle_keeps (hw.mono rfl) ?_
      assumption
    clear_value y8
    extract_lets -merge -useContext +onlyGivenNames y14
    have h15 : State.Keeps w s0 y14 := by
      unfold y14
      refine State.Keeps.ite ?_ ?_
      · refine State.calReach_keeps (hw.mono rfl) ?_
        assumption
      · refine State.flickTick_keeps (hw.mono rfl) ?_
        assumption
    clear_value y14
    refine State.grpDue_keeps (hw.mono rfl) ?_
    assumption
  · assumption

theorem execCoreStallGapRecord_keeps {w : Nat} {s0 : State} {x0 : Fin 24} {x1 : State} (hw : Has w 348539531230754360870870576345088808717152) (hx1 : State.Keeps w s0 x1) :
    OutKeeps w s0 (execCoreStallGapRecord x0 x1) := by
  unfold execCoreStallGapRecord
  refine OutKeeps.next ?_
  refine State.Keeps.ite ?_ ?_
  · assumption
  · split
    · rename_i e4
      refine State.grpStall_keeps (hw.mono rfl) ?_
      refine State.chStall_keeps (hw.mono rfl) ?_
      assumption
    · rename_i e8
      refine State.tsStall_keeps (hw.mono rfl) ?_
      assumption

theorem execFirstSampleDelivered_keeps {w : Nat} {s0 : State} {x0 : Fin 2} {x1 : List ChIn} {x2 : ℚ} {x3 : State} (hw : Has w 5925088294852798611071541380220568750264288) (hx3 : State.Keeps w s0 x3) :
    OutKeeps w s0 (execFirstSampleDelivered x0 x1 x2 x3) := by
  unfold execFirstSampleDelivered
  refine OutKeeps.next ?_
  split
  · rename_i b2 b3 e4
    refine State.Keeps.ite ?_ ?_
    · refine State.firstSample_keeps (hw.mono rfl) ?_
      assumption
    · assumption
  · rename_i b9 e10
    assumption

theorem execStuckModulatorFence_keeps {w : Nat} {s0 : State} {x0 : Fin 16} {x1 : State} (hw : Has w 377124668299604746789929900106774916893536) (hx1 : State.Keeps w s0 x1) :
    OutKeeps w s0 (execStuckModulatorFence x0 x1) := by
  unfold execStuckModulatorFence
  refine OutKeeps.next ?_
  refine State.Keeps.ite ?_ ?_
  · refine State.chFence_keeps (hw.mono rfl) ?_
    assumption
  · assumption

theorem execThresholdAssert_keeps {w : Nat} {s0 : State} {x0 : Fin 16} {x1 : Bool} {x2 : State} (hw : Has w 348540860458750165129556593423265259848544) (hx2 : State.Keeps w s0 x2) :
    OutKeeps w s0 (execThresholdAssert x0 x1 x2) := by
  unfold execThresholdAssert
  refine OutKeeps.next ?_
  refine State.Keeps.ite ?_ ?_
  · refine State.thrSettleTo_keeps (hw.mono rfl) ?_
    assumption
  · assumption

theorem execThresholdDeassert_keeps {w : Nat} {s0 : State} {x0 : Fin 16} {x1 : Bool} {x2 : State} (hw : Has w 348540860458750165129556593423265259848544) (hx2 : State.Keeps w s0 x2) :
    OutKeeps w s0 (execThresholdDeassert x0 x1 x2) := by
  unfold execThresholdDeassert
  refine OutKeeps.next ?_
  refine State.Keeps.ite ?_ ?_
  · refine State.thrSettleTo_keeps (hw.mono rfl) ?_
    assumption
  · assumption

theorem execThresholdRegWrite_keeps {w : Nat} {s0 : State} {x0 : Fin 16} {x1 : Fin 3} {x2 : Word} {x3 : State} (hw : Has w 348540860458750165129556593423265259848544) (hx3 : State.Keeps w s0 x3) :
    OutKeeps w s0 (execThresholdRegWrite x0 x1 x2 x3) := by
  unfold execThresholdRegWrite
  refine OutKeeps.next ?_
  refine State.Keeps.ite ?_ ?_
  · refine State.wrThr_keeps (hw.mono rfl) ?_
    assumption
  · assumption

theorem execAfeChCfgWrite_keeps {w : Nat} {s0 : State} {x0 : Port} {x1 : Fin 16} {x2 : Word} {x3 : State} (hw : Has w 348539531230754361777564935998306530624352) (hx3 : State.Keeps w s0 x3) :
    OutKeeps w s0 (execAfeChCfgWrite x0 x1 x2 x3) := by
  unfold execAfeChCfgWrite
  refine OutKeeps.next ?_
  refine State.Keeps.ite ?_ ?_
  · refine State.wrAfeCh_keeps (hw.mono rfl) ?_ ?_
    · assumption
    · exact .inl (by omega)
  · assumption

theorem execAfeRefSelWrite_keeps {w : Nat} {s0 : State} {x0 : Port} {x1 : Word} {x2 : State} (hw : Has w 348539531230754361248659889916906266690400) (hx2 : State.Keeps w s0 x2) :
    OutKeeps w s0 (execAfeRefSelWrite x0 x1 x2) := by
  unfold execAfeRefSelWrite
  refine OutKeeps.next ?_
  refine State.Keeps.ite ?_ ?_
  · refine State.wrAfeRef_keeps (hw.mono rfl) ?_
    assumption
  · assumption

theorem execRefReady_keeps {w : Nat} {s0 : State} {x0 : State} (hw : Has w 75557863725914323419136) (hx0 : State.Keeps w s0 x0) :
    OutKeeps w s0 (execRefReady x0) := by
  unfold execRefReady
  refine OutKeeps.next ?_
  refine State.Keeps.ite ?_ ?_
  · refine State.sf_keeps ?_ ?_
    · exact hw.reg (by omega) (RegGroup.afeRef_at (by omega) (by omega)) rfl
    · assumption
  · assumption

theorem execAfeCheckGo_keeps {w : Nat} {s0 : State} {x0 : Word} {x1 : State} (hw : Has w 1511157274518286468513792) (hx1 : State.Keeps w s0 x1) :
    OutKeeps w s0 (execAfeCheckGo x0 x1) := by
  unfold execAfeCheckGo
  refine OutKeeps.next ?_
  refine State.Keeps.ite ?_ ?_
  · refine State.wrChk_keeps (hw.mono rfl) ?_
    assumption
  · assumption

theorem execCheckSelectorMove_keeps {w : Nat} {s0 : State} {x0 : List (List ℤ)} {x1 : State} (hw : Has w 537001984) (hx1 : State.Keeps w s0 x1) :
    OutKeeps w s0 (execCheckSelectorMove x0 x1) := by
  unfold execCheckSelectorMove
  extract_lets -merge -useContext +onlyGivenNames v1
  clear_value v1
  refine OutKeeps.next ?_
  refine State.Keeps.ite ?_ ?_
  · assumption
  · refine State.Keeps.ite ?_ ?_
    · refine State.Keeps.upd_chk (s := x1) ?_ ?_
      · exact hw.bit rfl
      · assumption
    · refine State.Keeps.ite ?_ ?_
      · refine State.Keeps.upd_chk_free (s := x1) ?_ ?_ ?_
        · exact hw.bit rfl
        · exact hw.bit rfl
        · assumption
      · refine State.Keeps.ite ?_ ?_
        · refine State.Keeps.upd_chk_free (s := x1) ?_ ?_ ?_
          · exact hw.bit rfl
          · exact hw.bit rfl
          · assumption
        · assumption

theorem execAfeCheckDone_keeps {w : Nat} {s0 : State} {x0 : List (List ℤ)} {x1 : State} (hw : Has w 1208925819614629174837248) (hx1 : State.Keeps w s0 x1) :
    OutKeeps w s0 (execAfeCheckDone x0 x1) := by
  unfold execAfeCheckDone
  extract_lets -merge -useContext +onlyGivenNames v1
  clear_value v1
  refine OutKeeps.next ?_
  refine State.Keeps.ite ?_ ?_
  · extract_lets -merge -useContext +onlyGivenNames y5
    have h6 : State.Keeps w s0 y5 := by
      unfold y5
      refine State.chkResults_keeps (hw.mono rfl) ?_
      assumption
    clear_value y5
    extract_lets -merge -useContext +onlyGivenNames y10
    have h11 : State.Keeps w s0 y10 := by
      unfold y10
      refine State.Keeps.upd_chk (s := y5) ?_ ?_
      · exact hw.bit rfl
      · assumption
    clear_value y10
    refine State.sfs_keeps ?_ ?_
    · refine ⟨?_, ?_⟩
      · dsimp only
        exact hw.reg (by omega) (RegGroup.afeChk_at (by omega) (by omega)) rfl
      · refine ⟨?_, ?_⟩
        · dsimp only
          exact hw.reg (by omega) (RegGroup.afeChk_at (by omega) (by omega)) rfl
        · refine ⟨?_, ?_⟩
          · dsimp only
            exact hw.reg (by omega) (RegGroup.afeChk_at (by omega) (by omega)) rfl
          · exact trivial
    · assumption
  · assumption

theorem execProfCfgWrite_keeps {w : Nat} {s0 : State} {x0 : Port} {x1 : Fin 16} {x2 : Word} {x3 : State} (hw : Has w 348539531230754372960128767433626396656480) (hx3 : State.Keeps w s0 x3) :
    OutKeeps w s0 (execProfCfgWrite x0 x1 x2 x3) := by
  unfold execProfCfgWrite
  refine OutKeeps.next ?_
  refine State.Keeps.ite ?_ ?_
  · refine State.wrProf_keeps (hw.mono rfl) ?_ ?_
    · assumption
    · exact .inl (by omega)
  · assumption

theorem execStart_keeps {w : Nat} {s0 : State} {x0 : State} (hw : Has w 5926448271630579765206842328555190446195681) (hx0 : State.Keeps w s0 x0) :
    OutKeeps w s0 (execStart x0) := by
  unfold execStart
  refine OutKeeps.next ?_
  refine State.onCmd_keeps (hw.mono rfl) ?_ ?_
  · assumption
  · intro a4 a5 a6
    refine State.doStart_keeps (hw.mono rfl) ?_
    assumption

theorem execStop_keeps {w : Nat} {s0 : State} {x0 : State} (hw : Has w 5952310967932260536707294399461477186276320) (hx0 : State.Keeps w s0 x0) :
    OutKeeps w s0 (execStop x0) := by
  unfold execStop
  refine OutKeeps.next ?_
  refine State.onCmd_keeps (hw.mono rfl) ?_ ?_
  · assumption
  · intro a4 a5 a6
    refine State.doStop_keeps (hw.mono rfl) ?_
    assumption

theorem execTsarEnable_keeps {w : Nat} {s0 : State} {x0 : BitVec 8} {x1 : State} (hw : Has w 10384594645524684721096198969098240) (hx1 : State.Keeps w s0 x1) :
    OutKeeps w s0 (execTsarEnable x0 x1) := by
  unfold execTsarEnable
  refine OutKeeps.next ?_
  refine State.Keeps.ite ?_ ?_
  · refine State.tsEnable_keeps (hw.mono rfl) ?_
    assumption
  · assumption

theorem execTsarPairStart_keeps {w : Nat} {s0 : State} {x0 : Fin 8} {x1 : ℕ} {x2 : ℤ} {x3 : State} (hw : Has w 355346507797191507461727925705726233939808) (hx3 : State.Keeps w s0 x3) :
    OutKeeps w s0 (execTsarPairStart x0 x1 x2 x3) := by
  unfold execTsarPairStart
  refine OutKeeps.next ?_
  refine State.Keeps.ite ?_ ?_
  · refine State.tsStart_keeps (hw.mono rfl) ?_
    assumption
  · assumption

theorem execTsarDisable_keeps {w : Nat} {s0 : State} {x0 : BitVec 8} {x1 : State} (hw : Has w 309485009821345068861095936) (hx1 : State.Keeps w s0 x1) :
    OutKeeps w s0 (execTsarDisable x0 x1) := by
  unfold execTsarDisable
  refine OutKeeps.next ?_
  refine State.Keeps.ite ?_ ?_
  · refine State.tsDisable_keeps (hw.mono rfl) ?_
    assumption
  · assumption

theorem execTsarPairStop_keeps {w : Nat} {s0 : State} {x0 : Fin 8} {x1 : State} (hw : Has w 348539541615370670346242786529548797479776) (hx1 : State.Keeps w s0 x1) :
    OutKeeps w s0 (execTsarPairStop x0 x1) := by
  unfold execTsarPairStop
  refine OutKeeps.next ?_
  refine State.Keeps.ite ?_ ?_
  · refine State.tsEnd_keeps (hw.mono rfl) ?_
    assumption
  · assumption

theorem execTransientSample_keeps {w : Nat} {s0 : State} {x0 : Fin 8} {x1 : ℤ} {x2 : State} (hw : Has w 355346507797191197976718104360657509156704) (hx2 : State.Keeps w s0 x2) :
    OutKeeps w s0 (execTransientSample x0 x1 x2) := by
  unfold execTransientSample
  refine OutKeeps.next ?_
  refine State.Keeps.ite ?_ ?_
  · refine State.tsSample_keeps (hw.mono rfl) ?_
    assumption
  · assumption

theorem execFastevtHoldExpire_keeps {w : Nat} {s0 : State} {x0 : Fin 2} {x1 : State} (hw : Has w 2475880078570760549798248448) (hx1 : State.Keeps w s0 x1) :
    OutKeeps w s0 (execFastevtHoldExpire x0 x1) := by
  unfold execFastevtHoldExpire
  refine OutKeeps.next ?_
  refine State.Keeps.ite ?_ ?_
  · assumption
  · refine State.smbit_keeps ?_ ?_
    · exact hw.reg (by omega) (RegGroup.fastPin_at (by omega) (by omega)) rfl
    · assumption

theorem execTransientAnchorLatch_keeps {w : Nat} {s0 : State} {x0 : Fin 8} {x1 : ℕ} {x2 : State} (hw : Has w 134217728) (hx2 : State.Keeps w s0 x2) :
    OutKeeps w s0 (execTransientAnchorLatch x0 x1 x2) := by
  unfold execTransientAnchorLatch
  refine OutKeeps.next ?_
  refine State.Keeps.ite ?_ ?_
  · refine State.setTs_keeps (hw.mono rfl) ?_
    assumption
  · assumption

theorem execTsarMapWrite_keeps {w : Nat} {s0 : State} {x0 : Word} {x1 : State} (hw : Has w 1856910058928070412348686336) (hx1 : State.Keeps w s0 x1) :
    OutKeeps w s0 (execTsarMapWrite x0 x1) := by
  unfold execTsarMapWrite
  refine OutKeeps.next ?_
  refine State.Keeps.ite ?_ ?_
  · refine State.wrTsarMap_keeps (hw.mono rfl) ?_
    assumption
  · assumption

theorem execSarcalGo_keeps {w : Nat} {s0 : State} {x0 : Word} {x1 : State} (hw : Has w 154742504910672534496608256) (hx1 : State.Keeps w s0 x1) :
    OutKeeps w s0 (execSarcalGo x0 x1) := by
  unfold execSarcalGo
  refine OutKeeps.next ?_
  refine State.Keeps.ite ?_ ?_
  · refine State.wrSarCal_keeps (hw.mono rfl) ?_
    assumption
  · assumption

theorem execSarcalDone_keeps {w : Nat} {s0 : State} {x0 : List SarRes} {x1 : HsarRes} {x2 : ℤ} {x3 : State} (hw : Has w 10384688883710175320669625664929792) (hx3 : State.Keeps w s0 x3) :
    OutKeeps w s0 (execSarcalDone x0 x1 x2 x3) := by
  unfold execSarcalDone
  refine OutKeeps.next ?_
  refine State.Keeps.ite ?_ ?_
  · refine State.sarDone_keeps (hw.mono rfl) ?_
    assumption
  · assumption

theorem execHsarPassTick_keeps {w : Nat} {s0 : State} {x0 : State} (hw : Has w 4951760157141521099730714624) (hx0 : State.Keeps w s0 x0) :
    OutKeeps w s0 (execHsarPassTick x0) := by
  unfold execHsarPassTick
  refine OutKeeps.next ?_
  refine State.Keeps.ite ?_ ?_
  · assumption
  · extract_lets -merge -useContext +onlyGivenNames v4
    clear_value v4
    extract_lets -merge -useContext +onlyGivenNames y6
    have h7 : State.Keeps w s0 y6 := by
      unfold y6
      refine State.setSar_keeps (hw.mono rfl) ?_
      assumption
    clear_value y6
    extract_lets -merge -useContext +onlyGivenNames y11
    have h12 : State.Keeps w s0 y11 := by
      unfold y11
      refine State.Keeps.ite ?_ ?_
      · refine State.hsarWindow_keeps (hw.mono rfl) ?_
        assumption
      · assumption
    clear_value y11
    refine State.Keeps.ite ?_ ?_
    · assumption
    · extract_lets -merge -useContext +onlyGivenNames y20
      have h21 : State.Keeps w s0 y20 := by
        unfold y20
        refine State.incSat_keeps ?_ ?_
        · exact hw.reg (by omega) (RegGroup.hsar_at (by omega) (by omega)) rfl
        · assumption
      clear_value y20
      refine State.Keeps.ite ?_ ?_
      · refine State.setSar_keeps (hw.mono rfl) ?_
        assumption
      · refine State.setSar_keeps (hw.mono rfl) ?_
        assumption

theorem execHsarConversionDone_keeps {w : Nat} {s0 : State} {x0 : ℤ} {x1 : State} (hw : Has w 348539531230833898594100094639704959353697) (hx1 : State.Keeps w s0 x1) :
    OutKeeps w s0 (execHsarConversionDone x0 x1) := by
  unfold execHsarConversionDone
  refine OutKeeps.next ?_
  refine State.Keeps.ite ?_ ?_
  · assumption
  · split
    · rename_i b4 b5 b6 e7
      refine State.bootConv_keeps (hw.mono rfl) ?_
      assumption
    · rename_i b10 b11 e12 e13
      assumption
    · rename_i b15 b16 b17 e18 e19
      extract_lets -merge -useContext +onlyGivenNames y21
      have h22 : State.Keeps w s0 y21 := by
        unfold y21
        split
        · rename_i e24
          refine State.Keeps.ite ?_ ?_
          · refine State.hsarPut_keeps (hw.mono rfl) ?_ ?_
            · assumption
            · exact .inl (by omega)
          · refine State.setSar_keeps (hw.mono rfl) ?_
            assumption
        · rename_i e31
          assumption
      clear_value y21
      refine State.setSar_keeps (hw.mono rfl) ?_
      assumption

theorem execHsarFilterPublish_keeps {w : Nat} {s0 : State} {x0 : Fin 32} {x1 : State} (hw : Has w 348539531230833898593952520687115282940768) (hx1 : State.Keeps w s0 x1) :
    OutKeeps w s0 (execHsarFilterPublish x0 x1) := by
  unfold execHsarFilterPublish
  refine OutKeeps.next ?_
  refine State.Keeps.ite ?_ ?_
  · assumption
  · extract_lets -merge -useContext +onlyGivenNames y4
    have h5 : State.Keeps w s0 y4 := by
      unfold y4
      refine State.setSar_keeps (hw.mono rfl) ?_
      assumption
    clear_value y4
    extract_lets -merge -useContext +onlyGivenNames v9
    clear_value v9
    extract_lets -merge -useContext +onlyGivenNames v11
    clear_value v11
    refine State.Keeps.ite ?_ ?_
    · assumption
    · split
      · rename_i b15 e16
        assumption
      · rename_i b18 b19 e20
        refine State.hsarPut_keeps (hw.mono rfl) ?_ ?_
        · assumption
        · exact .inl (by omega)

theorem execHsarUrgentGo_keeps {w : Nat} {s0 : State} {x0 : Word} {x1 : State} (hw : Has w 4951760157141521099730714624) (hx1 : State.Keeps w s0 x1) :
    OutKeeps w s0 (execHsarUrgentGo x0 x1) := by
  unfold execHsarUrgentGo
  refine OutKeeps.next ?_
  refine State.Keeps.ite ?_ ?_
  · refine State.wrHsarUrg_keeps (hw.mono rfl) ?_
    assumption
  · assumption

theorem execHsarUrgentDone_keeps {w : Nat} {s0 : State} {x0 : ℤ} {x1 : State} (hw : Has w 5261245166962866168455495680) (hx1 : State.Keeps w s0 x1) :
    OutKeeps w s0 (execHsarUrgentDone x0 x1) := by
  unfold execHsarUrgentDone
  refine OutKeeps.next ?_
  split
  · rename_i b2 e3
    assumption
  · rename_i b5 b6 b7 e8
    extract_lets -merge -useContext +onlyGivenNames y10
    have h11 : State.Keeps w s0 y10 := by
      unfold y10
      refine State.Keeps.ite ?_ ?_
      · refine State.tdrift_keeps (hw.mono rfl) ?_
        assumption
      · assumption
    clear_value y10
    extract_lets -merge -useContext +onlyGivenNames v17
    clear_value v17
    extract_lets -merge -useContext +onlyGivenNames y19
    have h20 : State.Keeps w s0 y19 := by
      unfold y19
      refine State.Keeps.ite ?_ ?_
      · refine State.sfs_keeps ?_ ?_
        · refine ⟨?_, ?_⟩
          · dsimp only
            exact hw.reg (by omega) (RegGroup.hsar_at (by omega) (by omega)) rfl
          · refine ⟨?_, ?_⟩
            · dsimp only
              exact hw.reg (by omega) (RegGroup.hsar_at (by omega) (by omega)) rfl
            · exact trivial
        · refine State.si_keeps ?_ ?_
          · exact hw.reg (by omega) (RegGroup.hsar_at (by omega) (by omega)) rfl
          · assumption
      · refine State.sfs_keeps ?_ ?_
        · refine ⟨?_, ?_⟩
          · dsimp only
            exact hw.reg (by omega) (RegGroup.hsar_at (by omega) (by omega)) rfl
          · refine ⟨?_, ?_⟩
            · dsimp only
              exact hw.reg (by omega) (RegGroup.hsar_at (by omega) (by omega)) rfl
            · refine ⟨?_, ?_⟩
              · dsimp only
                exact hw.reg (by omega) (RegGroup.hsar_at (by omega) (by omega)) rfl
              · exact trivial
        · refine State.si_keeps ?_ ?_
          · exact hw.reg (by omega) (RegGroup.hsar_at (by omega) (by omega)) rfl
          · assumption
    clear_value y19
    extract_lets -merge -useContext +onlyGivenNames y43
    have h44 : State.Keeps w s0 y43 := by
      unfold y43
      refine State.hsarUrgent_keeps (hw.mono rfl) ?_
      refine State.setSar_keeps (hw.mono rfl) ?_
      assumption
    clear_value y43
    refine State.Keeps.ite ?_ ?_
    · assumption
    · refine State.Keeps.ite ?_ ?_
      · refine State.setSar_keeps (hw.mono rfl) ?_
        assumption
      · assumption

theorem execHsarSeqWrite_keeps {w : Nat} {s0 : State} {x0 : Option (Fin 32)} {x1 : Word} {x2 : State} (hw : Has w 123794003928538027490046640128) (hx2 : State.Keeps w s0 x2) :
    OutKeeps w s0 (execHsarSeqWrite x0 x1 x2) := by
  unfold execHsarSeqWrite
  refine OutKeeps.next ?_
  refine State.Keeps.ite ?_ ?_
  · split
    · rename_i b3 b4
      refine State.wrHsarSeq_keeps (hw.mono rfl) ?_
      assumption
    · rename_i b7
      refine State.wrHsarCtrl_keeps (hw.mono rfl) ?_
      assumption
  · assumption

theorem execPpsEdge_keeps {w : Nat} {s0 : State} {x0 : ℕ} {x1 : State} (hw : Has w 228365561364431786284280429807182685548945083360) (hx1 : State.Keeps w s0 x1) :
    OutKeeps w s0 (execPpsEdge x0 x1) := by
  unfold execPpsEdge
  refine OutKeeps.next ?_
  refine State.Keeps.ite ?_ ?_
  · extract_lets -merge -useContext +onlyGivenNames y3
    have h4 : State.Keeps w s0 y3 := by
      unfold y3
      refine State.calReach_keeps (hw.mono rfl) ?_
      refine State.timeTo_keeps (hw.mono rfl) ?_
      assumption
    clear_value y3
    extract_lets -merge -useContext +onlyGivenNames v9
    clear_value v9
    extract_lets -merge -useContext +onlyGivenNames v11
    clear_value v11
    refine State.Keeps.ite ?_ ?_
    · refine State.ppsSet_keeps (hw.mono rfl) ?_
      refine State.ppsAccept_keeps (hw.mono rfl) ?_
      assumption
    · refine State.incWrap_keeps ?_ ?_
      · exact hw.reg (by omega) (RegGroup.pps_at (by omega) (by omega)) rfl
      · assumption
  · assumption

theorem execSlewEnd_keeps {w : Nat} {s0 : State} {x0 : State} (hw : Has w 316912650057058054061751795712) (hx0 : State.Keeps w s0 x0) :
    OutKeeps w s0 (execSlewEnd x0) := by
  unfold execSlewEnd
  refine OutKeeps.next ?_
  refine State.Keeps.ite ?_ ?_
  · refine State.slewStop_keeps (hw.mono rfl) ?_
    assumption
  · assumption

theorem execHoldoverEntry_keeps {w : Nat} {s0 : State} {x0 : State} (hw : Has w 348539531231071273520927628628912732373856) (hx0 : State.Keeps w s0 x0) :
    OutKeeps w s0 (execHoldoverEntry x0) := by
  unfold execHoldoverEntry
  refine OutKeeps.next ?_
  refine State.Keeps.ite ?_ ?_
  · refine State.ppsState_keeps (hw.mono rfl) ?_
    assumption
  · assumption

theorem execSetTimeNow_keeps {w : Nat} {s0 : State} {x0 : List Byte} {x1 : State} (hw : Has w 234074552135255627709989474027324785931716922336) (hx1 : State.Keeps w s0 x1) :
    OutKeeps w s0 (execSetTimeNow x0 x1) := by
  unfold execSetTimeNow
  refine OutKeeps.next ?_
  refine State.setTimeMode_keeps (hw.mono rfl) ?_
  assumption

theorem execSetTimeAtPps_keeps {w : Nat} {s0 : State} {x0 : List Byte} {x1 : State} (hw : Has w 234074552135255627709989474027324785931716922336) (hx1 : State.Keeps w s0 x1) :
    OutKeeps w s0 (execSetTimeAtPps x0 x1) := by
  unfold execSetTimeAtPps
  refine OutKeeps.next ?_
  refine State.setTimeMode_keeps (hw.mono rfl) ?_
  assumption

theorem execAtPpsTimeout_keeps {w : Nat} {s0 : State} {x0 : State} (hw : Has w 5923725830863410146254800139581366421423072) (hx0 : State.Keeps w s0 x0) :
    OutKeeps w s0 (execAtPpsTimeout x0) := by
  unfold execAtPpsTimeout
  refine OutKeeps.next ?_
  refine State.Keeps.ite ?_ ?_
  · refine State.finish_keeps (hw.mono rfl) ?_
    refine State.Keeps.upd_time (s := x0) ?_ ?_ ?_
    · exact .inl (hw.bit rfl)
    · exact .inr rfl
    · assumption
  · assumption

theorem execSetTimeOffset_keeps {w : Nat} {s0 : State} {x0 : List Byte} {x1 : State} (hw : Has w 234074552135255627709989474027324785931716922336) (hx1 : State.Keeps w s0 x1) :
    OutKeeps w s0 (execSetTimeOffset x0 x1) := by
  unfold execSetTimeOffset
  refine OutKeeps.next ?_
  refine State.setTimeMode_keeps (hw.mono rfl) ?_
  assumption

theorem execSetTimeLeap_keeps {w : Nat} {s0 : State} {x0 : List Byte} {x1 : State} (hw : Has w 234074552135255627709989474027324785931716922336) (hx1 : State.Keeps w s0 x1) :
    OutKeeps w s0 (execSetTimeLeap x0 x1) := by
  unfold execSetTimeLeap
  refine OutKeeps.next ?_
  refine State.setTimeMode_keeps (hw.mono rfl) ?_
  assumption

theorem execShadowSpanEnd_keeps {w : Nat} {s0 : State} {x0 : State} (hw : Has w 355345178569490042790195121059023220378464) (hx0 : State.Keeps w s0 x0) :
    OutKeeps w s0 (execShadowSpanEnd x0) := by
  unfold execShadowSpanEnd
  refine OutKeeps.next ?_
  refine State.Keeps.ite ?_ ?_
  · extract_lets -merge -useContext +onlyGivenNames v3
    clear_value v3
    extract_lets -merge -useContext +onlyGivenNames y5
    have h6 : State.Keeps w s0 y5 := by
      unfold y5
      refine State.sf_keeps ?_ ?_
      · exact hw.reg (by omega) (RegGroup.timeStat_at (by omega) (by omega)) rfl
      · refine State.timeTo_keeps (hw.mono rfl) ?_
        assumption
    clear_value y5
    refine State.calReach_keeps (hw.mono rfl) ?_
    refine State.Keeps.foldl ?_ ?_
    · assumption
    · intro a15 a16 a17
      refine State.tsShadowEnd_keeps (hw.mono rfl) ?_
      assumption
  · assumption

theorem execLeapSecond_keeps {w : Nat} {s0 : State} {x0 : State} (hw : Has w 228359986178132155529970946219958625703623396192) (hx0 : State.Keeps w s0 x0) :
    OutKeeps w s0 (execLeapSecond x0) := by
  unfold execLeapSecond
  refine OutKeeps.next ?_
  refine State.Keeps.ite ?_ ?_
  · extract_lets -merge -useContext +onlyGivenNames v3
    clear_value v3
    extract_lets -merge -useContext +onlyGivenNames y5
    have h6 : State.Keeps w s0 y5 := by
      unfold y5
      refine State.timeTo_keeps (hw.mono rfl) ?_
      assumption
    clear_value y5
    extract_lets -merge -useContext +onlyGivenNames v10
    clear_value v10
    extract_lets -merge -useContext +onlyGivenNames y12
    have h13 : State.Keeps w s0 y12 := by
      unfold y12
      refine State.sfs_keeps ?_ ?_
      · refine ⟨?_, ?_⟩
        · dsimp only
          exact hw.reg (by omega) (RegGroup.leap_at (by omega) (by omega)) rfl
        · refine ⟨?_, ?_⟩
          · dsimp only
            exact hw.reg (by omega) (RegGroup.leap_at (by omega) (by omega)) rfl
          · refine ⟨?_, ?_⟩
            · dsimp only
              exact hw.reg (by omega) (RegGroup.timeStat_at (by omega) (by omega)) rfl
            · exact trivial
      · assumption
    clear_value y12
    refine State.timeStep_keeps (hw.mono rfl) ?_
    assumption
  · assumption

theorem execXoHalt_keeps {w : Nat} {s0 : State} {x0 : State} (hw : Has w 228365583143933206378499225443986378961301801952) (hx0 : State.Keeps w s0 x0) :
    OutKeeps w s0 (execXoHalt x0) := by
  unfold execXoHalt
  refine OutKeeps.next ?_
  refine State.Keeps.ite ?_ ?_
  · refine State.halt_keeps (hw.mono rfl) ?_
    assumption
  · assumption

theorem execXoResume_keeps {w : Nat} {s0 : State} {x0 : State} (hw : Has w 228360095069919495341755686312482467847811631968) (hx0 : State.Keeps w s0 x0) :
    OutKeeps w s0 (execXoResume x0) := by
  unfold execXoResume
  refine OutKeeps.next ?_
  refine State.Keeps.ite ?_ ?_
  · extract_lets -merge -useContext +onlyGivenNames y3
    have h4 : State.Keeps w s0 y3 := by
      unfold y3
      refine State.sfs_keeps ?_ ?_
      · refine ⟨?_, ?_⟩
        · dsimp only
          exact hw.reg (by omega) (RegGroup.timeStat_at (by omega) (by omega)) rfl
        · refine ⟨?_, ?_⟩
          · dsimp only
            exact hw.reg (by omega) (RegGroup.clk_at (by omega) (by omega)) rfl
          · refine ⟨?_, ?_⟩
            · dsimp only
              exact hw.reg (by omega) (RegGroup.clk_at (by omega) (by omega)) rfl
            · refine ⟨?_, ?_⟩
              · dsimp only
                exact hw.reg (by omega) (RegGroup.clk_at (by omega) (by omega)) rfl
              · refine ⟨?_, ?_⟩
                · dsimp only
                  exact hw.reg (by omega) (RegGroup.clk_at (by omega) (by omega)) rfl
                · exact trivial
      · assumption
    clear_value y3
    refine State.Keeps.ite ?_ ?_
    · extract_lets -merge -useContext +onlyGivenNames y20
      clear_value y20
      extract_lets -merge -useContext +onlyGivenNames y22
      have h23 : State.Keeps w s0 y22 := by
        unfold y22
        refine State.sf_keeps ?_ ?_
        · exact hw.reg (by omega) (RegGroup.clk_at (by omega) (by omega)) rfl
        · refine State.Keeps.upd_time (s := y3) ?_ ?_ ?_
          · exact .inl (hw.bit rfl)
          · exact .inl (hw.bit rfl)
          · assumption
      clear_value y22
      extract_lets -merge -useContext +onlyGivenNames y31
      have h32 : State.Keeps w s0 y31 := by
        unfold y31
        refine State.raise_keeps (hw.mono rfl) ?_ ?_
        · refine State.startSign_keeps (hw.mono rfl) ?_
          refine State.tsDrain_keeps (hw.mono rfl) ?_
          refine State.fifoDrain_keeps (hw.mono rfl) ?_
          assumption
        · exact .inl (by omega)
      clear_value y31
      extract_lets -merge -useContext +onlyGivenNames y40
      clear_value y40
      extract_lets -merge -useContext +onlyGivenNames y42
      have h43 : State.Keeps w s0 y42 := by
        unfold y42
        refine State.Keeps.ite ?_ ?_
        · refine State.Keeps.upd_time (s := y31) ?_ ?_ ?_
          · exact .inl (hw.bit rfl)
          · exact .inl (hw.bit rfl)
          · assumption
        · refine State.haltClose_keeps (hw.mono rfl) ?_
          assumption
      clear_value y42
      refine State.ketSync_keeps (hw.mono rfl) ?_
      refine State.Keeps.ite ?_ ?_
      · refine State.linkLost_keeps (hw.mono rfl) ?_
        assumption
      · assumption
    · refine State.ketSync_keeps (hw.mono rfl) ?_
      assumption
  · assumption

theorem execHaltTimeReload_keeps {w : Nat} {s0 : State} {x0 : ℕ} {x1 : State} (hw : Has w 228359979372484822181804077865384083054522270560) (hx1 : State.Keeps w s0 x1) :
    OutKeeps w s0 (execHaltTimeReload x0 x1) := by
  unfold execHaltTimeReload
  extract_lets -merge -useContext +onlyGivenNames y1
  have h2 : State.Keeps w s0 y1 := by
    unfold y1
    refine State.ketRun_keeps (hw.mono rfl) ?_
    assumption
  clear_value y1
  refine OutKeeps.next ?_
  refine State.Keeps.ite ?_ ?_
  · extract_lets -merge -useContext +onlyGivenNames v8
    clear_value v8
    extract_lets -merge -useContext +onlyGivenNames v10
    clear_value v10
    extract_lets -merge -useContext +onlyGivenNames y12
    have h13 : State.Keeps w s0 y12 := by
      unfold y12
      refine State.slewStop_keeps (hw.mono rfl) ?_
      assumption
    clear_value y12
    extract_lets -merge -useContext +onlyGivenNames v17
    clear_value v17
    extract_lets -merge -useContext +onlyGivenNames v19
    clear_value v19
    extract_lets -merge -useContext +onlyGivenNames y21
    extract_lets -merge -useContext +onlyGivenNames y23
    have h24 : State.Keeps w s0 y23 := by
      unfold y23
      refine State.Keeps.upd_ket_time (s := y12) ?_ ?_ ?_ ?_ ?_
      · exact .inr rfl
      · exact .inr (le_max_left _ _)
      · exact .inl (hw.bit rfl)
      · exact .inl (hw.bit rfl)
      · assumption
    clear_value y23
    extract_lets -merge -useContext +onlyGivenNames y32
    have h33 : State.Keeps w s0 y32 := by
      unfold y32
      refine State.sf_keeps ?_ ?_
      · exact hw.reg (by omega) (RegGroup.halt_at (by omega) (by omega)) rfl
      · refine State.sf_keeps ?_ ?_
        · exact hw.reg (by omega) (RegGroup.timeStat_at (by omega) (by omega)) rfl
        · assumption
    clear_value y32
    extract_lets -merge -useContext +onlyGivenNames y40
    have h41 : State.Keeps w s0 y40 := by
      unfold y40
      refine State.ppsState_keeps (hw.mono rfl) ?_
      refine State.mirror_keeps (hw.mono rfl) ?_
      assumption
    clear_value y40
    extract_lets -merge -useContext +onlyGivenNames y46
    have h47 : State.Keeps w s0 y46 := by
      unfold y46
      refine State.logTime_keeps (hw.mono rfl) ?_
      assumption
    clear_value y46
    refine State.Keeps.foldl ?_ ?_
    · assumption
    · intro a53 a54 a55
      refine State.Keeps.ite ?_ ?_
      · refine State.setGrp_keeps ?_ ?_ ?_ ?_
        · exact hw.bit rfl
        · exact .inr fun _ => rfl
        · exact .inr fun _ => rfl
        · assumption
      · assumption
  · assumption

theorem execTpllUnlock_keeps {w : Nat} {s0 : State} {x0 : State} (hw : Has w 348539541615370670384021718392505959189344) (hx0 : State.Keeps w s0 x0) :
    OutKeeps w s0 (execTpllUnlock x0) := by
  unfold execTpllUnlock
  refine OutKeeps.next ?_
  refine State.Keeps.ite ?_ ?_
  · extract_lets -merge -useContext +onlyGivenNames v3
    clear_value v3
    extract_lets -merge -useContext +onlyGivenNames y5
    have h6 : State.Keeps w s0 y5 := by
      unfold y5
      refine State.sf_keeps ?_ ?_
      · exact hw.reg (by omega) (RegGroup.clk_at (by omega) (by omega)) rfl
      · assumption
    clear_value y5
    extract_lets -merge -useContext +onlyGivenNames y11
    have h12 : State.Keeps w s0 y11 := by
      unfold y11
      refine State.Keeps.ite ?_ ?_
      · refine State.sf_keeps ?_ ?_
        · exact hw.reg (by omega) (RegGroup.clk_at (by omega) (by omega)) rfl
        · assumption
      · assumption
    clear_value y11
    refine State.Keeps.foldl ?_ ?_
    · assumption
    · intro a21 a22 a23
      refine State.Keeps.ite ?_ ?_
      · refine State.tsEnd_keeps (hw.mono rfl) ?_
        assumption
      · assumption
  · assumption

theorem execTpllRelock_keeps {w : Nat} {s0 : State} {x0 : State} (hw : Has w 37778931862957161709568) (hx0 : State.Keeps w s0 x0) :
    OutKeeps w s0 (execTpllRelock x0) := by
  unfold execTpllRelock
  refine OutKeeps.next ?_
  refine State.Keeps.ite ?_ ?_
  · refine State.sf_keeps ?_ ?_
    · exact hw.reg (by omega) (RegGroup.clk_at (by omega) (by omega)) rfl
    · assumption
  · assumption

theorem execCycleBoundary_keeps {w : Nat} {s0 : State} {x0 : Fin 2} {x1 : ℕ} {x2 : List ℚ} {x3 : ℕ} {x4 : ℕ} {x5 : State} (hw : Has w 377124668299604746487661551714970204113760) (hx5 : State.Keeps w s0 x5) :
    OutKeeps w s0 (execCycleBoundary x0 x1 x2 x3 x4 x5) := by
  unfold execCycleBoundary
  extract_lets -merge -useContext +onlyGivenNames v1
  have h2 : State.Keeps w s0 v1 := by
    unfold v1
    assumption
  clear_value v1
  extract_lets -merge -useContext +onlyGivenNames y5
  have h6 : State.Keeps w s0 y5 := by
    unfold y5
    refine State.grpDue_keeps (hw.mono rfl) ?_
    assumption
  clear_value y5
  extract_lets -merge -useContext +onlyGivenNames v10
  clear_value v10
  extract_lets -merge -useContext +onlyGivenNames v12
  clear_value v12
  extract_lets -merge -useContext +onlyGivenNames v14
  clear_value v14
  extract_lets -merge -useContext +onlyGivenNames v16
  clear_value v16
  extract_lets -merge -useContext +onlyGivenNames v18
  clear_value v18
  refine OutKeeps.next ?_
  refine State.Keeps.ite ?_ ?_
  · extract_lets -merge -useContext +onlyGivenNames y22
    have h23 : State.Keeps w s0 y22 := by
      unfold y22
      refine State.f10Settle_keeps (hw.mono rfl) ?_
      assumption
    clear_value y22
    extract_lets -merge -useContext +onlyGivenNames y27
    have h28 : State.Keeps w s0 y27 := by
      unfold y27
      refine State.Keeps.ite ?_ ?_
      · refine State.setGrp_keeps ?_ ?_ ?_ ?_
        · exact hw.bit rfl
        · exact .inr fun _ => rfl
        · exact .inr fun _ => rfl
        · assumption
      · refine State.sb_keeps ?_ ?_
        · exact hw.reg (by omega) (RegGroup.metStat_at (by omega) (by omega)) rfl
        · refine State.cycleEnd_keeps (hw.mono rfl) ?_
          refine State.cutBills_keeps (hw.mono rfl) ?_
          refine State.calSettle_keeps (hw.mono rfl) ?_
          assumption
    clear_value y27
    extract_lets -merge -useContext +onlyGivenNames y42
    have h43 : State.Keeps w s0 y42 := by
      unfold y42
      refine State.f10Cross_keeps (hw.mono rfl) ?_
      assumption
    clear_value y42
    extract_lets -merge -useContext +onlyGivenNames y47
    have h48 : State.Keeps w s0 y47 := by
      unfold y47
      refine State.setGrp_keeps ?_ ?_ ?_ ?_
      · exact hw.bit rfl
      · exact .inr fun _ => rfl
      · exact .inr fun _ => rfl
      · assumption
    clear_value y47
    extract_lets -merge -useContext +onlyGivenNames y55
    have h56 : State.Keeps w s0 y55 := by
      unfold y55
      refine State.trkFreq_keeps (hw.mono rfl) ?_
      refine State.trkCycle_keeps (hw.mono rfl) ?_
      assumption
    clear_value y55
    refine State.winNote_keeps (hw.mono rfl) ?_
    assumption
  · assumption

theorem execHalfCycleBoundary_keeps {w : Nat} {s0 : State} {x0 : Fin 2} {x1 : ℕ} {x2 : State} (hw : Has w 348540943535499882343985532136490058646368) (hx2 : State.Keeps w s0 x2) :
    OutKeeps w s0 (execHalfCycleBoundary x0 x1 x2) := by
  unfold execHalfCycleBoundary
  extract_lets -merge -useContext +onlyGivenNames v1
  clear_value v1
  extract_lets -merge -useContext +onlyGivenNames v3
  clear_value v3
  extract_lets -merge -useContext +onlyGivenNames v5
  clear_value v5
  refine OutKeeps.next ?_
  refine State.Keeps.ite ?_ ?_
  · refine State.halfEnd_keeps (hw.mono rfl) ?_
    refine State.calSettle_keeps (hw.mono rfl) ?_
    assumption
  · assumption

theorem execFreq10sClose_keeps {w : Nat} {s0 : State} {x0 : Fin 2} {x1 : State} (hw : Has w 377124668299604746487661551714970204113760) (hx1 : State.Keeps w s0 x1) :
    OutKeeps w s0 (execFreq10sClose x0 x1) := by
  unfold execFreq10sClose
  refine OutKeeps.next ?_
  split
  · rename_i b2 b3 e4
    refine State.Keeps.ite ?_ ?_
    · refine State.release_keeps (hw.mono rfl) ?_
      refine State.f10Close_keeps (hw.mono rfl) ?_
      refine State.grpDue_keeps (hw.mono rfl) ?_
      assumption
    · assumption
  · rename_i b11 e12
    assumption

theorem execResamplerWindowEnd_keeps {w : Nat} {s0 : State} {x0 : Fin 2} {x1 : ℕ} {x2 : List (List ℚ)} {x3 : State} (hw : Has w 5316932265549267143286215138862958592) (hx3 : State.Keeps w s0 x3) :
    OutKeeps w s0 (execResamplerWindowEnd x0 x1 x2 x3) := by
  unfold execResamplerWindowEnd
  extract_lets -merge -useContext +onlyGivenNames v1
  clear_value v1
  refine OutKeeps.next ?_
  split
  · rename_i b4 b5 b6 e7
    refine State.Keeps.ite ?_ ?_
    · extract_lets -merge -useContext +onlyGivenNames y10
      have h11 : State.Keeps w s0 y10 := by
        unfold y10
        refine State.winEnd_keeps (hw.mono rfl) ?_
        assumption
      clear_value y10
      refine State.Keeps.ite ?_ ?_
      · refine State.winOpen_keeps (hw.mono rfl) ?_
        assumption
      · refine State.spcOpen_keeps (hw.mono rfl) ?_
        refine State.aggOpen_keeps (hw.mono rfl) ?_
        assumption
    · assumption
  · rename_i b21 e22
    assumption

theorem execTenMinTick_keeps {w : Nat} {s0 : State} {x0 : State} (hw : Has w 377124668299604746487661552137182803397472) (hx0 : State.Keeps w s0 x0) :
    OutKeeps w s0 (execTenMinTick x0) := by
  unfold execTenMinTick
  refine OutKeeps.next ?_
  refine State.Keeps.ite ?_ ?_
  · refine State.tenMinTick_keeps (hw.mono rfl) ?_
    assumption
  · assumption

theorem execAccumulationStepClose_keeps {w : Nat} {s0 : State} {x0 : Fin 2} {x1 : State} (hw : Has w 377123250701150299118647492432069110795104) (hx1 : State.Keeps w s0 x1) :
    OutKeeps w s0 (execAccumulationStepClose x0 x1) := by
  unfold execAccumulationStepClose
  refine OutKeeps.next ?_
  refine State.Keeps.ite ?_ ?_
  · refine State.stepsGo_keeps (hw.mono rfl) ?_
    assumption
  · assumption

theorem execCycleIntervalClose_keeps {w : Nat} {s0 : State} {x0 : Fin 2} {x1 : State} (hw : Has w 348539531230754360870870576345088137366368) (hx1 : State.Keeps w s0 x1) :
    OutKeeps w s0 (execCycleIntervalClose x0 x1) := by
  unfold execCycleIntervalClose
  refine OutKeeps.next ?_
  split
  · rename_i b2 b3 e4
    refine State.Keeps.ite ?_ ?_
    · refine State.aggFeed_keeps (hw.mono rfl) ?_
      refine State.cycDone_keeps (hw.mono rfl) ?_
      assumption
    · assumption
  · rename_i b10 e11
    assumption

theorem execStatIncrementApply_keeps {w : Nat} {s0 : State} {x0 : State} (hw : Has w 90387503713374279357458880099064479744) (hx0 : State.Keeps w s0 x0) :
    OutKeeps w s0 (execStatIncrementApply x0) := by
  unfold execStatIncrementApply
  refine OutKeeps.next ?_
  refine State.Keeps.ite ?_ ?_
  · assumption
  · split
    · rename_i b4 b5 b6 b7 e8
      extract_lets -merge -useContext +onlyGivenNames y10
      clear_value y10
      extract_lets -merge -useContext +onlyGivenNames y12
      have h13 : State.Keeps w s0 y12 := by
        unfold y12
        refine State.statInc_keeps (hw.mono rfl) ?_
        refine State.Keeps.upd_stat (s := x0) ?_ ?_
        · exact hw.bit rfl
        · assumption
      clear_value y12
      refine State.statDepth_keeps (hw.mono rfl) ?_
      refine State.statMarks_keeps (hw.mono rfl) ?_
      assumption
    · rename_i b21 e22
      assumption

theorem execStatQueueDrained_keeps {w : Nat} {s0 : State} {x0 : State} (hw : Has w 15950735949418990474845684723365183488) (hx0 : State.Keeps w s0 x0) :
    OutKeeps w s0 (execStatQueueDrained x0) := by
  unfold execStatQueueDrained
  refine OutKeeps.next ?_
  refine State.Keeps.ite ?_ ?_
  · extract_lets -merge -useContext +onlyGivenNames v3
    clear_value v3
    extract_lets -merge -useContext +onlyGivenNames v5
    clear_value v5
    extract_lets -merge -useContext +onlyGivenNames y7
    clear_value y7
    extract_lets -merge -useContext +onlyGivenNames y9
    have h10 : State.Keeps w s0 y9 := by
      unfold y9
      refine State.Keeps.upd_stat (s := x0) ?_ ?_
      · exact hw.bit rfl
      · assumption
    clear_value y9
    extract_lets -merge -useContext +onlyGivenNames y15
    have h16 : State.Keeps w s0 y15 := by
      unfold y15
      refine State.sfs_keeps ?_ ?_
      · refine ⟨?_, ?_⟩
        · dsimp only
          exact hw.reg (by omega) (RegGroup.aggStat_at (by omega) (by omega)) rfl
        · refine ⟨?_, ?_⟩
          · dsimp only
            exact hw.reg (by omega) (RegGroup.aggStat_at (by omega) (by omega)) rfl
          · exact trivial
      · assumption
    clear_value y15
    refine State.Keeps.foldl ?_ ?_
    · assumption
    · intro a27 a28 a29
      refine State.descApply_keeps (hw.mono rfl) ?_
      assumption
  · assumption

theorem execStatDselWrite_keeps {w : Nat} {s0 : State} {x0 : Word} {x1 : State} (hw : Has w 21267647932558653966460912964486561792) (hx1 : State.Keeps w s0 x1) :
    OutKeeps w s0 (execStatDselWrite x0 x1) := by
  unfold execStatDselWrite
  refine OutKeeps.next ?_
  refine State.Keeps.ite ?_ ?_
  · refine State.wrDsel_keeps (hw.mono rfl) ?_
    assumption
  · assumption

theorem execStatDescCommit_keeps {w : Nat} {s0 : State} {x0 : Word} {x1 : State} (hw : Has w 10633823966279326983230456482243805184) (hx1 : State.Keeps w s0 x1) :
    OutKeeps w s0 (execStatDescCommit x0 x1) := by
  unfold execStatDescCommit
  refine OutKeeps.next ?_
  refine State.Keeps.ite ?_ ?_
  · refine State.wrDesc0_keeps (hw.mono rfl) ?_
    assumption
  · assumption

theorem execSnapshotStats_keeps {w : Nat} {s0 : State} {x0 : State} (hw : Has w 5923725830863410146254800139440628933067744) (hx0 : State.Keeps w s0 x0) :
    OutKeeps w s0 (execSnapshotStats x0) := by
  unfold execSnapshotStats
  refine OutKeeps.next ?_
  refine State.onCmd_keeps (hw.mono rfl) ?_ ?_
  · assumption
  · intro a4 a5 a6
    refine State.doSnapshot_keeps (hw.mono rfl) ?_
    assumption

theorem execPercentile_keeps {w : Nat} {s0 : State} {x0 : State} (hw : Has w 5923725830863410146254800139440628933067744) (hx0 : State.Keeps w s0 x0) :
    OutKeeps w s0 (execPercentile x0) := by
  unfold execPercentile
  refine OutKeeps.next ?_
  refine State.onCmd_keeps (hw.mono rfl) ?_ ?_
  · assumption
  · intro a4 a5 a6
    refine State.doPercentile_keeps (hw.mono rfl) ?_
    assumption

theorem execHarmRecordComplete_keeps {w : Nat} {s0 : State} {x0 : Fin 2} {x1 : State} (hw : Has w 348540948727796740878813160666986924215136) (hx1 : State.Keeps w s0 x1) :
    OutKeeps w s0 (execHarmRecordComplete x0 x1) := by
  unfold execHarmRecordComplete
  refine OutKeeps.next ?_
  refine State.Keeps.ite ?_ ?_
  · refine State.aggFeed_keeps (hw.mono rfl) ?_
    refine State.harmDone_keeps (hw.mono rfl) ?_
    assumption
  · assumption

theorem execSupraRecordComplete_keeps {w : Nat} {s0 : State} {x0 : Fin 8} {x1 : List (List ℚ)} {x2 : State} (hw : Has w 348539531230754360870870571278539227663200) (hx2 : State.Keeps w s0 x2) :
    OutKeeps w s0 (execSupraRecordComplete x0 x1 x2) := by
  unfold execSupraRecordComplete
  extract_lets -merge -useContext +onlyGivenNames v1
  clear_value v1
  extract_lets -merge -useContext +onlyGivenNames v3
  clear_value v3
  refine OutKeeps.next ?_
  refine State.Keeps.ite ?_ ?_
  · refine State.release_keeps (hw.mono rfl) ?_
    refine State.supRun_keeps (hw.mono rfl) ?_
    assumption
  · assumption

theorem execFlickerSettleEnd_keeps {w : Nat} {s0 : State} {x0 : Fin 2} {x1 : State} (hw : Has w 5192296858534827628530496329220096) (hx1 : State.Keeps w s0 x1) :
    OutKeeps w s0 (execFlickerSettleEnd x0 x1) := by
  unfold execFlickerSettleEnd
  refine OutKeeps.next ?_
  refine State.Keeps.ite ?_ ?_
  · refine State.sf_keeps ?_ ?_
    · exact hw.reg (by omega) (RegGroup.specStat_at (by omega) (by omega)) rfl
    · assumption
  · assumption

theorem execTransientRecord_keeps {w : Nat} {s0 : State} {x0 : State} (hw : Has w 348539531230754360870870571278538690790240) (hx0 : State.Keeps w s0 x0) :
    OutKeeps w s0 (execTransientRecord x0) := by
  unfold execTransientRecord
  refine OutKeeps.next ?_
  split
  · rename_i b2 b3 b4 e5
    refine State.Keeps.ite ?_ ?_
    · refine State.transientTake_keeps (hw.mono rfl) ?_
      refine State.setSar_keeps (hw.mono rfl) ?_
      assumption
    · assumption
  · rename_i b11 e12
    assumption

theorem execTburstRecord_keeps {w : Nat} {s0 : State} {x0 : Fin 8} {x1 : State} (hw : Has w 348539531230754360870870571278538690790240) (hx1 : State.Keeps w s0 x1) :
    OutKeeps w s0 (execTburstRecord x0 x1) := by
  unfold execTburstRecord
  refine OutKeeps.next ?_
  refine State.Keeps.ite ?_ ?_
  · refine State.tsBurst_keeps (hw.mono rfl) ?_
    assumption
  · assumption

theorem execCaptureArm_keeps {w : Nat} {s0 : State} {x0 : State} (hw : Has w 5923727160091405931170673043247689213674464) (hx0 : State.Keeps w s0 x0) :
    OutKeeps w s0 (execCaptureArm x0) := by
  unfold execCaptureArm
  refine OutKeeps.next ?_
  refine State.onCmd_keeps (hw.mono rfl) ?_ ?_
  · assumption
  · intro a4 a5 a6
    refine State.doArm_keeps (hw.mono rfl) ?_
    assumption

theorem execCaptureForce_keeps {w : Nat} {s0 : State} {x0 : State} (hw : Has w 5923727160091405931170673043247689213674464) (hx0 : State.Keeps w s0 x0) :
    OutKeeps w s0 (execCaptureForce x0) := by
  unfold execCaptureForce
  refine OutKeeps.next ?_
  refine State.onCmd_keeps (hw.mono rfl) ?_ ?_
  · assumption
  · intro a4 a5 a6
    refine State.doForce_keeps (hw.mono rfl) ?_
    assumption

theorem execCaptureWindowEnd_keeps {w : Nat} {s0 : State} {x0 : State} (hw : Has w 348540860458750145786743475085598836917088) (hx0 : State.Keeps w s0 x0) :
    OutKeeps w s0 (execCaptureWindowEnd x0) := by
  unfold execCaptureWindowEnd
  refine OutKeeps.next ?_
  refine State.Keeps.ite ?_ ?_
  · extract_lets -merge -useContext +onlyGivenNames v3
    clear_value v3
    extract_lets -merge -useContext +onlyGivenNames v5
    clear_value v5
    split
    rename_i b7 b8 b9 e10
    extract_lets -merge -useContext +onlyGivenNames v12
    clear_value v12
    extract_lets -merge -useContext +onlyGivenNames v14
    clear_value v14
    extract_lets -merge -useContext +onlyGivenNames v16
    clear_value v16
    extract_lets -merge -useContext +onlyGivenNames y18
    have h19 : State.Keeps w s0 y18 := by
      unfold y18
      refine State.sf_keeps ?_ ?_
      · exact hw.reg (by omega) (RegGroup.capStat_at (by omega) (by omega)) rfl
      · assumption
    clear_value y18
    refine State.Keeps.ite ?_ ?_
    · assumption
    · refine State.emits_keeps (hw.mono rfl) ?_
      assumption
  · assumption

theorem execCaptureReadoutDone_keeps {w : Nat} {s0 : State} {x0 : State} (hw : Has w 1329227995784915872903807060280606720) (hx0 : State.Keeps w s0 x0) :
    OutKeeps w s0 (execCaptureReadoutDone x0) := by
  unfold execCaptureReadoutDone
  refine OutKeeps.next ?_
  refine State.Keeps.ite ?_ ?_
  · refine State.Keeps.ite ?_ ?_
    · refine State.capArm_keeps (hw.mono rfl) ?_
      assumption
    · refine State.sf_keeps ?_ ?_
      · exact hw.reg (by omega) (RegGroup.capStat_at (by omega) (by omega)) rfl
      · refine State.Keeps.upd_cap (s := x0) ?_ ?_
        · exact hw.bit rfl
        · assumption
  · assumption

theorem execMetEselLatch_keeps {w : Nat} {s0 : State} {x0 : Word} {x1 : State} (hw : Has w 377123251025668852777074219215225198480224) (hx1 : State.Keeps w s0 x1) :
    OutKeeps w s0 (execMetEselLatch x0 x1) := by
  unfold execMetEselLatch
  refine OutKeeps.next ?_
  refine State.Keeps.ite ?_ ?_
  · refine State.orDefer_keeps (hw.mono rfl) ?_ ?_
    · assumption
    · intro a5 a6
      refine State.wrMetEsel_keeps (hw.mono rfl) ?_
      assumption
  · assumption

theorem execEnergyClear_keeps {w : Nat} {s0 : State} {x0 : Port} {x1 : Word} {x2 : State} (hw : Has w 348539531271319180078173912135229223994208) (hx2 : State.Keeps w s0 x2) :
    OutKeeps w s0 (execEnergyClear x0 x1 x2) := by
  unfold execEnergyClear
  refine OutKeeps.next ?_
  refine State.Keeps.ite ?_ ?_
  · refine State.orDefer_keeps (hw.mono rfl) ?_ ?_
    · assumption
    · intro a5 a6
      refine State.metCtrl_keeps (hw.mono rfl) ?_
      assumption
  · assumption

theorem execCalConstantWrite_keeps {w : Nat} {s0 : State} {x0 : Port} {x1 : Fin 16} {x2 : Fin 3} {x3 : Word} {x4 : State} (hw : Has w 348539532528828575504577478419958799008608) (hx4 : State.Keeps w s0 x4) :
    OutKeeps w s0 (execCalConstantWrite x0 x1 x2 x3 x4) := by
  unfold execCalConstantWrite
  refine OutKeeps.next ?_
  refine State.Keeps.ite ?_ ?_
  · refine State.orDefer_keeps (hw.mono rfl) ?_ ?_
    · assumption
    · intro a5 a6
      refine State.wrCal_keeps (hw.mono rfl) ?_
      assumption
  · assumption

theorem execCalCommit_keeps {w : Nat} {s0 : State} {x0 : Port} {x1 : Word} {x2 : State} (hw : Has w 348539531271319180078173912135229219799904) (hx2 : State.Keeps w s0 x2) :
    OutKeeps w s0 (execCalCommit x0 x1 x2) := by
  unfold execCalCommit
  refine OutKeeps.next ?_
  refine State.Keeps.ite ?_ ?_
  · refine State.orDefer_keeps (hw.mono rfl) ?_ ?_
    · assumption
    · intro a5 a6
      refine State.wrCalCtrl_keeps (hw.mono rfl) ?_
      assumption
  · assumption

theorem execCalCommitApply_keeps {w : Nat} {s0 : State} {x0 : Fin 2} {x1 : State} (hw : Has w 348539531230754360870870571841488510518112) (hx1 : State.Keeps w s0 x1) :
    OutKeeps w s0 (execCalCommitApply x0 x1) := by
  unfold execCalCommitApply
  refine OutKeeps.next ?_
  refine State.Keeps.ite ?_ ?_
  · refine State.calSettle_keeps (hw.mono rfl) ?_
    assumption
  · assumption

theorem execCfCfgWrite_keeps {w : Nat} {s0 : State} {x0 : Port} {x1 : Fin 4} {x2 : Bool} {x3 : Word} {x4 : State} (hw : Has w 348539531920356287395027365701541260952416) (hx4 : State.Keeps w s0 x4) :
    OutKeeps w s0 (execCfCfgWrite x0 x1 x2 x3 x4) := by
  unfold execCfCfgWrite
  refine OutKeeps.next ?_
  refine State.Keeps.ite ?_ ?_
  · refine State.orDefer_keeps (hw.mono rfl) ?_ ?_
    · assumption
    · intro a5 a6
      refine State.Keeps.ite ?_ ?_
      · refine State.wrCfConst_keeps (hw.mono rfl) ?_
        assumption
      · refine State.wrCfCfg_keeps (hw.mono rfl) ?_
        assumption
  · assumption

theorem execCfPulse_keeps {w : Nat} {s0 : State} {x0 : Fin 4} {x1 : State} (hw : Has w 649037107316853453566312041152512) (hx1 : State.Keeps w s0 x1) :
    OutKeeps w s0 (execCfPulse x0 x1) := by
  unfold execCfPulse
  refine OutKeeps.next ?_
  refine State.Keeps.ite ?_ ?_
  · refine State.sf_keeps ?_ ?_
    · exact hw.reg (by omega) (RegGroup.cf_at (by omega) (by omega)) rfl
    · refine State.incWrap_keeps ?_ ?_
      · exact hw.reg (by omega) (RegGroup.cf_at (by omega) (by omega)) rfl
      · refine State.sf_keeps ?_ ?_
        · exact hw.reg (by omega) (RegGroup.cf_at (by omega) (by omega)) rfl
        · assumption
  · assumption

theorem execCfPulseEnd_keeps {w : Nat} {s0 : State} {x0 : Fin 4} {x1 : State} (hw : Has w 649037107316853453566312041152512) (hx1 : State.Keeps w s0 x1) :
    OutKeeps w s0 (execCfPulseEnd x0 x1) := by
  unfold execCfPulseEnd
  refine OutKeeps.next ?_
  refine State.Keeps.ite ?_ ?_
  · assumption
  · refine State.sf_keeps ?_ ?_
    · exact hw.reg (by omega) (RegGroup.cf_at (by omega) (by omega)) rfl
    · assumption

theorem execTariffClear_keeps {w : Nat} {s0 : State} {x0 : Port} {x1 : Word} {x2 : State} (hw : Has w 352622919633805622432431066576515939435360) (hx2 : State.Keeps w s0 x2) :
    OutKeeps w s0 (execTariffClear x0 x1 x2) := by
  unfold execTariffClear
  refine OutKeeps.next ?_
  refine State.Keeps.ite ?_ ?_
  · refine State.orDefer_keeps (hw.mono rfl) ?_ ?_
    · assumption
    · intro a5 a6
      refine State.wrBilCtrl_keeps (hw.mono rfl) ?_
      assumption
  · assumption

theorem execBillingCloseRequest_keeps {w : Nat} {s0 : State} {x0 : Port} {x1 : Word} {x2 : State} (hw : Has w 352622919633805622432431066576515939435360) (hx2 : State.Keeps w s0 x2) :
    OutKeeps w s0 (execBillingCloseRequest x0 x1 x2) := by
  unfold execBillingCloseRequest
  refine OutKeeps.next ?_
  refine State.Keeps.ite ?_ ?_
  · refine State.orDefer_keeps (hw.mono rfl) ?_ ?_
    · assumption
    · intro a5 a6
      refine State.wrBilCtrl_keeps (hw.mono rfl) ?_
      assumption
  · assumption

theorem execCalendarWordWrite_keeps {w : Nat} {s0 : State} {x0 : Port} {x1 : Word} {x2 : State} (hw : Has w 353984049101489376286284565006243016475488) (hx2 : State.Keeps w s0 x2) :
    OutKeeps w s0 (execCalendarWordWrite x0 x1 x2) := by
  unfold execCalendarWordWrite
  refine OutKeeps.next ?_
  refine State.Keeps.ite ?_ ?_
  · refine State.orDefer_keeps (hw.mono rfl) ?_ ?_
    · assumption
    · intro a5 a6
      refine State.wrBilCalData_keeps (hw.mono rfl) ?_
      assumption
  · assumption

theorem execCalendarCommit_keeps {w : Nat} {s0 : State} {x0 : Port} {x1 : Word} {x2 : State} (hw : Has w 356706308036856883993991561865697162167136) (hx2 : State.Keeps w s0 x2) :
    OutKeeps w s0 (execCalendarCommit x0 x1 x2) := by
  unfold execCalendarCommit
  refine OutKeeps.next ?_
  refine State.Keeps.ite ?_ ?_
  · refine State.orDefer_keeps (hw.mono rfl) ?_ ?_
    · assumption
    · intro a5 a6
      refine State.wrBilCalCtrl_keeps (hw.mono rfl) ?_
      assumption
  · assumption

theorem execBilSelLatch_keeps {w : Nat} {s0 : State} {x0 : Word} {x1 : State} (hw : Has w 10889035741470030830827987437816649875456) (hx1 : State.Keeps w s0 x1) :
    OutKeeps w s0 (execBilSelLatch x0 x1) := by
  unfold execBilSelLatch
  refine OutKeeps.next ?_
  refine State.Keeps.ite ?_ ?_
  · refine State.orDefer_keeps (hw.mono rfl) ?_ ?_
    · assumption
    · intro a5 a6
      refine State.wrBilSel_keeps (hw.mono rfl) ?_
      assumption
  · assumption

theorem execLinkTrained_keeps {w : Nat} {s0 : State} {x0 : Bool} {x1 : Bool} {x2 : State} (hw : Has w 87112285931760246646623899502532662132736) (hx2 : State.Keeps w s0 x2) :
    OutKeeps w s0 (execLinkTrained x0 x1 x2) := by
  unfold execLinkTrained
  refine OutKeeps.next ?_
  refine State.Keeps.ite ?_ ?_
  · assumption
  · extract_lets -merge -useContext +onlyGivenNames v4
    clear_value v4
    refine State.setServed_keeps (hw.mono rfl) ?_
    refine State.sfs_keeps ?_ ?_
    · refine ⟨?_, ?_⟩
      · dsimp only
        exact hw.reg (by omega) (RegGroup.linkStat_at (by omega) (by omega)) rfl
      · refine ⟨?_, ?_⟩
        · dsimp only
          exact hw.reg (by omega) (RegGroup.linkStat_at (by omega) (by omega)) rfl
        · refine ⟨?_, ?_⟩
          · dsimp only
            exact hw.reg (by omega) (RegGroup.linkStat_at (by omega) (by omega)) rfl
          · exact trivial
    · assumption

theorem execLinkDown_keeps {w : Nat} {s0 : State} {x0 : State} (hw : Has w 87112285931760246646919047407763554566656) (hx0 : State.Keeps w s0 x0) :
    OutKeeps w s0 (execLinkDown x0) := by
  unfold execLinkDown
  refine OutKeeps.next ?_
  refine State.Keeps.ite ?_ ?_
  · refine State.linkLost_keeps (hw.mono rfl) ?_
    assumption
  · assumption

theorem execLinkServiceChange_keeps {w : Nat} {s0 : State} {x0 : Bool} {x1 : Bool} {x2 : Bool} {x3 : Bool} {x4 : State} (hw : Has w 6010838116795170392901424038943711351014368) (hx4 : State.Keeps w s0 x4) :
    OutKeeps w s0 (execLinkServiceChange x0 x1 x2 x3 x4) := by
  unfold execLinkServiceChange
  refine OutKeeps.next ?_
  refine State.Keeps.ite ?_ ?_
  · assumption
  · extract_lets -merge -useContext +onlyGivenNames y4
    clear_value y4
    extract_lets -merge -useContext +onlyGivenNames y6
    have h7 : State.Keeps w s0 y6 := by
      unfold y6
      refine State.setServed_keeps (hw.mono rfl) ?_
      refine State.Keeps.upd_link (s := x4) ?_ ?_ ?_
      · exact .inl (hw.bit rfl)
      · exact .inl (hw.bit rfl)
      · assumption
    clear_value y6
    refine State.Keeps.ite ?_ ?_
    · refine State.resume_keeps (hw.mono rfl) ?_
      assumption
    · refine State.pmeUpd_keeps (hw.mono rfl) ?_
      assumption

theorem writeRun_keeps {w : Nat} {s0 : State} {x0 : State → ℕ → Word → State} {x1 : List Word} {x2 : ℕ} {x3 : State} (_hw : Has w 0) (hx0 : ∀ t0 t1 t2, State.Keeps w s0 t0 → State.Keeps w s0 (x0 t0 t1 t2)) (hx3 : State.Keeps w s0 x3) :
    State.Keeps w s0 (writeRun x0 x1 x2 x3) := by
  induction x1 generalizing x0 x2 x3
  · unfold writeRun
    assumption
  · rename_i e l ih
    unfold writeRun
    apply ih
    · intro a3 a4 a5 a6
      apply_assumption
      assumption
    · apply_assumption
      assumption

theorem execRegisterWrite_keeps {w : Nat} {s0 : State} {x0 : ℕ} {x1 : List Word} {x2 : Bool} {x3 : State} (hw : Has w 11692013098647223345629478661711822665259979561952) (hx3 : State.Keeps w s0 x3) :
    OutKeeps w s0 (execRegisterWrite x0 x1 x2 x3) := by
  unfold execRegisterWrite
  refine OutKeeps.next ?_
  refine State.Keeps.ite ?_ ?_
  · assumption
  · refine State.Keeps.ite ?_ ?_
    · refine State.sf_keeps ?_ ?_
      · exact hw.reg (by omega) (RegGroup.hostErr_at (by omega) (by omega)) rfl
      · assumption
    · refine writeRun_keeps (hw.mono rfl) ?_ ?_
      · intro a9 a10 a11 a12
        refine State.writeDw_keeps (hw.mono rfl) ?_
        assumption
      · assumption

theorem execLoRegisterRead_keeps {w : Nat} {s0 : State} {x0 : Port} {x1 : ℕ} {x2 : ℕ} {x3 : Bool} {x4 : State} (hw : Has w 696898287454081973172991196020261297061916) (hx4 : State.Keeps w s0 x4) :
    OutKeeps w s0 (execLoRegisterRead x0 x1 x2 x3 x4) := by
  unfold execLoRegisterRead
  refine OutKeeps.next ?_
  split
  · rename_i b2
    refine State.Keeps.ite ?_ ?_
    · assumption
    · refine State.Keeps.ite ?_ ?_
      · extract_lets -merge -useContext +onlyGivenNames y7
        have h8 : State.Keeps w s0 y7 := by
          unfold y7
          refine State.sf_keeps ?_ ?_
          · exact hw.reg (by omega) (RegGroup.hostErr_at (by omega) (by omega)) rfl
          · assumption
        clear_value y7
        refine State.Keeps.upd_rdPcie (s := y7) ?_ ?_
        · exact hw.bit rfl
        · assumption
      · extract_lets -merge -useContext +onlyGivenNames v16
        have h17 : State.Keeps w s0 v16.2 := by
          unfold v16
          refine State.readRun_keeps (hw.mono rfl) ?_
          assumption
        clear_value v16
        extract_lets -merge -useContext +onlyGivenNames y21
        have h22 : State.Keeps w s0 y21 := by
          unfold y21
          assumption
        clear_value y21
        refine State.Keeps.upd_rdPcie (s := y21) ?_ ?_
        · exact hw.bit rfl
        · assumption
  · rename_i b27
    refine State.Keeps.ite ?_ ?_
    · assumption
    · refine State.Keeps.ite ?_ ?_
      · refine State.Keeps.upd_rdSpi (s := x4) ?_ ?_
        · exact hw.bit rfl
        · assumption
      · extract_lets -merge -useContext +onlyGivenNames v35
        have h36 : State.Keeps w s0 v35.2 := by
          unfold v35
          refine State.readRun_keeps (hw.mono rfl) ?_
          assumption
        clear_value v35
        extract_lets -merge -useContext +onlyGivenNames y40
        have h41 : State.Keeps w s0 y40 := by
          unfold y40
          assumption
        clear_value y40
        refine State.Keeps.upd_rdSpi (s := y40) ?_ ?_
        · exact hw.bit rfl
        · assumption

theorem execBar2Read_keeps {w : Nat} {s0 : State} {x0 : Fin 16777216} {x1 : Fin 513} {x2 : Ecc} {x3 : ℕ} {x4 : State} (hw : Has w 714320744640434022502318632251914478560555520) (hx4 : State.Keeps w s0 x4) :
    OutKeeps w s0 (execBar2Read x0 x1 x2 x3 x4) := by
  unfold execBar2Read
  refine OutKeeps.next ?_
  refine State.Keeps.ite ?_ ?_
  · assumption
  · extract_lets -merge -useContext +onlyGivenNames y4
    clear_value y4
    extract_lets -merge -useContext +onlyGivenNames y6
    have h7 : State.Keeps w s0 y6 := by
      unfold y6
      refine State.Keeps.upd_fab (s := x4) ?_ ?_
      · exact hw.bit rfl
      · assumption
    clear_value y6
    extract_lets -merge -useContext +onlyGivenNames v12
    clear_value v12
    extract_lets -merge -useContext +onlyGivenNames y14
    have h15 : State.Keeps w s0 y14 := by
      unfold y14
      refine State.abpFlush_keeps (hw.mono rfl) ?_
      assumption
    clear_value y14
    refine State.Keeps.ite ?_ ?_
    · refine State.sf_keeps ?_ ?_
      · exact hw.reg (by omega) (RegGroup.hostErr_at (by omega) (by omega)) rfl
      · refine State.Keeps.upd_abp (s := y14) ?_ ?_
        · exact hw.bit rfl
        · assumption
    · extract_lets -merge -useContext +onlyGivenNames y25
      have h26 : State.Keeps w s0 y25 := by
        unfold y25
        refine State.eccCount_keeps (hw.mono rfl) ?_
        assumption
      clear_value y25
      extract_lets -merge -useContext +onlyGivenNames v30
      clear_value v30
      extract_lets -merge -useContext +onlyGivenNames v32
      clear_value v32
      split
      rename_i b34 b35 b36 e37
      have h38 : State.Keeps w s0 b36 := by
        refine State.Keeps.ofPair e37 ?_
        refine State.Keeps.iteSnd ?_ ?_
        · refine State.drawBytes_keeps (hw.mono rfl) ?_
          refine State.countColl_keeps (hw.mono rfl) ?_
          assumption
        · assumption
      extract_lets -merge -useContext +onlyGivenNames v45
      clear_value v45
      refine State.Keeps.upd_abp (s := b36) ?_ ?_
      · exact hw.bit rfl
      · assumption

theorem execBar2Write_keeps {w : Nat} {s0 : State} {x0 : Fin 16777216} {x1 : List Byte} {x2 : ℕ} {x3 : ℕ} {x4 : State} (hw : Has w 714320744640434022502316271068673043737948672) (hx4 : State.Keeps w s0 x4) :
    OutKeeps w s0 (execBar2Write x0 x1 x2 x3 x4) := by
  unfold execBar2Write
  refine OutKeeps.next ?_
  refine State.Keeps.ite ?_ ?_
  · assumption
  · extract_lets -merge -useContext +onlyGivenNames y4
    clear_value y4
    extract_lets -merge -useContext +onlyGivenNames y6
    have h7 : State.Keeps w s0 y6 := by
      unfold y6
      refine State.Keeps.upd_fab (s := x4) ?_ ?_
      · exact hw.bit rfl
      · assumption
    clear_value y6
    extract_lets -merge -useContext +onlyGivenNames v12
    clear_value v12
    extract_lets -merge -useContext +onlyGivenNames v14
    clear_value v14
    extract_lets -merge -useContext +onlyGivenNames y16
    have h17 : State.Keeps w s0 y16 := by
      unfold y16
      refine State.abpFlush_keeps (hw.mono rfl) ?_
      assumption
    clear_value y16
    refine State.Keeps.ite ?_ ?_
    · refine State.sf_keeps ?_ ?_
      · exact hw.reg (by omega) (RegGroup.hostErr_at (by omega) (by omega)) rfl
      · assumption
    · extract_lets -merge -useContext +onlyGivenNames v25
      clear_value v25
      extract_lets -merge -useContext +onlyGivenNames v27
      clear_value v27
      extract_lets -merge -useContext +onlyGivenNames y29
      have h30 : State.Keeps w s0 y29 := by
        unfold y29
        refine State.memWrite_keeps (hw.mono rfl) ?_
        assumption
      clear_value y29
      extract_lets -merge -useContext +onlyGivenNames y34
      clear_value y34
      extract_lets -merge -useContext +onlyGivenNames y36
      have h37 : State.Keeps w s0 y36 := by
        unfold y36
        refine State.Keeps.ite ?_ ?_
        · refine State.Keeps.upd_abp (s := y29) ?_ ?_
          · exact hw.bit rfl
          · assumption
        · assumption
      clear_value y36
      extract_lets -merge -useContext +onlyGivenNames v44
      clear_value v44
      extract_lets -merge -useContext +onlyGivenNames y46
      clear_value y46
      extract_lets -merge -useContext +onlyGivenNames y48
      have h49 : State.Keeps w s0 y48 := by
        unfold y48
        refine State.Keeps.upd_abp (s := y36) ?_ ?_
        · exact hw.bit rfl
        · assumption
      clear_value y48
      refine State.Keeps.ite ?_ ?_
      · split
        rename_i b55 b56 b57 e58
        have h59 : State.Keeps w s0 b57 := by
          refine State.Keeps.ofPair e58 ?_
          refine State.drawNat_keeps (hw.mono rfl) ?_
          refine State.countColl_keeps (hw.mono rfl) ?_
          assumption
        refine State.Keeps.upd_abp (s := b57) ?_ ?_
        · exact hw.bit rfl
        · assumption
      · assumption

theorem execRingEnable_keeps {w : Nat} {s0 : State} {x0 : Port} {x1 : Bool} {x2 : Word} {x3 : State} (hw : Has w 10737418240) (hx3 : State.Keeps w s0 x3) :
    OutKeeps w s0 (execRingEnable x0 x1 x2 x3) := by
  unfold execRingEnable
  refine OutKeeps.next ?_
  refine State.Keeps.ite ?_ ?_
  · refine State.wrRingEnable_keeps (hw.mono rfl) ?_
    assumption
  · assumption

theorem execRingEntryReadDone_keeps {w : Nat} {s0 : State} {x0 : Fin 64} {x1 : DmaRead} {x2 : State} (hw : Has w 348539531230754360870870571313529688687456) (hx2 : State.Keeps w s0 x2) :
    OutKeeps w s0 (execRingEntryReadDone x0 x1 x2) := by
  unfold execRingEntryReadDone
  refine OutKeeps.next ?_
  refine State.Keeps.ite ?_ ?_
  · refine State.ringsDecide_keeps (hw.mono rfl) ?_
    refine State.setRing_keeps ?_ ?_ ?_ ?_
    · exact hw.bit rfl
    · exact .inr fun _ => rfl
    · exact .inr fun _ => rfl
    · assumption
  · assumption

theorem execDoorbell_keeps {w : Nat} {s0 : State} {x0 : Fin 64} {x1 : Word} {x2 : State} (hw : Has w 6620624118317492119427791335461448575878112) (hx2 : State.Keeps w s0 x2) :
    OutKeeps w s0 (execDoorbell x0 x1 x2) := by
  unfold execDoorbell
  refine OutKeeps.next ?_
  refine State.Keeps.ite ?_ ?_
  · refine State.wrDoorbell_keeps (hw.mono rfl) ?_
    assumption
  · assumption

theorem execWriteBack_keeps {w : Nat} {s0 : State} {x0 : Fin 64} {x1 : State} (hw : Has w 5923725830863410146254800139441178688881632) (hx1 : State.Keeps w s0 x1) :
    OutKeeps w s0 (execWriteBack x0 x1) := by
  unfold execWriteBack
  extract_lets -merge -useContext +onlyGivenNames v1
  clear_value v1
  refine OutKeeps.next ?_
  refine State.Keeps.ite ?_ ?_
  · refine State.afterVisible_keeps (hw.mono rfl) ?_
    refine State.ringIrq_keeps (hw.mono rfl) ?_
    refine State.publish_keeps (hw.mono rfl) ?_
    assumption
  · assumption

theorem execRingInterruptTimer_keeps {w : Nat} {s0 : State} {x0 : Fin 64} {x1 : State} (hw : Has w 36507222528) (hx1 : State.Keeps w s0 x1) :
    OutKeeps w s0 (execRingInterruptTimer x0 x1) := by
  unfold execRingInterruptTimer
  extract_lets -merge -useContext +onlyGivenNames v1
  clear_value v1
  refine OutKeeps.next ?_
  refine State.Keeps.ite ?_ ?_
  · refine State.ringSend_keeps (hw.mono rfl) ?_
    assumption
  · assumption

theorem execCommandFetch_keeps {w : Nat} {s0 : State} {x0 : List Byte} {x1 : State} (hw : Has w 5923725830863410146254800139441187278816224) (hx1 : State.Keeps w s0 x1) :
    OutKeeps w s0 (execCommandFetch x0 x1) := by
  unfold execCommandFetch
  refine OutKeeps.next ?_
  refine State.Keeps.ite ?_ ?_
  · split
    · rename_i b3 e4
      assumption
    · rename_i b6 b7 e8
      extract_lets -merge -useContext +onlyGivenNames v10
      clear_value v10
      split
      · rename_i b12 e13
        refine State.haltRing_keeps (hw.mono rfl) ?_
        assumption
      · rename_i b16 b17 e18
        extract_lets -merge -useContext +onlyGivenNames y20
        have h21 : State.Keeps w s0 y20 := by
          unfold y20
          refine State.setRing_keeps ?_ ?_ ?_ ?_
          · exact hw.bit rfl
          · exact .inr fun _ => rfl
          · exact .inr fun _ => rfl
          · assumption
        clear_value y20
        extract_lets -merge -useContext +onlyGivenNames y28
        clear_value y28
        extract_lets -merge -useContext +onlyGivenNames y30
        have h31 : State.Keeps w s0 y30 := by
          unfold y30
          refine State.Keeps.upd_cmd (s := y20) ?_ ?_
          · exact hw.bit rfl
          · assumption
        clear_value y30
        refine State.Keeps.ite ?_ ?_
        · assumption
        · refine State.finish_keeps (hw.mono rfl) ?_
          assumption
  · assumption

theorem execDmaReadTimeout_keeps {w : Nat} {s0 : State} {x0 : DmaReadOf} {x1 : DmaFail} {x2 : State} (hw : Has w 6620624118317492119427791335496637276488672) (hx2 : State.Keeps w s0 x2) :
    OutKeeps w s0 (execDmaReadTimeout x0 x1 x2) := by
  unfold execDmaReadTimeout
  refine OutKeeps.next ?_
  refine State.Keeps.ite ?_ ?_
  · refine State.readFailed_keeps (hw.mono rfl) ?_
    assumption
  · assumption

theorem execNvmRead_keeps {w : Nat} {s0 : State} {x0 : ℕ} {x1 : List ℕ} {x2 : State} (hw : Has w 1433171418536823291204540769588935765315814368) (hx2 : State.Keeps w s0 x2) :
    OutKeeps w s0 (execNvmRead x0 x1 x2) := by
  unfold execNvmRead
  refine OutKeeps.next ?_
  refine State.onCmd_keeps (hw.mono rfl) ?_ ?_
  · assumption
  · intro a4 a5 a6
    refine State.doNvmRead_keeps (hw.mono rfl) ?_
    assumption

theorem execNvmWrite_keeps {w : Nat} {s0 : State} {x0 : List Byte} {x1 : State} (hw : Has w 5923725830863410146254800139440628933067744) (hx1 : State.Keeps w s0 x1) :
    OutKeeps w s0 (execNvmWrite x0 x1) := by
  unfold execNvmWrite
  refine OutKeeps.next ?_
  refine State.onCmd_keeps (hw.mono rfl) ?_ ?_
  · assumption
  · intro a4 a5 a6
    refine State.doNvmWrite_keeps (hw.mono rfl) ?_
    assumption

theorem execSealNow_keeps {w : Nat} {s0 : State} {x0 : State} (hw : Has w 5923725830863410146254800139441178688881632) (hx0 : State.Keeps w s0 x0) :
    OutKeeps w s0 (execSealNow x0) := by
  unfold execSealNow
  refine OutKeeps.next ?_
  refine State.onCmd_keeps (hw.mono rfl) ?_ ?_
  · assumption
  · intro a4 a5 a6
    refine State.doSealNow_keeps (hw.mono rfl) ?_
    assumption

theorem execOpenSealSession_keeps {w : Nat} {s0 : State} {x0 : List Byte} {x1 : State} (hw : Has w 5714914496654702934379398677937449212547433440) (hx1 : State.Keeps w s0 x1) :
    OutKeeps w s0 (execOpenSealSession x0 x1) := by
  unfold execOpenSealSession
  refine OutKeeps.next ?_
  refine State.Keeps.ite ?_ ?_
  · assumption
  · refine State.onCmd_keeps (hw.mono rfl) ?_ ?_
    · assumption
    · intro a6 a7 a8
      refine State.doOpen_keeps (hw.mono rfl) ?_
      assumption

theorem execOwnerInstall_keeps {w : Nat} {s0 : State} {x0 : List Byte} {x1 : State} (hw : Has w 5714914496654702934379398677937449212547433440) (hx1 : State.Keeps w s0 x1) :
    OutKeeps w s0 (execOwnerInstall x0 x1) := by
  unfold execOwnerInstall
  refine OutKeeps.next ?_
  refine State.Keeps.ite ?_ ?_
  · refine State.onCmd_keeps (hw.mono rfl) ?_ ?_
    · assumption
    · intro a5 a6 a7
      refine State.doOpen_keeps (hw.mono rfl) ?_
      assumption
  · assumption

theorem execCloseSealSession_keeps {w : Nat} {s0 : State} {x0 : State} (hw : Has w 5714914496656001008594032384844563144395195360) (hx0 : State.Keeps w s0 x0) :
    OutKeeps w s0 (execCloseSealSession x0) := by
  unfold execCloseSealSession
  refine OutKeeps.next ?_
  refine State.onCmd_keeps (hw.mono rfl) ?_ ?_
  · assumption
  · intro a4 a5 a6
    refine State.doClose_keeps (hw.mono rfl) ?_
    assumption

theorem execSessionTimeout_keeps {w : Nat} {s0 : State} {x0 : State} (hw : Has w 5709339310356368352808648455276401054018700128) (hx0 : State.Keeps w s0 x0) :
    OutKeeps w s0 (execSessionTimeout x0) := by
  unfold execSessionTimeout
  refine OutKeeps.next ?_
  refine State.Keeps.ite ?_ ?_
  · refine State.sf_keeps ?_ ?_
    · exact hw.reg (by omega) (RegGroup.sec_at (by omega) (by omega)) rfl
    · refine State.closeSession_keeps (hw.mono rfl) ?_
      assumption
  · assumption

theorem execReadCert_keeps {w : Nat} {s0 : State} {x0 : State} (hw : Has w 5923725830863410146254800139440628933067744) (hx0 : State.Keeps w s0 x0) :
    OutKeeps w s0 (execReadCert x0) := by
  unfold execReadCert
  refine OutKeeps.next ?_
  refine State.onCmd_keeps (hw.mono rfl) ?_ ?_
  · assumption
  · intro a4 a5 a6
    refine State.doReadCert_keeps (hw.mono rfl) ?_
    assumption

theorem execTamperClear_keeps {w : Nat} {s0 : State} {x0 : List Byte} {x1 : State} (hw : Has w 234074545329609581977919787496763837742729659360) (hx1 : State.Keeps w s0 x1) :
    OutKeeps w s0 (execTamperClear x0 x1) := by
  unfold execTamperClear
  refine OutKeeps.next ?_
  refine State.onCmd_keeps (hw.mono rfl) ?_ ?_
  · assumption
  · intro a4 a5 a6
    refine State.doTamperClear_keeps (hw.mono rfl) ?_
    assumption

theorem execFullReset_keeps {w : Nat} {s0 : State} {x0 : State} (hw : Has w 5923725830863410165597613257778571894588387) (hx0 : State.Keeps w s0 x0) :
    OutKeeps w s0 (execFullReset x0) := by
  unfold execFullReset
  refine OutKeeps.next ?_
  refine State.onCmd_keeps (hw.mono rfl) ?_ ?_
  · assumption
  · intro a4 a5 a6
    refine State.doFullReset_keeps (hw.mono rfl) ?_
    assumption

theorem execSpiFrame_keeps {w : Nat} {s0 : State} {x0 : Word} {x1 : List Word} {x2 : ℕ} {x3 : State} (hw : Has w 11692013098647223345629478661711822664710223748084) (hx3 : State.Keeps w s0 x3) :
    OutKeeps w s0 (execSpiFrame x0 x1 x2 x3) := by
  unfold execSpiFrame
  refine OutKeeps.next ?_
  refine State.Keeps.ite ?_ ?_
  · assumption
  · extract_lets -merge -useContext +onlyGivenNames v4
    clear_value v4
    refine State.Keeps.ite ?_ ?_
    · refine State.Keeps.ite ?_ ?_
      · refine State.Keeps.upd_rdSpi (s := x3) ?_ ?_
        · exact hw.bit rfl
        · assumption
      · assumption
    · refine State.Keeps.ite ?_ ?_
      · extract_lets -merge -useContext +onlyGivenNames v13
        have h14 : State.Keeps w s0 v13.2 := by
          unfold v13
          refine State.spiRead_keeps (hw.mono rfl) ?_
          assumption
        clear_value v13
        extract_lets -merge -useContext +onlyGivenNames y18
        have h19 : State.Keeps w s0 y18 := by
          unfold y18
          assumption
        clear_value y18
        refine State.Keeps.upd_rdSpi (s := y18) ?_ ?_
        · exact hw.bit rfl
        · assumption
      · refine writeRun_keeps (hw.mono rfl) ?_ ?_
        · intro a26 a27 a28 a29
          refine State.spiWrite_keeps (hw.mono rfl) ?_
          assumption
        · assumption

theorem execMailboxGo_keeps {w : Nat} {s0 : State} {x0 : Port} {x1 : State} (hw : Has w 5575186299632655785383929568162090376495232) (hx1 : State.Keeps w s0 x1) :
    OutKeeps w s0 (execMailboxGo x0 x1) := by
  unfold execMailboxGo
  refine OutKeeps.next ?_
  refine State.Keeps.ite ?_ ?_
  · refine State.wrMboxGo_keeps (hw.mono rfl) ?_
    assumption
  · assumption

theorem execMailboxExecute_keeps {w : Nat} {s0 : State} {x0 : ℕ} {x1 : List ℕ} {x2 : State} (hw : Has w 235501824329888089557591140183372547038650305507) (hx2 : State.Keeps w s0 x2) :
    OutKeeps w s0 (execMailboxExecute x0 x1 x2) := by
  unfold execMailboxExecute
  refine OutKeeps.next ?_
  refine State.Keeps.ite ?_ ?_
  · assumption
  · split
    · rename_i b4 b5 e6
      split
      · rename_i b8 b9 e10
        refine State.mboxRun_keeps (hw.mono rfl) ?_
        assumption
      · rename_i b13 b14 e15
        assumption
    · rename_i b17 e18
      refine State.Keeps.ite ?_ ?_
      · assumption
      · refine State.mboxBegin_keeps (hw.mono rfl) ?_
        assumption

theorem execFabricAccessComplete_keeps {w : Nat} {s0 : State} {x0 : List FabPresent} {x1 : Ecc} {x2 : ℕ} {x3 : List UeHit} {x4 : State} (hw : Has w 11692013098647223345629478661711822488779771091808) (hx4 : State.Keeps w s0 x4) :
    OutKeeps w s0 (execFabricAccessComplete x0 x1 x2 x3 x4) := by
  unfold execFabricAccessComplete
  extract_lets -merge -useContext +onlyGivenNames v1
  have h2 : State.Keeps w s0 v1.2 := by
    unfold v1
    refine State.fabRun_keeps (hw.mono rfl) ?_
    assumption
  clear_value v1
  refine OutKeeps.next ?_
  split
  · rename_i b7 b8 e9
    refine State.eccRead_keeps (hw.mono rfl) ?_
    assumption
  · rename_i b12 e13
    assumption

theorem execRequestAgeRise_keeps {w : Nat} {s0 : State} {x0 : Fin 12} {x1 : State} (hw : Has w 5846006549323611672814739330865132078623730176000) (hx1 : State.Keeps w s0 x1) :
    OutKeeps w s0 (execRequestAgeRise x0 x1) := by
  unfold execRequestAgeRise
  split
  · rename_i b1 e2
    refine OutKeeps.next ?_
    assumption
  · rename_i b5 b6 e7
    refine OutKeeps.ite ?_ ?_
    · refine OutKeeps.next ?_
      assumption
    · extract_lets -merge -useContext +onlyGivenNames y12
      clear_value y12
      extract_lets -merge -useContext +onlyGivenNames y14
      have h15 : State.Keeps w s0 y14 := by
        unfold y14
        refine State.Keeps.upd_fab (s := x1) ?_ ?_
        · exact hw.bit rfl
        · assumption
      clear_value y14
      refine OutKeeps.next ?_
      refine State.Keeps.ite ?_ ?_
      · refine State.incSat_keeps ?_ ?_
        · exact hw.reg (by omega) (RegGroup.arbCnt_at (by omega)) rfl
        · assumption
      · assumption

theorem execMasterWedged_keeps {w : Nat} {s0 : State} {x0 : Fin 12} {x1 : State} (hw : Has w 19184613836692293419520) (hx1 : State.Keeps w s0 x1) :
    OutKeeps w s0 (execMasterWedged x0 x1) := by
  unfold execMasterWedged
  refine OutKeeps.next ?_
  refine State.Keeps.ite ?_ ?_
  · assumption
  · extract_lets -merge -useContext +onlyGivenNames y4
    have h5 : State.Keeps w s0 y4 := by
      unfold y4
      refine State.Keeps.ite ?_ ?_
      · refine State.sf_keeps ?_ ?_
        · exact hw.reg (by omega) (RegGroup.wdogStat_at (by omega) (by omega)) rfl
        · assumption
      · assumption
    clear_value y4
    refine State.raise_keeps (hw.mono rfl) ?_ ?_
    · refine State.smbit_keeps ?_ ?_
      · exact hw.reg (by omega) (RegGroup.wdogStat_at (by omega) (by omega)) rfl
      · assumption
    · exact .inl (by omega)

theorem execWatchdogReset_keeps {w : Nat} {s0 : State} {x0 : State} (hw : Has w 19342813118338149119950979) (hx0 : State.Keeps w s0 x0) :
    OutKeeps w s0 (execWatchdogReset x0) := by
  unfold execWatchdogReset
  refine OutKeeps.next ?_
  refine State.Keeps.ite ?_ ?_
  · refine State.beginReset_keeps (hw.mono rfl) ?_
    assumption
  · assumption

theorem execArbWeightWrite_keeps {w : Nat} {s0 : State} {x0 : Bool} {x1 : Word} {x2 : State} (hw : Has w 2923003274661805836407369665432566039311865085952) (hx2 : State.Keeps w s0 x2) :
    OutKeeps w s0 (execArbWeightWrite x0 x1 x2) := by
  unfold execArbWeightWrite
  refine OutKeeps.next ?_
  refine State.Keeps.ite ?_ ?_
  · refine State.wrArbWeight_keeps (hw.mono rfl) ?_
    assumption
  · assumption

theorem execArbCounterClear_keeps {w : Nat} {s0 : State} {x0 : Bool} {x1 : State} (hw : Has w 8769009823985417509222108996297698117935595261952) (hx1 : State.Keeps w s0 x1) :
    OutKeeps w s0 (execArbCounterClear x0 x1) := by
  unfold execArbCounterClear
  refine OutKeeps.next ?_
  refine State.Keeps.ite ?_ ?_
  · refine State.wrArbCtrl_keeps (hw.mono rfl) ?_
    assumption
  · assumption

theorem execArbLatencyClear_keeps {w : Nat} {s0 : State} {x0 : Bool} {x1 : State} (hw : Has w 8769009823985417509222108996297698117935595261952) (hx1 : State.Keeps w s0 x1) :
    OutKeeps w s0 (execArbLatencyClear x0 x1) := by
  unfold execArbLatencyClear
  refine OutKeeps.next ?_
  refine State.Keeps.ite ?_ ?_
  · refine State.wrArbCtrl_keeps (hw.mono rfl) ?_
    assumption
  · assumption

theorem execSliceCheckpoint_keeps {w : Nat} {s0 : State} {x0 : State} (hw : Has w 11692013098647223345629478661711822488779636607840) (hx0 : State.Keeps w s0 x0) :
    OutKeeps w s0 (execSliceCheckpoint x0) := by
  unfold execSliceCheckpoint
  refine OutKeeps.next ?_
  refine State.Keeps.ite ?_ ?_
  · extract_lets -merge -useContext +onlyGivenNames v3
    clear_value v3
    extract_lets -merge -useContext +onlyGivenNames v5
    clear_value v5
    extract_lets -merge -useContext +onlyGivenNames y7
    clear_value y7
    extract_lets -merge -useContext +onlyGivenNames y9
    have h10 : State.Keeps w s0 y9 := by
      unfold y9
      refine State.sf_keeps ?_ ?_
      · exact hw.reg (by omega) (RegGroup.slice_at (by omega) (by omega)) rfl
      · refine State.Keeps.upd_slc (s := x0) ?_ ?_
        · exact hw.bit rfl
        · assumption
    clear_value y9
    refine State.Keeps.ite ?_ ?_
    · refine State.switchStart_keeps (hw.mono rfl) ?_
      refine State.Keeps.upd_slc (s := y9) ?_ ?_
      · exact hw.bit rfl
      · assumption
    · assumption
  · assumption

theorem execSliceMismatch_keeps {w : Nat} {s0 : State} {x0 : Fin 6} {x1 : Fin 2} {x2 : Bool} {x3 : State} (hw : Has w 11692013098647223345629478661711822629517798411104) (hx3 : State.Keeps w s0 x3) :
    OutKeeps w s0 (execSliceMismatch x0 x1 x2 x3) := by
  unfold execSliceMismatch
  refine OutKeeps.next ?_
  refine State.Keeps.ite ?_ ?_
  · assumption
  · split
    · rename_i b4 e5
      refine State.switchStart_keeps (hw.mono rfl) ?_
      assumption
    · rename_i b8 b9 e10
      refine State.Keeps.ite ?_ ?_
      · refine State.haltLate_keeps (hw.mono rfl) ?_
        refine State.rebuildMismatch_keeps (hw.mono rfl) ?_
        assumption
      · assumption

theorem execSliceStall_keeps {w : Nat} {s0 : State} {x0 : Fin 2} {x1 : State} (hw : Has w 11692013098647223345629478661711822488779636607840) (hx1 : State.Keeps w s0 x1) :
    OutKeeps w s0 (execSliceStall x0 x1) := by
  unfold execSliceStall
  refine OutKeeps.next ?_
  refine State.Keeps.ite ?_ ?_
  · refine State.switchStart_keeps (hw.mono rfl) ?_
    assumption
  · assumption

theorem execCaddyLoaded_keeps {w : Nat} {s0 : State} {x0 : State} (hw : Has w 11692013098647223345629478661711822629517798411104) (hx0 : State.Keeps w s0 x0) :
    OutKeeps w s0 (execCaddyLoaded x0) := by
  unfold execCaddyLoaded
  refine OutKeeps.next ?_
  split
  · rename_i b2 b3 e4
    refine State.Keeps.ite ?_ ?_
    · refine State.haltLate_keeps (hw.mono rfl) ?_
      refine State.switchRoles_keeps (hw.mono rfl) ?_
      refine State.setSw_keeps (hw.mono rfl) ?_
      assumption
    · assumption
  · rename_i b11 e12
    assumption

theorem execCaddyLoadTimeout_keeps {w : Nat} {s0 : State} {x0 : State} (hw : Has w 11692013098647223345629478661711822629517798411104) (hx0 : State.Keeps w s0 x0) :
    OutKeeps w s0 (execCaddyLoadTimeout x0) := by
  unfold execCaddyLoadTimeout
  refine OutKeeps.next ?_
  split
  · rename_i b2 b3 e4
    refine State.Keeps.ite ?_ ?_
    · refine State.haltLate_keeps (hw.mono rfl) ?_
      refine State.caddyFail_keeps (hw.mono rfl) ?_
      assumption
    · assumption
  · rename_i b10 e11
    assumption

theorem execSliceSelftestDone_keeps {w : Nat} {s0 : State} {x0 : BitVec 3} {x1 : State} (hw : Has w 11692013098647223345629478661711822629517798411105) (hx1 : State.Keeps w s0 x1) :
    OutKeeps w s0 (execSliceSelftestDone x0 x1) := by
  unfold execSliceSelftestDone
  extract_lets -merge -useContext +onlyGivenNames v1
  clear_value v1
  refine OutKeeps.next ?_
  split
  · rename_i b4 e5
    refine State.Keeps.ite ?_ ?_
    · assumption
    · extract_lets -merge -useContext +onlyGivenNames y9
      have h10 : State.Keeps w s0 y9 := by
        unfold y9
        refine State.Keeps.foldlMem ?_ ?_
        · assumption
        · intro a13 a14 a15 a16
          have a17 := List.mem_range.1 a15
          refine State.Keeps.ite ?_ ?_
          · assumption
          · refine State.smbit_keeps ?_ ?_
            · exact hw.reg (by omega) (RegGroup.fence_at (by omega) (by omega)) rfl
            · refine State.smbit_keeps ?_ ?_
              · exact hw.reg (by omega) (RegGroup.slice_at (by omega) (by omega)) rfl
              · assumption
      clear_value y9
      refine State.startRoles_keeps (hw.mono rfl) ?_
      refine State.Keeps.upd_rst (s := y9) ?_ ?_ ?_
      · exact hw.bit rfl
      · exact .inr rfl
      · assumption
  · rename_i b30 e31
    split
    · rename_i b33 b34 e35
      refine State.Keeps.ite ?_ ?_
      · assumption
      · extract_lets -merge -useContext +onlyGivenNames y39
        have h40 : State.Keeps w s0 y39 := by
          unfold y39
          refine State.setSw_keeps (hw.mono rfl) ?_
          assumption
        clear_value y39
        extract_lets -merge -useContext +onlyGivenNames y44
        have h45 : State.Keeps w s0 y44 := by
          unfold y44
          refine State.Keeps.ite ?_ ?_
          · assumption
          · refine State.fenceSlice_keeps (hw.mono rfl) ?_
            assumption
        clear_value y44
        extract_lets -merge -useContext +onlyGivenNames y51
        have h52 : State.Keeps w s0 y51 := by
          unfold y51
          refine State.Keeps.ite ?_ ?_
          · assumption
          · refine State.fenceSlice_keeps (hw.mono rfl) ?_
            assumption
        clear_value y51
        refine State.haltLate_keeps (hw.mono rfl) ?_
        refine State.switchRoles_keeps (hw.mono rfl) ?_
        assumption
    · rename_i b60 e61
      assumption
  · rename_i b63 e64 e65
    assumption

theorem execSwitchoverEnd_keeps {w : Nat} {s0 : State} {x0 : ℕ} {x1 : ℕ} {x2 : State} (hw : Has w 11692013098647223345629478661711822629517798411104) (hx2 : State.Keeps w s0 x2) :
    OutKeeps w s0 (execSwitchoverEnd x0 x1 x2) := by
  unfold execSwitchoverEnd
  refine OutKeeps.next ?_
  split
  · rename_i b2 b3 e4
    refine State.Keeps.ite ?_ ?_
    · refine State.haltLate_keeps (hw.mono rfl) ?_
      refine State.switchEnd_keeps (hw.mono rfl) ?_
      assumption
    · assumption
  · rename_i b10 e11
    assumption

theorem execSliceTrialRequest_keeps {w : Nat} {s0 : State} {x0 : Port} {x1 : Word} {x2 : State} (hw : Has w 2854843924943150516477442809470277607683523424) (hx2 : State.Keeps w s0 x2) :
    OutKeeps w s0 (execSliceTrialRequest x0 x1 x2) := by
  unfold execSliceTrialRequest
  refine OutKeeps.next ?_
  refine State.Keeps.ite ?_ ?_
  · refine State.wrSliceCtrl_keeps (hw.mono rfl) ?_
    assumption
  · assumption

theorem execBankHandover_keeps {w : Nat} {s0 : State} {x0 : Fin 8} {x1 : Word} {x2 : State} (hw : Has w 223007451985306231415357182726483615059857408) (hx2 : State.Keeps w s0 x2) :
    OutKeeps w s0 (execBankHandover x0 x1 x2) := by
  unfold execBankHandover
  refine OutKeeps.next ?_
  refine State.Keeps.ite ?_ ?_
  · refine State.wrBankOwner_keeps (hw.mono rfl) ?_
    assumption
  · assumption

theorem execBankHandoverComplete_keeps {w : Nat} {s0 : State} {x0 : Fin 64} {x1 : State} (hw : Has w 11150553374272738319326574054084378880991232) (hx1 : State.Keeps w s0 x1) :
    OutKeeps w s0 (execBankHandoverComplete x0 x1) := by
  unfold execBankHandoverComplete
  split
  · rename_i b1 b2 b3 b4 e5
    extract_lets -merge -useContext +onlyGivenNames y7
    have h8 : State.Keeps w s0 y7 := by
      unfold y7
      refine State.abpFlush_keeps (hw.mono rfl) ?_
      assumption
    clear_value y7
    extract_lets -merge -useContext +onlyGivenNames v12
    clear_value v12
    extract_lets -merge -useContext +onlyGivenNames y14
    have h15 : State.Keeps w s0 y14 := by
      unfold y14
      refine State.Keeps.ite ?_ ?_
      · refine State.bankClear_keeps (hw.mono rfl) ?_
        assumption
      · assumption
    clear_value y14
    extract_lets -merge -useContext +onlyGivenNames y21
    have h22 : State.Keeps w s0 y21 := by
      unfold y21
      refine State.sf_keeps ?_ ?_
      · exact hw.reg (by omega) (RegGroup.bankOwner_at (by omega) (by omega)) rfl
      · refine State.Keeps.upd_bankPend (s := y14) ?_ ?_
        · exact hw.bit rfl
        · assumption
    clear_value y21
    refine OutKeeps.next ?_
    refine State.statRemap_keeps (hw.mono rfl) ?_
    assumption
  · rename_i b31 e32
    refine OutKeeps.next ?_
    assumption

theorem execBankPowerChange_keeps {w : Nat} {s0 : State} {x0 : Fin 4} {x1 : Word} {x2 : State} (hw : Has w 223007451985306231415357182726483615059857408) (hx2 : State.Keeps w s0 x2) :
    OutKeeps w s0 (execBankPowerChange x0 x1 x2) := by
  unfold execBankPowerChange
  refine OutKeeps.next ?_
  refine State.Keeps.ite ?_ ?_
  · refine State.wrBankPwr_keeps (hw.mono rfl) ?_
    assumption
  · assumption

theorem execBankPowerChangeComplete_keeps {w : Nat} {s0 : State} {x0 : Fin 64} {x1 : State} (hw : Has w 22300925973538049890094433190408559633981440) (hx1 : State.Keeps w s0 x1) :
    OutKeeps w s0 (execBankPowerChangeComplete x0 x1) := by
  unfold execBankPowerChangeComplete
  split
  · rename_i b1 b2 b3 e4
    extract_lets -merge -useContext +onlyGivenNames y6
    have h7 : State.Keeps w s0 y6 := by
      unfold y6
      refine State.abpFlush_keeps (hw.mono rfl) ?_
      assumption
    clear_value y6
    extract_lets -merge -useContext +onlyGivenNames v11
    clear_value v11
    extract_lets -merge -useContext +onlyGivenNames y13
    have h14 : State.Keeps w s0 y13 := by
      unfold y13
      refine State.Keeps.ite ?_ ?_
      · refine State.bankClear_keeps (hw.mono rfl) ?_
        assumption
      · assumption
    clear_value y13
    extract_lets -merge -useContext +onlyGivenNames y20
    have h21 : State.Keeps w s0 y20 := by
      unfold y20
      refine State.sf_keeps ?_ ?_
      · exact hw.reg (by omega) (RegGroup.bankPwr_at (by omega) (by omega)) rfl
      · refine State.Keeps.upd_bankPend (s := y13) ?_ ?_
        · exact hw.bit rfl
        · assumption
    clear_value y20
    refine OutKeeps.next ?_
    refine State.statRemap_keeps (hw.mono rfl) ?_
    assumption
  · rename_i b30 e31
    refine OutKeeps.next ?_
    assumption

theorem execWindowConfigWrite_keeps {w : Nat} {s0 : State} {x0 : Fin 16} {x1 : Word} {x2 : State} (hw : Has w 133804471191183738849214309635890169035882496) (hx2 : State.Keeps w s0 x2) :
    OutKeeps w s0 (execWindowConfigWrite x0 x1 x2) := by
  unfold execWindowConfigWrite
  refine OutKeeps.next ?_
  refine State.Keeps.ite ?_ ?_
  · refine State.wrCwCfg_keeps (hw.mono rfl) ?_ ?_
    · assumption
    · exact .inl (by omega)
  · assumption

theorem execMtestRegionStart_keeps {w : Nat} {s0 : State} {x0 : State} (hw : Has w 178405961588244985132285746181186892047876096) (hx0 : State.Keeps w s0 x0) :
    OutKeeps w s0 (execMtestRegionStart x0) := by
  unfold execMtestRegionStart
  refine OutKeeps.next ?_
  refine State.Keeps.ite ?_ ?_
  · assumption
  · split
    · rename_i b4 e5
      assumption
    · rename_i b7 b8 b9 e10
      refine State.Keeps.ite ?_ ?_
      · extract_lets -merge -useContext +onlyGivenNames y13
        have h14 : State.Keeps w s0 y13 := by
          unfold y13
          refine State.Keeps.upd_mtest (s := x0) ?_ ?_
          · exact hw.bit rfl
          · assumption
        clear_value y13
        extract_lets -merge -useContext +onlyGivenNames y19
        have h20 : State.Keeps w s0 y19 := by
          unfold y19
          refine State.sfs_keeps ?_ ?_
          · refine ⟨?_, ?_⟩
            · dsimp only
              exact hw.reg (by omega) (RegGroup.mtest_at (by omega) (by omega)) rfl
            · refine ⟨?_, ?_⟩
              · dsimp only
                exact hw.reg (by omega) (RegGroup.mtest_at (by omega) (by omega)) rfl
              · exact trivial
          · assumption
        clear_value y19
        refine State.Keeps.ite ?_ ?_
        · refine State.incWrap_keeps ?_ ?_
          · exact hw.reg (by omega) (RegGroup.mtest_at (by omega) (by omega)) rfl
          · assumption
        · assumption
      · assumption

theorem execMtestStep_keeps {w : Nat} {s0 : State} {x0 : Option (Fin 8192 × Fin 275)} {x1 : State} (hw : Has w 1249190451439529967611034328536989568052009824) (hx1 : State.Keeps w s0 x1) :
    OutKeeps w s0 (execMtestStep x0 x1) := by
  unfold execMtestStep
  refine OutKeeps.next ?_
  refine State.Keeps.ite ?_ ?_
  · assumption
  · extract_lets -merge -useContext +onlyGivenNames v4
    clear_value v4
    extract_lets -merge -useContext +onlyGivenNames y6
    clear_value y6
    extract_lets -merge -useContext +onlyGivenNames y8
    have h9 : State.Keeps w s0 y8 := by
      unfold y8
      refine State.Keeps.upd_fab (s := x1) ?_ ?_
      · exact hw.bit rfl
      · assumption
    clear_value y8
    split
    · rename_i b14 b15 b16 e17
      extract_lets -merge -useContext +onlyGivenNames y19
      clear_value y19
      extract_lets -merge -useContext +onlyGivenNames y21
      have h22 : State.Keeps w s0 y21 := by
        unfold y21
        refine State.Keeps.upd_mtest (s := y8) ?_ ?_
        · exact hw.bit rfl
        · assumption
      clear_value y21
      extract_lets -merge -useContext +onlyGivenNames y27
      have h28 : State.Keeps w s0 y27 := by
        unfold y27
        refine State.sfs_keeps ?_ ?_
        · refine ⟨?_, ?_⟩
          · dsimp only
            exact hw.reg (by omega) (RegGroup.mtest_at (by omega) (by omega)) rfl
          · refine ⟨?_, ?_⟩
            · dsimp only
              exact hw.reg (by omega) (RegGroup.mtest_at (by omega) (by omega)) rfl
            · refine ⟨?_, ?_⟩
              · dsimp only
                exact hw.reg (by omega) (RegGroup.mtest_at (by omega) (by omega)) rfl
              · refine ⟨?_, ?_⟩
                · dsimp only
                  exact hw.reg (by omega) (RegGroup.mtest_at (by omega) (by omega)) rfl
                · exact trivial
        · assumption
      clear_value y27
      refine State.fenceBank_keeps (hw.mono rfl) ?_
      assumption
    · rename_i b42 e43
      refine State.Keeps.ite ?_ ?_
      · refine State.Keeps.upd_mtest (s := y8) ?_ ?_
        · exact hw.bit rfl
        · assumption
      · refine State.Keeps.upd_mtest (s := y8) ?_ ?_
        · exact hw.bit rfl
        · assumption

theorem execMtestRegionTimeout_keeps {w : Nat} {s0 : State} {x0 : State} (hw : Has w 178405961588244985132285746181186892047876096) (hx0 : State.Keeps w s0 x0) :
    OutKeeps w s0 (execMtestRegionTimeout x0) := by
  unfold execMtestRegionTimeout
  refine OutKeeps.next ?_
  refine State.mtestDefer_keeps (hw.mono rfl) ?_
  assumption

theorem execAbpWrite_keeps {w : Nat} {s0 : State} {x0 : BitVec 20} {x1 : BitVec 4} {x2 : Word} {x3 : ℕ} {x4 : State} (hw : Has w 713623846352979940529143279872652782440878592) (hx4 : State.Keeps w s0 x4) :
    OutKeeps w s0 (execAbpWrite x0 x1 x2 x3 x4) := by
  unfold execAbpWrite
  refine OutKeeps.next ?_
  refine State.Keeps.ite ?_ ?_
  · assumption
  · extract_lets -merge -useContext +onlyGivenNames y4
    clear_value y4
    extract_lets -merge -useContext +onlyGivenNames y6
    have h7 : State.Keeps w s0 y6 := by
      unfold y6
      refine State.Keeps.upd_fab (s := x4) ?_ ?_
      · exact hw.bit rfl
      · assumption
    clear_value y6
    split
    · rename_i b12 e13
      refine State.abpMiss_keeps (hw.mono rfl) ?_
      assumption
    · rename_i b16 b17 b18 e19
      extract_lets -merge -useContext +onlyGivenNames v21
      clear_value v21
      extract_lets -merge -useContext +onlyGivenNames y23
      have h24 : State.Keeps w s0 y23 := by
        unfold y23
        refine State.abpNote_keeps (hw.mono rfl) ?_
        assumption
      clear_value y23
      extract_lets -merge -useContext +onlyGivenNames v28
      clear_value v28
      refine State.Keeps.ite ?_ ?_
      · split
        rename_i b31 b32 b33 e34
        have h35 : State.Keeps w s0 b33 := by
          refine State.Keeps.ofPair e34 ?_
          refine State.drawBytes_keeps (hw.mono rfl) ?_
          refine State.countColl_keeps (hw.mono rfl) ?_
          assumption
        refine State.Keeps.upd_abp (s := b33) ?_ ?_
        · exact hw.bit rfl
        · assumption
      · refine State.Keeps.ite ?_ ?_
        · refine State.abpBuffer_keeps (hw.mono rfl) ?_
          assumption
        · refine State.Keeps.upd_abp (s := y23) ?_ ?_
          · exact hw.bit rfl
          · assumption

theorem execAbpRead_keeps {w : Nat} {s0 : State} {x0 : BitVec 20} {x1 : BitVec 4} {x2 : Ecc} {x3 : ℕ} {x4 : State} (hw : Has w 713623846352979940529143279872652781904007680) (hx4 : State.Keeps w s0 x4) :
    OutKeeps w s0 (execAbpRead x0 x1 x2 x3 x4) := by
  unfold execAbpRead
  refine OutKeeps.next ?_
  refine State.Keeps.ite ?_ ?_
  · assumption
  · extract_lets -merge -useContext +onlyGivenNames y4
    clear_value y4
    extract_lets -merge -useContext +onlyGivenNames y6
    have h7 : State.Keeps w s0 y6 := by
      unfold y6
      refine State.Keeps.upd_fab (s := x4) ?_ ?_
      · exact hw.bit rfl
      · assumption
    clear_value y6
    split
    · rename_i b12 e13
      extract_lets -merge -useContext +onlyGivenNames y15
      have h16 : State.Keeps w s0 y15 := by
        unfold y15
        refine State.abpMiss_keeps (hw.mono rfl) ?_
        assumption
      clear_value y15
      refine State.Keeps.upd_abp (s := y15) ?_ ?_
      · exact hw.bit rfl
      · assumption
    · rename_i b22 b23 b24 e25
      extract_lets -merge -useContext +onlyGivenNames v27
      clear_value v27
      extract_lets -merge -useContext +onlyGivenNames y29
      have h30 : State.Keeps w s0 y29 := by
        unfold y29
        refine State.abpNote_keeps (hw.mono rfl) ?_
        assumption
      clear_value y29
      refine State.Keeps.ite ?_ ?_
      · extract_lets -merge -useContext +onlyGivenNames y35
        have h36 : State.Keeps w s0 y35 := by
          unfold y35
          refine State.countColl_keeps (hw.mono rfl) ?_
          assumption
        clear_value y35
        refine State.Keeps.upd_abp (s := y35) ?_ ?_
        · exact hw.bit rfl
        · assumption
      · refine State.Keeps.ite ?_ ?_
        · refine State.Keeps.upd_abp (s := y29) ?_ ?_
          · exact hw.bit rfl
          · assumption
        · refine State.Keeps.upd_abp (s := y29) ?_ ?_
          · exact hw.bit rfl
          · assumption

theorem execAbpAccessComplete_keeps {w : Nat} {s0 : State} {x0 : State} (hw : Has w 713623846352979940529145641055894217263489536) (hx0 : State.Keeps w s0 x0) :
    OutKeeps w s0 (execAbpAccessComplete x0) := by
  unfold execAbpAccessComplete
  split
  · rename_i b1 e2
    refine OutKeeps.next ?_
    refine State.Keeps.ite ?_ ?_
    · refine State.abpFlush_keeps (hw.mono rfl) ?_
      assumption
    · assumption
  · rename_i b8 b9 e10
    refine OutKeeps.next ?_
    refine State.Keeps.ite ?_ ?_
    · assumption
    · extract_lets -merge -useContext +onlyGivenNames y15
      clear_value y15
      extract_lets -merge -useContext +onlyGivenNames y17
      have h18 : State.Keeps w s0 y17 := by
        unfold y17
        refine State.abpFlush_keeps (hw.mono rfl) ?_
        refine State.Keeps.upd_abp (s := x0) ?_ ?_
        · exact hw.bit rfl
        · assumption
      clear_value y17
      refine State.Keeps.ite ?_ ?_
      · extract_lets -merge -useContext +onlyGivenNames y25
        have h26 : State.Keeps w s0 y25 := by
          unfold y25
          refine State.abpMiss_keeps (hw.mono rfl) ?_
          assumption
        clear_value y25
        refine State.Keeps.ite ?_ ?_
        · assumption
        · refine State.Keeps.upd_abp (s := y25) ?_ ?_
          · exact hw.bit rfl
          · assumption
      · refine State.Keeps.ite ?_ ?_
        · refine State.abpBuffer_keeps (hw.mono rfl) ?_
          assumption
        · extract_lets -merge -useContext +onlyGivenNames y38
          have h39 : State.Keeps w s0 y38 := by
            unfold y38
            refine State.eccCount_keeps (hw.mono rfl) ?_
            assumption
          clear_value y38
          refine State.Keeps.ite ?_ ?_
          · extract_lets -merge -useContext +onlyGivenNames y44
            have h45 : State.Keeps w s0 y44 := by
              unfold y44
              refine State.raise_keeps (hw.mono rfl) ?_ ?_
              · refine State.sf_keeps ?_ ?_
                · exact hw.reg (by omega) (RegGroup.abpErr_at (by omega) (by omega)) rfl
                · assumption
              · exact .inl (by omega)
            clear_value y44
            refine State.Keeps.upd_abp (s := y44) ?_ ?_
            · exact hw.bit rfl
            · assumption
          · refine State.Keeps.ite ?_ ?_
            · split
              rename_i b56 b57 b58 e59
              have h60 : State.Keeps w s0 b58 := by
                refine State.Keeps.ofPair e59 ?_
                refine State.drawNat_keeps (hw.mono rfl) ?_
                assumption
              refine State.Keeps.upd_abp (s := b58) ?_ ?_
              · exact hw.bit rfl
              · assumption
            · refine State.Keeps.upd_abp (s := y38) ?_ ?_
              · exact hw.bit rfl
              · assumption

theorem execNvmWriteOpDone_keeps {w : Nat} {s0 : State} {x0 : Option (Fin 8)} {x1 : State} (hw : Has w 1433171418536823291204540769589499540457130976) (hx1 : State.Keeps w s0 x1) :
    OutKeeps w s0 (execNvmWriteOpDone x0 x1) := by
  unfold execNvmWriteOpDone
  refine OutKeeps.next ?_
  refine State.nvmOpDone_keeps (hw.mono rfl) ?_
  assumption

theorem execEnergyCheckpoint_keeps {w : Nat} {s0 : State} {x0 : State} (hw : Has w 2854495385411919762116571938898990481076125696) (hx0 : State.Keeps w s0 x0) :
    OutKeeps w s0 (execEnergyCheckpoint x0) := by
  unfold execEnergyCheckpoint
  refine OutKeeps.next ?_
  refine State.Keeps.ite ?_ ?_
  · refine State.ckptTimer_keeps (hw.mono rfl) ?_
    assumption
  · assumption

theorem execConfigSave_keeps {w : Nat} {s0 : State} {x0 : State} (hw : Has w 206158430208) (hx0 : State.Keeps w s0 x0) :
    OutKeeps w s0 (execConfigSave x0) := by
  unfold execConfigSave
  refine OutKeeps.next ?_
  refine State.Keeps.ite ?_ ?_
  · refine State.configSave_keeps (hw.mono rfl) ?_
    assumption
  · assumption

theorem execTrngReady_keeps {w : Nat} {s0 : State} {x0 : State} (hw : Has w 53326850818048) (hx0 : State.Keeps w s0 x0) :
    OutKeeps w s0 (execTrngReady x0) := by
  unfold execTrngReady
  refine OutKeeps.next ?_
  refine State.Keeps.ite ?_ ?_
  · refine State.seedLoops_keeps (hw.mono rfl) ?_
    refine State.newNonce_keeps (hw.mono rfl) ?_
    refine State.Keeps.upd_sec (s := x0) ?_ ?_ ?_ ?_ ?_ ?_ ?_ ?_ ?_ ?_ ?_
    · exact .inl (hw.bit rfl)
    · exact .inr rfl
    · exact .inr rfl
    · exact .inr rfl
    · exact .inr rfl
    · exact .inr rfl
    · exact id
    · exact id
    · exact fun _ h h' => ⟨h, h'⟩
    · exact fun h => ⟨Nat.le_refl _, h⟩
    · assumption
  · assumption

theorem execTrngHealthFail_keeps {w : Nat} {s0 : State} {x0 : State} (hw : Has w 5708990770823839524233143877797998687472844800) (hx0 : State.Keeps w s0 x0) :
    OutKeeps w s0 (execTrngHealthFail x0) := by
  unfold execTrngHealthFail
  refine OutKeeps.next ?_
  refine State.sf_keeps ?_ ?_
  · exact hw.reg (by omega) (RegGroup.sec_at (by omega) (by omega)) rfl
  · refine State.Keeps.upd_sec (s := x0) ?_ ?_ ?_ ?_ ?_ ?_ ?_ ?_ ?_ ?_ ?_
    · exact .inl (hw.bit rfl)
    · exact .inr rfl
    · exact .inr rfl
    · exact .inr rfl
    · exact .inr rfl
    · exact .inl (hw.bit rfl)
    · exact id
    · exact id
    · exact fun _ h h' => ⟨h, h'⟩
    · exact fun h => ⟨Nat.le_refl _, h⟩
    · assumption

theorem execSealAgeTimer_keeps {w : Nat} {s0 : State} {x0 : Fin 64} {x1 : State} (hw : Has w 551903297536) (hx1 : State.Keeps w s0 x1) :
    OutKeeps w s0 (execSealAgeTimer x0 x1) := by
  unfold execSealAgeTimer
  refine OutKeeps.next ?_
  refine State.makeDue_keeps (hw.mono rfl) ?_
  assumption

theorem execSealSigned_keeps {w : Nat} {s0 : State} {x0 : State} (hw : Has w 5923725830863410146254800139447775758648288) (hx0 : State.Keeps w s0 x0) :
    OutKeeps w s0 (execSealSigned x0) := by
  unfold execSealSigned
  refine OutKeeps.next ?_
  refine State.Keeps.ite ?_ ?_
  · refine State.unlockEnd_keeps (hw.mono rfl) ?_
    refine State.sealFinish_keeps (hw.mono rfl) ?_
    assumption
  · assumption

theorem execJtagSecchal_keeps {w : Nat} {s0 : State} {x0 : State} (hw : Has w 549755813888) (hx0 : State.Keeps w s0 x0) :
    OutKeeps w s0 (execJtagSecchal x0) := by
  unfold execJtagSecchal
  refine OutKeeps.next ?_
  refine State.Keeps.ite ?_ ?_
  · assumption
  · refine State.Keeps.upd_sec (s := x0) ?_ ?_ ?_ ?_ ?_ ?_ ?_ ?_ ?_ ?_ ?_
    · exact .inl (hw.bit rfl)
    · exact .inr rfl
    · exact .inr rfl
    · exact .inr rfl
    · exact .inr rfl
    · exact .inr rfl
    · exact id
    · exact id
    · exact fun _ h h' => ⟨h, h'⟩
    · exact fun h => ⟨Nat.le_refl _, h⟩
    · assumption

theorem execDebugConsent_keeps {w : Nat} {s0 : State} {x0 : List Byte} {x1 : State} (hw : Has w 18142478729216) (hx1 : State.Keeps w s0 x1) :
    OutKeeps w s0 (execDebugConsent x0 x1) := by
  unfold execDebugConsent
  refine OutKeeps.next ?_
  refine State.Keeps.ite ?_ ?_
  · assumption
  · refine State.Keeps.ite ?_ ?_
    · refine State.Keeps.upd_sec (s := x1) ?_ ?_ ?_ ?_ ?_ ?_ ?_ ?_ ?_ ?_ ?_
      · exact .inl (hw.bit rfl)
      · exact .inr rfl
      · exact .inr rfl
      · exact .inr rfl
      · exact .inr rfl
      · exact .inr rfl
      · exact id
      · exact id
      · exact fun _ h h' => ⟨h, h'⟩
      · exact fun h => ⟨Nat.le_refl _, h⟩
      · assumption
    · refine State.newNonce_keeps (hw.mono rfl) ?_
      refine State.Keeps.upd_sec (s := x1) ?_ ?_ ?_ ?_ ?_ ?_ ?_ ?_ ?_ ?_ ?_
      · exact .inl (hw.bit rfl)
      · exact .inr rfl
      · exact .inr rfl
      · exact .inr rfl
      · exact .inr rfl
      · exact .inr rfl
      · exact id
      · exact id
      · exact fun _ h h' => ⟨h, h'⟩
      · exact fun h => ⟨Nat.le_refl _, h⟩
      · assumption

theorem execDebugUnlock_keeps {w : Nat} {s0 : State} {x0 : List Byte} {x1 : List Byte} {x2 : State} (hw : Has w 24947854409728) (hx2 : State.Keeps w s0 x2) :
    OutKeeps w s0 (execDebugUnlock x0 x1 x2) := by
  unfold execDebugUnlock
  refine OutKeeps.next ?_
  refine State.Keeps.ite ?_ ?_
  · assumption
  · refine State.Keeps.ite ?_ ?_
    · extract_lets -merge -useContext +onlyGivenNames y5
      extract_lets -merge -useContext +onlyGivenNames y7
      have h8 : State.Keeps w s0 y7 := by
        unfold y7
        refine State.newNonce_keeps (hw.mono rfl) ?_
        refine State.Keeps.upd_sec (s := x2) ?_ ?_ ?_ ?_ ?_ ?_ ?_ ?_ ?_ ?_ ?_
        · exact .inl (hw.bit rfl)
        · exact .inr rfl
        · exact .inr rfl
        · exact .inr rfl
        · exact .inr rfl
        · exact .inr rfl
        · exact id
        · exact id
        · exact fun _ h h' => ⟨h, h'⟩
        · exact fun h => ⟨Nat.le_refl _, h⟩
        · assumption
      clear_value y7
      extract_lets -merge -useContext +onlyGivenNames y23
      have h24 : State.Keeps w s0 y23 := by
        unfold y23
        refine State.Keeps.foldl ?_ ?_
        · assumption
        · intro a28 a29 a30
          refine State.makeDue_keeps (hw.mono rfl) ?_
          assumption
      clear_value y23
      refine State.unlockEnd_keeps (hw.mono rfl) ?_
      refine State.Keeps.upd_sec (s := y23) ?_ ?_ ?_ ?_ ?_ ?_ ?_ ?_ ?_ ?_ ?_
      · exact .inl (hw.bit rfl)
      · exact .inr rfl
      · exact .inr rfl
      · exact .inr rfl
      · exact .inr rfl
      · exact .inr rfl
      · exact id
      · exact id
      · exact fun _ h h' => ⟨h, h'⟩
      · exact fun h => ⟨Nat.le_refl _, h⟩
      · assumption
    · refine State.newNonce_keeps (hw.mono rfl) ?_
      refine State.Keeps.upd_sec (s := x2) ?_ ?_ ?_ ?_ ?_ ?_ ?_ ?_ ?_ ?_ ?_
      · exact .inl (hw.bit rfl)
      · exact .inr rfl
      · exact .inr rfl
      · exact .inr rfl
      · exact .inr rfl
      · exact .inr rfl
      · exact id
      · exact id
      · exact fun _ h h' => ⟨h, h'⟩
      · exact fun h => ⟨Nat.le_refl _, h⟩
      · assumption

theorem execMainPowerLoss_keeps {w : Nat} {s0 : State} {x0 : ℕ} {x1 : State} (hw : Has w 228359979372486109797901259689397677514099262304) (hx1 : State.Keeps w s0 x1) :
    OutKeeps w s0 (execMainPowerLoss x0 x1) := by
  unfold execMainPowerLoss
  extract_lets -merge -useContext +onlyGivenNames y1
  have h2 : State.Keeps w s0 y1 := by
    unfold y1
    refine State.ketRun_keeps (hw.mono rfl) ?_
    assumption
  clear_value y1
  refine OutKeeps.next ?_
  refine State.Keeps.ite ?_ ?_
  · assumption
  · extract_lets -merge -useContext +onlyGivenNames v9
    extract_lets -merge -useContext +onlyGivenNames v11
    refine State.ketSync_keeps (hw.mono rfl) ?_
    refine State.Keeps.upd_ket (s := y1) ?_ ?_ ?_
    · exact .inl (hw.bit rfl)
    · exact .inr (Nat.le_refl _)
    · assumption

theorem execMainPowerRestore_keeps {w : Nat} {s0 : State} {x0 : ℕ} {x1 : State} (hw : Has w 228359979372486109797901259689397677514099262304) (hx1 : State.Keeps w s0 x1) :
    OutKeeps w s0 (execMainPowerRestore x0 x1) := by
  unfold execMainPowerRestore
  extract_lets -merge -useContext +onlyGivenNames y1
  have h2 : State.Keeps w s0 y1 := by
    unfold y1
    refine State.ketRun_keeps (hw.mono rfl) ?_
    assumption
  clear_value y1
  extract_lets -merge -useContext +onlyGivenNames v6
  extract_lets -merge -useContext +onlyGivenNames v8
  refine OutKeeps.next ?_
  refine State.Keeps.ite ?_ ?_
  · assumption
  · refine State.ketSync_keeps (hw.mono rfl) ?_
    refine State.Keeps.upd_ket (s := y1) ?_ ?_ ?_
    · exact .inl (hw.bit rfl)
    · exact .inr (Nat.le_refl _)
    · assumption

theorem execKettleColdStart_keeps {w : Nat} {s0 : State} {x0 : State} (hw : Has w 2877337272221047281697865402917228887497644180448) (hx0 : State.Keeps w s0 x0) :
    OutKeeps w s0 (execKettleColdStart x0) := by
  unfold execKettleColdStart
  extract_lets -merge -useContext +onlyGivenNames y1
  have h2 : State.Keeps w s0 y1 := by
    unfold y1
    refine State.ketRegsReset_keeps (hw.mono rfl) ?_
    assumption
  clear_value y1
  extract_lets -merge -useContext +onlyGivenNames v6
  refine OutKeeps.next ?_
  refine State.ketSync_keeps (hw.mono rfl) ?_
  refine State.ketEvent_keeps (hw.mono rfl) ?_
  refine State.Keeps.upd_ket (s := y1) ?_ ?_ ?_
  · exact .inl (hw.bit rfl)
  · exact .inl (hw.bit rfl)
  · assumption

theorem execKettleOffsetRefresh_keeps {w : Nat} {s0 : State} {x0 : ℕ} {x1 : State} (hw : Has w 228359630832953580969325755111919265801704570880) (hx1 : State.Keeps w s0 x1) :
    OutKeeps w s0 (execKettleOffsetRefresh x0 x1) := by
  unfold execKettleOffsetRefresh
  extract_lets -merge -useContext +onlyGivenNames y1
  have h2 : State.Keeps w s0 y1 := by
    unfold y1
    refine State.ketRun_keeps (hw.mono rfl) ?_
    assumption
  clear_value y1
  refine OutKeeps.next ?_
  refine State.Keeps.ite ?_ ?_
  · assumption
  · extract_lets -merge -useContext +onlyGivenNames y9
    have h10 : State.Keeps w s0 y9 := by
      unfold y9
      refine State.ketOffset_keeps (hw.mono rfl) ?_
      assumption
    clear_value y9
    refine State.ketCopy_keeps (hw.mono rfl) ?_
    refine State.Keeps.upd_sec (s := y9) ?_ ?_ ?_ ?_ ?_ ?_ ?_ ?_ ?_ ?_ ?_
    · exact .inr rfl
    · exact .inr rfl
    · exact .inr rfl
    · exact .inr rfl
    · exact .inl (hw.bit rfl)
    · exact .inr rfl
    · exact id
    · exact id
    · exact fun _ h h' => ⟨h, h'⟩
    · exact fun h => ⟨Nat.le_refl _, h⟩
    · assumption

theorem execKettleRateMeasure_keeps {w : Nat} {s0 : State} {x0 : ℕ} {x1 : State} (hw : Has w 228359630832953580969325755111919221821239459840) (hx1 : State.Keeps w s0 x1) :
    OutKeeps w s0 (execKettleRateMeasure x0 x1) := by
  unfold execKettleRateMeasure
  refine OutKeeps.next ?_
  refine State.Keeps.ite ?_ ?_
  · assumption
  · refine State.sf_keeps ?_ ?_
    · exact hw.reg (by omega) (RegGroup.ketStat_at (by omega) (by omega)) rfl
    · refine State.si_keeps ?_ ?_
      · exact hw.reg (by omega) (RegGroup.ketView_at (by omega) (by omega)) rfl
      · assumption

theorem execTamperSwitchSample_keeps {w : Nat} {s0 : State} {x0 : BitVec 4} {x1 : ℕ} {x2 : State} (hw : Has w 228365554558785742453686643618965844002522268640) (hx2 : State.Keeps w s0 x2) :
    OutKeeps w s0 (execTamperSwitchSample x0 x1 x2) := by
  unfold execTamperSwitchSample
  refine OutKeeps.next ?_
  refine State.ketSync_keeps (hw.mono rfl) ?_
  refine State.Keeps.foldl ?_ ?_
  · refine State.ketRun_keeps (hw.mono rfl) ?_
    assumption
  · intro a6 a7 a8
    refine State.ketSwitch_keeps (hw.mono rfl) ?_
    assumption

theorem execTamperLoopSample_keeps {w : Nat} {s0 : State} {x0 : Fin 4} {x1 : Bool} {x2 : ℕ} {x3 : State} (hw : Has w 228365554558785742453686643618965844002522268640) (hx3 : State.Keeps w s0 x3) :
    OutKeeps w s0 (execTamperLoopSample x0 x1 x2 x3) := by
  unfold execTamperLoopSample
  extract_lets -merge -useContext +onlyGivenNames y1
  have h2 : State.Keeps w s0 y1 := by
    unfold y1
    refine State.ketRun_keeps (hw.mono rfl) ?_
    assumption
  clear_value y1
  refine OutKeeps.next ?_
  refine State.Keeps.ite ?_ ?_
  · assumption
  · extract_lets -merge -useContext +onlyGivenNames v9
    clear_value v9
    extract_lets -merge -useContext +onlyGivenNames v11
    clear_value v11
    split
    rename_i b13 b14 b15 e16
    split
    rename_i b18 b19 b20 e21
    extract_lets -merge -useContext +onlyGivenNames v23
    clear_value v23
    extract_lets -merge -useContext +onlyGivenNames y25
    extract_lets -merge -useContext +onlyGivenNames y27
    have h28 : State.Keeps w s0 y27 := by
      unfold y27
      refine State.Keeps.upd_ket (s := y1) ?_ ?_ ?_
      · exact .inl (hw.bit rfl)
      · exact .inr (Nat.le_refl _)
      · assumption
    clear_value y27
    extract_lets -merge -useContext +onlyGivenNames y34
    have h35 : State.Keeps w s0 y34 := by
      unfold y34
      refine State.Keeps.ite ?_ ?_
      · refine State.bistHit_keeps (hw.mono rfl) ?_
        assumption
      · assumption
    clear_value y34
    refine State.ketSync_keeps (hw.mono rfl) ?_
    refine State.Keeps.ite ?_ ?_
    · refine State.ketEvent_keeps (hw.mono rfl) ?_
      assumption
    · assumption

theorem execKettleEnvMeasure_keeps {w : Nat} {s0 : State} {x0 : ℤ} {x1 : ℕ} {x2 : ℕ} {x3 : State} (hw : Has w 228365554558785742453686643618965844002522268640) (hx3 : State.Keeps w s0 x3) :
    OutKeeps w s0 (execKettleEnvMeasure x0 x1 x2 x3) := by
  unfold execKettleEnvMeasure
  extract_lets -merge -useContext +onlyGivenNames y1
  have h2 : State.Keeps w s0 y1 := by
    unfold y1
    refine State.ketRun_keeps (hw.mono rfl) ?_
    assumption
  clear_value y1
  extract_lets -merge -useContext +onlyGivenNames v6
  clear_value v6
  extract_lets -merge -useContext +onlyGivenNames v8
  clear_value v8
  extract_lets -merge -useContext +onlyGivenNames v10
  clear_value v10
  extract_lets -merge -useContext +onlyGivenNames v12
  clear_value v12
  extract_lets -merge -useContext +onlyGivenNames v14
  clear_value v14
  extract_lets -merge -useContext +onlyGivenNames v16
  clear_value v16
  extract_lets -merge -useContext +onlyGivenNames v18
  clear_value v18
  extract_lets -merge -useContext +onlyGivenNames v20
  clear_value v20
  extract_lets -merge -useContext +onlyGivenNames v22
  clear_value v22
  extract_lets -merge -useContext +onlyGivenNames y24
  have h25 : State.Keeps w s0 y24 := by
    unfold y24
    refine State.Keeps.ite ?_ ?_
    · refine State.bistHit_keeps (hw.mono rfl) ?_
      assumption
    · assumption
  clear_value y24
  extract_lets -merge -useContext +onlyGivenNames y31
  have h32 : State.Keeps w s0 y31 := by
    unfold y31
    refine State.Keeps.ite ?_ ?_
    · refine State.bistHit_keeps (hw.mono rfl) ?_
      assumption
    · assumption
  clear_value y31
  extract_lets -merge -useContext +onlyGivenNames y38
  extract_lets -merge -useContext +onlyGivenNames y40
  have h41 : State.Keeps w s0 y40 := by
    unfold y40
    refine State.Keeps.upd_ket (s := y31) ?_ ?_ ?_
    · exact .inl (hw.bit rfl)
    · exact .inr (Nat.le_refl _)
    · assumption
  clear_value y40
  extract_lets -merge -useContext +onlyGivenNames y47
  have h48 : State.Keeps w s0 y47 := by
    unfold y47
    refine State.Keeps.ite ?_ ?_
    · refine State.ketEvent_keeps (hw.mono rfl) ?_
      assumption
    · assumption
  clear_value y47
  refine OutKeeps.next ?_
  refine State.ketSync_keeps (hw.mono rfl) ?_
  refine State.Keeps.ite ?_ ?_
  · refine State.ketEvent_keeps (hw.mono rfl) ?_
    assumption
  · assumption

theorem execAlarmPulseEnd_keeps {w : Nat} {s0 : State} {x0 : State} (hw : Has w 228359979372486109797901259689397677514099262304) (hx0 : State.Keeps w s0 x0) :
    OutKeeps w s0 (execAlarmPulseEnd x0) := by
  unfold execAlarmPulseEnd
  refine OutKeeps.next ?_
  refine State.ketSync_keeps (hw.mono rfl) ?_
  refine State.Keeps.upd_ket (s := x0) ?_ ?_ ?_
  · exact .inl (hw.bit rfl)
  · exact .inr (Nat.le_refl _)
  · assumption

theorem execKettleWrite_keeps {w : Nat} {s0 : State} {x0 : Port} {x1 : Fin 256} {x2 : Word} {x3 : State} (hw : Has w 2877331697034746350967865385280753517466638877536) (hx3 : State.Keeps w s0 x3) :
    OutKeeps w s0 (execKettleWrite x0 x1 x2 x3) := by
  unfold execKettleWrite
  refine OutKeeps.next ?_
  refine State.Keeps.ite ?_ ?_
  · refine State.wrKettle_keeps (hw.mono rfl) ?_
    assumption
  · assumption

theorem execKettleWriteComplete_keeps {w : Nat} {s0 : State} {x0 : ℕ} {x1 : State} (hw : Has w 2877331697034747649042080018987660650640476996448) (hx1 : State.Keeps w s0 x1) :
    OutKeeps w s0 (execKettleWriteComplete x0 x1) := by
  unfold execKettleWriteComplete
  extract_lets -merge -useContext +onlyGivenNames y1
  have h2 : State.Keeps w s0 y1 := by
    unfold y1
    refine State.ketRun_keeps (hw.mono rfl) ?_
    assumption
  clear_value y1
  split
  · rename_i b6 e7
    refine OutKeeps.next ?_
    assumption
  · rename_i b10 b11 b12 e13
    refine OutKeeps.next ?_
    refine State.ketSync_keeps (hw.mono rfl) ?_
    refine State.ketApply_keeps (hw.mono rfl) ?_
    refine State.Keeps.upd_ket (s := y1) ?_ ?_ ?_
    · exact .inl (hw.bit rfl)
    · exact .inr (Nat.le_refl _)
    · assumption

theorem execKettleAsenseWrite_keeps {w : Nat} {s0 : State} {x0 : Word} {x1 : State} (hw : Has w 730750818665451459101842416358141509827966271488) (hx1 : State.Keeps w s0 x1) :
    OutKeeps w s0 (execKettleAsenseWrite x0 x1) := by
  unfold execKettleAsenseWrite
  refine OutKeeps.next ?_
  refine State.Keeps.ite ?_ ?_
  · refine State.asenseApply_keeps (hw.mono rfl) ?_
    assumption
  · assumption

theorem execKettleBistGo_keeps {w : Nat} {s0 : State} {x0 : BitVec 12} {x1 : State} (hw : Has w 593735040165679310520246963290990011919594684416) (hx1 : State.Keeps w s0 x1) :
    OutKeeps w s0 (execKettleBistGo x0 x1) := by
  unfold execKettleBistGo
  refine OutKeeps.next ?_
  refine State.Keeps.ite ?_ ?_
  · refine State.bistStart_keeps (hw.mono rfl) ?_
    assumption
  · assumption

theorem execKettleBistDone_keeps {w : Nat} {s0 : State} {x0 : ℕ} {x1 : State} (hw : Has w 593740963891511472004607851798036598916505404384) (hx1 : State.Keeps w s0 x1) :
    OutKeeps w s0 (execKettleBistDone x0 x1) := by
  unfold execKettleBistDone
  extract_lets -merge -useContext +onlyGivenNames y1
  have h2 : State.Keeps w s0 y1 := by
    unfold y1
    refine State.ketRun_keeps (hw.mono rfl) ?_
    assumption
  clear_value y1
  split
  · rename_i b6 e7
    refine OutKeeps.next ?_
    assumption
  · rename_i b10 b11 e12
    extract_lets -merge -useContext +onlyGivenNames y14
    have h15 : State.Keeps w s0 y14 := by
      unfold y14
      refine State.sfs_keeps ?_ ?_
      · refine ⟨?_, ?_⟩
        · dsimp only
          exact hw.reg (by omega) (RegGroup.ketBist_at (by omega) (by omega)) rfl
        · refine ⟨?_, ?_⟩
          · dsimp only
            exact hw.reg (by omega) (RegGroup.ketBist_at (by omega) (by omega)) rfl
          · refine ⟨?_, ?_⟩
            · dsimp only
              exact hw.reg (by omega) (RegGroup.ketBist_at (by omega) (by omega)) rfl
            · exact trivial
      · assumption
    clear_value y14
    extract_lets -merge -useContext +onlyGivenNames v26
    clear_value v26
    extract_lets -merge -useContext +onlyGivenNames y28
    extract_lets -merge -useContext +onlyGivenNames y30
    have h31 : State.Keeps w s0 y30 := by
      unfold y30
      refine State.Keeps.upd_ket (s := y14) ?_ ?_ ?_
      · exact .inl (hw.bit rfl)
      · exact .inr (Nat.le_refl _)
      · assumption
    clear_value y30
    extract_lets -merge -useContext +onlyGivenNames v37
    clear_value v37
    extract_lets -merge -useContext +onlyGivenNames y39
    have h40 : State.Keeps w s0 y39 := by
      unfold y39
      refine State.Keeps.foldl ?_ ?_
      · assumption
      · intro a44 a45 a46
        refine State.emit_keeps (hw.mono rfl) ?_
        assumption
    clear_value y39
    refine OutKeeps.next ?_
    refine State.ketSync_keeps (hw.mono rfl) ?_
    refine State.Keeps.foldl ?_ ?_
    · assumption
    · intro a54 a55 a56
      refine State.Keeps.ite ?_ ?_
      · refine State.ketEvent_keeps (hw.mono rfl) ?_
        assumption
      · assumption

theorem execIntStatClear_keeps {w : Nat} {s0 : State} {x0 : Word} {x1 : State} (hw : Has w 295147905213712564736) (hx1 : State.Keeps w s0 x1) :
    OutKeeps w s0 (execIntStatClear x0 x1) := by
  unfold execIntStatClear
  refine OutKeeps.next ?_
  refine State.Keeps.ite ?_ ?_
  · refine State.wrIntStat_keeps (hw.mono rfl) ?_
    assumption
  · assumption

theorem execIntEnWrite_keeps {w : Nat} {s0 : State} {x0 : Word} {x1 : State} (hw : Has w 590295810393065390592) (hx1 : State.Keeps w s0 x1) :
    OutKeeps w s0 (execIntEnWrite x0 x1) := by
  unfold execIntEnWrite
  refine OutKeeps.next ?_
  refine State.Keeps.ite ?_ ?_
  · refine State.wrIntEn_keeps (hw.mono rfl) ?_
    assumption
  · assumption

theorem execIntSet_keeps {w : Nat} {s0 : State} {x0 : Word} {x1 : State} (hw : Has w 295147905213712564736) (hx1 : State.Keeps w s0 x1) :
    OutKeeps w s0 (execIntSet x0 x1) := by
  unfold execIntSet
  refine OutKeeps.next ?_
  refine State.Keeps.ite ?_ ?_
  · refine State.wrIntSet_keeps (hw.mono rfl) ?_
    assumption
  · assumption

theorem execMetaPllUnlock_keeps {w : Nat} {s0 : State} {x0 : State} (hw : Has w 228365583143933206378499225443986378961301801952) (hx0 : State.Keeps w s0 x0) :
    OutKeeps w s0 (execMetaPllUnlock x0) := by
  unfold execMetaPllUnlock
  refine OutKeeps.next ?_
  refine State.Keeps.ite ?_ ?_
  · refine State.halt_keeps (hw.mono rfl) ?_
    assumption
  · assumption

theorem execCorePllUnlock_keeps {w : Nat} {s0 : State} {x0 : State} (hw : Has w 37778932003694650064896) (hx0 : State.Keeps w s0 x0) :
    OutKeeps w s0 (execCorePllUnlock x0) := by
  unfold execCorePllUnlock
  refine OutKeeps.next ?_
  refine State.Keeps.ite ?_ ?_
  · refine State.sf_keeps ?_ ?_
    · exact hw.reg (by omega) (RegGroup.clk_at (by omega) (by omega)) rfl
    · refine State.Keeps.upd_time (s := x0) ?_ ?_ ?_
      · exact .inl (hw.bit rfl)
      · exact .inr rfl
      · assumption
  · assumption

theorem execLinkL1Transition_keeps {w : Nat} {s0 : State} {x0 : Bool} {x1 : State} (hw : Has w 87112285931760246646623899502532662132736) (hx1 : State.Keeps w s0 x1) :
    OutKeeps w s0 (execLinkL1Transition x0 x1) := by
  unfold execLinkL1Transition
  refine OutKeeps.next ?_
  refine State.Keeps.ite ?_ ?_
  · refine State.sb_keeps ?_ ?_
    · exact hw.reg (by omega) (RegGroup.linkStat_at (by omega) (by omega)) rfl
    · assumption
  · assumption

theorem execFastComparatorWrite_keeps {w : Nat} {s0 : State} {x0 : FastReg} {x1 : Word} {x2 : State} (hw : Has w 22282920707136844948184236032) (hx2 : State.Keeps w s0 x2) :
    OutKeeps w s0 (execFastComparatorWrite x0 x1 x2) := by
  unfold execFastComparatorWrite
  refine OutKeeps.next ?_
  refine State.Keeps.ite ?_ ?_
  · refine State.wrFast_keeps (hw.mono rfl) ?_
    assumption
  · assumption

theorem execTimeCtrlWrite_keeps {w : Nat} {s0 : State} {x0 : Port} {x1 : Word} {x2 : State} (hw : Has w 348539531231229729845956158016583489291104) (hx2 : State.Keeps w s0 x2) :
    OutKeeps w s0 (execTimeCtrlWrite x0 x1 x2) := by
  unfold execTimeCtrlWrite
  refine OutKeeps.next ?_
  refine State.Keeps.ite ?_ ?_
  · refine State.wrTimeCtrl_keeps (hw.mono rfl) ?_
    assumption
  · assumption

theorem execMsiXMaskChange_keeps {w : Nat} {s0 : State} {x0 : Bool} {x1 : Bool} {x2 : Fin 32} {x3 : ℕ} {x4 : Word} {x5 : Bool} {x6 : State} (hw : Has w 51539608064) (hx6 : State.Keeps w s0 x6) :
    OutKeeps w s0 (execMsiXMaskChange x0 x1 x2 x3 x4 x5 x6) := by
  unfold execMsiXMaskChange
  refine OutKeeps.next ?_
  refine State.Keeps.ite ?_ ?_
  · refine State.msixFlush_keeps (hw.mono rfl) ?_
    refine State.Keeps.upd_link (s := x6) ?_ ?_ ?_
    · exact .inl (hw.bit rfl)
    · exact .inr rfl
    · assumption
  · assumption

theorem execJtagInstructionLoad_keeps {w : Nat} {s0 : State} {x0 : JtagIr} {x1 : State} (hw : Has w 549755813888) (hx1 : State.Keeps w s0 x1) :
    OutKeeps w s0 (execJtagInstructionLoad x0 x1) := by
  unfold execJtagInstructionLoad
  extract_lets -merge -useContext +onlyGivenNames v1
  clear_value v1
  refine OutKeeps.next ?_
  refine State.Keeps.upd_sec (s := x1) ?_ ?_ ?_ ?_ ?_ ?_ ?_ ?_ ?_ ?_ ?_
  · exact .inl (hw.bit rfl)
  · exact .inr rfl
  · exact .inr rfl
  · exact .inr rfl
  · exact .inr rfl
  · exact .inr rfl
  · exact id
  · exact id
  · exact fun _ h h' => ⟨h, h'⟩
  · exact fun h => ⟨Nat.le_refl _, h⟩
  · assumption

end Sys2Proof.Machine
end

