-- ==== Sys2Proof/Laws/Within.lean ====
section
/-! SUPPORT. From what an operation keeps, as a mask, to the lists of parts and register groups that a statement names. -/

namespace Sys2Proof.Machine

/-- The mask of the parts and register groups of two lists. -/
def scopeMask (ps : List StatePart) (rs : List RegGroup) : Nat :=
  ps.foldr (fun p m => Nat.lor (2 ^ p.ctorIdx) m) (rs.foldr (fun g m => Nat.lor (2 ^ (64 + g.ctorIdx)) m) 0)

theorem StatePart.ctorIdx_lt (p : StatePart) : p.ctorIdx < 55 := by cases p <;> decide

theorem StatePart.ctorIdx_inj {p q : StatePart} (h : p.ctorIdx = q.ctorIdx) : p = q := by
  have h1 : ∀ r : StatePart, r = (List.getD [.rst, .persist, .latch, .rdPcie, .rdSpi, .heldLog, .heldSec, .cmd, .formed, .out, .first, .openT,
      .fab, .mem, .bankPend, .mtest, .abp, .chk, .cap, .met, .stat, .supraOn, .bil, .cals, .bilOut, .bilSaved, .deferW, .sar, .slc,
      .free, .phase, .rings, .ringCfg, .ringSt, .link, .pba, .nvm, .arch, .nvmBytes, .sec, .owner, .dbg, .zeroised, .session, .nonce, .ket,
      .hwm, .time, .devTime, .grp, .grpRun, .grpSi, .chan, .chanSi] r.ctorIdx .rst) := fun r => by cases r <;> rfl
  rw [h1 p, h1 q, h]

theorem RegGroup.ctorIdx_inj {p q : RegGroup} (h : p.ctorIdx = q.ctorIdx) : p = q := by
  have h1 : ∀ r : RegGroup, r = List.getD (RegGroup.id :: regCuts.map Prod.snd) r.ctorIdx .id := fun r => by cases r <;> rfl
  rw [h1 p, h1 q, h]

theorem scopeMask_part {ps : List StatePart} {rs : List RegGroup} {p : StatePart} (h : p ∉ ps) :
    (scopeMask ps rs).testBit p.ctorIdx = false := by
  have hp := p.ctorIdx_lt
  have h1 : (rs.foldr (fun g m => Nat.lor (2 ^ (64 + g.ctorIdx)) m) 0).testBit p.ctorIdx = false := by
    induction rs with
    | nil => exact Nat.zero_testBit _
    | cons g l ih =>
      show (2 ^ (64 + g.ctorIdx) ||| _).testBit _ = false
      rw [Nat.testBit_or, ih, Nat.testBit_two_pow, Bool.or_false]
      exact decide_eq_false (by omega)
  unfold scopeMask
  induction ps with
  | nil => exact h1
  | cons q l ih =>
    show (2 ^ q.ctorIdx ||| _).testBit _ = false
    rw [Nat.testBit_or, ih (fun a => h (List.mem_cons_of_mem _ a)), Nat.testBit_two_pow, Bool.or_false]
    exact decide_eq_false fun e => h (by rw [StatePart.ctorIdx_inj e]; simp)

theorem scopeMask_reg {ps : List StatePart} {rs : List RegGroup} {g : RegGroup} (h : g ∉ rs) :
    (scopeMask ps rs).testBit (64 + g.ctorIdx) = false := by
  unfold scopeMask
  induction ps with
  | nil =>
    induction rs with
    | nil => exact Nat.zero_testBit _
    | cons q l ih =>
      show (2 ^ (64 + q.ctorIdx) ||| _).testBit _ = false
      have := ih (fun a => h (List.mem_cons_of_mem _ a))
      rw [Nat.testBit_or]
      rw [show (List.foldr (fun g m => Nat.lor (2 ^ (64 + g.ctorIdx)) m) 0 l).testBit (64 + g.ctorIdx) = false from this, Nat.testBit_two_pow,
        Bool.or_false]
      exact decide_eq_false fun e => h (by rw [RegGroup.ctorIdx_inj (show q.ctorIdx = g.ctorIdx by omega)]; simp)
  | cons q l ih =>
    have hq := q.ctorIdx_lt
    show (2 ^ q.ctorIdx ||| _).testBit _ = false
    rw [Nat.testBit_or, Nat.testBit_two_pow]
    rw [show (List.foldr (fun p m => Nat.lor (2 ^ p.ctorIdx) m) (rs.foldr (fun g m => Nat.lor (2 ^ (64 + g.ctorIdx)) m) 0) l).testBit
      (64 + g.ctorIdx) = false from ih, Bool.or_false]
    exact decide_eq_false (by omega)

/-- What is kept under the mask of two lists differs in what the lists name alone. -/
theorem State.Keeps.within {ps : List StatePart} {rs : List RegGroup} {s t : State} (h : State.Keeps (scopeMask ps rs) s t) :
    State.Within ps rs s t :=
  ⟨fun p hp => h.part p (scopeMask_part hp), fun f hl hf => h.reg f hl (scopeMask_reg hf)⟩

/-- What an outcome keeps, when the lists name at least the mask. -/
theorem OutKeeps.scope {w : Nat} {ps : List StatePart} {rs : List RegGroup} {s t : State} {o : Host.Outcome State Fault Refusal}
    (h : OutKeeps w s o) (hw : Has (scopeMask ps rs) w) (ho : o = .next t) : State.Keeps (scopeMask ps rs) s t := (h t ho).mono hw

theorem State.Within.refl (ps : List StatePart) (rs : List RegGroup) (s : State) : State.Within ps rs s s :=
  ⟨fun p _ => p.same_refl s, fun _ _ _ => rfl⟩

theorem State.Within.trans {ps : List StatePart} {rs : List RegGroup} {s t u : State} (h : State.Within ps rs s t)
    (h' : State.Within ps rs t u) : State.Within ps rs s u :=
  ⟨fun p hp => p.same_trans (h.part p hp) (h'.part p hp), fun f a b => (h'.reg f a b).trans (h.reg f a b)⟩

theorem State.Within.gb {ps : List StatePart} {rs : List RegGroup} {s t : State} (h : State.Within ps rs s t) (f : Fld) (hl : f.lo < 32)
    (hf : regGroup f.off ∉ rs) : t.gb f = s.gb f := by
  unfold State.gb
  rw [h.reg f hl hf]

end Sys2Proof.Machine
end

