-- ==== Sys2Proof/Laws/Command.lean ====
section
/-! SUPPORT. How a command of the CMD ring ends: the spec lemmas of `emitL`, `finish` and `onCmd`. -/

namespace Sys2Proof.Machine

theorem State.reserveUpd_formed (s : State) : s.reserveUpd.formed = s.formed :=
  (State.reserveUpd_keeps (Nat.and_self _) (State.Keeps.refl _ s)).part .formed rfl

theorem State.offer_formed (s : State) (n : Fin 64) (r : Rec) : (s.offer n r).formed = s.formed :=
  (State.offer_keeps (Nat.and_self _) (State.Keeps.refl _ s)).part .formed rfl

/-- The class and the AUX word of a record are those it was formed with. -/
theorem State.sliced_shadowed_head (s : State) (r : Rec) :
    (s.sliced (s.shadowed r)).cls = r.cls ∧ (s.sliced (s.shadowed r)).aux = r.aux := by
  have h1 : (s.shadowed r).cls = r.cls ∧ (s.shadowed r).aux = r.aux := by
    unfold State.shadowed; split <;> exact ⟨rfl, rfl⟩
  unfold State.sliced
  split <;> exact h1

theorem State.holdLog_formed (s : State) (r : Rec) : (s.holdLog r).formed = s.formed :=
  (State.holdLog_keeps (Nat.and_self _) (State.Keeps.refl _ s)).part .formed rfl

/-- A record formed with rings is the newest one, unless the streams of its class are no longer fed; placing it adds nothing to the
list. -/
theorem State.emitL_formed (s : State) (lvl : Nat) (r : Rec) (h : s.forms = true) (hs : s.starved r.cls = false) :
    (s.emitL lvl r).formed = s.formed ++ [s.sliced (s.shadowed r)] := by
  unfold State.forms at h
  simp only [Bool.and_eq_true, Bool.not_eq_true'] at h
  unfold State.emitL
  simp only [h.1, h.2, (s.sliced_shadowed_head r).1, hs, Bool.not_true, Bool.or_self, Bool.false_eq_true, if_false]
  repeat' split
  all_goals first | rfl | exact State.offer_formed _ _ _ | exact State.reserveUpd_formed _ | exact State.holdLog_formed _ _

theorem State.emit_cmd (s : State) (r : Rec) : (s.emit r).cmd = s.cmd :=
  (State.emit_keeps (Nat.and_self _) (State.Keeps.refl _ s)).part .cmd rfl

/-- A completion that waits, or takes its place now, is that of its command. -/
theorem State.tryCpl_completed (s : State) (c : Cmd) (st : Nat) (p : Cpl) (hf : s.forms = true) (h : s.cmd.cpl = some p)
    (hm : p.mbox = none) (hc : s.cmd.cur = none) (hr : p.r.completes c st) : s.tryCpl.completed c st := by
  have hu : ∀ u : State, u.forms = true → u.cmd.cur = none → (u.emit p.r).completed c st := by
    intro u uf uc
    have hs : u.starved p.r.cls = false := by rw [hr.1]; rfl
    refine ⟨by rw [State.emit_cmd]; exact uc, .inr ⟨u.sliced (u.shadowed p.r), ?_, ?_⟩⟩
    · unfold State.emit
      rw [State.emitL_formed _ _ _ uf hs, List.getLast?_append]
      rfl
    · exact ⟨(State.sliced_shadowed_head _ _).1.trans hr.1, (State.sliced_shadowed_head _ _).2.trans hr.2⟩
  unfold State.tryCpl
  simp only [h, hm]
  split
  · exact ⟨hc, .inl ⟨p, h, hr⟩⟩
  · split
    · refine hu _ ?_ hc
      unfold State.forms State.spiOnly
      rw [State.gf_sf_ne _ _ (by decide)]
      exact hf
    · exact hu _ hf hc

/-- A ring command that ends has completed with its status, whatever its completion waits for. -/
theorem State.finishC_completed (s : State) (c : Cmd) (st d : Nat) (res : List Byte) (w : Cpl → Cpl)
    (hw : ∀ p, (w p).r = p.r ∧ (w p).mbox = p.mbox)
    (hf : s.forms = true) (hc : s.cmd.cur = some c) (hv : ∃ i, c.via = .ring i) : (s.finishC st d res w).completed c st := by
  obtain ⟨i, hv⟩ := hv
  unfold State.finishC
  simp only [hc, hv]
  refine State.tryCpl_completed _ c st _ hf rfl ?_ rfl ?_
  · exact (hw _).2
  · rw [(hw _).1]
    exact ⟨rfl, rfl⟩

theorem State.finishW_completed (s : State) (c : Cmd) (st d : Nat) (res : List Byte) (first : List Nat) (seals : List (Nat × Nat))
    (hf : s.forms = true) (hc : s.cmd.cur = some c) (hv : ∃ i, c.via = .ring i) :
    (s.finishW st d res first seals).completed c st :=
  s.finishC_completed c st d res _ (fun _ => ⟨rfl, rfl⟩) hf hc hv

theorem State.finish_completed (s : State) (c : Cmd) (st d : Nat) (res : List Byte)
    (hf : s.forms = true) (hc : s.cmd.cur = some c) (hv : ∃ i, c.via = .ring i) : (s.finish st d res).completed c st :=
  s.finishW_completed c st d res [] [] hf hc hv

theorem State.executes.cur {s : State} {op : Nat} {c : Cmd} (h : s.executes op c) : s.cmd.cur = some c ∧ ∃ i, c.via = .ring i := by
  have h2 := h.2
  unfold State.curOp at h2
  split at h2
  · rename_i c' hc'
    split at h2
    · rename_i i hi
      cases h2
      exact ⟨hc', i, hi⟩
    · cases h2
  · cases h2

theorem State.executes.ready {s : State} {op : Nat} {c : Cmd} (h : s.executes op c) : s.isReady = true := by
  have := h.1
  unfold State.forms at this
  simp only [Bool.and_eq_true] at this
  exact this.1

/-- The operation of a command runs when the command executes. -/
theorem State.executes.onCmd {s : State} {op : Nat} {c : Cmd} (h : s.executes op c) (f : State → Cmd → State) :
    s.onCmd op f = f s c := by
  unfold State.onCmd
  rw [h.2]
  simp [h.ready]

end Sys2Proof.Machine
end

