-- ==== Sys2Proof/Laws/PerInstr.lean ====
section
/-! SUPPORT. The statements made for each command of the table in turn. `unspelled`: the table gives no row bits, so no word spells the
command, and nothing reaches the device but through its queue. -/

namespace Sys2Proof.Laws.unspelled

/-- No word of any length spells the command. -/
def Statement (c : Instr) : Prop := ∀ nbits w : Nat, decodeTableWord nbits w ≠ some c

theorem of_none (c : Instr) : Statement c := by simp [Statement, decodeTableWord]

theorem powerOnReset : ∀ x0, Statement (.powerOnReset x0) := fun _ => of_none _
theorem porSuppliesSettled : Statement .porSuppliesSettled := of_none _
theorem resetNAssert : ∀ x0, Statement (.resetNAssert x0) := fun _ => of_none _
theorem perstNAssert : ∀ x0, Statement (.perstNAssert x0) := fun _ => of_none _
theorem hotReset : Statement .hotReset := of_none _
theorem fullResetSaveDone : Statement .fullResetSaveDone := of_none _
theorem resetRelease : ∀ x0, Statement (.resetRelease x0) := fun _ => of_none _
theorem startupReady : ∀ x0 x1 x2, Statement (.startupReady x0 x1 x2) := fun _ _ _ => of_none _
theorem pfiRegister : ∀ x0, Statement (.pfiRegister x0) := fun _ => of_none _
theorem lastGaspSaveDone : Statement .lastGaspSaveDone := of_none _
theorem pfiReleaseRestart : Statement .pfiReleaseRestart := of_none _
theorem refclkStop : Statement .refclkStop := of_none _
theorem corePllRelock : Statement .corePllRelock := of_none _
theorem decimatorOutputSample : ∀ x0 x1 x2, Statement (.decimatorOutputSample x0 x1 x2) := fun _ _ _ => of_none _
theorem coreStallGapRecord : ∀ x0, Statement (.coreStallGapRecord x0) := fun _ => of_none _
theorem firstSampleDelivered : ∀ x0 x1 x2, Statement (.firstSampleDelivered x0 x1 x2) := fun _ _ _ => of_none _
theorem stuckModulatorFence : ∀ x0, Statement (.stuckModulatorFence x0) := fun _ => of_none _
theorem thresholdAssert : ∀ x0 x1, Statement (.thresholdAssert x0 x1) := fun _ _ => of_none _
theorem thresholdDeassert : ∀ x0 x1, Statement (.thresholdDeassert x0 x1) := fun _ _ => of_none _
theorem thresholdRegWrite : ∀ x0 x1 x2, Statement (.thresholdRegWrite x0 x1 x2) := fun _ _ _ => of_none _
theorem afeChCfgWrite : ∀ x0 x1 x2, Statement (.afeChCfgWrite x0 x1 x2) := fun _ _ _ => of_none _
theorem afeRefSelWrite : ∀ x0 x1, Statement (.afeRefSelWrite x0 x1) := fun _ _ => of_none _
theorem refReady : Statement .refReady := of_none _
theorem afeCheckGo : ∀ x0, Statement (.afeCheckGo x0) := fun _ => of_none _
theorem checkSelectorMove : ∀ x0, Statement (.checkSelectorMove x0) := fun _ => of_none _
theorem afeCheckDone : ∀ x0, Statement (.afeCheckDone x0) := fun _ => of_none _
theorem profCfgWrite : ∀ x0 x1 x2, Statement (.profCfgWrite x0 x1 x2) := fun _ _ _ => of_none _
theorem start : Statement .start := of_none _
theorem stop : Statement .stop := of_none _
theorem tsarEnable : ∀ x0, Statement (.tsarEnable x0) := fun _ => of_none _
theorem tsarPairStart : ∀ x0 x1 x2, Statement (.tsarPairStart x0 x1 x2) := fun _ _ _ => of_none _
theorem tsarDisable : ∀ x0, Statement (.tsarDisable x0) := fun _ => of_none _
theorem tsarPairStop : ∀ x0, Statement (.tsarPairStop x0) := fun _ => of_none _
theorem transientSample : ∀ x0 x1, Statement (.transientSample x0 x1) := fun _ _ => of_none _
theorem fastevtHoldExpire : ∀ x0, Statement (.fastevtHoldExpire x0) := fun _ => of_none _
theorem transientAnchorLatch : ∀ x0 x1, Statement (.transientAnchorLatch x0 x1) := fun _ _ => of_none _
theorem tsarMapWrite : ∀ x0, Statement (.tsarMapWrite x0) := fun _ => of_none _
theorem sarcalGo : ∀ x0, Statement (.sarcalGo x0) := fun _ => of_none _
theorem sarcalDone : ∀ x0 x1 x2, Statement (.sarcalDone x0 x1 x2) := fun _ _ _ => of_none _
theorem hsarPassTick : Statement .hsarPassTick := of_none _
theorem hsarConversionDone : ∀ x0, Statement (.hsarConversionDone x0) := fun _ => of_none _
theorem hsarFilterPublish : ∀ x0, Statement (.hsarFilterPublish x0) := fun _ => of_none _
theorem hsarUrgentGo : ∀ x0, Statement (.hsarUrgentGo x0) := fun _ => of_none _
theorem hsarUrgentDone : ∀ x0, Statement (.hsarUrgentDone x0) := fun _ => of_none _
theorem hsarSeqWrite : ∀ x0 x1, Statement (.hsarSeqWrite x0 x1) := fun _ _ => of_none _
theorem ppsEdge : ∀ x0, Statement (.ppsEdge x0) := fun _ => of_none _
theorem slewEnd : Statement .slewEnd := of_none _
theorem holdoverEntry : Statement .holdoverEntry := of_none _
theorem setTimeNow : ∀ x0, Statement (.setTimeNow x0) := fun _ => of_none _
theorem setTimeAtPps : ∀ x0, Statement (.setTimeAtPps x0) := fun _ => of_none _
theorem atPpsTimeout : Statement .atPpsTimeout := of_none _
theorem setTimeOffset : ∀ x0, Statement (.setTimeOffset x0) := fun _ => of_none _
theorem setTimeLeap : ∀ x0, Statement (.setTimeLeap x0) := fun _ => of_none _
theorem shadowSpanEnd : Statement .shadowSpanEnd := of_none _
theorem leapSecond : Statement .leapSecond := of_none _
theorem xoHalt : Statement .xoHalt := of_none _
theorem xoResume : Statement .xoResume := of_none _
theorem haltTimeReload : ∀ x0, Statement (.haltTimeReload x0) := fun _ => of_none _
theorem tpllUnlock : Statement .tpllUnlock := of_none _
theorem tpllRelock : Statement .tpllRelock := of_none _
theorem cycleBoundary : ∀ x0 x1 x2 x3 x4, Statement (.cycleBoundary x0 x1 x2 x3 x4) := fun _ _ _ _ _ => of_none _
theorem halfCycleBoundary : ∀ x0 x1, Statement (.halfCycleBoundary x0 x1) := fun _ _ => of_none _
theorem freq10sClose : ∀ x0, Statement (.freq10sClose x0) := fun _ => of_none _
theorem resamplerWindowEnd : ∀ x0 x1 x2, Statement (.resamplerWindowEnd x0 x1 x2) := fun _ _ _ => of_none _
theorem tenMinTick : Statement .tenMinTick := of_none _
theorem accumulationStepClose : ∀ x0, Statement (.accumulationStepClose x0) := fun _ => of_none _
theorem cycleIntervalClose : ∀ x0, Statement (.cycleIntervalClose x0) := fun _ => of_none _
theorem statIncrementApply : Statement .statIncrementApply := of_none _
theorem statQueueDrained : Statement .statQueueDrained := of_none _
theorem statDselWrite : ∀ x0, Statement (.statDselWrite x0) := fun _ => of_none _
theorem statDescCommit : ∀ x0, Statement (.statDescCommit x0) := fun _ => of_none _
theorem snapshotStats : Statement .snapshotStats := of_none _
theorem percentile : Statement .percentile := of_none _
theorem harmRecordComplete : ∀ x0, Statement (.harmRecordComplete x0) := fun _ => of_none _
theorem supraRecordComplete : ∀ x0 x1, Statement (.supraRecordComplete x0 x1) := fun _ _ => of_none _
theorem flickerSettleEnd : ∀ x0, Statement (.flickerSettleEnd x0) := fun _ => of_none _
theorem transientRecord : Statement .transientRecord := of_none _
theorem tburstRecord : ∀ x0, Statement (.tburstRecord x0) := fun _ => of_none _
theorem captureArm : Statement .captureArm := of_none _
theorem captureForce : Statement .captureForce := of_none _
theorem captureWindowEnd : Statement .captureWindowEnd := of_none _
theorem captureReadoutDone : Statement .captureReadoutDone := of_none _
theorem metEselLatch : ∀ x0, Statement (.metEselLatch x0) := fun _ => of_none _
theorem energyClear : ∀ x0 x1, Statement (.energyClear x0 x1) := fun _ _ => of_none _
theorem calConstantWrite : ∀ x0 x1 x2 x3, Statement (.calConstantWrite x0 x1 x2 x3) := fun _ _ _ _ => of_none _
theorem calCommit : ∀ x0 x1, Statement (.calCommit x0 x1) := fun _ _ => of_none _
theorem calCommitApply : ∀ x0, Statement (.calCommitApply x0) := fun _ => of_none _
theorem cfCfgWrite : ∀ x0 x1 x2 x3, Statement (.cfCfgWrite x0 x1 x2 x3) := fun _ _ _ _ => of_none _
theorem cfPulse : ∀ x0, Statement (.cfPulse x0) := fun _ => of_none _
theorem cfPulseEnd : ∀ x0, Statement (.cfPulseEnd x0) := fun _ => of_none _
theorem tariffClear : ∀ x0 x1, Statement (.tariffClear x0 x1) := fun _ _ => of_none _
theorem billingCloseRequest : ∀ x0 x1, Statement (.billingCloseRequest x0 x1) := fun _ _ => of_none _
theorem calendarWordWrite : ∀ x0 x1, Statement (.calendarWordWrite x0 x1) := fun _ _ => of_none _
theorem calendarCommit : ∀ x0 x1, Statement (.calendarCommit x0 x1) := fun _ _ => of_none _
theorem bilSelLatch : ∀ x0, Statement (.bilSelLatch x0) := fun _ => of_none _
theorem linkTrained : ∀ x0 x1, Statement (.linkTrained x0 x1) := fun _ _ => of_none _
theorem linkDown : Statement .linkDown := of_none _
theorem linkServiceChange : ∀ x0 x1 x2 x3, Statement (.linkServiceChange x0 x1 x2 x3) := fun _ _ _ _ => of_none _
theorem registerWrite : ∀ x0 x1 x2, Statement (.registerWrite x0 x1 x2) := fun _ _ _ => of_none _
theorem loRegisterRead : ∀ x0 x1 x2 x3, Statement (.loRegisterRead x0 x1 x2 x3) := fun _ _ _ _ => of_none _
theorem bar2Read : ∀ x0 x1 x2 x3, Statement (.bar2Read x0 x1 x2 x3) := fun _ _ _ _ => of_none _
theorem bar2Write : ∀ x0 x1 x2 x3, Statement (.bar2Write x0 x1 x2 x3) := fun _ _ _ _ => of_none _
theorem ringEnable : ∀ x0 x1 x2, Statement (.ringEnable x0 x1 x2) := fun _ _ _ => of_none _
theorem ringEntryReadDone : ∀ x0 x1, Statement (.ringEntryReadDone x0 x1) := fun _ _ => of_none _
theorem doorbell : ∀ x0 x1, Statement (.doorbell x0 x1) := fun _ _ => of_none _
theorem writeBack : ∀ x0, Statement (.writeBack x0) := fun _ => of_none _
theorem ringInterruptTimer : ∀ x0, Statement (.ringInterruptTimer x0) := fun _ => of_none _
theorem commandFetch : ∀ x0, Statement (.commandFetch x0) := fun _ => of_none _
theorem dmaReadTimeout : ∀ x0 x1, Statement (.dmaReadTimeout x0 x1) := fun _ _ => of_none _
theorem nvmRead : ∀ x0 x1, Statement (.nvmRead x0 x1) := fun _ _ => of_none _
theorem nvmWrite : ∀ x0, Statement (.nvmWrite x0) := fun _ => of_none _
theorem sealNow : Statement .sealNow := of_none _
theorem openSealSession : ∀ x0, Statement (.openSealSession x0) := fun _ => of_none _
theorem ownerInstall : ∀ x0, Statement (.ownerInstall x0) := fun _ => of_none _
theorem closeSealSession : Statement .closeSealSession := of_none _
theorem sessionTimeout : Statement .sessionTimeout := of_none _
theorem readCert : Statement .readCert := of_none _
theorem tamperClear : ∀ x0, Statement (.tamperClear x0) := fun _ => of_none _
theorem fullReset : Statement .fullReset := of_none _
theorem spiFrame : ∀ x0 x1 x2, Statement (.spiFrame x0 x1 x2) := fun _ _ _ => of_none _
theorem mailboxGo : ∀ x0, Statement (.mailboxGo x0) := fun _ => of_none _
theorem mailboxExecute : ∀ x0 x1, Statement (.mailboxExecute x0 x1) := fun _ _ => of_none _
theorem fabricAccessComplete : ∀ x0 x1 x2 x3, Statement (.fabricAccessComplete x0 x1 x2 x3) := fun _ _ _ _ => of_none _
theorem requestAgeRise : ∀ x0, Statement (.requestAgeRise x0) := fun _ => of_none _
theorem masterWedged : ∀ x0, Statement (.masterWedged x0) := fun _ => of_none _
theorem watchdogReset : Statement .watchdogReset := of_none _
theorem arbWeightWrite : ∀ x0 x1, Statement (.arbWeightWrite x0 x1) := fun _ _ => of_none _
theorem arbCounterClear : ∀ x0, Statement (.arbCounterClear x0) := fun _ => of_none _
theorem arbLatencyClear : ∀ x0, Statement (.arbLatencyClear x0) := fun _ => of_none _
theorem sliceCheckpoint : Statement .sliceCheckpoint := of_none _
theorem sliceMismatch : ∀ x0 x1 x2, Statement (.sliceMismatch x0 x1 x2) := fun _ _ _ => of_none _
theorem sliceStall : ∀ x0, Statement (.sliceStall x0) := fun _ => of_none _
theorem caddyLoaded : Statement .caddyLoaded := of_none _
theorem caddyLoadTimeout : Statement .caddyLoadTimeout := of_none _
theorem sliceSelftestDone : ∀ x0, Statement (.sliceSelftestDone x0) := fun _ => of_none _
theorem switchoverEnd : ∀ x0 x1, Statement (.switchoverEnd x0 x1) := fun _ _ => of_none _
theorem sliceTrialRequest : ∀ x0 x1, Statement (.sliceTrialRequest x0 x1) := fun _ _ => of_none _
theorem bankHandover : ∀ x0 x1, Statement (.bankHandover x0 x1) := fun _ _ => of_none _
theorem bankHandoverComplete : ∀ x0, Statement (.bankHandoverComplete x0) := fun _ => of_none _
theorem bankPowerChange : ∀ x0 x1, Statement (.bankPowerChange x0 x1) := fun _ _ => of_none _
theorem bankPowerChangeComplete : ∀ x0, Statement (.bankPowerChangeComplete x0) := fun _ => of_none _
theorem windowConfigWrite : ∀ x0 x1, Statement (.windowConfigWrite x0 x1) := fun _ _ => of_none _
theorem mtestRegionStart : Statement .mtestRegionStart := of_none _
theorem mtestStep : ∀ x0, Statement (.mtestStep x0) := fun _ => of_none _
theorem mtestRegionTimeout : Statement .mtestRegionTimeout := of_none _
theorem abpWrite : ∀ x0 x1 x2 x3, Statement (.abpWrite x0 x1 x2 x3) := fun _ _ _ _ => of_none _
theorem abpRead : ∀ x0 x1 x2 x3, Statement (.abpRead x0 x1 x2 x3) := fun _ _ _ _ => of_none _
theorem abpAccessComplete : Statement .abpAccessComplete := of_none _
theorem nvmWriteOpDone : ∀ x0, Statement (.nvmWriteOpDone x0) := fun _ => of_none _
theorem energyCheckpoint : Statement .energyCheckpoint := of_none _
theorem configSave : Statement .configSave := of_none _
theorem trngReady : Statement .trngReady := of_none _
theorem trngHealthFail : Statement .trngHealthFail := of_none _
theorem sealAgeTimer : ∀ x0, Statement (.sealAgeTimer x0) := fun _ => of_none _
theorem sealSigned : Statement .sealSigned := of_none _
theorem jtagSecchal : Statement .jtagSecchal := of_none _
theorem debugConsent : ∀ x0, Statement (.debugConsent x0) := fun _ => of_none _
theorem debugUnlock : ∀ x0 x1, Statement (.debugUnlock x0 x1) := fun _ _ => of_none _
theorem mainPowerLoss : ∀ x0, Statement (.mainPowerLoss x0) := fun _ => of_none _
theorem mainPowerRestore : ∀ x0, Statement (.mainPowerRestore x0) := fun _ => of_none _
theorem kettleColdStart : Statement .kettleColdStart := of_none _
theorem kettleOffsetRefresh : ∀ x0, Statement (.kettleOffsetRefresh x0) := fun _ => of_none _
theorem kettleRateMeasure : ∀ x0, Statement (.kettleRateMeasure x0) := fun _ => of_none _
theorem tamperSwitchSample : ∀ x0 x1, Statement (.tamperSwitchSample x0 x1) := fun _ _ => of_none _
theorem tamperLoopSample : ∀ x0 x1 x2, Statement (.tamperLoopSample x0 x1 x2) := fun _ _ _ => of_none _
theorem kettleEnvMeasure : ∀ x0 x1 x2, Statement (.kettleEnvMeasure x0 x1 x2) := fun _ _ _ => of_none _
theorem alarmPulseEnd : Statement .alarmPulseEnd := of_none _
theorem kettleWrite : ∀ x0 x1 x2, Statement (.kettleWrite x0 x1 x2) := fun _ _ _ => of_none _
theorem kettleWriteComplete : ∀ x0, Statement (.kettleWriteComplete x0) := fun _ => of_none _
theorem kettleAsenseWrite : ∀ x0, Statement (.kettleAsenseWrite x0) := fun _ => of_none _
theorem kettleBistGo : ∀ x0, Statement (.kettleBistGo x0) := fun _ => of_none _
theorem kettleBistDone : ∀ x0, Statement (.kettleBistDone x0) := fun _ => of_none _
theorem intStatClear : ∀ x0, Statement (.intStatClear x0) := fun _ => of_none _
theorem intEnWrite : ∀ x0, Statement (.intEnWrite x0) := fun _ => of_none _
theorem intSet : ∀ x0, Statement (.intSet x0) := fun _ => of_none _
theorem metaPllUnlock : Statement .metaPllUnlock := of_none _
theorem corePllUnlock : Statement .corePllUnlock := of_none _
theorem linkL1Transition : ∀ x0, Statement (.linkL1Transition x0) := fun _ => of_none _
theorem fastComparatorWrite : ∀ x0 x1, Statement (.fastComparatorWrite x0 x1) := fun _ _ => of_none _
theorem timeCtrlWrite : ∀ x0 x1, Statement (.timeCtrlWrite x0 x1) := fun _ _ => of_none _
theorem msiXMaskChange : ∀ x0 x1 x2 x3 x4 x5, Statement (.msiXMaskChange x0 x1 x2 x3 x4 x5) := fun _ _ _ _ _ _ => of_none _
theorem jtagInstructionLoad : ∀ x0, Statement (.jtagInstructionLoad x0) := fun _ => of_none _

end Sys2Proof.Laws.unspelled
end

