-- ==== Sys2Proof/Laws/Reset.lean ====
section
/-! SUPPORT. What resets, the save, the release and readiness do to the parts of the state that statements name. -/

namespace Sys2Proof.Machine

theorem wiped_gf (s : State) (p : Phase) (f : Fld) : (s.wiped p).gf f = if keptKey f.key then s.gf f else fldReset f.key := by
  show SMap.get fldReset (s.regs.filter (fun e => keptKey e.1)) f.key = _
  exact SMap.get_filter_key fldReset keptKey s.regs f.key

theorem keptKey_iff (f : Fld) (h : f.lo < 32) (hs : f.off ≠ 0x58) :
    keptKey f.key = true ↔ (0x1E00 ≤ f.off ∧ f.off < 0x1F00) ∨ f.off = 0x1A24 ∨ (0x1A24 ≤ f.off ∧ f.off < 0x1A28) := by
  have hk : ∀ g : Fld, g.lo < 32 → g.off = 0x58 → f.key ≠ g.key := by intro g h1 h2; unfold Fld.key; omega
  unfold keptKey
  simp only [List.contains_cons, List.contains_nil, Bool.or_false, Bool.or_eq_true, Bool.and_eq_true, decide_eq_true_eq, beq_iff_eq,
    hk STRAP_MODE (by decide) rfl, hk STRAP_IOV0 (by decide) rfl, hk STRAP_IOV1 (by decide) rfl, hk STRAP_CORECLK_SEL (by decide) rfl,
    hk STRAP_MODE_RSVD (by decide) rfl, hk STRAP_SPI_CORE_XO (by decide) rfl, or_false]
  unfold Fld.key
  omega

theorem wiped_leaves (s u : State) (p : Phase)
    (hr : ∀ f : Fld, f.lo < 32 → (0x1E00 ≤ f.off ∧ f.off < 0x1F00) ∨ f.off = 0x58 → u.gf f = s.gf f)
    (hk : u.ket = s.ket) (hc : u.chip = s.chip) (ho : u.sec.stOwner = s.sec.stOwner) (hd : u.sec.dbg = s.sec.dbg)
    (hz : u.sec.zeroised = s.sec.zeroised) (hl : ∀ n : Fin 64, (u.rings[n]).lastVis = (s.rings[n]).lastVis)
    (hn : s.nvm.retired <:+ u.nvm.retired) : s.ResetLeaves (u.wiped p) where
  regs f hlo h1 h2 h3 := by
    rw [wiped_gf, if_neg]
    rw [keptKey_iff f hlo h3]; omega
  straps := by
    have hs : ∀ f : Fld, f.lo < 32 → f.off = 0x58 → keptKey f.key = true → (u.wiped p).gf f = s.gf f := fun f h1 h2 h3 => by
      rw [wiped_gf, if_pos h3, hr f h1 (.inr h2)]
    have hn : ∀ f : Fld, keptKey f.key = false → fldReset f.key = 0 → (u.wiped p).gf f = 0 := fun f h1 h2 => by
      rw [wiped_gf, if_neg (by rw [h1]; decide), h2]
    exact ⟨hs _ (by decide) rfl (by decide), hs _ (by decide) rfl (by decide), hs _ (by decide) rfl (by decide),
      hs _ (by decide) rfl (by decide), hs _ (by decide) rfl (by decide), hs _ (by decide) rfl (by decide),
      hn _ (by decide) (by decide +kernel), hn _ (by decide) (by decide +kernel), hn _ (by decide) (by decide +kernel),
      hn _ (by decide) (by decide +kernel)⟩
  kettle f hlo h1 h2 := by
    rw [wiped_gf, if_pos, hr f hlo (.inl ⟨h1, h2⟩)]
    rw [keptKey_iff f hlo (by omega)]; omega
  evidence := by show ({ u.ket with writes := [] } : Kettle) = _; rw [hk]
  keys := ⟨hc, ho, hd, hz⟩
  session := ⟨rfl, rfl, rfl⟩
  series n := by
    have h : ((u.wiped p).rings[n]) = (u.rings[n]).kept := by
      show (u.rings.map Ring.kept)[n] = _
      simp
    rw [h]
    exact ⟨hl n, rfl, rfl⟩
  lost := ⟨rfl, rfl, rfl, rfl, rfl, rfl⟩
  groups g := by
    show ((Vector.replicate 2 ({} : Grp))[g]).running = false
    simp
  retired := hn

theorem opWrite_none (s : State) (op : List NvmWr) : ∃ v : Nvm, s.opWrite op none = { s with nvm := v } := by
  unfold State.opWrite
  suffices h : ∀ (l : List NvmWr) (v : Nvm), ∃ v' : Nvm, l.foldl (fun (s : State) w => { s with nvm := s.nvm.writeAll w }) { s with nvm := v } = { s with nvm := v' } from h op s.nvm
  intro l
  induction l with
  | nil => exact fun v => ⟨v, rfl⟩
  | cons w l ih => exact fun v => ih (v.writeAll w)

theorem gaspEnd_nvm (s : State) : ∃ v : Nvm, s.gaspEnd = { s with nvm := v } := by
  unfold State.gaspEnd
  split
  · split
    · rename_i r hr hk
      obtain ⟨v, hv⟩ := opWrite_none s (r.ops.headD [])
      unfold State.nvmOpDone
      simp only [hr, opFails, hv, Bool.false_eq_true, if_false]
      split
      · unfold State.nvmComplete
        simp only [hk]
        exact ⟨_, rfl⟩
      · exact ⟨_, rfl⟩
    · exact ⟨_, rfl⟩
  · exact ⟨_, rfl⟩

theorem nvmAbandon_nvm (s : State) : ∃ (v : Nvm) (k : Nat), s.nvmAbandon = { s with nvm := v, free := k } := by
  unfold State.nvmAbandon
  split
  · exact ⟨_, _, rfl⟩
  · rename_i r hr
    suffices h : ∀ (l : List NvmWr) (v : Nvm) (k : Nat), ∃ (v' : Nvm) (k' : Nat), l.foldl (fun (s : State) w =>
        let (k, s) := State.drawNat s
        { s with nvm := s.nvm.writeSome w (k % (w.bytes.length / 8 + 1)) }) { s with nvm := v, free := k } = { s with nvm := v', free := k' } by
      obtain ⟨v, k, e⟩ := h (r.ops.headD []) s.nvm s.free
      exact ⟨_, k, by rw [show s = { s with nvm := s.nvm, free := s.free } from rfl, e]⟩
    intro l
    induction l with
    | nil => exact fun v k => ⟨v, k, rfl⟩
    | cons w l ih => exact fun v k => ih _ _

theorem pulse_hit (s : State) {ns lo hi : Nat} (h : hi ≤ ns) (h' : lo ≤ ns) : s.pulse ns lo hi = (true, s) := by
  unfold State.pulse
  rw [if_neg (by omega), if_pos h]

theorem pulse_miss (s : State) {ns lo hi : Nat} (h : ns < lo) : s.pulse ns lo hi = (false, s) := by
  unfold State.pulse
  rw [if_pos h]

theorem beginReset_ready (s : State) (k : Nat) (h : s.rst.phase = .ready) :
    (s.beginReset k).rst.phase = .saving ∧ (s.beginReset k).rst.cause = k ∧ (s.beginReset k).cmd = {} := by
  unfold State.beginReset
  simp only [h]
  generalize ht : ({ s with rst := { s.rst with phase := .saving, cause := k }, cmd := {} } : State) = t
  have k1 := State.thrDrop_keeps (Nat.and_self _) (State.Keeps.refl _ t)
  have k2 := State.gaspStart_keeps (x1 := 1) (Nat.and_self _) (State.Keeps.refl _ t.thrDrop)
  have h1 : (t.thrDrop.gaspStart 1).rst = t.rst := (k2.part .rst rfl : _ = _).trans (k1.part .rst rfl : _ = _)
  have h2 : (t.thrDrop.gaspStart 1).cmd = t.cmd := (k2.part .cmd rfl : _ = _).trans (k1.part .cmd rfl : _ = _)
  subst ht
  exact ⟨congrArg RstSt.phase h1, congrArg RstSt.cause h1, h2⟩

theorem foldl_fst_gf {α β : Type} (g : Fld) (f : State × β → α → State × β) (l : List α) (s : State × β) (h : ∀ u, ∀ a ∈ l, (f u a).1.gf g = u.1.gf g) :
    (l.foldl f s).1.gf g = s.1.gf g := by
  induction l generalizing s with
  | nil => rfl
  | cons a l ih => rw [List.foldl_cons, ih _ (fun u b hb => h u b (List.mem_cons_of_mem _ hb)), h s a List.mem_cons_self]

theorem cfgLoad_gf (s : State) (bs : List Byte) (g : Fld) (hg : g.key ≠ DMA_CFG_W2EN.key)
    (h : ∀ r ∈ regMap, ∀ o ∈ r.offs, ∀ f ∈ r.fields, cfgField o f = true → (⟨o, f.lo, f.w⟩ : Fld).key ≠ g.key) :
    (s.cfgLoad bs).gf g = s.gf g := by
  unfold State.cfgLoad
  have hh : ∀ (u : State) b, (u.histLoad b).regs = u.regs := by
    intro u b
    unfold State.histLoad
    generalize List.range 4096 = l
    induction l generalizing u with
    | nil => rfl
    | cons i l ih => rw [List.foldl_cons, ih]
  have hh' : ∀ (u : State) b f, (u.histLoad b).gf f = u.gf f := by
    intro u b f; unfold State.gf; rw [hh]
  simp only []
  rw [hh', State.gf_sf_ne _ _ (Ne.symm hg)]
  refine foldl_fst_gf g _ regMap (s, bs) (fun u r hr => ?_)
  split
  · refine foldl_fst_gf g _ r.offs u (fun u o ho => ?_)
    refine State.foldl_gf g _ r.fields u.1 (fun u f hf => ?_)
    split
    · rename_i hc; exact State.gf_sf_ne _ _ (h r hr o ho f hf hc)
    · rfl
  · rfl

theorem strap_cfg (g : Fld) (hlo : g.lo < 32) (ho : g.off = 0x58) :
    ∀ r ∈ regMap, ∀ o ∈ r.offs, ∀ f ∈ r.fields, cfgField o f = true → (⟨o, f.lo, f.w⟩ : Fld).key ≠ g.key := by
  have h1 : regMap.all (fun r => r.offs.all (fun o => r.fields.all (fun f => !cfgField o f || (decide (f.lo < 32) && o != 0x58)))) = true := by decide +kernel
  intro r hr o ho' f hf hc hk
  rw [List.all_eq_true] at h1
  have h2 := h1 r hr
  rw [List.all_eq_true] at h2
  have h3 := h2 o ho'
  rw [List.all_eq_true] at h3
  have h4 := h3 f hf
  simp only [hc, Bool.not_true, Bool.false_or, Bool.and_eq_true, decide_eq_true_eq, bne_iff_ne] at h4
  unfold Fld.key at hk
  simp only at hk
  omega

theorem loadConfig_gf (s : State) (g : Fld) (hlo : g.lo < 32) (ho : g.off = 0x58) : (s.loadConfig).gf g = s.gf g := by
  have hk : ∀ f : Fld, f.lo < 32 → f.off ≠ 0x58 → f.key ≠ g.key := by intro f h1 h2; unfold Fld.key; omega
  unfold State.loadConfig
  simp only []
  have hc : ∀ (u : State) n o, (u.configTake n o).gf g = u.gf g := by
    intro u n o
    unfold State.configTake
    split
    · rw [State.gf_sf_ne _ _ (hk NVM_STAT_CFG_COPY (by decide) (by decide)), cfgLoad_gf _ _ _ (Ne.symm (hk DMA_CFG_W2EN (by decide) (by decide))) (strap_cfg g hlo ho)]
    · exact State.gf_sf_ne _ _ (hk NVM_STAT_CFG_DEFAULT (by decide) (by decide))
  rw [hc]
  exact State.gf_sf_ne _ _ (hk NVM_ERR_CFG_LOST (by decide) (by decide))

theorem storeLoad_gf (s : State) (g : Fld) (hlo : g.lo < 32) (ho : g.off = 0x58) : (s.storeLoad).2.gf g = s.gf g := by
  have hr : regGroup g.off = .strap := by rw [ho]; rfl
  unfold State.storeLoad
  simp only []
  rw [State.Keeps.reg (State.ckptTake_keeps (Nat.and_self _) (State.Keeps.refl _ _)) g hlo (by rw [hr]; rfl)]
  rw [State.Keeps.reg (State.loadSnaps_keeps (Nat.and_self _) (State.Keeps.refl _ _)) g hlo (by rw [hr]; rfl)]
  rw [State.Keeps.reg (State.loadSnaps_keeps (Nat.and_self _) (State.Keeps.refl _ _)) g hlo (by rw [hr]; rfl)]
  rw [State.Keeps.reg (State.setBilDone_keeps (Nat.and_self _) (State.Keeps.refl _ _) (.inl (by decide))) g hlo (by rw [hr]; rfl)]
  rw [State.Keeps.reg (State.setBilDone_keeps (Nat.and_self _) (State.Keeps.refl _ _) (.inl (by decide))) g hlo (by rw [hr]; rfl)]
  rw [State.Keeps.reg (State.bilSample_keeps (Nat.and_self _) (State.Keeps.refl _ _)) g hlo (by rw [hr]; rfl)]
  rw [State.Keeps.reg (State.bilSample_keeps (Nat.and_self _) (State.Keeps.refl _ _)) g hlo (by rw [hr]; rfl)]
  rw [State.Keeps.reg (State.loadCal_keeps (Nat.and_self _) (State.Keeps.refl _ _)) g hlo (by rw [hr]; rfl)]
  exact loadConfig_gf s g hlo ho

theorem setOff_zeroDemand (s : State) (o : Nat) (v : Bool) : ({ s with ket := { s.ket with offset := o, valid := v } } : State).ket.zeroDemand = s.ket.zeroDemand := rfl
theorem ketOffset_zeroDemand (s : State) : s.ketOffset.ket.zeroDemand = s.ket.zeroDemand := by
  unfold State.ketOffset; exact setOff_zeroDemand s _ _
theorem mirror_zeroDemand (s : State) : s.mirror.ket.zeroDemand = s.ket.zeroDemand := by
  unfold State.mirror
  split
  · rw [congrArg Kettle.zeroDemand (State.Keeps.part (State.ketCopy_keeps (Nat.and_self _) (State.Keeps.refl _ _)) .ket rfl : _)]
    exact ketOffset_zeroDemand s
  · rfl
theorem timeLoad_time (s : State) (l : Loaded) (h : s.ket.valid = true) : (s.timeLoad l).time.t = s.ket.time * 2 ^ 32 := by
  unfold State.timeLoad
  simp only [h, Bool.not_true, Bool.false_eq_true, if_false]
  rw [(State.Keeps.part (State.mirror_keeps (Nat.and_self _) (State.Keeps.refl _ _)) .devTime rfl : _ = _)]
  rw [State.sfs_eq]
theorem timeLoad_hwm (s : State) (l : Loaded) (h : s.ket.valid = true) : s.ket.hwm ≤ (s.timeLoad l).ket.hwm := by
  unfold State.timeLoad
  simp only [h, Bool.not_true, Bool.false_eq_true, if_false]
  refine Nat.le_trans ?_ (State.Keeps.part (State.mirror_keeps (Nat.and_self _) (State.Keeps.refl _ _)) .hwm rfl : _ ≤ _)
  rw [State.sfs_eq]
  exact Nat.le_max_left _ _
theorem stepNeeded_zeroDemand (s : State) : s.stepNeeded.ket.zeroDemand = s.ket.zeroDemand := by
  have h : ({ s.stepNeeded.ket with hwm := 0 } : Kettle) = { s.ket with hwm := 0 } :=
    State.Keeps.part (State.stepNeeded_keeps (Nat.and_self _) (State.Keeps.refl _ s)) .ket rfl
  exact (congrArg Kettle.zeroDemand h :)
theorem timeLoad_zeroDemand (s : State) (l : Loaded) : (s.timeLoad l).ket.zeroDemand = s.ket.zeroDemand := by
  unfold State.timeLoad
  simp only []
  rw [mirror_zeroDemand]
  split
  · rw [stepNeeded_zeroDemand, State.sfs_eq]
  · rw [State.sfs_eq]

def strapList (x : Straps) : List (Fld × Nat) := [(STRAP_MODE, x.mode.val), (STRAP_IOV0, b2n x.iov0), (STRAP_IOV1, b2n x.iov1), (STRAP_CORECLK_SEL, b2n x.coreclkSel),
    (STRAP_MODE_RSVD, b2n (x.mode == 3)), (STRAP_SPI_CORE_XO, b2n (decide (2 ≤ x.mode.val) && !x.coreclkSel)), (CLK_STAT_META_LOCK, 1), (CLK_STAT_TPLL_LOCK, 1),
    (CLK_STAT_CORE_LOCK, 1), (CLK_STAT_CORE_SRC, b2n (x.coreclkSel || decide (2 ≤ x.mode.val)))]
theorem strapSample_gf (s : State) (x : Straps) (i : Nat) (f : Fld) (v : Nat) (h : (strapList x)[i]? = some (f, v))
    (hk : ((strapList x).drop (i + 1)).all (fun e => decide (e.1.key ≠ f.key)) = true) : (s.strapSample x).gf f = v % 2 ^ f.w := by
  show (s.sfs (strapList x)).gf f = _
  have hi : i < (strapList x).length := by
    by_contra hc
    rw [List.getElem?_eq_none (by omega)] at h; cases h
  rw [List.getElem?_eq_getElem hi, Option.some.injEq] at h
  have hl : strapList x = (strapList x).take i ++ (f, v) :: (strapList x).drop (i + 1) := by
    rw [← h, List.getElem_cons_drop, List.take_append_drop]
  rw [hl]
  refine State.gf_sfs_at _ _ _ _ _ (fun e he => ?_)
  simpa using List.all_eq_true.mp hk e he

theorem strapSample_rest (s : State) (x : Straps) : ∃ m, s.strapSample x = { s with regs := m } := by
  unfold State.strapSample; exact ⟨_, State.sfs_eq _ _⟩

/-- The zeroise demand is carried out: what the load sees of the state. -/
theorem zeroDemand_rest (s : State) : s.zeroDemand.rst = s.rst ∧ s.zeroDemand.regs = s.regs ∧ s.zeroDemand.sec.mres = s.sec.mres ∧
    s.zeroDemand.sec.mdue = s.sec.mdue ∧ (s.ket.zeroDemand = true → s.zeroDemand.sec.zeroised = true) ∧ s.zeroDemand.ket.zeroDemand = false ∧
    s.zeroDemand.ket.valid = s.ket.valid ∧ s.zeroDemand.ket.time = s.ket.time ∧ s.zeroDemand.ket.hwm = s.ket.hwm := by
  unfold State.zeroDemand
  split
  · exact ⟨rfl, rfl, rfl, rfl, fun _ => rfl, rfl, rfl, rfl, rfl⟩
  · rename_i h
    exact ⟨rfl, rfl, rfl, rfl, fun h' => absurd h' h, by simpa using h, rfl, rfl, rfl⟩

/-- A reservation of the seal counter is asked of the store: nothing else changes. -/
theorem storeSeals_rest (s : State) : ∃ v, s.storeSeals = { s with nvm := v, sec := { s.sec with mdue := true } } := by
  unfold State.storeSeals
  split
  · rename_i h
    refine ⟨s.nvm, ?_⟩
    rw [← h]
  · exact ⟨_, rfl⟩

theorem release_of (s : State) (x : Straps) : ∃ u : State, s.releaseReset x = ((u.storeLoad.2).afterLoad (u.storeLoad.1)).storeSeals ∧
    u.rst.phase = .startup ∧ (∀ f, u.gf f = (s.strapSample x).gf f) ∧ u.sec.mres = s.sec.mres ∧ u.sec.mdue = s.sec.mdue ∧
    (s.ket.zeroDemand = true → u.sec.zeroised = true) ∧ u.ket.zeroDemand = false ∧ u.ket.valid = s.ket.valid ∧ u.ket.time = s.ket.time ∧ u.ket.hwm = s.ket.hwm := by
  have hh : ∀ (l : List (Fld × Nat)) (a b : State), a.regs = b.regs → (a.sfs l).regs = (b.sfs l).regs := by
    intro l
    induction l with
    | nil => exact fun _ _ h => h
    | cons e l ih => intro a b h; rw [State.sfs_cons, State.sfs_cons]; exact ih _ _ (by unfold State.sf; rw [h])
  obtain ⟨m, hm⟩ := strapSample_rest { s with rst := { s.rst with phase := .startup, loaded := true, powerLoss := s.ket.lost && s.ket.valid } } x
  have hg : m = (s.strapSample x).regs := by
    have h1 := congrArg State.regs hm
    rw [← show _ = m from h1]
    unfold State.strapSample
    exact hh _ _ _ rfl
  refine ⟨_, rfl, ?_⟩
  simp only [hm]
  obtain ⟨h1, h2, h3, h3', h4, h5, h6, h7, h8⟩ := zeroDemand_rest { s with rst := { s.rst with phase := .startup, loaded := true, powerLoss := s.ket.lost && s.ket.valid }, regs := m }
  exact ⟨by rw [h1], fun f => by unfold State.gf; rw [h2, hg], h3, h3', h4, h5, h6, h7, h8⟩

theorem afterLoad_tail (s : State) (l : Loaded) : ∃ u v : State, s.afterLoad l = (v.startTests).ketCopy ∧ 
    u.regs = ((s.ringSeries l).timeLoad l).regs ∧ u.time = ((s.ringSeries l).timeLoad l).time ∧ u.ket = { ((s.ringSeries l).timeLoad l).ket with lost := false } ∧
    State.Keeps (scopeMask [.slc, .rings, .met, .bil, .nvm, .arch] [.cf, .bilStat, .bilSnap, .nvm]) u v := by
  unfold State.afterLoad
  extract_lets -merge -useContext +onlyGivenNames y1
  extract_lets -merge -useContext +onlyGivenNames v7
  extract_lets -merge -useContext +onlyGivenNames v9
  extract_lets -merge -useContext +onlyGivenNames y11
  extract_lets -merge -useContext +onlyGivenNames y13
  extract_lets -merge -useContext +onlyGivenNames y24
  extract_lets -merge -useContext +onlyGivenNames y32
  refine ⟨y13, y32, rfl, rfl, rfl, rfl, ?_⟩
  refine State.Keeps.upd_slc (s := y24) (by rfl) ?_
  refine State.storeWrites_keeps rfl ?_
  refine State.s64_keeps ?_ ?_ (State.Keeps.refl _ _)
  · exact Has.reg (m := scopeMask [] [.nvm]) (by rfl) (by decide) (RegGroup.nvm_at (by decide) (by decide)) rfl
  · exact Has.reg (m := scopeMask [] [.nvm]) (by rfl) (by decide) (RegGroup.nvm_at (by decide) (by decide)) rfl

/-- Setting mask bits in a fold only adds bits. -/
theorem foldl_mbit {α : Type} (g : Fld) (j : Nat) (f : State → α → State) (l : List α) (s : State)
    (h : ∀ u, ∀ a ∈ l, u.mbit g j = true → (f u a).mbit g j = true) (hs : s.mbit g j = true) : (l.foldl f s).mbit g j = true := by
  induction l generalizing s with
  | nil => exact hs
  | cons a l ih => exact ih _ (fun u b hb => h u b (List.mem_cons_of_mem _ hb)) (h s a List.mem_cons_self hs)

theorem foldl_mbit_mem {α : Type} (g : Fld) (j : Nat) (f : State → α → State) (l : List α) (s : State) (a : α) (ha : a ∈ l)
    (h : ∀ u, ∀ a ∈ l, u.mbit g j = true → (f u a).mbit g j = true) (hs : ∀ u, (f u a).mbit g j = true) : (l.foldl f s).mbit g j = true := by
  induction l generalizing s with
  | nil => cases ha
  | cons b l ih =>
    rcases List.mem_cons.mp ha with rfl | hm
    · exact foldl_mbit g j f l _ (fun u b hb => h u b (List.mem_cons_of_mem _ hb)) (hs s)
    · exact ih _ hm (fun u b hb => h u b (List.mem_cons_of_mem _ hb))

theorem mbit_smbit_true (s : State) (f g : Fld) (i j : Nat) (hj : j < g.w) (hd : f.key ≠ g.key ∨ f = g) (h : s.mbit g j = true) : (s.smbit f i true).mbit g j = true := by
  rcases hd with hd | rfl
  · rw [State.mbit_smbit_ne _ _ _ _ hd, h]
  · rw [State.mbit_smbit _ _ _ _ _ hj, h]; simp

theorem linkLanes_mbit (s : State) (g : Fld) (j : Nat) (h1 : g.lo < 32) (h2 : regGroup g.off ≠ .linkStat) :
    s.linkLanes.mbit g j = s.mbit g j := by
  have h := (State.linkLanes_keeps (Nat.and_self _) (State.Keeps.refl _ s)).reg g h1
  unfold State.mbit
  rw [h]
  revert h2
  cases regGroup g.off <;> decide

theorem startFences_bank (s : State) (bb : List (Fin 64)) (bl : List (Fin 2)) (b : Fin 64) (hb : b ∈ bb) : (s.startFences bb bl).bankFenced b = true := by
  unfold State.startFences
  simp only []
  generalize (List.range 8).foldl _ _ = u
  unfold State.bankFenced
  by_cases hlt : b.val < 32
  · rw [if_pos hlt, linkLanes_mbit _ _ _ (by decide) (by decide)]
    refine foldl_mbit _ _ _ _ _ (fun u a _ h => mbit_smbit_true _ _ _ _ _ (by exact hlt) (.inl (by decide)) h) ?_
    refine foldl_mbit_mem _ _ _ _ _ b hb (fun u a _ h => ?_) (fun u => ?_)
    · split
      · exact mbit_smbit_true _ _ _ _ _ (by exact hlt) (.inr rfl) h
      · exact mbit_smbit_true _ _ _ _ _ (by exact hlt) (.inl (by decide)) h
    · rw [if_pos hlt, State.mbit_smbit _ _ _ _ _ (by exact hlt), if_pos rfl]
  · rw [if_neg hlt, linkLanes_mbit _ _ _ (by decide) (by decide)]
    have h32 : b.val - 32 < FENCE_BANK_HI_BANK.w := by have := b.isLt; show b.val - 32 < 32; omega
    refine foldl_mbit _ _ _ _ _ (fun u a _ h => mbit_smbit_true _ _ _ _ _ h32 (.inl (by decide)) h) ?_
    refine foldl_mbit_mem _ _ _ _ _ b hb (fun u a _ h => ?_) (fun u => ?_)
    · split
      · exact mbit_smbit_true _ _ _ _ _ h32 (.inl (by decide)) h
      · exact mbit_smbit_true _ _ _ _ _ h32 (.inr rfl) h
    · rw [if_neg hlt, State.mbit_smbit _ _ _ _ _ h32, if_pos rfl]

theorem startFences_lane (s : State) (bb : List (Fin 64)) (bl : List (Fin 2)) (k : Fin 2) (hb : k ∈ bl) : (s.startFences bb bl).mbit FENCE_MISC_LANE k = true := by
  unfold State.startFences
  simp only []
  have hk : k.val < FENCE_MISC_LANE.w := k.isLt
  rw [linkLanes_mbit _ _ _ (by decide) (by decide)]
  refine foldl_mbit_mem _ _ _ _ _ k hb (fun u a _ h => mbit_smbit_true _ _ _ _ _ hk (.inr rfl) h) (fun u => ?_)
  rw [State.mbit_smbit _ _ _ _ _ hk, if_pos rfl]

theorem autostart_gf (s : State) (g : Fld) (hl : g.lo < 32) (hr : regGroup g.off = .rst) (h1 : g.key ≠ RST_STAT_AUTO_RUN.key)
    (h2 : g.key ≠ RST_STAT_AUTO_REF.key) (h3 : g.key ≠ RST_STAT_AUTO_PAIRS.key) : s.autostart.gf g = s.gf g := by
  have h4 : TSAR_CTRL_EN.key ≠ g.key := Fld.key_ne (by decide) hl (.inl (by intro h; rw [← h] at hr; cases hr))
  unfold State.autostart
  simp only []
  rw [State.gf_sfs_ne _ _ (by intro e he; simp at he; rcases he with rfl | rfl; exacts [Ne.symm h1, Ne.symm h2])]
  rw [State.Keeps.reg (State.startGroups_keeps (Nat.and_self _) (State.Keeps.refl _ _)) g hl (by rw [hr]; rfl)]
  rw [State.gf_sf_ne _ _ (Ne.symm h3)]
  rw [State.Keeps.reg (State.tsEnable_keeps (Nat.and_self _) (State.Keeps.refl _ _)) g hl (by rw [hr]; rfl)]
  rw [State.Keeps.reg (State.tsEnable_keeps (Nat.and_self _) (State.Keeps.refl _ _)) g hl (by rw [hr]; rfl)]
  exact State.gf_sf_ne _ _ h4

theorem readyRegs_gf (s : State) (b : Bool) : (s.readyRegs b).gf RST_STAT_CAUSE = s.rst.cause % 8 ∧ (s.readyRegs b).gf RST_STAT_READY = 1 ∧
    (s.readyRegs b).gf RST_STAT_SAVED = b2n s.rst.saved % 2 ∧ (s.readyRegs b).gf RST_TREADY_LO_FRAC = s.now % 2 ^ 32 ∧
    (s.readyRegs b).gf RST_TREADY_HI_SEC = s.now / 2 ^ 32 % 2 ^ 32 ∧ ∀ g : Fld, g.lo < 32 → regGroup g.off ≠ .rst → (s.readyRegs b).gf g = s.gf g := by
  unfold State.readyRegs
  simp only []
  generalize min _ 65535 = us
  refine ⟨by rw [State.gf_sfs_get _ _ 0 RST_STAT_CAUSE _ rfl (by simp; try decide)]; rfl, by rw [State.gf_sfs_get _ _ 1 RST_STAT_READY _ rfl (by simp; try decide)]; rfl,
    by rw [State.gf_sfs_get _ _ 2 RST_STAT_SAVED _ rfl (by simp; try decide)]; rfl, ?_, ?_, fun g hl hg => ?_⟩
  · rw [State.gf_sfs_ne _ _ (by intro e he; simp at he; rcases he with rfl | rfl | rfl | rfl | rfl <;> (dsimp only; decide))]
    unfold State.s64
    rw [State.gf_sf_ne _ _ (by decide), State.gf_sf]
  · rw [State.gf_sfs_ne _ _ (by intro e he; simp at he; rcases he with rfl | rfl | rfl | rfl | rfl <;> (dsimp only; decide))]
    unfold State.s64
    rw [State.gf_sf]
  · have hk : ∀ f : Fld, f.lo < 32 → regGroup f.off = .rst → f.key ≠ g.key := fun f h1 h2 =>
      Fld.key_ne h1 hl (.inl (fun h => hg (h ▸ h2)))
    rw [State.gf_sfs_ne _ _ (by intro e he; simp at he; rcases he with rfl | rfl | rfl | rfl | rfl <;> exact hk _ (by dsimp only; decide) rfl)]
    unfold State.s64
    rw [State.gf_sf_ne _ _ (hk RST_TREADY_HI_SEC (by decide) rfl), State.gf_sf_ne _ _ (hk RST_TREADY_LO_FRAC (by decide) rfl)]

end Sys2Proof.Machine
end

