-- ==== Sys2Proof/Machine/Balls.lean ====
section
/-! DEFINITION. What the device drives on its output balls (R30, R32, R40, R44): a reading of the state, which no command needs. -/

namespace Sys2Proof.Machine

/-- A driven level. -/
def Drive.level (b : Bool) : Drive := if b then .high else .low

/-- The device has released its balls (R32): it has done so at readiness and holds them until it is in reset again. While main power is
absent, in every reset and in start-up they are high impedance. -/
def State.released (s : State) : Bool := s.serving

/-- A push-pull ball of the main supplies. -/
def State.ball (s : State) (level : Bool) : Drive := if s.released then Drive.level level else .hiZ

/-- EVTp (R96). -/
def State.evtBall (s : State) (p : Nat) : Drive := s.ball (s.evtPins.testBit p != s.mbit EVT_PIN_CTRL_INV p)

/-- FASTEVTm (R112). -/
def State.fastBall (s : State) (m : Nat) : Drive := s.ball (s.mbit FAST_PIN_CFG_STATE m != s.mbit FAST_PIN_CFG_INV m)

/-- CFm (R171). -/
def State.cfBall (s : State) (m : Fin 4) : Drive := s.ball (s.gb (CF_STAT_ACTIVE m) != s.cfInv m)

/-- INT_N, open drain: asserted while E is non-zero in SPI-only mode, high impedance in both PCIe modes (R40, R499). -/
def State.intN (s : State) : Drive := if s.released && s.spiOnly && s.intE then .low else .hiZ

/-- CLKREQ_N, open drain (R273): it is driven from the release of a reset on; with CORECLK_SEL = 1 not in L1. -/
def State.clkreqN (s : State) : Drive :=
  if !s.inReset && (!s.gb STRAP_CORECLK_SEL || !s.gb LINK_STAT_L1) then .low else .hiZ

/-- WAKE_N, open drain (R274). -/
def State.wakeN (s : State) : Drive := if s.released && s.wake then .low else .hiZ

/-- SPI_SDO while SPI_CS_N is low or high and the transfer has a bit to send (Table 2-2); MODE = 0b01 ignores the SPI balls. -/
def State.spiSdo (s : State) (csLow bit : Bool) : Drive := if csLow && decide (s.gf STRAP_MODE ≠ 1) then s.ball bit else .hiZ

/-- TDO while the test access port shifts a bit out. -/
def State.tdo (s : State) (shifting bit : Bool) : Drive := if shifting then s.ball bit else .hiZ

/-- ABP_D while a read holds ABP_CS_N low (R387): the 32 bits. -/
def State.abpD (s : State) (reading : Bool) (i : Fin 32) : Drive := if reading then s.ball (s.abp.dout.testBit i) else .hiZ

/-- ABP_BUSY_N (R30, R364, R387): high impedance in reset, where the board's resistor reads as busy; low while an access is not
complete, and for as long as R364 applies. -/
def State.abpBusyN (s : State) : Drive := s.ball (s.abp.busy.isNone && s.isReady)

/-- ALARM_N, open drain, powered from the Kettle (R470). -/
def State.alarmN (s : State) : Drive := if s.ketAlarm then .low else .hiZ

end Sys2Proof.Machine
end

