-- ==== Sys2Proof/Tests/Slice0.lean ====
section
/-! SUPPORT. Tests: well-formedness refuses ill-formed terms; for every statement with hypotheses a state and operands that meet
them; single steps with results from the spec. -/

namespace Sys2Proof.Tests

open Sys2Proof Sys2Proof.Machine

set_option Elab.async false

/-! ### Well-formedness: each check refuses an ill-formed term -/

theorem test_wf_bad_banks_distinct : Instr.wf (.startupReady 0 [3, 3] []) = false := by decide
theorem test_wf_bad_lanes_distinct : Instr.wf (.startupReady 0 [] [1, 1]) = false := by decide
theorem test_wf_sample_count : Instr.wf (.decimatorOutputSample 0 [{}, {}, {}] 0) = false := by decide
theorem test_wf_first_sample_count : Instr.wf (.firstSampleDelivered 1 [] 0) = false := by decide
theorem test_wf_sample_ok : Instr.wf (.decimatorOutputSample 0 (List.replicate 8 {}) 0) = true := by decide
theorem test_wf_check_move : Instr.wf (.checkSelectorMove [[8388608]]) = false := by decide
theorem test_wf_check_channels : Instr.wf (.afeCheckDone (List.replicate 17 [])) = false := by decide
theorem test_wf_check_code : Instr.wf (.afeCheckDone [[-8388609]]) = false := by decide
theorem test_wf_sarcal_pairs : Instr.wf (.sarcalDone [] ⟨0, 0, true⟩ 0) = false := by decide
theorem test_wf_set_time_block : Instr.wf (.setTimeNow (List.replicate 127 0)) = false := by decide +kernel
theorem test_wf_at_pps_block : Instr.wf (.setTimeAtPps []) = false := by decide
theorem test_wf_offset_block : Instr.wf (.setTimeOffset []) = false := by decide
theorem test_wf_leap_block : Instr.wf (.setTimeLeap []) = false := by decide
theorem test_wf_window_points : Instr.wf (.resamplerWindowEnd 0 0 [[]]) = false := by decide
theorem test_wf_supra_samples : Instr.wf (.supraRecordComplete 0 [[]]) = false := by decide
theorem test_wf_register_write_words : Instr.wf (.registerWrite 0 [] true) = false := by decide
theorem test_wf_register_read_words : Instr.wf (.loRegisterRead .pcie 0 0 true) = false := by decide
theorem test_wf_bar2_read_bytes : Instr.wf (.bar2Read 0 0 .ok 0) = false := by decide
theorem test_wf_bar2_write_bytes : Instr.wf (.bar2Write 0 [] 0 0) = false := by decide
theorem test_wf_bar2_write_enables : Instr.wf (.bar2Write 0 [7] 2 0) = false := by decide
theorem test_wf_ring_entry : Instr.wf (.ringEntryReadDone 0 (.data [])) = false := by decide
theorem test_wf_command_entry : Instr.wf (.commandFetch (List.replicate 63 0)) = false := by decide +kernel
theorem test_wf_nvm_write : Instr.wf (.nvmWrite (List.replicate 4097 0)) = false := by decide +kernel
theorem test_wf_open_block : Instr.wf (.openSealSession []) = false := by decide
theorem test_wf_owner_block : Instr.wf (.ownerInstall []) = false := by decide
theorem test_wf_tamper_block : Instr.wf (.tamperClear []) = false := by decide
theorem test_wf_spi_write_frame : Instr.wf (.spiFrame 0x80000004#32 [] 0) = false := by decide
theorem test_wf_spi_read_frame : Instr.wf (.spiFrame 0x00000004#32 [] 0) = false := by decide
theorem test_wf_consent_block : Instr.wf (.debugConsent []) = false := by decide
theorem test_wf_unlock_key : Instr.wf (.debugUnlock (List.replicate 128 0) []) = false := by decide +kernel

/-! ### Small states -/

/-- The device after reset, ready. -/
def up : State := { State.reset with rst := { State.reset.rst with phase := .ready } }

/-- The device after reset in another phase. -/
def inPhase (p : Phase) : State := { State.reset with rst := { State.reset.rst with phase := p } }

/-- A ready device with a seal session of the PCIe port. -/
def opened : State := { up with sec := { up.sec with session := some { port := .pcie, number := 1, left := 100, changes := [] } } }

/-- A command entry: opcode, tag 7, arguments. -/
def entryOf (op : Nat) (args : List Byte) : List Byte := leBytes 1 op ++ [0, 7, 0] ++ zeros 12 ++ args ++ zeros (48 - args.length)

/-- A command of the CMD ring. -/
def cmdOf (op : Nat) (args : List Byte) : Cmd := { entry := entryOf op args, via := .ring 0, seq0 := Vector.replicate 64 0 }

/-- A state in which a command of the CMD ring executes. -/
def runs (s : State) (op : Nat) (args : List Byte) : State := { s with cmd := { s.cmd with cur := some (cmdOf op args) } }

/-- Group g changed. -/
def withGrp (s : State) (g : Fin 2) (f : Grp → Grp) : State := s.setGrp g f

/-- Group g running. -/
def running (s : State) (g : Fin 2) : State := s.setGrp g (fun x => { x with running := true })

/-- BAR2 is enabled with bank 63 owned by the host and on; the aux port is enabled with bank 62 at its map entry 15. -/
def served2 : State := { up.sfs [(LINK_STAT_UP, 1), (BANK_OWNER_OWNER 63, 3), (BANK_OWNER_OWNER 62, 4), (ABP_CFG_EN, 1), (ABP_MAP_EN 15, 1), (ABP_MAP_BANK 15, 62)] with
  link := { up.link with bme := true, bar2 := true }, mem := [(62 * bankBytes + 4, 9), (63 * bankBytes, 7)] }

/-! ### Witnesses: for each statement with hypotheses, states and operands that meet those of each clause -/

/-- A ready device that follows PPS. -/
def ppsOn : State := up.sf TIME_CTRL_PPS_EN 1
/-- Channels 0 to 2 enabled and the reference ready. -/
def enabled : State := up.sfs [(AFE_CH_CFG_EN 0, 1), (AFE_CH_CFG_EN 1, 1), (AFE_CH_CFG_EN 2, 1), (AFE_REF_REF_RDY, 1)]
/-- Group g runs, with its samples from 100 s to 110 s; its cycle in progress began at 105 s. -/
def sampled (g : Fin 2) (f : Grp → Grp) : State := withGrp up g (fun x => f { x with
  running := true, mask := 0x77, anchors := [{ n := 0, ta := List.replicate 8 (100 * 2 ^ 64), p := 2 ^ 61 / 1000 + 1 }], si := 80000,
  cycA := 105 * 2 ^ 32, nominal := false })
/-- Bounds of a window between 104.8 s and 105 s. -/
def endedWin : WinDone := { w := { a := 104 * 2 ^ 32 + 8 * (2 ^ 32 / 10), mask := 0x77 }, b := 105 * 2 ^ 32 }
/-- A step of group 0 with 1 Ws imported on phase 0. -/
def oneStep : StepEnd := {
  a := 104 * 2 ^ 32, b := 105 * 2 ^ 32, si := 32000, k := 8000, d := 2 ^ 64, ep := [1, 0, 0], dp := [2 ^ 64, 0, 0], meas := 1, creep := 0,
  p := [1, 0, 0], q := [0, 0, 0], sp := [1, 0, 0], se := none, flags := 0, last := true }
/-- A window of one channel while the tracker holds its frequency, and points for it. -/
def heldWin : Window := { a := 104 * 2 ^ 32 + 8 * (2 ^ 32 / 10), fhold := true, mask := 1 }
def heldPts : List (List Rat) := List.replicate 10240 0 :: List.replicate 7 []
/-- Ring n of a state is on and carries a class, with a PARAM. -/
def withRing (s : State) (n : Fin 64) (cls param : Nat) : State :=
  s.setRing n (fun r => { r with st := .on, cls := cls, param := param, log2 := 10 })
/-- Statistics are enabled, logical bank 0 is served, and ring 5 carries the AGG records of level 1. -/
def stats : State := withRing (up.sfs [(STAT_CTRL_EN, 1), (STAT_BANKMAP_VALID 0, 1)]) 5 clsAGG 1
/-- Histogram 4095: 16 bins from 0 in steps of 1 at cell 16, U of phase 0 of MGA at level 1, enabled. -/
def hist16 : Hist := { d0 := 0x81000000, d1 := 0x400010 }
/-- Histogram 4095 with increments that wait. -/
def counting (l : List StatItem) : State := { stats.setHist 4095 (fun _ => hist16) with
  stat := { (stats.setHist 4095 (fun _ => hist16)).stat with waits := l, cells := [(31, 7)] } }
/-- The staging of a descriptor of 16 bins at cell 16 for histogram 4095. -/
def staged : State := { stats.sf STAT_DSEL_INDEX 4095 with stat := { stats.stat with stag1 := 0x400010, cells := [(16, 3)] } }
/-- A triggered capture of channel 0 with one sample. -/
def capturing : State := { up.sfs [(CAP_STAT_STATE, 2), (CAP_SRC_SD, 1)] with
  cap := { trigs := [{ kind := 10, src := 255, t := 5 * 2 ^ 32 }], wEnd := 6 * 2 ^ 32, buf := [{ src := 0, idx := 9, t := 5 * 2 ^ 32, e := 5 * 2 ^ 32 + 1000, w := 77 }] } }
/-- Both groups hold a tariff register, a maximum demand and a period number. -/
def billed (s : State) : State :=
  { s.sfs [(BIL_STAT_PERIOD 0, 3), (BIL_STAT_PERIOD 1, 4)] with bil := Vector.ofFn (fun _ => { treg := [(63, 2 ^ 64 + 5)], maxd := [(63, 1)], poison := [63] }) }
/-- A calendar image that passes: one season from 1 January, a day profile that switches at midnight. -/
def goodImage : SMap Nat := [(1, 0x80000021), (0x11, 0x80000000)]
/-- The passive image is a good one, to be active at 120 s. -/
def goodCal : State := { opened.sf BIL_PCAL_ACT_HI_SEC 120 with cals := { opened.cals with pas := goodImage } }
/-- The link is up, in D0 with Bus Master Enable, and MSI-X is enabled with vector 0 open. -/
def linked : State := { up.sf LINK_STAT_UP 1 with
  link := { up.link with bme := true, msixEn := true, msix := up.link.msix.set 0 { addr := 0xFEE00000, data := 0x41, masked := false } } }
/-- Ring 63 waits for its entry. -/
def waiting : State := linked.setRing 63 (fun r => { r with waiting := true })
/-- A ring table entry for a LOG ring of 1024 entries at 0x10000. -/
def logEntry : List Byte := leBytes 8 0x10000 ++ leBytes 8 0x8 ++ [10] ++ leBytes 1 clsLOG ++ zeros 14
/-- Ring 63 is on with the class, the device's index 0xFFFFFFFF published as 0xFFFFFFFE and the host's at 0xFFFFFFFE. -/
def onRing (cls : Nat) : State := linked.setRing 63 (fun r => { r with
  st := .on, cls := cls, log2 := 10, dev := 0xFFFFFFFF, pub := 0xFFFFFFFE, host := 0xFFFFFFFE, wSeq := 4, irq := true, unvis := [(4, 0)], oldest := some 0, sig := 0xFFFFFFFD })
/-- CMD ring 63 with one entry at its wrap, CPL ring 62. -/
def fetching : State := (onRing clsCMD).setRing 62 (fun r => { r with st := .on, cls := clsCPL, log2 := 10 }) |>.setRing 63 (fun r => { r with host := 0 })
/-- A command entry with its CRC. -/
def sealedEntry (op : Nat) : List Byte := (entryOf op []).take 60 ++ leBytes 4 (crc32c ((entryOf op []).take 60))
/-- The mailbox holds an entry and is busy. -/
def boxed (e : List Byte) : State := (up.sfs ((List.range 16).map (fun i => (MBOX_CMD_CMD i, leAt e (4 * i) 4)))).sf MBOX_STATUS_BUSY 1
/-- The arguments of a NVM command: address, length. -/
def nvmArgs (a l : Nat) : List Byte := leBytes 4 a ++ leBytes 4 l
/-- A NVM command of the CMD ring; its entry names the length again. -/
def nvmCmd (op a l : Nat) : Cmd := { cmdOf op (nvmArgs a l) with entry := leBytes 1 op ++ [0, 7, 0] ++ leBytes 2 l ++ zeros 2 ++ leBytes 8 0x20000 ++ nvmArgs a l ++ zeros 40 }
/-- A NVM command executes. -/
def nvmRuns (op a l : Nat) : State := { up.sf LINK_STAT_UP 1 with link := { up.link with bme := true }, cmd := { up.cmd with cur := some (nvmCmd op a l) } }
/-- A write of a page in progress. -/
def writing (k : NvmKind) : NvmReq := { cls := 8, kind := k, ops := [[{ page := 0x7FF, word := 0, bytes := List.replicate 256 0xA5 }]] }
/-- A host write of the last page runs. -/
def storing (k : NvmKind) : State := { nvmRuns 8 0x7FF00 256 with nvm := { up.nvm with running := some (writing k), bytes := [(0x7FEFF, 9)] } }
/-- The signed part of a control block: kind, the nonce's last byte, PARAM. -/
def blkMsg (kind nonce : Nat) (param : List Byte) : List Byte :=
  leBytes 1 kind ++ zeros 30 ++ leBytes 1 nonce ++ param ++ zeros (32 - param.length)
/-- A control block whose signature (r, s) is its hash twice: with u1 = u2 = 1 it verifies under the key R - G, R the point at that x. -/
def blkOf (kind nonce : Nat) (param : List Byte) : List Byte :=
  blkMsg kind nonce param ++ sha256 (blkMsg kind nonce param) ++ sha256 (blkMsg kind nonce param)
/-- The key of blkOf. -/
def blkKey (kind nonce : Nat) (param : List Byte) : Nat × Nat :=
  (ptAdd (some (ofBe ((decompress 2 (ofBe (sha256 (blkMsg kind nonce param)))).take 32), ofBe ((decompress 2 (ofBe (sha256 (blkMsg kind nonce param)))).drop 32)))
    (p256G.map (fun g => (g.1, p256P - g.2)))).getD (0, 0)
/-- A device whose owner has that key, with the nonce in force. -/
def owned (kind nonce : Nat) (param : List Byte) : State := { up with sec := { up.sec with
  trngOk := true, owner := some (2 + (blkKey kind nonce param).2 % 2, (blkKey kind nonce param).1), nonce := zeros 15 ++ leBytes 1 nonce } }
/-- A LOG ring with unsealed visible records. -/
def unsealedRing : State := { up with sec := { up.sec with mres := 1 } }.setRing 63 (fun r => { r with st := .on, cls := clsLOG, log2 := 10, lastVis := 5, wSeq := 5, nextSeq := 6, openSeq := 3, visChain := zeros 32 })
/-- A seal in signing. -/
def signing0 : Signing := { ring := 63, cause := 1, seqFirst := 3, seqLast := 5, chain := zeros 32, time := 0 }
/-- The x coordinate of the base point: the key of the secret 1. -/
def baseX : Nat := 0x6B17D1F2E12C4247F8BCE6E563A440F277037D812DEB33A0F4A13945D898C296
/-- An INSTALL block for the base point, signed with the secret 1 and the nonce 1. -/
def installMsg : List Byte := [1, 3] ++ zeros 29 ++ [1] ++ beBytes 32 baseX
def installBlk : List Byte := installMsg ++ beBytes 32 baseX ++ beBytes 32 ((ofBe (sha256 installMsg) + baseX) % p256N)
/-- No owner, with the nonce of installMsg; owned by the base point. -/
def fresh : State := { up with sec := { up.sec with trngOk := true, nonce := zeros 15 ++ [1] } }
/-- The port locked, in SECCHAL, with consent. -/
def locked (s : State) (consent : Bool) : State := { s with sec := { s.sec with ir := .secchal, consent := consent } }
/-- Master 9 waits for bank 63 with a read since cycle 0. -/
def asking (age : Nat) : State := { up with fab := { up.fab with cycle := 700, heads := up.fab.heads.set 9 (some { tgt := 63, kind := .read, since := 0, age := age }) } }
/-- A checkpoint copy. -/
def ckCopy : SliceCopy := { seq := 4, t := 0, si := [0, 0], met := {}, bil := Vector.replicate 2 {} }
/-- The slices hold a current copy. -/
def copied (s : State) : State := { s with slc := { s.slc with cur := some ckCopy } }
/-- A switch-over with a Caddy, or without. -/
def swOf (caddy : Nat) (test : Option (Bool × Bool)) (assigned : Bool) : Switch := { cause := 4, t0 := 0, oldA := 0, oldC := 1, caddy := caddy, test := test, assigned := assigned }
def switched (w : Switch) : State := { up.sf SLICE_STAT_SWITCHING 1 with slc := { up.slc with sw := some w, cur := some ckCopy } }
/-- Bank 63 with a pending change. -/
def changing (p : BankPend) : State := { up.sf (BANK_PWR_STATE 63) 1 with bankPend := [.power 5 1, p], mem := [(63 * bankBytes, 7), (63 * bankBytes + 0x3FFFF, 8)] }
/-- The background test is in its step k of bank 63, region 127. -/
def testing (k : Nat) : State := { up.sf MTEST_CTRL_EN 1 with mtest := { active := true, bank := 63, region := 127, next := 8192, step := k } }
/-- A read of the aux port in progress. -/
def auxRead : AbpAcc := { write := false, addr := 0xF0001, word := 62 * 8192, lane := 1, be := 15, data := 0, ecc := .ok, undef := false }
/-- The Kettle of a ready device changed. -/
def ketOf (f : Kettle → Kettle) : State := { up with ket := f up.ket }

theorem test_wit_ResetsLoseAndKeep :
    (up.rst.phase ≠ .por ∧ 2000 < 2001) ∧
    ((inPhase .saving).rst.phase = .saving) ∧
    ((inPhase .gasp).rst.phase = .gasp) := by
  decide +kernel

theorem test_wit_FullResetSources :
    (up.rst.phase = .ready ∧ 1000 ≤ 1000) ∧
    ((up.sf LINK_STAT_UP 1).rst.phase = .ready ∧ (up.sf LINK_STAT_UP 1).gb LINK_STAT_UP = true) ∧
    ((runs up 15 []).executes 15 (cmdOf 15 [])) ∧
    ((up.sfs [(WDOG_STAT_WEDGED, 4), (WDOG_CTRL_GRACE, 1)]).rst.phase = .ready ∧ (up.sfs [(WDOG_STAT_WEDGED, 4), (WDOG_CTRL_GRACE, 1)]).gf WDOG_STAT_WEDGED ≠ 0 ∧ (up.sfs [(WDOG_STAT_WEDGED, 4), (WDOG_CTRL_GRACE, 1)]).gf WDOG_CTRL_GRACE ≠ 0) ∧
    ((inPhase .saving).rst.phase = .saving) := by
  unfold State.executes; decide +kernel

theorem test_wit_SuppliesAndReference :
    ((inPhase .por).rst.phase = .por) ∧
    ((inPhase .gaspHeld).rst.phase = .gaspHeld) ∧
    (({ inPhase .startup with rst := { (inPhase .startup).rst with sarDone := true } }).inReset = false ∧ (({ inPhase .startup with rst := { (inPhase .startup).rst with sarDone := true } }).rst.phase = .startup → ({ inPhase .startup with rst := { (inPhase .startup).rst with sarDone := true } }).rst.sarDone = true)) := by
  decide +kernel

theorem test_wit_ReleaseStartsUp :
    (({ State.reset with ket := { State.reset.ket with valid := true, zeroDemand := true, rtc := 327680 } }).rst.phase = .inReset ∧ ({ State.reset with ket := { State.reset.ket with valid := true, zeroDemand := true, rtc := 327680 } }).ket.valid = true ∧ ({ State.reset with ket := { State.reset.ket with valid := true, zeroDemand := true, rtc := 327680 } }).ket.zeroDemand = true) ∧
    (State.reset.rst.phase = .inReset) := by
  decide +kernel

theorem test_wit_StartUpEndsReady :
    (({ State.reset with rst := { State.reset.rst with phase := .startup, sarDone := true, sliceDone := true, cause := 1 } , sec := { State.reset.sec with trngOk := true }}.sfs [(AFE_REF_REF_RDY, 1), (SLICE_STAT_ACTIVE, 0), (SLICE_STAT_CHECKER, 1), (SLICE_STAT_CADDY, 2)]).startReady = true ∧ ({ State.reset with rst := { State.reset.rst with phase := .startup, sarDone := true, sliceDone := true, cause := 1 } , sec := { State.reset.sec with trngOk := true }}.sfs [(AFE_REF_REF_RDY, 1), (SLICE_STAT_ACTIVE, 0), (SLICE_STAT_CHECKER, 1), (SLICE_STAT_CADDY, 2)]).gf SLICE_STAT_ACTIVE ≠ 3) := by
  decide +kernel

theorem test_wit_PfiRegisters :
    (up.rst.gasped = false ∧ up.rst.phase = .ready) ∧
    (State.reset.rst.phase = .inReset) ∧
    ((inPhase .saving).rst.phase = .saving) := by
  decide +kernel

theorem test_wit_HaltsFreezeTime :
    (up.isReady = true ∧ up.time.frozen = false) ∧
    ((up.sf TIME_STATUS_HALTED 1).isReady = true ∧ (up.sf TIME_STATUS_HALTED 1).gb TIME_STATUS_HALTED = true) ∧
    (({ up with time := { up.time with frozen := true, haltT := 5 } }).isReady = true ∧ ({ up with time := { up.time with frozen := true, haltT := 5 } }).time.frozen = true ∧ ({ up with time := { up.time with frozen := true, haltT := 5 } }).gb TIME_STATUS_HALTED = false ∧ ({ up with time := { up.time with frozen := true, haltT := 5 } }).time.haltDue = false) := by
  decide +kernel

theorem test_wit_LocksLostAndFound :
    ((up.sf CLK_STAT_TPLL_LOCK 1).isReady = true ∧ (up.sf CLK_STAT_TPLL_LOCK 1).time.frozen = false ∧ (up.sf CLK_STAT_TPLL_LOCK 1).gb CLK_STAT_TPLL_LOCK = true ∧ (List.range 8).any (up.sf CLK_STAT_TPLL_LOCK 1).tsOn = false) ∧
    ((up.sfs [(CLK_STAT_TPLL_LOCK, 1), (TSAR_CTRL_ON, 128)]).gb CLK_STAT_TPLL_LOCK = true ∧ (List.range 8).any (up.sfs [(CLK_STAT_TPLL_LOCK, 1), (TSAR_CTRL_ON, 128)]).tsOn = true) ∧
    (up.isReady = true ∧ up.time.frozen = false ∧ up.spiOnly = false ∧ up.gb CLK_STAT_REFCLK_LOST = false) ∧
    (({ up with time := { up.time with coreStop := true } }).isReady = true ∧ ({ up with time := { up.time with coreStop := true } }).time.coreStop = true ∧ ({ up with time := { up.time with coreStop := true } }).time.lateHalt = false) := by
  decide +kernel

theorem test_wit_PpsEdges :
    (ppsOn.isReady = true ∧ ppsOn.gb TIME_CTRL_PPS_EN = true ∧ ppsOn.time.frozen = false ∧ ppsOn.time.atPps = none ∧ ppsOn.time.lastEdge = none) ∧
    (({ ppsOn with time := { ppsOn.time with lastEdge := some 0 } }).time.lastEdge = some 0 ∧ 2 ^ 32 < (((((6 * 2 ^ 32 : Nat) : Int) - nsTime (({ ppsOn with time := { ppsOn.time with lastEdge := some 0 } }).gi PPS_OFFSET_OFS)).toNat : Int) - 0 - 2 ^ 32).natAbs * 2000) := by
  decide +kernel

theorem test_wit_DisciplineCommands :
    (({ up with time := { up.time with slew := 1, slewLeft := 7 } }).isReady = true ∧ ({ up with time := { up.time with slew := 1, slewLeft := 7 } }).time.frozen = false ∧ ({ up with time := { up.time with slew := 1, slewLeft := 7 } }).time.slew ≠ 0) ∧
    ((up.sf TIME_STATUS_STATE 2).isReady = true ∧ (up.sf TIME_STATUS_STATE 2).time.frozen = false ∧ (up.sf TIME_STATUS_STATE 2).gf TIME_STATUS_STATE = 2) ∧
    ((opened.sf TIME_CTRL_PPS_EN 1).serving = true ∧ (opened.sf TIME_CTRL_PPS_EN 1).sealOpen .pcie = true ∧ (0x1E#32).toNat % 2 ≠ (opened.sf TIME_CTRL_PPS_EN 1).gf TIME_CTRL_PPS_EN) ∧
    (up.serving = true ∧ up.sealOpen .spi = false ∧ (1#32).toNat % 2 ≠ up.gf TIME_CTRL_PPS_EN) := by
  decide +kernel

theorem test_wit_TimeEvents :
    ((up.sf TIME_STATUS_SHADOW 1).isReady = true ∧ (up.sf TIME_STATUS_SHADOW 1).gb TIME_STATUS_SHADOW = true ∧ (up.sf TIME_STATUS_SHADOW 1).time.frozen = false) ∧
    ((up.sfs [(TIME_STATUS_LEAP_PEND, 1), (LEAP_AT_SEC, 86400), (LEAP_CTRL_SIGN, 1)]).isReady = true ∧ (up.sfs [(TIME_STATUS_LEAP_PEND, 1), (LEAP_AT_SEC, 86400), (LEAP_CTRL_SIGN, 1)]).gb TIME_STATUS_LEAP_PEND = true ∧ (up.sfs [(TIME_STATUS_LEAP_PEND, 1), (LEAP_AT_SEC, 86400), (LEAP_CTRL_SIGN, 1)]).time.frozen = false ∧ (up.sfs [(TIME_STATUS_LEAP_PEND, 1), (LEAP_AT_SEC, 86400), (LEAP_CTRL_SIGN, 1)]).time.slew = 0 ∧ (up.sfs [(TIME_STATUS_LEAP_PEND, 1), (LEAP_AT_SEC, 86400), (LEAP_CTRL_SIGN, 1)]).gb LEAP_CTRL_SIGN = true) ∧
    ((up.sfs [(TIME_STATUS_LEAP_PEND, 1), (LEAP_AT_SEC, 86400)]).isReady = true ∧ (up.sfs [(TIME_STATUS_LEAP_PEND, 1), (LEAP_AT_SEC, 86400)]).gb TIME_STATUS_LEAP_PEND = true ∧ (up.sfs [(TIME_STATUS_LEAP_PEND, 1), (LEAP_AT_SEC, 86400)]).time.frozen = false ∧ (up.sfs [(TIME_STATUS_LEAP_PEND, 1), (LEAP_AT_SEC, 86400)]).time.slew = 0 ∧ (up.sfs [(TIME_STATUS_LEAP_PEND, 1), (LEAP_AT_SEC, 86400)]).gb LEAP_CTRL_SIGN = false) ∧
    (up.isReady = true ∧ up.time.frozen = false ∧ up.time.lastTick ≤ up.now) := by
  decide +kernel

theorem test_wit_SealedFrontEndSettings :
    (opened.serving = true ∧ opened.sealOpen .pcie = true ∧ opened.chPresent 15 = true ∧ (opened.grp[grpOf 15]).running = false ∧ (List.range 16).any opened.chRuns = false ∧ profOk 4 = true ∧ 4 ≠ opened.gf (PROF_CH_CFG_PROFILE 15) ∧ (1#32).toNat % 2 ≠ opened.gf AFE_REF_SEL ∧ isVoltage 8 = true ∧ opened.chPresent 8 = true ∧ isVoltage 15 = false) ∧
    ((running opened 0).serving = true ∧ (running opened 0).sealOpen .pcie = true ∧ (running opened 0).chPresent 0 = true ∧ ((running opened 0).grp[grpOf 0]).running = true ∧ (4#32).toNat % 16 ≠ (running opened 0).gf (PROF_CH_CFG_PROFILE 0)) ∧
    (up.sealOpen .spi = false ∧ up.serving = true) := by
  decide +kernel

theorem test_wit_ChannelCheck :
    (up.serving = true ∧ up.gb AFE_CHK_STATUS_BUSY = false ∧ (0x108001#32).toNat.testBit 20 = true) ∧
    ((running up 0).gb AFE_CHK_STATUS_BUSY = false) ∧
    (({ up.sf AFE_CHK_STATUS_BUSY 1 with chk := { up.chk with pos := 2, mask := 1 } }).serving = true ∧ ({ up.sf AFE_CHK_STATUS_BUSY 1 with chk := { up.chk with pos := 2, mask := 1 } }).gb AFE_CHK_STATUS_BUSY = true ∧ (0x100001#32).toNat.testBit 20 = true ∧ ({ up.sf AFE_CHK_STATUS_BUSY 1 with chk := { up.chk with pos := 2, mask := 1 } }).chk.pos = 2 ∧ ({ up.sf AFE_CHK_STATUS_BUSY 1 with chk := { up.chk with pos := 2, mask := 1 } }).chk.full ({ up.sf AFE_CHK_STATUS_BUSY 1 with chk := { up.chk with pos := 2, mask := 1 } }).chk.count [List.replicate 17 5] = true) ∧
    (({ up.sf AFE_CHK_STATUS_BUSY 1 with chk := { up.chk with pos := 0, mask := 1 } }).gb AFE_CHK_STATUS_BUSY = true ∧ ({ up.sf AFE_CHK_STATUS_BUSY 1 with chk := { up.chk with pos := 0, mask := 1 } }).chk.pos = 0) ∧
    (({ up.sf AFE_CHK_STATUS_BUSY 1 with chk := { up.chk with pos := 1, mask := 1 } }).gb AFE_CHK_STATUS_BUSY = true ∧ ({ up.sf AFE_CHK_STATUS_BUSY 1 with chk := { up.chk with pos := 1, mask := 1 } }).chk.pos = 1 ∧ ({ up.sf AFE_CHK_STATUS_BUSY 1 with chk := { up.chk with pos := 1, mask := 1 } }).chk.full ({ up.sf AFE_CHK_STATUS_BUSY 1 with chk := { up.chk with pos := 1, mask := 1 } }).chk.count [List.replicate 17 5] = true) ∧
    (({ up.sf AFE_CHK_STATUS_BUSY 1 with chk := { up.chk with pos := 3, mask := 0x8001, ofs := List.replicate 15 0 ++ [4195] } }).gb AFE_CHK_STATUS_BUSY = true ∧ ({ up.sf AFE_CHK_STATUS_BUSY 1 with chk := { up.chk with pos := 3, mask := 0x8001, ofs := List.replicate 15 0 ++ [4195] } }).chk.pos = 3 ∧ ({ up.sf AFE_CHK_STATUS_BUSY 1 with chk := { up.chk with pos := 3, mask := 0x8001, ofs := List.replicate 15 0 ++ [4195] } }).chk.mask.testBit 15 = true ∧ ({ up.sf AFE_CHK_STATUS_BUSY 1 with chk := { up.chk with pos := 3, mask := 0x8001, ofs := List.replicate 15 0 ++ [4195] } }).chk.full ({ up.sf AFE_CHK_STATUS_BUSY 1 with chk := { up.chk with pos := 3, mask := 0x8001, ofs := List.replicate 15 0 ++ [4195] } }).chk.period (List.replicate 16 (List.replicate 9 0)) = true ∧ ({ up.sf AFE_CHK_STATUS_BUSY 1 with chk := { up.chk with pos := 3, mask := 0x8001, ofs := List.replicate 15 0 ++ [4195] } }).sarSettled = true) := by
  decide +kernel

theorem test_wit_Comparators :
    (((((up.setChan 15 (fun c => { c with lo := { c.lo with due := some 3 } })).chan[(15 : Fin 16)]).thr true).due).isSome = true ∧ (up.setChan 15 (fun c => { c with lo := { c.lo with due := some 3 } })).gb (thrState 15 true) = false) ∧
    ((((((up.setChan 15 (fun c => { c with lo := { c.lo with due := some 3 } })).sf (thrState 15 true) 1).chan[(15 : Fin 16)]).thr true).due).isSome = true ∧ ((up.setChan 15 (fun c => { c with lo := { c.lo with due := some 3 } })).sf (thrState 15 true) 1).gb (thrState 15 true) = true) ∧
    ((up.sfs [(THR_CFG_HI_EN 0, 1), (THR_STAT_HI_STATE 0, 1)]).serving = true ∧ (up.sfs [(THR_CFG_HI_EN 0, 1), (THR_STAT_HI_STATE 0, 1)]).chPresent 0 = true ∧ (up.sfs [(THR_CFG_HI_EN 0, 1), (THR_STAT_HI_STATE 0, 1)]).gb (THR_CFG_HI_EN 0) = true ∧ (0x12607#32).toNat.testBit 8 = false) := by
  decide +kernel

theorem test_wit_SampleIndices :
    ((withGrp up 1 (fun x => { x with running := true, mask := 129 })).isReady = true ∧ ((withGrp up 1 (fun x => { x with running := true, mask := 129 })).grp[(1 : Fin 2)]).running = true ∧ ((withGrp up 1 (fun x => { x with running := true, mask := 129 })).grp[(1 : Fin 2)]).await = none ∧ (withGrp up 1 (fun x => { x with running := true, mask := 129 })).time.frozen = false) ∧
    ((withGrp up 0 (fun x => { x with running := true, mask := 1, await := some 0 })).isReady = true ∧ ((withGrp up 0 (fun x => { x with running := true, mask := 1, await := some 0 })).grp[(0 : Fin 2)]).running = true ∧ ((withGrp up 0 (fun x => { x with running := true, mask := 1, await := some 0 })).grp[(0 : Fin 2)]).await = some 0 ∧ (withGrp up 0 (fun x => { x with running := true, mask := 1, await := some 0 })).time.frozen = false) ∧
    (up.isReady = true ∧ up.time.coreStop = false) ∧
    (({ up with chan := up.chan.set 15 { up.chan[(15 : Fin 16)] with lost := [(4, 3)] } }).isReady = true ∧ ({ up with chan := up.chan.set 15 { up.chan[(15 : Fin 16)] with lost := [(4, 3)] } }).time.coreStop = false ∧ ({ up with chan := up.chan.set 15 { up.chan[(15 : Fin 16)] with lost := [(4, 3)] } }).spiOnly = false ∧ (({ up with chan := up.chan.set 15 { up.chan[(15 : Fin 16)] with lost := [(4, 3)] } }).chan[(15 : Fin 16)]).lost ≠ [] ∧ (({ up with chan := up.chan.set 15 { up.chan[(15 : Fin 16)] with lost := [(4, 3)] } }).grp[grpOf (15 : Fin 16)]).shadow = none) ∧
    ((up.setTs 7 (fun x => { x with lost := [(4, 3)] })).isReady = true ∧ (up.setTs 7 (fun x => { x with lost := [(4, 3)] })).time.coreStop = false ∧ (up.setTs 7 (fun x => { x with lost := [(4, 3)] })).spiOnly = false ∧ ((up.setTs 7 (fun x => { x with lost := [(4, 3)] })).ts 7).lost = [(4, 3)] ∧ ((up.setTs 7 (fun x => { x with lost := [(4, 3)] })).ts 7).shadow = none) ∧
    ((withGrp up 0 (fun x => { x with running := true, mask := 1 })).isReady = true ∧ (withGrp up 0 (fun x => { x with running := true, mask := 1 })).chRuns (0 : Fin 16) = true ∧ (withGrp up 0 (fun x => { x with running := true, mask := 1 })).time.frozen = false ∧ (withGrp up 0 (fun x => { x with running := true, mask := 1 })).chPresent 0 = true) := by
  decide +kernel

theorem test_wit_StartAndStop :
    ((runs enabled 1 [1]).executes 1 (cmdOf 1 [1]) ∧ leAt (cmdOf 1 [1]).entry 0x10 1 = 2 ^ (0 : Fin 2).val ∧ (runs enabled 1 [1]).startHeld (2 ^ (0 : Fin 2).val) = false ∧ (runs enabled 1 [1]).grpFused 0 = false ∧ ((runs enabled 1 [1]).grp[(0 : Fin 2)]).running = false ∧ (runs enabled 1 [1]).startMask 0 = 7) ∧
    ((runs up 1 [3]).executes 1 (cmdOf 1 [3]) ∧ (runs up 1 [3]).startHeld (leAt (cmdOf 1 [3]).entry 0x10 1) = true) ∧
    ((runs enabled 1 [2]).executes 1 (cmdOf 1 [2]) ∧ (runs enabled 1 [2]).startHeld (2 ^ (1 : Fin 2).val) = false ∧ (runs enabled 1 [2]).grpFused 1 = false ∧ ((runs enabled 1 [2]).grp[(1 : Fin 2)]).running = false ∧ (runs enabled 1 [2]).startMask 1 = 0) ∧
    ((runs (running up 1) 2 [2]).executes 2 (cmdOf 2 [2]) ∧ (runs (running up 1) 2 [2]).switching = false) := by
  unfold State.executes; decide +kernel

theorem test_wit_PairEnables :
    ((up.sf SAR_CAL_STATUS_VALID 128).serving = true ∧ (0x81#8).getLsbD 7 = true ∧ (up.sf SAR_CAL_STATUS_VALID 128).trPresent 7 = true ∧ (up.sf SAR_CAL_STATUS_VALID 128).tsEn 7 = false ∧ (up.sf SAR_CAL_STATUS_VALID 128).sar.calP.testBit 7 = false ∧ (up.sf SAR_CAL_STATUS_VALID 128).mbit SAR_CAL_STATUS_VALID 7 = true ∧ (up.sf SAR_CAL_STATUS_VALID 128).mbit SAR_CAL_STATUS_VALID 0 = false) ∧
    (({ up with sar := { up.sar with calP := 1 } }).serving = true ∧ ({ up with sar := { up.sar with calP := 1 } }).sar.calP.testBit 0 = true ∧ ({ up with sar := { up.sar with calP := 1 } }).tsEn 0 = false ∧ ({ up with sar := { up.sar with calP := 1 } }).trPresent 0 = true) ∧
    ((up.sfs [(TSAR_CTRL_EN, 0x81), (TSAR_CTRL_ON, 0x80)]).serving = true) := by
  decide +kernel

theorem test_wit_PairSamples :
    ((up.sfs [(SAR_CAL_STATUS_VALID, 128), (TSAR_CTRL_EN, 128), (CLK_STAT_TPLL_LOCK, 1)]).isReady = true ∧ (up.sfs [(SAR_CAL_STATUS_VALID, 128), (TSAR_CTRL_EN, 128), (CLK_STAT_TPLL_LOCK, 1)]).tsEn 7 = true ∧ (up.sfs [(SAR_CAL_STATUS_VALID, 128), (TSAR_CTRL_EN, 128), (CLK_STAT_TPLL_LOCK, 1)]).tsOn 7 = false ∧ (up.sfs [(SAR_CAL_STATUS_VALID, 128), (TSAR_CTRL_EN, 128), (CLK_STAT_TPLL_LOCK, 1)]).sar.calP.testBit 7 = false ∧ (up.sfs [(SAR_CAL_STATUS_VALID, 128), (TSAR_CTRL_EN, 128), (CLK_STAT_TPLL_LOCK, 1)]).mbit SAR_CAL_STATUS_VALID 7 = true ∧ (up.sfs [(SAR_CAL_STATUS_VALID, 128), (TSAR_CTRL_EN, 128), (CLK_STAT_TPLL_LOCK, 1)]).gb CLK_STAT_TPLL_LOCK = true ∧ (up.sfs [(SAR_CAL_STATUS_VALID, 128), (TSAR_CTRL_EN, 128), (CLK_STAT_TPLL_LOCK, 1)]).gb TIME_STATUS_HALTED = false) ∧
    ((up.sfs [(TSAR_CTRL_EN, 128), (TSAR_CTRL_ON, 128), (CLK_STAT_TPLL_LOCK, 1)]).isReady = true ∧ (up.sfs [(TSAR_CTRL_EN, 128), (TSAR_CTRL_ON, 128), (CLK_STAT_TPLL_LOCK, 1)]).tsOn 7 = true ∧ ((up.sfs [(TSAR_CTRL_EN, 128), (TSAR_CTRL_ON, 128), (CLK_STAT_TPLL_LOCK, 1)]).ts 7).stop ≠ some ((up.sfs [(TSAR_CTRL_EN, 128), (TSAR_CTRL_ON, 128), (CLK_STAT_TPLL_LOCK, 1)]).ts 7).idx ∧ (up.sfs [(TSAR_CTRL_EN, 128), (TSAR_CTRL_ON, 128), (CLK_STAT_TPLL_LOCK, 1)]).gb CLK_STAT_TPLL_LOCK = true ∧ (up.sfs [(TSAR_CTRL_EN, 128), (TSAR_CTRL_ON, 128), (CLK_STAT_TPLL_LOCK, 1)]).gb TIME_STATUS_HALTED = false) ∧
    (((up.sf TSAR_CTRL_ON 128).setTs 7 (fun x => { x with stop := some 0 })).isReady = true ∧ ((up.sf TSAR_CTRL_ON 128).setTs 7 (fun x => { x with stop := some 0 })).tsOn 7 = true ∧ ((up.sf TSAR_CTRL_ON 128).setTs 7 (fun x => { x with stop := some 0 })).tsEn 7 = false ∧ (((up.sf TSAR_CTRL_ON 128).setTs 7 (fun x => { x with stop := some 0 })).ts 7).stop = some (((up.sf TSAR_CTRL_ON 128).setTs 7 (fun x => { x with stop := some 0 })).ts 7).idx) := by
  decide +kernel

theorem test_wit_MapAndCalibration :
    ((up.sf TSAR_CTRL_EN 1).serving = true ∧ (up.sf TSAR_CTRL_EN 1).trPresent (7 : Fin 8) = true ∧ ((up.sf TSAR_CTRL_EN 1).tsEn (7 : Fin 8) && !(up.sf TSAR_CTRL_EN 1).sar.held.testBit (7 : Fin 8)) = false ∧ (up.sf TSAR_CTRL_EN 1).chPresent ((0xF0000001#32).toNat / 16 ^ 7 % 16) = true ∧ ((up.sf TSAR_CTRL_EN 1).tsEn (0 : Fin 8) && !(up.sf TSAR_CTRL_EN 1).sar.held.testBit (0 : Fin 8)) = true ∧ (up.sf TSAR_CTRL_EN 1).trPresent (0 : Fin 8) = true) ∧
    ((up.sf TSAR_CTRL_EN 1).serving = true ∧ (up.sf TSAR_CTRL_EN 1).gb SAR_CAL_STATUS_BUSY = false ∧ (0x381#32).toNat.testBit 9 = true) ∧
    (({ up with chip := { up.chip with ps0804 := true } }).serving = true ∧ ({ up with chip := { up.chip with ps0804 := true } }).trPresent (0 : Fin 8) = true ∧ ({ up with chip := { up.chip with ps0804 := true } }).chPresent ((0x8#32).toNat / 16 ^ 0 % 16) = false) ∧
    (({ up.sf SAR_CAL_STATUS_BUSY 1 with sar := { up.sar with calP := 0x81 } }).gb SAR_CAL_STATUS_BUSY = true ∧ (({ up.sf SAR_CAL_STATUS_BUSY 1 with sar := { up.sar with calP := 0x81 } }).sar.calH = false ∨ ({ up.sf SAR_CAL_STATUS_BUSY 1 with sar := { up.sar with calP := 0x81 } }).sar.urg = none) ∧ ({ up.sf SAR_CAL_STATUS_BUSY 1 with sar := { up.sar with calP := 0x81 } }).sar.calP.testBit 7 = true ∧ ({ up.sf SAR_CAL_STATUS_BUSY 1 with sar := { up.sar with calP := 0x81 } }).sar.calP.testBit 0 = true ∧ sarPass ⟨512, 0x8000, -512, 0x8000, 0, 50⟩ = true ∧ sarPass ⟨513, 0x8000, 0, 0x8000, 0, 0⟩ = false) := by
  decide +kernel

theorem test_wit_FastPath :
    ((up.sfs [(FAST_DVDT_LVL_STATE 7, 1), (FAST_DVDT_DVDT_STATE 7, 1)]).serving = true ∧ (up.sfs [(FAST_DVDT_LVL_STATE 7, 1), (FAST_DVDT_DVDT_STATE 7, 1)]).trPresent 7 = true) ∧
    ((up.sf FAST_PIN_CFG_STATE 3).fastAny 1 = false) ∧
    (({ up with sar := { up.sar with fastq := [{ pair := 7, dvdt := true, idx := 0, code := 100, prev := 0, thr := 50, lost := false, ch := 3 }] } }).sar.fastq.length = 1 ∧ ({ up with sar := { up.sar with fastq := [{ pair := 7, dvdt := true, idx := 0, code := 100, prev := 0, thr := 50, lost := false, ch := 3 }] } }).forms = true ∧ ({ up with sar := { up.sar with fastq := [{ pair := 7, dvdt := true, idx := 0, code := 100, prev := 0, thr := 50, lost := false, ch := 3 }] } }).starved clsEVT = false ∧ ({ up with sar := { up.sar with fastq := [{ pair := 7, dvdt := true, idx := 0, code := 100, prev := 0, thr := 50, lost := false, ch := 3 }] } }).time.coreStop = false ∧ (({ up with sar := { up.sar with fastq := [{ pair := 7, dvdt := true, idx := 0, code := 100, prev := 0, thr := 50, lost := false, ch := 3 }] } }).ts 7).time 0 / 2 ^ 32 = (({ up with sar := { up.sar with fastq := [{ pair := 7, dvdt := true, idx := 0, code := 100, prev := 0, thr := 50, lost := false, ch := 3 }] } }).ts 7).sec ∧ (({ up with sar := { up.sar with fastq := [{ pair := 7, dvdt := true, idx := 0, code := 100, prev := 0, thr := 50, lost := false, ch := 3 }] } }).ts 7).cnt < max 1 (({ up with sar := { up.sar with fastq := [{ pair := 7, dvdt := true, idx := 0, code := 100, prev := 0, thr := 50, lost := false, ch := 3 }] } }).gf TRN_CFG_NMAX)) ∧
    ((up.setTs 7 (fun x => { x with wl := 1 })).forms = true ∧ (up.setTs 7 (fun x => { x with wl := 1 })).starved clsEVT = false ∧ ((up.setTs 7 (fun x => { x with wl := 1 })).ts 7).wl + ((up.setTs 7 (fun x => { x with wl := 1 })).ts 7).wd ≠ 0) ∧
    ((({ up.sf TSAR_CTRL_ON 128 with supraOn := 128 }).setTs 7 (fun x => { x with idx := 41 * supWin, supCov := 39 * supWin })).forms = true ∧ (({ up.sf TSAR_CTRL_ON 128 with supraOn := 128 }).setTs 7 (fun x => { x with idx := 41 * supWin, supCov := 39 * supWin })).wedged 2 = false ∧ (({ up.sf TSAR_CTRL_ON 128 with supraOn := 128 }).setTs 7 (fun x => { x with idx := 41 * supWin, supCov := 39 * supWin })).supraOn.testBit (7 : Fin 8) = true ∧ (({ up.sf TSAR_CTRL_ON 128 with supraOn := 128 }).setTs 7 (fun x => { x with idx := 41 * supWin, supCov := 39 * supWin })).tsOn (7 : Fin 8) = true ∧ ((({ up.sf TSAR_CTRL_ON 128 with supraOn := 128 }).setTs 7 (fun x => { x with idx := 41 * supWin, supCov := 39 * supWin })).ts 7).shadow = none ∧ ((({ up.sf TSAR_CTRL_ON 128 with supraOn := 128 }).setTs 7 (fun x => { x with idx := 41 * supWin, supCov := 39 * supWin })).ts 7).lost = [] ∧ ((({ up.sf TSAR_CTRL_ON 128 with supraOn := 128 }).setTs 7 (fun x => { x with idx := 41 * supWin, supCov := 39 * supWin })).ts 7).holes = [] ∧ ((({ up.sf TSAR_CTRL_ON 128 with supraOn := 128 }).setTs 7 (fun x => { x with idx := 41 * supWin, supCov := 39 * supWin })).ts 7).supEnd + supPad ≤ ((({ up.sf TSAR_CTRL_ON 128 with supraOn := 128 }).setTs 7 (fun x => { x with idx := 41 * supWin, supCov := 39 * supWin })).ts 7).idx) ∧
    ([List.replicate 5120 (0 : Rat)].length = (((({ up.sf TSAR_CTRL_ON 128 with supraOn := 128 }).setTs 7 (fun x => { x with idx := 41 * supWin, supCov := 39 * supWin })).ts 7).supEnd - ((({ up.sf TSAR_CTRL_ON 128 with supraOn := 128 }).setTs 7 (fun x => { x with idx := 41 * supWin, supCov := 39 * supWin })).ts 7).supNext) / supWin ∧ [List.replicate 5120 (0 : Rat)].all (fun w => w.length == 5120) = true) :=
  ⟨by decide +kernel,
   by decide +kernel,
   by decide +kernel,
   by decide +kernel,
   by decide +kernel,
   by decide +kernel⟩

theorem test_wit_HouseConverter :
    (up.gb TIME_STATUS_HALTED = false ∧ up.rst.phase ≠ .por ∧ up.rst.phase ≠ .inReset ∧ up.sar.calH = false ∧ up.sar.boot = none ∧ up.sar.urg = none) ∧
    (({ up with sar := { up.sar with pos := some 31 } }).sar.pos = some (31 : Fin 32).val ∧ ({ up with sar := { up.sar with pos := some 31 } }).sar.boot = none ∧ ({ up with sar := { up.sar with pos := some 31 } }).sar.urg = none ∧ ({ up with sar := { up.sar with pos := some 31 } }).sar.calH = false ∧ ({ up with sar := { up.sar with pos := some 31 } }).gb TIME_STATUS_HALTED = false ∧ ({ up with sar := { up.sar with pos := some 31 } }).gf (HSAR_SEQ_ORDER 31) = 0) ∧
    ((({ up with sar := { up.sar with pos := some 0, pass := 3 } }).sf (HSAR_SEQ_ORDER 0) 4).sar.pos = some (0 : Fin 32).val ∧ (({ up with sar := { up.sar with pos := some 0, pass := 3 } }).sf (HSAR_SEQ_ORDER 0) 4).gf (HSAR_SEQ_ORDER 0) ≠ 0) ∧
    ((({ up with sar := { up.sar with pubDue := 2 ^ 31, flt := up.sar.flt.set 31 { cur := [], hist := [[(0, 40)]], live := true } } }).sf (HSAR_SEQ_ORDER 31) 1).sar.pubDue.testBit (31 : Fin 32).val = true ∧ (({ up with sar := { up.sar with pubDue := 2 ^ 31, flt := up.sar.flt.set 31 { cur := [], hist := [[(0, 40)]], live := true } } }).sf (HSAR_SEQ_ORDER 31) 1).gf (HSAR_SEQ_ORDER 31) ≤ ((({ up with sar := { up.sar with pubDue := 2 ^ 31, flt := up.sar.flt.set 31 { cur := [], hist := [[(0, 40)]], live := true } } }).sf (HSAR_SEQ_ORDER 31) 1).sar.flt[(31 : Fin 32)]).hist.length ∧ ((({ up with sar := { up.sar with pubDue := 2 ^ 31, flt := up.sar.flt.set 31 { cur := [], hist := [[(0, 40)]], live := true } } }).sf (HSAR_SEQ_ORDER 31) 1).sar.flt[(31 : Fin 32)]).hist.headD [] ≠ [] ∧ filterValue (({ up with sar := { up.sar with pubDue := 2 ^ 31, flt := up.sar.flt.set 31 { cur := [], hist := [[(0, 40)]], live := true } } }).sf (HSAR_SEQ_ORDER 31) 1).hsarWin ((({ up with sar := { up.sar with pubDue := 2 ^ 31, flt := up.sar.flt.set 31 { cur := [], hist := [[(0, 40)]], live := true } } }).sf (HSAR_SEQ_ORDER 31) 1).gf (HSAR_SEQ_ORDER 31)) ((({ up with sar := { up.sar with pubDue := 2 ^ 31, flt := up.sar.flt.set 31 { cur := [], hist := [[(0, 40)]], live := true } } }).sf (HSAR_SEQ_ORDER 31) 1).sar.flt[(31 : Fin 32)]).hist = some 40) ∧
    (up.serving = true ∧ 6 ≤ (6 : Fin 32).val ∧ hsarCode ((0x130#32).toNat % 32) = true ∧ (0x130#32).toNat / 64 % 8 ≤ 4) := by
  decide +kernel

theorem test_wit_UrgentConversions :
    (up.serving = true ∧ (0x110#32).toNat.testBit 8 = true ∧ up.gb HSAR_URG_BUSY = false ∧ up.sar.urg = none ∧ up.sar.wPfi = none ∧ hsarCode ((0x110#32).toNat % 32) = true) ∧
    ((up.sf HSAR_URG_BUSY 1).serving = true ∧ (up.sf HSAR_URG_BUSY 1).gb HSAR_URG_BUSY = true) ∧
    (({ up with sar := { up.sar with urg := some (false, 16) } }).sar.urg = some (false, 16)) ∧
    (({ up with sar := { up.sar with urg := some (true, 0) } }).sar.urg = some (true, 0)) := by
  decide +kernel

theorem test_wit_CyclesAndFrequency :
    (((sampled 0 id).sf (FREQ_STAT_STATE 0) 3).isReady = true ∧ (((sampled 0 id).sf (FREQ_STAT_STATE 0) 3).grp[(0 : Fin 2)]).running = true ∧ (((sampled 0 id).sf (FREQ_STAT_STATE 0) 3).grp[(0 : Fin 2)]).monitor = false ∧ (((sampled 0 id).sf (FREQ_STAT_STATE 0) 3).grp[(0 : Fin 2)]).await = none ∧ (((sampled 0 id).sf (FREQ_STAT_STATE 0) 3).grp[(0 : Fin 2)]).tickDue = none ∧ (((sampled 0 id).sf (FREQ_STAT_STATE 0) 3).grp[(0 : Fin 2)]).step = [] ∧ (((sampled 0 id).sf (FREQ_STAT_STATE 0) 3).grp[(0 : Fin 2)]).shadow = none ∧ (((sampled 0 id).sf (FREQ_STAT_STATE 0) 3).grp[(0 : Fin 2)]).fenced = 0 ∧ ((sampled 0 id).sf (FREQ_STAT_STATE 0) 3).gf (FREQ_STAT_STATE (0 : Fin 2)) = 3 ∧ (((sampled 0 id).sf (FREQ_STAT_STATE 0) 3).grp[(0 : Fin 2)]).nominal = false ∧ (((sampled 0 id).sf (FREQ_STAT_STATE 0) 3).grp[(0 : Fin 2)]).cycA < 105 * 2 ^ 32 + 2 ^ 32 / 50 ∧ 105 * 2 ^ 32 + 2 ^ 32 / 50 ≤ ((sampled 0 id).sf (FREQ_STAT_STATE 0) 3).grT 0 (((sampled 0 id).sf (FREQ_STAT_STATE 0) 3).grp[(0 : Fin 2)]).si ∧ (((sampled 0 id).sf (FREQ_STAT_STATE 0) 3).grp[(0 : Fin 2)]).cycA < 110 * 2 ^ 32 - 2 ^ 20 ∧ 110 * 2 ^ 32 - 2 ^ 20 ≤ ((sampled 0 id).sf (FREQ_STAT_STATE 0) 3).grT 0 (((sampled 0 id).sf (FREQ_STAT_STATE 0) 3).grp[(0 : Fin 2)]).si ∧ 2 * 0 < ((sampled 0 id).sf (FREQ_STAT_STATE 0) 3).gf (FREQ_CFG_MINAMP (0 : Fin 2)) ∧ ((sampled 0 id).sf (FREQ_STAT_STATE 0) 3).gf (FREQ_CFG_MINAMP (0 : Fin 2)) ≤ 2 * (2 ^ 23)) ∧
    (((sampled 1 (fun x => { x with halves := [106 * 2 ^ 32, 105 * 2 ^ 32, 104 * 2 ^ 32] })).sf (FREQ_STAT_STATE 1) 3).isReady = true ∧ (((sampled 1 (fun x => { x with halves := [106 * 2 ^ 32, 105 * 2 ^ 32, 104 * 2 ^ 32] })).sf (FREQ_STAT_STATE 1) 3).grp[(1 : Fin 2)]).running = true ∧ (((sampled 1 (fun x => { x with halves := [106 * 2 ^ 32, 105 * 2 ^ 32, 104 * 2 ^ 32] })).sf (FREQ_STAT_STATE 1) 3).grp[(1 : Fin 2)]).monitor = false ∧ (((sampled 1 (fun x => { x with halves := [106 * 2 ^ 32, 105 * 2 ^ 32, 104 * 2 ^ 32] })).sf (FREQ_STAT_STATE 1) 3).grp[(1 : Fin 2)]).lost = false ∧ ((sampled 1 (fun x => { x with halves := [106 * 2 ^ 32, 105 * 2 ^ 32, 104 * 2 ^ 32] })).sf (FREQ_STAT_STATE 1) 3).gb SLICE_STAT_SWITCHING = false ∧ (((sampled 1 (fun x => { x with halves := [106 * 2 ^ 32, 105 * 2 ^ 32, 104 * 2 ^ 32] })).sf (FREQ_STAT_STATE 1) 3).grp[(1 : Fin 2)]).await = none ∧ ((sampled 1 (fun x => { x with halves := [106 * 2 ^ 32, 105 * 2 ^ 32, 104 * 2 ^ 32] })).sf (FREQ_STAT_STATE 1) 3).gf (FREQ_STAT_STATE (1 : Fin 2)) = 3 ∧ (((sampled 1 (fun x => { x with halves := [106 * 2 ^ 32, 105 * 2 ^ 32, 104 * 2 ^ 32] })).sf (FREQ_STAT_STATE 1) 3).grp[(1 : Fin 2)]).halves.headD (((sampled 1 (fun x => { x with halves := [106 * 2 ^ 32, 105 * 2 ^ 32, 104 * 2 ^ 32] })).sf (FREQ_STAT_STATE 1) 3).grp[(1 : Fin 2)]).cycA < 107 * 2 ^ 32 ∧ 107 * 2 ^ 32 ≤ ((sampled 1 (fun x => { x with halves := [106 * 2 ^ 32, 105 * 2 ^ 32, 104 * 2 ^ 32] })).sf (FREQ_STAT_STATE 1) 3).grT 1 (((sampled 1 (fun x => { x with halves := [106 * 2 ^ 32, 105 * 2 ^ 32, 104 * 2 ^ 32] })).sf (FREQ_STAT_STATE 1) 3).grp[(1 : Fin 2)]).si) ∧
    ((sampled 0 (fun x => { x with f10A := some (101 * 2 ^ 32), f10N := 3, f10First := some (102 * 2 ^ 32), f10Last := some (109 * 2 ^ 32), si := 88000 })).isReady = true ∧ ((sampled 0 (fun x => { x with f10A := some (101 * 2 ^ 32), f10N := 3, f10First := some (102 * 2 ^ 32), f10Last := some (109 * 2 ^ 32), si := 88000 })).grp[(0 : Fin 2)]).running = true ∧ ((sampled 0 (fun x => { x with f10A := some (101 * 2 ^ 32), f10N := 3, f10First := some (102 * 2 ^ 32), f10Last := some (109 * 2 ^ 32), si := 88000 })).grp[(0 : Fin 2)]).await = none ∧ ((sampled 0 (fun x => { x with f10A := some (101 * 2 ^ 32), f10N := 3, f10First := some (102 * 2 ^ 32), f10Last := some (109 * 2 ^ 32), si := 88000 })).grp[(0 : Fin 2)]).tickDue = none ∧ ((sampled 0 (fun x => { x with f10A := some (101 * 2 ^ 32), f10N := 3, f10First := some (102 * 2 ^ 32), f10Last := some (109 * 2 ^ 32), si := 88000 })).grp[(0 : Fin 2)]).step = [] ∧ ((sampled 0 (fun x => { x with f10A := some (101 * 2 ^ 32), f10N := 3, f10First := some (102 * 2 ^ 32), f10Last := some (109 * 2 ^ 32), si := 88000 })).grp[(0 : Fin 2)]).shadow = none ∧ ((sampled 0 (fun x => { x with f10A := some (101 * 2 ^ 32), f10N := 3, f10First := some (102 * 2 ^ 32), f10Last := some (109 * 2 ^ 32), si := 88000 })).grp[(0 : Fin 2)]).f10A = some (101 * 2 ^ 32) ∧ f10End (101 * 2 ^ 32) ≤ (sampled 0 (fun x => { x with f10A := some (101 * 2 ^ 32), f10N := 3, f10First := some (102 * 2 ^ 32), f10Last := some (109 * 2 ^ 32), si := 88000 })).grT 0 ((sampled 0 (fun x => { x with f10A := some (101 * 2 ^ 32), f10N := 3, f10First := some (102 * 2 ^ 32), f10Last := some (109 * 2 ^ 32), si := 88000 })).grp[(0 : Fin 2)]).si ∧ 0 < (((sampled 0 (fun x => { x with f10A := some (101 * 2 ^ 32), f10N := 3, f10First := some (102 * 2 ^ 32), f10Last := some (109 * 2 ^ 32), si := 88000 })).grp[(0 : Fin 2)]).siRange (101 * 2 ^ 32) (f10End (101 * 2 ^ 32))).2 - runIn (((sampled 0 (fun x => { x with f10A := some (101 * 2 ^ 32), f10N := 3, f10First := some (102 * 2 ^ 32), f10Last := some (109 * 2 ^ 32), si := 88000 })).grp[(0 : Fin 2)]).siRange (101 * 2 ^ 32) (f10End (101 * 2 ^ 32))).1 (((sampled 0 (fun x => { x with f10A := some (101 * 2 ^ 32), f10N := 3, f10First := some (102 * 2 ^ 32), f10Last := some (109 * 2 ^ 32), si := 88000 })).grp[(0 : Fin 2)]).siRange (101 * 2 ^ 32) (f10End (101 * 2 ^ 32))).2 ((sampled 0 (fun x => { x with f10A := some (101 * 2 ^ 32), f10N := 3, f10First := some (102 * 2 ^ 32), f10Last := some (109 * 2 ^ 32), si := 88000 })).grp[(0 : Fin 2)]).gone) ∧
    ((sampled 0 (fun x => { x with f10A := some (110 * 2 ^ 32), f10N := 70000, f10First := some (112 * 2 ^ 32), f10Last := some (119 * 2 ^ 32), f10St := 1, si := 160000 })).isReady = true ∧ ((sampled 0 (fun x => { x with f10A := some (110 * 2 ^ 32), f10N := 70000, f10First := some (112 * 2 ^ 32), f10Last := some (119 * 2 ^ 32), f10St := 1, si := 160000 })).grp[(0 : Fin 2)]).f10A = some (110 * 2 ^ 32) ∧ f10End (110 * 2 ^ 32) ≤ (sampled 0 (fun x => { x with f10A := some (110 * 2 ^ 32), f10N := 70000, f10First := some (112 * 2 ^ 32), f10Last := some (119 * 2 ^ 32), f10St := 1, si := 160000 })).grT 0 ((sampled 0 (fun x => { x with f10A := some (110 * 2 ^ 32), f10N := 70000, f10First := some (112 * 2 ^ 32), f10Last := some (119 * 2 ^ 32), f10St := 1, si := 160000 })).grp[(0 : Fin 2)]).si) :=
  ⟨by decide +kernel,
   by decide +kernel,
   by decide +kernel,
   by decide +kernel⟩

theorem test_wit_WindowsAndRecords :
    ((sampled 1 (fun x => { x with wins := [heldWin] })).isReady = true ∧ ((sampled 1 (fun x => { x with wins := [heldWin] })).grp[(1 : Fin 2)]).running = true ∧ ((sampled 1 (fun x => { x with wins := [heldWin] })).grp[(1 : Fin 2)]).monitor = false ∧ ((sampled 1 (fun x => { x with wins := [heldWin] })).grp[(1 : Fin 2)]).shadow = none ∧ ((sampled 1 (fun x => { x with wins := [heldWin] })).grp[(1 : Fin 2)]).wins = [heldWin] ∧ heldWin.a < 105 * 2 ^ 32 ∧ 105 * 2 ^ 32 ≤ (sampled 1 (fun x => { x with wins := [heldWin] })).grT 1 ((sampled 1 (fun x => { x with wins := [heldWin] })).grp[(1 : Fin 2)]).si ∧ ((sampled 1 (fun x => { x with wins := [heldWin] })).grp[(1 : Fin 2)]).winFull heldWin (105 * 2 ^ 32) = true ∧ ((sampled 1 (fun x => { x with wins := [heldWin] })).grp[(1 : Fin 2)]).ptsOk heldWin heldPts = true) ∧
    ((sampled 0 (fun x => { x with wdone := [endedWin, { endedWin with w := { a := 105 * 2 ^ 32 }, b := 106 * 2 ^ 32 }], halves := [105 * 2 ^ 32 + 40000000], ticks := [{ si := 39200, t := 104 * 2 ^ 32 + 9 * (2 ^ 32 / 10), p := 2 ^ 61 / 1000 + 1, fr := 0, smp := List.replicate 8 (some 5) }] })).forms = true ∧ (sampled 0 (fun x => { x with wdone := [endedWin, { endedWin with w := { a := 105 * 2 ^ 32 }, b := 106 * 2 ^ 32 }], halves := [105 * 2 ^ 32 + 40000000], ticks := [{ si := 39200, t := 104 * 2 ^ 32 + 9 * (2 ^ 32 / 10), p := 2 ^ 61 / 1000 + 1, fr := 0, smp := List.replicate 8 (some 5) }] })).switching = false ∧ ((sampled 0 (fun x => { x with wdone := [endedWin, { endedWin with w := { a := 105 * 2 ^ 32 }, b := 106 * 2 ^ 32 }], halves := [105 * 2 ^ 32 + 40000000], ticks := [{ si := 39200, t := 104 * 2 ^ 32 + 9 * (2 ^ 32 / 10), p := 2 ^ 61 / 1000 + 1, fr := 0, smp := List.replicate 8 (some 5) }] })).grp[(0 : Fin 2)]).wdone.find? (fun x => x.civ.isNone) = some endedWin ∧ endedWin.b ≤ ((sampled 0 (fun x => { x with wdone := [endedWin, { endedWin with w := { a := 105 * 2 ^ 32 }, b := 106 * 2 ^ 32 }], halves := [105 * 2 ^ 32 + 40000000], ticks := [{ si := 39200, t := 104 * 2 ^ 32 + 9 * (2 ^ 32 / 10), p := 2 ^ 61 / 1000 + 1, fr := 0, smp := List.replicate 8 (some 5) }] })).grp[(0 : Fin 2)]).cycA ∧ endedWin.b ≤ ((sampled 0 (fun x => { x with wdone := [endedWin, { endedWin with w := { a := 105 * 2 ^ 32 }, b := 106 * 2 ^ 32 }], halves := [105 * 2 ^ 32 + 40000000], ticks := [{ si := 39200, t := 104 * 2 ^ 32 + 9 * (2 ^ 32 / 10), p := 2 ^ 61 / 1000 + 1, fr := 0, smp := List.replicate 8 (some 5) }] })).grp[(0 : Fin 2)]).halves.headD 0 ∧ ((sampled 0 (fun x => { x with wdone := [endedWin, { endedWin with w := { a := 105 * 2 ^ 32 }, b := 106 * 2 ^ 32 }], halves := [105 * 2 ^ 32 + 40000000], ticks := [{ si := 39200, t := 104 * 2 ^ 32 + 9 * (2 ^ 32 / 10), p := 2 ^ 61 / 1000 + 1, fr := 0, smp := List.replicate 8 (some 5) }] })).cycRec 0 endedWin).2.n ≠ 0) ∧
    ((sampled 0 (fun x => { x with wdone := [endedWin], spec := true })).forms = true ∧ (sampled 0 (fun x => { x with wdone := [endedWin], spec := true })).wedged 2 = false ∧ ((sampled 0 (fun x => { x with wdone := [endedWin], spec := true })).grp[(0 : Fin 2)]).spec = true ∧ ((sampled 0 (fun x => { x with wdone := [endedWin], spec := true })).grp[(0 : Fin 2)]).wdone.any (fun x => x.spec.isNone) = true) ∧
    (((sampled 0 id).sf (SPEC_STAT_FSETTLE (0 : Fin 2)) 1).isReady = true ∧ (((sampled 0 id).sf (SPEC_STAT_FSETTLE (0 : Fin 2)) 1).grp[(0 : Fin 2)]).running = true) :=
  ⟨by decide +kernel,
   by decide +kernel,
   by decide +kernel,
   by decide +kernel⟩

theorem test_wit_EnergyRegisters :
    ((withGrp up 0 (fun x => { x with steps := [oneStep] })).isReady = true ∧ (withGrp up 0 (fun x => { x with steps := [oneStep] })).switching = false ∧ ((withGrp up 0 (fun x => { x with steps := [oneStep] })).grp[(0 : Fin 2)]).steps = [oneStep]) ∧
    ((withGrp up 0 (fun x => { x with steps := [oneStep] })).serving = true ∧ (withGrp up 0 (fun x => { x with steps := [oneStep] })).switching = false ∧ (withGrp up 0 (fun x => { x with steps := [oneStep] })).grpFused 0 = false ∧ (withGrp up 0 (fun x => { x with steps := [oneStep] })).grpFused 1 = false ∧ (0x30#32).toNat.testBit 8 = decide ((0 : Fin 2) = 1) ∧ (0x137#32).toNat.testBit 8 = decide ((1 : Fin 2) = 1)) ∧
    (({ opened with met := { opened.met with acc := [(63, 5)], poison := [63] } }).serving = true ∧ ({ opened with met := { opened.met with acc := [(63, 5)], poison := [63] } }).switching = false ∧ ({ opened with met := { opened.met with acc := [(63, 5)], poison := [63] } }).sealOpen .pcie = true ∧ (0x100#32).toNat.testBit 8 = true ∧ (({ opened with met := { opened.met with acc := [(63, 5)], poison := [63] } }).grp[(0 : Fin 2)]).running = false ∧ (({ opened with met := { opened.met with acc := [(63, 5)], poison := [63] } }).grp[(1 : Fin 2)]).running = false) ∧
    ((running { opened with met := { opened.met with acc := [(63, 5)], poison := [63] } } 0).serving = true ∧ (running { opened with met := { opened.met with acc := [(63, 5)], poison := [63] } } 0).switching = false ∧ (running { opened with met := { opened.met with acc := [(63, 5)], poison := [63] } } 0).sealOpen .pcie = true ∧ (0x100#32).toNat.testBit 8 = true ∧ ((running { opened with met := { opened.met with acc := [(63, 5)], poison := [63] } } 0).grp[(0 : Fin 2)]).running = true) := by
  decide +kernel

theorem test_wit_CalibrationCommits :
    (opened.serving = true ∧ opened.switching = false ∧ opened.sealOpen .pcie = true ∧ opened.chPresent (15 : Fin 16) = true ∧ opened.grpFused 1 = false ∧ (opened.grp[(1 : Fin 2)]).running = false ∧ (2#32).toNat % 4 = 2 ^ (1 : Fin 2).val ∧ (0xFFFFFFFD#32).toNat % 4 = 2 ^ (0 : Fin 2).val) ∧
    ((opened.setCalShadow 15 { scale := 7 }).serving = true ∧ (opened.setCalShadow 15 { scale := 7 }).sealOpen .pcie = true ∧ (opened.setCalShadow 15 { scale := 7 }).calShadow 15 ≠ (opened.setCalShadow 15 { scale := 7 }).met.cal[(15 : Fin 16)]) ∧
    ((let u := sampled 0 (fun x => { x with calAt := some (106 * 2 ^ 32, 2) }); { u with met := { u.met with calPend := u.met.calPend.set 0 [{ sets := [], id := 4, seq := 1, stored := true }, { sets := [{ scale := 9 }], id := 5, seq := 2, stored := true }, { sets := [], id := 6, seq := 3 }] } }).isReady = true ∧ ((let u := sampled 0 (fun x => { x with calAt := some (106 * 2 ^ 32, 2) }); { u with met := { u.met with calPend := u.met.calPend.set 0 [{ sets := [], id := 4, seq := 1, stored := true }, { sets := [{ scale := 9 }], id := 5, seq := 2, stored := true }, { sets := [], id := 6, seq := 3 }] } }).grp[(0 : Fin 2)]).calAt = some (106 * 2 ^ 32, 2) ∧ ((let u := sampled 0 (fun x => { x with calAt := some (106 * 2 ^ 32, 2) }); { u with met := { u.met with calPend := u.met.calPend.set 0 [{ sets := [], id := 4, seq := 1, stored := true }, { sets := [{ scale := 9 }], id := 5, seq := 2, stored := true }, { sets := [], id := 6, seq := 3 }] } }).met.calPend[(0 : Fin 2)].take 2).getLast? = some { sets := [{ scale := 9 }], id := 5, seq := 2, stored := true }) := by
  decide +kernel

theorem test_wit_CfOutputs :
    ((let u := up.sfs [(CF_CFG_EN 3, 1), (CF_STAT_OWED 3, 1), (CF_COUNT_COUNT 3, 0xFFFFFFFF)]; { u with met := { u.met with cfGo := true } }).isReady = true ∧ (let u := up.sfs [(CF_CFG_EN 3, 1), (CF_STAT_OWED 3, 1), (CF_COUNT_COUNT 3, 0xFFFFFFFF)]; { u with met := { u.met with cfGo := true } }).met.cfGo = true ∧ (let u := up.sfs [(CF_CFG_EN 3, 1), (CF_STAT_OWED 3, 1), (CF_COUNT_COUNT 3, 0xFFFFFFFF)]; { u with met := { u.met with cfGo := true } }).gb (CF_CFG_EN (3 : Fin 4)) = true ∧ 0 < (let u := up.sfs [(CF_CFG_EN 3, 1), (CF_STAT_OWED 3, 1), (CF_COUNT_COUNT 3, 0xFFFFFFFF)]; { u with met := { u.met with cfGo := true } }).gf (CF_STAT_OWED (3 : Fin 4)) ∧ (let u := up.sfs [(CF_CFG_EN 3, 1), (CF_STAT_OWED 3, 1), (CF_COUNT_COUNT 3, 0xFFFFFFFF)]; { u with met := { u.met with cfGo := true } }).gb (CF_STAT_ACTIVE (3 : Fin 4)) = false ∧ (let u := up.sfs [(CF_CFG_EN 3, 1), (CF_STAT_OWED 3, 1), (CF_COUNT_COUNT 3, 0xFFFFFFFF)]; { u with met := { u.met with cfGo := true } }).switching = false ∧ (let u := up.sfs [(CF_CFG_EN 3, 1), (CF_STAT_OWED 3, 1), (CF_COUNT_COUNT 3, 0xFFFFFFFF)]; { u with met := { u.met with cfGo := true } }).gb SLICE_STAT_LOST = false ∧ (let u := up.sfs [(CF_CFG_EN 3, 1), (CF_STAT_OWED 3, 1), (CF_COUNT_COUNT 3, 0xFFFFFFFF)]; { u with met := { u.met with cfGo := true } }).grpFused ((let u := up.sfs [(CF_CFG_EN 3, 1), (CF_STAT_OWED 3, 1), (CF_COUNT_COUNT 3, 0xFFFFFFFF)]; { u with met := { u.met with cfGo := true } }).gf (CF_CFG_GROUP (3 : Fin 4))) = false) ∧
    ((up.sf (CF_STAT_ACTIVE 3) 1).switching = false) ∧
    (opened.serving = true ∧ opened.switching = false ∧ opened.sealOpen .pcie = true ∧ opened.gb (CF_CFG_EN (3 : Fin 4)) = false) ∧
    ((opened.sf (CF_CFG_EN 3) 1).serving = true ∧ (opened.sf (CF_CFG_EN 3) 1).switching = false ∧ (opened.sf (CF_CFG_EN 3) 1).sealOpen .pcie = true ∧ (opened.sf (CF_CFG_EN 3) 1).gb (CF_CFG_EN (3 : Fin 4)) = true ∧ min (max ((0x3FFFFFFF#32).toNat % 2 ^ 30) 1) 1000000000 ≠ (opened.sf (CF_CFG_EN 3) 1).gf (CF_CONST_C (3 : Fin 4))) := by
  decide +kernel

theorem test_wit_IncrementsAndDescriptors :
    ((counting [.inc 4095 (some 0x40200000), .mark 1 9]).gb STAT_CTRL_EN = true ∧ (counting [.inc 4095 (some 0x40200000), .mark 1 9]).gb AGG_STAT_HELD = false ∧ (counting [.inc 4095 (some 0x40200000), .mark 1 9]).stat.waits = [.inc 4095 (some 0x40200000), .mark 1 9] ∧ (some 0x40200000 : Option Nat).bind f32val = some (5 / 2) ∧ (counting [.inc 4095 (some 0x40200000), .mark 1 9]).cellOk (((counting [.inc 4095 (some 0x40200000), .mark 1 9]).hist 4095).base + (((counting [.inc 4095 (some 0x40200000), .mark 1 9]).hist 4095).bin (5 / 2)).1) = true ∧ (counting [.inc 4095 (some 0x40200000), .mark 1 9]).cell (((counting [.inc 4095 (some 0x40200000), .mark 1 9]).hist 4095).base + (((counting [.inc 4095 (some 0x40200000), .mark 1 9]).hist 4095).bin (5 / 2)).1) < 2 ^ 32 - 1) ∧
    ((counting [.inc 4095 (some 0x42C80000)]).gb STAT_CTRL_EN = true ∧ (counting [.inc 4095 (some 0x42C80000)]).gb AGG_STAT_HELD = false ∧ (counting [.inc 4095 (some 0x42C80000)]).stat.waits = [.inc 4095 (some 0x42C80000)] ∧ (some 0x42C80000 : Option Nat).bind f32val = some 100 ∧ (counting [.inc 4095 (some 0x42C80000)]).cell 31 = 7) ∧
    ((counting [.inc 4095 none]).gb STAT_CTRL_EN = true ∧ (counting [.inc 4095 none]).gb AGG_STAT_HELD = false ∧ (counting [.inc 4095 none]).stat.waits = [.inc 4095 none] ∧ (none : Option Nat).bind f32val = none) ∧
    (({ up.sf AGG_STAT_DRAINING 1 with stat := { up.stat with drainT := some 0, commits := [(0, [])] } }).gb AGG_STAT_DRAINING = true ∧ ({ up.sf AGG_STAT_DRAINING 1 with stat := { up.stat with drainT := some 0, commits := [(0, [])] } }).stat.waits = []) ∧
    ((counting []).serving = true) ∧
    (staged.serving = true ∧ staged.gb AGG_STAT_DRAINING = false ∧ (staged.descBad (staged.gf STAT_DSEL_INDEX) { staged.hist (staged.gf STAT_DSEL_INDEX) with d0 := 0x81000000, d1 := staged.stat.stag1, d2 := staged.stat.stag2, d3 := staged.stat.stag3 }).any id = false ∧ (staged.descBad (staged.gf STAT_DSEL_INDEX) { staged.hist (staged.gf STAT_DSEL_INDEX) with d0 := 0x99000000, d1 := staged.stat.stag1, d2 := staged.stat.stag2, d3 := staged.stat.stag3 }).any id = true) ∧
    ((staged.sf AGG_STAT_DRAINING 1).serving = true ∧ (staged.sf AGG_STAT_DRAINING 1).gb AGG_STAT_DRAINING = true) := by
  decide +kernel

theorem test_wit_StatisticsCommands :
    ((withRing (runs (counting []) 3 (leBytes 4 16 ++ leBytes 4 16 ++ [1])) 9 clsSTA 0).executes 3 (cmdOf 3 (leBytes 4 16 ++ leBytes 4 16 ++ [1])) ∧ (withRing (runs (counting []) 3 (leBytes 4 16 ++ leBytes 4 16 ++ [1])) 9 clsSTA 0).gb AGG_STAT_DRAINING = false ∧ 0 < leAt (cmdOf 3 (leBytes 4 16 ++ leBytes 4 16 ++ [1])).entry 0x14 4 ∧ leAt (cmdOf 3 (leBytes 4 16 ++ leBytes 4 16 ++ [1])).entry 0x14 4 ≤ 65536 ∧ leAt (cmdOf 3 (leBytes 4 16 ++ leBytes 4 16 ++ [1])).entry 0x10 4 + leAt (cmdOf 3 (leBytes 4 16 ++ leBytes 4 16 ++ [1])).entry 0x14 4 ≤ 2 ^ 20 ∧ leAt (cmdOf 3 (leBytes 4 16 ++ leBytes 4 16 ++ [1])).entry 0x18 1 = 1 ∧ (withRing (runs (counting []) 3 (leBytes 4 16 ++ leBytes 4 16 ++ [1])) 9 clsSTA 0).starved clsSTA = false ∧ (withRing (runs (counting []) 3 (leBytes 4 16 ++ leBytes 4 16 ++ [1])) 9 clsSTA 0).carrier clsSTA srcNone 0 = some 9 ∧ (((withRing (runs (counting []) 3 (leBytes 4 16 ++ leBytes 4 16 ++ [1])) 9 clsSTA 0).closeAggSummaries.snapRecs 16 16 true).map Rec.entries).sum + ((withRing (runs (counting []) 3 (leBytes 4 16 ++ leBytes 4 16 ++ [1])) 9 clsSTA 0).rings[(9 : Fin 64)].q.map QItem.size).sum / 64 ≤ (withRing (runs (counting []) 3 (leBytes 4 16 ++ leBytes 4 16 ++ [1])) 9 clsSTA 0).rings[(9 : Fin 64)].free) ∧
    ((runs (counting []) 3 (leBytes 4 0xFFFF1 ++ leBytes 4 16)).executes 3 (cmdOf 3 (leBytes 4 0xFFFF1 ++ leBytes 4 16)) ∧ (runs (counting []) 3 (leBytes 4 0xFFFF1 ++ leBytes 4 16)).gb AGG_STAT_DRAINING = false ∧ 2 ^ 20 < leAt (cmdOf 3 (leBytes 4 0xFFFF1 ++ leBytes 4 16)).entry 0x10 4 + leAt (cmdOf 3 (leBytes 4 0xFFFF1 ++ leBytes 4 16)).entry 0x14 4) ∧
    ((withRing (runs (counting []) 4 ([0xFF, 0x0F, 2, 1] ++ leBytes 4 100000)) 9 clsSTA 0).executes 4 (cmdOf 4 ([0xFF, 0x0F, 2, 1] ++ leBytes 4 100000)) ∧ (withRing (runs (counting []) 4 ([0xFF, 0x0F, 2, 1] ++ leBytes 4 100000)) 9 clsSTA 0).gb AGG_STAT_DRAINING = false ∧ leAt (cmdOf 4 ([0xFF, 0x0F, 2, 1] ++ leBytes 4 100000)).entry 0x10 2 = 4095 ∧ leAt (cmdOf 4 ([0xFF, 0x0F, 2, 1] ++ leBytes 4 100000)).entry 0x12 1 = 2 ∧ leAt (cmdOf 4 ([0xFF, 0x0F, 2, 1] ++ leBytes 4 100000)).entry 0x13 1 = 1 ∧ (∀ j, j < 1 → leAt (cmdOf 4 ([0xFF, 0x0F, 2, 1] ++ leBytes 4 100000)).entry (0x14 + 4 * j) 4 ≤ 100000) ∧ (∀ j, j < 8 → 1 ≤ j → leAt (cmdOf 4 ([0xFF, 0x0F, 2, 1] ++ leBytes 4 100000)).entry (0x14 + 4 * j) 4 = 0) ∧ (withRing (runs (counting []) 4 ([0xFF, 0x0F, 2, 1] ++ leBytes 4 100000)) 9 clsSTA 0).starved clsSTA = false ∧ (withRing (runs (counting []) 4 ([0xFF, 0x0F, 2, 1] ++ leBytes 4 100000)) 9 clsSTA 0).carrier clsSTA srcNone 0 = some 9) ∧
    ((runs up 4 [0, 0x10, 0, 1]).executes 4 (cmdOf 4 [0, 0x10, 0, 1]) ∧ (runs up 4 [0, 0x10, 0, 1]).gb AGG_STAT_DRAINING = false ∧ 4096 ≤ leAt (cmdOf 4 [0, 0x10, 0, 1]).entry 0x10 2) := by
  unfold State.executes; decide +kernel

theorem test_wit_CaptureEngine :
    ((runs (up.sf CAP_SRC_SD 1) 5 []).executes 5 (cmdOf 5 []) ∧ (runs (up.sf CAP_SRC_SD 1) 5 []).capRefusal = 0) ∧
    ((runs (up.sf CAP_STAT_STATE 1) 5 []).executes 5 (cmdOf 5 []) ∧ (runs (up.sf CAP_STAT_STATE 1) 5 []).capRefusal ≠ 0 ∧ (runs (up.sf CAP_STAT_STATE 1) 5 []).capRefusal.testBit 2 = true ∧ (runs (up.sf CAP_STAT_STATE 1) 5 []).capRefusal.testBit 3 = true) ∧
    ((runs (up.sfs [(CAP_STAT_STATE, 1), (CAP_STAT_CAPID, 0xFFFF)]) 6 []).executes 6 (cmdOf 6 []) ∧ (runs (up.sfs [(CAP_STAT_STATE, 1), (CAP_STAT_CAPID, 0xFFFF)]) 6 []).gf CAP_STAT_STATE = 1 ∧ (runs (up.sfs [(CAP_STAT_STATE, 1), (CAP_STAT_CAPID, 0xFFFF)]) 6 []).cap.armT ≤ (runs (up.sfs [(CAP_STAT_STATE, 1), (CAP_STAT_CAPID, 0xFFFF)]) 6 []).now) ∧
    ((runs up 6 []).executes 6 (cmdOf 6 []) ∧ (runs up 6 []).gf CAP_STAT_STATE ≠ 1) ∧
    (capturing.forms = true ∧ capturing.gf CAP_STAT_STATE = 2 ∧ capturing.gb TIME_STATUS_SHADOW = false ∧ capturing.cap.trigs = [{ kind := 10, src := 255, t := 5 * 2 ^ 32 }] ∧ capturing.cap.buf = [{ src := 0, idx := 9, t := 5 * 2 ^ 32, e := 5 * 2 ^ 32 + 1000, w := 77 }] ∧ capturing.capSel 0 = true ∧ 5 * 2 ^ 32 < capturing.cap.wEnd ∧ max (5 * 2 ^ 32 - usTime (capturing.gf CAP_PRE_US)) capturing.cap.armT ≤ 5 * 2 ^ 32 ∧ capturing.starved clsCAP = false) ∧
    ((up.sfs [(CAP_STAT_STATE, 3), (CAP_CTRL_AUTOREARM, 1)]).gf CAP_STAT_STATE = 3 ∧ (up.sfs [(CAP_STAT_STATE, 3), (CAP_CTRL_AUTOREARM, 1)]).gb CAP_CTRL_AUTOREARM = true) ∧
    ((up.sf CAP_STAT_STATE 3).gf CAP_STAT_STATE = 3 ∧ (up.sf CAP_STAT_STATE 3).gb CAP_CTRL_AUTOREARM = false) := by
  unfold State.executes; decide +kernel

theorem test_wit_TariffClearAndClose :
    ((billed opened).serving = true ∧ (billed opened).switching = false ∧ (billed opened).sealOpen .pcie = true ∧ (4#32).toNat.testBit 2 = true ∧ ((billed opened).grp[(0 : Fin 2)]).running = false ∧ ((billed opened).grp[(1 : Fin 2)]).running = false) ∧
    ((running (billed opened) 1).serving = true ∧ (running (billed opened) 1).switching = false ∧ (running (billed opened) 1).sealOpen .pcie = true ∧ (7#32).toNat.testBit 2 = true ∧ ((running (billed opened) 1).grp[(1 : Fin 2)]).running = true) ∧
    ((billed opened).serving = true ∧ (billed opened).switching = false ∧ (billed opened).sealOpen .pcie = true ∧ (2#32).toNat.testBit (1 : Fin 2) = true ∧ (2#32).toNat.testBit 2 = false ∧ (billed opened).grpFused 1 = false ∧ ((billed opened).bil[(1 : Fin 2)]).close = none) ∧
    (({ opened with bil := opened.bil.set 0 { close := some 7 } }).serving = true ∧ ({ opened with bil := opened.bil.set 0 { close := some 7 } }).switching = false ∧ ({ opened with bil := opened.bil.set 0 { close := some 7 } }).sealOpen .pcie = true ∧ (1#32).toNat.testBit (0 : Fin 2) = true ∧ (1#32).toNat.testBit 2 = false ∧ ({ opened with bil := opened.bil.set 0 { close := some 7 } }).grpFused 0 = false ∧ (({ opened with bil := opened.bil.set 0 { close := some 7 } }).bil[(0 : Fin 2)]).close.isSome = true) := by
  decide +kernel

theorem test_wit_CalendarAndSelection :
    ((goodCal.sfs [(BIL_CAL_ADDR_ADDR, 0x150), (BIL_CAL_CTRL_PVALID, 1)]).serving = true ∧ (goodCal.sfs [(BIL_CAL_ADDR_ADDR, 0x150), (BIL_CAL_CTRL_PVALID, 1)]).switching = false ∧ (goodCal.sfs [(BIL_CAL_ADDR_ADDR, 0x150), (BIL_CAL_CTRL_PVALID, 1)]).sealOpen .pcie = true ∧ (goodCal.sfs [(BIL_CAL_ADDR_ADDR, 0x150), (BIL_CAL_CTRL_PVALID, 1)]).gf BIL_CAL_ADDR_ADDR = 0x150) ∧
    (goodCal.forms = true ∧ goodCal.switching = false ∧ goodCal.sealOpen .pcie = true ∧ (1#32).toNat.testBit 0 = true ∧ imgValid goodCal.cals.pas = true ∧ goodCal.pcalAct = 120 * 2 ^ 32 ∧ goodCal.pcalAct % minuteT = 0 ∧ goodCal.ket.hwm < goodCal.pcalAct) ∧
    (({ goodCal with cals := {} }).serving = true ∧ ({ goodCal with cals := {} }).switching = false ∧ ({ goodCal with cals := {} }).sealOpen .pcie = true ∧ imgValid ({ goodCal with cals := {} }).cals.pas = false ∧ (1#32).toNat.testBit 0 = true) ∧
    ((billed up).serving = true ∧ (billed up).switching = false ∧ (0x774#32).toNat % 4 = 0 ∧ (0x774#32).toNat.testBit 2 = decide ((1 : Fin 2) = 1) ∧ (billed up).grpFused 1 = false) ∧
    (({ billed up with chip := { up.chip with ps0804 := true } }).serving = true ∧ ({ billed up with chip := { up.chip with ps0804 := true } }).switching = false ∧ (0x774#32).toNat.testBit 2 = decide ((1 : Fin 2) = 1) ∧ ({ billed up with chip := { up.chip with ps0804 := true } }).grpFused 1 = true) ∧
    ((billed up).serving = true ∧ (billed up).switching = false ∧ 2 ≤ (0xF002#32).toNat % 4 ∧ (0xF002#32).toNat.testBit 2 = decide ((0 : Fin 2) = 1) ∧ ((billed up).bil[(0 : Fin 2)]).snaps[(0xF002#32).toNat / 4096 % 16]? = none) := by
  decide +kernel

theorem test_wit_LinkAndVectors :
    ((up.sf (FENCE_MISC_LANE) 2).mbit FENCE_MISC_LANE 0 = false ∧ (up.sf (FENCE_MISC_LANE) 2).spiOnly = false ∧ (up.sf (FENCE_MISC_LANE) 2).inReset = false ∧ (up.sf (FENCE_MISC_LANE) 2).gb CLK_STAT_REFCLK_LOST = false ∧ (up.sf (FENCE_MISC_LANE) 2).mbit FENCE_MISC_LANE 1 = true) ∧
    (linked.serving = true ∧ linked.gb LINK_STAT_UP = true ∧ linked.mbit FENCE_MISC_LANE 0 = false ∧ linked.mbit FENCE_MISC_LANE 1 = false ∧ linked.spiOnly = false ∧ linked.inReset = false ∧ linked.gb CLK_STAT_REFCLK_LOST = false ∧ (true && false) = false) ∧
    (({ linked with link := { linked.link with pba := 2 ^ 31 } }).serving = true ∧ ({ linked with link := { linked.link with pba := 2 ^ 31 } }).gb LINK_STAT_UP = true ∧ ({ linked with link := { linked.link with pba := 2 ^ 31 } }).mayDma = true ∧ ({ linked with link := { linked.link with pba := 2 ^ 31 } }).link.pba.testBit (31 : Fin 32) = true) := by
  decide +kernel

theorem test_wit_RegisterAccess :
    (({ up with time := { up.time with t := 5 * 2 ^ 64 + 9 * 2 ^ 32 } }).serving = true ∧ ({ up with time := { up.time with t := 5 * 2 ^ 64 + 9 * 2 ^ 32 } }).spiOnly = false ∧ ({ up with time := { up.time with t := 5 * 2 ^ 64 + 9 * 2 ^ 32 } }).spiOn = true ∧ SMap.get (fun _ => 0) ({ up with time := { up.time with t := 5 * 2 ^ 64 + 9 * 2 ^ 32 } }).latch (latchKey .pcie 0x808) = 0 ∧ SMap.get (fun _ => 0) ({ up with time := { up.time with t := 5 * 2 ^ 64 + 9 * 2 ^ 32 } }).latch (latchKey .spi 0x808) = 0) ∧
    (({ up with latch := [(latchKey .pcie 0x80C, 0xFFFFFFFF + 1)] }).serving = true ∧ ({ up with latch := [(latchKey .pcie 0x80C, 0xFFFFFFFF + 1)] }).spiOnly = false ∧ SMap.get (fun _ => 0) ({ up with latch := [(latchKey .pcie 0x80C, 0xFFFFFFFF + 1)] }).latch (latchKey .pcie 0x80C) = 0xFFFFFFFF + 1) := by
  decide +kernel

theorem test_wit_RingCommands :
    ((up.setRing 32 (fun r => { r with st := .on })).serving = true ∧ (up.setRing 32 (fun r => { r with st := .on })).spiOnly = false ∧ true = decide (32 ≤ (63 : Fin 64).val) ∧ ((up.setRing 32 (fun r => { r with st := .on })).rings[(63 : Fin 64)]).st = .off ∧ ((up.setRing 32 (fun r => { r with st := .on })).rings[(32 : Fin 64)]).st = .on ∧ (0x80000001#32).toNat.testBit ((63 : Fin 64).val % 32) = true) ∧
    (waiting.served = true ∧ waiting.wedged 7 = false ∧ (waiting.rings[(63 : Fin 64)]).entry = none ∧ (∀ m : Fin 64, (waiting.rings[m]).waiting = decide (m = 63)) ∧ waiting.entryErr (.data logEntry) = 0 ∧ waiting.entryErr (.data (zeros 32)) ≠ 0) ∧
    ((onRing clsLOG).serving = true ∧ (onRing clsLOG).spiOnly = false ∧ ((onRing clsLOG).rings[(0 : Fin 64)]).st ≠ .on ∧ ((onRing clsLOG).rings[(63 : Fin 64)]).st = .on ∧ ((onRing clsLOG).rings[(63 : Fin 64)]).dbOk (0xFFFFFFFF#32).toNat = true ∧ ((onRing clsLOG).rings[(63 : Fin 64)]).dbOk (0#32).toNat = false) ∧
    ((onRing clsLOG).served = true ∧ ((onRing clsLOG).rings[(63 : Fin 64)]).st = .on ∧ ((onRing clsLOG).rings[(63 : Fin 64)]).dev ≠ ((onRing clsLOG).rings[(63 : Fin 64)]).pub ∧ ((onRing clsLOG).rings[(63 : Fin 64)]).irq = true ∧ ((onRing clsLOG).rings[(63 : Fin 64)]).oldest.isSome = true ∧ ((onRing clsLOG).rings[(63 : Fin 64)]).pub ≠ ((onRing clsLOG).rings[(63 : Fin 64)]).sig ∧ ((onRing clsLOG).rings[(63 : Fin 64)]).vec = (0 : Fin 32).val ∧ ((onRing clsLOG).rings[(63 : Fin 64)]).cls ≠ clsCMD ∧ ((onRing clsLOG).rings[(63 : Fin 64)]).unvis ≠ [] ∧ (onRing clsLOG).vecOpen 0 = true) := by
  decide +kernel

theorem test_wit_BadCommandEntries :
    (fetching.forms = true ∧ fetching.canFetch = true ∧ fetching.cmdRing = some 63 ∧ (entryOf 1 []).length = 64 ∧ crc32c ((entryOf 1 []).take 60) ≠ leAt (entryOf 1 []) 60 4 ∧ (sealedEntry 0).length = 64 ∧ (sealedEntry 16).length = 64 ∧ crc32c ((sealedEntry 0).take 60) = leAt (sealedEntry 0) 60 4 ∧ leAt (sealedEntry 0) 0 1 = 0 ∧ crc32c ((sealedEntry 16).take 60) = leAt (sealedEntry 16) 60 4 ∧ 15 < leAt (sealedEntry 16) 0 1) := by
  decide +kernel

theorem test_wit_CommandsAndMailbox :
    (fetching.canFetch = true ∧ fetching.cmdRing = some 63 ∧ entryStatus (sealedEntry 15) false = some 0 ∧ fetching.reading .command = true ∧ fetching.wasRetried .command = false) ∧
    (({ fetching with cmd := { fetching.cmd with retried := true } }).reading .command = true ∧ ({ fetching with cmd := { fetching.cmd with retried := true } }).wasRetried .command = true ∧ ({ fetching with cmd := { fetching.cmd with retried := true } }).cmdRing = some 63) ∧
    (({ linked with cmd := { linked.cmd with cur := some (cmdOf 8 []), retried := true } }).executes 8 (cmdOf 8 []) ∧ ({ linked with cmd := { linked.cmd with cur := some (cmdOf 8 []), retried := true } }).reading .buffer = true ∧ ({ linked with cmd := { linked.cmd with cur := some (cmdOf 8 []), retried := true } }).wasRetried .buffer = true) ∧
    ((waiting.setRing 63 (fun r => { r with retried := true })).reading (.ringEntry 63) = true ∧ (waiting.setRing 63 (fun r => { r with retried := true })).wasRetried (.ringEntry 63) = true ∧ (∀ m : Fin 64, ((waiting.setRing 63 (fun r => { r with retried := true })).rings[m]).waiting = decide (m = 63))) ∧
    (up.serving = true ∧ up.gb MBOX_STATUS_BUSY = false) ∧
    ((boxed (entryOf 5 [])).serving = true ∧ (boxed (entryOf 5 [])).gb MBOX_STATUS_BUSY = true ∧ (boxed (entryOf 5 [])).isReady = true ∧ (boxed (entryOf 5 [])).cmd.cur = none ∧ (boxed (entryOf 5 [])).cmd.cpl = none ∧ entryStatus (boxed (entryOf 5 [])).mboxEntry true = none) ∧
    (((boxed (sealedEntry 5)).sf CAP_SRC_SD 1).isReady = true ∧ ((boxed (sealedEntry 5)).sf CAP_SRC_SD 1).gb MBOX_STATUS_BUSY = true ∧ ((boxed (sealedEntry 5)).sf CAP_SRC_SD 1).cmd.cur = none ∧ ((boxed (sealedEntry 5)).sf CAP_SRC_SD 1).cmd.cpl = none ∧ entryStatus ((boxed (sealedEntry 5)).sf CAP_SRC_SD 1).mboxEntry true = some 0 ∧ leAt ((boxed (sealedEntry 5)).sf CAP_SRC_SD 1).mboxEntry 0 1 = 5 ∧ ((boxed (sealedEntry 5)).sf CAP_SRC_SD 1).capRefusal = 0) := by
  unfold State.executes; decide +kernel

theorem test_wit_InterruptRegisters :
    ((linked.sfs [(intBit 0, 1), (intBit 14, 1), (INT_EN_EN, 0x7FFF)]).serving = true ∧ (linked.sfs [(intBit 0, 1), (intBit 14, 1), (INT_EN_EN, 0x7FFF)]).vecOpen 0 = true ∧ (linked.sfs [(intBit 0, 1), (intBit 14, 1), (INT_EN_EN, 0x7FFF)]).gb (intBit 0) = true ∧ (linked.sfs [(intBit 0, 1), (intBit 14, 1), (INT_EN_EN, 0x7FFF)]).gb (intBit 14) = true) ∧
    ((linked.sf INT_EN_EN 0x4000).serving = true ∧ (linked.sf INT_EN_EN 0x4000).vecOpen 0 = true ∧ (linked.sf INT_EN_EN 0x4000).gb (intBit 14) = false) ∧
    ((linked.sf (intBit 14) 1).serving = true ∧ (linked.sf (intBit 14) 1).vecOpen 0 = true) := by
  decide +kernel

theorem test_wit_NvmCommands :
    ((nvmRuns 7 0x7F000 4096).executes 7 (nvmCmd 7 0x7F000 4096) ∧ leAt (nvmCmd 7 0x7F000 4096).entry 0x10 4 % 8 = 0 ∧ leAt (nvmCmd 7 0x7F000 4096).entry 0x14 4 % 8 = 0 ∧ leAt (nvmCmd 7 0x7F000 4096).entry 0x14 4 ≤ 4096 ∧ 0x4000 ≤ leAt (nvmCmd 7 0x7F000 4096).entry 0x10 4 ∧ leAt (nvmCmd 7 0x7F000 4096).entry 0x10 4 + leAt (nvmCmd 7 0x7F000 4096).entry 0x14 4 = 0x80000 ∧ (nvmRuns 7 0x7F000 4096).nvm.running = none ∧ (nvmRuns 7 0x7F000 4096).mayDma = true ∧ 8 * 511 < leAt (nvmCmd 7 0x7F000 4096).entry 0x14 4 ∧ leAt (nvmCmd 7 0x7F000 4096).entry 0x10 4 + 8 * 511 = 0x7FFF8) ∧
    ((nvmRuns 7 0x3FF8 8).executes 7 (nvmCmd 7 0x3FF8 8) ∧ leAt (nvmCmd 7 0x3FF8 8).entry 0x10 4 < 0x4000) ∧
    ((nvmRuns 8 0x7FF00 256).executes 8 (nvmCmd 8 0x7FF00 256) ∧ (nvmRuns 8 0x7FF00 256).hostWriting = false ∧ leAt (nvmCmd 8 0x7FF00 256).entry 0x10 4 = 0x7FF00 ∧ leAt (nvmCmd 8 0x7FF00 256).entry 0x14 4 = 256 ∧ leAt (nvmCmd 8 0x7FF00 256).entry 0x14 4 ≤ (List.replicate 256 (1 : Byte)).length) ∧
    ((nvmRuns 8 0x70000 0).executes 8 (nvmCmd 8 0x70000 0) ∧ (nvmRuns 8 0x70000 0).hostWriting = false ∧ leAt (nvmCmd 8 0x70000 0).entry 0x10 4 = 0x70000 ∧ leAt (nvmCmd 8 0x70000 0).entry 0x14 4 = 0) ∧
    ((nvmRuns 8 0x80000 0).executes 8 (nvmCmd 8 0x80000 0) ∧ (nvmRuns 8 0x80000 0).hostWriting = false ∧ 0x80000 ≤ leAt (nvmCmd 8 0x80000 0).entry 0x10 4) := by
  unfold State.executes; decide +kernel

theorem test_wit_NvmOperations :
    ((storing .host).executes 8 (nvmCmd 8 0x7FF00 256) ∧ (storing .host).nvm.running = some (writing .host) ∧ (writing .host).kind = .host ∧ (writing .host).ops = [[{ page := 0x7FF, word := 0, bytes := List.replicate 256 0xA5 }]] ∧ (List.replicate 256 (0xA5 : Byte)).length = 256 ∧ 0x7FF % 8 = (7 : Fin 8).val) ∧
    ((storing .journal).nvm.running = some (writing .journal) ∧ (writing .journal).kind ≠ .host ∧ (writing .journal).ops = [[{ page := 0x7FF, word := 0, bytes := List.replicate 256 0xA5 }]] ∧ 0x7FF % 8 = (7 : Fin 8).val) ∧
    (up.isReady = true ∧ up.gb TIME_STATUS_HALTED = false ∧ up.serving = true) := by
  unfold State.executes; decide +kernel

theorem test_wit_RandomAndSeals :
    (up.rst.phase = .ready ∧ up.sec.trngFail = false ∧ up.sec.trngOk = false) ∧
    (unsealedRing.forms = true ∧ (unsealedRing.rings[(63 : Fin 64)]).unsealed = true ∧ unsealedRing.sealWaits (63 : Fin 64) = false ∧ unsealedRing.sec.due = [] ∧ unsealedRing.sec.signing = none ∧ unsealedRing.time.coreStop = false ∧ unsealedRing.wedged 8 = false ∧ unsealedRing.sec.mcount < unsealedRing.sec.mres) ∧
    ((runs unsealedRing 9 (leBytes 8 (2 ^ 63))).executes 9 (cmdOf 9 (leBytes 8 (2 ^ 63))) ∧ (leAt (cmdOf 9 (leBytes 8 (2 ^ 63))).entry 0x10 8).testBit (63 : Fin 64) = true ∧ ((runs unsealedRing 9 (leBytes 8 (2 ^ 63))).rings[(63 : Fin 64)]).st = .on ∧ ((runs unsealedRing 9 (leBytes 8 (2 ^ 63))).rings[(63 : Fin 64)]).unsealed = true ∧ (runs unsealedRing 9 (leBytes 8 (2 ^ 63))).sealWaits (63 : Fin 64) = false) ∧
    (({ up with sec := { up.sec with signing := some signing0, zeroised := true } }).forms = true ∧ ({ up with sec := { up.sec with signing := some signing0, zeroised := true } }).time.coreStop = false ∧ ({ up with sec := { up.sec with signing := some signing0, zeroised := true } }).sec.signing = some signing0 ∧ ({ up with sec := { up.sec with signing := some signing0, zeroised := true } }).unsigned = true) := by
  unfold State.executes; decide +kernel

theorem test_wit_SessionsAndOwner :
    (({ owned 2 0 (leBytes 4 3600) with cmd := { up.cmd with cur := some (cmdOf 0x0B []) } }).executes 0x0B (cmdOf 0x0B []) ∧ ({ owned 2 0 (leBytes 4 3600) with cmd := { up.cmd with cur := some (cmdOf 0x0B []) } }).sec.trngFail = false ∧ ({ owned 2 0 (leBytes 4 3600) with cmd := { up.cmd with cur := some (cmdOf 0x0B []) } }).sec.owner.isSome = true ∧ ({ owned 2 0 (leBytes 4 3600) with cmd := { up.cmd with cur := some (cmdOf 0x0B []) } }).sec.session = none ∧ ({ owned 2 0 (leBytes 4 3600) with cmd := { up.cmd with cur := some (cmdOf 0x0B []) } }).gb KET_STAT_LOCK = false ∧ (blkOf 2 0 (leBytes 4 3600)).length = 128 ∧ blkKind (blkOf 2 0 (leBytes 4 3600)) = 2 ∧ leAt (blkOf 2 0 (leBytes 4 3600)) 0x20 4 = 3600 ∧ ({ owned 2 0 (leBytes 4 3600) with cmd := { up.cmd with cur := some (cmdOf 0x0B []) } }).blkAccept (blkOf 2 0 (leBytes 4 3600)) 2 (decide (((blkOf 2 0 (leBytes 4 3600)).drop 0x24).take 28 = zeros 28)) ({ owned 2 0 (leBytes 4 3600) with cmd := { up.cmd with cur := some (cmdOf 0x0B []) } }).ownerKey = true ∧ (blkOf 2 1 []).length = 128 ∧ blkKind (blkOf 2 1 []) = 2 ∧ ({ owned 2 0 (leBytes 4 3600) with cmd := { up.cmd with cur := some (cmdOf 0x0B []) } }).blkAccept (blkOf 2 1 []) 2 (decide (((blkOf 2 1 []).drop 0x24).take 28 = zeros 28)) ({ owned 2 0 (leBytes 4 3600) with cmd := { up.cmd with cur := some (cmdOf 0x0B []) } }).ownerKey = false) ∧
    (({ owned 2 1 [] with cmd := { up.cmd with cur := some (cmdOf 0x0B []) } }).executes 0x0B (cmdOf 0x0B []) ∧ ({ owned 2 1 [] with cmd := { up.cmd with cur := some (cmdOf 0x0B []) } }).sec.trngFail = false ∧ ({ owned 2 1 [] with cmd := { up.cmd with cur := some (cmdOf 0x0B []) } }).sec.owner.isSome = true ∧ installBlk.length = 128 ∧ blkKind installBlk = 1) ∧
    (({ fresh with cmd := { up.cmd with cur := some (cmdOf 0x0B []) } }).executes 0x0B (cmdOf 0x0B []) ∧ ({ fresh with cmd := { up.cmd with cur := some (cmdOf 0x0B []) } }).sec.trngFail = false ∧ ({ fresh with cmd := { up.cmd with cur := some (cmdOf 0x0B []) } }).sec.owner = none ∧ ({ fresh with cmd := { up.cmd with cur := some (cmdOf 0x0B []) } }).sec.session = none ∧ ({ fresh with cmd := { up.cmd with cur := some (cmdOf 0x0B []) } }).gb KET_STAT_LOCK = false ∧ ({ fresh with cmd := { up.cmd with cur := some (cmdOf 0x0B []) } }).blkAccept installBlk 1 true (decompress (leAt installBlk 1 1) (ofBe (blkParam installBlk))) = true) ∧
    ((runs opened 0x0C []).executes 0x0C (cmdOf 0x0C []) ∧ (runs opened 0x0C []).sec.session.isSome = true ∧ (runs opened 0x0C []).isReady = true) ∧
    ((runs up 0x0C []).executes 0x0C (cmdOf 0x0C []) ∧ (runs up 0x0C []).sec.session = none) ∧
    ((runs { up.sf LINK_STAT_UP 1 with chip := { up.chip with cert := [1, 2, 3, 4] }, link := { up.link with bme := true } } 0x0D (leBytes 4 1 ++ leBytes 4 3)).executes 0x0D (cmdOf 0x0D (leBytes 4 1 ++ leBytes 4 3)) ∧ (runs { up.sf LINK_STAT_UP 1 with chip := { up.chip with cert := [1, 2, 3, 4] }, link := { up.link with bme := true } } 0x0D (leBytes 4 1 ++ leBytes 4 3)).sec.dbg = false ∧ (runs { up.sf LINK_STAT_UP 1 with chip := { up.chip with cert := [1, 2, 3, 4] }, link := { up.link with bme := true } } 0x0D (leBytes 4 1 ++ leBytes 4 3)).mayDma = true ∧ leAt (cmdOf 0x0D (leBytes 4 1 ++ leBytes 4 3)).entry 0x10 4 + leAt (cmdOf 0x0D (leBytes 4 1 ++ leBytes 4 3)).entry 0x14 4 = (runs { up.sf LINK_STAT_UP 1 with chip := { up.chip with cert := [1, 2, 3, 4] }, link := { up.link with bme := true } } 0x0D (leBytes 4 1 ++ leBytes 4 3)).chip.cert.length) ∧
    ((runs { up with sec := { up.sec with dbg := true } } 0x0D []).executes 0x0D (cmdOf 0x0D []) ∧ (runs { up with sec := { up.sec with dbg := true } } 0x0D []).sec.dbg = true) ∧
    (({ owned 4 0 (leBytes 4 0x801) with cmd := { up.cmd with cur := some (cmdOf 0x0E []) }, ket := { up.ket with swAbn := up.ket.swAbn.set 0 true, src := up.ket.src.set 0 { flag := true, count := 2 } } }).executes 0x0E (cmdOf 0x0E []) ∧ ({ owned 4 0 (leBytes 4 0x801) with cmd := { up.cmd with cur := some (cmdOf 0x0E []) }, ket := { up.ket with swAbn := up.ket.swAbn.set 0 true, src := up.ket.src.set 0 { flag := true, count := 2 } } }).sec.trngFail = false ∧ ({ owned 4 0 (leBytes 4 0x801) with cmd := { up.cmd with cur := some (cmdOf 0x0E []) }, ket := { up.ket with swAbn := up.ket.swAbn.set 0 true, src := up.ket.src.set 0 { flag := true, count := 2 } } }).sec.owner.isSome = true ∧ (blkOf 4 0 (leBytes 4 0x801)).length = 128 ∧ ({ owned 4 0 (leBytes 4 0x801) with cmd := { up.cmd with cur := some (cmdOf 0x0E []) }, ket := { up.ket with swAbn := up.ket.swAbn.set 0 true, src := up.ket.src.set 0 { flag := true, count := 2 } } }).blkAccept (blkOf 4 0 (leBytes 4 0x801)) 4 (decide (((blkOf 4 0 (leBytes 4 0x801)).drop 0x24).take 28 = zeros 28)) ({ owned 4 0 (leBytes 4 0x801) with cmd := { up.cmd with cur := some (cmdOf 0x0E []) }, ket := { up.ket with swAbn := up.ket.swAbn.set 0 true, src := up.ket.src.set 0 { flag := true, count := 2 } } }).ownerKey = true ∧ (leAt (blkOf 4 0 (leBytes 4 0x801)) 0x20 4).testBit (11 : Fin 12) = true ∧ ({ owned 4 0 (leBytes 4 0x801) with cmd := { up.cmd with cur := some (cmdOf 0x0E []) }, ket := { up.ket with swAbn := up.ket.swAbn.set 0 true, src := up.ket.src.set 0 { flag := true, count := 2 } } }).ketCond (11 : Fin 12) = false ∧ (leAt (blkOf 4 0 (leBytes 4 0x801)) 0x20 4).testBit (1 : Fin 12) = false ∧ ({ owned 4 0 (leBytes 4 0x801) with cmd := { up.cmd with cur := some (cmdOf 0x0E []) }, ket := { up.ket with swAbn := up.ket.swAbn.set 0 true, src := up.ket.src.set 0 { flag := true, count := 2 } } }).ketCond (0 : Fin 12) = true ∧ (({ owned 4 0 (leBytes 4 0x801) with cmd := { up.cmd with cur := some (cmdOf 0x0E []) }, ket := { up.ket with swAbn := up.ket.swAbn.set 0 true, src := up.ket.src.set 0 { flag := true, count := 2 } } }).ket.src[(11 : Fin 12)]).flag = true) :=
  ⟨by unfold State.executes; decide +kernel,
   by unfold State.executes; decide +kernel,
   by unfold State.executes; decide +kernel,
   by unfold State.executes; decide +kernel,
   by unfold State.executes; decide +kernel,
   by unfold State.executes; decide +kernel,
   by unfold State.executes; decide +kernel,
   by unfold State.executes; decide +kernel⟩

theorem test_wit_DebugPort :
    (up.sec.owner = none ∧ up.rst.grpStarted = false ∧ up.sec.dbg = false) ∧
    (({ up with rst := { up.rst with grpStarted := true }, sec := { up.sec with dbg := true } }).rst.grpStarted = true ∧ ({ up with rst := { up.rst with grpStarted := true }, sec := { up.sec with dbg := true } }).sec.dbg = true) ∧
    ((locked (owned 6 2 []) true).sec.dbg = false ∧ (locked (owned 6 2 []) true).sec.ir = .secchal ∧ (locked (owned 6 2 []) true).sec.owner.isSome = true ∧ (locked (owned 6 2 []) true).blkAccept (blkOf 6 2 []) 6 (decide (blkParam (blkOf 6 2 []) = zeros 32)) (locked (owned 6 2 []) true).ownerKey = true ∧ (locked (owned 6 2 []) true).blkAccept (blkOf 6 3 []) 6 (decide (blkParam (blkOf 6 3 []) = zeros 32)) (locked (owned 6 2 []) true).ownerKey = false) ∧
    ((let u := locked (owned 5 1 []) true; { u with chip := { u.chip with debugHash := sha256 u.ownerKey } }).sec.dbg = false ∧ (let u := locked (owned 5 1 []) true; { u with chip := { u.chip with debugHash := sha256 u.ownerKey } }).sec.ir = .secchal ∧ (let u := locked (owned 5 1 []) true; { u with chip := { u.chip with debugHash := sha256 u.ownerKey } }).sec.consent = true ∧ sha256 (let u := locked (owned 5 1 []) true; { u with chip := { u.chip with debugHash := sha256 u.ownerKey } }).ownerKey = (let u := locked (owned 5 1 []) true; { u with chip := { u.chip with debugHash := sha256 u.ownerKey } }).chip.debugHash ∧ (let u := locked (owned 5 1 []) true; { u with chip := { u.chip with debugHash := sha256 u.ownerKey } }).blkAccept (blkOf 5 1 []) 5 (decide (blkParam (blkOf 5 1 []) = zeros 32)) (let u := locked (owned 5 1 []) true; { u with chip := { u.chip with debugHash := sha256 u.ownerKey } }).ownerKey = true ∧ (let u := locked (owned 5 1 []) true; { u with chip := { u.chip with debugHash := sha256 u.ownerKey } }).sec.signing = none ∧ (let u := locked (owned 5 1 []) true; { u with chip := { u.chip with debugHash := sha256 u.ownerKey } }).sec.due = [] ∧ (∀ n : Fin 64, ((let u := locked (owned 5 1 []) true; { u with chip := { u.chip with debugHash := sha256 u.ownerKey } }).rings[n]).unsealed = false) ∧ sha256 [] ≠ (let u := locked (owned 5 1 []) true; { u with chip := { u.chip with debugHash := sha256 u.ownerKey } }).chip.debugHash) := by
  decide +kernel

theorem test_wit_CorrectableWords :
    ((([] : List UeHit).findSome? UeHit.fifo).orElse (fun _ => ((asking 0).fabRun []).1) = some 63) ∧
    (([UeHit.transient 7 0 1].findSome? UeHit.fifo).orElse (fun _ => ((up.sf ERR_CE_COUNT (2 ^ 32 - 1)).fabRun []).1) = some 0x41) ∧
    (served2.bar2Up = true ∧ (512 : Fin 513).val ≠ 0 ∧ served2.abp.wbuf = [] ∧ served2.abp.lastAux = none ∧ served2.bankServes ((0xFFFE00 : Fin 16777216).val / bankBytes) 6 = true ∧ (0xFFFE00 : Fin 16777216).val % bankBytes + (512 : Fin 513).val ≤ bankBytes) := by
  decide +kernel

theorem test_wit_FabricRegisters :
    ((asking 2).fab.heads[(9 : Fin 12)] = some { tgt := 63, kind := .read, since := 0, age := 2 } ∧ (∀ k : Fin 12, k ≠ 9 → (asking 2).fab.heads[k] = none) ∧ (asking 2).fab.resv = [] ∧ (asking 2).fab.turnRt = none ∧ (asking 2).fab.turnBk = none ∧ (asking 2).fab.busyUntil 63 ≤ (asking 2).fab.cycle ∧ (asking 2).lastGasp = false ∧ 0 < (asking 2).fabWeight 9) ∧
    ((asking 3).fab.heads[(9 : Fin 12)] = some { tgt := 63, kind := .read, since := 0, age := 3 }) ∧
    (2 ≤ (11 : Fin 12).val ∧ up.mbit WDOG_STAT_WEDGED (11 : Fin 12) = false ∧ up.gf WDOG_STAT_WEDGED = 0) ∧
    (up.serving = true ∧ weightsOk false (0xFFFFFFFF#32).toNat = true ∧ weightsOk true 0 = false ∧ weightsOk true (0xFFFFFFFF#32).toNat = false) ∧
    (({ up.sfs [(ARB_LAT_MAX 11, 9), (ARB_LAT_AGED 0, 4)] with fab := { up.fab with cnt := [(5, 6)] } }).serving = true) := by
  decide +kernel

theorem test_wit_Slices :
    ((up.sf SLICE_CKSEQ_SEQ 0xFFFFFFFF).slicesRun = true ∧ (up.sf SLICE_CKSEQ_SEQ 0xFFFFFFFF).time.frozen = false ∧ (up.sf SLICE_CKSEQ_SEQ 0xFFFFFFFF).slc.trial = false) ∧
    (({ up with slc := { up.slc with trial := true } }).slicesRun = true ∧ ({ up with slc := { up.slc with trial := true } }).time.frozen = false ∧ ({ up with slc := { up.slc with trial := true } }).slc.trial = true) ∧
    ((running (copied up) 1).isReady = true ∧ (running (copied up) 1).gf SLICE_STAT_CHECKER ≠ 3 ∧ (running (copied up) 1).gb SLICE_STAT_LOST = false ∧ (running (copied up) 1).slc.sw = none ∧ (running (copied up) 1).slc.cur.isSome = true ∧ (running (copied up) 1).slc.bad = false ∧ (running (copied up) 1).slicesRun = true ∧ ((running (copied up) 1).grp[(1 : Fin 2)]).running = true ∧ ((running (copied up) 1).grp[(1 : Fin 2)]).monitor = false) ∧
    ((switched (swOf 2 (some (true, true)) false)).isReady = true ∧ (switched (swOf 2 (some (true, true)) false)).slc.sw = some (swOf 2 (some (true, true)) false) ∧ (swOf 2 (some (true, true)) false).caddy < 3 ∧ (swOf 2 (some (true, true)) false).loaded = false) ∧
    ((switched (swOf 2 none false)).isReady = true ∧ (switched (swOf 2 none false)).slc.sw = some (swOf 2 none false) ∧ (swOf 2 none false).test = none) ∧
    ((inPhase .startup).rst.phase = .startup ∧ (inPhase .startup).rst.sliceDone = false ∧ (∀ n, n < 3 → (inPhase .startup).mbit FUSE_MISC_SLICE n = false) ∧ (∀ n, n < 3 → (inPhase .startup).sliceFenced n = false)) ∧
    ((switched (swOf 3 none false)).isReady = true ∧ (switched (swOf 3 none false)).slc.sw = some (swOf 3 none false) ∧ (3#3).getLsbD (swOf 3 none false).oldA = true ∧ (3#3).getLsbD (swOf 3 none false).oldC = true) ∧
    ((switched (swOf 3 (some (true, true)) true)).isReady = true ∧ (switched (swOf 3 (some (true, true)) true)).slc.sw = some (swOf 3 (some (true, true)) true) ∧ (swOf 3 (some (true, true)) true).assigned = true ∧ (switched (swOf 3 (some (true, true)) true)).deferW = []) ∧
    ((copied opened).serving = true ∧ (copied opened).sealOpen .pcie = true ∧ (1#32).toNat.testBit 0 = true ∧ (∀ n, n < 3 → (copied opened).sliceFenced n = false ∧ (copied opened).mbit FUSE_MISC_SLICE n = false) ∧ (copied opened).switching = false ∧ (copied opened).gb SLICE_STAT_LOST = false) ∧
    ((opened.smbit FENCE_MISC_SLICE 2 true).serving = true ∧ (opened.smbit FENCE_MISC_SLICE 2 true).sealOpen .pcie = true ∧ (opened.smbit FENCE_MISC_SLICE 2 true).sliceFenced 2 = true) := by
  decide +kernel

theorem test_wit_BanksAndWindows :
    ((up.sfs ((List.range 8).map (fun i => (BANK_OWNER_OWNER (56 + i), 3)))).serving = true ∧ (∀ i : Fin 8, i ≠ 7 → (0x43333333#32).toNat / 16 ^ i.val % 8 = (up.sfs ((List.range 8).map (fun i => (BANK_OWNER_OWNER (56 + i), 3)))).gf (BANK_OWNER_OWNER (8 * (7 : Fin 8).val + i.val))) ∧ (∀ i : Fin 8, i ≠ 7 → (0x63333333#32).toNat / 16 ^ i.val % 8 = (up.sfs ((List.range 8).map (fun i => (BANK_OWNER_OWNER (56 + i), 3)))).gf (BANK_OWNER_OWNER (8 * (7 : Fin 8).val + i.val))) ∧ (0x43333333#32).toNat / 16 ^ (7 : Fin 8).val % 8 ≠ (up.sfs ((List.range 8).map (fun i => (BANK_OWNER_OWNER (56 + i), 3)))).gf (BANK_OWNER_OWNER (8 * (7 : Fin 8).val + (7 : Fin 8).val)) ∧ 5 < (0x63333333#32).toNat / 16 ^ (7 : Fin 8).val % 8 ∧ (up.sfs ((List.range 8).map (fun i => (BANK_OWNER_OWNER (56 + i), 3)))).bankPending 63 = false ∧ (0x43333333#32).toNat / 16 ^ (7 : Fin 8).val % 8 ≤ 5 ∧ (up.sfs ((List.range 8).map (fun i => (BANK_OWNER_OWNER (56 + i), 3)))).bankInWindow 63 = false ∧ (up.sfs ((List.range 8).map (fun i => (BANK_OWNER_OWNER (56 + i), 3)))).mayLeave ((up.sfs ((List.range 8).map (fun i => (BANK_OWNER_OWNER (56 + i), 3)))).gf (BANK_OWNER_OWNER 63)) = true ∧ (up.sfs ((List.range 8).map (fun i => (BANK_OWNER_OWNER (56 + i), 3)))).mayJoin 4 = true) ∧
    ((changing (.owner 63 0 true)).bankPend.find? (fun p => p.bank == (63 : Fin 64).val) = some (.owner 63 0 true)) ∧
    (up.serving = true ∧ (∀ i : Fin 16, i ≠ 15 → (0x80000000#32).toNat / 4 ^ i.val % 4 = up.gf (BANK_PWR_STATE (16 * (3 : Fin 4).val + i.val))) ∧ (0x80000000#32).toNat / 4 ^ (15 : Fin 16).val % 4 ≠ up.gf (BANK_PWR_STATE (16 * (3 : Fin 4).val + (15 : Fin 16).val)) ∧ up.bankPending 63 = false ∧ (0x80000000#32).toNat / 4 ^ (15 : Fin 16).val % 4 ≠ 3 ∧ up.bankInWindow 63 = false ∧ up.mayLeave (up.gf (BANK_OWNER_OWNER 63)) = true) ∧
    ((changing (.power 63 2)).bankPend.find? (fun p => p.bank == (63 : Fin 64).val) = some (.power 63 2)) ∧
    ((up.sfs [(ABP_CFG_EN, 1), (ABP_CFG_WMODE, 1), (ABP_CFG_WIN, 15)]).serving = true ∧ (up.sfs [(ABP_CFG_EN, 1), (ABP_CFG_WMODE, 1), (ABP_CFG_WIN, 15)]).cwInUse (15 : Fin 16).val = true) ∧
    (up.serving = true ∧ up.cwInUse (15 : Fin 16).val = false ∧ (0x8000023F#32).toNat.testBit 31 = true ∧ 64 < (0x8000023F#32).toNat % 64 + (0x8000023F#32).toNat / 256 % 128 ∧ (0x8000013F#32).toNat % 64 + (0x8000013F#32).toNat / 256 % 128 ≤ 64 ∧ (∀ i, i < (0x8000013F#32).toNat / 256 % 128 → ∀ j, j < (0x8000013F#32).toNat / 256 % 128 → up.gf (BANK_OWNER_OWNER ((0x8000013F#32).toNat % 64 + i)) = up.gf (BANK_OWNER_OWNER ((0x8000013F#32).toNat % 64 + j)))) := by
  decide +kernel

theorem test_wit_BackgroundTest :
    (({ up.sf MTEST_CTRL_EN 1 with mtest := { up.mtest with next := 8191 } }).isReady = true ∧ ({ up.sf MTEST_CTRL_EN 1 with mtest := { up.mtest with next := 8191 } }).gb MTEST_CTRL_EN = true ∧ ({ up.sf MTEST_CTRL_EN 1 with mtest := { up.mtest with next := 8191 } }).mtest.active = false ∧ ({ up.sf MTEST_CTRL_EN 1 with mtest := { up.mtest with next := 8191 } }).mtestNext 66 ({ up.sf MTEST_CTRL_EN 1 with mtest := { up.mtest with next := 8191 } }).mtest.next false = some (8191, false) ∧ ({ up.sf MTEST_CTRL_EN 1 with mtest := { up.mtest with next := 8191 } }).bankIdle (8191 / 128) = true) ∧
    ((testing 43).isReady = true ∧ (testing 43).mtest.active = true ∧ (testing 43).bankIdle (testing 43).mtest.bank = true ∧ (testing 43).mtest.step = 43) ∧
    ((testing 39).isReady = true ∧ (testing 39).mtest.active = true ∧ (testing 39).bankIdle (testing 39).mtest.bank = true ∧ (testing 39).mtest.step ≠ 43 ∧ 4 ≤ (testing 39).mtest.step ∧ (testing 39).mtest.step < 40 ∧ (testing 39).mtest.bank < 64) := by
  decide +kernel

theorem test_wit_AuxPortAndBar2 :
    (served2.isReady = true ∧ served2.abp.busy = none ∧ served2.abpLocate (0xF0001#20).toNat = some (62 * 8192, 1) ∧ served2.abp.lastBar2 = none ∧ served2.abp.wbuf = [] ∧ served2.abpLocate (0xE0001#20).toNat = none) ∧
    (({ served2 with abp := { served2.abp with wbuf := [abpEntryOf (62 * 8192) 7 8 0xAABBCCDD] } }).isReady = true ∧ ({ served2 with abp := { served2.abp with wbuf := [abpEntryOf (62 * 8192) 7 8 0xAABBCCDD] } }).abp.busy = none ∧ ({ served2 with abp := { served2.abp with wbuf := [abpEntryOf (62 * 8192) 7 8 0xAABBCCDD] } }).abp.wbuf = [abpEntryOf (62 * 8192) 7 (8#4).toNat (0xAABBCCDD#32).toNat]) ∧
    (({ served2 with abp := { served2.abp with rbuf := some (62 * 8192) } }).isReady = true ∧ ({ served2 with abp := { served2.abp with rbuf := some (62 * 8192) } }).abp.busy = none ∧ ({ served2 with abp := { served2.abp with rbuf := some (62 * 8192) } }).abp.lastBar2 = none ∧ ({ served2 with abp := { served2.abp with rbuf := some (62 * 8192) } }).abpLocate (0xF0001#20).toNat = some (62 * 8192, 1) ∧ ({ served2 with abp := { served2.abp with rbuf := some (62 * 8192) } }).abp.rbuf = some (62 * 8192)) ∧
    (served2.isReady = true ∧ served2.abp.busy = none ∧ served2.abp.lastBar2 = none ∧ served2.abpLocate (0xF0001#20).toNat = some (62 * 8192, 1) ∧ served2.abp.rbuf ≠ some (62 * 8192)) ∧
    (({ served2 with abp := { served2.abp with busy := some auxRead } }).isReady = true ∧ ({ served2 with abp := { served2.abp with busy := some auxRead } }).abp.busy = some auxRead ∧ auxRead.write = false ∧ auxRead.undef = false ∧ auxRead.ecc = .ok ∧ ({ served2 with abp := { served2.abp with busy := some auxRead } }).abp.wbuf = [] ∧ ({ served2 with abp := { served2.abp with busy := some auxRead } }).bankServes (auxRead.word / 8192) 10 = true) ∧
    (served2.bar2Up = true ∧ (1 : Fin 513).val ≠ 0 ∧ served2.abp.wbuf = [] ∧ served2.abp.lastAux = none ∧ served2.bankServes ((0xFC0000 : Fin 16777216).val / bankBytes) 6 = true ∧ (0xFC0000 : Fin 16777216).val % bankBytes + (1 : Fin 513).val ≤ bankBytes ∧ served2.bankServes ((0 : Fin 16777216).val / bankBytes) 6 = false ∧ served2.bankServes ((0xFC0000 : Fin 16777216).val / bankBytes) 7 = true ∧ (0xFC0000 : Fin 16777216).val % bankBytes + ([1, 2, 3] : List Byte).length ≤ bankBytes ∧ ([1, 2, 3] : List Byte) ≠ []) := by
  decide +kernel

theorem test_wit_KettlePowerAndTime :
    ((ketOf (fun k => { k with main := true, pcnt := 0xFFFF, valid := true, offset := 2 ^ 40, writes := [(0x1E1C, 1#32)], prest := 5 })).ket.main = true ∧ (ketOf (fun k => { k with main := true, pcnt := 0xFFFF, valid := true, offset := 2 ^ 40, writes := [(0x1E1C, 1#32)], prest := 5 })).isReady = true ∧ (ketOf (fun k => { k with main := true, pcnt := 0xFFFF, valid := true, offset := 2 ^ 40, writes := [(0x1E1C, 1#32)], prest := 5 })).time.frozen = false) ∧
    (({ ketOf (fun k => { k with main := false }) with time := { up.time with t := 12345678901 * 2 ^ 64 + 3 * 2 ^ 62 } }).ket.main = false) ∧
    (({ opened with time := { up.time with t := 12345678901 * 2 ^ 64 + 3 * 2 ^ 62 } }).isReady = true ∧ ({ opened with time := { up.time with t := 12345678901 * 2 ^ 64 + 3 * 2 ^ 62 } }).time.frozen = false ∧ ({ opened with time := { up.time with t := 12345678901 * 2 ^ 64 + 3 * 2 ^ 62 } }).ket.main = true) := by
  decide +kernel

theorem test_wit_TamperEvents :
    (((ketOf (fun k => { k with swDiff := k.swDiff.set 3 true })).sf (KET_SRC_EN 3) 1).ket.bist = none ∧ ((ketOf (fun k => { k with swDiff := k.swDiff.set 3 true })).sf (KET_SRC_EN 3) 1).gb (KET_SRC_EN (3 : Fin 4).val) = true ∧ ((7#4).getLsbD (3 : Fin 4).val != ((ketOf (fun k => { k with swDiff := k.swDiff.set 3 true })).sf (KET_SRC_EN 3) 1).mbit KET_SWCFG_NORM_OPEN (3 : Fin 4).val) = true ∧ ((ketOf (fun k => { k with swDiff := k.swDiff.set 3 true })).sf (KET_SRC_EN 3) 1).ket.swAbn[(3 : Fin 4)] = false ∧ ((ketOf (fun k => { k with swDiff := k.swDiff.set 3 true })).sf (KET_SRC_EN 3) 1).ket.swDiff[(3 : Fin 4)] = true ∧ ((ketOf (fun k => { k with swDiff := k.swDiff.set 3 true })).sf (KET_SRC_EN 3) 1).gb (KET_SRC_EN (0 : Fin 4).val) = false) ∧
    (((ketOf (fun k => { k with src := k.src.set 7 { count := 0xFFFF } })).sf (KET_SRC_EN 7) 1).ket.bist = none ∧ ((ketOf (fun k => { k with src := k.src.set 7 { count := 0xFFFF } })).sf (KET_SRC_EN 7) 1).gb (KET_SRC_EN (4 + (3 : Fin 4).val)) = true ∧ ((ketOf (fun k => { k with src := k.src.set 7 { count := 0xFFFF } })).sf (KET_SRC_EN 7) 1).loopMode (3 : Fin 4).val = 0 ∧ (((ketOf (fun k => { k with src := k.src.set 7 { count := 0xFFFF } })).sf (KET_SRC_EN 7) 1).ket.loop[(3 : Fin 4)]).episode = false ∧ 16 ≤ (((ketOf (fun k => { k with src := k.src.set 7 { count := 0xFFFF } })).sf (KET_SRC_EN 7) 1).ket.loop[(3 : Fin 4)]).good) ∧
    ((up.sfs [(KET_SRC_EN 8, 1), (KET_SRC_EN 9, 1)]).ket.bist = none ∧ (up.sfs [(KET_SRC_EN 8, 1), (KET_SRC_EN 9, 1)]).gb (KET_SRC_EN 8) = true ∧ (up.sfs [(KET_SRC_EN 8, 1), (KET_SRC_EN 9, 1)]).gb (KET_SRC_EN 9) = true ∧ (-100 : Int) < (up.sfs [(KET_SRC_EN 8, 1), (KET_SRC_EN 9, 1)]).gi KET_ENVCFG_TLO ∧ (up.sfs [(KET_SRC_EN 8, 1), (KET_SRC_EN 9, 1)]).gi KET_ENVCFG_THI < 127 ∧ 1799 + 10 * (up.sfs [(KET_SRC_EN 8, 1), (KET_SRC_EN 9, 1)]).gf KET_ENVCFG_VTH < 1800 + 10 * (up.sfs [(KET_SRC_EN 8, 1), (KET_SRC_EN 9, 1)]).gf KET_ENVCFG_VTH ∧ (up.sfs [(KET_SRC_EN 8, 1), (KET_SRC_EN 9, 1)]).ket.tempOut = false ∧ (up.sfs [(KET_SRC_EN 8, 1), (KET_SRC_EN 9, 1)]).ket.vbatLow = false) := by
  decide +kernel

theorem test_wit_KettlePortAndBist :
    (opened.serving = true ∧ opened.ket.main = true ∧ opened.ket.writes = [] ∧ (opened.ketApply 0x1E14 (0x138#32).toNat).regs ≠ opened.regs ∧ opened.sealOpen .pcie = true ∧ opened.ket.bist = none) ∧
    (up.serving = true ∧ up.ket.main = true ∧ up.ket.writes = [] ∧ (up.ketApply 0x1E14 (0x138#32).toNat).regs ≠ up.regs ∧ up.sealOpen .pcie = false) ∧
    ((ketOf (fun k => { k with writes := [(0x1E1C, 0xFFFFFFFF#32)] })).ket.writes = [(0x1E1C, 0xFFFFFFFF#32)]) ∧
    ((ketOf (fun k => { k with writes := [(0x1E14, 0x100#32)] })).ket.writes = [(0x1E14, 0x100#32)]) ∧
    ((up.sf (KET_SRC_EN 7) 1).serving = true ∧ (up.sf (KET_SRC_EN 7) 1).ket.main = true ∧ (up.sf (KET_SRC_EN 7) 1).ket.writes = [] ∧ (up.sf (KET_SRC_EN 7) 1).gb (KET_SRC_EN (4 + (6#32).toNat % 4)) = false ∧ (up.sf (KET_SRC_EN 7) 1).gb (KET_SRC_EN (4 + (7#32).toNat % 4)) = true ∧ (7#32).toNat.testBit 2 = true) ∧
    ((up.sfs [(KET_SRC_EN 0, 1), (KET_SRC_EN 10, 1)]).serving = true ∧ (up.sfs [(KET_SRC_EN 0, 1), (KET_SRC_EN 10, 1)]).ket.main = true ∧ (up.sfs [(KET_SRC_EN 0, 1), (KET_SRC_EN 10, 1)]).ket.writes = [] ∧ (up.sfs [(KET_SRC_EN 0, 1), (KET_SRC_EN 10, 1)]).ket.bist = none) ∧
    ((ketOf (fun k => { k with bist := some 0xFFF, bistMark := 0x7FF })).ket.bist = some 0xFFF ∧ 0xFFF < 2 ^ 12) := by
  decide +kernel

/-! ### Witnesses of the statements whose hypotheses are structures, and of those over every state -/

/-- The argument bytes of a SET_TIME: mode and value. -/
def timeArgs (mode v : Nat) : List Byte := leBytes 8 mode ++ leBytes 8 v

/-- A SET_TIME that executes under its owner's key, and its block. -/
def setting (mode v nonce : Nat) : State := { owned 3 nonce (timeArgs mode v) with cmd := { up.cmd with cur := some (cmdOf 0x0A (timeArgs mode v)) } }
def setBlk (mode v nonce : Nat) : List Byte := blkOf 3 nonce (timeArgs mode v)

/-- What SetTimeModes assumes of a SET_TIME. -/
def SetWitness (mode v nonce : Nat) : Prop :=
  (setting mode v nonce).executes 0x0A (cmdOf 0x0A (timeArgs mode v)) ∧ (setting mode v nonce).SetTimeReady (setBlk mode v nonce) (cmdOf 0x0A (timeArgs mode v)) ∧
    leAt (cmdOf 0x0A (timeArgs mode v)).entry 0x10 1 = mode

theorem test_wit_SetTimeModes_now : SetWitness 0 (5 * 2 ^ 32) 0 :=
  ⟨by unfold State.executes; decide +kernel, ⟨by decide +kernel, by decide +kernel, by decide +kernel, by decide +kernel, by decide +kernel⟩, by decide +kernel⟩
theorem test_wit_SetTimeModes_at_pps : SetWitness 1 (2 ^ 32) 3 :=
  ⟨by unfold State.executes; decide +kernel, ⟨by decide +kernel, by decide +kernel, by decide +kernel, by decide +kernel, by decide +kernel⟩, by decide +kernel⟩
theorem test_wit_SetTimeModes_offset : SetWitness 2 (2 ^ 64 - 2 ^ 32) 1 :=
  ⟨by unfold State.executes; decide +kernel, ⟨by decide +kernel, by decide +kernel, by decide +kernel, by decide +kernel, by decide +kernel⟩, by decide +kernel⟩
theorem test_wit_SetTimeModes_leap : SetWitness 3 (86400 * 2 ^ 32 + 1) 0 :=
  ⟨by unfold State.executes; decide +kernel, ⟨by decide +kernel, by decide +kernel, by decide +kernel, by decide +kernel, by decide +kernel⟩, by decide +kernel⟩
theorem test_wit_SetTimeModes_no_edge :
    let s : State := { runs up 0x0A [] with time := { up.time with atPps := some 7 } }
    s.executes 0x0A (cmdOf 0x0A []) ∧ s.time.atPps.isSome = true ∧ s.time.frozen = false := by
  unfold State.executes; decide +kernel

theorem test_wit_StartReady : (runs enabled 1 [1]).StartReady 0 :=
  ⟨by decide +kernel, by decide +kernel, by decide +kernel, by decide +kernel, by decide +kernel, by decide +kernel⟩

/-- Device time runs, a command waits, no command waits; a canonical state; a key that is stored. -/
theorem test_wit_steps :
    { up with pending := [.sessionTimeout] }.pending = .sessionTimeout :: [] ∧ up.pending = [] ∧ up.timeRuns = true ∧ State.reset.timeRuns = false ∧
    (up.gb BIL_CAL_CTRL_PVALID = false) ∧ State.reset.Canonical := by
  refine ⟨rfl, rfl, by decide +kernel, by decide +kernel, by decide +kernel, ?_⟩
  unfold State.Canonical; decide +kernel

theorem test_wit_StepsTakeNothingBack :
    let s : State := { up with sec := { up.sec with owner := some (2, 5), stOwner := some (2, 5), zeroised := true, dbg := true, mres := 4 }, pending := [.sessionTimeout] }
    s.sec.owner = some (2, 5) ∧ s.sec.stOwner = some (2, 5) ∧ s.sec.zeroised = true ∧ s.sec.dbg = true ∧ s.sec.reserved ≤ s.sec.mres ∧
      (match core.step s with | .next t => decide (t.sec.owner = some (2, 5)) | _ => false) = true := by
  decide +kernel

theorem test_wit_HighWaterMarkNeverFalls :
    let s : State := { State.reset with ket := { State.reset.ket with valid := true, hwm := 9 } }
    s.ket.valid = true ∧ 0 < s.ket.hwm ∧ State.reset.ket.valid = false := by
  decide +kernel

/-! ### The spec's worked examples -/

/-- *Example — encoding a timestamp* (chapter 0): 2024-01-01T00:00:00.25 UTC, 8766 days after 2000-01-01. -/
def newYear : Nat := 0x2D24BD00

/-- *Example — one CYC header* (chapter 13): its bytes but for CHAIN and HCRC, and its five entries. -/
theorem test_cyc_header :
    let r : Rec := {
      cls := clsCYC, src := 0x20, tStart := (newYear + 30) * 2 ^ 32, tEnd := (newYear + 30) * 2 ^ 32 + 0x33333333, si := 1440000,
      count := 9600, aux := 0xA0001, payload := zeros 224 }
    r.head60 1201 8 (zeros 8) = [0xB1, 4, 0, 0, 3, 8, 0, 0, 0, 0, 0, 0, 0x1E, 0xBD, 0x24, 0x2D, 0x33, 0x33, 0x33, 0x33, 0x1E, 0xBD, 0x24, 0x2D,
      0, 0xF9, 0x15, 0, 0, 0, 0x20, 0, 0x80, 0x25, 0, 0, 0xE0, 0, 0, 0] ++ zeros 8 ++ zeros 8 ++ [1, 0, 0x0A, 0] ∧ r.entries = 5 := by
  decide +kernel

/-- *Example — consuming across the index wrap* (chapter 12): 320 entries are free, and 0x16 is accepted. -/
theorem test_index_wrap :
    let g : Ring := { st := .on, cls := clsAGG, log2 := 9, host := 0xFFFFFF80, dev := 0x40 }
    g.free = 320 ∧ g.dbOk 0x16 = true ∧ g.dbOk 0x41 = false := by
  decide +kernel

/-- *Example — depth with every transient input* (chapter 9): 25.6 ms, and 25.36 ms with the 16 channels at 48 kS/s. -/
theorem test_capture_depth :
    (up.sf CAP_SRC_TR 0xFF).capDepth = 25600 ∧ (up.sfs [(CAP_SRC_TR, 0xFF), (CAP_SRC_SD, 0xFFFF)]).capDepth / 10 = 2536 := by
  decide +kernel

/-- *Example — lending four capture banks to an FPGA* (chapter 16): the changes that begin, and the depth that is left. -/
theorem test_lending_banks :
    (match exec (.bankHandover 5 0xDDDD1111#32) (up.sf CAP_SRC_TR 0xFF) with
      | .next t => decide (t.bankPend = [.owner 44 5 true, .owner 45 5 true, .owner 46 5 true, .owner 47 5 true]) | _ => false) = true ∧
    (up.sfs ((CAP_SRC_TR, 0xFF) :: (List.range 4).map (fun i => (BANK_OWNER_OWNER (44 + i), 5)))).capDepth = 22400 := by
  decide +kernel

/-- *Example — giving the aux bank port and BAR2 more room* (chapter 15): the bounds of masters 6 to 11 under the new weights. -/
theorem test_new_weights :
    (match exec (.arbWeightWrite false 0x0018224C#32) up with
      | .next t => decide ((List.range 6).map (fun i => t.fabBound (6 + i)) = [190, 217, 223, 223, 203, 227]) | _ => false) = true := by
  decide +kernel

/-- *Example — bin selection at 49.8 Hz* (chapter 8): the 5th subgroup, the interharmonics above it, band 2100 Hz, 316.67 Hz. -/
theorem test_bins :
    let dur := 10 * 2 ^ 32 * 10 / 498
    (binsSg 10 5).map Prod.fst = [49, 50, 51] ∧ (binsIsg 10 5).map Prod.fst = [52, 53, 54, 55, 56, 57, 58] ∧
      ((binsBand dur 2100).head?.map Prod.fst, (binsBand dur 2100).getLast?.map Prod.fst) = (some 403, some 442) ∧
      (binsMsv dur (31667 * 256 / 100)).map Prod.fst = [62, 63, 64, 65] := by
  decide +kernel

end Sys2Proof.Tests
end

section
/-! The scope of every command and what no step takes back, from what each command's meaning keeps (Laws/KeepsA to KeepsE). -/

namespace Sys2Proof.Machine

/-- The frame of the dispatch. Each arm cites what the meaning of its command keeps; the `rfl` of an arm is the check that the row
of `scopeOf` names at least the parts and register groups of that lemma's mask. -/
theorem exec_keeps_scope (c : Instr) (s : State) : OutKeeps (scopeMask (scopeOf c).1 (scopeOf c).2) s (exec c s) := by
  cases c with dsimp only [scopeOf]
  | powerOnReset => exact execPowerOnReset_keeps rfl (.refl _ s)
  | porSuppliesSettled => exact execPorSuppliesSettled_keeps rfl (.refl _ s)
  | resetNAssert => exact execResetNAssert_keeps rfl (.refl _ s)
  | perstNAssert => exact execPerstNAssert_keeps rfl (.refl _ s)
  | hotReset => exact execHotReset_keeps rfl (.refl _ s)
  | fullResetSaveDone => exact execFullResetSaveDone_keeps rfl (.refl _ s)
  | resetRelease => exact execResetRelease_keeps rfl (.refl _ s)
  | startupReady => exact execStartupReady_keeps rfl (.refl _ s)
  | pfiRegister => exact execPfiRegister_keeps rfl (.refl _ s)
  | lastGaspSaveDone => exact execLastGaspSaveDone_keeps rfl (.refl _ s)
  | pfiReleaseRestart => exact execPfiReleaseRestart_keeps rfl (.refl _ s)
  | refclkStop => exact execRefclkStop_keeps rfl (.refl _ s)
  | corePllRelock => exact execCorePllRelock_keeps rfl (.refl _ s)
  | decimatorOutputSample => exact execDecimatorOutputSample_keeps rfl (.refl _ s)
  | coreStallGapRecord => exact execCoreStallGapRecord_keeps rfl (.refl _ s)
  | firstSampleDelivered => exact execFirstSampleDelivered_keeps rfl (.refl _ s)
  | stuckModulatorFence => exact execStuckModulatorFence_keeps rfl (.refl _ s)
  | thresholdAssert => exact execThresholdAssert_keeps rfl (.refl _ s)
  | thresholdDeassert => exact execThresholdDeassert_keeps rfl (.refl _ s)
  | thresholdRegWrite => exact execThresholdRegWrite_keeps rfl (.refl _ s)
  | afeChCfgWrite => exact execAfeChCfgWrite_keeps rfl (.refl _ s)
  | afeRefSelWrite => exact execAfeRefSelWrite_keeps rfl (.refl _ s)
  | refReady => exact execRefReady_keeps rfl (.refl _ s)
  | afeCheckGo => exact execAfeCheckGo_keeps rfl (.refl _ s)
  | checkSelectorMove => exact execCheckSelectorMove_keeps rfl (.refl _ s)
  | afeCheckDone => exact execAfeCheckDone_keeps rfl (.refl _ s)
  | profCfgWrite => exact execProfCfgWrite_keeps rfl (.refl _ s)
  | start => exact execStart_keeps rfl (.refl _ s)
  | stop => exact execStop_keeps rfl (.refl _ s)
  | tsarEnable => exact execTsarEnable_keeps rfl (.refl _ s)
  | tsarPairStart => exact execTsarPairStart_keeps rfl (.refl _ s)
  | tsarDisable => exact execTsarDisable_keeps rfl (.refl _ s)
  | tsarPairStop => exact execTsarPairStop_keeps rfl (.refl _ s)
  | transientSample => exact execTransientSample_keeps rfl (.refl _ s)
  | fastevtHoldExpire => exact execFastevtHoldExpire_keeps rfl (.refl _ s)
  | transientAnchorLatch => exact execTransientAnchorLatch_keeps rfl (.refl _ s)
  | tsarMapWrite => exact execTsarMapWrite_keeps rfl (.refl _ s)
  | sarcalGo => exact execSarcalGo_keeps rfl (.refl _ s)
  | sarcalDone => exact execSarcalDone_keeps rfl (.refl _ s)
  | hsarPassTick => exact execHsarPassTick_keeps rfl (.refl _ s)
  | hsarConversionDone => exact execHsarConversionDone_keeps rfl (.refl _ s)
  | hsarFilterPublish => exact execHsarFilterPublish_keeps rfl (.refl _ s)
  | hsarUrgentGo => exact execHsarUrgentGo_keeps rfl (.refl _ s)
  | hsarUrgentDone => exact execHsarUrgentDone_keeps rfl (.refl _ s)
  | hsarSeqWrite => exact execHsarSeqWrite_keeps rfl (.refl _ s)
  | ppsEdge => exact execPpsEdge_keeps rfl (.refl _ s)
  | slewEnd => exact execSlewEnd_keeps rfl (.refl _ s)
  | holdoverEntry => exact execHoldoverEntry_keeps rfl (.refl _ s)
  | setTimeNow => exact execSetTimeNow_keeps rfl (.refl _ s)
  | setTimeAtPps => exact execSetTimeAtPps_keeps rfl (.refl _ s)
  | atPpsTimeout => exact execAtPpsTimeout_keeps rfl (.refl _ s)
  | setTimeOffset => exact execSetTimeOffset_keeps rfl (.refl _ s)
  | setTimeLeap => exact execSetTimeLeap_keeps rfl (.refl _ s)
  | shadowSpanEnd => exact execShadowSpanEnd_keeps rfl (.refl _ s)
  | leapSecond => exact execLeapSecond_keeps rfl (.refl _ s)
  | xoHalt => exact execXoHalt_keeps rfl (.refl _ s)
  | xoResume => exact execXoResume_keeps rfl (.refl _ s)
  | haltTimeReload => exact execHaltTimeReload_keeps rfl (.refl _ s)
  | tpllUnlock => exact execTpllUnlock_keeps rfl (.refl _ s)
  | tpllRelock => exact execTpllRelock_keeps rfl (.refl _ s)
  | cycleBoundary => exact execCycleBoundary_keeps rfl (.refl _ s)
  | halfCycleBoundary => exact execHalfCycleBoundary_keeps rfl (.refl _ s)
  | freq10sClose => exact execFreq10sClose_keeps rfl (.refl _ s)
  | resamplerWindowEnd => exact execResamplerWindowEnd_keeps rfl (.refl _ s)
  | tenMinTick => exact execTenMinTick_keeps rfl (.refl _ s)
  | accumulationStepClose => exact execAccumulationStepClose_keeps rfl (.refl _ s)
  | cycleIntervalClose => exact execCycleIntervalClose_keeps rfl (.refl _ s)
  | statIncrementApply => exact execStatIncrementApply_keeps rfl (.refl _ s)
  | statQueueDrained => exact execStatQueueDrained_keeps rfl (.refl _ s)
  | statDselWrite => exact execStatDselWrite_keeps rfl (.refl _ s)
  | statDescCommit => exact execStatDescCommit_keeps rfl (.refl _ s)
  | snapshotStats => exact execSnapshotStats_keeps rfl (.refl _ s)
  | percentile => exact execPercentile_keeps rfl (.refl _ s)
  | harmRecordComplete => exact execHarmRecordComplete_keeps rfl (.refl _ s)
  | supraRecordComplete => exact execSupraRecordComplete_keeps rfl (.refl _ s)
  | flickerSettleEnd => exact execFlickerSettleEnd_keeps rfl (.refl _ s)
  | transientRecord => exact execTransientRecord_keeps rfl (.refl _ s)
  | tburstRecord => exact execTburstRecord_keeps rfl (.refl _ s)
  | captureArm => exact execCaptureArm_keeps rfl (.refl _ s)
  | captureForce => exact execCaptureForce_keeps rfl (.refl _ s)
  | captureWindowEnd => exact execCaptureWindowEnd_keeps rfl (.refl _ s)
  | captureReadoutDone => exact execCaptureReadoutDone_keeps rfl (.refl _ s)
  | metEselLatch => exact execMetEselLatch_keeps rfl (.refl _ s)
  | energyClear => exact execEnergyClear_keeps rfl (.refl _ s)
  | calConstantWrite => exact execCalConstantWrite_keeps rfl (.refl _ s)
  | calCommit => exact execCalCommit_keeps rfl (.refl _ s)
  | calCommitApply => exact execCalCommitApply_keeps rfl (.refl _ s)
  | cfCfgWrite => exact execCfCfgWrite_keeps rfl (.refl _ s)
  | cfPulse => exact execCfPulse_keeps rfl (.refl _ s)
  | cfPulseEnd => exact execCfPulseEnd_keeps rfl (.refl _ s)
  | tariffClear => exact execTariffClear_keeps rfl (.refl _ s)
  | billingCloseRequest => exact execBillingCloseRequest_keeps rfl (.refl _ s)
  | calendarWordWrite => exact execCalendarWordWrite_keeps rfl (.refl _ s)
  | calendarCommit => exact execCalendarCommit_keeps rfl (.refl _ s)
  | bilSelLatch => exact execBilSelLatch_keeps rfl (.refl _ s)
  | linkTrained => exact execLinkTrained_keeps rfl (.refl _ s)
  | linkDown => exact execLinkDown_keeps rfl (.refl _ s)
  | linkServiceChange => exact execLinkServiceChange_keeps rfl (.refl _ s)
  | registerWrite => exact execRegisterWrite_keeps rfl (.refl _ s)
  | loRegisterRead => exact execLoRegisterRead_keeps rfl (.refl _ s)
  | bar2Read => exact execBar2Read_keeps rfl (.refl _ s)
  | bar2Write => exact execBar2Write_keeps rfl (.refl _ s)
  | ringEnable port => exact execRingEnable_keeps (x0 := port) rfl (.refl _ s)
  | ringEntryReadDone => exact execRingEntryReadDone_keeps rfl (.refl _ s)
  | doorbell => exact execDoorbell_keeps rfl (.refl _ s)
  | writeBack => exact execWriteBack_keeps rfl (.refl _ s)
  | ringInterruptTimer => exact execRingInterruptTimer_keeps rfl (.refl _ s)
  | commandFetch => exact execCommandFetch_keeps rfl (.refl _ s)
  | dmaReadTimeout => exact execDmaReadTimeout_keeps rfl (.refl _ s)
  | nvmRead => exact execNvmRead_keeps rfl (.refl _ s)
  | nvmWrite => exact execNvmWrite_keeps rfl (.refl _ s)
  | sealNow => exact execSealNow_keeps rfl (.refl _ s)
  | openSealSession => exact execOpenSealSession_keeps rfl (.refl _ s)
  | ownerInstall => exact execOwnerInstall_keeps rfl (.refl _ s)
  | closeSealSession => exact execCloseSealSession_keeps rfl (.refl _ s)
  | sessionTimeout => exact execSessionTimeout_keeps rfl (.refl _ s)
  | readCert => exact execReadCert_keeps rfl (.refl _ s)
  | tamperClear => exact execTamperClear_keeps rfl (.refl _ s)
  | fullReset => exact execFullReset_keeps rfl (.refl _ s)
  | spiFrame => exact execSpiFrame_keeps rfl (.refl _ s)
  | mailboxGo => exact execMailboxGo_keeps rfl (.refl _ s)
  | mailboxExecute => exact execMailboxExecute_keeps rfl (.refl _ s)
  | fabricAccessComplete => exact execFabricAccessComplete_keeps rfl (.refl _ s)
  | requestAgeRise => exact execRequestAgeRise_keeps rfl (.refl _ s)
  | masterWedged => exact execMasterWedged_keeps rfl (.refl _ s)
  | watchdogReset => exact execWatchdogReset_keeps rfl (.refl _ s)
  | arbWeightWrite => exact execArbWeightWrite_keeps rfl (.refl _ s)
  | arbCounterClear => exact execArbCounterClear_keeps rfl (.refl _ s)
  | arbLatencyClear => exact execArbLatencyClear_keeps rfl (.refl _ s)
  | sliceCheckpoint => exact execSliceCheckpoint_keeps rfl (.refl _ s)
  | sliceMismatch => exact execSliceMismatch_keeps rfl (.refl _ s)
  | sliceStall => exact execSliceStall_keeps rfl (.refl _ s)
  | caddyLoaded => exact execCaddyLoaded_keeps rfl (.refl _ s)
  | caddyLoadTimeout => exact execCaddyLoadTimeout_keeps rfl (.refl _ s)
  | sliceSelftestDone => exact execSliceSelftestDone_keeps rfl (.refl _ s)
  | switchoverEnd => exact execSwitchoverEnd_keeps rfl (.refl _ s)
  | sliceTrialRequest => exact execSliceTrialRequest_keeps rfl (.refl _ s)
  | bankHandover => exact execBankHandover_keeps rfl (.refl _ s)
  | bankHandoverComplete => exact execBankHandoverComplete_keeps rfl (.refl _ s)
  | bankPowerChange => exact execBankPowerChange_keeps rfl (.refl _ s)
  | bankPowerChangeComplete => exact execBankPowerChangeComplete_keeps rfl (.refl _ s)
  | windowConfigWrite => exact execWindowConfigWrite_keeps rfl (.refl _ s)
  | mtestRegionStart => exact execMtestRegionStart_keeps rfl (.refl _ s)
  | mtestStep => exact execMtestStep_keeps rfl (.refl _ s)
  | mtestRegionTimeout => exact execMtestRegionTimeout_keeps rfl (.refl _ s)
  | abpWrite => exact execAbpWrite_keeps rfl (.refl _ s)
  | abpRead => exact execAbpRead_keeps rfl (.refl _ s)
  | abpAccessComplete => exact execAbpAccessComplete_keeps rfl (.refl _ s)
  | nvmWriteOpDone => exact execNvmWriteOpDone_keeps rfl (.refl _ s)
  | energyCheckpoint => exact execEnergyCheckpoint_keeps rfl (.refl _ s)
  | configSave => exact execConfigSave_keeps rfl (.refl _ s)
  | trngReady => exact execTrngReady_keeps rfl (.refl _ s)
  | trngHealthFail => exact execTrngHealthFail_keeps rfl (.refl _ s)
  | sealAgeTimer => exact execSealAgeTimer_keeps rfl (.refl _ s)
  | sealSigned => exact execSealSigned_keeps rfl (.refl _ s)
  | jtagSecchal => exact execJtagSecchal_keeps rfl (.refl _ s)
  | debugConsent => exact execDebugConsent_keeps rfl (.refl _ s)
  | debugUnlock => exact execDebugUnlock_keeps rfl (.refl _ s)
  | mainPowerLoss => exact execMainPowerLoss_keeps rfl (.refl _ s)
  | mainPowerRestore => exact execMainPowerRestore_keeps rfl (.refl _ s)
  | kettleColdStart => exact execKettleColdStart_keeps rfl (.refl _ s)
  | kettleOffsetRefresh => exact execKettleOffsetRefresh_keeps rfl (.refl _ s)
  | kettleRateMeasure => exact execKettleRateMeasure_keeps rfl (.refl _ s)
  | tamperSwitchSample => exact execTamperSwitchSample_keeps rfl (.refl _ s)
  | tamperLoopSample => exact execTamperLoopSample_keeps rfl (.refl _ s)
  | kettleEnvMeasure => exact execKettleEnvMeasure_keeps rfl (.refl _ s)
  | alarmPulseEnd => exact execAlarmPulseEnd_keeps rfl (.refl _ s)
  | kettleWrite => exact execKettleWrite_keeps rfl (.refl _ s)
  | kettleWriteComplete => exact execKettleWriteComplete_keeps rfl (.refl _ s)
  | kettleAsenseWrite => exact execKettleAsenseWrite_keeps rfl (.refl _ s)
  | kettleBistGo => exact execKettleBistGo_keeps rfl (.refl _ s)
  | kettleBistDone => exact execKettleBistDone_keeps rfl (.refl _ s)
  | intStatClear => exact execIntStatClear_keeps rfl (.refl _ s)
  | intEnWrite => exact execIntEnWrite_keeps rfl (.refl _ s)
  | intSet => exact execIntSet_keeps rfl (.refl _ s)
  | metaPllUnlock => exact execMetaPllUnlock_keeps rfl (.refl _ s)
  | corePllUnlock => exact execCorePllUnlock_keeps rfl (.refl _ s)
  | linkL1Transition => exact execLinkL1Transition_keeps rfl (.refl _ s)
  | fastComparatorWrite => exact execFastComparatorWrite_keeps rfl (.refl _ s)
  | timeCtrlWrite => exact execTimeCtrlWrite_keeps rfl (.refl _ s)
  | msiXMaskChange => exact execMsiXMaskChange_keeps rfl (.refl _ s)
  | jtagInstructionLoad => exact execJtagInstructionLoad_keeps rfl (.refl _ s)

/-- Settles O5: what a command keeps under the mask of its row, read as the lists of that row. -/
theorem commandsStayInScope : Obligations.CommandsStayInScope := by
  intro c s t h
  have hk := exec_keeps_scope c s t h
  exact ⟨hk.within, hk.pending⟩

theorem step_of_pending_nil {s : State} (h : s.pending = []) : step s = .next s.idle := by
  unfold step
  rw [h]

theorem step_of_pending_cons {s : State} {c : Instr} {rest : List Instr} (h : s.pending = c :: rest) :
    step s = exec c { s with pending := rest } := by
  unfold step
  rw [h]

/-- A step keeps, from the state with the rest of the queue, what its command or the idle cycle keeps. -/
theorem step_keeps {s t : State} (h : step s = .next t) : ∃ w, State.Keeps w { s with pending := s.pending.tail } t := by
  cases hp : s.pending with
  | nil =>
    rw [step_of_pending_nil hp] at h
    cases h
    have hs : { s with pending := [] } = s := by rw [← hp]
    rw [List.tail_nil, hs]
    exact ⟨_, State.idle_keeps (Nat.and_self _) (.refl _ s)⟩
  | cons c rest =>
    rw [step_of_pending_cons hp] at h
    exact ⟨_, exec_keeps_scope c _ t h⟩

/-- Settles O6: each clause is one that every command and the idle cycle keep whatever they may change, and none reads the queue. -/
theorem stepsTakeNothingBack : Obligations.StepsTakeNothingBack := by
  intro s t h
  obtain ⟨w, hk⟩ := step_keeps h
  exact ⟨hk.chip, hk.owner, hk.zeroised, hk.dbg, hk.mcount, hk.rcount, hk.retired, hk.out⟩

end Sys2Proof.Machine
end

section
/-! SUPPORT. The course of a pair's samples (R101 to R104, R192): what a sample, a start and an end of production make of it, and that
nothing else that they do touches it; which pairs are ON, and their comparators. -/

namespace Sys2Proof.Machine

/-- A fold whose steps keep a reading of the state keeps it. -/
theorem State.foldl_same {α β : Type} (π : State → β) {f : State → α → State} (h : ∀ u a, π (f u a) = π u) (l : List α) (s : State) :
    π (l.foldl f s) = π s := by
  induction l generalizing s with
  | nil => rfl
  | cons a l ih => rw [List.foldl_cons, ih, h]

/-- Where a pair's samples stand: its next transient index, the code of its last sample, whether it has sampled since the reset. -/
structure Course where
  idx : Nat
  prev : Option Int
  used : Bool

def Tsar.course (x : Tsar) : Course := ⟨x.idx, x.prev, x.used⟩

@[simp] theorem Tsar.course_eq_iff (x y : Tsar) : x.course = y.course ↔ x.idx = y.idx ∧ x.prev = y.prev ∧ x.used = y.used := by
  simp [Tsar.course]

/-- The courses of the eight pairs. -/
def State.courses (s : State) (n : Fin 8) : Course := (s.ts n).course

theorem State.courses_idx (s : State) (n : Fin 8) : (s.courses n).idx = (s.ts n).idx := rfl

/-- What leaves the converters alone leaves every pair's course. -/
theorem State.Keeps.courses {m : Nat} {s t : State} (h : State.Keeps m s t) (hm : m.testBit StatePart.sar.ctorIdx = false) :
    t.courses = s.courses := by
  have hs : t.sar = s.sar := h.part .sar hm
  unfold State.courses State.ts
  rw [hs]

theorem State.setTs_courses (s : State) (n : Fin 8) {f : Tsar → Tsar} (F : Course → Course) (h : ∀ x, (f x).course = F x.course) :
    (s.setTs n f).courses = Function.update s.courses n (F (s.courses n)) := by
  funext k
  by_cases hk : k = n
  · subst hk
    simp [State.courses, State.ts, State.setTs, State.setSar, h]
  · simp [State.courses, State.ts, State.setTs, State.setSar, Function.update_of_ne hk, Vector.getElem_set_ne, Fin.val_ne_of_ne (Ne.symm hk)]

@[simp] theorem State.setSar_courses_same (s : State) {f : Sar → Sar} (h : ∀ x, (f x).pairs = x.pairs) : (s.setSar f).courses = s.courses := by
  unfold State.courses State.ts State.setSar
  simp only [h]

@[simp] theorem State.setTs_courses_same (s : State) (n : Fin 8) {f : Tsar → Tsar} (h : ∀ x, (f x).course = x.course) :
    (s.setTs n f).courses = s.courses := by
  rw [s.setTs_courses n id h, id, Function.update_eq_self]

@[simp] theorem State.ite_courses (c : Prop) [Decidable c] (s t : State) : (if c then s else t).courses = if c then s.courses else t.courses :=
  apply_ite State.courses c s t

@[simp] theorem State.emitL_courses (s : State) (lvl : Nat) (r : Rec) : (s.emitL lvl r).courses = s.courses :=
  (State.emitL_keeps (Nat.and_self _) (.refl _ s)).courses rfl

@[simp] theorem State.emit_courses (s : State) (r : Rec) : (s.emit r).courses = s.courses := s.emitL_courses 0 r

@[simp] theorem State.release_courses (s : State) : s.release.courses = s.courses :=
  (State.release_keeps (Nat.and_self _) (.refl _ s)).courses rfl

@[simp] theorem State.capGap_courses (s : State) (src : Nat) (g : Gap) : (s.capGap src g).courses = s.courses :=
  (State.capGap_keeps (Nat.and_self _) (.refl _ s)).courses rfl

@[simp] theorem State.supOrder_courses (s : State) (n : Fin 8) : (s.supOrder n).courses = s.courses :=
  (State.supOrder_keeps (Nat.and_self _) (.refl _ s)).courses rfl

@[simp] theorem State.tsLost_courses (s : State) (n : Fin 8) (a k : Nat) : (s.tsLost n a k).courses = s.courses :=
  (State.tsLost_keeps (Nat.and_self _) (.refl _ s)).courses rfl

@[simp] theorem State.sfs_courses (s : State) (l : List (Fld × Nat)) : (s.sfs l).courses = s.courses := by
  rw [State.sfs_eq]
  rfl

@[simp] theorem State.sf_courses (s : State) (f : Fld) (v : Nat) : (s.sf f v).courses = s.courses := rfl

@[simp] theorem State.fastPins_courses (s : State) : s.fastPins.courses = s.courses :=
  (State.fastPins_keeps (Nat.and_self _) (.refl _ s)).courses rfl

/-! ### Records, events and supraharmonics of an input leave every course -/

@[simp] theorem State.tsRelease_courses (s : State) (n : Fin 8) (flags : Nat) : (s.tsRelease n flags).courses = s.courses := by
  unfold State.tsRelease
  simp only []
  split
  · rfl
  · simp [State.foldl_same State.courses (fun u (r : Nat × Nat) => u.tsLost_courses n r.1 r.2)]

@[simp] theorem State.tsEvt_courses (s : State) (n : Fin 8) (aux last1 flags : Nat) (payload : List Byte) :
    (s.tsEvt n aux last1 flags payload).courses = s.courses := by
  simp [State.tsEvt]

@[simp] theorem State.tsEval_courses (s : State) (n : Fin 8) (flags : Nat) : (s.tsEval n flags).courses = s.courses :=
  s.tsEvt_courses _ _ _ _ _

@[simp] theorem State.tsBurst_courses (s : State) (n : Fin 8) : (s.tsBurst n).courses = s.courses := by
  simp [State.tsBurst]

@[simp] theorem State.transientTake_courses (s : State) (e : FastEntry) : (s.transientTake e).courses = s.courses := by
  simp [State.transientTake]

@[simp] theorem State.fastDrain_courses (s : State) : s.fastDrain.courses = s.courses :=
  State.foldl_same State.courses State.transientTake_courses _ _

@[simp] theorem State.tsShadowEnd_courses (s : State) (n : Fin 8) (hwm : DevTime) : (s.tsShadowEnd n hwm).courses = s.courses := by
  unfold State.tsShadowEnd
  split
  · rfl
  · simp

@[simp] theorem State.supGapTo_courses (s : State) (n : Fin 8) (lim cause flags : Nat) : (s.supGapTo n lim cause flags).courses = s.courses := by
  simp [State.supGapTo]

@[simp] theorem State.supGapOut_courses (s : State) (n : Fin 8) : (s.supGapOut n).courses = s.courses := by
  unfold State.supGapOut
  split
  · rfl
  · exact s.supGapTo_courses _ _ _ _

@[simp] theorem State.supClose_courses (s : State) (n : Fin 8) (i : Fin 2) (flags : Nat) : (s.supClose n i flags).courses = s.courses := by
  simp [State.supClose]

@[simp] theorem State.supAdd_courses (s : State) (n : Fin 8) (i : Fin 2) (a : DevTime) (si k m flags : Nat) (sums : List Rat) :
    (s.supAdd n i a si k m flags sums).courses = s.courses := by
  simp [State.supAdd]

@[simp] theorem State.supRecord_courses (s : State) (n : Fin 8) (w0 m : Nat) (xs : List (List Rat)) (flags : Nat) :
    (s.supRecord n w0 m xs flags).courses = s.courses := by
  simp [State.supRecord]

@[simp] theorem State.supFree_courses (s : State) (m : Nat) : (s.supFree m).2.courses = s.courses :=
  (State.supFree_keeps (Nat.and_self _) (.refl _ s)).courses rfl

@[simp] theorem State.supRun_courses (s : State) (n : Fin 8) (lim cut : Nat) (xs : Option (List (List Rat))) :
    (s.supRun n lim cut xs).courses = s.courses := by
  unfold State.supRun
  simp only []
  split
  · rfl
  · cases xs <;> simp only [State.supRecord_courses, State.supFree_courses, State.supGapTo_courses]

@[simp] theorem State.supRuns_courses (s : State) (n : Fin 8) (lim cut : Nat) : (s.supRuns n lim cut).courses = s.courses :=
  State.foldl_same State.courses (fun u _ => u.supRun_courses n lim cut none) _ _

@[simp] theorem State.supCut_courses (s : State) (n : Fin 8) (cut cause : Nat) : (s.supCut n cut cause).courses = s.courses := by
  simp [State.supCut]

theorem State.supraOn_courses (s : State) (m : Nat) : ({ s with supraOn := m } : State).courses = s.courses := rfl

@[simp] theorem State.supOff_courses (s : State) (n : Fin 8) : (s.supOff n).courses = s.courses := rfl

@[simp] theorem State.supEnable_courses (s : State) (n : Fin 8) : (s.supEnable n).courses = s.courses := by
  unfold State.supEnable
  simp only []
  split
  · simp
  · split
    · exact (State.supraOn_courses _ _).trans (by simp)
    · simp

@[simp] theorem State.tsPublish_courses (s : State) (n : Fin 8) (i t cause : Nat) : (s.tsPublish n i t cause).courses = s.courses := by
  unfold State.tsPublish
  simp only []
  rw [(State.anchorEmit_keeps (Nat.and_self _) (.refl _ _)).courses rfl]
  simp

@[simp] theorem State.tsRestartGap_courses (s : State) (n : Fin 8) (a b : DevTime) : (s.tsRestartGap n a b).courses = s.courses :=
  (State.tsRestartGap_keeps (Nat.and_self _) (.refl _ s)).courses rfl

@[simp] theorem State.tsFifo_courses (s : State) (n : Fin 8) (i w : Nat) : (s.tsFifo n i w).courses = s.courses := by
  refine s.setTs_courses_same n fun x => ?_
  split <;> rfl

@[simp] theorem State.capSample_courses (s : State) (src i : Nat) (a b : DevTime) (w : Nat) : (s.capSample src i a b w).courses = s.courses :=
  (State.capSample_keeps (Nat.and_self _) (.refl _ s)).courses rfl

@[simp] theorem State.tsIn_courses (s : State) (n : Fin 8) (i w : Nat) : (s.tsIn n i w).courses = s.courses := by
  unfold State.tsIn
  simp only []
  repeat' split
  all_goals simp

@[simp] theorem State.capTrigger_courses (s : State) (k n : Nat) (t : DevTime) : (s.capTrigger k n t).courses = s.courses :=
  (State.capTrigger_keeps (Nat.and_self _) (.refl _ s)).courses rfl

@[simp] theorem State.fastEntry_courses (s : State) (n : Fin 8) (dvdt : Bool) (i : Nat) (code prev : Int) :
    (s.fastEntry n dvdt i code prev).courses = s.courses := by
  simp [State.fastEntry, State.incWrap]

@[simp] theorem State.fastSample_courses (s : State) (n : Fin 8) (i : Nat) (x : Int) : (s.fastSample n i x).courses = s.courses := by
  unfold State.fastSample
  simp only []
  repeat' split
  all_goals simp

/-! ### A sample, a start, an end -/

@[simp] theorem State.timeTo_courses (s : State) (t : Nat) : (s.timeTo t).courses = s.courses :=
  (State.timeTo_keeps (Nat.and_self _) (.refl _ s)).courses rfl

@[simp] theorem State.calReach_courses (s : State) : s.calReach.courses = s.courses :=
  (State.calReach_keeps (Nat.and_self _) (.refl _ s)).courses rfl

@[simp] theorem State.first_courses (s : State) (m : SMap Nat) : ({ s with first := m } : State).courses = s.courses := rfl

@[simp] theorem State.smbit_courses (s : State) (f : Fld) (i : Nat) (b : Bool) : (s.smbit f i b).courses = s.courses := rfl

/-- A sample advances the index of its pair by one, keeps its limited code, and leaves every other pair's course (R101, R103, R192). -/
theorem State.tsSample_courses (s : State) (n : Fin 8) (v : Int) :
    (s.tsSample n v).courses = Function.update s.courses n ⟨(s.courses n).idx + 1, some (clampInt (-2048) 2047 v), true⟩ := by
  unfold State.tsSample
  simp only [State.ite_courses, State.tsFifo_courses, State.tsIn_courses, ite_self]
  rw [State.setTs_courses _ n (fun _ => ⟨(s.courses n).idx + 1, some (clampInt (-2048) 2047 v), true⟩) (fun _ => rfl)]
  congr 1
  simp only [State.fastPins_courses, State.fastSample_courses, State.ite_courses, State.first_courses, State.calReach_courses,
    State.timeTo_courses, ite_self]
  split
  all_goals
    simp only [State.tsPublish_courses, Bool.cond_eq_ite, State.ite_courses]
    simp

theorem State.tsStart_courses (s : State) (n : Fin 8) (t : Nat) (v : Int) :
    (s.tsStart n t v).courses = Function.update s.courses n ⟨(s.courses n).idx + 1, some (clampInt (-2048) 2047 v), true⟩ := by
  unfold State.tsStart
  simp only []
  rw [State.tsSample_courses]
  simp only [State.supOrder_courses, State.ite_courses, State.tsRestartGap_courses, ite_self, State.tsPublish_courses]
  rw [State.setTs_courses _ n (fun c => { c with prev := none }) (fun _ => rfl), Function.update_idem, Function.update_self]
  rfl

/-- The end of a pair's production forgets its last code and keeps its index (R103). -/
theorem State.tsEnd_courses (s : State) (n : Fin 8) (cause : Nat) :
    (s.tsEnd n cause).courses = Function.update s.courses n { s.courses n with prev := none } := by
  unfold State.tsEnd
  simp only [State.release_courses, State.supOrder_courses, State.ite_courses, State.supEnable_courses, State.supOff_courses, ite_self,
    State.smbit_courses]
  rw [State.setTs_courses _ n (fun c => { c with prev := none }) (fun _ => rfl)]
  simp only [State.supGapOut_courses, State.supCut_courses, State.tsEval_courses, State.fastDrain_courses, State.tsRelease_courses,
    State.fastPins_courses, State.sfs_courses, State.tsShadowEnd_courses]

/-! ### The pairs that are ON, and the comparators -/

theorem State.Keeps.tsOn {m : Nat} {s t : State} (h : State.Keeps m s t) (hm : m.testBit (64 + RegGroup.tsarCtrl.ctorIdx) = false) (n : Nat) :
    t.tsOn n = s.tsOn n := by
  unfold State.tsOn State.mbit
  rw [h.reg TSAR_CTRL_ON (by decide) hm]

theorem State.Keeps.gb_fast {m : Nat} {s t : State} (h : State.Keeps m s t) (hm : m.testBit (64 + RegGroup.fast.ctorIdx) = false)
    {f : Fld} (hl : f.lo < 32)
    (ha : 0x6C0 ≤ f.off) (hb : f.off < 0x700) : t.gb f = s.gb f := by
  unfold State.gb
  rw [h.reg f hl (by rw [RegGroup.fast_at ha hb]; exact hm)]

/-- What the start of a pair may change once it is ON. -/
def pairStartScope : Nat :=
  scopeMask (reporting ++ ([.first, .openT, .cap, .stat, .bil, .cals, .sar, .link, .nvm, .devTime] : List StatePart))
    (reportRegs ++ ([.fastPin, .fast, .capStat, .aggStat, .statSeq, .bilStat, .bilCal] : List RegGroup))

theorem State.smbit_tsOn (s : State) (n : Fin 8) (b : Bool) : (s.smbit TSAR_CTRL_ON n b).tsOn n = b := by
  unfold State.tsOn
  rw [State.mbit_smbit _ _ _ _ _ n.isLt, if_pos rfl]

theorem State.tsStart_keeps_on (s : State) (n : Fin 8) (t : Nat) (v : Int) :
    State.Keeps pairStartScope (s.smbit TSAR_CTRL_ON n true) (s.tsStart n t v) := by
  unfold State.tsStart
  simp only []
  refine State.tsSample_keeps rfl (State.supOrder_keeps rfl (.ite (State.tsRestartGap_keeps rfl ?_) ?_))
  all_goals exact State.tsPublish_keeps rfl (State.setTs_keeps rfl (State.setSar_keeps rfl (.refl _ _)))

theorem State.tsStart_tsOn (s : State) (n : Fin 8) (t : Nat) (v : Int) : (s.tsStart n t v).tsOn n = true := by
  rw [(s.tsStart_keeps_on n t v).tsOn rfl, State.smbit_tsOn]

/-- What the end of a pair's production may change once its comparators have deasserted. -/
def pairEndScope : Nat :=
  scopeMask (reporting ++ ([.openT, .cap, .stat, .supraOn, .sar, .free, .link, .nvm] : List StatePart))
    (reportRegs ++ ([.tsarCtrl, .fastPin, .aggStat, .statSeq, .specErr] : List RegGroup))

theorem State.tsEnd_keeps_comparators (s : State) (n : Fin 8) (cause : Nat) :
    State.Keeps pairEndScope ((s.tsShadowEnd n s.ket.hwm).sfs [(FAST_DVDT_LVL_STATE n, 0), (FAST_DVDT_DVDT_STATE n, 0)]) (s.tsEnd n cause) := by
  have hON : regOk pairEndScope TSAR_CTRL_ON := .inl ⟨by decide, rfl⟩
  unfold State.tsEnd
  simp only []
  refine State.release_keeps rfl (State.supOrder_keeps rfl (.ite ?_ (.ite (State.supEnable_keeps rfl ?_) (State.supOff_keeps rfl ?_))))
  all_goals
    exact State.smbit_keeps hON (State.setTs_keeps rfl (State.supGapOut_keeps rfl (State.supCut_keeps rfl (State.tsEval_keeps rfl
      (State.fastDrain_keeps rfl (State.tsRelease_keeps rfl (State.fastPins_keeps rfl (.refl _ _))))))))

theorem State.tsEnd_tsOn (s : State) (n : Fin 8) (cause : Nat) : (s.tsEnd n cause).tsOn n = false := by
  unfold State.tsEnd
  simp only []
  rw [(State.release_keeps (Nat.and_self _) (.refl _ _)).tsOn rfl, (State.supOrder_keeps (Nat.and_self _) (.refl _ _)).tsOn rfl]
  split
  · exact State.smbit_tsOn _ _ _
  · split
    · rw [(State.supEnable_keeps (Nat.and_self _) (.refl _ _)).tsOn rfl, State.smbit_tsOn]
    · rw [(State.supOff_keeps (Nat.and_self _) (.refl _ _)).tsOn rfl, State.smbit_tsOn]

theorem State.tsEnd_comparators (s : State) (n : Fin 8) (cause : Nat) :
    (s.tsEnd n cause).gb (FAST_DVDT_LVL_STATE n) = false ∧ (s.tsEnd n cause).gb (FAST_DVDT_DVDT_STATE n) = false := by
  have ha : 0x6C0 ≤ 0x06C4 + 8 * n.val := by omega
  have hb : 0x06C4 + 8 * n.val < 0x700 := by omega
  have hk := s.tsEnd_keeps_comparators n cause
  have hne : (FAST_DVDT_DVDT_STATE n).key ≠ (FAST_DVDT_LVL_STATE n).key := by
    simp [Fld.key]
  constructor
  · rw [hk.gb_fast rfl (by simp) ha hb, State.sfs_cons, State.sfs_cons, State.sfs_nil, State.gb_sf_ne _ _ hne, State.gb_sf]
    rfl
  · rw [hk.gb_fast rfl (by simp) ha hb, State.sfs_cons, State.sfs_cons, State.sfs_nil, State.gb_sf]
    rfl

theorem State.tsEnd_idx (s : State) (n : Fin 8) (cause : Nat) : ((s.tsEnd n cause).ts n).idx = (s.ts n).idx := by
  rw [← State.courses_idx, State.tsEnd_courses, Function.update_self]
  rfl

/-- Settles O26: the index by what a sample, a start and an end make of the courses; ON and the comparators by what follows their write. -/
theorem pairSamples : Obligations.PairSamples := by
  refine ⟨?_, ?_, ?_, ?_⟩
  · intro s n u x hready hen hon hcal hvalid hlock hhalt
    have hc := congrFun (s.tsStart_courses n u x) n
    rw [Function.update_self] at hc
    refine ⟨s.tsStart n u x, ?_, s.tsStart_tsOn n u x, congrArg Course.idx hc, congrArg Course.used hc⟩
    show execTsarPairStart n u x s = _
    unfold execTsarPairStart
    rw [hready, hen, hon, hcal, hvalid, hlock, hhalt]
    rfl
  · intro s n x hready hon hstop hlock hhalt
    have hc := s.tsSample_courses n x
    have hn := congrFun hc n
    rw [Function.update_self] at hn
    refine ⟨s.tsSample n x, ?_, congrArg Course.idx hn, congrArg Course.prev hn, fun k hk => ?_⟩
    · show execTransientSample n x s = _
      unfold execTransientSample
      rw [hready, hon, decide_eq_true hstop, hlock, hhalt]
      rfl
    · have hk' := congrFun hc k
      rw [Function.update_of_ne hk] at hk'
      exact congrArg Course.idx hk'
  · intro s n u hready hon hhalt
    refine ⟨s.setTs n (fun x => { x with lat := some (x.idx, u) }), ?_, ?_, rfl⟩
    · show execTransientAnchorLatch n u s = _
      unfold execTransientAnchorLatch
      rw [hready, hon, hhalt]
      rfl
    · simp [State.setTs, State.setSar]
  · intro s n hready hon _ hstop
    obtain ⟨hlvl, hdvdt⟩ := s.tsEnd_comparators n gapStopped
    refine ⟨s.tsEnd n gapStopped, ?_, s.tsEnd_tsOn n gapStopped, hlvl, hdvdt, s.tsEnd_idx n gapStopped⟩
    show execTsarPairStop n s = _
    unfold execTsarPairStop
    rw [hready, hon, decide_eq_true hstop]
    rfl

end Sys2Proof.Machine
end

section
/-! SUPPORT. START and STOP of groups (R18, R72, R75, R84, R88, R294): what they fix of a group, and that what follows in the same command
leaves it. -/

namespace Sys2Proof.Machine

/-- What START fixes of a group: that it runs, that it awaits its first sample, its channels; and its next SI. -/
structure GrpRun where
  running : Bool
  await : Option Nat
  mask : Nat
  si : Nat

def Grp.run (g : Grp) : GrpRun := ⟨g.running, g.await, g.mask, g.si⟩

@[simp] theorem Grp.run_eq_iff (x y : Grp) :
    x.run = y.run ↔ x.running = y.running ∧ x.await = y.await ∧ x.mask = y.mask ∧ x.si = y.si := by
  simp [Grp.run]

/-- The runs of both groups. -/
def State.runs (s : State) (g : Fin 2) : GrpRun := (s.grp[g]).run

theorem State.Keeps.runs {m : Nat} {s t : State} (h : State.Keeps m s t) (hm : m.testBit StatePart.grp.ctorIdx = false) : t.runs = s.runs := by
  have hg : t.grp = s.grp := h.part .grp hm
  unfold State.runs
  rw [hg]

theorem State.Keeps.running {m : Nat} {s t : State} (h : State.Keeps m s t) (hm : m.testBit StatePart.grpRun.ctorIdx = false) (g : Fin 2) :
    (t.grp[g]).running = (s.grp[g]).running :=
  congrArg Prod.fst (h.part .grpRun hm g)

theorem State.Keeps.forms {m : Nat} {s t : State} (h : State.Keeps m s t) (hp : m.testBit StatePart.phase.ctorIdx = false)
    (hs : m.testBit (64 + RegGroup.strap.ctorIdx) = false) :
    t.forms = s.forms := by
  have hphase : t.rst.phase = s.rst.phase := h.part .phase hp
  unfold State.forms State.isReady State.spiOnly
  rw [hphase, h.reg STRAP_MODE (by decide) hs]

theorem State.Keeps.grpFused {m : Nat} {s t : State} (h : State.Keeps m s t) (g : Nat) : t.grpFused g = s.grpFused g := by
  unfold State.grpFused
  rw [h.chip]

@[simp] theorem State.setGrp_runs_same (s : State) (g : Fin 2) {f : Grp → Grp} (h : ∀ x, (f x).run = x.run) : (s.setGrp g f).runs = s.runs := by
  funext k
  by_cases hk : k = g
  · subst hk
    unfold State.runs
    rw [State.setGrp_get, h]
  · simp [State.runs, State.setGrp, Vector.getElem_set_ne, Fin.val_ne_of_ne (Ne.symm hk)]

@[simp] theorem State.ite_runs (c : Prop) [Decidable c] (s t : State) : (if c then s else t).runs = if c then s.runs else t.runs :=
  apply_ite State.runs c s t

@[simp] theorem State.sfs_runs (s : State) (l : List (Fld × Nat)) : (s.sfs l).runs = s.runs := by
  rw [State.sfs_eq]
  rfl

@[simp] theorem State.sf_runs (s : State) (f : Fld) (v : Nat) : (s.sf f v).runs = s.runs := rfl

@[simp] theorem State.setChan_runs (s : State) (n : Fin 16) (f : Chan → Chan) : (s.setChan n f).runs = s.runs := rfl

@[simp] theorem State.log_runs (s : State) (kind sub : Nat) (p : List Byte) : (s.log kind sub p).runs = s.runs :=
  (State.log_keeps (Nat.and_self _) (.refl _ s)).runs rfl

@[simp] theorem State.meterStart_runs (s : State) (g : Fin 2) : (s.meterStart g).runs = s.runs := by
  simp [State.meterStart]

@[simp] theorem State.specStart_runs (s : State) (g : Fin 2) : (s.specStart g).runs = s.runs := by
  simp [State.specStart]

@[simp] theorem State.evStart_runs (s : State) (g : Fin 2) : (s.evStart g).runs = s.runs := by
  simp [State.evStart, State.setEv]

@[simp] theorem State.bilSample_runs (s : State) (g : Fin 2) : (s.bilSample g).runs = s.runs := rfl

/-! ### START -/

theorem mem_bitsOf {n v i : Nat} : i ∈ bitsOf n v ↔ i < n ∧ v.testBit i = true := by
  simp [bitsOf]

theorem State.startGrp_prof_getD (s : State) (g : Fin 2) (mask : Nat) {c : Nat} (hc : c < 8) (d : Nat) :
    (s.startGrp g mask).prof.getD c d = s.gf (PROF_CH_CFG_PROFILE (8 * g.val + c)) := by
  simp [State.startGrp, List.getD, hc]

theorem State.StartReady.no_rate {s : State} {g : Fin 2} (h : s.StartReady g) :
    (bitsOf 8 (s.startMask g)).any (fun c => decide (profD ((s.startGrp g (s.startMask g)).prof.getD c 2) ≠ (s.startGrp g (s.startMask g)).d)) =
      false := by
  rw [List.any_eq_false]
  intro c hc
  obtain ⟨hc8, hbit⟩ := mem_bitsOf.1 hc
  rw [State.startGrp_prof_getD _ _ _ hc8, h.rates ⟨c, hc8⟩ hbit]
  simp

theorem State.StartReady.no_align {s : State} {g : Fin 2} (h : s.StartReady g) :
    (fins 8).any (fun (c : Fin 8) => (s.startMask g).testBit c.val &&
      decide (512 < ((s.startGrp g (s.startMask g)).correction c s.met.cal[chanOf g c]).natAbs)) = false := by
  rw [List.any_eq_false]
  intro c _ hc
  obtain ⟨hbit, hlt⟩ := Bool.and_eq_true_iff.1 hc
  exact absurd (h.delays c hbit) (Nat.not_le.2 (of_decide_eq_true hlt))

theorem State.StartReady.no_ref {s : State} {g : Fin 2} (h : s.StartReady g) :
    (!(s.startGrp g (s.startMask g)).monitor && s.refErr g (s.startMask g)) = false := by
  rcases h.reference with hm | hr
  · rw [hm]; rfl
  · rw [hr, Bool.and_false]

theorem State.rst_runs (s : State) (r : RstSt) : ({ s with rst := r } : State).runs = s.runs := rfl

theorem State.setGrp_runs_self (s : State) (g : Fin 2) (f : Grp → Grp) : (s.setGrp g f).runs g = (f s.grp[g]).run := by
  unfold State.runs
  rw [State.setGrp_get]

/-- A ready group starts: it runs with its enabled channels and awaits its first sample, and its SI goes on (R18, R82). -/
theorem State.startOne_of_ready {s : State} {g : Fin 2} (h : s.StartReady g) :
    (s.startOne g).1 = true ∧ (s.startOne g).2.runs g = ⟨true, some 0, s.startMask g, (s.grp[g]).si⟩ := by
  obtain ⟨hfused, hstopped⟩ := h.stopped
  have hchan : ∀ (u : State) (c : Nat) (f : Chan → Chan), (if h : c < 8 then u.setChan (chanOf g ⟨c, h⟩) f else u).runs = u.runs := by
    intro u c f
    split <;> rfl
  unfold State.startOne
  simp only [hfused, hstopped, h.channels, h.no_rate, h.no_align, h.no_ref, h.billing, Bool.false_eq_true, decide_false, Bool.or_self, if_false,
    Bool.not_true, Bool.and_false, Bool.not_false]
  split
  all_goals
    refine ⟨rfl, ?_⟩
    simp only [State.bilSample_runs, State.evStart_runs, State.sfs_runs, State.specStart_runs]
    rw [State.foldl_same State.runs (fun u c => hchan u c _), State.rst_runs, State.setGrp_runs_self]
    rfl

theorem State.startGroups_one (s : State) (g : Fin 2) :
    s.startGroups (2 ^ g.val) = if (s.startOne g).1 then (2 ^ g.val, 0, (s.startOne g).2) else (0, 2 ^ g.val, (s.startOne g).2) := by
  have hfins : fins 2 = [0, 1] := rfl
  unfold State.startGroups
  rw [hfins]
  match g with
  | 0 => simp [show Nat.testBit 1 1 = false from rfl]
  | 1 => simp [show Nat.testBit 2 0 = false from rfl, show Nat.testBit 2 1 = true from rfl]

/-- A START that names one group alone, which is not fused, names no fused group. -/
theorem State.named_not_fused {s : State} {g : Fin 2} (h : s.grpFused g = false) : ((2 ^ g.val).testBit 1 && s.grpFused 1) = false := by
  match g with
  | 0 => rfl
  | 1 => exact (Bool.and_eq_false_iff.2 (.inr h))

theorem State.startOne_rest (s : State) (g : Fin 2) (c : Cmd) (hx : s.executes 1 c) :
    (s.startOne g).2.forms = true ∧ (s.startOne g).2.cmd.cur = some c ∧ ∀ k, (s.startOne g).2.grpFused k = s.grpFused k := by
  have hk := State.startOne_keeps (x1 := g) (Nat.and_self _) (.refl _ s)
  have hcmd : (s.startOne g).2.cmd = s.cmd := hk.part .cmd rfl
  exact ⟨(hk.forms rfl rfl).trans hx.1, hcmd ▸ hx.cur.1, hk.grpFused⟩

theorem State.finishW_runs (s : State) (st d : Nat) (res : List Byte) (first : List Nat) (seals : List (Nat × Nat)) :
    (s.finishW st d res first seals).runs = s.runs :=
  (State.finishW_keeps (Nat.and_self _) (.refl _ s)).runs rfl

theorem execStart_of_executes {s : State} {c : Cmd} (h : s.executes 1 c) : exec .start s = .next (s.doStart c) :=
  congrArg Host.Outcome.next (h.onCmd State.doStart)

theorem execStop_of_executes {s : State} {c : Cmd} (h : s.executes 2 c) : exec .stop s = .next (s.doStop c) :=
  congrArg Host.Outcome.next (h.onCmd State.doStop)

theorem State.doStart_of_held {s : State} {c : Cmd} (h : s.startHeld (leAt c.entry 0x10 1) = true) : s.doStart c = s := by
  unfold State.doStart
  rw [if_pos h]

/-- START of one group, once nothing holds it, is `startOne` and a completion that tells whether it started (Table 12-7). -/
theorem State.doStart_one {s : State} {c : Cmd} {g : Fin 2} (hx : s.executes 1 c) (hm : leAt c.entry 0x10 1 = 2 ^ g.val)
    (hh : s.startHeld (2 ^ g.val) = false) (hf : s.grpFused g = false) :
    (s.doStart c).completed c (if (s.startOne g).1 then 0 else 3) ∧ (s.doStart c).runs = (s.startOne g).2.runs := by
  obtain ⟨hforms, hcur, hfused⟩ := s.startOne_rest g c hx
  have hst : ((2 ^ g.val).testBit 1 && (s.startOne g).2.grpFused 1) = false := by
    rw [hfused]
    exact State.named_not_fused hf
  have hpos : 2 ^ g.val ≠ 0 := by positivity
  unfold State.doStart
  simp only [hm, hh, Bool.false_eq_true, if_false, State.startGroups_one]
  cases (s.startOne g).1 with
  | true =>
    simp only [if_true, hst, Bool.false_eq_true, if_false, ne_eq, not_true_eq_false]
    exact ⟨State.finishW_completed _ c _ _ _ _ _ hforms hcur hx.cur.2, State.finishW_runs ..⟩
  | false =>
    simp only [Bool.false_eq_true, hst, if_false, ne_eq, hpos, not_false_eq_true, if_true]
    exact ⟨State.finishW_completed _ c _ _ _ _ _ hforms hcur hx.cur.2, State.finishW_runs ..⟩

/-! ### STOP -/

theorem State.setGrp_running (s : State) (g k : Fin 2) (f : Grp → Grp) (hf : ∀ x, (f x).running = false) :
    ((s.setGrp g f).grp[k]).running = ((s.grp[k]).running && decide (k ≠ g)) := by
  by_cases hk : k = g
  · subst hk
    rw [State.setGrp_get, hf]
    simp
  · simp [State.setGrp, Vector.getElem_set_ne, Fin.val_ne_of_ne (Ne.symm hk), hk]

theorem State.stopOne_running (s : State) (g k : Fin 2) : ((s.stopOne g).grp[k]).running = ((s.grp[k]).running && decide (k ≠ g)) := by
  unfold State.stopOne
  simp only []
  rw [(State.release_keeps (Nat.and_self _) (.refl _ _)).running rfl, (State.bilOrder_keeps (Nat.and_self _) (.refl _ _)).running rfl,
    (State.f10Open_keeps (Nat.and_self _) (.refl _ _)).running rfl, (State.spcOpen_keeps (Nat.and_self _) (.refl _ _)).running rfl,
    (State.aggOpen_keeps (Nat.and_self _) (.refl _ _)).running rfl, (State.bilOff_keeps (Nat.and_self _) (.refl _ _)).running rfl,
    (State.rsmpStat_keeps (Nat.and_self _) (.refl _ _)).running rfl, (State.evStat_keeps (Nat.and_self _) (.refl _ _)).running rfl]
  rw [State.sfs_eq]
  show (State.grp _)[k].running = _
  rw [State.setGrp_running]
  rw [(State.calApplyN_keeps (Nat.and_self _) (.refl _ _)).running rfl, (State.grpEnd_keeps (Nat.and_self _) (.refl _ _)).running rfl]
  exact fun _ => rfl

theorem State.stopAll_running (l : List (Fin 2)) (s : State) (k : Fin 2) :
    ((l.foldl State.stopOne s).grp[k]).running = ((s.grp[k]).running && decide (k ∉ l)) := by
  induction l generalizing s with
  | nil => simp
  | cons g l ih =>
    rw [List.foldl_cons, ih, State.stopOne_running, Bool.and_assoc]
    simp [List.mem_cons, not_or]

theorem State.stopAll_rest (l : List (Fin 2)) (s : State) :
    (l.foldl State.stopOne s).forms = s.forms ∧ (l.foldl State.stopOne s).cmd = s.cmd ∧
      ∀ k, (l.foldl State.stopOne s).grpFused k = s.grpFused k := by
  have hk := State.Keeps.foldl (l := l) (.refl _ s) fun _ g h => State.stopOne_keeps (x1 := g) (Nat.and_self _) h
  exact ⟨hk.forms rfl rfl, hk.part .cmd rfl, hk.grpFused⟩

/-- The groups that a STOP stops. -/
def State.toStop (s : State) (mask : Nat) : List (Fin 2) := (fins 2).filter (fun (g : Fin 2) => mask.testBit g.val && s.grp[g].running)

theorem State.mem_toStop {s : State} {mask : Nat} {g : Fin 2} : g ∈ s.toStop mask ↔ mask.testBit g.val = true ∧ (s.grp[g]).running = true := by
  simp [State.toStop, fins]

theorem State.doStop_eq {s : State} (c : Cmd) (hs : s.switching = false) :
    s.doStop c =
      let l := s.toStop (leAt c.entry 0x10 1)
      let fused := (leAt c.entry 0x10 1).testBit 1 && (l.foldl State.stopOne s).grpFused 1
      (l.foldl State.stopOne s).finish (if fused then 9 else 0) (maskOf (l.map Fin.val) + (if fused then 8 else 0)) [] := by
  unfold State.doStop
  simp only [hs, Bool.false_eq_true, if_false]
  rfl

theorem State.doStop_of_executes {s : State} {c : Cmd} (hx : s.executes 2 c) (hs : s.switching = false) :
    (s.doStop c).completed c (if (leAt c.entry 0x10 1).testBit 1 && s.grpFused 1 then 9 else 0) ∧
      ∀ g : Fin 2, ((s.doStop c).grp[g]).running = ((s.grp[g]).running && !(leAt c.entry 0x10 1).testBit g) := by
  rw [State.doStop_eq c hs]
  generalize leAt c.entry 0x10 1 = mask
  obtain ⟨hforms, hcmd, hfused⟩ := State.stopAll_rest (s.toStop mask) s
  simp only [hfused]
  refine ⟨State.finish_completed _ c _ _ _ (hforms.trans hx.1) (hcmd ▸ hx.cur.1) hx.cur.2, fun g => ?_⟩
  rw [(State.finish_keeps (Nat.and_self _) (.refl _ _)).running rfl, State.stopAll_running]
  cases hr : (s.grp[g]).running
  · rfl
  · simp only [State.mem_toStop, hr, and_true, decide_not, Bool.decide_eq_true]

/-- Settles O24: START of one group through `startOne`, STOP by induction on the list of the groups that it stops. -/
theorem startAndStop : Obligations.StartAndStop := by
  refine ⟨?_, ?_, ?_, ?_⟩
  · intro s c g hx hm hh hr
    obtain ⟨hok, hruns⟩ := State.startOne_of_ready hr
    obtain ⟨hdone, hsame⟩ := State.doStart_one hx hm hh hr.stopped.1
    rw [hok] at hdone
    rw [← hsame] at hruns
    exact ⟨s.doStart c, execStart_of_executes hx, hdone, congrArg GrpRun.running hruns, congrArg GrpRun.await hruns, congrArg GrpRun.mask hruns,
      congrArg GrpRun.si hruns⟩
  · intro s c hx hh
    rw [execStart_of_executes hx, State.doStart_of_held hh]
  · intro s c g hx hm hh hf hr h0
    obtain ⟨hdone, hsame⟩ := State.doStart_one hx hm hh hf
    have hone : s.startOne g = (false, s) := by
      unfold State.startOne
      simp [h0]
    rw [hone] at hdone hsame
    exact ⟨s.doStart c, execStart_of_executes hx, hdone, (congrArg GrpRun.running (congrFun hsame g)).trans hr⟩
  · intro s c hx hs
    exact ⟨s.doStop c, execStop_of_executes hx, State.doStop_of_executes hx hs⟩

end Sys2Proof.Machine
end

section
/-! SUPPORT. The supplies, the reference and PFI (R43, R52, R75, R118, R407, R409, R516, R517): what a registered PFI does in each
phase, and that the urgent conversion which it requests stays through the last gasp. -/

namespace Sys2Proof.Machine

/-- Settles O10: the three meanings evaluate under their guards; the reference writes one register field. -/
theorem suppliesAndReference : Obligations.SuppliesAndReference := by
  refine ⟨fun s hpor => ?_, fun s hheld => ?_, fun s hout hsar => ?_⟩
  · show execPorSuppliesSettled s = _
    unfold execPorSuppliesSettled
    rw [if_pos hpor]
  · show execPfiReleaseRestart s = _
    unfold execPfiReleaseRestart
    rw [if_pos hheld]
  · have hsettled : s.sarSettled = true := by
      unfold State.sarSettled
      by_cases hstart : s.rst.phase = .startup
      · rw [hsar hstart, Bool.or_true]
      · rw [decide_eq_true hstart, Bool.true_or]
    refine ⟨s.sf AFE_REF_REF_RDY 1, ?_, s.gf_sf _ _, rfl, fun f hf => s.gf_sf_ne _ (Ne.symm hf)⟩
    show execRefReady s = _
    unfold execRefReady
    rw [hout, hsettled]
    rfl

/-! ### The urgent conversion of PFI (R118) -/

/-- A registered PFI changes the converters alone, and its conversion runs or waits. -/
theorem State.hsarPfi_sar (s : State) :
    ∃ x, s.hsarPfi = { s with sar := x } ∧ (x.urg.isSome = true ∨ x.wPfi = some (s.gf HSAR_URG_PFI_INPUT)) := by
  unfold State.hsarPfi State.hsarUrgent
  cases hurg : s.sar.urg with
  | none =>
    simp only [State.setSar, hurg]
    exact ⟨_, rfl, .inl rfl⟩
  | some c =>
    simp only [State.setSar, hurg]
    exact ⟨_, rfl, .inr rfl⟩

/-! ### PFI by phase (R52, R407, R409) -/

theorem State.gaspBegin_rest (s : State) :
    s.gaspBegin.rst = { s.rst with phase := .gasp, gasped := true, cause := 0 } ∧ s.gaspBegin.cmd = {} ∧ s.gaspBegin.sar = s.sar := by
  have hk := State.gaspStart_keeps (x1 := 0) (Nat.and_self _) (.refl _ { s with
    rst := { s.rst with phase := .gasp, gasped := true, cause := 0 }, cmd := {}, sec := { s.sec with signing := none, due := [] } })
  exact ⟨hk.part .rst rfl, hk.part .cmd rfl, hk.part .sar rfl⟩

theorem State.pfi_of_ready {s : State} (h : s.rst.phase = .ready) : s.pfi = s.hsarPfi.gaspBegin := by
  unfold State.pfi
  rw [h]

theorem State.pfi_of_saving {s : State} (h : s.rst.phase = .saving ∨ s.rst.phase = .gasp) : s.pfi = s.hsarPfi := by
  unfold State.pfi
  rcases h with h | h <;> rw [h]

theorem State.pfi_of_reset {s : State} (h : s.rst.phase = .por ∨ s.rst.phase = .inReset ∨ s.rst.phase = .gaspHeld) : s.pfi = s := by
  unfold State.pfi
  rcases h with h | h | h <;> rw [h]

theorem pulse_between (s : State) {ns lo hi : Nat} (h : lo ≤ ns) (h' : ns < hi) : s.pulse ns lo hi = s.drawBool := by
  unfold State.pulse
  rw [if_neg (Nat.not_lt.2 h), if_neg (Nat.not_le.2 h')]

/-- Whether a pulse registers draws from the free values at most. -/
theorem pulse_free (s : State) (ns lo hi : Nat) : ∃ k, (s.pulse ns lo hi).2 = { s with free := k } := by
  unfold State.pulse
  split
  · exact ⟨_, rfl⟩
  · split <;> exact ⟨_, rfl⟩

theorem execPfiRegister_eq (s : State) (ns : Nat) :
    exec (.pfiRegister ns) s = .next (if (s.pulse ns 500 1000).1 then (s.pulse ns 500 1000).2.pfi else (s.pulse ns 500 1000).2) := rfl

theorem execPfiRegister_hit {s : State} {ns : Nat} (h : 1000 ≤ ns) : exec (.pfiRegister ns) s = .next s.pfi := by
  rw [execPfiRegister_eq, pulse_hit s h (by omega)]
  rfl

/-- In operation a registered PFI starts the last gasp, and its urgent conversion runs or waits. -/
theorem State.pfi_ready {s : State} (h : s.rst.phase = .ready) :
    s.pfi.rst = { s.rst with phase := .gasp, gasped := true, cause := 0 } ∧ s.pfi.cmd = {} ∧
      (s.pfi.sar.urg.isSome = true ∨ s.pfi.sar.wPfi = some (s.gf HSAR_URG_PFI_INPUT)) := by
  obtain ⟨x, hx, hurg⟩ := s.hsarPfi_sar
  obtain ⟨hrst, hcmd, hsar⟩ := s.hsarPfi.gaspBegin_rest
  rw [State.pfi_of_ready h]
  rw [hx] at hrst hcmd hsar ⊢
  exact ⟨hrst, hcmd, hsar ▸ hurg⟩

/-- Settles O13: by the length of the pulse, then by the phase. -/
theorem pfiRegisters : Obligations.PfiRegisters := by
  refine ⟨fun s ns hns hready => ?_, fun s ns hns => ?_, fun s ns hlo hhi hready => ?_, fun s ns hreset => ?_, fun s ns hns hsave => ?_⟩
  · obtain ⟨hrst, hcmd, hurg⟩ := State.pfi_ready hready
    exact ⟨s.pfi, execPfiRegister_hit hns, congrArg RstSt.phase hrst, congrArg RstSt.gasped hrst, hcmd, hurg⟩
  · rw [execPfiRegister_eq, pulse_miss s hns]
    rfl
  · refine ⟨_, execPfiRegister_eq s ns, ?_⟩
    rw [pulse_between s hlo hhi]
    unfold State.drawBool
    cases Config.freeBool s.free with
    | true => exact congrArg RstSt.phase (State.pfi_ready (s := { s with free := s.free + 1 }) hready).1
    | false => exact hready
  · obtain ⟨k, hk⟩ := pulse_free s ns 500 1000
    have hpfi : ({ s with free := k } : State).pfi = { s with free := k } := State.pfi_of_reset hreset
    refine ⟨{ s with free := k }, ?_, rfl, rfl, rfl, rfl⟩
    rw [execPfiRegister_eq, hk, hpfi, ite_self]
  · obtain ⟨x, hx, hurg⟩ := s.hsarPfi_sar
    refine ⟨{ s with sar := x }, ?_, rfl, rfl, hurg⟩
    rw [execPfiRegister_hit hns, State.pfi_of_saving hsave, hx]

end Sys2Proof.Machine
end

section
/-! SUPPORT. The release of a reset (R38, R39, R125, R410, R448, R461, R472, R483): what the load of the store and what follows it leave
of the straps, of the seal counter's reservation, of the zeroise demand and of device time. -/

namespace Sys2Proof.Machine

theorem State.Keeps.gb {m : Nat} {s t : State} (h : State.Keeps m s t) (f : Fld) (hlo : f.lo < 32)
    (hm : m.testBit (64 + (regGroup f.off).ctorIdx) = false) : t.gb f = s.gb f := by
  unfold State.gb
  rw [h.reg f hlo hm]

theorem State.Keeps.mres {m : Nat} {s t : State} (h : State.Keeps m s t) (hm : m.testBit StatePart.sec.ctorIdx = false) :
    t.sec.mres = s.sec.mres := by
  have hs : { t.sec with owner := none, dbg := false, zeroised := false, session := none, nonce := [] } =
      { s.sec with owner := none, dbg := false, zeroised := false, session := none, nonce := [] } := h.part .sec hm
  exact (congrArg Sec.mres hs :)

/-- What leaves the Kettle alone may still raise TIME_HWM (R134). -/
theorem State.Keeps.ket {m : Nat} {s t : State} (h : State.Keeps m s t) (hm : m.testBit StatePart.ket.ctorIdx = false) :
    t.ket = { s.ket with hwm := t.ket.hwm } := by
  have hk : ({ t.ket with hwm := 0 } : Kettle) = { s.ket with hwm := 0 } := h.part .ket hm
  exact (congrArg (fun k : Kettle => { k with hwm := t.ket.hwm }) hk :)

theorem State.Keeps.zeroDemand {m : Nat} {s t : State} (h : State.Keeps m s t) (hm : m.testBit StatePart.ket.ctorIdx = false) :
    t.ket.zeroDemand = s.ket.zeroDemand := by
  rw [h.ket hm]

/-! ### The straps (R39) -/

theorem strapSample_values (s : State) (x : Straps) :
    (s.strapSample x).gf STRAP_MODE = x.mode.val ∧ (s.strapSample x).gb STRAP_IOV0 = x.iov0 ∧ (s.strapSample x).gb STRAP_IOV1 = x.iov1 ∧
      (s.strapSample x).gb STRAP_CORECLK_SEL = x.coreclkSel ∧ (s.strapSample x).gb STRAP_MODE_RSVD = decide (x.mode.val = 3) := by
  have hbit : ∀ b : Bool, decide (b2n b % 2 ^ 1 = 1) = b := by decide
  have hmode : ∀ m : Fin 4, m.val % 2 ^ 2 = m.val ∧ (m == 3) = decide (m.val = 3) := by decide
  unfold State.gb
  rw [strapSample_gf s x 0 STRAP_MODE _ rfl (by simp [strapList]; decide),
    strapSample_gf s x 1 STRAP_IOV0 _ rfl (by simp [strapList]; decide),
    strapSample_gf s x 2 STRAP_IOV1 _ rfl (by simp [strapList]; decide),
    strapSample_gf s x 3 STRAP_CORECLK_SEL _ rfl (by simp [strapList]; decide),
    strapSample_gf s x 4 STRAP_MODE_RSVD _ rfl (by simp [strapList]; decide)]
  exact ⟨(hmode x.mode).1, hbit _, hbit _, hbit _, (hbit _).trans (hmode x.mode).2⟩

/-! ### Device time after the load (R125, R461) -/

theorem stepNeeded_reloaded (s : State) : s.stepNeeded.gb TIME_STATUS_RELOADED = s.gb TIME_STATUS_RELOADED := by
  unfold State.stepNeeded
  rw [(State.raise_keeps (Nat.and_self _) (.refl _ _) (.inl (by decide))).gb TIME_STATUS_RELOADED (by decide) rfl,
    State.gb_sf_ne _ _ (by decide)]
  rfl

theorem timeLoad_reloaded (s : State) (l : Loaded) : (s.timeLoad l).gb TIME_STATUS_RELOADED = true := by
  unfold State.timeLoad
  simp only []
  rw [(State.mirror_keeps (Nat.and_self _) (.refl _ _)).gb TIME_STATUS_RELOADED (by decide) rfl]
  have hset : ∀ (u : State) (n : Nat), (u.sfs [(TIME_STATUS_RELOADED, 1), (TIME_STATUS_SHADOW, n)]).gb TIME_STATUS_RELOADED = true := fun u n => by
    unfold State.gb
    rw [State.gf_sfs_get _ _ 0 TIME_STATUS_RELOADED _ rfl (by simp; decide)]
    rfl
  split
  · rw [stepNeeded_reloaded, hset]
  · rw [hset]

/-! ### What follows the load (R483) -/

theorem startTests_busy (s : State) : s.startTests.gb AFE_CHK_STATUS_BUSY = true ∧ s.startTests.gb SAR_CAL_STATUS_BUSY = true := by
  unfold State.startTests State.gb
  constructor
  · rw [State.gf_sfs_get _ _ 0 AFE_CHK_STATUS_BUSY _ rfl (by simp; decide)]
    rfl
  · rw [State.gf_sfs_get _ _ 1 SAR_CAL_STATUS_BUSY _ rfl (by simp)]
    rfl

/-- After the load device time is that of `timeLoad`, RELOADED stands, the tests run, and no zeroise demand arises. -/
theorem afterLoad_outcome (s : State) (l : Loaded) :
    (s.ket.valid = true → (s.afterLoad l).time.t = s.ket.time * 2 ^ 32) ∧ (s.afterLoad l).ket.zeroDemand = s.ket.zeroDemand ∧
      (s.afterLoad l).gb TIME_STATUS_RELOADED = true ∧ (s.afterLoad l).gb AFE_CHK_STATUS_BUSY = true ∧
      (s.afterLoad l).gb SAR_CAL_STATUS_BUSY = true := by
  obtain ⟨u, v, heq, hregs, htime, hket, huv⟩ := afterLoad_tail s l
  have htests := State.startTests_keeps (Nat.and_self _) (.refl _ v)
  have hcopy := State.ketCopy_keeps (Nat.and_self _) (.refl _ v.startTests)
  have hseries : (s.ringSeries l).ket = s.ket := by
    unfold State.ringSeries
    split <;> rfl
  obtain ⟨hchk, hcal⟩ := startTests_busy v
  rw [heq]
  refine ⟨fun hvalid => ?_, ?_, ?_, ?_, ?_⟩
  · have ht : v.startTests.ketCopy.time.t = u.time.t :=
      (hcopy.part .devTime rfl : _ = _).trans ((htests.part .devTime rfl : _ = _).trans (huv.part .devTime rfl))
    rw [ht, htime, timeLoad_time _ _ (hseries ▸ hvalid), hseries]
  · rw [hcopy.zeroDemand rfl, htests.zeroDemand rfl, huv.zeroDemand rfl, hket]
    exact (timeLoad_zeroDemand _ l).trans (congrArg Kettle.zeroDemand hseries)
  · rw [hcopy.gb TIME_STATUS_RELOADED (by decide) rfl, htests.gb TIME_STATUS_RELOADED (by decide) rfl,
      huv.gb TIME_STATUS_RELOADED (by decide) rfl]
    unfold State.gb State.gf
    rw [hregs]
    exact timeLoad_reloaded _ l
  · rw [hcopy.gb AFE_CHK_STATUS_BUSY (by decide) rfl, hchk]
  · rw [hcopy.gb SAR_CAL_STATUS_BUSY (by decide) rfl, hcal]

/-! ### The release -/

/-- With TESTEN low the state that has noted it is released. -/
theorem execResetRelease_of_low {s : State} {x : Straps} (h : s.rst.phase = .inReset) (hx : x.testen = false) :
    ∃ u : State, exec (.resetRelease x) s = .next (u.releaseReset x) ∧ u.sec = s.sec ∧ u.ket = s.ket := by
  refine ⟨{ s with rst := { s.rst with testen := false } }, ?_, rfl, rfl⟩
  show execResetRelease x s = _
  unfold execResetRelease
  simp only [h, hx, if_true, Bool.false_eq_true, if_false]

theorem execResetRelease_of_high {s : State} {x : Straps} (h : s.rst.phase = .inReset) (hx : x.testen = true) :
    exec (.resetRelease x) s = .next { s with rst := { s.rst with testen := true } } := by
  show execResetRelease x s = _
  unfold execResetRelease
  simp only [h, hx, if_true]

/-- The release shows the straps as they were sampled. -/
theorem releaseReset_strap (s : State) (x : Straps) (f : Fld) (hlo : f.lo < 32) (ho : f.off = 0x58) :
    (s.releaseReset x).gf f = (s.strapSample x).gf f := by
  obtain ⟨u, hu, -, hregs, -⟩ := release_of s x
  have hgrp : regGroup f.off = .strap := by rw [ho]; rfl
  rw [hu, (State.storeSeals_keeps (Nat.and_self _) (.refl _ _)).reg f hlo (by rw [hgrp]; rfl),
    (State.afterLoad_keeps (Nat.and_self _) (.refl _ _)).reg f hlo (by rw [hgrp]; rfl), storeLoad_gf u f hlo ho, hregs]

theorem releaseReset_straps (s : State) (x : Straps) :
    (s.releaseReset x).gf STRAP_MODE = x.mode.val ∧ (s.releaseReset x).gb STRAP_IOV0 = x.iov0 ∧ (s.releaseReset x).gb STRAP_IOV1 = x.iov1 ∧
      (s.releaseReset x).gb STRAP_CORECLK_SEL = x.coreclkSel ∧ (s.releaseReset x).gb STRAP_MODE_RSVD = decide (x.mode.val = 3) := by
  have h := strapSample_values s x
  unfold State.gb at h ⊢
  rwa [releaseReset_strap s x STRAP_MODE (by decide) rfl, releaseReset_strap s x STRAP_IOV0 (by decide) rfl,
    releaseReset_strap s x STRAP_IOV1 (by decide) rfl, releaseReset_strap s x STRAP_CORECLK_SEL (by decide) rfl,
    releaseReset_strap s x STRAP_MODE_RSVD (by decide) rfl]

/-- The release leads into the start-up: the next reservation of MCOUNT is asked for, a zeroise demand is carried out, device time is that
of the Kettle where it is valid, and the check of the channels and SARCAL run. -/
theorem releaseReset_outcome (s : State) (x : Straps) :
    (s.releaseReset x).rst.phase = .startup ∧ (s.releaseReset x).sec.mres = s.sec.mres ∧ (s.releaseReset x).sec.mdue = true ∧
      (s.ket.zeroDemand = true → (s.releaseReset x).sec.zeroised = true ∧ (s.releaseReset x).ket.zeroDemand = false) ∧
      (s.ket.valid = true → (s.releaseReset x).time.t = s.ket.time * 2 ^ 32) ∧ (s.releaseReset x).gb TIME_STATUS_RELOADED = true ∧
      (s.releaseReset x).gb AFE_CHK_STATUS_BUSY = true ∧ (s.releaseReset x).gb SAR_CAL_STATUS_BUSY = true := by
  obtain ⟨u, hu, hphase, -, hmres, -, hzeroised, hzero, hvalid, htime, -⟩ := release_of s x
  have hload := State.storeLoad_keeps (Nat.and_self _) (.refl _ u)
  rw [hu]
  generalize u.storeLoad = p at hload
  obtain ⟨l, w⟩ := p
  have hafter := State.afterLoad_keeps (x1 := l) (Nat.and_self _) (.refl _ w)
  obtain ⟨htime', hzero', hrel, hchk, hcal⟩ := afterLoad_outcome w l
  generalize w.afterLoad l = t at hafter htime' hzero' hrel hchk hcal
  obtain ⟨v, hv⟩ := storeSeals_rest t
  rw [hv]
  have hket := hload.ket rfl
  refine ⟨?_, ?_, rfl, fun hz => ⟨hafter.zeroised (hload.zeroised (hzeroised hz)), ?_⟩, fun hval => ?_, hrel, hchk, hcal⟩
  · exact (hafter.part .phase rfl : _ = _).trans ((hload.part .phase rfl : _ = _).trans hphase)
  · exact (hafter.mres rfl).trans ((hload.mres rfl).trans hmres)
  · exact hzero'.trans ((hload.zeroDemand rfl).trans hzero)
  · have hvalid' : w.ket.valid = true := (congrArg Kettle.valid hket).trans (hvalid.trans hval)
    have htimew : w.ket.time = s.ket.time := (congrArg Kettle.time hket).trans htime
    rw [htimew] at htime'
    exact htime' hvalid'

/-- Settles O11: the release is the sampling of the straps, the zeroise demand, the load of the store and what follows it; each value is
set by one of them and kept by the later ones. -/
theorem releaseStartsUp : Obligations.ReleaseStartsUp := by
  refine ⟨fun s x hreset hlow => ?_, fun s x hreset hhigh => execResetRelease_of_high hreset hhigh⟩
  obtain ⟨u, hu, hsec, hket⟩ := execResetRelease_of_low hreset hlow
  obtain ⟨hmode, hiov0, hiov1, hclk, hrsvd⟩ := releaseReset_straps u x
  obtain ⟨hphase, hrest⟩ := releaseReset_outcome u x
  rw [hsec, hket] at hrest
  exact ⟨u.releaseReset x, hu, hphase, hmode, hiov0, hiov1, hclk, hrsvd, hrest⟩

end Sys2Proof.Machine
end

section
/-! SUPPORT. Writes to registers with sealed fields (R515) and what they make of the front end: AFE_REF and AFE_CHn_CFG (R62, R63, R75),
PROF_CHn_CFG (R83) and the word that reads back from it. -/

namespace Sys2Proof.Machine

/-! ### Writes to registers with sealed fields (R515) -/

theorem State.sealList_regs (s : State) (p : Port) (off : Nat) (v : Word) (ctx : Nat) : (s.sealList p off v ctx).regs = s.regs := by
  unfold State.sealList
  split <;> rfl

/-- What the LOG record of a refused sealed write may change. -/
def sealRejectScope : Nat :=
  scopeMask (reporting ++ ([.stat, .link, .nvm] : List StatePart)) (reportRegs ++ ([.aggStat, .statSeq] : List RegGroup))

theorem State.cfgReject_keeps_scope (s : State) (p : Port) (off : Nat) (v : Word) :
    State.Keeps sealRejectScope s (s.cfgReject p off v) :=
  State.cfgReject_keeps rfl (.refl _ s)

section
variable {s : State} {p : Port} {off : Nat} {v : Word} {ctx : Nat} {plain : State → State} {inside : State → Bool × State}

theorem State.rws_plain : s.rws p off v ctx false plain inside = plain s := rfl

theorem State.rws_outside (h : s.sealOpen p = false) : s.rws p off v ctx true plain inside = s.cfgReject p off v := by
  simp [State.rws, h]

/-- A write that reaches a sealed field in a session of its port leaves the registers as its handling does, listed or not. -/
theorem State.rws_inside_regs (h : s.sealOpen p = true) : (s.rws p off v ctx true plain inside).regs = (inside s).2.regs := by
  simp only [State.rws, h, Bool.not_true, Bool.false_eq_true, if_false, if_true]
  split
  · exact State.sealList_regs _ p off v ctx
  · rfl

theorem State.rws_inside_gf (h : s.sealOpen p = true) (f : Fld) : (s.rws p off v ctx true plain inside).gf f = (inside s).2.gf f := by
  unfold State.gf
  rw [State.rws_inside_regs h]

theorem State.rws_inside_gb (h : s.sealOpen p = true) (f : Fld) : (s.rws p off v ctx true plain inside).gb f = (inside s).2.gb f := by
  unfold State.gb
  rw [State.rws_inside_gf h]

/-- Outside a session a field stays that the write's plain fields leave alone: a write that reaches a sealed one is only logged. -/
theorem State.rws_outside_gf {reaches : Bool} {f : Fld} (h : s.sealOpen p = false) (hlo : f.lo < 32)
    (hm : sealRejectScope.testBit (64 + (regGroup f.off).ctorIdx) = false) (hplain : (plain s).gf f = s.gf f) :
    (s.rws p off v ctx reaches plain inside).gf f = s.gf f := by
  cases reaches with
  | false => exact hplain
  | true => rw [State.rws_outside h, (s.cfgReject_keeps_scope p off v).reg f hlo hm]

end

/-! ### AFE_CHn_CFG (R62, R63, R77) -/

/-- The gain code that a write of AFE_CHn_CFG asks for: a voltage channel has none. -/
def afeGain (n : Nat) (v : Word) : Nat := if isVoltage n then 0 else v.toNat / 2 % 8

theorem afeGain_lt {n : Nat} {v : Word} (h : isVoltage n = false → v.toNat / 2 % 8 < 6) : afeGain n v < 6 := by
  unfold afeGain
  split
  · decide
  · next hn => exact h (Bool.eq_false_iff.mpr hn)

theorem State.chRuns_of_stopped {s : State} {n : Nat} (h : (s.grp[grpOf n]).running = false) : s.chRuns n = false := by
  unfold State.chRuns
  rw [h, Bool.false_and]

/-- In a session a write of AFE_CHn_CFG of a present channel of a stopped group sets its four fields; one that changes no sealed field
sets EN, and finds the others as it asks for them. -/
theorem State.wrAfeCh_inside {s : State} {p : Port} {n : Nat} {v : Word} (ho : s.sealOpen p = true) (hpres : s.chPresent n = true)
    (hrun : (s.grp[grpOf n]).running = false) (hvolt : isVoltage n = true → v.toNat / 16 % 4 = 0)
    (hcur : isVoltage n = false → v.toNat / 2 % 8 < 6) :
    (s.wrAfeCh p n v).gf (AFE_CH_CFG_EN n) = v.toNat % 2 ∧ (s.wrAfeCh p n v).gf (AFE_CH_CFG_GAIN n) = afeGain n v ∧
      (s.wrAfeCh p n v).gf (AFE_CH_CFG_SENSOR n) = v.toNat / 16 % 4 ∧ (s.wrAfeCh p n v).gf (AFE_CH_CFG_INTEG_FNOM n) = v.toNat / 64 % 2 := by
  have hgain : afeGain n v < 6 := afeGain_lt hcur
  have hvalid : (decide (6 ≤ afeGain n v) || (isVoltage n && decide (v.toNat / 16 % 4 ≠ 0))) = false := by
    cases hn : isVoltage n <;> simp [hgain, hn, hvolt]
  unfold State.wrAfeCh
  simp only [hpres, hrun, Bool.not_true, Bool.false_eq_true, if_false, Bool.and_false, Bool.or_false]
  rw [← afeGain]
  simp only [hvalid, Bool.false_eq_true, if_false]
  cases hreach : (decide (afeGain n v ≠ s.gf (AFE_CH_CFG_GAIN n)) || decide (v.toNat / 16 % 4 ≠ s.gf (AFE_CH_CFG_SENSOR n)) ||
      decide (v.toNat / 64 % 2 ≠ s.gf (AFE_CH_CFG_INTEG_FNOM n))) with
  | false =>
    simp only [ne_eq, decide_not, Bool.or_eq_false_iff, Bool.not_eq_false', decide_eq_true_eq] at hreach
    obtain ⟨⟨hg, hs⟩, hf⟩ := hreach
    rw [State.rws_plain, s.gf_sf, s.gf_sf_ne _ (by simp [Fld.key]), s.gf_sf_ne _ (by simp [Fld.key]), s.gf_sf_ne _ (by simp [Fld.key])]
    exact ⟨Nat.mod_mod _ _, hg.symm, hs.symm, hf.symm⟩
  | true =>
    simp only [State.rws_inside_gf ho, State.chRuns_of_stopped hrun, Bool.or_false, Bool.false_eq_true, if_false]
    rw [s.gf_sfs_get _ 0 _ _ rfl (by simp [Fld.key]), s.gf_sfs_get _ 1 _ _ rfl (by simp [Fld.key]),
      s.gf_sfs_get _ 2 _ _ rfl (by simp [Fld.key]), s.gf_sfs_get _ 3 _ _ rfl rfl]
    exact ⟨Nat.mod_mod _ _, Nat.mod_eq_of_lt (Nat.lt_trans hgain (show 6 < 2 ^ 3 by decide)), Nat.mod_mod _ _, Nat.mod_mod _ _⟩

/-- Outside a session a write of AFE_CHn_CFG leaves every field of the register but EN alone. -/
theorem State.wrAfeCh_outside {s : State} {p : Port} {n : Nat} {v : Word} (hn : n < 16) (ho : s.sealOpen p = false) {f : Fld}
    (hoff : f.off = 0x210 + 4 * n) (hlo : f.lo < 32) (hen : f.lo ≠ 0) : (s.wrAfeCh p n v).gf f = s.gf f := by
  have hm : sealRejectScope.testBit (64 + (regGroup f.off).ctorIdx) = false := by
    rw [RegGroup.afeCfg_at (by omega) (by omega)]
    rfl
  unfold State.wrAfeCh
  simp only []
  split
  · rfl
  · refine State.rws_outside_gf ho hlo hm ?_
    split
    · exact s.gf_sf_ne _ (Fld.key_ne (by decide) hlo (.inl (by rw [hoff]; dsimp only; omega)))
    · exact s.gf_sf_ne _ (Fld.key_ne (by dsimp only; decide) hlo (.inr (Ne.symm hen)))

/-! ### AFE_REF (R63, R75) -/

/-- In a session a change of SEL while no channel runs is made, and the reference has to settle again. -/
theorem State.wrAfeRef_inside {s : State} {p : Port} {v : Word} (ho : s.sealOpen p = true) (hrun : (List.range 16).any s.chRuns = false)
    (hne : v.toNat % 2 ≠ s.gf AFE_REF_SEL) :
    (s.wrAfeRef p v).gf AFE_REF_SEL = v.toNat % 2 ∧ (s.wrAfeRef p v).gb AFE_REF_REF_RDY = false := by
  unfold State.wrAfeRef
  simp only [decide_eq_true hne, State.rws_inside_gf ho, State.rws_inside_gb ho, hrun, Bool.false_eq_true, if_false]
  constructor
  · rw [s.gf_sfs_get _ 0 AFE_REF_SEL _ rfl rfl]
    exact Nat.mod_mod _ _
  · unfold State.gb
    rw [s.gf_sfs_get _ 1 AFE_REF_REF_RDY _ rfl rfl]
    rfl

theorem State.wrAfeRef_outside {s : State} {p : Port} {v : Word} (ho : s.sealOpen p = false) :
    (s.wrAfeRef p v).gf AFE_REF_SEL = s.gf AFE_REF_SEL :=
  State.rws_outside_gf ho (by decide) rfl rfl

/-! ### PROF_CHn_CFG (R81, R83, R99) -/

/-- In a session a change to another profile of the table is made while the channel's group does not run. -/
theorem State.wrProf_stopped {s : State} {p : Port} {n : Nat} {v : Word} (ho : s.sealOpen p = true) (hpres : s.chPresent n = true)
    (hrun : (s.grp[grpOf n]).running = false) (hok : profOk (v.toNat % 16) = true) (hne : v.toNat % 16 ≠ s.gf (PROF_CH_CFG_PROFILE n)) :
    (s.wrProf p n v).gf (PROF_CH_CFG_PROFILE n) = v.toNat % 16 := by
  unfold State.wrProf
  simp only [hpres, Bool.not_true, Bool.false_eq_true, if_false, decide_eq_true hne, State.rws_inside_gf ho, hrun, hok, Bool.or_false,
    State.gf_sf]
  exact Nat.mod_mod _ _

/-- In a session a change of the profile is refused while the channel's group runs. -/
theorem State.wrProf_running {s : State} {p : Port} {n : Nat} {v : Word} (hn : n < 16) (ho : s.sealOpen p = true)
    (hpres : s.chPresent n = true) (hrun : (s.grp[grpOf n]).running = true) (hne : v.toNat % 16 ≠ s.gf (PROF_CH_CFG_PROFILE n)) :
    (s.wrProf p n v).gf (PROF_CH_CFG_PROFILE n) = s.gf (PROF_CH_CFG_PROFILE n) ∧ (s.wrProf p n v).gb PROF_ERR_CFG_RUNNING = true := by
  have hrunning : (PROF_ERR_CFG_RUNNING).key ≠ (PROF_CH_CFG_PROFILE n).key :=
    Fld.key_ne (by decide) (by dsimp only; decide) (.inl (by dsimp only; omega))
  have hinvalid : (PROF_ERR_CFG_INVALID).key ≠ (PROF_CH_CFG_PROFILE n).key :=
    Fld.key_ne (by decide) (by dsimp only; decide) (.inl (by dsimp only; omega))
  unfold State.wrProf
  simp only [hpres, Bool.not_true, Bool.false_eq_true, if_false, decide_eq_true hne, State.rws_inside_gf ho, State.rws_inside_gb ho, hrun,
    Bool.true_or, if_true]
  split
  · rw [State.gf_sf_ne _ _ hinvalid, s.gf_sf_ne _ hrunning, State.gb_sf_ne _ _ (by decide), State.gb_sf]
    exact ⟨rfl, rfl⟩
  · rw [s.gf_sf_ne _ hrunning, State.gb_sf]
    exact ⟨rfl, rfl⟩

theorem State.wrProf_outside {s : State} {p : Port} {n : Nat} {v : Word} (hn : n < 16) (ho : s.sealOpen p = false) :
    (s.wrProf p n v).gf (PROF_CH_CFG_PROFILE n) = s.gf (PROF_CH_CFG_PROFILE n) := by
  unfold State.wrProf
  simp only []
  split
  · rfl
  · refine State.rws_outside_gf ho (by dsimp only; decide) ?_ rfl
    rw [RegGroup.profCfg_at (by dsimp only; omega) (by dsimp only; omega)]
    rfl

/-! ### Reading PROF_CHn_CFG (Table 4-7) -/

theorem State.Keeps.chPresent {m : Nat} {s t : State} (h : State.Keeps m s t) (hm : m.testBit (64 + RegGroup.fence.ctorIdx) = false) (n : Nat) :
    t.chPresent n = s.chPresent n := by
  unfold State.chPresent State.chFused State.chFenced State.mbit
  rw [h.chip, h.reg FENCE_CH_CH (by decide) hm]

theorem regRow_profCfg : ∀ n : Fin 16, regRow (0x400 + 4 * n.val) = some ⟨0x400, 4, 16, [⟨0, 4, .rws, 2⟩, ⟨16, 16, .ro, 0x210c⟩]⟩ := by
  decide

theorem State.regThere_profCfg (s : State) (n : Fin 16) : s.regThere (0x400 + 4 * n.val) = s.chPresent n := by
  have h : ∀ n : Fin 16, regChannel (0x400 + 4 * n.val) = some (n.val, true) ∧ regPair (0x400 + 4 * n.val) = none ∧
      regGroupB (0x400 + 4 * n.val) = false := by decide
  obtain ⟨hch, hpair, hgrp⟩ := h n
  simp [State.regThere, hch, hpair, hgrp, State.chPresent]

theorem State.pairHide_profCfg (s : State) (n : Fin 16) (w : Nat) : s.pairHide (0x400 + 4 * n.val) w = w := by
  fin_cases n <;> rfl

theorem State.viewLow_profCfg (s : State) (n : Fin 16) : s.viewLow (0x400 + 4 * n.val) = none := by
  fin_cases n <;> rfl

/-- PROF_CHn_CFG of a present channel reads its profile, and in TAU the group delay of that profile. -/
theorem State.regVal_profCfg {s : State} {n : Fin 16} (hpres : s.chPresent n = true) (hlt : s.gf (PROF_CH_CFG_PROFILE n) < 2 ^ 16) :
    s.regVal (0x400 + 4 * n.val) = s.gf (PROF_CH_CFG_PROFILE n) + 2 ^ 16 * profTau (s.gf (PROF_CH_CFG_PROFILE n)) := by
  have hraw : s.rawWord (0x400 + 4 * n.val) % 2 ^ 16 = s.gf (PROF_CH_CFG_PROFILE n) := by
    simp only [State.rawWord, regRow_profCfg, List.map_cons, List.map_nil, List.sum_cons, List.sum_nil, pow_zero, mul_one, add_zero]
    rw [Nat.add_mul_mod_self_right, Nat.mod_eq_of_lt hlt]
  have hview : s.viewArray (0x400 + 4 * n.val) = some (s.gf (PROF_CH_CFG_PROFILE n) + 2 ^ 16 * profTau (s.gf (PROF_CH_CFG_PROFILE n))) := by
    have hidx : (0x400 + 4 * n.val - 0x400) / 4 = n.val := by omega
    unfold State.viewArray
    rw [if_pos (by omega), hraw, hidx]
  have hwo : woBits (0x400 + 4 * n.val) = 0 := by
    simp [woBits, regRow_profCfg]
  unfold State.regVal
  simp [regRow_profCfg, State.regThere_profCfg, hpres, State.pairHide_profCfg, State.viewLow_profCfg, hview, hwo,
    show 0x400 + 4 * n.val < 0x1000 by omega]

/-! ### The commands -/

/-- A register write is made while registers are served. -/
theorem next_ite_serving {s u : State} (h : s.serving = true) :
    (.next (if s.serving then u else s) : Host.Outcome State Fault Refusal) = .next u :=
  congrArg Host.Outcome.next (if_pos h)

/-- A reading of the state that a register write keeps is kept whether registers are served or not. -/
theorem next_ite_serving_same {α : Type} (π : State → α) {s t u : State}
    (h : (.next (if s.serving then u else s) : Host.Outcome State Fault Refusal) = .next t) (hu : π u = π s) : π t = π s := by
  cases h
  split
  · exact hu
  · rfl

/-- Settles O20: inside a session each write is what its handling sets, outside one a sealed field is out of its reach; TAU is computed
from the profile when the register is read. -/
theorem sealedFrontEndSettings : Obligations.SealedFrontEndSettings := by
  refine ⟨fun s p n v hs ho hpres hrun hvolt hcur => ?_, fun s p v hs ho hrun hne => ?_, fun s p n v hs ho hpres hrun hok hne => ?_,
    fun s p n v hs ho hpres hrun hne => ?_, fun s p n v ho => ⟨fun t h => ?_, fun t h => ?_, fun t h => ?_⟩⟩
  · exact ⟨_, next_ite_serving hs, State.wrAfeCh_inside ho hpres hrun hvolt hcur⟩
  · exact ⟨_, next_ite_serving hs, State.wrAfeRef_inside ho hrun hne⟩
  · have hprof := State.wrProf_stopped ho hpres hrun hok hne
    have hpres' : (s.wrProf p n v).chPresent n = true :=
      ((State.wrProf_keeps (Nat.and_self _) (.refl _ s) (.inl n.isLt)).chPresent rfl n).trans hpres
    refine ⟨_, next_ite_serving hs, hprof, ?_⟩
    rw [State.regVal_profCfg hpres' (by omega), hprof]
  · exact ⟨_, next_ite_serving hs, State.wrProf_running n.isLt ho hpres hrun hne⟩
  · have hkeep : ∀ f : Fld, f.off = 0x210 + 4 * n.val → f.lo < 32 → f.lo ≠ 0 → t.gf f = s.gf f := fun f hoff hlo hen =>
      next_ite_serving_same (fun x => x.gf f) h (State.wrAfeCh_outside n.isLt ho hoff hlo hen)
    refine ⟨hkeep _ rfl ?_ ?_, hkeep _ rfl ?_ ?_, hkeep _ rfl ?_ ?_⟩
    all_goals (dsimp only; decide)
  · exact next_ite_serving_same (fun x => x.gf AFE_REF_SEL) h (State.wrAfeRef_outside ho)
  · exact next_ite_serving_same (fun x => x.gf (PROF_CH_CFG_PROFILE n)) h (State.wrProf_outside n.isLt ho)

end Sys2Proof.Machine
end

section
/-! SUPPORT. Folds over the pairs or the channels of a mask: a reading of the state that sees the step of one element alone; and the bits
of a mask. -/

namespace Sys2Proof.Machine

/-- A fold over a list without repetitions: a reading that all other steps leave alone sees the step of one element. -/
theorem State.foldl_nodup {α β : Type} (π : State → β) (F : β → β) {f : State → α → State} {l : List α} {a : α} (hl : l.Nodup) (ha : a ∈ l)
    (hself : ∀ u, π (f u a) = F (π u)) (hne : ∀ u, ∀ b ∈ l, b ≠ a → π (f u b) = π u) (s : State) : π (l.foldl f s) = F (π s) := by
  have hrest : ∀ l' : List α, (∀ b ∈ l', b ∈ l) → a ∉ l' → ∀ u, π (l'.foldl f u) = π u := by
    intro l'
    induction l' with
    | nil => exact fun _ _ _ => rfl
    | cons b l' ih =>
      intro hsub hnot u
      rw [List.mem_cons, not_or] at hnot
      rw [List.foldl_cons, ih (fun c hc => hsub c (List.mem_cons_of_mem _ hc)) hnot.2, hne u b (hsub b List.mem_cons_self) (Ne.symm hnot.1)]
  obtain ⟨l₁, l₂, rfl⟩ := List.append_of_mem ha
  obtain ⟨-, hcons, hdisj⟩ := List.nodup_append.1 hl
  rw [List.foldl_append, List.foldl_cons, hrest l₂ (fun b hb => by simp [hb]) (List.nodup_cons.1 hcons).1, hself,
    hrest l₁ (fun b hb => by simp [hb]) (fun h => hdisj a h a List.mem_cons_self rfl)]

/-- The same for a fold over every index. -/
theorem State.foldl_fins {N : Nat} {β : Type} (π : State → β) (F : β → β) {f : State → Fin N → State} (n : Fin N)
    (hself : ∀ u, π (f u n) = F (π u)) (hne : ∀ u k, k ≠ n → π (f u k) = π u) (s : State) : π ((fins N).foldl f s) = F (π s) :=
  State.foldl_nodup π F (List.nodup_finRange N) (List.mem_finRange n) hself (fun u k _ hk => hne u k hk) s

theorem bitsOf_nodup (n v : Nat) : (bitsOf n v).Nodup := List.nodup_range.filter _

theorem testBit_foldl_or (l : List Nat) (a i : Nat) : (l.foldl (fun a i => a ||| 2 ^ i) a).testBit i = (a.testBit i || decide (i ∈ l)) := by
  induction l generalizing a with
  | nil => simp
  | cons b l ih =>
    rw [List.foldl_cons, ih, Nat.testBit_or, Nat.testBit_two_pow, Bool.or_assoc]
    congr 1
    by_cases h : b = i
    · simp [h]
    · simp [h, Ne.symm h]

theorem testBit_maskOf (l : List Nat) (i : Nat) : (maskOf l).testBit i = decide (i ∈ l) := by
  rw [maskOf, testBit_foldl_or, Nat.zero_testBit, Bool.false_or]

theorem testBit_xor_pow {v i : Nat} (h : v.testBit i = true) : (v ^^^ 2 ^ i).testBit i = false := by
  rw [Nat.testBit_xor, h, Nat.testBit_two_pow_self]
  rfl

theorem decide_bit (v i : Nat) : decide (v / 2 ^ i % 2 = 1) = v.testBit i := by
  rw [Nat.testBit_eq_decide_div_mod_eq]

theorem State.mbit_smbit_self (s : State) (f : Fld) (i : Nat) (b : Bool) (hi : i < f.w) : (s.smbit f i b).mbit f i = b := by
  rw [State.mbit_smbit _ _ _ _ _ hi, if_pos rfl]

theorem State.mbit_smbit_other (s : State) (f : Fld) {i j : Nat} (b : Bool) (hj : j < f.w) (h : i ≠ j) :
    (s.smbit f i b).mbit f j = s.mbit f j := by
  rw [State.mbit_smbit _ _ _ _ _ hj, if_neg h]

theorem State.gf_smbit_ne (s : State) {f g : Fld} (i : Nat) (b : Bool) (h : f.key ≠ g.key) : (s.smbit f i b).gf g = s.gf g :=
  s.gf_sf_ne _ h

/-- What the registers show is what another state with the same registers shows. -/
theorem State.gf_of_regs {s t : State} (h : t.regs = s.regs) (f : Fld) : t.gf f = s.gf f := by
  unfold State.gf
  rw [h]

theorem State.gb_of_regs {s t : State} (h : t.regs = s.regs) (f : Fld) : t.gb f = s.gb f := by
  unfold State.gb
  rw [State.gf_of_regs h]

theorem State.Keeps.mbit {m : Nat} {s t : State} (h : State.Keeps m s t) (f : Fld) (hlo : f.lo < 32)
    (hm : m.testBit (64 + (regGroup f.off).ctorIdx) = false) (i : Nat) : t.mbit f i = s.mbit f i := by
  unfold State.mbit
  rw [h.reg f hlo hm]

theorem State.Keeps.trPresent {m : Nat} {s t : State} (h : State.Keeps m s t) (hm : m.testBit (64 + RegGroup.fence.ctorIdx) = false) (n : Nat) :
    t.trPresent n = s.trPresent n := by
  unfold State.trPresent State.trFused State.trFenced
  rw [h.chip, h.mbit FENCE_CH_TR (by decide) hm]

end Sys2Proof.Machine
end

section
/-! SUPPORT. Enabling and disabling pairs (R103, R107, R109): what the step of one pair makes of its EN bit, and that it leaves every other
pair's. -/

namespace Sys2Proof.Machine

/-- What decides on the enable of a pair, and what shows its outcome. -/
structure PairEnable where
  present : Bool
  held : Bool
  valid : Bool
  en : Bool
  uncal : Bool

def State.pairEnable (s : State) (n : Fin 8) : PairEnable :=
  ⟨s.trPresent n, s.sar.calP.testBit n, s.mbit SAR_CAL_STATUS_VALID n, s.tsEn n, s.mbit TSAR_ERR_UNCAL n⟩

@[simp] theorem State.pairEnable_present (s : State) (n : Fin 8) : (s.pairEnable n).present = s.trPresent n := rfl
@[simp] theorem State.pairEnable_held (s : State) (n : Fin 8) : (s.pairEnable n).held = s.sar.calP.testBit n := rfl
@[simp] theorem State.pairEnable_valid (s : State) (n : Fin 8) : (s.pairEnable n).valid = s.mbit SAR_CAL_STATUS_VALID n := rfl
@[simp] theorem State.pairEnable_en (s : State) (n : Fin 8) : (s.pairEnable n).en = s.tsEn n := rfl

/-- An enable that is applied: refused without a valid calibration (R107). -/
def PairEnable.apply (p : PairEnable) : PairEnable := { p with en := p.valid, uncal := p.uncal || !p.valid }

/-- A set EN bit: held while SARCAL calibrates the pair (R109). -/
def PairEnable.set (p : PairEnable) : PairEnable :=
  if !p.present || p.en then p else if p.held then { p with en := true } else p.apply

theorem State.setSar_calP (s : State) {f : Sar → Sar} (h : ∀ x, (f x).calP = x.calP) : (s.setSar f).sar.calP = s.sar.calP := h _

theorem State.supEnable_calP (s : State) (n : Fin 8) : (s.supEnable n).sar.calP = s.sar.calP := by
  unfold State.supEnable
  simp only []
  split
  · rfl
  · split <;> rfl

/-- A write of the pair's EN bit or of its error bit. -/
theorem State.smbit_en_pairEnable (s : State) (n k : Fin 8) (b : Bool) :
    (s.smbit TSAR_CTRL_EN n b).pairEnable k = if n = k then { s.pairEnable k with en := b } else s.pairEnable k := by
  have hpres := (State.smbit_keeps (f := TSAR_CTRL_EN) (i := n.val) (b := b) (w := scopeMask [] [.tsarCtrl])
    (.inl ⟨by decide, rfl⟩) (.refl _ s)).trPresent rfl k
  unfold State.pairEnable State.tsEn
  rw [hpres, s.mbit_smbit_ne (g := SAR_CAL_STATUS_VALID) _ _ _ (by decide), s.mbit_smbit_ne (g := TSAR_ERR_UNCAL) _ _ _ (by decide),
    s.mbit_smbit _ _ _ _ k.isLt]
  simp only [Fin.val_inj]
  split <;> rfl

theorem State.smbit_uncal_pairEnable (s : State) (n k : Fin 8) :
    (s.smbit TSAR_ERR_UNCAL n true).pairEnable k = if n = k then { s.pairEnable k with uncal := true } else s.pairEnable k := by
  have hpres := (State.smbit_keeps (f := TSAR_ERR_UNCAL) (i := n.val) (b := true) (w := scopeMask [] [.tsarErr])
    (.inl ⟨by decide, rfl⟩) (.refl _ s)).trPresent rfl k
  unfold State.pairEnable State.tsEn
  rw [hpres, s.mbit_smbit_ne (g := SAR_CAL_STATUS_VALID) _ _ _ (by decide), s.mbit_smbit_ne (g := TSAR_CTRL_EN) _ _ _ (by decide),
    s.mbit_smbit _ _ _ _ k.isLt]
  simp only [Fin.val_inj]
  split <;> rfl

theorem State.Keeps.pairEnable {m : Nat} {s t : State} (h : State.Keeps m s t) (hfence : m.testBit (64 + RegGroup.fence.ctorIdx) = false)
    (hcal : m.testBit (64 + RegGroup.sarCal.ctorIdx) = false) (hctrl : m.testBit (64 + RegGroup.tsarCtrl.ctorIdx) = false)
    (herr : m.testBit (64 + RegGroup.tsarErr.ctorIdx) = false) (hcalP : t.sar.calP = s.sar.calP) (n : Fin 8) :
    t.pairEnable n = s.pairEnable n := by
  unfold State.pairEnable State.tsEn
  rw [h.trPresent hfence, h.mbit SAR_CAL_STATUS_VALID (by decide) hcal, h.mbit TSAR_CTRL_EN (by decide) hctrl,
    h.mbit TSAR_ERR_UNCAL (by decide) herr, hcalP]

theorem State.setSar_pairEnable (s : State) {f : Sar → Sar} (h : ∀ x, (f x).calP = x.calP) (n : Fin 8) :
    (s.setSar f).pairEnable n = s.pairEnable n :=
  (State.setSar_keeps (Nat.and_self _) (.refl _ s)).pairEnable rfl rfl rfl rfl (s.setSar_calP h) n

theorem State.supEnable_pairEnable (s : State) (n k : Fin 8) : (s.supEnable n).pairEnable k = s.pairEnable k :=
  (State.supEnable_keeps (Nat.and_self _) (.refl _ s)).pairEnable rfl rfl rfl rfl (s.supEnable_calP n) k

theorem State.tsApply_calP (s : State) (n : Fin 8) : (s.tsApply n).sar.calP = s.sar.calP := by
  unfold State.tsApply
  simp only []
  split
  · split
    · rfl
    · exact State.supEnable_calP _ n
  · rfl

theorem State.tsApply_pairEnable (s : State) (n k : Fin 8) :
    (s.tsApply n).pairEnable k = if n = k then (s.pairEnable k).apply else s.pairEnable k := by
  unfold State.tsApply
  simp only []
  by_cases hk : n = k
  · subst hk
    by_cases hv : s.mbit SAR_CAL_STATUS_VALID n = true
    · simp [hv, apply_ite (State.pairEnable · n), State.supEnable_pairEnable, State.smbit_en_pairEnable, PairEnable.apply]
    · simp [hv, State.smbit_uncal_pairEnable, State.smbit_en_pairEnable, PairEnable.apply]
  · simp [hk, apply_ite (State.pairEnable · k), State.supEnable_pairEnable, State.smbit_en_pairEnable, State.smbit_uncal_pairEnable]

/-- A write that sets EN bits sets those that it names, pair by pair. -/
theorem State.tsEnable_pairEnable (s : State) {m : Nat} {n : Fin 8} (hm : m.testBit n = true) :
    (s.tsEnable m).pairEnable n = (s.pairEnable n).set := by
  unfold State.tsEnable
  refine State.foldl_fins (fun u => u.pairEnable n) PairEnable.set n (fun u => ?_) (fun u k hk => ?_) s
  · have hset : (u.pairEnable n).set = if !u.trPresent n || u.tsEn n then u.pairEnable n
        else if u.sar.calP.testBit n then { u.pairEnable n with en := true } else (u.pairEnable n).apply := rfl
    simp only [hm, Bool.not_true, Bool.false_or, hset]
    split_ifs with hskip hheld
    · rfl
    · exact (State.setSar_pairEnable _ (fun _ => rfl) n).trans (by rw [State.smbit_en_pairEnable, if_pos rfl])
    · rw [State.tsApply_pairEnable, if_pos rfl]
  · split_ifs with hskip hheld
    · rfl
    · exact (State.setSar_pairEnable _ (fun _ => rfl) n).trans (by rw [State.smbit_en_pairEnable, if_neg hk])
    · rw [State.tsApply_pairEnable, if_neg hk]

/-! ### Clearing EN (R103) -/

theorem State.tsDisable_on (s : State) (m : Nat) : (s.tsDisable m).gf TSAR_CTRL_ON = s.gf TSAR_CTRL_ON := by
  unfold State.tsDisable
  refine State.foldl_same (fun u => u.gf TSAR_CTRL_ON) (fun u k => ?_) _ s
  have hen : (u.smbit TSAR_CTRL_EN k false).gf TSAR_CTRL_ON = u.gf TSAR_CTRL_ON := u.gf_smbit_ne k false (by decide)
  simp only []
  repeat' split
  · rfl
  all_goals exact hen

theorem State.tsDisable_en (s : State) (m : Nat) (n : Fin 8) : (s.tsDisable m).tsEn n = (s.tsEn n && !m.testBit n) := by
  unfold State.tsDisable
  refine State.foldl_fins (fun u => u.tsEn n) (fun b => b && !m.testBit n) n (fun u => ?_) (fun u k hk => ?_) s
  · have hen : (u.smbit TSAR_CTRL_EN n false).tsEn n = false := u.mbit_smbit_self _ _ _ n.isLt
    simp only []
    cases hm : m.testBit n
    · simp
    · cases he : u.tsEn n
      · simp [he]
      · simp only [Bool.not_true, Bool.or_self, Bool.false_eq_true, if_false, Bool.and_false]
        split <;> exact hen
  · have hen : (u.smbit TSAR_CTRL_EN k false).tsEn n = u.tsEn n := u.mbit_smbit_other _ _ n.isLt (Fin.val_ne_of_ne hk)
    simp only []
    repeat' split
    · rfl
    all_goals exact hen

/-- Settles O25: each write is a fold over the pairs, of which the step of one pair alone reaches its EN bit. -/
theorem pairEnables : Obligations.PairEnables := by
  refine ⟨fun s m hs => ⟨s.tsEnable m.toNat, next_ite_serving hs, fun n hm hpres hen => ?_⟩,
    fun s m hs => ⟨s.tsDisable m.toNat, next_ite_serving hs, s.tsDisable_on _, s.tsDisable_en _⟩⟩
  have hset := s.tsEnable_pairEnable (m := m.toNat) hm
  have hview : s.pairEnable n = ⟨true, s.sar.calP.testBit n, s.mbit SAR_CAL_STATUS_VALID n, false, s.mbit TSAR_ERR_UNCAL n⟩ := by
    rw [← hpres, ← hen]
    rfl
  rw [hview] at hset
  have hEn := congrArg PairEnable.en hset
  have hUncal := congrArg PairEnable.uncal hset
  refine ⟨fun hheld => ?_, fun hfree => ?_⟩
  · rw [hheld] at hEn
    exact hEn
  · rw [hfree] at hEn hUncal
    refine ⟨hEn, fun hvalid => ?_⟩
    rw [hvalid] at hUncal
    exact hUncal.trans (Bool.or_true _)

end Sys2Proof.Machine
end

section
/-! SUPPORT. TSAR_MAP (R105) and SARCAL (R106 to R109): what a write makes of one pair's field, which pairs a GO calibrates, and what the end
of SARCAL makes of one pair's VALID and FAIL. -/

namespace Sys2Proof.Machine

/-! ### Writes of TSAR_MAP -/

/-- What decides on the map field of a pair for a channel, and what shows its outcome. -/
structure PairMap where
  present : Bool
  running : Bool
  absent : Bool
  ch : Nat
  refused : Bool

def State.pairMap (s : State) (c : Nat) (n : Fin 8) : PairMap :=
  ⟨s.trPresent n, s.tsEn n && !s.sar.held.testBit n, !s.chPresent c, s.gf (TSAR_MAP_CH n), s.mbit TSAR_ERR_MAP_RUNNING n⟩

/-- A write of channel `c` to the field of a pair. -/
def PairMap.write (c : Nat) (p : PairMap) : PairMap :=
  if !p.present then p else { p with ch := if p.running || p.absent then p.ch else c, refused := p.refused || p.running }

/-- The channel that a word names for a pair. -/
def mapTarget (v : Word) (n : Fin 8) : Nat := v.toNat / 16 ^ n.val % 16

/-- The errors of one pair's field in a write of TSAR_MAP. -/
def State.mapErr (s : State) (v : Word) (n : Fin 8) : State :=
  let s' := if s.tsEn n && !s.sar.held.testBit n then s.smbit TSAR_ERR_MAP_RUNNING n true else s
  if !s.chPresent (mapTarget v n) then s'.sf TSAR_ERR_MAP_INVALID 1 else s'

/-- What a write of TSAR_MAP does for one pair. -/
def State.mapField (s : State) (v : Word) (n : Fin 8) : State :=
  if !s.trPresent n then s
  else if (s.tsEn n && !s.sar.held.testBit n) || !s.chPresent (mapTarget v n) then s.mapErr v n
  else (s.mapErr v n).sf (TSAR_MAP_CH n) (mapTarget v n)

theorem State.wrTsarMap_eq (s : State) (v : Word) : s.wrTsarMap v = (fins 8).foldl (fun u n => u.mapField v n) s := rfl

theorem mapCh_key_ne {n k : Fin 8} (h : n ≠ k) : (TSAR_MAP_CH n).key ≠ (TSAR_MAP_CH k).key := by
  have := Fin.val_ne_of_ne h
  exact Fld.key_ne (by dsimp only; omega) (by dsimp only; omega) (.inr (by dsimp only; omega))

theorem mapErr_key_ne {f : Fld} (hlo : f.lo < 32) (ho : f.off = 0x60C) (n : Fin 8) : f.key ≠ (TSAR_MAP_CH n).key :=
  Fld.key_ne hlo (by dsimp only; omega) (.inl (by rw [ho]; dsimp only; decide))

theorem State.mapErr_gf (s : State) (v : Word) (n k : Fin 8) : (s.mapErr v n).gf (TSAR_MAP_CH k) = s.gf (TSAR_MAP_CH k) := by
  have hr : (s.smbit TSAR_ERR_MAP_RUNNING n true).gf (TSAR_MAP_CH k) = s.gf (TSAR_MAP_CH k) :=
    s.gf_smbit_ne _ _ (mapErr_key_ne (by decide) rfl k)
  have hi : ∀ u : State, (u.sf TSAR_ERR_MAP_INVALID 1).gf (TSAR_MAP_CH k) = u.gf (TSAR_MAP_CH k) := fun u =>
    u.gf_sf_ne _ (mapErr_key_ne (by decide) rfl k)
  unfold State.mapErr
  simp only []
  split_ifs <;> simp only [hr, hi]

theorem State.mapErr_refused (s : State) (v : Word) (n k : Fin 8) :
    (s.mapErr v n).mbit TSAR_ERR_MAP_RUNNING k =
      (s.mbit TSAR_ERR_MAP_RUNNING k || (decide (n = k) && (s.tsEn n && !s.sar.held.testBit n))) := by
  have hi : ∀ u : State, (u.sf TSAR_ERR_MAP_INVALID 1).mbit TSAR_ERR_MAP_RUNNING k = u.mbit TSAR_ERR_MAP_RUNNING k := fun u => by
    unfold State.mbit
    rw [u.gf_sf_ne _ (by decide)]
  have hr : (s.smbit TSAR_ERR_MAP_RUNNING n true).mbit TSAR_ERR_MAP_RUNNING k = (s.mbit TSAR_ERR_MAP_RUNNING k || decide (n = k)) := by
    rw [s.mbit_smbit TSAR_ERR_MAP_RUNNING n k true k.isLt]
    by_cases hk : n = k
    · simp [hk]
    · simp [hk, Fin.val_inj]
  unfold State.mapErr
  cases s.tsEn n && !s.sar.held.testBit n with
  | false =>
    simp only [Bool.false_eq_true, if_false, Bool.and_false, Bool.or_false]
    split_ifs
    · exact hi s
    · rfl
  | true =>
    simp only [if_true, Bool.and_true]
    split_ifs
    · exact (hi _).trans hr
    · exact hr

/-- The registers of TSAR_MAP and of its errors. -/
def mapScope : Nat := scopeMask [] [.tsarErr, .tsarMap]

theorem State.mapErr_keeps (s : State) (v : Word) (n : Fin 8) : State.Keeps mapScope s (s.mapErr v n) := by
  have hr : State.Keeps mapScope s (if s.tsEn n && !s.sar.held.testBit n then s.smbit TSAR_ERR_MAP_RUNNING n true else s) :=
    .ite (State.smbit_keeps (.inl ⟨by decide, rfl⟩) (.refl _ s)) (.refl _ s)
  exact .ite (State.sf_keeps (.inl ⟨by decide, rfl⟩) hr) hr

theorem State.mapField_keeps (s : State) (v : Word) (n : Fin 8) : State.Keeps mapScope s (s.mapField v n) := by
  have hch : regOk mapScope (TSAR_MAP_CH n) :=
    Has.reg (m := mapScope) (Nat.and_self _) (by omega) (RegGroup.tsarMap_at (by decide) (by decide)) rfl
  exact .ite (.refl _ s) (.ite (s.mapErr_keeps v n) (State.sf_keeps hch (s.mapErr_keeps v n)))

/-- A write of TSAR_MAP and its errors leave what decides on a field. -/
theorem State.Keeps.pairMap {s t : State} (h : State.Keeps mapScope s t) (c : Nat) (n : Fin 8) :
    t.pairMap c n = { s.pairMap c n with ch := t.gf (TSAR_MAP_CH n), refused := t.mbit TSAR_ERR_MAP_RUNNING n } := by
  have hs : t.sar = s.sar := h.part .sar rfl
  unfold State.pairMap State.tsEn
  rw [h.trPresent rfl, h.mbit TSAR_CTRL_EN (by decide) rfl, hs, h.chPresent rfl]

theorem State.mapField_refused (s : State) (v : Word) (n k : Fin 8) (hpres : s.trPresent n = true) :
    (s.mapField v n).mbit TSAR_ERR_MAP_RUNNING k = (s.mapErr v n).mbit TSAR_ERR_MAP_RUNNING k := by
  have hch : ∀ u : State, (u.sf (TSAR_MAP_CH n) (mapTarget v n)).mbit TSAR_ERR_MAP_RUNNING k = u.mbit TSAR_ERR_MAP_RUNNING k := fun u => by
    unfold State.mbit
    rw [u.gf_sf_ne _ (mapErr_key_ne (by decide) rfl n).symm]
  unfold State.mapField
  simp only [hpres, Bool.not_true, Bool.false_eq_true, if_false]
  split_ifs
  · rfl
  · exact hch _

theorem State.mapField_self (s : State) (v : Word) (n : Fin 8) :
    (s.mapField v n).pairMap (mapTarget v n) n = (s.pairMap (mapTarget v n) n).write (mapTarget v n) := by
  cases hpres : s.trPresent n with
  | false => simp [State.mapField, PairMap.write, State.pairMap, hpres]
  | true =>
    have hlt : mapTarget v n % 2 ^ 4 = mapTarget v n := Nat.mod_mod _ _
    rw [(s.mapField_keeps v n).pairMap, s.mapField_refused v n n hpres, s.mapErr_refused]
    simp only [PairMap.write, State.pairMap, hpres, State.mapField, Bool.not_true, Bool.false_eq_true, if_false, decide_true, Bool.true_and]
    congr 1
    split_ifs
    · exact s.mapErr_gf v n n
    · rw [State.gf_sf, hlt]

theorem State.mapField_other (s : State) (v : Word) (c : Nat) {n k : Fin 8} (hk : k ≠ n) : (s.mapField v k).pairMap c n = s.pairMap c n := by
  cases hpres : s.trPresent k with
  | false => simp [State.mapField, hpres]
  | true =>
    have hch : (s.mapField v k).gf (TSAR_MAP_CH n) = s.gf (TSAR_MAP_CH n) := by
      simp only [State.mapField, hpres, Bool.not_true, Bool.false_eq_true, if_false]
      split_ifs
      · exact s.mapErr_gf v k n
      · rw [State.gf_sf_ne _ _ (mapCh_key_ne hk), s.mapErr_gf v k n]
    rw [(s.mapField_keeps v k).pairMap, s.mapField_refused v k n hpres, s.mapErr_refused, hch, decide_eq_false hk, Bool.false_and, Bool.or_false]
    rfl

/-- A write of TSAR_MAP writes each pair's field (R105). -/
theorem State.wrTsarMap_pairMap (s : State) (v : Word) (n : Fin 8) :
    (s.wrTsarMap v).pairMap (mapTarget v n) n = (s.pairMap (mapTarget v n) n).write (mapTarget v n) :=
  State.foldl_fins (fun u => u.pairMap (mapTarget v n) n) _ n (fun u => u.mapField_self v n) (fun u _ hk => u.mapField_other v _ hk) s

theorem State.mapErr_invalid (s : State) (v : Word) (n : Fin 8) :
    (s.mapErr v n).gb TSAR_ERR_MAP_INVALID = (s.gb TSAR_ERR_MAP_INVALID || !s.chPresent (mapTarget v n)) := by
  have hr : (s.smbit TSAR_ERR_MAP_RUNNING n true).gb TSAR_ERR_MAP_INVALID = s.gb TSAR_ERR_MAP_INVALID := s.gb_sf_ne _ (by decide)
  have hi : ∀ u : State, (u.sf TSAR_ERR_MAP_INVALID 1).gb TSAR_ERR_MAP_INVALID = true := fun u => u.gb_sf _ _
  unfold State.mapErr
  simp only []
  cases s.chPresent (mapTarget v n) with
  | false => simp [hi]
  | true => simp only [Bool.not_true, Bool.false_eq_true, if_false, Bool.or_false]; split_ifs <;> simp [hr]

theorem State.mapField_invalid (s : State) (v : Word) (n : Fin 8) :
    (s.mapField v n).gb TSAR_ERR_MAP_INVALID = (s.gb TSAR_ERR_MAP_INVALID || (s.trPresent n && !s.chPresent (mapTarget v n))) := by
  have hch : ∀ u : State, (u.sf (TSAR_MAP_CH n) (mapTarget v n)).gb TSAR_ERR_MAP_INVALID = u.gb TSAR_ERR_MAP_INVALID := fun u =>
    u.gb_sf_ne _ (mapErr_key_ne (by decide) rfl n).symm
  unfold State.mapField
  cases s.trPresent n with
  | false => simp
  | true => split_ifs <;> simp_all [State.mapErr_invalid]

/-- A fold reaches what the step of one of its elements reaches from every state of an invariant, when no step loses it. -/
theorem State.foldl_reaches {α : Type} {f : State → α → State} {l : List α} {a : α} (I P : State → Prop) (ha : a ∈ l)
    (hI : ∀ u b, I u → I (f u b)) (hP : ∀ u b, P u → P (f u b)) (hself : ∀ u, I u → P (f u a)) {s : State} (hs : I s) : P (l.foldl f s) := by
  have hrest : ∀ (l' : List α) (u : State), P u → P (l'.foldl f u) := by
    intro l'
    induction l' with
    | nil => exact fun _ h => h
    | cons b l' ih => exact fun u h => ih _ (hP u b h)
  induction l generalizing s with
  | nil => cases ha
  | cons b l ih =>
    rcases List.mem_cons.1 ha with rfl | hm
    · exact hrest l _ (hself s hs)
    · exact ih hm (hI s b hs)

theorem State.wrTsarMap_invalid (s : State) (v : Word) (n : Fin 8) (hpres : s.trPresent n = true) (habs : s.chPresent (mapTarget v n) = false) :
    (s.wrTsarMap v).gb TSAR_ERR_MAP_INVALID = true := by
  refine State.foldl_reaches (fun u => u.trPresent n = true ∧ u.chPresent (mapTarget v n) = false) (fun u => u.gb TSAR_ERR_MAP_INVALID = true)
    (List.mem_finRange n) (fun u k ⟨hp, ha⟩ => ?_) (fun u k h => ?_) (fun u ⟨hp, ha⟩ => ?_) ⟨hpres, habs⟩
  · have hk := u.mapField_keeps v k
    exact ⟨(hk.trPresent rfl n).trans hp, (hk.chPresent rfl _).trans ha⟩
  · exact (u.mapField_invalid v k).trans (by rw [h, Bool.true_or])
  · exact (u.mapField_invalid v n).trans (by rw [hp, ha]; exact Bool.or_true _)

/-! ### GO of SARCAL (R106) -/

/-- The pairs that GO calibrates: named, not taken by `out`, and there. -/
theorem testBit_calRun {w n : Nat} (hn : n < 8) (out pres : Nat → Bool) :
    (maskOf ((bitsOf 8 w).filter (fun k => !((bitsOf 8 w).filter out).contains k && pres k))).testBit n = (w.testBit n && !out n && pres n) := by
  rw [testBit_maskOf, Bool.eq_iff_iff]
  simp only [decide_eq_true_eq, List.mem_filter, mem_bitsOf, Bool.and_eq_true, Bool.not_eq_true', List.contains_eq_mem,
    decide_eq_false_iff_not, not_and, Bool.not_eq_true]
  tauto

/-- What a write of SAR_CAL_CTRL has done before GO starts anything: the register's settings, and REJECT. -/
def calCtrlScope : Nat := scopeMask [] [.sarCal]

theorem State.Keeps.calNamed {s u : State} (h : State.Keeps calCtrlScope s u) (n : Nat) :
    u.tsEn n = s.tsEn n ∧ u.tsOn n = s.tsOn n ∧ u.trPresent n = s.trPresent n :=
  ⟨h.mbit TSAR_CTRL_EN (by decide) rfl n, h.tsOn rfl n, h.trPresent rfl n⟩

/-- GO while SARCAL is idle: it runs for the named present pairs that are neither enabled nor running. -/
theorem State.wrSarCal_go {s : State} {v : Word} (hbusy : s.gb SAR_CAL_STATUS_BUSY = false) (hgo : v.toNat.testBit 9 = true) :
    (s.wrSarCal v).gb SAR_CAL_STATUS_BUSY = true ∧ (s.wrSarCal v).sar.calH = v.toNat.testBit 8 ∧
      ∀ n : Fin 8, (s.wrSarCal v).sar.calP.testBit n = (v.toNat.testBit n && !s.tsEn n && !s.tsOn n && s.trPresent n) := by
  unfold State.wrSarCal
  simp only []
  generalize hu : s.sfs [(SAR_CAL_CTRL_PAIRMASK, keepBits s.pairMask (s.gf SAR_CAL_CTRL_PAIRMASK) (v.toNat % 256)),
    (SAR_CAL_CTRL_HSAR, v.toNat / 256), (SAR_CAL_CTRL_DTEMP, v.toNat / 65536)] = u
  have hk : State.Keeps calCtrlScope s u := by
    have hreg : ∀ f : Fld, f.lo < 32 → f.off = 0x600 → regOk calCtrlScope f := fun f hlo hoff => .inl ⟨hlo, by rw [hoff]; rfl⟩
    rw [← hu]
    exact State.sfs_keeps ⟨hreg _ (show 0 < 32 by decide) rfl, hreg _ (show 8 < 32 by decide) rfl, hreg _ (show 16 < 32 by decide) rfl, trivial⟩
      (.refl _ s)
  have hidle : u.gb SAR_CAL_STATUS_BUSY = false := by
    rw [← hu, State.sfs_cons, State.sfs_cons, State.sfs_cons, State.sfs_nil, State.gb_sf_ne _ _ (by decide), State.gb_sf_ne _ _ (by decide),
      State.gb_sf_ne _ _ (by decide), hbusy]
  simp only [hgo, hidle, Bool.not_true, Bool.false_eq_true, if_false]
  generalize hr : (if ((bitsOf 8 (v.toNat % 256)).filter (fun n => u.tsEn n || u.tsOn n)).isEmpty = true then u
    else u.sf SAR_CAL_STATUS_REJECT 1) = r
  have hkr : State.Keeps calCtrlScope s r := hr ▸ .ite hk (State.sf_keeps (.inl ⟨by decide, rfl⟩) hk)
  refine ⟨State.gb_sf _ _ _, rfl, fun n => ?_⟩
  obtain ⟨hen, hon, -⟩ := hk.calNamed n
  obtain ⟨-, -, hpres⟩ := hkr.calNamed n
  have hbit : (v.toNat % 256).testBit n = v.toNat.testBit n := by
    rw [show 256 = 2 ^ 8 from rfl, Nat.testBit_mod_two_pow, decide_eq_true n.isLt, Bool.true_and]
  refine (testBit_calRun n.isLt (fun k => u.tsEn k || u.tsOn k) r.trPresent).trans ?_
  simp only [hbit, hen, hon, hpres, Bool.not_or, Bool.and_assoc]

/-! ### The end of SARCAL (R107, R108) -/

/-- What SARCAL shows of a pair. -/
structure PairCal where
  valid : Bool
  fail : Bool

def State.pairCal (s : State) (n : Fin 8) : PairCal := ⟨s.mbit SAR_CAL_STATUS_VALID n, s.mbit SAR_CAL_STATUS_FAIL n⟩

/-- A pair's result makes it VALID, or is marked. -/
def PairCal.take (x : SarRes) (c : PairCal) : PairCal := if sarPass x then ⟨true, false⟩ else { c with fail := true }

theorem State.pairCal_of_gf {s t : State} (hv : t.gf SAR_CAL_STATUS_VALID = s.gf SAR_CAL_STATUS_VALID)
    (hf : t.gf SAR_CAL_STATUS_FAIL = s.gf SAR_CAL_STATUS_FAIL) (n : Fin 8) : t.pairCal n = s.pairCal n := by
  unfold State.pairCal State.mbit
  rw [hv, hf]

theorem State.Keeps.pairCal {m : Nat} {s t : State} (h : State.Keeps m s t) (hm : m.testBit (64 + RegGroup.sarCal.ctorIdx) = false) (n : Fin 8) :
    t.pairCal n = s.pairCal n :=
  State.pairCal_of_gf (h.reg SAR_CAL_STATUS_VALID (by decide) hm) (h.reg SAR_CAL_STATUS_FAIL (by decide) hm) n

theorem State.smbit_valid_pairCal (s : State) (k : Nat) (n : Fin 8) (b : Bool) :
    (s.smbit SAR_CAL_STATUS_VALID k b).pairCal n = if k = n then { s.pairCal n with valid := b } else s.pairCal n := by
  unfold State.pairCal
  rw [s.mbit_smbit_ne (g := SAR_CAL_STATUS_FAIL) _ _ _ (by decide), s.mbit_smbit _ _ _ _ n.isLt]
  split <;> rfl

theorem State.smbit_fail_pairCal (s : State) (k : Nat) (n : Fin 8) (b : Bool) :
    (s.smbit SAR_CAL_STATUS_FAIL k b).pairCal n = if k = n then { s.pairCal n with fail := b } else s.pairCal n := by
  unfold State.pairCal
  rw [s.mbit_smbit_ne (g := SAR_CAL_STATUS_VALID) _ _ _ (by decide), s.mbit_smbit _ _ _ _ n.isLt]
  split <;> rfl

theorem State.sarPair_pairCal (s : State) {k : Nat} (hk : k < 8) (n : Fin 8) (x : SarRes) (temp : Int) :
    (s.sarPair k x temp).pairCal n = if k = n then (s.pairCal n).take x else s.pairCal n := by
  have hfac := (State.sarFactors_keeps (x1 := k) (x2 := x) (x3 := temp) (Nat.and_self _) (.refl _ s) (.inl hk)).pairCal rfl n
  have hdrift : ∀ u : State, (u.smbit TSAR_CTRL_TDRIFT k false).pairCal n = u.pairCal n := fun u =>
    State.pairCal_of_gf (u.gf_smbit_ne _ _ (by decide)) (u.gf_smbit_ne _ _ (by decide)) n
  unfold State.sarPair PairCal.take
  split_ifs with hpass hkn hkn
  · rw [hdrift, State.smbit_fail_pairCal, if_pos hkn, State.smbit_valid_pairCal, if_pos hkn]
  · rw [hdrift, State.smbit_fail_pairCal, if_neg hkn, State.smbit_valid_pairCal, if_neg hkn, hfac]
  · rw [State.smbit_fail_pairCal, if_pos hkn]
  · rw [State.smbit_fail_pairCal, if_neg hkn]

theorem State.sarHouse_pairCal (s : State) (r : HsarRes) (n : Fin 8) : (s.sarHouse r).pairCal n = s.pairCal n := by
  have hgf : ∀ f : Fld, f.lo < 32 → f.off = 0x604 → f.lo ≠ 3 → f.lo ≠ 4 → (s.sarHouse r).gf f = s.gf f := by
    intro f hlo hoff h3 h4
    have hv : SAR_CAL_STATUS_HSAR_VALID.key ≠ f.key := Fld.key_ne (by decide) hlo (.inr (Ne.symm h3))
    have hf : SAR_CAL_STATUS_HSAR_FAIL.key ≠ f.key := Fld.key_ne (by decide) hlo (.inr (Ne.symm h4))
    have ho : HSAR_CAL_OFFSET.key ≠ f.key := Fld.key_ne (by decide) hlo (.inl (by rw [hoff]; decide))
    have hg : HSAR_CAL_GAIN.key ≠ f.key := Fld.key_ne (by decide) hlo (.inl (by rw [hoff]; decide))
    unfold State.sarHouse
    simp only []
    rw [State.foldl_gf f _ _ _ (fun u i _ => u.gf_sf_ne _ (Fld.key_ne (show 16 < 32 by decide) hlo (.inl (by rw [hoff]; dsimp only; omega)))), State.gf_setSar]
    split_ifs
    · rw [State.sfs_cons, State.sfs_cons, State.sfs_nil, State.gf_sf_ne _ _ hf, State.gf_sf_ne _ _ hv, State.gf_sf_ne _ _ hg]
      exact s.gf_sf_ne _ ho
    · exact s.gf_sf_ne _ hf
  exact State.pairCal_of_gf (hgf _ (by decide) rfl (by decide) (by decide)) (hgf _ (by decide) rfl (by decide) (by decide)) n

/-- The results of SARCAL enter, pair by pair. -/
def State.sarPairs (s : State) (run : Nat) (pairs : List SarRes) (temp : Int) : State :=
  (bitsOf 8 run).foldl (fun (s : State) n => match pairs[n]? with | some r => s.sarPair n r temp | none => s.smbit SAR_CAL_STATUS_FAIL n true) s

theorem State.sarPairs_pairCal (s : State) {run : Nat} {pairs : List SarRes} (temp : Int) {n : Fin 8} {x : SarRes} (hrun : run.testBit n = true)
    (hx : pairs[n.val]? = some x) : (s.sarPairs run pairs temp).pairCal n = (s.pairCal n).take x := by
  refine State.foldl_nodup (fun u => u.pairCal n) _ (bitsOf_nodup 8 run) (mem_bitsOf.2 ⟨n.isLt, hrun⟩) (fun u => ?_) (fun u k hk hne => ?_) s
  · simp only [hx]
    rw [State.sarPair_pairCal _ n.isLt, if_pos rfl]
  · split
    · rw [State.sarPair_pairCal _ (mem_bitsOf_lt hk), if_neg hne]
    · rw [State.smbit_fail_pairCal, if_neg hne]

/-- What follows the results of SARCAL: the conversions of start-up, or the enables that were held. -/
def calAfterScope : Nat := scopeMask [.supraOn, .sar] [.tsarCtrl, .tsarErr, .specErr]

/-- SARCAL has taken its results and ended. -/
def State.calEnded (s : State) (pairs : List SarRes) (house : HsarRes) (temp : Int) : State :=
  let r := s.sarPairs s.sar.calP pairs temp
  ((if s.sar.calH then r.sarHouse house else r).setSar (fun x => { x with calP := 0, calH := false })).sfs
    [(SAR_CAL_STATUS_BUSY, 0), (SAR_CAL_STATUS_DONE, 1)]

theorem State.sarDone_eq (s : State) (pairs : List SarRes) (house : HsarRes) (temp : Int) :
    s.sarDone pairs house temp =
      let u := s.calEnded pairs house temp
      if u.rst.phase = .startup then u.setSar (fun x => { x with boot := some 0 })
      else (fins 8).foldl (fun (u : State) (n : Fin 8) => if s.sar.calP.testBit n && u.tsEn n then u.tsApply n else u) u := rfl

theorem State.calEnded_status (s : State) (pairs : List SarRes) (house : HsarRes) (temp : Int) :
    (s.calEnded pairs house temp).gb SAR_CAL_STATUS_BUSY = false ∧ (s.calEnded pairs house temp).gb SAR_CAL_STATUS_DONE = true ∧
      (s.calEnded pairs house temp).sar.calP = 0 := by
  unfold State.calEnded State.gb
  simp only []
  rw [State.gf_sfs_get _ _ 0 SAR_CAL_STATUS_BUSY 0 rfl (by decide), State.gf_sfs_get _ _ 1 SAR_CAL_STATUS_DONE 1 rfl (by decide)]
  exact ⟨rfl, rfl, rfl⟩

theorem State.calEnded_pairCal (s : State) (pairs : List SarRes) (house : HsarRes) (temp : Int) (n : Fin 8) :
    (s.calEnded pairs house temp).pairCal n = (s.sarPairs s.sar.calP pairs temp).pairCal n := by
  have hend : ∀ r : State, ((r.setSar (fun x => { x with calP := 0, calH := false })).sfs
      [(SAR_CAL_STATUS_BUSY, 0), (SAR_CAL_STATUS_DONE, 1)]).pairCal n = r.pairCal n := fun r =>
    State.pairCal_of_gf (State.gf_sfs_ne _ _ (by decide)) (State.gf_sfs_ne _ _ (by decide)) n
  refine (hend _).trans ?_
  split_ifs
  · exact State.sarHouse_pairCal _ house n
  · rfl

/-- What follows the end of SARCAL leaves its status and the set of calibrated pairs. -/
theorem State.sarDone_keeps_ended (s : State) (pairs : List SarRes) (house : HsarRes) (temp : Int) :
    State.Keeps calAfterScope (s.calEnded pairs house temp) (s.sarDone pairs house temp) ∧
      (s.sarDone pairs house temp).sar.calP = (s.calEnded pairs house temp).sar.calP := by
  rw [State.sarDone_eq]
  refine ⟨.ite (State.setSar_keeps rfl (.refl _ _)) (.foldl (.refl _ _) fun u n h => .ite (State.tsApply_keeps rfl h) h), ?_⟩
  simp only []
  split_ifs
  · rfl
  · refine State.foldl_same (fun u => u.sar.calP) (fun u n => ?_) _ _
    split_ifs
    · exact u.tsApply_calP n
    · rfl

theorem execSarcalDone_of {s : State} {pairs : List SarRes} {house : HsarRes} {temp : Int} (hbusy : s.gb SAR_CAL_STATUS_BUSY = true)
    (hfree : s.sar.calH = false ∨ s.sar.urg = none) : exec (.sarcalDone pairs house temp) s = .next (s.sarDone pairs house temp) := by
  have hno : (s.sar.calH && s.sar.urg.isSome) = false := by
    rcases hfree with h | h
    · rw [h, Bool.false_and]
    · rw [h]
      exact Bool.and_false _
  show execSarcalDone pairs house temp s = _
  unfold execSarcalDone
  rw [hbusy, hno]
  rfl

/-- Settles O27: the map write pair by pair, GO from the state before it, the end of SARCAL from the state that has taken its results. -/
theorem mapAndCalibration : Obligations.MapAndCalibration := by
  refine ⟨fun s v hs => ⟨s.wrTsarMap v, next_ite_serving hs, fun n hpres => ?_⟩,
    fun s v hs hbusy hgo => ⟨s.wrSarCal v, next_ite_serving hs, State.wrSarCal_go hbusy hgo⟩,
    fun s pairs house temp hbusy hfree hlen => ⟨s.sarDone pairs house temp, execSarcalDone_of hbusy hfree, ?_⟩⟩
  · have hview := s.wrTsarMap_pairMap v n
    have hbefore : s.pairMap (mapTarget v n) n = ⟨true, s.tsEn n && !s.sar.held.testBit n, !s.chPresent (mapTarget v n), s.gf (TSAR_MAP_CH n),
        s.mbit TSAR_ERR_MAP_RUNNING n⟩ := by
      rw [← hpres]
      rfl
    rw [hbefore] at hview
    have hch : (s.wrTsarMap v).gf (TSAR_MAP_CH n) =
        if (s.tsEn n && !s.sar.held.testBit n) || !s.chPresent (mapTarget v n) then s.gf (TSAR_MAP_CH n) else mapTarget v n :=
      congrArg PairMap.ch hview
    have hrun : (s.wrTsarMap v).mbit TSAR_ERR_MAP_RUNNING n = (s.mbit TSAR_ERR_MAP_RUNNING n || (s.tsEn n && !s.sar.held.testBit n)) :=
      congrArg PairMap.refused hview
    refine ⟨fun hstop hthere => ?_, fun hr => ⟨?_, ?_⟩, fun habs => ⟨?_, s.wrTsarMap_invalid v n hpres habs⟩⟩
    · have hthere : s.chPresent (mapTarget v n) = true := hthere
      rw [hch, hstop, hthere]
      rfl
    · rw [hch, hr]
      rfl
    · rw [hrun, hr, Bool.or_true]
    · have habs : s.chPresent (mapTarget v n) = false := habs
      rw [hch, habs]
      simp
  · obtain ⟨hendBusy, hendDone, hendCalP⟩ := s.calEnded_status pairs house temp
    obtain ⟨hk, hcalP⟩ := s.sarDone_keeps_ended pairs house temp
    refine ⟨(hk.gb _ (by decide) rfl).trans hendBusy, (hk.gb _ (by decide) rfl).trans hendDone, hcalP.trans hendCalP, fun n x hn hx => ?_⟩
    have hview : (s.sarDone pairs house temp).pairCal n = (s.pairCal n).take x :=
      (hk.pairCal rfl n).trans ((s.calEnded_pairCal pairs house temp n).trans (s.sarPairs_pairCal temp hn hx))
    have hvalid := congrArg PairCal.valid hview
    have hfail := congrArg PairCal.fail hview
    refine ⟨fun hpass => ?_, fun hpass => ?_⟩
    · rw [PairCal.take, if_pos hpass] at hvalid hfail
      exact ⟨hvalid, hfail⟩
    · rw [PairCal.take, hpass] at hfail
      exact hfail

end Sys2Proof.Machine
end

section
/-! SUPPORT. Urgent conversions of the house converter (R118, R119, R120): what GO starts, and what the end of one publishes. -/

namespace Sys2Proof.Machine

/-- The settings and the cleared status bits of a write of HSAR_URG, before its GO. -/
def State.urgSettings (s : State) (v : Word) : State :=
  let w := v.toNat
  let s := if hsarCode (w % 32) then s.sf HSAR_URG_INPUT w else s
  let s := if hsarCode (w / 65536 % 32) then s.sf HSAR_URG_PFI_INPUT (w / 65536) else s
  let s := if w.testBit 10 then s.sf HSAR_URG_DONE 0 else s
  if w.testBit 11 then s.sf HSAR_URG_REJECT 0 else s

theorem State.wrHsarUrg_eq (s : State) (v : Word) :
    s.wrHsarUrg v =
      if !v.toNat.testBit 8 then s.urgSettings v
      else if (s.urgSettings v).gb HSAR_URG_BUSY then (s.urgSettings v).sf HSAR_URG_REJECT 1
      else (((s.urgSettings v).sf HSAR_URG_BUSY 1).setSar
        (fun x => { x with wReg := some ((s.urgSettings v).gf HSAR_URG_INPUT) })).hsarUrgent := rfl

/-- A reading that the four writes keep. -/
theorem State.urgSettings_same {β : Type} (π : State → β) (s : State) (v : Word)
    (hin : ∀ u : State, π (u.sf HSAR_URG_INPUT v.toNat) = π u) (hpfi : ∀ u : State, π (u.sf HSAR_URG_PFI_INPUT (v.toNat / 65536)) = π u)
    (hdone : ∀ u : State, π (u.sf HSAR_URG_DONE 0) = π u) (hrej : ∀ u : State, π (u.sf HSAR_URG_REJECT 0) = π u) :
    π (s.urgSettings v) = π s := by
  unfold State.urgSettings
  simp only []
  split_ifs <;> simp only [hin, hpfi, hdone, hrej]

theorem State.urgSettings_busy (s : State) (v : Word) : (s.urgSettings v).gb HSAR_URG_BUSY = s.gb HSAR_URG_BUSY :=
  s.urgSettings_same (fun u => u.gb HSAR_URG_BUSY) v (fun u => u.gb_sf_ne _ (by decide)) (fun u => u.gb_sf_ne _ (by decide))
    (fun u => u.gb_sf_ne _ (by decide)) (fun u => u.gb_sf_ne _ (by decide))

theorem State.urgSettings_sar (s : State) (v : Word) : (s.urgSettings v).sar = s.sar :=
  s.urgSettings_same State.sar v (fun _ => rfl) (fun _ => rfl) (fun _ => rfl) (fun _ => rfl)

/-- INPUT takes a code of Table 5-4 (R119). -/
theorem State.urgSettings_input (s : State) {v : Word} (hcode : hsarCode (v.toNat % 32) = true) :
    (s.urgSettings v).gf HSAR_URG_INPUT = v.toNat % 32 := by
  have hin : (s.sf HSAR_URG_INPUT v.toNat).gf HSAR_URG_INPUT = v.toNat % 32 := s.gf_sf _ _
  have hpfi : ∀ u : State, (u.sf HSAR_URG_PFI_INPUT (v.toNat / 65536)).gf HSAR_URG_INPUT = u.gf HSAR_URG_INPUT := fun u => u.gf_sf_ne _ (by decide)
  have hdone : ∀ u : State, (u.sf HSAR_URG_DONE 0).gf HSAR_URG_INPUT = u.gf HSAR_URG_INPUT := fun u => u.gf_sf_ne _ (by decide)
  have hrej : ∀ u : State, (u.sf HSAR_URG_REJECT 0).gf HSAR_URG_INPUT = u.gf HSAR_URG_INPUT := fun u => u.gf_sf_ne _ (by decide)
  unfold State.urgSettings
  simp only [hcode, if_true]
  split_ifs <;> simp only [hin, hpfi, hdone, hrej]

/-- The request of the host begins when no conversion runs and none of PFI's waits (R118). -/
theorem State.hsarUrgent_of_idle {s : State} {c : Nat} (hurg : s.sar.urg = none) (hpfi : s.sar.wPfi = none) (hreg : s.sar.wReg = some c) :
    s.hsarUrgent = s.setSar (fun x => { x with urg := some (false, c), wReg := none }) := by
  unfold State.hsarUrgent
  rw [hurg, hpfi, hreg]

theorem State.hsarUrgent_regs (s : State) : s.hsarUrgent.regs = s.regs := by
  unfold State.hsarUrgent
  repeat' split
  all_goals rfl

theorem State.hsarUrgent_gf (s : State) (f : Fld) : s.hsarUrgent.gf f = s.gf f := by
  unfold State.gf
  rw [State.hsarUrgent_regs]

theorem State.wrHsarUrg_go {s : State} {v : Word} (hgo : v.toNat.testBit 8 = true) (hbusy : s.gb HSAR_URG_BUSY = false)
    (hurg : s.sar.urg = none) (hpfi : s.sar.wPfi = none) :
    (s.wrHsarUrg v).gb HSAR_URG_BUSY = true ∧ (s.wrHsarUrg v).sar.urg = some (false, (s.wrHsarUrg v).gf HSAR_URG_INPUT) ∧
      (hsarCode (v.toNat % 32) = true → (s.wrHsarUrg v).gf HSAR_URG_INPUT = v.toNat % 32) := by
  have heq : s.wrHsarUrg v = (((s.urgSettings v).sf HSAR_URG_BUSY 1).setSar
      (fun x => { x with wReg := some ((s.urgSettings v).gf HSAR_URG_INPUT) })).setSar
        (fun x => { x with urg := some (false, (s.urgSettings v).gf HSAR_URG_INPUT), wReg := none }) := by
    rw [State.wrHsarUrg_eq, hgo, State.urgSettings_busy, hbusy]
    have hsar := s.urgSettings_sar v
    exact State.hsarUrgent_of_idle (by simp [State.setSar, hsar, hurg]) (by simp [State.setSar, hsar, hpfi]) rfl
  have hin : (s.wrHsarUrg v).gf HSAR_URG_INPUT = (s.urgSettings v).gf HSAR_URG_INPUT := by
    rw [heq, State.gf_setSar, State.gf_setSar, State.gf_sf_ne _ _ (by decide)]
  refine ⟨?_, ?_, fun hcode => hin.trans (s.urgSettings_input hcode)⟩
  · rw [heq]
    exact (State.gb_of_regs (s := (s.urgSettings v).sf HSAR_URG_BUSY 1) rfl _).trans (State.gb_sf _ _ _)
  · rw [hin, heq]
    rfl

theorem State.wrHsarUrg_reject {s : State} {v : Word} (hgo : v.toNat.testBit 8 = true) (hbusy : s.gb HSAR_URG_BUSY = true) :
    s.wrHsarUrg v = (s.urgSettings v).sf HSAR_URG_REJECT 1 := by
  rw [State.wrHsarUrg_eq, hgo, State.urgSettings_busy, hbusy]
  rfl

/-! ### The end of an urgent conversion -/

/-- The result of an urgent conversion in its register, with the status that goes with it. -/
def State.urgResult (s : State) (pfi : Bool) (value : Int) : State :=
  let un := b2n (!s.gb SAR_CAL_STATUS_HSAR_VALID)
  if pfi then (s.si HSAR_PFI_RES_VALUE value).sfs [(HSAR_PFI_RES_UNCAL, un), (HSAR_PFI_RES_NEW, 1)]
  else (s.si HSAR_URG_RES_VALUE value).sfs [(HSAR_URG_RES_UNCAL, un), (HSAR_URG_BUSY, 0), (HSAR_URG_DONE, 1)]

/-- The end of an urgent conversion writes its result; what follows it changes the converters alone. -/
theorem execHsarUrgentDone_of {s : State} {pfi : Bool} {c : Nat} (value : Int) (h : s.sar.urg = some (pfi, c)) :
    ∃ t u : State, exec (.hsarUrgentDone value) s = .next t ∧ t.regs = (u.urgResult pfi value).regs := by
  let u := if c = 0 then s.tdrift value else s
  let r := (u.urgResult pfi value).setSar (fun x => { x with urg := none })
  refine ⟨if r.hsarUrgent.sar.urg.isSome then r.hsarUrgent
    else if r.hsarUrgent.sar.newPass && !r.hsarUrgent.sar.calH then
      r.hsarUrgent.setSar (fun x => { x with pos := r.hsarUrgent.hsarNext 0, newPass := false })
    else r.hsarUrgent, u, ?_, ?_⟩
  · show execHsarUrgentDone value s = _
    unfold execHsarUrgentDone
    rw [h]
    rfl
  · have hregs : r.hsarUrgent.regs = (u.urgResult pfi value).regs := r.hsarUrgent_regs
    split_ifs <;> exact hregs

theorem State.urgResult_host (s : State) (value : Int) :
    (s.urgResult false value).gb HSAR_URG_BUSY = false ∧ (s.urgResult false value).gb HSAR_URG_DONE = true ∧
      (s.urgResult false value).gf HSAR_URG_RES_VALUE = ofSigned HSAR_URG_RES_VALUE.w value % 2 ^ HSAR_URG_RES_VALUE.w := by
  unfold State.urgResult
  simp only [Bool.false_eq_true, if_false, State.sfs_cons, State.sfs_nil]
  refine ⟨?_, State.gb_sf _ _ _, ?_⟩
  · rw [State.gb_sf_ne _ _ (by decide)]
    exact State.gb_sf _ _ _
  · rw [State.gf_sf_ne _ _ (by decide), State.gf_sf_ne _ _ (by decide), State.gf_sf_ne _ _ (by decide)]
    exact s.gf_sf _ _

theorem State.urgResult_pfi (s : State) (value : Int) :
    (s.urgResult true value).gb HSAR_PFI_RES_NEW = true ∧
      (s.urgResult true value).gf HSAR_PFI_RES_VALUE = ofSigned HSAR_PFI_RES_VALUE.w value % 2 ^ HSAR_PFI_RES_VALUE.w := by
  unfold State.urgResult
  simp only [if_true, State.sfs_cons, State.sfs_nil]
  refine ⟨State.gb_sf _ _ _, ?_⟩
  rw [State.gf_sf_ne _ _ (by decide), State.gf_sf_ne _ _ (by decide)]
  exact s.gf_sf _ _

/-- Settles O30: GO after the settings of the same write, the end through the result that it writes. -/
theorem urgentConversions : Obligations.UrgentConversions := by
  refine ⟨fun s v hs hgo hbusy hurg hpfi => ⟨s.wrHsarUrg v, next_ite_serving hs, State.wrHsarUrg_go hgo hbusy hurg hpfi⟩,
    fun s v hs hgo hbusy => ⟨s.wrHsarUrg v, next_ite_serving hs, ?_⟩, fun s c x hurg => ?_, fun s c x hurg => ?_⟩
  · rw [State.wrHsarUrg_reject hgo hbusy]
    exact ⟨State.gb_sf _ _ _, s.urgSettings_sar v⟩
  · obtain ⟨t, u, ht, hregs⟩ := execHsarUrgentDone_of x hurg
    obtain ⟨hbusy, hdone, hval⟩ := u.urgResult_host x
    exact ⟨t, ht, (State.gb_of_regs hregs _).trans hbusy, (State.gb_of_regs hregs _).trans hdone, (State.gf_of_regs hregs _).trans hval⟩
  · obtain ⟨t, u, ht, hregs⟩ := execHsarUrgentDone_of x hurg
    obtain ⟨hnew, hval⟩ := u.urgResult_pfi x
    exact ⟨t, ht, (State.gb_of_regs hregs _).trans hnew, (State.gf_of_regs hregs _).trans hval⟩

end Sys2Proof.Machine
end

section
/-! SUPPORT. The house converter (R115 to R117, R121, R122): the first enabled entry, what an entry publishes, what a pass, a conversion, a
window's end and a write of an entry make of it. -/

namespace Sys2Proof.Machine

/-! ### The sequence -/

/-- The next enabled entry rests on the EN bits alone. -/
theorem State.hsarNext_congr {s t : State} (h : ∀ j < 32, t.gb (HSAR_SEQ_EN j) = s.gb (HSAR_SEQ_EN j)) (i : Nat) : t.hsarNext i = s.hsarNext i :=
  List.find?_congr fun j hj => by rw [h j (List.mem_range.1 hj)]

theorem State.Keeps.hsarNext {m : Nat} {s t : State} (h : State.Keeps m s t) (hm : m.testBit (64 + RegGroup.hsarSeq.ctorIdx) = false) (i : Nat) :
    t.hsarNext i = s.hsarNext i :=
  State.hsarNext_congr (fun j hj => h.gb (HSAR_SEQ_EN j) (show 5 < 32 by decide)
    (by rw [RegGroup.hsarSeq_at (by dsimp only; omega) (by dsimp only; omega)]; exact hm)) i

/-! ### Passes (R116, R117) -/

/-- A tick counts its pass, and ends the common window when its last pass is over. -/
def State.passCounted (s : State) : State :=
  let s := s.setSar (fun x => { x with pass := x.pass + 1 })
  if s.sar.pass % s.hsarWin = 0 then s.hsarWindow else s

theorem State.passCounted_rest (s : State) :
    s.passCounted.regs = s.regs ∧ s.passCounted.sar.pass = s.sar.pass + 1 ∧ s.passCounted.sar.pos = s.sar.pos ∧
      s.passCounted.sar.calH = s.sar.calH ∧ s.passCounted.sar.boot = s.sar.boot ∧ s.passCounted.sar.urg = s.sar.urg := by
  unfold State.passCounted
  simp only []
  split_ifs <;> exact ⟨rfl, rfl, rfl, rfl, rfl, rfl⟩

/-- The tick of a pass that nothing else holds up: what the last pass left out is counted, and the first enabled entry starts. -/
theorem execHsarPassTick_of {s : State} (hhalt : s.gb TIME_STATUS_HALTED = false) (hpor : s.rst.phase ≠ .por) (hreset : s.rst.phase ≠ .inReset)
    (hcal : s.sar.calH = false) (hboot : s.sar.boot = none) (hurg : s.sar.urg = none) :
    exec .hsarPassTick s = .next ((s.passCounted.incSat HSAR_SEQ_CTRL_SKIPPED s.passCounted.hsarLeft).setSar (fun x =>
      { x with pos := (s.passCounted.incSat HSAR_SEQ_CTRL_SKIPPED s.passCounted.hsarLeft).hsarNext 0, newPass := false })) := by
  obtain ⟨-, -, -, hcal', hboot', hurg'⟩ := s.passCounted_rest
  have hgo : (s.gb TIME_STATUS_HALTED || s.rst.phase == .por || s.rst.phase == .inReset) = false := by
    rw [hhalt, beq_false_of_ne hpor, beq_false_of_ne hreset]
    rfl
  have heq : execHsarPassTick s = .next (if s.gb TIME_STATUS_HALTED || s.rst.phase == .por || s.rst.phase == .inReset then s
      else if s.passCounted.sar.calH || s.passCounted.sar.boot.isSome then s.passCounted
      else if s.passCounted.sar.urg.isSome then
        (s.passCounted.incSat HSAR_SEQ_CTRL_SKIPPED s.passCounted.hsarLeft).setSar (fun x => { x with pos := none, newPass := true })
      else (s.passCounted.incSat HSAR_SEQ_CTRL_SKIPPED s.passCounted.hsarLeft).setSar (fun x =>
        { x with pos := (s.passCounted.incSat HSAR_SEQ_CTRL_SKIPPED s.passCounted.hsarLeft).hsarNext 0, newPass := false })) := rfl
  show execHsarPassTick s = _
  rw [heq, hgo, hcal', hcal, hboot', hboot, hurg', hurg]
  rfl

theorem State.hsarLeft_of {s t : State} (hr : t.regs = s.regs) (hp : t.sar.pos = s.sar.pos) : t.hsarLeft = s.hsarLeft := by
  unfold State.hsarLeft
  simp only [hp, State.gb_of_regs hr]

theorem State.passTick_result (s : State) :
    (s.passCounted.incSat HSAR_SEQ_CTRL_SKIPPED s.passCounted.hsarLeft).hsarNext 0 = s.hsarNext 0 ∧
      (s.passCounted.incSat HSAR_SEQ_CTRL_SKIPPED s.passCounted.hsarLeft).gf HSAR_SEQ_CTRL_SKIPPED =
        min (s.gf HSAR_SEQ_CTRL_SKIPPED + s.hsarLeft) (2 ^ HSAR_SEQ_CTRL_SKIPPED.w - 1) := by
  obtain ⟨hregs, -, hpos, -⟩ := s.passCounted_rest
  constructor
  · refine State.hsarNext_congr (fun j hj => ?_) 0
    exact (State.gb_sf_ne _ _ (Fld.key_ne (by decide) (show 5 < 32 by decide) (.inr (show 16 ≠ 5 by decide)))).trans (State.gb_of_regs hregs _)
  · have hlt : min (s.gf HSAR_SEQ_CTRL_SKIPPED + s.hsarLeft) (2 ^ HSAR_SEQ_CTRL_SKIPPED.w - 1) < 2 ^ HSAR_SEQ_CTRL_SKIPPED.w :=
      Nat.lt_of_le_of_lt (Nat.min_le_right _ _) (by decide)
    unfold State.incSat
    rw [State.gf_sf, State.gf_of_regs hregs, State.hsarLeft_of hregs hpos, Nat.mod_eq_of_lt hlt]

/-! ### Results (R121) -/

/-- What a published result may change beside its register: TDRIFT, and what a REFCAP result reports. -/
def resultScope : Nat :=
  scopeMask (reporting ++ ([.stat, .link, .nvm] : List StatePart)) (reportRegs ++ ([.afeRef, .tsarCtrl, .aggStat, .statSeq] : List RegGroup))

/-- The result register of an entry when it publishes. -/
def State.hsarWritten (s : State) (i : Nat) (v : Int) (missed : Bool) : State :=
  let s := s.si (HSAR_RES_VALUE i) v
  (s.sfs [(HSAR_RES_VALID i, 1), (HSAR_RES_MISSED i, b2n missed), (HSAR_RES_UNCAL i, b2n (!s.gb SAR_CAL_STATUS_HSAR_VALID))]).incWrap (HSAR_RES_COUNT i) 1

theorem State.hsarPut_keeps_written (s : State) (i : Nat) (v : Int) (missed : Bool) :
    State.Keeps resultScope (s.hsarWritten i v missed) (s.hsarPut i v missed) := by
  have hdrift : State.Keeps resultScope (s.hsarWritten i v missed)
      (if (s.hsarWritten i v missed).gf (HSAR_SEQ_INPUT i) = 0 then (s.hsarWritten i v missed).tdrift v else s.hsarWritten i v missed) :=
    .ite (State.tdrift_keeps rfl (.refl _ _)) (.refl _ _)
  exact .ite (State.refResult_keeps rfl hdrift) hdrift

theorem State.hsarWritten_result (s : State) (i : Nat) (v : Int) (missed : Bool) :
    (s.hsarWritten i v missed).gf (HSAR_RES_VALUE i) = ofSigned (HSAR_RES_VALUE i).w v % 2 ^ (HSAR_RES_VALUE i).w ∧
      (s.hsarWritten i v missed).gb (HSAR_RES_VALID i) = true ∧
      (s.hsarWritten i v missed).gf (HSAR_RES_COUNT i) = (s.gf (HSAR_RES_COUNT i) + 1) % 2 ^ (HSAR_RES_COUNT i).w := by
  have hne : ∀ {a b : Nat} (c d : Nat), a < 32 → b < 32 → a ≠ b → (⟨0x0780 + 4 * i, a, c⟩ : Fld).key ≠ (⟨0x0780 + 4 * i, b, d⟩ : Fld).key :=
    fun c d ha hb hab => Fld.key_ne ha hb (.inr hab)
  unfold State.hsarWritten State.incWrap
  simp only [State.sfs_cons, State.sfs_nil]
  refine ⟨?_, ?_, ?_⟩
  · rw [State.gf_sf_ne _ _ (hne _ _ (by decide) (by decide) (by decide)), State.gf_sf_ne _ _ (hne _ _ (by decide) (by decide) (by decide)),
      State.gf_sf_ne _ _ (hne _ _ (by decide) (by decide) (by decide)), State.gf_sf_ne _ _ (hne _ _ (by decide) (by decide) (by decide))]
    exact s.gf_sf _ _
  · rw [State.gb_sf_ne _ _ (hne _ _ (by decide) (by decide) (by decide)), State.gb_sf_ne _ _ (hne _ _ (by decide) (by decide) (by decide)),
      State.gb_sf_ne _ _ (hne _ _ (by decide) (by decide) (by decide))]
    exact State.gb_sf _ _ _
  · rw [State.gf_sf, State.gf_sf_ne _ _ (hne _ _ (by decide) (by decide) (by decide)), State.gf_sf_ne _ _ (hne _ _ (by decide) (by decide) (by decide)),
      State.gf_sf_ne _ _ (hne _ _ (by decide) (by decide) (by decide))]
    rw [show (s.si (HSAR_RES_VALUE i) v).gf (HSAR_RES_COUNT i) = s.gf (HSAR_RES_COUNT i) from
      s.gf_sf_ne _ (hne _ _ (by decide) (by decide) (by decide))]

/-- An entry that publishes shows its value as valid and counts it; the sequence and the converters' state stay. -/
theorem State.hsarPut_result (s : State) (i : Fin 32) (v : Int) (missed : Bool) :
    (s.hsarPut i v missed).gf (HSAR_RES_VALUE i) = ofSigned (HSAR_RES_VALUE i).w v % 2 ^ (HSAR_RES_VALUE i).w ∧
      (s.hsarPut i v missed).gb (HSAR_RES_VALID i) = true ∧
      (s.hsarPut i v missed).gf (HSAR_RES_COUNT i) = (s.gf (HSAR_RES_COUNT i) + 1) % 2 ^ (HSAR_RES_COUNT i).w ∧
      (s.hsarPut i v missed).sar = s.sar ∧ ∀ k, (s.hsarPut i v missed).hsarNext k = s.hsarNext k := by
  have hput := State.hsarPut_keeps (x2 := v) (x3 := missed) (Nat.and_self _) (.refl _ s) (.inl i.isLt)
  have hk := s.hsarPut_keeps_written i v missed
  have hreg : ∀ f : Fld, f.off = 0x780 + 4 * i.val → resultScope.testBit (64 + (regGroup f.off).ctorIdx) = false := fun f hf => by
    rw [RegGroup.hsarRes_at (by omega) (by omega)]
    rfl
  obtain ⟨hval, hvalid, hcount⟩ := s.hsarWritten_result i v missed
  exact ⟨(hk.reg _ (show 0 < 32 by decide) (hreg _ rfl)).trans hval, (hk.gb _ (show 16 < 32 by decide) (hreg _ rfl)).trans hvalid,
    (hk.reg _ (show 24 < 32 by decide) (hreg _ rfl)).trans hcount, hput.part .sar rfl, hput.hsarNext rfl⟩

/-! ### Conversions and windows (R121, R122) -/

/-- A conversion of an entry of the sequence: it publishes, or enters the entry's window. -/
def State.hsarTaken (s : State) (i : Fin 32) (value : Int) : State :=
  if s.gf (HSAR_SEQ_ORDER i) = 0 then s.hsarPut i value false
  else s.setSar (fun x => { x with flt := x.flt.set i { x.flt[i] with cur := x.flt[i].cur ++ [(x.pass % s.hsarWin, value)] } })

theorem execHsarConversionDone_of {s : State} {i : Fin 32} (value : Int) (hpos : s.sar.pos = some i.val) (hboot : s.sar.boot = none)
    (hurg : s.sar.urg = none) (hcal : s.sar.calH = false) (hhalt : s.gb TIME_STATUS_HALTED = false) :
    exec (.hsarConversionDone value) s =
      .next ((s.hsarTaken i value).setSar (fun x => { x with pos := (s.hsarTaken i value).hsarNext (i.val + 1) })) := by
  show execHsarConversionDone value s = _
  unfold execHsarConversionDone
  simp only [hurg, hcal, hhalt, hboot, hpos, Option.isSome_none, Bool.or_self, Bool.false_eq_true, if_false, i.isLt, dif_pos]
  rfl

theorem execHsarFilterPublish_of {s : State} {i : Fin 32} {x : Int} (hdue : s.sar.pubDue.testBit i.val = true)
    (hlen : s.gf (HSAR_SEQ_ORDER i) ≤ (s.sar.flt[i]).hist.length) (hhead : (s.sar.flt[i]).hist.headD [] ≠ [])
    (hval : filterValue s.hsarWin (s.gf (HSAR_SEQ_ORDER i)) (s.sar.flt[i]).hist = some x) :
    exec (.hsarFilterPublish i) s = .next ((s.setSar (fun x => { x with pubDue := x.pubDue ^^^ 2 ^ i.val })).hsarPut i x
      (decide (((s.sar.flt[i]).hist.headD []).length < s.hsarWin))) := by
  have hskip : (decide ((s.sar.flt[i]).hist.length < s.gf (HSAR_SEQ_ORDER i)) || ((s.sar.flt[i]).hist.headD []).isEmpty) = false := by
    rw [decide_eq_false (Nat.not_lt.2 hlen), Bool.false_or, List.isEmpty_eq_false_iff]
    exact hhead
  have heq : execHsarFilterPublish i s = .next (if !s.sar.pubDue.testBit i then s
      else if decide ((s.sar.flt[i]).hist.length < s.gf (HSAR_SEQ_ORDER i)) || ((s.sar.flt[i]).hist.headD []).isEmpty then
        s.setSar (fun x => { x with pubDue := x.pubDue ^^^ 2 ^ i.val })
      else
        match filterValue s.hsarWin (s.gf (HSAR_SEQ_ORDER i)) (s.sar.flt[i]).hist with
        | none => s.setSar (fun x => { x with pubDue := x.pubDue ^^^ 2 ^ i.val })
        | some v => (s.setSar (fun x => { x with pubDue := x.pubDue ^^^ 2 ^ i.val })).hsarPut i v
            (decide (((s.sar.flt[i]).hist.headD []).length < s.hsarWin))) := by
    unfold execHsarFilterPublish
    rfl
  show execHsarFilterPublish i s = _
  rw [heq, hdue, hskip, hval]
  rfl

/-! ### Writes of an entry (R115) -/

theorem State.wrHsarSeq_fixed (s : State) {i : Fin 32} (v : Word) (hi : i.val < 6) : s.wrHsarSeq i v = s := by
  unfold State.wrHsarSeq
  rw [if_pos hi]

theorem State.hsarRestart_gf (s : State) (i : Fin 32) {f : Fld} (hoff : f.off < 0x780) (hlo : f.lo < 32) : (s.hsarRestart i).gf f = s.gf f :=
  (State.gf_sf_ne _ _ (Fld.key_ne (show 16 < 32 by decide) hlo (.inl (by dsimp only; omega)))).trans rfl

theorem State.wrHsarSeq_fields (s : State) {i : Fin 32} {v : Word} (hi : 6 ≤ i.val) (hcode : hsarCode (v.toNat % 32) = true)
    (hord : v.toNat / 64 % 8 ≤ 4) :
    (s.wrHsarSeq i v).gf (HSAR_SEQ_INPUT i) = v.toNat % 32 ∧ (s.wrHsarSeq i v).gb (HSAR_SEQ_EN i) = v.toNat.testBit 5 ∧
      (s.wrHsarSeq i v).gf (HSAR_SEQ_ORDER i) = v.toNat / 64 % 8 := by
  have hoff : 0x0700 + 4 * i.val < 0x780 := by omega
  have hne : ∀ {a b : Nat} (c d : Nat), a < 32 → b < 32 → a ≠ b → (⟨0x0700 + 4 * i.val, a, c⟩ : Fld).key ≠ (⟨0x0700 + 4 * i.val, b, d⟩ : Fld).key :=
    fun c d ha hb hab => Fld.key_ne ha hb (.inr hab)
  have hrest : ∀ f : Fld, f.off < 0x780 → f.lo < 32 → (s.wrHsarSeq i v).gf f =
      (((s.sf (HSAR_SEQ_INPUT i) (v.toNat % 32)).sf (HSAR_SEQ_EN i) (v.toNat / 32)).sf (HSAR_SEQ_ORDER i) (v.toNat / 64 % 8)).gf f := by
    intro f hf hlo
    unfold State.wrHsarSeq
    simp only [Nat.not_lt.2 hi, if_false, hcode, if_true, hord, State.sfs_cons, State.sfs_nil]
    split_ifs
    · exact State.hsarRestart_gf _ i hf hlo
    · rfl
  refine ⟨?_, ?_, ?_⟩
  · rw [hrest _ hoff (by dsimp only; decide), State.gf_sf_ne _ _ (hne _ _ (by decide) (by decide) (by decide)),
      State.gf_sf_ne _ _ (hne _ _ (by decide) (by decide) (by decide)), State.gf_sf]
    exact Nat.mod_mod _ _
  · unfold State.gb
    rw [hrest _ hoff (by dsimp only; decide), State.gf_sf_ne _ _ (hne _ _ (by decide) (by decide) (by decide)), State.gf_sf]
    exact decide_bit _ 5
  · rw [hrest _ hoff (by dsimp only; decide), State.gf_sf]
    exact Nat.mod_mod _ _

/-- Settles O29: the pass from the state that has counted it, a conversion and a window's end through what an entry publishes, a write
through its three fields. -/
theorem houseConverter : Obligations.HouseConverter := by
  refine ⟨fun s hhalt hpor hreset hcal hboot hurg => ?_, fun s i x hpos hboot hurg hcal hhalt => ?_, fun s i x hdue hlen hhead hval => ?_,
    fun s i v hs hi hcode hord => ⟨s.wrHsarSeq i v, next_ite_serving hs, s.wrHsarSeq_fields hi hcode hord⟩, fun s i v hi => ?_⟩
  · obtain ⟨-, hpass, -⟩ := s.passCounted_rest
    obtain ⟨hnext, hskip⟩ := s.passTick_result
    exact ⟨_, execHsarPassTick_of hhalt hpor hreset hcal hboot hurg, hpass, hnext, hskip⟩
  · refine ⟨_, execHsarConversionDone_of x hpos hboot hurg hcal hhalt, ?_, fun hord => ?_, fun hord => ?_⟩
    · show (s.hsarTaken i x).hsarNext (i.val + 1) = _
      unfold State.hsarTaken
      split_ifs
      · obtain ⟨-, -, -, -, hnext⟩ := s.hsarPut_result i x false
        exact hnext _
      · rfl
    · obtain ⟨hval, hvalid, hcount, -, -⟩ := s.hsarPut_result i x false
      unfold State.hsarTaken
      rw [if_pos hord]
      exact ⟨hval, hvalid, hcount⟩
    · unfold State.hsarTaken
      rw [if_neg hord]
      refine ⟨rfl, ?_⟩
      simp [State.setSar]
  · refine ⟨_, execHsarFilterPublish_of hdue hlen hhead hval, ?_⟩
    obtain ⟨hres, hvalid, -, hsar, -⟩ := (s.setSar (fun x => { x with pubDue := x.pubDue ^^^ 2 ^ i.val })).hsarPut_result i x
      (decide (((s.sar.flt[i]).hist.headD []).length < s.hsarWin))
    refine ⟨?_, hvalid, hres⟩
    rw [hsar]
    exact testBit_xor_pow hdue
  · show execHsarSeqWrite (some i) v s = _
    unfold execHsarSeqWrite
    simp only [s.wrHsarSeq_fixed v hi, ite_self]

end Sys2Proof.Machine
end

section
/-! SUPPORT. The fast path (R111, R112, R114), transient events (R209 to R211) and supraharmonic runs (R189, R190): what a write of a comparator
sets, what an EVT record of an input leaves, and that what follows a run's SUPRA record keeps it and its cover. -/

namespace Sys2Proof.Machine

/-! ### Writes of comparators (R112) -/

theorem State.wrFast_lvl {s : State} {n : Fin 8} {v : Word} (hpres : s.trPresent n = true) :
    (s.wrFast (.lvl n) v).gf (FAST_LVL_LEVEL n) = v.toNat % 2 ^ (FAST_LVL_LEVEL n).w ∧
      (s.wrFast (.lvl n) v).gf (FAST_LVL_HYST n) = v.toNat / 65536 % 2 ^ (FAST_LVL_HYST n).w := by
  have hne : (FAST_LVL_HYST n).key ≠ (FAST_LVL_LEVEL n).key := Fld.key_ne (show 16 < 32 by decide) (show 0 < 32 by decide) (.inr (by dsimp only; decide))
  unfold State.wrFast
  simp only [hpres, Bool.not_true, Bool.false_eq_true, if_false, State.sfs_cons, State.sfs_nil]
  exact ⟨(State.gf_sf_ne _ _ hne).trans (State.gf_sf _ _ _), State.gf_sf _ _ _⟩

/-- The fields of a pair's FAST_DVDT that a write sets, before its disabled comparators deassert. -/
def State.dvdtWritten (s : State) (n : Fin 8) (w : Nat) : State :=
  s.sfs [(FAST_DVDT_STEP n, w), (FAST_DVDT_LVL_EN n, w / 65536), (FAST_DVDT_DVDT_EN n, w / 131072)]

/-- A disabled comparator deasserts. -/
def State.dvdtCleared (s : State) (n : Fin 8) (w : Nat) : State :=
  let s := if w.testBit 16 then s else s.sf (FAST_DVDT_LVL_STATE n) 0
  if w.testBit 17 then s else s.sf (FAST_DVDT_DVDT_STATE n) 0

theorem State.wrFast_dvdt_eq {s : State} {n : Fin 8} (v : Word) (hpres : s.trPresent n = true) :
    s.wrFast (.dvdt n) v = ((s.dvdtWritten n v.toNat).dvdtCleared n v.toNat).fastPins := by
  have heq : s.wrFast (.dvdt n) v = if !s.trPresent n then s else ((s.dvdtWritten n v.toNat).dvdtCleared n v.toNat).fastPins := rfl
  rw [heq, hpres]
  rfl

/-- Fields of FAST_DVDTn that start at different bits. -/
theorem dvdt_key_ne (n : Nat) {a b : Nat} (c d : Nat) (ha : a < 32) (hb : b < 32) (h : a ≠ b) :
    (⟨0x06C4 + 8 * n, a, c⟩ : Fld).key ≠ (⟨0x06C4 + 8 * n, b, d⟩ : Fld).key := Fld.key_ne ha hb (.inr h)

theorem State.dvdtWritten_fields (s : State) (n : Fin 8) (w : Nat) :
    (s.dvdtWritten n w).gf (FAST_DVDT_STEP n) = w % 2 ^ (FAST_DVDT_STEP n).w ∧ (s.dvdtWritten n w).gb (FAST_DVDT_LVL_EN n) = w.testBit 16 ∧
      (s.dvdtWritten n w).gb (FAST_DVDT_DVDT_EN n) = w.testBit 17 := by
  have hne := fun {a b : Nat} => dvdt_key_ne n (a := a) (b := b)
  unfold State.dvdtWritten
  simp only [State.sfs_cons, State.sfs_nil]
  refine ⟨?_, ?_, ?_⟩
  · rw [State.gf_sf_ne _ _ (hne _ _ (by decide) (by decide) (by decide)), State.gf_sf_ne _ _ (hne _ _ (by decide) (by decide) (by decide)),
      State.gf_sf]
  · rw [State.gb_sf_ne _ _ (hne _ _ (by decide) (by decide) (by decide)), State.gb_sf]
    exact decide_bit w 16
  · rw [State.gb_sf]
    exact decide_bit w 17

/-- What a write of FAST_DVDTn leaves of its settings, and which states it clears. -/
theorem State.dvdtCleared_fields (s : State) (n : Fin 8) (w : Nat) :
    (∀ f : Fld, f.lo < 18 → (s.dvdtCleared n w).gf f = s.gf f) ∧
      (w.testBit 16 = false → (s.dvdtCleared n w).gb (FAST_DVDT_LVL_STATE n) = false) ∧
      (w.testBit 17 = false → (s.dvdtCleared n w).gb (FAST_DVDT_DVDT_STATE n) = false) := by
  unfold State.dvdtCleared
  refine ⟨fun f hf => ?_, fun h => ?_, fun h => ?_⟩
  · have hl : ∀ u : State, (u.sf (FAST_DVDT_LVL_STATE n) 0).gf f = u.gf f := fun u =>
      u.gf_sf_ne _ (Fld.key_ne (show 18 < 32 by decide) (by omega) (.inr (by dsimp only; omega)))
    have hd : ∀ u : State, (u.sf (FAST_DVDT_DVDT_STATE n) 0).gf f = u.gf f := fun u =>
      u.gf_sf_ne _ (Fld.key_ne (show 19 < 32 by decide) (by omega) (.inr (by dsimp only; omega)))
    simp only []
    split_ifs <;> simp only [hl, hd]
  · have hl : (s.sf (FAST_DVDT_LVL_STATE n) 0).gb (FAST_DVDT_LVL_STATE n) = false := s.gb_sf _ _
    simp only [h, Bool.false_eq_true, if_false]
    split_ifs
    · exact hl
    · rw [State.gb_sf_ne _ _ (dvdt_key_ne n _ _ (by decide) (by decide) (by decide)), hl]
  · simp only [h, Bool.false_eq_true, if_false]
    exact State.gb_sf _ _ _

theorem State.wrFast_dvdt {s : State} {n : Fin 8} {v : Word} (hpres : s.trPresent n = true) :
    (s.wrFast (.dvdt n) v).gf (FAST_DVDT_STEP n) = v.toNat % 2 ^ (FAST_DVDT_STEP n).w ∧
      (s.wrFast (.dvdt n) v).gb (FAST_DVDT_LVL_EN n) = v.toNat.testBit 16 ∧ (s.wrFast (.dvdt n) v).gb (FAST_DVDT_DVDT_EN n) = v.toNat.testBit 17 ∧
      (v.toNat.testBit 16 = false → (s.wrFast (.dvdt n) v).gb (FAST_DVDT_LVL_STATE n) = false) ∧
      (v.toNat.testBit 17 = false → (s.wrFast (.dvdt n) v).gb (FAST_DVDT_DVDT_STATE n) = false) := by
  obtain ⟨hstep, hlvl, hdvdt⟩ := s.dvdtWritten_fields n v.toNat
  obtain ⟨hsame, hlst, hdst⟩ := (s.dvdtWritten n v.toNat).dvdtCleared_fields n v.toNat
  have hk := State.fastPins_keeps (Nat.and_self _) (.refl _ ((s.dvdtWritten n v.toNat).dvdtCleared n v.toNat))
  have hgf : ∀ f : Fld, f.lo < 32 → f.off = 0x06C4 + 8 * n.val →
      (s.wrFast (.dvdt n) v).gf f = ((s.dvdtWritten n v.toNat).dvdtCleared n v.toNat).gf f := fun f hlo hoff => by
    rw [State.wrFast_dvdt_eq v hpres, hk.reg f hlo (by rw [RegGroup.fast_at (by omega) (by omega)]; rfl)]
  have hgb : ∀ f : Fld, f.lo < 32 → f.off = 0x06C4 + 8 * n.val →
      (s.wrFast (.dvdt n) v).gb f = ((s.dvdtWritten n v.toNat).dvdtCleared n v.toNat).gb f := fun f hlo hoff => by
    unfold State.gb
    rw [hgf f hlo hoff]
  have hen : ∀ f : Fld, f.lo < 18 → f.off = 0x06C4 + 8 * n.val → (s.wrFast (.dvdt n) v).gb f = (s.dvdtWritten n v.toNat).gb f :=
    fun f hlo hoff => by
      unfold State.gb
      rw [hgf f (by omega) hoff, hsame f hlo]
  exact ⟨(hgf _ (show 0 < 32 by decide) rfl).trans ((hsame _ (show 0 < 18 by decide)).trans hstep), (hen _ (show 16 < 18 by decide) rfl).trans hlvl,
    (hen _ (show 17 < 18 by decide) rfl).trans hdvdt, fun h => (hgb _ (show 18 < 32 by decide) rfl).trans (hlst h),
    fun h => (hgb _ (show 19 < 32 by decide) rfl).trans (hdst h)⟩

/-! ### Transient events (R209 to R211) -/

theorem State.isReady_of_forms {s : State} (h : s.forms = true) : s.isReady = true := (Bool.and_eq_true_iff.1 h).1

theorem State.setTs_ts (s : State) (n : Fin 8) (f : Tsar → Tsar) : (s.setTs n f).ts n = f (s.ts n) := by
  simp [State.setTs, State.setSar]

/-- A record that its rings are fed with is the newest one, with its class and its AUX word. -/
theorem State.emit_newest {s : State} (r : Rec) (hforms : s.forms = true) (hfed : s.starved r.cls = false) :
    ∃ q, (s.emit r).formed = s.formed ++ [q] ∧ q.cls = r.cls ∧ q.aux = r.aux :=
  ⟨_, s.emitL_formed 0 r hforms hfed, s.sliced_shadowed_head r⟩

theorem State.tsEvt_eq (s : State) (n : Fin 8) (aux last1 flags : Nat) (payload : List Byte) :
    ∃ r : Rec, s.tsEvt n aux last1 flags payload = (s.setTs n (fun x => { x with evCov := max x.evCov last1 })).emit r ∧
      r.cls = clsEVT ∧ r.aux = aux := ⟨_, rfl, rfl, rfl⟩

/-- An EVT record of an input is the newest record, and moves the input's event cover. -/
theorem State.tsEvt_result {s : State} (n : Fin 8) (aux last1 flags : Nat) (payload : List Byte) (hforms : s.forms = true)
    (hfed : s.starved clsEVT = false) :
    (∃ r, (s.tsEvt n aux last1 flags payload).formed.getLast? = some r ∧ r.cls = clsEVT ∧ r.aux = aux) ∧
      (s.tsEvt n aux last1 flags payload).ts n = { s.ts n with evCov := max (s.ts n).evCov last1 } ∧
      (s.tsEvt n aux last1 flags payload).sar.fastq = s.sar.fastq := by
  obtain ⟨r, heq, hcls, haux⟩ := s.tsEvt_eq n aux last1 flags payload
  rw [heq]
  generalize hu : s.setTs n (fun x => { x with evCov := max x.evCov last1 }) = u
  have hsar : (u.emit r).sar = u.sar := (State.emit_keeps (Nat.and_self _) (.refl _ u)).part .sar rfl
  have huforms : u.forms = true := hu ▸ hforms
  have hufed : u.starved r.cls = false := by
    rw [hcls, ← hu]
    exact hfed
  obtain ⟨q, hq, hqcls, hqaux⟩ := State.emit_newest r huforms hufed
  refine ⟨⟨q, ?_, hqcls.trans hcls, hqaux.trans haux⟩, ?_, ?_⟩
  · rw [hq, List.getLast?_append]
    rfl
  · unfold State.ts
    rw [hsar, ← hu]
    exact s.setTs_ts n _
  · rw [hsar, ← hu]
    rfl

/-- An entry of the second that is counted, with room in it, is recorded (R210). -/
theorem State.transientTake_counted {s : State} {e : FastEntry} (hsec : (s.ts e.pair).time e.idx / 2 ^ 32 = (s.ts e.pair).sec)
    (hcnt : (s.ts e.pair).cnt < max 1 (s.gf TRN_CFG_NMAX)) :
    ∃ payload, s.transientTake e = (s.setTs e.pair (fun x => { x with cnt := x.cnt + 1 })).tsEvt e.pair 0x20 (e.idx + 1) 0 payload := by
  unfold State.transientTake
  simp only [hsec, ne_eq, not_true_eq_false, if_false, hcnt, if_true]
  exact ⟨_, rfl⟩

theorem execTransientRecord_of {s : State} {e : FastEntry} {l : List FastEntry} (hq : s.sar.fastq = e :: l) (hready : s.isReady = true)
    (hcore : s.time.coreStop = false) : exec .transientRecord s = .next ((s.setSar (fun x => { x with fastq := l })).transientTake e) := by
  show execTransientRecord s = _
  unfold execTransientRecord
  rw [hq, hready, hcore]
  rfl

theorem execTburstRecord_of {s : State} (n : Fin 8) (hready : s.isReady = true) : exec (.tburstRecord n) s = .next (s.tsBurst n) := by
  show execTburstRecord n s = _
  unfold execTburstRecord
  rw [if_pos hready]

/-- Withheld entries give their TBURST record (R210). -/
theorem State.tsBurst_withheld {s : State} {n : Fin 8} (h : (s.ts n).wl + (s.ts n).wd ≠ 0) :
    ∃ last1 payload, s.tsBurst n = (s.setTs n (fun x => { x with wl := 0, wd := 0 })).tsEvt n 0x21 last1 0 payload := by
  unfold State.tsBurst
  simp only [h, if_false]
  exact ⟨_, _, rfl⟩

/-! ### Supraharmonic runs (R189 to R195) -/

/-- What an operation adds to: the records formed stay, and the input's supraharmonic cover. -/
structure State.SupExtends (n : Fin 8) (s t : State) : Prop where
  formed : s.formed <+: t.formed
  cov : (t.ts n).supCov = (s.ts n).supCov

section
variable {n : Fin 8} {s t u : State}

theorem State.SupExtends.refl (n : Fin 8) (s : State) : State.SupExtends n s s := ⟨List.prefix_refl _, rfl⟩

theorem State.SupExtends.trans (h : State.SupExtends n s t) (h' : State.SupExtends n t u) : State.SupExtends n s u :=
  ⟨h.formed.trans h'.formed, h'.cov.trans h.cov⟩

theorem State.SupExtends.ite {c : Prop} [Decidable c] (ht : State.SupExtends n s t) (hu : State.SupExtends n s u) :
    State.SupExtends n s (if c then t else u) := by
  split <;> assumption

theorem State.Keeps.supExtends {m : Nat} (h : State.Keeps m s t) (hf : m.testBit StatePart.formed.ctorIdx = false)
    (hs : m.testBit StatePart.sar.ctorIdx = false) : State.SupExtends n s t := by
  have hformed : t.formed = s.formed := h.part .formed hf
  have hsar : t.sar = s.sar := h.part .sar hs
  refine ⟨hformed ▸ List.prefix_refl _, ?_⟩
  unfold State.ts
  rw [hsar]

end

/-- Forming a record takes none of those before it back. -/
theorem State.emitL_formed_prefix (s : State) (lvl : Nat) (r : Rec) : s.formed <+: (s.emitL lvl r).formed := by
  cases hforms : s.forms with
  | true =>
    cases hfed : s.starved r.cls with
    | false => exact s.emitL_formed lvl r hforms hfed ▸ List.prefix_append _ _
    | true =>
      unfold State.emitL
      simp only [(s.sliced_shadowed_head r).1, hfed, Bool.or_true, if_true]
      exact List.prefix_refl _
  | false =>
    have harch : ∀ u : State, u.archFlush.formed = u.formed := fun u =>
      (State.archFlush_keeps (Nat.and_self _) (.refl _ u)).part .formed rfl
    unfold State.emitL
    simp only []
    split_ifs with h1 h2 h3
    · exact List.prefix_refl _
    · rw [harch]
    · exact List.prefix_refl _
    all_goals
      simp only [Bool.or_eq_true, Bool.not_eq_true', not_or, Bool.not_eq_true, Bool.not_eq_false] at h1 h2
      unfold State.forms at hforms
      rw [h1.1, h2] at hforms
      cases hforms

theorem State.emitL_supExtends (s : State) (n : Fin 8) (lvl : Nat) (r : Rec) : State.SupExtends n s (s.emitL lvl r) := by
  have hsar : (s.emitL lvl r).sar = s.sar := (State.emitL_keeps (Nat.and_self _) (.refl _ s)).part .sar rfl
  refine ⟨s.emitL_formed_prefix lvl r, ?_⟩
  unfold State.ts
  rw [hsar]

theorem State.emit_supExtends (s : State) (n : Fin 8) (r : Rec) : State.SupExtends n s (s.emit r) := s.emitL_supExtends n 0 r

theorem State.setTs_supExtends (s : State) (n : Fin 8) {f : Tsar → Tsar} (h : ∀ x, (f x).supCov = x.supCov) :
    State.SupExtends n s (s.setTs n f) :=
  ⟨List.prefix_refl _, by rw [State.setTs_ts, h]⟩

theorem State.supOrder_supExtends (s : State) (n : Fin 8) : State.SupExtends n s (s.supOrder n) :=
  (State.supOrder_keeps (Nat.and_self _) (.refl _ s)).supExtends rfl rfl

theorem State.release_supExtends (s : State) (n : Fin 8) : State.SupExtends n s s.release :=
  (State.release_keeps (Nat.and_self _) (.refl _ s)).supExtends rfl rfl

theorem State.supClose_supExtends (s : State) (n : Fin 8) (i : Fin 2) (flags : Nat) : State.SupExtends n s (s.supClose n i flags) := by
  unfold State.supClose
  simp only []
  split
  · exact .refl n s
  · refine (s.setTs_supExtends n ?_).trans (State.emitL_supExtends _ n _ _)
    exact fun _ => rfl

theorem State.supAdd_supExtends (s : State) (n : Fin 8) (i : Fin 2) (a : DevTime) (si k m flags : Nat) (sums : List Rat) :
    State.SupExtends n s (s.supAdd n i a si k m flags sums) :=
  s.setTs_supExtends n (fun _ => rfl)

/-- A run enters a level: the level before it closes, and the run may complete it (R222). -/
def State.supLevel (s : State) (n : Fin 8) (a b : DevTime) (w0 k m flags : Nat) (sums : List Rat) (i : Fin 2) : State :=
  let s := if (s.ts n).lvls[i].isOpen && decide ((s.ts n).lvls[i].nom + supLen i ≤ a) then s.supClose n i 0 else s
  let s := s.supAdd n i a w0 k m flags sums
  if (s.ts n).lvls[i].nom + supLen i ≤ b then s.supClose n i 0 else s

theorem State.supLevel_supExtends (n : Fin 8) (s : State) (a b : DevTime) (w0 k m flags : Nat) (sums : List Rat) (i : Fin 2) :
    State.SupExtends n s (s.supLevel n a b w0 k m flags sums i) := by
  have hclose : State.SupExtends n s
      (if (s.ts n).lvls[i].isOpen && decide ((s.ts n).lvls[i].nom + supLen i ≤ a) then s.supClose n i 0 else s) :=
    .ite (s.supClose_supExtends n i 0) (.refl n s)
  have hadd := hclose.trans (State.supAdd_supExtends _ n i a w0 k m flags sums)
  exact .ite (hadd.trans (State.supClose_supExtends _ n i 0)) hadd

theorem State.Keeps.starvedSpc {m : Nat} {s t : State} (h : State.Keeps m s t) (hm : m.testBit (64 + RegGroup.wdogStat.ctorIdx) = false) :
    t.starved clsSPC = s.starved clsSPC :=
  h.mbit WDOG_STAT_WEDGED (by decide) hm 2

/-- A run gives its SUPRA record, and its windows are covered. -/
theorem State.supRecord_result {s : State} (n : Fin 8) (w0 m : Nat) (xs : List (List Rat)) (flags : Nat) (hforms : s.forms = true)
    (hfed : s.starved clsSPC = false) :
    (∃ r, s.formed ++ [r] <+: (s.supRecord n w0 m xs flags).formed ∧ r.cls = clsSPC ∧ r.aux = 2) ∧
      ((s.supRecord n w0 m xs flags).ts n).supCov = w0 + m * supWin := by
  unfold State.supRecord
  extract_lets x sc win sums mean best maxs k a b body u1 u2 u3 one
  obtain ⟨r₀, hu3, hcls₀, haux₀⟩ : ∃ r : Rec, u3 = u2.emit r ∧ r.cls = clsSPC ∧ r.aux = 2 := ⟨_, rfl, rfl, rfl⟩
  have hk : State.Keeps _ u1 u2 := State.supOrder_keeps (Nat.and_self _) (.refl _ u1)
  have hu2 : State.SupExtends n u1 u2 := u1.supOrder_supExtends n
  have hformed : u2.formed = s.formed := hk.part .formed rfl
  have huforms : u2.forms = true := (hk.forms rfl rfl).trans hforms
  have hufed : u2.starved r₀.cls = false := by
    rw [hcls₀]
    exact (hk.starvedSpc rfl).trans hfed
  have hcov : (u1.ts n).supCov = w0 + m * supWin := congrArg Tsar.supCov (s.setTs_ts n _)
  have hone : ∀ u i, State.SupExtends n u (one u i) := fun u i => u.supLevel_supExtends n a b w0 k m flags sums i
  clear_value one u3 u2 u1 body maxs best mean sums win
  obtain ⟨r, hr, hcls, haux⟩ := State.emit_newest r₀ huforms hufed
  have hext : State.SupExtends n u3 (if !x.agg then u3 else ((one (one u3 0) 1).supOrder n).release) :=
    .ite (.refl n u3) ((((hone u3 0).trans (hone _ 1)).trans (State.supOrder_supExtends _ n)).trans (State.release_supExtends _ n))
  refine ⟨⟨r, ?_, hcls.trans hcls₀, haux.trans haux₀⟩, ?_⟩
  · rw [← hformed, ← hr, ← hu3]
    exact hext.formed
  · rw [hext.cov, hu3, (u2.emit_supExtends n r₀).cov, hu2.cov, hcov]

/-! ### The arithmetic of runs -/

theorem Tsar.supNext_lt_supEnd (x : Tsar) : x.supNext < x.supEnd := by
  unfold Tsar.supEnd
  rw [Nat.succ_mul]
  exact Nat.lt_div_mul_add (by decide)

theorem Tsar.dvd_supNext (x : Tsar) : supWin ∣ x.supNext := Dvd.intro_left _ rfl

theorem Tsar.dvd_supEnd (x : Tsar) : supWin ∣ x.supEnd := Dvd.dvd.mul_left (Dvd.intro 40 rfl) _

theorem Tsar.supEnd_windows (x : Tsar) : x.supEnd / supWin * supWin = x.supEnd := Nat.div_mul_cancel x.dvd_supEnd

/-- The windows of a whole run reach from the next used window to the run's end. -/
theorem Tsar.supNext_add_windows (x : Tsar) : x.supNext + (x.supEnd - x.supNext) / supWin * supWin = x.supEnd := by
  rw [Nat.div_mul_cancel (Nat.dvd_sub x.dvd_supEnd x.dvd_supNext), Nat.add_sub_cancel' x.supNext_lt_supEnd.le]

/-- A run whose last window has its filter support gives its record over all its windows, after the gap before it. -/
theorem State.supRun_whole (s : State) (n : Fin 8) (xs : List (List Rat)) :
    ∃ cause flags fl, s.supRun n ((s.ts n).supEnd + supPad) 0 (some xs) =
      (s.supGapTo n (s.ts n).supNext cause flags).supRecord n (s.ts n).supNext (((s.ts n).supEnd - (s.ts n).supNext) / supWin) xs fl := by
  have hmin : min (s.ts n).supEnd (((s.ts n).supEnd + supPad - supPad) / supWin * supWin) = (s.ts n).supEnd := by
    rw [Nat.add_sub_cancel, Tsar.supEnd_windows, min_self]
  unfold State.supRun
  simp only [hmin]
  rw [if_neg (Nat.not_le.2 (Tsar.supNext_lt_supEnd _))]
  exact ⟨_, _, _, rfl⟩

theorem State.supGapTo_formed_prefix (s : State) (n : Fin 8) (lim cause flags : Nat) : s.formed <+: (s.supGapTo n lim cause flags).formed := by
  unfold State.supGapTo
  simp only []
  split
  · exact List.prefix_refl _
  · have hspc : ∀ (u : State) (r : Rec), u.formed = s.formed → s.formed <+: ((u.supOrder n).emit r).formed := fun u r hu => by
      have horder : (u.supOrder n).formed = u.formed := (State.supOrder_keeps (Nat.and_self _) (.refl _ u)).part .formed rfl
      exact hu ▸ horder ▸ (u.supOrder n).emitL_formed_prefix 0 r
    split
    · refine List.IsPrefix.trans (List.IsPrefix.trans (hspc _ _ ?_) (State.emitL_formed_prefix _ _ _)) (State.emitL_formed_prefix _ _ _)
      rfl
    · exact hspc _ _ rfl

theorem execSupraRecordComplete_of {s : State} {n : Fin 8} {xs : List (List Rat)} (hready : s.isReady = true) (hwedged : s.wedged 2 = false)
    (hsup : s.supraOn.testBit n = true) (hon : s.tsOn n = true) (hshadow : (s.ts n).shadow = none) (hlost : (s.ts n).lost = [])
    (hholes : (s.ts n).holes = []) (hend : (s.ts n).supEnd + supPad ≤ (s.ts n).idx)
    (hlen : xs.length = ((s.ts n).supEnd - (s.ts n).supNext) / supWin) (hall : xs.all (fun w => w.length == 5120) = true) :
    exec (.supraRecordComplete n xs) s = .next (s.supRun n ((s.ts n).supEnd + supPad) 0 (some xs)).release := by
  show execSupraRecordComplete n xs s = _
  unfold execSupraRecordComplete
  simp only [hready, hwedged, hsup, hon, hshadow, hlost, hholes, decide_eq_true hend, decide_eq_true hlen, hall, Bool.not_false,
    Option.isNone_none, List.append_nil, List.all_nil, Bool.and_self, if_true]

/-- Settles O28: the comparators' fields by their writes, each record as the newest one or as an addition that what follows keeps. -/
theorem fastPath : Obligations.FastPath := by
  refine ⟨fun s n v hs hpres => ⟨⟨s.wrFast (.lvl n) v, next_ite_serving hs, State.wrFast_lvl hpres⟩,
      ⟨s.wrFast (.dvdt n) v, next_ite_serving hs, State.wrFast_dvdt hpres⟩⟩,
    fun s m hany => ?_, fun s e l hq hforms hfed hcore hsec hcnt => ?_, fun s n hforms hfed hheld => ?_,
    fun s n xs hforms hwedged hsup hon hshadow hlost hholes hend hlen hall => ?_⟩
  · refine ⟨s.smbit FAST_PIN_CFG_STATE m false, ?_, s.mbit_smbit_self _ _ _ m.isLt⟩
    show execFastevtHoldExpire m s = _
    unfold execFastevtHoldExpire
    rw [hany]
    rfl
  · let u := s.setSar (fun x => { x with fastq := l })
    obtain ⟨payload, htake⟩ := State.transientTake_counted (s := u) (e := e) hsec hcnt
    obtain ⟨⟨r, hr, hcls, haux⟩, hts, hfifo⟩ := State.tsEvt_result (s := u.setTs e.pair (fun x => { x with cnt := x.cnt + 1 })) e.pair 0x20
      (e.idx + 1) 0 payload hforms hfed
    rw [← htake] at hr hts hfifo
    exact ⟨u.transientTake e, r, execTransientRecord_of hq (State.isReady_of_forms hforms) hcore, hfifo,
      (congrArg Tsar.cnt hts).trans (congrArg Tsar.cnt (u.setTs_ts _ _)), hr, hcls, haux⟩
  · obtain ⟨last1, payload, hburst⟩ := State.tsBurst_withheld hheld
    obtain ⟨⟨r, hr, hcls, haux⟩, hts, -⟩ := State.tsEvt_result (s := s.setTs n (fun x => { x with wl := 0, wd := 0 })) n 0x21 last1 0
      payload hforms hfed
    rw [← hburst] at hr hts
    exact ⟨s.tsBurst n, r, execTburstRecord_of n (State.isReady_of_forms hforms), (congrArg Tsar.wl hts).trans (congrArg Tsar.wl (s.setTs_ts n _)),
      (congrArg Tsar.wd hts).trans (congrArg Tsar.wd (s.setTs_ts n _)), hr, hcls, haux⟩
  · obtain ⟨cause, flags, fl, hrun⟩ := s.supRun_whole n xs
    have hk := State.supGapTo_keeps (x1 := n) (x2 := (s.ts n).supNext) (x3 := cause) (x4 := flags) (Nat.and_self _) (.refl _ s)
    obtain ⟨⟨r, hr, hcls, haux⟩, hcov⟩ := State.supRecord_result (s := s.supGapTo n (s.ts n).supNext cause flags) n (s.ts n).supNext
      (((s.ts n).supEnd - (s.ts n).supNext) / supWin) xs fl ((hk.forms rfl rfl).trans hforms) ((hk.starvedSpc rfl).trans hwedged)
    rw [← hrun] at hr hcov
    have hrel := (s.supRun n ((s.ts n).supEnd + supPad) 0 (some xs)).release_supExtends n
    refine ⟨_, execSupraRecordComplete_of (State.isReady_of_forms hforms) hwedged hsup hon hshadow hlost hholes hend hlen hall,
      hrel.cov.trans (hcov.trans (Tsar.supNext_add_windows _)), r, ?_, hcls, haux⟩
    obtain ⟨gap, hgap⟩ := s.supGapTo_formed_prefix n (s.ts n).supNext cause flags
    obtain ⟨rest, hrest⟩ := hr.trans hrel.formed
    rw [← hrest, ← hgap]
    simp

end Sys2Proof.Machine
end

section
/-! SUPPORT. Device time and TIME_HWM (R124, R125, R131, R132, R134, R142, R256, R461): the idle cycle, steps, slews, halts and the
reload, and SET_TIME. -/

namespace Sys2Proof.Machine

/-! ### A step, the idle cycle, TIME_HWM -/

/-- Settles O1: the step is the command's meaning on the state with the rest of the queue. -/
theorem stepRunsFront : Obligations.StepRunsFront := fun _ _ _ h => step_of_pending_cons h

theorem State.idle_of_running {s : State} (h : s.timeRuns = true) : s.idle = (s.timeTo (s.time.t + s.inc)).calReach := by
  unfold State.idle
  rw [if_pos h]

theorem State.idle_of_standing {s : State} (h : s.timeRuns = false) : s.idle = s := by
  unfold State.idle
  rw [h]
  rfl

/-- No calendar activates when none is committed, while a group is processed, or before the activation instant (R256). -/
theorem State.calReach_same {s : State} (h : s.gb BIL_CAL_CTRL_PVALID = false ∨ (∃ g, s.processed g = true) ∨ s.now < s.cals.pasT) :
    s.calReach = s := by
  unfold State.calReach
  refine if_neg fun hc => ?_
  simp only [Bool.and_eq_true, Bool.not_eq_true', decide_eq_true_eq] at hc
  obtain ⟨⟨⟨⟨⟨⟨⟨⟨-, hp⟩, hreach⟩, -⟩, -⟩, -⟩, -⟩, h0⟩, h1⟩ := hc
  rcases h with h | ⟨g, hg⟩ | h
  · exact Bool.false_ne_true (h.symm.trans hp)
  · match g with
    | 0 => exact Bool.false_ne_true (h0.symm.trans hg)
    | 1 => exact Bool.false_ne_true (h1.symm.trans hg)
  · exact absurd hreach (Nat.not_le.2 h)

theorem State.timeTo_ahead (s : State) (d : Nat) :
    s.timeTo (s.time.t + d) = { s with
      time := { s.time with t := s.time.t + d }
      ket := { s.ket with hwm := max s.ket.hwm ((s.time.t + d) / 2 ^ 32 % 2 ^ 64) } } := by
  unfold State.timeTo
  rw [Nat.max_eq_right (Nat.le_add_right _ _)]

/-- Settles O2: the idle cycle is `timeTo` by one increment, followed by the calendar that may come due. -/
theorem idleStepIsOneCycle : Obligations.IdleStepIsOneCycle := by
  intro s hs
  refine ⟨s.idle, step_of_pending_nil hs, ?_⟩
  cases hr : s.timeRuns with
  | false =>
    rw [State.idle_of_standing hr]
    exact ⟨hs, nofun, fun _ => ⟨rfl, rfl, rfl, rfl, nofun⟩, fun _ => rfl⟩
  | true =>
    rw [State.idle_of_running hr, State.timeTo_ahead]
    generalize ht : ({ s with
      time := { s.time with t := s.time.t + s.inc }
      ket := { s.ket with hwm := max s.ket.hwm ((s.time.t + s.inc) / 2 ^ 32 % 2 ^ 64) } } : State) = t
    have hk := State.calReach_keeps (Nat.and_self _) (.refl _ t)
    have htime : t.calReach.time.t = t.time.t := hk.part .devTime rfl
    have hhwm : t.ket.hwm ≤ t.calReach.ket.hwm := hk.part .hwm rfl
    subst ht
    refine ⟨hk.pending.trans hs, fun _ => ⟨htime, hhwm⟩, fun hcal => ?_, nofun⟩
    rw [State.calReach_same hcal]
    exact ⟨rfl, rfl, rfl, rfl, fun _ => rfl⟩

/-- The Kettle cold start and the release of a reset alone may lower TIME_HWM. -/
theorem hwm_not_mem_scope {c : Instr} (hcold : c ≠ .kettleColdStart) (hrel : ∀ x, c ≠ .resetRelease x) :
    StatePart.hwm ∉ (scopeOf c).1 := by
  cases c
  case kettleColdStart => exact absurd rfl hcold
  case resetRelease x => exact absurd rfl (hrel x)
  all_goals exact of_decide_eq_true rfl

theorem State.ringSeries_ket (s : State) (l : Loaded) : (s.ringSeries l).ket = s.ket := by
  unfold State.ringSeries
  split <;> rfl

theorem afterLoad_hwm {s : State} {l : Loaded} (h : s.ket.valid = true) : s.ket.hwm ≤ (s.afterLoad l).ket.hwm := by
  obtain ⟨u, v, heq, -, -, hket, huv⟩ := afterLoad_tail s l
  have hseries := s.ringSeries_ket l
  have htests := State.startTests_keeps (Nat.and_self _) (.refl _ v)
  have hcopy := State.ketCopy_keeps (Nat.and_self _) (.refl _ v.startTests)
  have hload := timeLoad_hwm (s.ringSeries l) l (hseries ▸ h)
  rw [heq]
  calc s.ket.hwm = (s.ringSeries l).ket.hwm := by rw [hseries]
    _ ≤ u.ket.hwm := by rw [hket]; exact hload
    _ ≤ v.ket.hwm := huv.part .hwm rfl
    _ ≤ v.startTests.ket.hwm := htests.part .hwm rfl
    _ ≤ v.startTests.ketCopy.ket.hwm := hcopy.part .hwm rfl

/-- With a valid Kettle the release keeps TIME_HWM from falling (R461). -/
theorem releaseReset_hwm {s : State} (x : Straps) (h : s.ket.valid = true) : s.ket.hwm ≤ (s.releaseReset x).ket.hwm := by
  obtain ⟨u, hu, -, -, -, -, -, -, hvalid, -, hhwm⟩ := release_of s x
  have hload := State.storeLoad_keeps (Nat.and_self _) (.refl _ u)
  rw [hu]
  generalize u.storeLoad = p at hload
  obtain ⟨l, w⟩ := p
  have hwvalid : w.ket.valid = true := (congrArg Kettle.valid (hload.ket rfl)).trans (hvalid.trans h)
  have hafter := afterLoad_hwm (l := l) hwvalid
  generalize w.afterLoad l = t at hafter
  obtain ⟨v, hv⟩ := storeSeals_rest t
  have hraised : u.ket.hwm ≤ w.ket.hwm := hload.part .hwm rfl
  rw [hv, ← hhwm]
  exact hraised.trans hafter

theorem execResetRelease_hwm {s t : State} {x : Straps} (hvalid : s.ket.valid = true) (h : exec (.resetRelease x) s = .next t) :
    s.ket.hwm ≤ t.ket.hwm := by
  by_cases hreset : s.rst.phase = .inReset
  · cases hx : x.testen with
    | false =>
      obtain ⟨u, hu, -, hket⟩ := execResetRelease_of_low hreset hx
      rw [← Host.Outcome.next.inj (hu.symm.trans h), ← hket]
      exact releaseReset_hwm x (hket ▸ hvalid)
    | true =>
      rw [← Host.Outcome.next.inj ((execResetRelease_of_high hreset hx).symm.trans h)]
  · have hsame : exec (.resetRelease x) s = .next s := by
      show execResetRelease x s = _
      unfold execResetRelease
      rw [if_neg hreset]
    rw [← Host.Outcome.next.inj (hsame.symm.trans h)]

/-- Settles O7: by the scope of each command, and for the release by what it makes of device time. -/
theorem highWaterMarkNeverFalls : Obligations.HighWaterMarkNeverFalls := by
  refine ⟨fun c s t hcold hrel h => ?_, fun s t hs h => ?_, fun s t x hvalid h => ?_⟩
  · exact (exec_keeps_scope c s t h).part .hwm (scopeMask_part (hwm_not_mem_scope hcold hrel))
  · cases (step_of_pending_nil hs).symm.trans h
    exact (State.idle_keeps (Nat.and_self _) (.refl _ s)).part .hwm rfl
  · exact execResetRelease_hwm hvalid h

end Sys2Proof.Machine
end

section
/-! SUPPORT. The discipline, steps and SET_TIME (R128 to R132, R135, R144): what slews, steps and the commands that set device time
leave of it. -/

namespace Sys2Proof.Machine

/-- What leaves the time base and device time alone. -/
theorem State.Keeps.clock {m : Nat} {s t : State} (h : State.Keeps m s t) (hm : m.testBit StatePart.time.ctorIdx = false)
    (hd : m.testBit StatePart.devTime.ctorIdx = false) : t.time = s.time := by
  have hbase : ({ t.time with t := 0 } : TimeSt) = { s.time with t := 0 } := h.part .time hm
  have hnow : t.time.t = s.time.t := h.part .devTime hd
  calc t.time = { s.time with t := t.time.t } := congrArg (fun x : TimeSt => { x with t := t.time.t }) hbase
    _ = s.time := by rw [hnow]

/-! ### Slews and the discipline's state (R130, R131) -/

theorem State.slewStop_time (s : State) :
    s.slewStop.time = { s.time with slew := 0, slewLeft := if s.time.slew = 0 then s.time.slewLeft else 0 } := by
  unfold State.slewStop
  by_cases h : s.time.slew = 0
  · simp only [h, if_true]
    rw [← h]
  · simp only [h, if_false]
    exact (State.incChanged_keeps (Nat.and_self _) (.refl _ _)).clock rfl rfl

theorem State.slewStop_slewing {s : State} (h : s.time.slew ≠ 0) : s.slewStop.gb TIME_STATUS_SLEWING = false := by
  unfold State.slewStop
  rw [if_neg h, (State.incChanged_keeps (Nat.and_self _) (.refl _ _)).gb _ (by decide) rfl, State.gb_sf]
  rfl

/-- The discipline shows the state that it enters (Table 6-1). -/
theorem State.ppsState_state (s : State) {st : Nat} (h : st < 8) : (s.ppsState st).gf TIME_STATUS_STATE = st := by
  unfold State.ppsState
  by_cases hst : s.gf TIME_STATUS_STATE = st
  · rw [if_pos hst, hst]
  · rw [if_neg hst]
    simp only []
    rw [(State.logTime_keeps (Nat.and_self _) (.refl _ _)).reg TIME_STATUS_STATE (by decide) rfl]
    split
    · rw [State.gf_sf_ne _ _ (by decide), State.gf_sf]
      exact Nat.mod_eq_of_lt h
    · rw [State.gf_sf]
      exact Nat.mod_eq_of_lt h

/-- Entering a state other than LOCKED leaves RELOADED (R131). -/
theorem State.ppsState_reloaded (s : State) {st : Nat} (h : st ≠ 2) :
    (s.ppsState st).gb TIME_STATUS_RELOADED = s.gb TIME_STATUS_RELOADED := by
  unfold State.ppsState
  split
  · rfl
  · simp only []
    rw [(State.logTime_keeps (Nat.and_self _) (.refl _ _)).gb TIME_STATUS_RELOADED (by decide) rfl, State.gb_sf_ne _ _ (by decide)]

/-! ### TIME_CTRL (R130) -/

/-- What a write of TIME_CTRL in a session makes of the state: both fields, and the discipline that begins anew or ends. -/
def State.timeCtrlSet (s : State) (w : Nat) : Bool × State :=
  let t := s.sfs [(TIME_CTRL_PPS_EN, w), (TIME_CTRL_LOOP, w / 2)]
  if w.testBit 0 && !s.gb TIME_CTRL_PPS_EN then (true, { t with time := { t.time with lastEdge := none, good := 0 } })
  else if !w.testBit 0 && s.gb TIME_CTRL_PPS_EN then (true, t.slewStop.ppsState 0)
  else (true, t)

/-- A write that would change TIME_CTRL is handled as a write of sealed fields (R515). -/
theorem execTimeCtrlWrite_of {s : State} {v : Word} (p : Port) (hs : s.serving = true)
    (hv : v.toNat % 2 ≠ s.gf TIME_CTRL_PPS_EN ∨ v.toNat / 2 % 16 ≠ s.gf TIME_CTRL_LOOP) :
    exec (.timeCtrlWrite p v) s = .next (s.rws p 0x800 v 0 true id (fun s => s.timeCtrlSet v.toNat)) := by
  have hreach : (decide (v.toNat % 2 ≠ s.gf TIME_CTRL_PPS_EN) || decide (v.toNat / 2 % 16 ≠ s.gf TIME_CTRL_LOOP)) = true := by
    simpa using hv
  show execTimeCtrlWrite p v s = _
  unfold execTimeCtrlWrite
  rw [if_pos hs]
  unfold State.wrTimeCtrl
  simp only [hreach]
  rfl

theorem State.timeCtrlSet_ctrl (s : State) (w : Nat) (f : Fld) (hf : f.lo < 32) (ho : regGroup f.off = .timeCtrl) :
    (s.timeCtrlSet w).2.gf f = (s.sfs [(TIME_CTRL_PPS_EN, w), (TIME_CTRL_LOOP, w / 2)]).gf f := by
  unfold State.timeCtrlSet
  simp only []
  split
  · rfl
  · split
    · rw [(State.ppsState_keeps (Nat.and_self _) (.refl _ _)).reg f hf (by rw [ho]; rfl),
        (State.slewStop_keeps (Nat.and_self _) (.refl _ _)).reg f hf (by rw [ho]; rfl)]
    · rfl

theorem State.timeCtrlSet_fields (s : State) (w : Nat) :
    (s.timeCtrlSet w).2.gb TIME_CTRL_PPS_EN = w.testBit 0 ∧ (s.timeCtrlSet w).2.gf TIME_CTRL_LOOP = w / 2 % 16 := by
  constructor
  · unfold State.gb
    rw [s.timeCtrlSet_ctrl w _ (by decide) rfl, State.gf_sfs_get _ _ 0 TIME_CTRL_PPS_EN w rfl (by simp; decide), Nat.testBit_zero]
    rfl
  · rw [s.timeCtrlSet_ctrl w _ (by decide) rfl, State.gf_sfs_get _ _ 1 TIME_CTRL_LOOP (w / 2) rfl rfl]
    rfl

/-- Disabling the discipline leaves it FREE. -/
theorem State.timeCtrlSet_free {s : State} {w : Nat} (hw : w.testBit 0 = false) (hon : s.gb TIME_CTRL_PPS_EN = true) :
    (s.timeCtrlSet w).2.gf TIME_STATUS_STATE = 0 := by
  unfold State.timeCtrlSet
  simp only [hw, hon, Bool.false_and, Bool.not_false, Bool.and_self, Bool.false_eq_true, if_false, if_true]
  exact State.ppsState_state _ (by decide)

theorem execSlewEnd_of {s : State} (hready : s.isReady = true) (hrun : s.time.frozen = false) : exec .slewEnd s = .next s.slewStop := by
  show execSlewEnd s = _
  unfold execSlewEnd
  rw [hready, hrun]
  rfl

theorem execHoldoverEntry_of {s : State} (hready : s.isReady = true) (hrun : s.time.frozen = false) (hst : s.gf TIME_STATUS_STATE = 2) :
    exec .holdoverEntry s = .next (s.ppsState 3) := by
  show execHoldoverEntry s = _
  unfold execHoldoverEntry
  rw [hready, hrun, decide_eq_true hst]
  rfl

/-- Settles O17: a slew's end and the entry of HOLDOVER by what they leave alone, TIME_CTRL by the handling of sealed writes. -/
theorem disciplineCommands : Obligations.DisciplineCommands := by
  refine ⟨fun s hready hrun hslew => ?_, fun s hready hrun hst => ?_, fun s p v hs hopen hv => ?_, fun s p v hs hclosed hv => ?_⟩
  · have htime := s.slewStop_time
    rw [if_neg hslew] at htime
    exact ⟨s.slewStop, execSlewEnd_of hready hrun, congrArg TimeSt.slew htime, congrArg TimeSt.slewLeft htime, State.slewStop_slewing hslew,
      (congrArg TimeSt.t htime :)⟩
  · exact ⟨s.ppsState 3, execHoldoverEntry_of hready hrun hst, s.ppsState_state (by decide),
      (State.ppsState_keeps (Nat.and_self _) (.refl _ s)).reg TIME_ADJ_ADJ (by decide) rfl⟩
  · obtain ⟨hen, hloop⟩ := s.timeCtrlSet_fields v.toNat
    exact ⟨_, execTimeCtrlWrite_of p hs hv, (State.rws_inside_gb hopen _).trans hen, (State.rws_inside_gf hopen _).trans hloop,
      fun hoff hon => (State.rws_inside_gf hopen _).trans (State.timeCtrlSet_free hoff hon)⟩
  · exact ⟨_, execTimeCtrlWrite_of p hs hv, State.rws_outside_gf hclosed (by decide) rfl rfl, State.rws_outside_gf hclosed (by decide) rfl rfl⟩

/-! ### Steps (R128, R132) -/

/-- A step moves device time by its amount, from the instant at which it is made. -/
theorem State.timeStep_t (s : State) (d : Int) : (s.timeStep d).time.t = ((s.time.t : Int) + d).toNat := by
  have hfold : ∀ (f : State → Fin 8 → State) (u : State), (∀ v n, (f v n).time.t = v.time.t) → ((fins 8).foldl f u).time.t = u.time.t :=
    fun f u h => State.foldl_same (fun x => x.time.t) h _ u
  unfold State.timeStep
  extract_lets -merge -useContext +onlyGivenNames s1 tS d32 srcs tsrc t new hwm was dark s2 s3 s4 last tm ket s5 s6 s7 s8
  have h1 : s1.time.t = s.time.t := (congrArg TimeSt.t s.slewStop_time :)
  have h6 : s6.time.t = t := by
    unfold s6
    rw [((State.mirror_keeps (Nat.and_self _) (.refl _ _)).part .devTime rfl : _ = _)]
    exact ((State.capFlag_keeps (Nat.and_self _) (.refl _ _)).part .devTime rfl : _ = _)
  have h7 : s7.time.t = t := by
    unfold s7
    split
    · rw [hfold _ _ fun v n => (State.tsShadow_keeps (Nat.and_self _) (.refl _ v)).part .devTime rfl, h6]
    · split
      · rw [hfold _ _ fun v n => (State.tsShadowEnd_keeps (Nat.and_self _) (.refl _ v)).part .devTime rfl, h6]
      · exact h6
  have h8 : s8.time.t = t := ((State.logTime_keeps (Nat.and_self _) (.refl _ s7)).part .devTime rfl : _ = _).trans h7
  rw [((State.calReach_keeps (Nat.and_self _) (.refl _ _)).part .devTime rfl : _ = _)]
  split
  · rw [((State.raise_keeps (Nat.and_self _) (.refl _ s8) (.inl (by decide))).part .devTime rfl : _ = _), h8, ← h1]
  · rw [h8, ← h1]

theorem State.timeChange_step (s : State) {d : Int} (h : belowUs d = false) : (s.timeChange d).time.t = ((s.time.t : Int) + d).toNat := by
  unfold State.timeChange
  rw [h]
  exact s.timeStep_t d

/-! ### SET_TIME (R131, R132, R135, R443, Table 6-2) -/

/-- A ring command can still complete: records are formed and it is the one that executes. -/
structure State.Executing (s : State) (c : Cmd) : Prop where
  forms : s.forms = true
  cur : s.cmd.cur = some c
  ring : ∃ i, c.via = .ring i

theorem State.executes.executing {s : State} {op : Nat} {c : Cmd} (h : s.executes op c) : s.Executing c := ⟨h.1, h.cur.1, h.cur.2⟩

theorem State.Executing.of_keeps {m : Nat} {s t : State} {c : Cmd} (h : s.Executing c) (hk : State.Keeps m s t)
    (hp : m.testBit StatePart.phase.ctorIdx = false) (hr : m.testBit (64 + RegGroup.strap.ctorIdx) = false)
    (hc : m.testBit StatePart.cmd.ctorIdx = false) : t.Executing c :=
  ⟨(hk.forms hp hr).trans h.forms, (congrArg CmdSt.cur (hk.part .cmd hc)).trans h.cur, h.ring⟩

theorem State.Executing.finish {s : State} {c : Cmd} (h : s.Executing c) (st d : Nat) (res : List Byte) : (s.finish st d res).completed c st :=
  s.finish_completed c st d res h.forms h.cur h.ring

theorem State.Executing.sfs {s : State} {c : Cmd} (h : s.Executing c) {l : List (Fld × Nat)} (hl : ∀ e ∈ l, e.1.key ≠ STRAP_MODE.key) :
    (s.sfs l).Executing c := by
  have hmode : (s.sfs l).gf STRAP_MODE = s.gf STRAP_MODE := s.gf_sfs_ne l hl
  have hrest := s.sfs_eq l
  have hphase : (s.sfs l).rst = s.rst := by rw [hrest]
  have hcmd : (s.sfs l).cmd = s.cmd := by rw [hrest]
  refine ⟨?_, hcmd ▸ h.cur, h.ring⟩
  rw [← h.forms]
  unfold State.forms State.isReady State.spiOnly
  rw [hphase, hmode]

/-- A SET_TIME that set device time completes OK, clears STEP_NEEDED and RELOADED and leaves device time. -/
theorem State.setTimeDone_outcome {s : State} {c : Cmd} (h : s.Executing c) (before : DevTime) :
    (s.setTimeDone before).completed c 0 ∧ (s.setTimeDone before).gb TIME_STATUS_STEP_NEEDED = false ∧
      (s.setTimeDone before).gb TIME_STATUS_RELOADED = false ∧ (s.setTimeDone before).time.t = s.time.t := by
  have hk := fun res => State.finish_keeps (x1 := 0) (x2 := 0) (x3 := res) (Nat.and_self _)
    (.refl _ (s.sfs [(TIME_STATUS_STEP_NEEDED, 0), (TIME_STATUS_RELOADED, 0)]))
  unfold State.setTimeDone
  refine ⟨(h.sfs (by decide)).finish _ _ _, ?_, ?_, ?_⟩
  · rw [(hk _).gb _ (by decide) rfl]
    unfold State.gb
    rw [State.gf_sfs_get _ _ 0 TIME_STATUS_STEP_NEEDED 0 rfl (by simp; decide)]
    rfl
  · rw [(hk _).gb _ (by decide) rfl]
    unfold State.gb
    rw [State.gf_sfs_get _ _ 1 TIME_STATUS_RELOADED 0 rfl rfl]
    rfl
  · exact ((hk _).part .devTime rfl : _ = _)

/-- What an accepted block of SET_TIME that nothing holds back does, by its mode (Table 6-2). -/
theorem State.doSetTime_of_ready {s : State} {b : List Byte} {c : Cmd} (h : s.SetTimeReady b c) :
    s.doSetTime c b =
      if leAt c.entry 0x10 1 = 0 then
        (s.newNonce.slewStop.timeChange (((leAt c.entry 0x18 8 * 2 ^ 32 : Nat) : Int) - (s.newNonce.time.t : Int))).setTimeDone s.newNonce.now
      else if leAt c.entry 0x10 1 = 1 then
        { s.newNonce with time := { s.newNonce.time with atPps := some (leAt c.entry 0x18 8 / 2 ^ 32) } }
      else if leAt c.entry 0x10 1 = 2 then
        (s.newNonce.timeChange (toSigned 64 (leAt c.entry 0x18 8) * 2 ^ 32 + s.newNonce.slewRest)).setTimeDone s.newNonce.now
      else s.newNonce.setLeap (leAt c.entry 0x18 8) := by
  obtain ⟨hsw, hpps, hrun⟩ := h.free
  obtain ⟨htrng, howner⟩ := h.owner
  have hbad : (decide (b.length ≠ 128) || (decide (leAt c.entry 0x10 1 = 3) && decide (leAt c.entry 0x18 8 / 2 ^ 32 ≠ 0) &&
      (decide (leAt c.entry 0x18 8 / 2 ^ 32 % 86400 ≠ 0) || decide (leAt c.entry 0x18 8 / 2 ^ 32 * 2 ^ 32 ≤ s.now)))) = false := by
    have hleap := h.leap
    have hlen := h.length
    grind
  have hown : s.sec.owner.isNone = false := by simpa using howner
  unfold State.doSetTime
  simp only [hsw, hpps, hrun, htrng, hown, hbad, State.verify, h.block, Option.isSome_none, Bool.or_self, Bool.false_eq_true, if_false, if_true,
    Bool.not_true]
  split <;> rename_i hm
  · rw [if_pos hm]
  · rw [if_neg (by omega), if_pos hm]
  · rw [if_neg (by omega), if_neg (by omega), if_pos hm]
  · rename_i h0 h1
    rw [if_neg ?_, if_neg ?_, if_neg ?_]
    all_goals simpa using ‹_›

theorem State.newNonce_clock (s : State) : s.newNonce.time = s.time := (State.newNonce_keeps (Nat.and_self _) (.refl _ s)).clock rfl rfl

theorem State.newNonce_executing {s : State} {c : Cmd} (h : s.Executing c) : s.newNonce.Executing c :=
  h.of_keeps (State.newNonce_keeps (Nat.and_self _) (.refl _ s)) rfl rfl rfl

/-- Device time shows the value to which SET_TIME NOW sets it. -/
theorem State.now_of_t {t : State} {v : Nat} (h : t.time.t = v * 2 ^ 32) (hv : v < 2 ^ 64) : t.now = v := by
  unfold State.now
  rw [h, Nat.mul_div_cancel _ (by decide), Nat.mod_eq_of_lt hv]

/-- A SET_TIME that changes device time completes OK; a change of 1 µs or more is a step. -/
theorem State.setTimeChange_outcome {s : State} {c : Cmd} (h : s.Executing c) (d : Int) (before : DevTime) :
    ((s.timeChange d).setTimeDone before).completed c 0 ∧ ((s.timeChange d).setTimeDone before).gb TIME_STATUS_STEP_NEEDED = false ∧
      ((s.timeChange d).setTimeDone before).gb TIME_STATUS_RELOADED = false ∧
      (belowUs d = false → ((s.timeChange d).setTimeDone before).time.t = ((s.time.t : Int) + d).toNat) := by
  have hx : (s.timeChange d).Executing c := h.of_keeps (State.timeChange_keeps (Nat.and_self _) (.refl _ s)) rfl rfl rfl
  obtain ⟨hdone, hstep, hrel, htime⟩ := State.setTimeDone_outcome hx before
  exact ⟨hdone, hstep, hrel, fun hd => htime.trans (s.timeChange_step hd)⟩

theorem State.slewStop_t (s : State) : s.slewStop.time.t = s.time.t := (congrArg TimeSt.t s.slewStop_time :)

/-- What a LEAP has armed or cancelled when it completes (R135). -/
theorem State.setLeap_finish {s : State} {c : Cmd} (h : s.Executing c) {v : Nat} (hv : v < 2 ^ 64) :
    ∃ (u : State) (res : List Byte), s.setLeap v = u.finish 0 0 res ∧ u.Executing c ∧ u.gf LEAP_AT_SEC = v / 2 ^ 32 ∧
      u.gb TIME_STATUS_LEAP_PEND = decide (v / 2 ^ 32 ≠ 0) ∧ (v / 2 ^ 32 ≠ 0 → u.gb LEAP_CTRL_SIGN = v.testBit 0) := by
  have hx : (s.sf TIME_STATUS_STEP_NEEDED 0).Executing c := h.sfs (l := [(TIME_STATUS_STEP_NEEDED, 0)]) (by decide)
  have hsec : v / 2 ^ 32 % 2 ^ LEAP_AT_SEC.w = v / 2 ^ 32 := Nat.mod_eq_of_lt (Nat.div_lt_of_lt_mul hv)
  have hset : ∀ (u : State) (sec sign pend : Nat), let t := u.sfs [(LEAP_AT_SEC, sec), (LEAP_CTRL_SIGN, sign), (TIME_STATUS_LEAP_PEND, pend)]
      t.gf LEAP_AT_SEC = sec % 2 ^ LEAP_AT_SEC.w ∧ t.gf LEAP_CTRL_SIGN = sign % 2 ∧ t.gf TIME_STATUS_LEAP_PEND = pend % 2 :=
    fun u sec sign pend => ⟨u.gf_sfs_get _ 0 LEAP_AT_SEC sec rfl (by simp; decide), u.gf_sfs_get _ 1 LEAP_CTRL_SIGN sign rfl (by simp; decide),
      u.gf_sfs_get _ 2 TIME_STATUS_LEAP_PEND pend rfl rfl⟩
  unfold State.setLeap
  by_cases h0 : v / 2 ^ 32 = 0
  · simp only [h0, if_true]
    obtain ⟨hat, -, hpend⟩ := hset (s.sf TIME_STATUS_STEP_NEEDED 0) 0 0 0
    exact ⟨_, _, rfl, hx.sfs (by simp; decide), hat, by rw [State.gb, hpend]; rfl, fun hne => absurd rfl hne⟩
  · simp only [h0, if_false]
    obtain ⟨hat, hsign, hpend⟩ := hset (s.sf TIME_STATUS_STEP_NEEDED 0) (v / 2 ^ 32) v 1
    have hlog := fun u delta => State.logTime_keeps (x1 := 4) (x2 := v / 2 ^ 32 * 2 ^ 32) (x3 := delta) (x4 := []) (Nat.and_self _) (.refl _ u)
    refine ⟨_, _, rfl, State.Executing.of_keeps (hx.sfs (by simp; decide)) (hlog _ _) rfl rfl rfl, ?_, ?_, fun _ => ?_⟩
    · rw [(hlog _ _).reg _ (by decide) rfl, hat, hsec]
    · rw [(hlog _ _).gb _ (by decide) rfl, State.gb, hpend, decide_eq_true h0]
      rfl
    · rw [(hlog _ _).gb _ (by decide) rfl, State.gb, hsign, Nat.testBit_zero]

/-- LEAP arms its leap second or, for second 0, cancels the armed one, and completes OK (R135). -/
theorem State.setLeap_outcome {s : State} {c : Cmd} (h : s.Executing c) {v : Nat} (hv : v < 2 ^ 64) :
    (s.setLeap v).completed c 0 ∧ (s.setLeap v).gf LEAP_AT_SEC = v / 2 ^ 32 ∧
      (s.setLeap v).gb TIME_STATUS_LEAP_PEND = decide (v / 2 ^ 32 ≠ 0) ∧
      (v / 2 ^ 32 ≠ 0 → (s.setLeap v).gb LEAP_CTRL_SIGN = v.testBit 0) ∧ (s.setLeap v).time.t = s.time.t := by
  have htime : (s.setLeap v).time.t = s.time.t := (State.setLeap_keeps (Nat.and_self _) (.refl _ s)).part .devTime rfl
  obtain ⟨u, res, hu, hx, hat, hpend, hsign⟩ := State.setLeap_finish h hv
  have hk := State.finish_keeps (x1 := 0) (x2 := 0) (x3 := res) (Nat.and_self _) (.refl _ u)
  refine ⟨hu ▸ hx.finish 0 0 res, ?_, ?_, fun hne => ?_, htime⟩
  · rw [hu, hk.reg _ (by decide) rfl, hat]
  · rw [hu, hk.gb _ (by decide) rfl, hpend]
  · rw [hu, hk.gb _ (by decide) rfl, hsign hne]

theorem ofLe_lt (bs : List Byte) : ofLe bs < 256 ^ bs.length := by
  induction bs with
  | nil => exact Nat.one_pos
  | cons b bs ih =>
    have hb : b.toNat < 256 := b.isLt
    rw [ofLe, List.length_cons, Nat.pow_succ]
    omega

theorem leAt_lt (bs : List Byte) (o n : Nat) : leAt bs o n < 256 ^ n :=
  Nat.lt_of_lt_of_le (ofLe_lt _) (Nat.pow_le_pow_right (by decide) (List.length_take_le _ _))

/-- SET_TIME of a mode runs when its command executes in that mode. -/
theorem State.setTimeMode_of_executes {s : State} {c : Cmd} {mode : Nat} (b : List Byte) (h : s.executes 0x0A c)
    (hm : leAt c.entry 0x10 1 = mode) : s.setTimeMode mode b = s.doSetTime c b :=
  (h.onCmd _).trans (if_pos hm)

/-- An AT_PPS that waits and meets no edge completes NO_PPS. -/
theorem execAtPpsTimeout_of {s : State} (hready : s.isReady = true) (hpps : s.time.atPps.isSome = true) (hrun : s.time.frozen = false) :
    exec .atPpsTimeout s = .next (State.finish { s with time := { s.time with atPps := none } } 8 0 []) := by
  show execAtPpsTimeout s = _
  unfold execAtPpsTimeout
  rw [hready, hpps, hrun]
  rfl

/-- Settles O18: each mode by what an accepted block does; the timeout by its completion. -/
theorem setTimeModes : Obligations.SetTimeModes := by
  have hv : ∀ c : Cmd, leAt c.entry 0x18 8 < 2 ^ 64 := fun c => leAt_lt _ _ _
  refine ⟨fun s c b hx hr hm => ?_, fun s c b hx hr hm => ?_, fun s c b hx hr hm => ?_, fun s c b hx hr hm => ?_, fun s c hx hpps hrun => ?_⟩
  all_goals have hexec := hx.executing
  · have hnew := (State.newNonce_executing hexec).of_keeps (State.slewStop_keeps (Nat.and_self _) (.refl _ s.newNonce)) rfl rfl rfl
    obtain ⟨hdone, hstep, hrel, htime⟩ := State.setTimeChange_outcome hnew
      (((leAt c.entry 0x18 8 * 2 ^ 32 : Nat) : Int) - (s.newNonce.time.t : Int)) s.newNonce.now
    refine ⟨_, congrArg Host.Outcome.next (State.setTimeMode_of_executes b hx hm), ?_⟩
    rw [State.doSetTime_of_ready hr, if_pos hm]
    refine ⟨hdone, hstep, hrel, fun hbig => State.now_of_t ?_ (hv c)⟩
    rw [← s.newNonce_clock] at hbig
    rw [htime hbig, s.newNonce.slewStop_t]
    omega
  · refine ⟨_, congrArg Host.Outcome.next (State.setTimeMode_of_executes b hx hm), ?_⟩
    rw [State.doSetTime_of_ready hr, if_neg (by omega), if_pos hm]
    exact ⟨rfl, (State.newNonce_keeps (Nat.and_self _) (.refl _ s)).part .cmd rfl, (congrArg TimeSt.t s.newNonce_clock :)⟩
  · obtain ⟨hdone, hstep, hrel, htime⟩ := State.setTimeChange_outcome (State.newNonce_executing hexec)
      (toSigned 64 (leAt c.entry 0x18 8) * 2 ^ 32 + s.newNonce.slewRest) s.newNonce.now
    have hrest : s.newNonce.slewRest = s.slewRest := by
      unfold State.slewRest
      rw [s.newNonce_clock]
    rw [hrest, s.newNonce_clock] at htime
    refine ⟨_, congrArg Host.Outcome.next (State.setTimeMode_of_executes b hx hm), ?_⟩
    rw [State.doSetTime_of_ready hr, if_neg (by omega), if_neg (by omega), if_pos hm]
    rw [hrest] at hdone hstep hrel ⊢
    exact ⟨hdone, hstep, hrel, htime⟩
  · obtain ⟨hdone, hat, hpend, hsign, htime⟩ := State.setLeap_outcome (State.newNonce_executing hexec) (hv c)
    refine ⟨_, congrArg Host.Outcome.next (State.setTimeMode_of_executes b hx hm), ?_⟩
    rw [State.doSetTime_of_ready hr, if_neg (by omega), if_neg (by omega), if_neg (by omega)]
    exact ⟨hdone, hat, hpend, hsign, htime.trans (congrArg TimeSt.t s.newNonce_clock)⟩
  · have hk := State.finish_keeps (x1 := 8) (x2 := 0) (x3 := []) (Nat.and_self _)
      (.refl _ { s with time := { s.time with atPps := none } })
    have hnone : State.Executing { s with time := { s.time with atPps := none } } c := ⟨hexec.forms, hexec.cur, hexec.ring⟩
    have htime := hk.clock rfl rfl
    exact ⟨_, execAtPpsTimeout_of hx.ready hpps hrun, hnone.finish 8 0 [], (congrArg TimeSt.atPps htime :), (congrArg TimeSt.t htime :)⟩

end Sys2Proof.Machine
end

section
/-! SUPPORT. Halts and the reload (R125, R142, R143, R500): what a halt and its end set, and that their closures leave it. -/

namespace Sys2Proof.Machine

/-- Both states tell the same of a halt: device time, whether and since when it stands, and the clock, status and halt registers
(chapter 1 and 6) but for the fields `ex`. -/
structure State.HaltSame (ex : List Fld) (s t : State) : Prop where
  now : t.time.t = s.time.t
  frozen : t.time.frozen = s.time.frozen
  since : t.time.haltT = s.time.haltT
  reg : ∀ f : Fld, f.lo < 32 → regGroup f.off ∈ [RegGroup.clk, .timeStat, .halt] → f.key ∉ ex.map Fld.key → t.gf f = s.gf f

theorem State.HaltSame.refl (ex : List Fld) (s : State) : State.HaltSame ex s s := ⟨rfl, rfl, rfl, fun _ _ _ _ => rfl⟩

theorem State.HaltSame.trans {ex : List Fld} {s t u : State} (h : State.HaltSame ex s t) (h' : State.HaltSame ex t u) :
    State.HaltSame ex s u :=
  ⟨h'.now.trans h.now, h'.frozen.trans h.frozen, h'.since.trans h.since,
    fun f hl hg hx => (h'.reg f hl hg hx).trans (h.reg f hl hg hx)⟩

theorem State.HaltSame.gb {ex : List Fld} {s t : State} (h : State.HaltSame ex s t) (f : Fld) (hl : f.lo < 32)
    (hg : regGroup f.off ∈ [RegGroup.clk, .timeStat, .halt]) (hx : f.key ∉ ex.map Fld.key) : t.gb f = s.gb f := by
  unfold State.gb
  rw [h.reg f hl hg hx]

/-- What leaves the time base, device time and those registers alone. -/
theorem State.Keeps.haltSame {m : Nat} {s t : State} (h : State.Keeps m s t) (ex : List Fld)
    (hm : [StatePart.time, .devTime].all (fun p => !m.testBit p.ctorIdx) = true)
    (hr : [RegGroup.clk, .timeStat, .halt].all (fun g => !m.testBit (64 + g.ctorIdx)) = true) : State.HaltSame ex s t := by
  simp only [List.all_cons, List.all_nil, Bool.and_true, Bool.and_eq_true, Bool.not_eq_true'] at hm hr
  have htime := h.clock hm.1 hm.2
  refine ⟨congrArg TimeSt.t htime, congrArg TimeSt.frozen htime, congrArg TimeSt.haltT htime, fun f hl hg _ => h.reg f hl ?_⟩
  simp only [List.mem_cons, List.not_mem_nil, or_false] at hg
  rcases hg with hg | hg | hg <;> rw [hg]
  exacts [hr.1, hr.2.1, hr.2.2]

theorem State.HaltSame.sf {ex : List Fld} (s : State) {f : Fld} (v : Nat) (h : f.key ∈ ex.map Fld.key) : State.HaltSame ex s (s.sf f v) :=
  ⟨rfl, rfl, rfl, fun _ _ _ hx => State.gf_sf_ne _ _ fun he => hx (he ▸ h)⟩

theorem State.HaltSame.setTime (ex : List Fld) (s : State) {x : TimeSt} (hnow : x.t = s.time.t) (hfrozen : x.frozen = s.time.frozen)
    (hsince : x.haltT = s.time.haltT) : State.HaltSame ex s { s with time := x } := ⟨hnow, hfrozen, hsince, fun _ _ _ _ => rfl⟩

/-- CORE stops or runs again: the time base notes it, and its lock bit shows it. -/
theorem State.HaltSame.coreLock {ex : List Fld} (s : State) {x : TimeSt} (v : Nat) (hnow : x.t = s.time.t)
    (hfrozen : x.frozen = s.time.frozen) (hsince : x.haltT = s.time.haltT) (h : CLK_STAT_CORE_LOCK.key ∈ ex.map Fld.key) :
    State.HaltSame ex s (State.sf { s with time := x } CLK_STAT_CORE_LOCK v) :=
  (State.HaltSame.setTime ex s hnow hfrozen hsince).trans (.sf _ v h)

theorem State.haltClose_same (s : State) (ex : List Fld) : State.HaltSame ex s s.haltClose :=
  (State.haltClose_keeps (Nat.and_self _) (.refl _ s)).haltSame ex rfl rfl

theorem State.ketSync_same (s : State) (ex : List Fld) : State.HaltSame ex s s.ketSync :=
  (State.ketSync_keeps (Nat.and_self _) (.refl _ s)).haltSame ex rfl rfl

theorem State.raise_same (s : State) (ex : List Fld) (n : Nat) (hn : n < 32) : State.HaltSame ex s (s.raise n) :=
  (State.raise_keeps (Nat.and_self _) (.refl _ s) (.inl hn)).haltSame ex rfl rfl

/-! ### A halt (R142, R500) -/

/-- What a halt freezes and shows at once. -/
def State.haltShown (s : State) : State :=
  (State.sfs { s with time := { s.time with frozen := true, haltT := s.now } }
    [(TIME_STATUS_HALTED, 1), (CLK_STAT_META_LOCK, 0), (CLK_STAT_TPLL_LOCK, 0), (CLK_EVT_XO_STOPPED, 1)]).incSat HALT_STAT_COUNT 1

/-- The closures of a halt leave what it has shown. -/
theorem State.halt_same (s : State) : State.HaltSame [CLK_STAT_CORE_LOCK, CLK_STAT_XO_HALT] s.haltShown s.halt := by
  unfold State.halt
  extract_lets -merge -useContext +onlyGivenNames last s1 s2 tm raised due s3
  change State.HaltSame _ s2 _
  clear_value s2
  have h3 : State.HaltSame [CLK_STAT_CORE_LOCK, CLK_STAT_XO_HALT] s2 s3 := by
    have hraise : State.HaltSame [CLK_STAT_CORE_LOCK, CLK_STAT_XO_HALT] s2 raised :=
      (State.HaltSame.sf s2 (f := CLK_STAT_XO_HALT) 1 (by decide)).trans (State.raise_same _ _ 13 (by decide))
    unfold s3
    split
    · exact .coreLock s2 0 rfl rfl rfl (by decide)
    · clear_value raised
      split
      · exact hraise.trans (State.HaltSame.setTime _ raised rfl rfl rfl)
      · exact hraise.trans (raised.haltClose_same _)
  clear_value s3
  exact h3.trans (((State.ketEvent_keeps (x1 := 10) (Nat.and_self _) (.refl _ s3)).haltSame _ rfl rfl).trans (State.ketSync_same _ _))

theorem execXoHalt_of {s : State} (hready : s.isReady = true) (hrun : s.time.frozen = false) : exec .xoHalt s = .next s.halt := by
  have hcond : (s.isReady && !s.time.frozen) = true := by rw [hready, hrun]; rfl
  exact congrArg Host.Outcome.next (if_pos hcond)

/-- A META PLL that loses lock halts the device as a stopped XO does (R500). -/
theorem execMetaPllUnlock_of {s : State} (hready : s.isReady = true) (hrun : s.time.frozen = false) :
    exec .metaPllUnlock s = .next s.halt := by
  have hcond : (s.isReady && !s.time.frozen) = true := by rw [hready, hrun]; rfl
  exact congrArg Host.Outcome.next (if_pos hcond)

theorem State.haltShown_values (s : State) :
    s.haltShown.time.frozen = true ∧ s.haltShown.time.haltT = s.now ∧ s.haltShown.time.t = s.time.t ∧
      s.haltShown.gb TIME_STATUS_HALTED = true ∧ s.haltShown.gb CLK_STAT_META_LOCK = false ∧ s.haltShown.gb CLK_STAT_TPLL_LOCK = false ∧
      s.haltShown.gb CLK_EVT_XO_STOPPED = true ∧
      s.haltShown.gf HALT_STAT_COUNT = min (s.gf HALT_STAT_COUNT + 1) (2 ^ HALT_STAT_COUNT.w - 1) := by
  unfold State.haltShown State.incSat
  generalize hu : ({ s with time := { s.time with frozen := true, haltT := s.now } } : State) = u
  have hne : ∀ f : Fld, HALT_STAT_COUNT.key ≠ f.key → ∀ (w : State) (v : Nat), (w.sf HALT_STAT_COUNT v).gf f = w.gf f :=
    fun f hf w v => w.gf_sf_ne v hf
  refine ⟨?_, ?_, ?_, ?_, ?_, ?_, ?_, ?_⟩
  · rw [State.sf_time, State.sfs_eq, ← hu]
  · rw [State.sf_time, State.sfs_eq, ← hu]
  · rw [State.sf_time, State.sfs_eq, ← hu]
  · rw [State.gb, hne _ (by decide), State.gf_sfs_get _ _ 0 TIME_STATUS_HALTED 1 rfl (by simp; decide)]
    rfl
  · rw [State.gb, hne _ (by decide), State.gf_sfs_get _ _ 1 CLK_STAT_META_LOCK 0 rfl (by simp; decide)]
    rfl
  · rw [State.gb, hne _ (by decide), State.gf_sfs_get _ _ 2 CLK_STAT_TPLL_LOCK 0 rfl (by simp; decide)]
    rfl
  · rw [State.gb, hne _ (by decide), State.gf_sfs_get _ _ 3 CLK_EVT_XO_STOPPED 1 rfl rfl]
    rfl
  · rw [State.gf_sf, State.gf_sfs_ne _ _ (by decide), ← hu]
    exact Nat.mod_eq_of_lt (Nat.lt_of_le_of_lt (Nat.min_le_right _ _) (by decide))

/-! ### The end of a halt (R142) -/

/-- What the XO shows when it runs again. -/
def State.resumeShown (s : State) : State :=
  s.sfs [(TIME_STATUS_HALTED, 0), (CLK_STAT_XO_HALT, 0), (CLK_STAT_META_LOCK, 1), (CLK_STAT_TPLL_LOCK, 1), (CLK_EVT_XO_RESUMED, 1)]

theorem State.linkLost_same (s : State) (ex : List Fld) : State.HaltSame ex s s.linkLost :=
  (State.linkLost_keeps (Nat.and_self _) (.refl _ s)).haltSame ex rfl rfl

/-- The closures that waited for CORE, when they are made with the end of the halt, leave what it has shown. -/
theorem execXoResume_same {s : State} (hready : s.isReady = true) (hhalt : s.gb TIME_STATUS_HALTED = true) :
    ∃ t, exec .xoResume s = .next t ∧ State.HaltSame [CLK_STAT_CORE_LOCK] s.resumeShown t := by
  have hcond : (s.isReady && s.gb TIME_STATUS_HALTED) = true := by rw [hready, hhalt]; rfl
  refine ⟨_, rfl, ?_⟩
  rw [if_pos hcond]
  extract_lets -merge -useContext +onlyGivenNames s1
  change State.HaltSame _ s1 _
  clear_value s1
  split
  · extract_lets -merge -useContext +onlyGivenNames last s2 s3 due s4
    have h2 : State.HaltSame [CLK_STAT_CORE_LOCK] s1 s2 := .coreLock s1 1 rfl rfl rfl (by decide)
    have hfifo := (State.fifoDrain_keeps (Nat.and_self _) (.refl _ s2)).haltSame [CLK_STAT_CORE_LOCK] rfl rfl
    have hts := (State.tsDrain_keeps (Nat.and_self _) (.refl _ s2.fifoDrain)).haltSame [CLK_STAT_CORE_LOCK] rfl rfl
    have hsign := (State.startSign_keeps (Nat.and_self _) (.refl _ s2.fifoDrain.tsDrain)).haltSame [CLK_STAT_CORE_LOCK] rfl rfl
    have h3 : State.HaltSame [CLK_STAT_CORE_LOCK] s2 s3 :=
      hfifo.trans (hts.trans (hsign.trans (State.raise_same _ _ 13 (by decide))))
    clear_value s3
    have h4 : State.HaltSame [CLK_STAT_CORE_LOCK] s3 s4 := by
      unfold s4
      split
      · exact State.HaltSame.setTime _ s3 rfl rfl rfl
      · exact State.haltClose_same _ _
    clear_value s4
    refine (h2.trans (h3.trans h4)).trans (State.HaltSame.trans ?_ (State.ketSync_same _ _))
    split
    · exact State.linkLost_same _ _
    · exact .refl _ _
  · exact State.ketSync_same _ _

theorem State.resumeShown_values (s : State) :
    s.resumeShown.gb TIME_STATUS_HALTED = false ∧ s.resumeShown.gb CLK_STAT_XO_HALT = false ∧ s.resumeShown.gb CLK_STAT_META_LOCK = true ∧
      s.resumeShown.gb CLK_STAT_TPLL_LOCK = true ∧ s.resumeShown.gb CLK_EVT_XO_RESUMED = true ∧ s.resumeShown.time.t = s.time.t := by
  unfold State.resumeShown State.gb
  refine ⟨?_, ?_, ?_, ?_, ?_, by rw [State.sfs_eq]⟩
  · rw [State.gf_sfs_get _ _ 0 TIME_STATUS_HALTED 0 rfl (by simp; decide)]
    rfl
  · rw [State.gf_sfs_get _ _ 1 CLK_STAT_XO_HALT 0 rfl (by simp; decide)]
    rfl
  · rw [State.gf_sfs_get _ _ 2 CLK_STAT_META_LOCK 1 rfl (by simp; decide)]
    rfl
  · rw [State.gf_sfs_get _ _ 3 CLK_STAT_TPLL_LOCK 1 rfl (by simp; decide)]
    rfl
  · rw [State.gf_sfs_get _ _ 4 CLK_EVT_XO_RESUMED 1 rfl rfl]
    rfl

/-! ### The reload (R125, R143) -/

/-- Device time as the reload sets it, from the Kettle's time, with what the reload shows. -/
def State.reloadShown (s : State) : State :=
  let t := s.ket.time
  let u := s.slewStop
  ((State.sf { u with
    time := { u.time with t := t * 2 ^ 32, frozen := false, lastEdge := none, good := 0, lastTick := t }
    ket := { u.ket with hwm := max u.ket.hwm t } } TIME_STATUS_RELOADED 1).sf HALT_LAST_SEC (min ((t - s.time.haltT) / 2 ^ 32) (2 ^ 32 - 1)))

theorem State.reloadShown_values (s : State) :
    s.reloadShown.time.frozen = false ∧ s.reloadShown.time.t = s.ket.time * 2 ^ 32 ∧ s.reloadShown.gb TIME_STATUS_RELOADED = true ∧
      s.reloadShown.gf HALT_LAST_SEC = min ((s.ket.time - s.time.haltT) / 2 ^ 32) (2 ^ 32 - 1) := by
  refine ⟨rfl, rfl, ?_, ?_⟩
  · unfold State.reloadShown
    simp only []
    rw [State.gb_sf_ne _ _ (by decide), State.gb_sf]
    rfl
  · unfold State.reloadShown
    simp only []
    rw [State.gf_sf]
    exact Nat.mod_eq_of_lt (Nat.lt_of_le_of_lt (Nat.min_le_right _ _) (by decide))

/-- The discipline's begin, the LOG record and the groups' restart leave what the reload has shown. -/
theorem execHaltTimeReload_same {s : State} {k : Nat} (hready : s.isReady = true) (hfrozen : s.time.frozen = true)
    (hhalt : s.gb TIME_STATUS_HALTED = false) (hdue : s.time.haltDue = false) :
    ∃ t, exec (.haltTimeReload k) s = .next t ∧ t.time = (s.ketRun k).reloadShown.time ∧
      t.gb TIME_STATUS_RELOADED = (s.ketRun k).reloadShown.gb TIME_STATUS_RELOADED ∧
      t.gf HALT_LAST_SEC = (s.ketRun k).reloadShown.gf HALT_LAST_SEC := by
  have hcond : ((s.ketRun k).isReady && (s.ketRun k).time.frozen && !(s.ketRun k).gb TIME_STATUS_HALTED && !(s.ketRun k).time.haltDue) = true := by
    show (s.isReady && s.time.frozen && !s.gb TIME_STATUS_HALTED && !s.time.haltDue) = true
    rw [hready, hfrozen, hhalt, hdue]
    rfl
  refine ⟨_, rfl, ?_⟩
  rw [if_pos hcond]
  extract_lets -merge -useContext +onlyGivenNames t h u last tm ket s1 s2 s3 s4
  have hs2 : s2 = (s.ketRun k).reloadShown := rfl
  rw [← hs2]
  clear_value s2
  have hst : ∀ b : Bool, (if b then 1 else 0) ≠ 2 := by decide
  have hmirror := State.mirror_keeps (Nat.and_self _) (.refl _ s2)
  have hpps := State.ppsState_keeps (x1 := if s2.gb TIME_CTRL_PPS_EN then 1 else 0) (Nat.and_self _) (.refl _ s2.mirror)
  have hlog : State.Keeps _ s3 s4 := State.logTime_keeps (Nat.and_self _) (.refl _ s3)
  have htime : s4.time = s2.time := (hlog.clock rfl rfl).trans ((hpps.clock rfl rfl).trans (hmirror.clock rfl rfl))
  have hrel : s4.gb TIME_STATUS_RELOADED = s2.gb TIME_STATUS_RELOADED :=
    (hlog.gb _ (by decide) rfl).trans ((State.ppsState_reloaded _ (hst _)).trans (hmirror.gb _ (by decide) rfl))
  have hlast : s4.gf HALT_LAST_SEC = s2.gf HALT_LAST_SEC :=
    (hlog.reg _ (by decide) rfl).trans ((hpps.reg _ (by decide) rfl).trans (hmirror.reg _ (by decide) rfl))
  exact ⟨(State.foldl_same State.time (fun u g => by split <;> rfl) _ s4).trans htime,
    (State.foldl_same (fun u => u.gb TIME_STATUS_RELOADED) (fun u g => by split <;> rfl) _ s4).trans hrel,
    (State.foldl_same (fun u => u.gf HALT_LAST_SEC) (fun u g => by split <;> rfl) _ s4).trans hlast⟩

/-- Settles O14: what a halt, its end and the reload show at once, which nothing later in the same command touches. -/
theorem haltsFreezeTime : Obligations.HaltsFreezeTime := by
  refine ⟨fun s hready hrun => ?_, fun s hready hhalt => ?_, fun s k hready hfrozen hhalt hdue => ?_⟩
  · obtain ⟨hfrozen, hsince, hnow, hhalted, hmeta, htpll, hxo, hcount⟩ := s.haltShown_values
    have h := s.halt_same
    exact ⟨s.halt, execXoHalt_of hready hrun, execMetaPllUnlock_of hready hrun, h.frozen.trans hfrozen, h.since.trans hsince,
      h.now.trans hnow, (h.gb _ (by decide) (by decide) (by decide)).trans hhalted, (h.gb _ (by decide) (by decide) (by decide)).trans hmeta,
      (h.gb _ (by decide) (by decide) (by decide)).trans htpll, (h.gb _ (by decide) (by decide) (by decide)).trans hxo,
      (h.reg _ (by decide) (by decide) (by decide)).trans hcount⟩
  · obtain ⟨hhalted, hstop, hmeta, htpll, hxo, hnow⟩ := s.resumeShown_values
    obtain ⟨t, ht, h⟩ := execXoResume_same hready hhalt
    exact ⟨t, ht, (h.gb _ (by decide) (by decide) (by decide)).trans hhalted, (h.gb _ (by decide) (by decide) (by decide)).trans hstop,
      (h.gb _ (by decide) (by decide) (by decide)).trans hmeta, (h.gb _ (by decide) (by decide) (by decide)).trans htpll,
      (h.gb _ (by decide) (by decide) (by decide)).trans hxo, h.now.trans hnow⟩
  · obtain ⟨hrun, hnow, hrel, hlast⟩ := (s.ketRun k).reloadShown_values
    obtain ⟨t, ht, htime, hrel', hlast'⟩ := execHaltTimeReload_same (k := k) hready hfrozen hhalt hdue
    exact ⟨t, ht, (congrArg TimeSt.frozen htime).trans hrun, (congrArg TimeSt.t htime).trans hnow, hrel'.trans hrel, hlast'.trans hlast⟩

end Sys2Proof.Machine
end

section
/-! SUPPORT. The course of a group's boundaries and of its windows that have ended (R140, R147, R201, R223): what forming records, closing
10 s intervals, taking calibration and evaluating events leave of it. -/

namespace Sys2Proof.Machine

/-- Where a group's cycles and half-cycles stand, which of its channels are fenced, and its windows that have ended. -/
structure Track where
  cycA : DevTime
  halves : List DevTime
  fenced : Nat
  wdone : List WinDone

def Grp.track (g : Grp) : Track := ⟨g.cycA, g.halves, g.fenced, g.wdone⟩

/-- The tracks of both groups. -/
def State.tracks (s : State) (g : Fin 2) : Track := (s.grp[g]).track

theorem State.setGrp_tracks (s : State) (g : Fin 2) (f : Grp → Grp) : (s.setGrp g f).tracks = Function.update s.tracks g (f s.grp[g]).track := by
  funext k
  by_cases hk : k = g
  · subst hk
    rw [Function.update_self]
    exact congrArg Grp.track (s.setGrp_get k f)
  · rw [Function.update_of_ne hk]
    simp [State.tracks, State.setGrp, Vector.getElem_set_ne, Fin.val_ne_of_ne (Ne.symm hk)]

/-- Records are added at most, and both groups' tracks stay. -/
structure State.TrackSame (s t : State) : Prop where
  formed : s.formed <+: t.formed
  tracks : t.tracks = s.tracks

namespace State.TrackSame

variable {s0 s : State}

theorem refl (s : State) : State.TrackSame s s := ⟨List.prefix_refl _, rfl⟩

theorem trans {t u : State} (h : State.TrackSame s t) (h' : State.TrackSame t u) : State.TrackSame s u :=
  ⟨h.formed.trans h'.formed, h'.tracks.trans h.tracks⟩

theorem ite {c : Prop} [Decidable c] {t u : State} (h : State.TrackSame s t) (h' : State.TrackSame s u) :
    State.TrackSame s (if c then t else u) := by
  split <;> assumption

theorem foldl {α : Type} {f : State → α → State} (h : State.TrackSame s0 s) (hf : ∀ v a, State.TrackSame v (f v a)) (l : List α) :
    State.TrackSame s0 (l.foldl f s) := by
  induction l generalizing s with
  | nil => exact h
  | cons a l ih => exact ih (h.trans (hf s a))

theorem get {t : State} (h : State.TrackSame s t) (g : Fin 2) : (t.grp[g]).track = (s.grp[g]).track := congrFun h.tracks g

/-- What changes neither the records nor the groups. -/
theorem same {t : State} (h : State.TrackSame s0 s) (hf : t.formed = s.formed) (hg : t.grp = s.grp) : State.TrackSame s0 t := by
  refine h.trans ⟨hf ▸ List.prefix_refl _, ?_⟩
  unfold State.tracks
  rw [hg]

theorem keeps {m : Nat} {t : State} (h : State.TrackSame s0 s) (hk : State.Keeps m s t) (hf : m.testBit StatePart.formed.ctorIdx = false)
    (hg : m.testBit StatePart.grp.ctorIdx = false) : State.TrackSame s0 t :=
  h.same (hk.part .formed hf) (hk.part .grp hg)

theorem setGrp {g : Fin 2} {f : Grp → Grp} (h : State.TrackSame s0 s) (hf : ∀ x, (f x).track = x.track) : State.TrackSame s0 (s.setGrp g f) :=
  h.trans ⟨List.prefix_refl _, by rw [s.setGrp_tracks, hf, ← State.tracks, Function.update_eq_self]⟩

theorem setEv {g : Fin 2} {f : Evs → Evs} (h : State.TrackSame s0 s) : State.TrackSame s0 (s.setEv g f) := h.setGrp fun _ => rfl

theorem setLvl {g : Fin 2} {l : Fin 3} {f : Lvl → Lvl} (h : State.TrackSame s0 s) : State.TrackSame s0 (s.setLvl g l f) := h.setGrp fun _ => rfl

theorem sfs {l : List (Fld × Nat)} (h : State.TrackSame s0 s) : State.TrackSame s0 (s.sfs l) := by
  rw [State.sfs_eq]
  exact h.same rfl rfl

theorem emitL {lvl : Nat} {r : Rec} (h : State.TrackSame s0 s) : State.TrackSame s0 (s.emitL lvl r) := by
  refine h.trans ⟨s.emitL_formed_prefix lvl r, ?_⟩
  have hgrp : (s.emitL lvl r).grp = s.grp := (State.emitL_keeps (Nat.and_self _) (.refl _ s)).part .grp rfl
  unfold State.tracks
  rw [hgrp]

theorem emit {r : Rec} (h : State.TrackSame s0 s) : State.TrackSame s0 (s.emit r) := h.emitL

theorem release (h : State.TrackSame s0 s) : State.TrackSame s0 s.release := h.keeps (State.release_keeps (Nat.and_self _) (.refl _ s)) rfl rfl

theorem capEvent {k : Nat} {g : Fin 2} {t : DevTime} (h : State.TrackSame s0 s) : State.TrackSame s0 (s.capEvent k g t) :=
  h.keeps (State.capEvent_keeps (Nat.and_self _) (.refl _ s)) rfl rfl

/-! ### Calibration and cuts (R149, R162, R163) -/

theorem cutStep {g : Fin 2} {b : DevTime} (h : State.TrackSame s0 s) : State.TrackSame s0 (s.cutStep g b) := h.setGrp fun _ => rfl

theorem cutBills {g : Fin 2} {a b : DevTime} (h : State.TrackSame s0 s) : State.TrackSame s0 (s.cutBills g a b) := ite h.cutStep h

theorem calApply {g : Fin 2} {n : Nat} {c : Commit} (h : State.TrackSame s0 s) : State.TrackSame s0 (s.calApply g n c) := by
  unfold State.calApply
  extract_lets old oldId set body _ m s1 s2
  have h1 : State.TrackSame s0 s1 := h.same rfl rfl
  have h2 : State.TrackSame s0 s2 := h1.setGrp fun _ => rfl
  exact h2.emit

theorem calApplyN {g : Fin 2} {n k : Nat} (h : State.TrackSame s0 s) : State.TrackSame s0 (s.calApplyN g n k) := by
  unfold State.calApplyN
  extract_lets l _ s1 s2
  have h1 : State.TrackSame s0 s1 := h.same rfl rfl
  have h2 : State.TrackSame s0 s2 := h1.setGrp fun _ => rfl
  exact h2.foldl (fun v c => (refl v).calApply) _

theorem calSettle {g : Fin 2} (h : State.TrackSame s0 s) : State.TrackSame s0 (s.calSettle g) := by
  unfold State.calSettle
  split
  · exact h
  · exact h.cutStep.calApplyN

/-! ### 10 s intervals and the tracker (R136 to R138) -/

theorem f10Open {g : Fin 2} (h : State.TrackSame s0 s) : State.TrackSame s0 (s.f10Open g) := h.same rfl rfl

theorem f10Start {g : Fin 2} {a : DevTime} {flags : Nat} (h : State.TrackSame s0 s) : State.TrackSame s0 (s.f10Start g a flags) := by
  unfold State.f10Start
  extract_lets st
  exact f10Open (h.setGrp fun _ => rfl)

theorem f10Close {g : Fin 2} {b lim : DevTime} {flags : Nat} (h : State.TrackSame s0 s) : State.TrackSame s0 (s.f10Close g b lim flags) := by
  unfold State.f10Close
  split
  · exact h
  · extract_lets gr e whole tE next n dur f has fx s1 valid fl s2 s3
    have hnext : ∀ v, State.TrackSame s0 v → State.TrackSame s0 (next v) := fun v hv => ite hv.f10Start (f10Open (hv.setGrp fun _ => rfl))
    have h1 : State.TrackSame s0 s1 := ite h (h.same rfl rfl)
    have h3 : State.TrackSame s0 s3 := hnext s2 h1.sfs
    generalize gr.siRange _ tE = p
    obtain ⟨si, k0⟩ := p
    exact ite (hnext s h) (ite h3.emitL h3)

theorem f10Settle {g : Fin 2} {k : Nat} {b : DevTime} (h : State.TrackSame s0 s) : State.TrackSame s0 (State.f10Settle g k b s) := by
  induction k generalizing s with
  | zero => exact h
  | succ k ih =>
    unfold State.f10Settle
    split
    · exact ite (ih h.f10Close.release) h
    · exact h

theorem f10Cross {g : Fin 2} {b : DevTime} (h : State.TrackSame s0 s) : State.TrackSame s0 (s.f10Cross g b) := by
  unfold State.f10Cross
  split
  · exact ite h (h.setGrp fun _ => rfl)
  · exact h

theorem winNote {g : Fin 2} (h : State.TrackSame s0 s) : State.TrackSame s0 (s.winNote g) := by
  unfold State.winNote
  extract_lets hold cl
  exact sfs (h.setGrp fun _ => rfl)

theorem trkState {g : Fin 2} {st : Nat} (h : State.TrackSame s0 s) : State.TrackSame s0 (s.trkState g st) := by
  unfold State.trkState
  extract_lets s1 s2
  have h1 : State.TrackSame s0 s1 := h.same rfl rfl
  have h2 : State.TrackSame s0 s2 := ite (h1.same rfl rfl) (h1.setGrp fun _ => rfl)
  exact h2.winNote

theorem trkCycle {g : Fin 2} {amp : Nat} (h : State.TrackSame s0 s) : State.TrackSame s0 (s.trkCycle g amp) := by
  unfold State.trkCycle
  extract_lets gr amp' min0 st low run new
  exact trkState (h.setGrp fun _ => rfl)

theorem trkFreq {g : Fin 2} {f : Nat} (h : State.TrackSame s0 s) : State.TrackSame s0 (s.trkFreq g f) := by
  unfold State.trkFreq
  extract_lets gr st
  split
  · exact ite h.sfs (h.same rfl rfl)
  · generalize gr.fRange = p
    obtain ⟨lo, hi⟩ := p
    exact ite (h.sfs.setGrp fun _ => rfl) h.sfs

/-! ### Voltage events (R201 to R207) -/

theorem evRec {g : Fin 2} {kind cause flags last1 : Nat} {p : List Byte} (h : State.TrackSame s0 s) :
    State.TrackSame s0 (s.evRec g kind cause flags last1 p) := h.setEv.emit

theorem evEmit {g : Fin 2} {kind : Nat} {v : Ev} {fin : Option DevTime} {cause flags last1 : Nat} (h : State.TrackSame s0 s) :
    State.TrackSame s0 (s.evEmit g kind v fin cause flags last1) := h.evRec

theorem evTestEnd {g : Fin 2} {kind : Nat} {t : DevTime} {last1 : Nat} {vals : List (Option Rat)} (h : State.TrackSame s0 s) :
    State.TrackSame s0 (s.evTestEnd g kind t last1 vals) := by
  unfold State.evTestEnd
  extract_lets e
  split
  · exact h
  · exact ite h.setEv.evEmit h.setEv

theorem evTestStart {g : Fin 2} {kind : Nat} {was : Bool} {t : DevTime} {last1 : Nat} {vals : List (Option Rat)} (h : State.TrackSame s0 s) :
    State.TrackSame s0 (s.evTestStart g kind was t last1 vals) := by
  unfold State.evTestStart
  extract_lets e v s1 s2 s3
  have h1 : State.TrackSame s0 s1 := h.setEv
  have h2 : State.TrackSame s0 s2 := h1.evEmit.same rfl rfl
  have h3 : State.TrackSame s0 s3 := h2.setEv
  exact ite h h3.capEvent

theorem rvcStep {g : Fin 2} {t : DevTime} {last1 : Nat} {vals : List (Option Rat)} (h : State.TrackSame s0 s) :
    State.TrackSame s0 (s.rvcStep g t last1 vals) := by
  unfold State.rvcStep
  extract_lets e n r hist put
  have hput : ∀ c v, State.TrackSame s0 v → State.TrackSame s0 (put c v) := fun c v hv => hv.setEv
  split
  · exact ite (hput _ _ h.evRec) (hput _ _ h)
  · exact ite (ite (hput _ _ h).capEvent (hput _ _ h)) (hput _ _ h)

theorem evStat {g : Fin 2} (h : State.TrackSame s0 s) : State.TrackSame s0 (s.evStat g) := h.sfs

theorem evValue {g : Fin 2} {t : DevTime} {last1 : Nat} {vals : List (Option Rat)} (h : State.TrackSame s0 s) :
    State.TrackSame s0 (s.evValue g t last1 vals) := by
  unfold State.evValue
  extract_lets e0 vs s1 e1 s2 e2 busy s3
  have h1 : State.TrackSame s0 s1 := h.foldl (fun v k => (refl v).evTestEnd) _
  have h2 : State.TrackSame s0 s2 := h1.foldl (fun v k => (refl v).evTestStart) _
  have h3 : State.TrackSame s0 s3 := ite h2.setEv (ite h2 h2.rvcStep)
  exact ite h h3.evStat

theorem msvStep {g : Fin 2} {k : Nat} {t : DevTime} {last1 : Nat} {vals : List (Option Rat)} (h : State.TrackSame s0 s) :
    State.TrackSame s0 (s.msvStep g k t last1 vals) := by
  unfold State.msvStep
  extract_lets e thr xs big put
  have hput : ∀ c v, State.TrackSame s0 v → State.TrackSame s0 (put c v) := fun c v hv => hv.setEv
  refine ite h ?_
  split
  · exact ite (hput _ _ h).capEvent h
  · exact ite (hput _ _ h) (hput _ _ h).evRec

/-! ### Spectra, meters, levels (R182, R186, R222) -/

theorem flickOne {g : Fin 2} {t : Tick} (h : State.TrackSame s0 s) : State.TrackSame s0 (s.flickOne g t) := by
  unfold State.flickOne
  extract_lets gr dark out cls s1
  have h1 : State.TrackSame s0 s1 := h.same rfl rfl
  exact h1.setGrp fun _ => rfl

theorem flickTo {g : Fin 2} {lim : Nat} (h : State.TrackSame s0 s) : State.TrackSame s0 (s.flickTo g lim) := by
  unfold State.flickTo
  extract_lets gr l
  exact ite h ((h.foldl (fun v t => (refl v).flickOne) l).setGrp fun _ => rfl)

theorem lvlClose {g : Fin 2} {lv : Fin 3} {t : DevTime} {flags : Nat} {fl : List (Option Rat)} {fn : List Nat} (h : State.TrackSame s0 s) :
    State.TrackSame s0 (s.lvlClose g lv t flags fl fn) := h.setLvl.emitL

theorem lvlAdd {g : Fin 2} {lv : Fin 3} {p : Part} (h : State.TrackSame s0 s) : State.TrackSame s0 (s.lvlAdd g lv p) := h.setLvl

theorem tenClose {g : Fin 2} {t : DevTime} {flags : Nat} (h : State.TrackSame s0 s) : State.TrackSame s0 (s.tenClose g t flags) := by
  unfold State.tenClose
  extract_lets l pst s1 p s2 s3
  have h1 : State.TrackSame s0 s1 := h.setGrp fun _ => rfl
  have h2 : State.TrackSame s0 s2 := h1.lvlClose
  have h3 : State.TrackSame s0 s3 := h2.lvlAdd
  exact ite h h3.setLvl

theorem twoClose {g : Fin 2} {t : DevTime} {flags : Nat} (h : State.TrackSame s0 s) : State.TrackSame s0 (s.twoClose g t flags) :=
  ite h h.setLvl.lvlClose

theorem shortClose {g : Fin 2} {t : DevTime} {flags : Nat} (h : State.TrackSame s0 s) : State.TrackSame s0 (s.shortClose g t flags) :=
  ite h.lvlClose h

theorem aggTake {g : Fin 2} {d : WinDone} {c : Civ} {spec : List (Nat × Rat)} (h : State.TrackSame s0 s) :
    State.TrackSame s0 (s.aggTake g d c spec) := by
  unfold State.aggTake
  extract_lets p s1
  have h1 : State.TrackSame s0 s1 := h.lvlAdd.lvlAdd
  refine ite h ?_
  split
  · have h2 : ∀ t, State.TrackSame s0 ((s1.shortClose g t 0).tenClose g t 0) := fun t => h1.shortClose.tenClose
    exact ite (h2 _).twoClose (h2 _)
  · exact ite h1.shortClose h1

theorem aggOpen {g : Fin 2} (h : State.TrackSame s0 s) : State.TrackSame s0 (s.aggOpen g) :=
  h.keeps (State.aggOpen_keeps (Nat.and_self _) (.refl _ s)) rfl rfl

theorem spcOpen {g : Fin 2} (h : State.TrackSame s0 s) : State.TrackSame s0 (s.spcOpen g) := h.same rfl rfl

theorem winOpen {g : Fin 2} {a : DevTime} {flags : Nat} (h : State.TrackSame s0 s) : State.TrackSame s0 (s.winOpen g a flags) := by
  unfold State.winOpen
  extract_lets gr k s1 cal w s2
  have h1 : State.TrackSame s0 s1 := ite h (h.setGrp fun _ => rfl)
  have h2 : State.TrackSame s0 s2 := h1.setGrp fun _ => rfl
  exact ite h h2.winNote.aggOpen.spcOpen

theorem prune {g : Fin 2} (h : State.TrackSame s0 s) : State.TrackSame s0 (s.prune g) := by
  unfold State.prune
  extract_lets gr low si si'
  have h1 : State.TrackSame s0 (s.dropTicks g (si' - 2)) := by
    unfold State.dropTicks
    exact h.setGrp fun _ => rfl
  exact h1.setGrp fun _ => rfl

theorem emits {l : List Rec} (h : State.TrackSame s0 s) : State.TrackSame s0 (s.emits l) := h.foldl (fun v _ => (refl v).emit) l

theorem smpRelease {n : Fin 16} {upto : Option DevTime} {flags : Nat} (h : State.TrackSame s0 s) :
    State.TrackSame s0 (s.smpRelease n upto flags) := by
  unfold State.smpRelease
  extract_lets gr ch ts runs recs cov
  split
  exact ite (emits (h.same rfl rfl)) (emits (h.same rfl rfl))

end State.TrackSame

end Sys2Proof.Machine
end

section
/-! SUPPORT. Cycle boundaries, the tracker and the 10 s frequency (R136 to R138, R147): the registers that each of their parts writes, and
what a boundary leaves of the group's track. -/

namespace Sys2Proof.Machine

/-! ### RSMP_STAT (R141) -/

/-- RSMP_STAT's flags and the overlap flags of AGG_STAT are all that it shows. -/
theorem State.rsmpStat_gf (s : State) (g : Fin 2) {f : Fld} (hl : f.lo < 16) (ho : f.off ≠ 0x0E04) :
    (s.rsmpStat g).gf f = s.gf f := by
  refine State.gf_sfs_ne _ _ fun e he => ?_
  simp only [List.mem_cons, List.not_mem_nil, or_false] at he
  rcases he with rfl | rfl | rfl | rfl
  · exact Fld.key_ne (by simp) (by omega) (.inr (by simp; omega))
  · exact Fld.key_ne (by simp) (by omega) (.inr (by simp; omega))
  · exact Fld.key_ne (by simp) (by omega) (.inr (by simp; omega))
  · refine Fld.key_ne (by split <;> simp) (by omega) (.inl ?_)
    split <;> exact Ne.symm ho

theorem State.winNote_gf (s : State) (g : Fin 2) {f : Fld} (hl : f.lo < 16) (ho : f.off ≠ 0x0E04) : (s.winNote g).gf f = s.gf f := by
  unfold State.winNote
  extract_lets hold cl
  exact State.rsmpStat_gf _ g hl ho

/-! ### The tracker (R136, R137) -/

theorem State.trkState_state (s : State) (g : Fin 2) {st : Nat} (h : st < 4) : (s.trkState g st).gf (FREQ_STAT_STATE g) = st := by
  unfold State.trkState
  extract_lets s1 s2
  have h1 : s1.gf (FREQ_STAT_STATE g) = st := by
    unfold s1
    rw [State.gf_sf]
    exact Nat.mod_eq_of_lt h
  rw [s2.winNote_gf g (by simp) (by simp; omega)]
  unfold s2
  split
  · rw [State.gf_sf_ne _ _ (Fld.key_ne (by simp) (by simp) (.inr (by simp))), h1]
  · exact h1

/-- A LOCKED tracker stays so by the amplitude of its reference, or has none below half MINAMP (R137). -/
theorem State.trkCycle_state {s : State} {g : Fin 2} (amp : Nat) (hst : s.gf (FREQ_STAT_STATE g) = 3) (hfen : (s.grp[g]).fenced = 0) :
    (s.trkCycle g amp).gf (FREQ_STAT_STATE g) = if 2 * amp < s.gf (FREQ_CFG_MINAMP g) then 1 else 3 := by
  unfold State.trkCycle
  extract_lets gr amp' min0 st low run new
  have hamp : amp' = amp := by
    unfold amp' gr
    rw [hfen, Nat.zero_testBit, Bool.and_false]
    rfl
  have hnew : new = if 2 * amp < min0 then 1 else 3 := by
    unfold new low st
    rw [hamp, hst]
    simp
  rw [State.trkState_state _ g (by rw [hnew]; split <;> decide), hnew]

/-- The tracked frequency, clamped to the tracker's range. -/
def Grp.clamped (gr : Grp) (f : Nat) : Nat := min (max f gr.fRange.1) gr.fRange.2

theorem Grp.fRange_bounds (gr : Grp) : gr.fRange.1 ≤ gr.fRange.2 ∧ gr.fRange.2 < 2 ^ 32 := by
  unfold Grp.fRange
  split <;> decide

theorem Grp.clamped_ne_iff (gr : Grp) (f : Nat) : gr.clamped f ≠ f ↔ f < gr.fRange.1 ∨ gr.fRange.2 < f := by
  have hle := gr.fRange_bounds.1
  unfold Grp.clamped
  omega

/-- A tracker that tracks shows the clamped frequency and whether it was clamped. -/
theorem State.trkFreq_gf {s : State} {g : Fin 2} (f : Nat) (hst : ¬s.gf (FREQ_STAT_STATE g) < 2) (k : Fld) :
    (s.trkFreq g f).gf k =
      (s.sfs [(FREQ_NOW_F g, (s.grp[g]).clamped f), (FREQ_STAT_OUTRANGE g, b2n (decide ((s.grp[g]).clamped f ≠ f)))]).gf k := by
  unfold State.trkFreq
  rw [if_neg hst]
  by_cases h3 : s.gf (FREQ_STAT_STATE g) = 3
  · simp only [h3, if_true]
    rfl
  · simp only [h3, if_false]
    rfl

theorem State.trkFreq_state (s : State) (g : Fin 2) (f : Nat) : (s.trkFreq g f).gf (FREQ_STAT_STATE g) = s.gf (FREQ_STAT_STATE g) := by
  have hnow : (FREQ_NOW_F g).key ≠ (FREQ_STAT_STATE g).key := Fld.key_ne (by simp) (by simp) (.inl (by simp))
  have hout : (FREQ_STAT_OUTRANGE g).key ≠ (FREQ_STAT_STATE g).key := Fld.key_ne (by simp) (by simp) (.inr (by simp))
  have hsfs : ∀ x y, (s.sfs [(FREQ_NOW_F g, x), (FREQ_STAT_OUTRANGE g, y)]).gf (FREQ_STAT_STATE g) = s.gf (FREQ_STAT_STATE g) := fun x y =>
    State.gf_sfs_ne _ _ (by simp only [List.forall_mem_cons]; exact ⟨hnow, hout, by simp⟩)
  by_cases hst : s.gf (FREQ_STAT_STATE g) < 2
  · unfold State.trkFreq
    rw [if_pos hst]
    split
    · exact hsfs _ _
    · exact State.gf_sf_ne _ _ hnow
  · rw [State.trkFreq_gf f hst]
    exact hsfs _ _

theorem State.trkFreq_now {s : State} {g : Fin 2} (f : Nat) (hst : ¬s.gf (FREQ_STAT_STATE g) < 2) :
    (s.trkFreq g f).gf (FREQ_NOW_F g) = (s.grp[g]).clamped f := by
  rw [State.trkFreq_gf f hst, State.gf_sfs_get _ _ 0 (FREQ_NOW_F g) _ rfl (by simp [Fld.key]; omega)]
  exact Nat.mod_eq_of_lt (Nat.lt_of_le_of_lt (Nat.min_le_right _ _) (s.grp[g]).fRange_bounds.2)

theorem State.trkFreq_outrange {s : State} {g : Fin 2} (f : Nat) (hst : ¬s.gf (FREQ_STAT_STATE g) < 2) :
    (s.trkFreq g f).gb (FREQ_STAT_OUTRANGE g) = decide (f < (s.grp[g]).fRange.1 ∨ (s.grp[g]).fRange.2 < f) := by
  unfold State.gb
  rw [State.trkFreq_gf f hst, State.gf_sfs_get _ _ 1 (FREQ_STAT_OUTRANGE g) _ rfl rfl]
  simp only [← (s.grp[g]).clamped_ne_iff f]
  cases decide ((s.grp[g]).clamped f ≠ f) <;> rfl

/-! ### What a cycle boundary leaves of the tracker's registers -/

/-- A field of a group's FREQ_CFG, FREQ_STAT or FREQ_NOW. -/
structure Fld.OfTracker (g : Fin 2) (f : Fld) : Prop where
  lo : f.lo < 32
  first : 0x0880 + 64 * g.val ≤ f.off
  last : f.off < 0x088C + 64 * g.val

theorem Fld.OfTracker.state (g : Fin 2) : Fld.OfTracker g (FREQ_STAT_STATE g) := ⟨by simp, by simp, by simp⟩

theorem Fld.OfTracker.minamp (g : Fin 2) : Fld.OfTracker g (FREQ_CFG_MINAMP g) := ⟨by simp, by simp, by simp⟩

/-- What leaves chapter 6's frequency registers alone. -/
theorem State.Keeps.freqReg {m : Nat} {s t : State} (h : State.Keeps m s t) (hm : m.testBit 104 = false) {f : Fld} (hl : f.lo < 32)
    (h1 : 0x0880 ≤ f.off) (h2 : f.off < 0x0A00) : t.gf f = s.gf f := h.reg f hl (by rw [RegGroup.freq_at h1 h2]; exact hm)

theorem State.Keeps.tracker {m : Nat} {s t : State} {g : Fin 2} {f : Fld} (h : State.Keeps m s t) (hm : m.testBit 104 = false)
    (hf : f.OfTracker g) : t.gf f = s.gf f := h.freqReg hm hf.lo (by have := hf.first; omega) (by have := hf.last; omega)

/-- The close of a 10 s interval shows it in FREQ_10S and leaves the registers before it. -/
theorem State.f10Close_tracker (s : State) (g : Fin 2) (b lim : DevTime) (flags : Nat) {f : Fld} (hf : f.OfTracker g) :
    (s.f10Close g b lim flags).gf f = s.gf f := by
  have hlo := hf.lo
  have hlast := hf.last
  unfold State.f10Close
  split
  · rfl
  · extract_lets gr e whole tE next n dur fr has fx s1 valid fl s2 s3
    have hnext : ∀ v, (next v).gf f = v.gf f := fun v => by
      unfold next
      split <;> rfl
    have h1 : s1.gf f = s.gf f := by
      unfold s1
      split <;> rfl
    have h2 : s2.gf f = s1.gf f := by
      refine State.gf_sfs_ne _ _ ?_
      simp only [List.forall_mem_cons, List.not_mem_nil, false_imp_iff, implies_true, and_true]
      refine ⟨?_, ?_, ?_, ?_, ?_, ?_, ?_⟩ <;> exact Fld.key_ne (by simp) hlo (.inl (by simp; omega))
    have h3 : s3.gf f = s.gf f := (hnext s2).trans (h2.trans h1)
    generalize gr.siRange _ tE = p
    obtain ⟨si, k0⟩ := p
    simp only []
    split
    · exact hnext s
    · split
      · rw [(State.emitL_keeps (Nat.and_self _) (.refl _ s3)).tracker rfl hf, h3]
      · exact h3

theorem State.f10Settle_tracker (g : Fin 2) (k : Nat) (b : DevTime) (s : State) {f : Fld} (hf : f.OfTracker g) :
    (State.f10Settle g k b s).gf f = s.gf f := by
  induction k generalizing s with
  | zero => rfl
  | succ k ih =>
    unfold State.f10Settle
    split
    · split
      · rw [ih, (State.release_keeps (Nat.and_self _) (.refl _ _)).tracker rfl hf, s.f10Close_tracker g _ _ _ hf]
      · rfl
    · rfl

/-! ### A boundary of a locked tracker (R147, R149) -/

/-- The cycle of a group ends at its boundary; `gr` is the group as it was. A group that a switch of slices has left begins the next. -/
def State.cycleTo (s : State) (g : Fin 2) (gr : Grp) (u : DevTime) (rot : Nat → Rat) : State :=
  if gr.lost then s.setGrp g (fun gr => { gr with cycA := u })
  else (((s.calSettle g).cutBills g gr.cycA u).cycleEnd g u rot 0).sb (MET_STAT_NOMINAL g) false

/-- What has been done at a locked tracker's boundary when its amplitude and frequency are taken. -/
def State.cycleTaken (s : State) (g : Fin 2) (u : DevTime) (rot : Nat → Rat) : State :=
  (((State.f10Settle g 8640 u s).cycleTo g s.grp[g] u rot).f10Cross g u).setGrp g (fun gr => { gr with nominal := false, nomBase := u * 2 ^ 32 })

theorem State.cycleEnd_track (s : State) (g : Fin 2) (b : DevTime) (rot : Nat → Rat) (flags : Nat) :
    ((s.cycleEnd g b rot flags).grp[g]).track = { (s.grp[g]).track with cycA := b } := by
  unfold State.cycleEnd
  extract_lets
  rw [State.setGrp_get]
  rfl

theorem State.cycleTo_track (s : State) (g : Fin 2) (gr : Grp) (u : DevTime) (rot : Nat → Rat) :
    ((s.cycleTo g gr u rot).grp[g]).track = { (s.grp[g]).track with cycA := u } := by
  unfold State.cycleTo
  split
  · rw [State.setGrp_get]
    rfl
  · change ((State.cycleEnd _ g u rot 0).grp[g]).track = _
    rw [State.cycleEnd_track, ((State.TrackSame.refl s).calSettle.cutBills).get g]

theorem State.cycleTaken_track (s : State) (g : Fin 2) (u : DevTime) (rot : Nat → Rat) :
    ((s.cycleTaken g u rot).grp[g]).track = { (s.grp[g]).track with cycA := u } := by
  have h1 := (State.TrackSame.refl s).f10Settle (g := g) (k := 8640) (b := u) |>.get g
  have h2 := (State.f10Settle g 8640 u s).cycleTo_track g s.grp[g] u rot
  unfold State.cycleTaken
  generalize (State.f10Settle g 8640 u s).cycleTo g s.grp[g] u rot = v at h2 ⊢
  have h3 : State.TrackSame v ((v.f10Cross g u).setGrp g (fun gr => { gr with nominal := false, nomBase := u * 2 ^ 32 })) :=
    ((State.TrackSame.refl v).f10Cross).setGrp fun _ => rfl
  rw [h3.get g, h2, h1]

theorem State.cycleTo_tracker (s : State) (g : Fin 2) (gr : Grp) (u : DevTime) (rot : Nat → Rat) {f : Fld} (hf : f.OfTracker g) :
    (s.cycleTo g gr u rot).gf f = s.gf f := by
  unfold State.cycleTo
  split
  · rfl
  · have hlast := hf.last
    unfold State.sb
    rw [State.gf_sf_ne _ _ (Fld.key_ne (by simp) hf.lo (.inl (by simp; omega))),
      (State.cycleEnd_keeps (Nat.and_self _) (.refl _ _)).tracker rfl hf,
      (State.cutBills_keeps (Nat.and_self _) (.refl _ _)).tracker rfl hf,
      (State.calSettle_keeps (Nat.and_self _) (.refl _ _)).tracker rfl hf]

theorem State.cycleTaken_tracker (s : State) (g : Fin 2) (u : DevTime) (rot : Nat → Rat) {f : Fld} (hf : f.OfTracker g) :
    (s.cycleTaken g u rot).gf f = s.gf f := by
  have h1 := State.f10Settle_tracker g 8640 u s hf
  have h2 := (State.f10Settle g 8640 u s).cycleTo_tracker g s.grp[g] u rot hf
  unfold State.cycleTaken
  generalize (State.f10Settle g 8640 u s).cycleTo g s.grp[g] u rot = v at h2 ⊢
  calc _ = (v.f10Cross g u).gf f := rfl
    _ = v.gf f := (State.f10Cross_keeps (Nat.and_self _) (.refl _ v)).tracker rfl hf
    _ = s.gf f := h2.trans h1

/-- What leaves a group's production leaves its nominal frequency, hence the tracker's range. -/
theorem State.Keeps.fRange {m : Nat} {s t : State} (h : State.Keeps m s t) (hm : m.testBit StatePart.grpRun.ctorIdx = false) (g : Fin 2) :
    (t.grp[g]).fRange = (s.grp[g]).fRange := by
  have hfnom : (t.grp[g]).fnom = (s.grp[g]).fnom := congrArg (fun p => p.2.2.2.2.2.2.1) (h.part .grpRun hm g)
  unfold Grp.fRange
  rw [hfnom]

theorem State.cycleTo_fRange (s : State) (g : Fin 2) (gr : Grp) (u : DevTime) (rot : Nat → Rat) :
    ((s.cycleTo g gr u rot).grp[g]).fRange = (s.grp[g]).fRange := by
  unfold State.cycleTo
  split
  · rw [State.setGrp_get]
    rfl
  · change ((State.cycleEnd _ g u rot 0).grp[g]).fRange = _
    rw [(State.cycleEnd_keeps (Nat.and_self _) (.refl _ _)).fRange rfl, (State.cutBills_keeps (Nat.and_self _) (.refl _ _)).fRange rfl,
      (State.calSettle_keeps (Nat.and_self _) (.refl _ _)).fRange rfl]

theorem State.cycleTaken_fRange (s : State) (g : Fin 2) (u : DevTime) (rot : Nat → Rat) :
    ((s.cycleTaken g u rot).grp[g]).fRange = (s.grp[g]).fRange := by
  have h1 : ((State.f10Settle g 8640 u s).grp[g]).fRange = (s.grp[g]).fRange :=
    (State.f10Settle_keeps (Nat.and_self _) (.refl _ s)).fRange rfl g
  have h2 := (State.f10Settle g 8640 u s).cycleTo_fRange g s.grp[g] u rot
  unfold State.cycleTaken
  generalize (State.f10Settle g 8640 u s).cycleTo g s.grp[g] u rot = v at h2 ⊢
  rw [State.setGrp_get]
  calc _ = ((v.f10Cross g u).grp[g]).fRange := rfl
    _ = (v.grp[g]).fRange := (State.f10Cross_keeps (Nat.and_self _) (.refl _ v)).fRange rfl g
    _ = (s.grp[g]).fRange := h2.trans h1

/-- A group for which nothing is due before its next sample stays as it is. -/
theorem State.grpDue_of_nothing {s : State} {g : Fin 2} (htick : (s.grp[g]).tickDue = none) (hstep : (s.grp[g]).step = [])
    (hshadow : (s.grp[g]).shadow = none) : s.grpDue g = s := by
  unfold State.grpDue
  simp only [htick, hstep, hshadow, List.foldl_nil, ite_self]

/-- A boundary of a locked tracker that lies after the cycle's start and within the delivered samples is taken. -/
theorem execCycleBoundary_of {s : State} {g : Fin 2} {u : Nat} (rot : List Rat) (amp freq : Nat) (hdue : s.grpDue g = s)
    (hready : s.isReady = true) (hrun : (s.grp[g]).running = true) (hmon : (s.grp[g]).monitor = false) (hawait : (s.grp[g]).await = none)
    (hst : s.gf (FREQ_STAT_STATE g) = 3) (hnom : (s.grp[g]).nominal = false) (hlow : (s.grp[g]).cycA < u)
    (hhigh : u ≤ s.grT g (s.grp[g]).si) :
    exec (.cycleBoundary g u rot amp freq) s =
      .next ((((s.cycleTaken g u (fun i => rot.getD i (Config.freeRat (s.free + i)))).trkCycle g amp).trkFreq g freq).winNote g) := by
  show execCycleBoundary g u rot amp freq s = _
  unfold execCycleBoundary
  simp only [hdue, hready, hrun, hmon, hawait, hst, hnom, hlow, hhigh, decide_true, if_true, Bool.and_false, Bool.not_false, Bool.true_or,
    Option.isNone_none, Bool.and_self, Bool.not_true]
  rfl

theorem cycleBoundary_locked {s : State} {g : Fin 2} (u : Nat) (rot : Nat → Rat) (amp freq : Nat) (hfen : (s.grp[g]).fenced = 0)
    (hst : s.gf (FREQ_STAT_STATE g) = 3) {t : State} (ht : (((s.cycleTaken g u rot).trkCycle g amp).trkFreq g freq).winNote g = t) :
    (t.grp[g]).cycA = u ∧
      (2 * amp < s.gf (FREQ_CFG_MINAMP g) → t.gf (FREQ_STAT_STATE g) = 1) ∧
      (s.gf (FREQ_CFG_MINAMP g) ≤ 2 * amp → t.gf (FREQ_STAT_STATE g) = 3 ∧
        t.gf (FREQ_NOW_F g) = min (max freq (s.grp[g]).fRange.1) (s.grp[g]).fRange.2 ∧
        t.gb (FREQ_STAT_OUTRANGE g) = decide (freq < (s.grp[g]).fRange.1 ∨ (s.grp[g]).fRange.2 < freq)) := by
  have htrack := s.cycleTaken_track g u rot
  have hstate := s.cycleTaken_tracker g u rot (.state g)
  have hmin := s.cycleTaken_tracker g u rot (.minamp g)
  have hrange := s.cycleTaken_fRange g u rot
  generalize s.cycleTaken g u rot = v at ht htrack hstate hmin hrange
  have hsame : State.TrackSame v t := ht ▸ (State.TrackSame.refl v).trkCycle.trkFreq.winNote
  have hcyc : (v.trkCycle g amp).gf (FREQ_STAT_STATE g) = if 2 * amp < s.gf (FREQ_CFG_MINAMP g) then 1 else 3 := by
    rw [State.trkCycle_state amp (hstate.trans hst) ((congrArg Track.fenced htrack).trans hfen), hmin]
  have hrange' : ((v.trkCycle g amp).grp[g]).fRange = (s.grp[g]).fRange :=
    ((State.trkCycle_keeps (Nat.and_self _) (.refl _ v)).fRange rfl g).trans hrange
  generalize v.trkCycle g amp = c at ht hcyc hrange'
  have htstate : t.gf (FREQ_STAT_STATE g) = c.gf (FREQ_STAT_STATE g) := by
    rw [← ht, State.winNote_gf _ g (by simp) (by simp; omega), State.trkFreq_state]
  refine ⟨congrArg Track.cycA ((hsame.get g).trans htrack), fun hamp => ?_, fun hamp => ?_⟩
  · rw [htstate, hcyc, if_pos hamp]
  · rw [if_neg (by omega)] at hcyc
    have h2 : ¬c.gf (FREQ_STAT_STATE g) < 2 := by omega
    refine ⟨htstate.trans hcyc, ?_, ?_⟩
    · rw [← ht, State.winNote_gf _ g (by simp) (by simp; omega), State.trkFreq_now freq h2, Grp.clamped, hrange']
    · rw [← ht, State.gb, State.winNote_gf _ g (by simp) (by simp; omega), ← State.gb, State.trkFreq_outrange freq h2, hrange']

/-! ### Half-cycles (R148) -/

/-- A half-cycle boundary is noted beside the two before it. -/
theorem State.halfEnd_halves (s : State) (g : Fin 2) (b : DevTime) : ((s.halfEnd g b).grp[g]).halves = (b :: (s.grp[g]).halves).take 3 := by
  unfold State.halfEnd
  extract_lets gr s1
  have h1 : (s1.grp[g]).halves = (b :: gr.halves).take 3 := congrArg Grp.halves (s.setGrp_get g _)
  split
  · extract_lets ts s2
    have h2 : State.TrackSame s1 s2 := (State.TrackSame.refl s1).setGrp fun _ => rfl
    split
    · exact (congrArg Track.halves (h2.evValue.get g)).trans h1
    · exact (congrArg Track.halves (h2.get g)).trans h1
  · exact h1

theorem execHalfCycleBoundary_of {s : State} {g : Fin 2} {u : Nat} (hready : s.isReady = true) (hrun : (s.grp[g]).running = true)
    (hmon : (s.grp[g]).monitor = false) (hlost : (s.grp[g]).lost = false) (hsw : s.gb SLICE_STAT_SWITCHING = false)
    (hawait : (s.grp[g]).await = none) (hst : s.gf (FREQ_STAT_STATE g) = 3) (hlow : (s.grp[g]).halves.headD (s.grp[g]).cycA < u)
    (hhigh : u ≤ s.grT g (s.grp[g]).si) : exec (.halfCycleBoundary g u) s = .next ((s.calSettle g).halfEnd g u) := by
  rw [List.headD_eq_head?_getD] at hlow
  show execHalfCycleBoundary g u s = _
  unfold execHalfCycleBoundary
  simp only [hready, hrun, hmon, hlost, hsw, hawait, hst, hlow, hhigh, decide_true, if_true, Bool.not_false, Option.isNone_none, Bool.and_self]

/-! ### The close of a 10 s interval (R138) -/

/-- What a whole 10 s interval that began at `a` and held samples leaves: its start, cycles and validity, and the next that abuts. -/
structure State.F10Shown (s : State) (g : Fin 2) (a : DevTime) (gr : Grp) : Prop where
  next : (s.grp[g]).f10A = some (f10End a)
  start : s.gf (FREQ_10S_T_SEC g) = a / 2 ^ 32 % 2 ^ 32
  cycles : s.gf (FREQ_10S_FL_N g) = min (gr.f10N - 1) 65535
  valid : s.gb (FREQ_10S_FL_VALID g) =
    (decide (1 < gr.f10N) && decide (gr.f10First.getD 0 < gr.f10Last.getD 0) && decide (gr.f10St = 0))

theorem State.F10Shown.keeps {m : Nat} {s t : State} {g : Fin 2} {a : DevTime} {gr : Grp} (h : s.F10Shown g a gr) (hk : State.Keeps m s t)
    (hgrp : m.testBit StatePart.grp.ctorIdx = false) (hfreq : m.testBit 104 = false) : t.F10Shown g a gr := by
  have hreg : ∀ (k lo w : Nat), lo < 32 → k < 64 → t.gf ⟨0x0880 + k + 64 * g, lo, w⟩ = s.gf ⟨0x0880 + k + 64 * g, lo, w⟩ :=
    fun k lo w hl hlt => hk.freqReg hfreq hl (by dsimp only; omega) (by dsimp only; omega)
  have hg : t.grp = s.grp := hk.part .grp hgrp
  exact ⟨hg ▸ h.next, (hreg 16 0 32 (by decide) (by decide)).trans h.start, (hreg 20 0 16 (by decide) (by decide)).trans h.cycles,
    (congrArg (fun n => decide (n = 1)) (hreg 20 16 1 (by decide) (by decide))).trans h.valid⟩

theorem f10End_gt (a : DevTime) : a < f10End a := by
  unfold f10End
  exact (Nat.lt_mul_div_succ a (by decide)).trans_eq (Nat.mul_comm _ _)

theorem State.f10Open_grp (s : State) (g : Fin 2) : (s.f10Open g).grp = s.grp := rfl

theorem State.f10Start_f10A (s : State) (g : Fin 2) (a : DevTime) (flags : Nat) : ((s.f10Start g a flags).grp[g]).f10A = some a := by
  unfold State.f10Start
  extract_lets st
  rw [State.f10Open_grp, State.setGrp_get]

theorem State.f10Start_gf (s : State) (g : Fin 2) (a : DevTime) (flags : Nat) (f : Fld) : (s.f10Start g a flags).gf f = s.gf f := rfl

/-- FREQ_10S as a 10 s interval's close writes it. -/
theorem State.f10Words (s : State) (g : Fin 2) (x sec n : Nat) (valid : Bool) (halt step hold : Nat) :
    let t := s.sfs [(FREQ_10S_F g, x), (FREQ_10S_T_SEC g, sec), (FREQ_10S_FL_N g, n), (FREQ_10S_FL_VALID g, b2n valid),
      (FREQ_10S_FL_HALT g, halt), (FREQ_10S_FL_TIMESTEP g, step), (FREQ_10S_FL_FHOLD g, hold)]
    t.gf (FREQ_10S_T_SEC g) = sec % 2 ^ 32 ∧ t.gf (FREQ_10S_FL_N g) = n % 2 ^ 16 ∧ t.gb (FREQ_10S_FL_VALID g) = valid := by
  intro t
  refine ⟨State.gf_sfs_get s _ 1 (FREQ_10S_T_SEC g) sec rfl (by simp [Fld.key]; omega),
    State.gf_sfs_get s _ 2 (FREQ_10S_FL_N g) n rfl (by simp [Fld.key]), ?_⟩
  unfold State.gb
  rw [State.gf_sfs_get s _ 3 (FREQ_10S_FL_VALID g) (b2n valid) rfl (by simp [Fld.key])]
  cases valid <;> rfl

theorem State.f10Close_shown {s : State} {g : Fin 2} {a : Nat} (hA : (s.grp[g]).f10A = some a)
    (hk : 0 < ((s.grp[g]).siRange a (f10End a)).2 -
      runIn ((s.grp[g]).siRange a (f10End a)).1 ((s.grp[g]).siRange a (f10End a)).2 (s.grp[g]).gone) :
    (s.f10Close g (f10End a) (f10End a) 0).F10Shown g a s.grp[g] := by
  unfold State.f10Close
  split
  next hnone => rw [hA] at hnone; cases hnone
  next a' hA' =>
  obtain rfl : a = a' := Option.some.inj (hA.symm.trans hA')
  extract_lets gr e whole tE next n dur fr has fx s1 valid fl s2 s3
  have hwhole : whole = true := decide_eq_true (Nat.le_refl e)
  have htE : tE = e := if_pos hwhole
  have hnext : ∀ v, next v = v.f10Start g e 0 := fun v => if_pos hwhole
  have hvalid : valid = (decide (1 < gr.f10N) && decide (gr.f10First.getD 0 < gr.f10Last.getD 0) && decide (gr.f10St = 0)) := by
    unfold valid has dur n
    simp only [Nat.sub_pos_iff_lt]
    rfl
  obtain ⟨hstart, hcycles, hfl⟩ := s1.f10Words g fx (a / 2 ^ 32) (min n 65535) valid
    (b2n (!whole && (0 : Nat) == flHalt)) (b2n (!whole && (0 : Nat) == flTimestep)) (b2n (gr.f10St != 0))
  have hn : min n 65535 % 2 ^ 16 = min n 65535 := Nat.mod_eq_of_lt (by omega)
  change s2.gf _ = _ at hstart hcycles
  change s2.gb _ = _ at hfl
  clear_value s2
  have h3 : s3.F10Shown g a gr := by
    have hs3 : s3 = s2.f10Start g e 0 := hnext s2
    have hgf : ∀ f, s3.gf f = s2.gf f := fun f => hs3 ▸ s2.f10Start_gf g e 0 f
    clear_value s3
    refine ⟨hs3 ▸ s2.f10Start_f10A g e 0, (hgf _).trans hstart, (hgf _).trans (hcycles.trans hn), ?_⟩
    rw [State.gb, hgf, ← State.gb, hfl, hvalid]
  have hlt : ¬tE ≤ a := htE ▸ Nat.not_le.2 (f10End_gt a)
  rw [htE]
  change 0 < (gr.siRange a e).2 - runIn (gr.siRange a e).1 (gr.siRange a e).2 gr.gone at hk
  generalize gr.siRange a e = p at hk ⊢
  obtain ⟨si, k0⟩ := p
  simp only at hk ⊢
  rw [if_neg (by simp [← htE, hlt]; omega)]
  split
  · exact h3.keeps (State.emitL_keeps (Nat.and_self _) (.refl _ s3)) rfl rfl
  · exact h3

theorem execFreq10sClose_of {s : State} {g : Fin 2} {a : Nat} (hdue : s.grpDue g = s) (hready : s.isReady = true)
    (hrun : (s.grp[g]).running = true) (hawait : (s.grp[g]).await = none) (hA : (s.grp[g]).f10A = some a)
    (hend : f10End a ≤ s.grT g (s.grp[g]).si) :
    exec (.freq10sClose g) s = .next (s.f10Close g (f10End a) (f10End a) 0).release := by
  show execFreq10sClose g s = _
  unfold execFreq10sClose
  simp only [hA, hdue, hready, hrun, hawait, hend, decide_true, if_true, Option.isNone_none, Bool.and_self]

/-- Settles O31: the boundary of a locked tracker by what each of its parts leaves, half-cycles by their list, the 10 s interval by what
its close shows. -/
theorem cyclesAndFrequency : Obligations.CyclesAndFrequency := by
  refine ⟨fun s g u rot amp freq hready hrun hmon hawait htick hstep hshadow hfen hst hnom hlow hhigh => ?_,
    fun s g u hready hrun hmon hlost hsw hawait hst hlow hhigh => ?_,
    fun s g a hready hrun hawait htick hstep hshadow hA hend hk => ?_⟩
  · exact ⟨_, execCycleBoundary_of rot amp freq (State.grpDue_of_nothing htick hstep hshadow) hready hrun hmon hawait hst hnom hlow hhigh,
      cycleBoundary_locked u _ amp freq hfen hst rfl⟩
  · refine ⟨_, execHalfCycleBoundary_of hready hrun hmon hlost hsw hawait hst hlow hhigh, ?_⟩
    rw [State.halfEnd_halves, show (((s.calSettle g).grp[g]).halves = (s.grp[g]).halves) from
      congrArg Track.halves ((State.TrackSame.refl s).calSettle.get g)]
  · have hshown := (State.f10Close_shown hA hk).keeps (State.release_keeps (Nat.and_self _) (.refl _ _)) rfl rfl
    exact ⟨_, execFreq10sClose_of (State.grpDue_of_nothing htick hstep hshadow) hready hrun hawait hA hend, hshown.next, hshown.start,
      hshown.cycles, hshown.valid⟩

end Sys2Proof.Machine
end

section
/-! SUPPORT. Windows and the records that they wait for (R140, R182, R223 to R225). -/

namespace Sys2Proof.Machine

/-! ### A window ends and the next begins (R140, R141) -/

theorem State.winNote_wins (s : State) (g : Fin 2) : ((s.winNote g).grp[g]).wins.map Window.a = (s.grp[g]).wins.map Window.a := by
  unfold State.winNote
  extract_lets hold cl
  have hgrp : ∀ u : State, (u.rsmpStat g).grp = u.grp := fun u => (State.rsmpStat_keeps (Nat.and_self _) (.refl _ u)).part .grp rfl
  rw [hgrp, State.setGrp_get, List.map_map]
  rfl

/-- Ordering the rings leaves the groups. -/
theorem State.openOrder_grp (s : State) (g : Fin 2) : ((s.aggOpen g).spcOpen g).grp = s.grp := by
  have hspc : ((s.aggOpen g).spcOpen g).grp = (s.aggOpen g).grp := (State.spcOpen_keeps (Nat.and_self _) (.refl _ _)).part .grp rfl
  exact hspc.trans ((State.aggOpen_keeps (Nat.and_self _) (.refl _ s)).part .grp rfl)

theorem State.openOrder_windows (s : State) (g : Fin 2) : ((s.aggOpen g).spcOpen g).gf (RSMP_STAT_WINDOWS g) = s.gf (RSMP_STAT_WINDOWS g) := by
  have hspc := State.spcOpen_keeps (x1 := g) (Nat.and_self _) (.refl _ (s.aggOpen g))
  have hagg := State.aggOpen_keeps (x1 := g) (Nat.and_self _) (.refl _ s)
  exact (hspc.freqReg rfl (by simp) (by simp; omega) (by simp; omega)).trans (hagg.freqReg rfl (by simp) (by simp; omega) (by simp; omega))

/-- A window that opens is the group's last. -/
theorem State.winOpen_wins {s : State} {g : Fin 2} (a : DevTime) (flags : Nat) (hshadow : (s.grp[g]).shadow = none)
    (hmon : (s.grp[g]).monitor = false) :
    ((s.winOpen g a flags).grp[g]).wins.map Window.a = (s.grp[g]).wins.map Window.a ++ [a] := by
  unfold State.winOpen
  extract_lets gr k s1 cal w s2
  have h1 : (s1.grp[g]).wins = gr.wins := by
    unfold s1
    split
    · rfl
    · rw [State.setGrp_get]
  have h2 : (s2.grp[g]).wins = (s1.grp[g]).wins ++ [w] := congrArg Grp.wins (s1.setGrp_get g _)
  have hopen : (gr.shadow.isSome || gr.monitor) = false := by
    unfold gr
    rw [hshadow, hmon]
    rfl
  rw [hopen, if_neg Bool.false_ne_true, State.openOrder_grp, State.winNote_wins, h2, h1, List.map_append]
  rfl

theorem State.winOpen_windows (s : State) (g : Fin 2) (a : DevTime) (flags : Nat) :
    (s.winOpen g a flags).gf (RSMP_STAT_WINDOWS g) = s.gf (RSMP_STAT_WINDOWS g) := by
  unfold State.winOpen
  extract_lets gr k s1 cal w s2
  have h1 : s1.gf (RSMP_STAT_WINDOWS g) = s.gf (RSMP_STAT_WINDOWS g) := by
    unfold s1
    split <;> rfl
  split
  · rfl
  · rw [State.openOrder_windows, State.winNote_gf _ g (by simp) (by simp; omega)]
    exact h1

/-- A full window moves to those that have ended and is counted. -/
theorem State.winEnd_full {s : State} {g : Fin 2} {w : Window} {l : List Window} (b : DevTime) (pts : List (List Rat))
    (hwins : (s.grp[g]).wins = w :: l) :
    (∃ d : WinDone, d.b = b ∧ ((s.winEnd g b 0 pts).grp[g]) = { s.grp[g] with wins := l, wdone := (s.grp[g]).wdone ++ [d] }) ∧
      (s.winEnd g b 0 pts).gf (RSMP_STAT_WINDOWS g) = (s.gf (RSMP_STAT_WINDOWS g) + 1) % 2 ^ (RSMP_STAT_WINDOWS g).w := by
  have hgrp : ∀ u : State, (u.rsmpStat g).grp = u.grp := fun u => (State.rsmpStat_keeps (Nat.and_self _) (.refl _ u)).part .grp rfl
  unfold State.winEnd
  split
  next hnil => cases hwins.symm.trans hnil
  next w' l' hcons =>
  obtain ⟨rfl, rfl⟩ := List.cons.inj (hwins.symm.trans hcons)
  extract_lets np s1 none0 d s2 s3
  refine ⟨⟨d, rfl, ?_⟩, ?_⟩
  · rw [hgrp]
    change s2.grp[g] = _
    unfold s2
    rw [State.setGrp_get]
  · rw [State.rsmpStat_gf _ g (by simp) (by simp; omega)]
    exact State.gf_sf _ _ _

theorem execResamplerWindowEnd_of {s : State} {g : Fin 2} {u : Nat} {pts : List (List Rat)} {w : Window} (hready : s.isReady = true)
    (hrun : (s.grp[g]).running = true) (hwins : (s.grp[g]).wins = [w]) (hlow : w.a < u) (hhigh : u ≤ s.grT g (s.grp[g]).si)
    (hfull : (s.grp[g]).winFull w u = true) (hpts : (s.grp[g]).ptsOk w pts = true) :
    exec (.resamplerWindowEnd g u pts) s = .next ((s.winEnd g u 0 pts).winOpen g u 0) := by
  show execResamplerWindowEnd g u pts s = _
  unfold execResamplerWindowEnd
  simp only [hwins, hready, hrun, hlow, hhigh, hfull, hpts, decide_true, Bool.and_self, if_true, List.isEmpty_nil]

/-! ### The windows that wait for a record (R223, R225) -/

theorem updFirst_filter (p : WinDone → Bool) {f : WinDone → WinDone} (hf : ∀ d, p (f d) = false) (l : List WinDone) :
    (updFirst p f l).filter p = (l.filter p).tail := by
  induction l with
  | nil => rfl
  | cons d l ih =>
    unfold updFirst
    by_cases hp : p d = true
    · simp [hp, hf]
    · simp [hp, ih]

theorem length_tail_filter {p : WinDone → Bool} {l : List WinDone} {d : WinDone} (h : l.find? p = some d) :
    (l.filter p).tail.length + 1 = (l.filter p).length := by
  have hmem : d ∈ l.filter p := List.mem_filter.2 ⟨List.mem_of_find?_eq_some h, List.find?_some h⟩
  have hpos := List.length_pos_of_mem hmem
  rw [List.length_tail]
  omega

theorem mem_drop_of_prefix {α : Type} {a b t : List α} {q : α} (hab : a <+: b) (hbt : b ++ [q] <+: t) : q ∈ t.drop a.length := by
  obtain ⟨x, rfl⟩ := hab
  obtain ⟨y, rfl⟩ := hbt
  simp

/-- Records are formed at most, and the same windows of a group wait for what `p` asks. -/
structure State.WaitSame (p : WinDone → Bool) (g : Fin 2) (s t : State) : Prop where
  formed : s.formed <+: t.formed
  waiting : ((t.grp[g]).wdone).filter p = ((s.grp[g]).wdone).filter p

theorem State.WaitSame.refl (p : WinDone → Bool) (g : Fin 2) (s : State) : State.WaitSame p g s s := ⟨List.prefix_refl _, rfl⟩

theorem State.WaitSame.trans {p : WinDone → Bool} {g : Fin 2} {s t u : State} (h : State.WaitSame p g s t) (h' : State.WaitSame p g t u) :
    State.WaitSame p g s u := ⟨h.formed.trans h'.formed, h'.waiting.trans h.waiting⟩

theorem State.TrackSame.wait {s t : State} (h : State.TrackSame s t) (p : WinDone → Bool) (g : Fin 2) : State.WaitSame p g s t :=
  ⟨h.formed, congrArg (fun x : Track => x.wdone.filter p) (h.get g)⟩

/-- A window that waits for nothing leaves the front. -/
theorem State.WaitSame.pop {p : WinDone → Bool} {g : Fin 2} {s : State} {d : WinDone} {l : List WinDone} (hl : (s.grp[g]).wdone = d :: l)
    (hp : p d = false) : State.WaitSame p g s (s.setGrp g (fun gr => { gr with wdone := l })) := by
  refine ⟨List.prefix_refl _, ?_⟩
  rw [State.setGrp_get, hl, List.filter_cons_of_neg (by rw [hp]; decide)]

/-- Feeding the levels takes only windows that wait for nothing. -/
theorem State.aggFeedGo_wait {p : WinDone → Bool} (hp : ∀ d c v, d.civ = some c → d.spec = some v → p d = false) (g : Fin 2) (k : Nat)
    (s : State) : State.WaitSame p g s (State.aggFeedGo g k s) := by
  induction k generalizing s with
  | zero => exact .refl p g s
  | succ k ih =>
    unfold State.aggFeedGo
    split
    next d l hl =>
      split
      next c v hc hv => exact ((State.WaitSame.pop hl (hp d c v hc hv)).trans ((State.TrackSame.refl _).aggTake.wait p g)).trans (ih _)
      next => exact .refl p g s
    next => exact .refl p g s

theorem State.aggFeed_wait {p : WinDone → Bool} (hp : ∀ d c v, d.civ = some c → d.spec = some v → p d = false) (g : Fin 2) (s : State) :
    State.WaitSame p g s (s.aggFeed g) :=
  (State.aggFeedGo_wait hp g _ s).trans (((State.TrackSame.refl _).aggOpen.prune.release).wait p g)

/-! ### The CYC record (R223, R224) -/

theorem State.cycRec_cls (s : State) (g : Fin 2) (d : WinDone) : (s.cycRec g d).1.cls = clsCYC := rfl

theorem State.Keeps.starvedCyc {m : Nat} {s t : State} (h : State.Keeps m s t) (hm : m.testBit (64 + RegGroup.wdogStat.ctorIdx) = false) :
    t.starved clsCYC = s.starved clsCYC := by
  have hbit : ∀ i, t.wedged i = s.wedged i := fun i => h.mbit WDOG_STAT_WEDGED (by decide) hm i
  change (t.wedged 3 || t.wedged 5) = (s.wedged 3 || s.wedged 5)
  rw [hbit, hbit]

/-- The oldest window of a group without a CYC record has its values. -/
def State.cycGiven (s : State) (g : Fin 2) (c : Civ) : State :=
  (s.setGrp g (fun gr => { gr with wdone := updFirst (fun d => d.civ.isNone) (fun d => { d with civ := some c }) gr.wdone })).aggOpen g

/-- The SMP pieces up to the end of a window are released with its record's flags. -/
def State.smpReleased (s : State) (g : Fin 2) (d : WinDone) (flags : Nat) : State :=
  (bitsOf 8 s.grp[g].mask).foldl (fun (s : State) i =>
    if h : i < 8 then s.smpRelease (chanOf g ⟨i, h⟩) (some d.tEnd) (flags &&& (flFlagged ||| flReplayed)) else s) s

theorem State.cycDone_of {s : State} {g : Fin 2} {d : WinDone} (hfind : (s.grp[g]).wdone.find? (fun x => x.civ.isNone) = some d) :
    s.cycDone g = (if (s.cycRec g d).2.n = 0 then s.cycGiven g (s.cycRec g d).2
      else (s.cycGiven g (s.cycRec g d).2).emit (s.cycRec g d).1).smpReleased g d (s.cycRec g d).1.flags := by
  unfold State.cycDone
  split
  next hnone => cases hfind.symm.trans hnone
  next d' hd' =>
  obtain rfl : d = d' := Option.some.inj (hfind.symm.trans hd')
  rfl

theorem State.smpReleased_same (s : State) (g : Fin 2) (d : WinDone) (flags : Nat) : State.TrackSame s (s.smpReleased g d flags) :=
  (State.TrackSame.refl s).foldl (fun u i => by
    split
    · exact (State.TrackSame.refl u).smpRelease
    · exact .refl u) _

theorem State.cycGiven_waiting (s : State) (g : Fin 2) (c : Civ) :
    (((s.cycGiven g c).grp[g]).wdone).filter (fun x => x.civ.isNone) = ((s.grp[g]).wdone.filter (fun x => x.civ.isNone)).tail := by
  unfold State.cycGiven
  generalize hu : s.setGrp g (fun gr => { gr with wdone := updFirst (fun d => d.civ.isNone) (fun d => { d with civ := some c }) gr.wdone }) = u
  rw [(((State.TrackSame.refl u).aggOpen).wait _ g).waiting, ← hu, State.setGrp_get]
  exact updFirst_filter _ (fun _ => rfl) _

/-- Taking a CYC record's values forms none and leaves what its record needs. -/
theorem State.cycGiven_keeps (s : State) (g : Fin 2) (c : Civ) : (s.cycGiven g c).formed = s.formed ∧ (s.cycGiven g c).forms = s.forms ∧
    (s.cycGiven g c).starved clsCYC = s.starved clsCYC := by
  unfold State.cycGiven
  generalize hu : s.setGrp g (fun gr => { gr with wdone := updFirst (fun d => d.civ.isNone) (fun d => { d with civ := some c }) gr.wdone }) = u
  have hk : State.Keeps _ u (u.aggOpen g) := State.aggOpen_keeps (Nat.and_self _) (.refl _ u)
  refine ⟨(hk.part .formed rfl).trans ?_, (hk.forms rfl rfl).trans ?_, (hk.starvedCyc rfl).trans ?_⟩ <;> rw [← hu] <;> rfl

theorem State.cycDone_waiting {s : State} {g : Fin 2} {d : WinDone} (hfind : (s.grp[g]).wdone.find? (fun x => x.civ.isNone) = some d) :
    (((s.cycDone g).grp[g]).wdone).filter (fun x => x.civ.isNone) = ((s.grp[g]).wdone.filter (fun x => x.civ.isNone)).tail := by
  rw [State.cycDone_of hfind]
  have h1 := s.cycGiven_waiting g (s.cycRec g d).2
  generalize s.cycGiven g (s.cycRec g d).2 = u at h1 ⊢
  have h2 : State.TrackSame u (if (s.cycRec g d).2.n = 0 then u else u.emit (s.cycRec g d).1) := .ite (.refl u) (State.TrackSame.refl u).emit
  exact ((h2.trans (State.smpReleased_same _ g d _)).wait _ g).waiting.trans h1

theorem State.cycDone_record {s : State} {g : Fin 2} {d : WinDone} (hfind : (s.grp[g]).wdone.find? (fun x => x.civ.isNone) = some d)
    (hforms : s.forms = true) (hfed : s.starved clsCYC = false) (hn : (s.cycRec g d).2.n ≠ 0) :
    ∃ q, s.formed ++ [q] <+: (s.cycDone g).formed ∧ q.cls = clsCYC := by
  have hcls := s.cycRec_cls g d
  rw [State.cycDone_of hfind, if_neg hn]
  obtain ⟨hformed, hf, hs⟩ := s.cycGiven_keeps g (s.cycRec g d).2
  generalize s.cycGiven g (s.cycRec g d).2 = u at hformed hf hs ⊢
  generalize (s.cycRec g d).1 = r at hcls ⊢
  obtain ⟨q, hq, hqcls, -⟩ := State.emit_newest r (hf.trans hforms) ((congrArg u.starved hcls).trans (hs.trans hfed))
  exact ⟨q, hformed ▸ hq ▸ (State.smpReleased_same _ g d _).formed, hqcls.trans hcls⟩

theorem execCycleIntervalClose_of {s : State} {g : Fin 2} {d : WinDone} (hready : s.isReady = true) (hsw : s.switching = false)
    (hfind : (s.grp[g]).wdone.find? (fun x => x.civ.isNone) = some d) (hcyc : d.b ≤ (s.grp[g]).cycA) (hhalf : d.b ≤ (s.grp[g]).halves.headD 0) :
    exec (.cycleIntervalClose g) s = .next ((s.cycDone g).aggFeed g) := by
  show execCycleIntervalClose g s = _
  unfold execCycleIntervalClose
  simp only [hfind, hready, hsw, hcyc, hhalf, decide_true, Bool.not_false, Bool.and_self, if_true]

/-! ### The HARM record (R182, R183) -/

theorem State.harmRec_cls (s : State) (g : Fin 2) (d : WinDone) : (s.harmRec g d).1.cls = clsSPC := rfl

/-- The oldest window of a group without a HARM record has its values, and is counted. -/
def State.harmGiven (s : State) (g : Fin 2) (d : WinDone) (l : List (Nat × Rat)) : State :=
  ((s.setGrp g (fun gr =>
    let gr := { gr with wdone := updFirst (fun d => d.spec.isNone) (fun d => { d with spec := some l, pts := [] }) gr.wdone }
    let low := ((gr.wdone.filter (fun d => d.spec.isNone)).map (fun d => d.w.a) ++ gr.wins.map Window.a).headD d.b
    { gr with meters := gr.meters.map (fun m => { m with top := m.top.filter (fun e => decide (low ≤ e.1)) }) })).spcOpen g).incWrap
      (SPEC_STAT_WINDOWS g) 1

/-- The signalling values of a full window go to the event engine (R207). -/
def State.harmEvents (s : State) (g : Fin 2) (d : WinDone) (l : List (Nat × Rat)) : State :=
  let last1 := match (s.grp[g].winTicks d).getLast? with | some t => t.si + 1 | none => s.grp[g].si
  if d.short ≠ 0 then s
  else ((List.range 4).foldl (fun (s : State) k =>
    s.msvStep g k d.b last1 ((List.range 3).map (fun p => (vget l (vkey 0x22 p k)).map sqrtRat))) s).evStat g

/-- The meters have followed a group's samples to the end of a window. -/
def State.harmMeters (s : State) (g : Fin 2) (d : WinDone) : State :=
  s.flickTo g (match s.grp[g].ticks.find? (fun t => decide (d.b ≤ t.t)) with | some t => t.si | none => s.grp[g].si)

theorem State.harmDone_of {s : State} {g : Fin 2} {d : WinDone} (hfind : (s.grp[g]).wdone.find? (fun x => x.spec.isNone) = some d) :
    s.harmDone g = (((((s.harmMeters g d).harmRec g d).2.2).harmGiven g d ((s.harmMeters g d).harmRec g d).2.1).emit
      ((s.harmMeters g d).harmRec g d).1).harmEvents g d ((s.harmMeters g d).harmRec g d).2.1 := by
  unfold State.harmDone
  split
  next hnone => cases hfind.symm.trans hnone
  next d' hd' =>
  obtain rfl : d = d' := Option.some.inj (hfind.symm.trans hd')
  rfl

theorem State.harmEvents_same (s : State) (g : Fin 2) (d : WinDone) (l : List (Nat × Rat)) : State.TrackSame s (s.harmEvents g d l) :=
  .ite (.refl s) (((State.TrackSame.refl s).foldl (fun u _ => (State.TrackSame.refl u).msvStep) _).evStat)

/-- What leaves the spectral engine's status alone. -/
theorem State.Keeps.specWindows {m : Nat} {s t : State} (h : State.Keeps m s t) (hm : m.testBit 112 = false) (g : Fin 2) :
    t.gf (SPEC_STAT_WINDOWS g) = s.gf (SPEC_STAT_WINDOWS g) :=
  h.reg _ (by simp) (by rw [RegGroup.specStat_at (by dsimp only; omega) (by dsimp only; omega)]; exact hm)

theorem State.harmEvents_windows (s : State) (g : Fin 2) (d : WinDone) (l : List (Nat × Rat)) :
    (s.harmEvents g d l).gf (SPEC_STAT_WINDOWS g) = s.gf (SPEC_STAT_WINDOWS g) := by
  unfold State.harmEvents
  extract_lets last1
  split
  · rfl
  · rw [(State.evStat_keeps (Nat.and_self _) (.refl _ _)).specWindows rfl]
    exact State.foldl_gf _ _ _ _ fun u _ _ => (State.msvStep_keeps (Nat.and_self _) (.refl _ u)).specWindows rfl g

/-- The values of a HARM record give its window, are counted, and leave the rest of what its record needs. -/
theorem State.harmGiven_result (s : State) (g : Fin 2) (d : WinDone) (l : List (Nat × Rat)) :
    ((((s.harmGiven g d l).grp[g]).wdone).filter (fun x => x.spec.isNone) = ((s.grp[g]).wdone.filter (fun x => x.spec.isNone)).tail) ∧
      (s.harmGiven g d l).gf (SPEC_STAT_WINDOWS g) = (s.gf (SPEC_STAT_WINDOWS g) + 1) % 2 ^ (SPEC_STAT_WINDOWS g).w ∧
      (s.harmGiven g d l).formed = s.formed ∧ (s.harmGiven g d l).forms = s.forms ∧ (s.harmGiven g d l).starved clsSPC = s.starved clsSPC := by
  unfold State.harmGiven
  generalize hu : State.setGrp s g _ = u
  have hk : State.Keeps _ u (u.spcOpen g) := State.spcOpen_keeps (Nat.and_self _) (.refl _ u)
  have hcount : u.gf (SPEC_STAT_WINDOWS g) = s.gf (SPEC_STAT_WINDOWS g) := by rw [← hu]; rfl
  have hwait : ((u.grp[g]).wdone).filter (fun x => x.spec.isNone) = ((s.grp[g]).wdone.filter (fun x => x.spec.isNone)).tail := by
    rw [← hu, State.setGrp_get]
    exact updFirst_filter _ (fun _ => rfl) _
  have hformed : u.formed = s.formed := by rw [← hu]; rfl
  have hforms : u.forms = s.forms := by rw [← hu]; rfl
  have hstarved : u.starved clsSPC = s.starved clsSPC := by rw [← hu]; rfl
  generalize u.spcOpen g = v at hk ⊢
  have hk' : State.Keeps (2 ^ 112) v (v.incWrap (SPEC_STAT_WINDOWS g) 1) :=
    State.incWrap_keeps (Has.reg (Nat.and_self _) (by decide) (RegGroup.specStat_at (by omega) (by omega)) rfl) (.refl _ v)
  have hgrp : (v.incWrap (SPEC_STAT_WINDOWS g) 1).grp = u.grp := hk.part .grp rfl
  refine ⟨by rw [hgrp, hwait], ?_, (hk.part .formed rfl).trans hformed, ?_, ?_⟩
  · unfold State.incWrap
    rw [State.gf_sf, hk.specWindows rfl, hcount]
  · rw [hk'.forms rfl rfl, hk.forms rfl rfl, hforms]
  · rw [hk'.starvedSpc rfl, hk.starvedSpc rfl, hstarved]

/-- The record's computation after its meters leaves all but free values and the meters. -/
theorem State.harmRec_after (s : State) (g : Fin 2) (d : WinDone) :
    State.TrackSame s ((s.harmMeters g d).harmRec g d).2.2 ∧
      ((s.harmMeters g d).harmRec g d).2.2.gf (SPEC_STAT_WINDOWS g) = s.gf (SPEC_STAT_WINDOWS g) ∧
      ((s.harmMeters g d).harmRec g d).2.2.forms = s.forms ∧ ((s.harmMeters g d).harmRec g d).2.2.starved clsSPC = s.starved clsSPC := by
  have hk1 : State.Keeps _ s (s.harmMeters g d) := State.flickTo_keeps (Nat.and_self _) (.refl _ s)
  have hsame : State.TrackSame s (s.harmMeters g d) := (State.TrackSame.refl s).flickTo
  generalize s.harmMeters g d = u at hk1 hsame ⊢
  have hk2 : State.Keeps _ u (u.harmRec g d).2.2 := State.harmRec_keeps (Nat.and_self _) (.refl _ u)
  exact ⟨hsame.keeps hk2 rfl rfl, (hk2.specWindows rfl g).trans (hk1.specWindows rfl g), (hk2.forms rfl rfl).trans (hk1.forms rfl rfl),
    (hk2.starvedSpc rfl).trans (hk1.starvedSpc rfl)⟩

/-- A completed transform gives the oldest window without a HARM record its values, counts it, and forms the record. -/
theorem State.harmDone_result {s : State} {g : Fin 2} {d : WinDone} (hfind : (s.grp[g]).wdone.find? (fun x => x.spec.isNone) = some d)
    (hforms : s.forms = true) (hfed : s.starved clsSPC = false) :
    ((((s.harmDone g).grp[g]).wdone).filter (fun x => x.spec.isNone) = ((s.grp[g]).wdone.filter (fun x => x.spec.isNone)).tail) ∧
      (s.harmDone g).gf (SPEC_STAT_WINDOWS g) = (s.gf (SPEC_STAT_WINDOWS g) + 1) % 2 ^ (SPEC_STAT_WINDOWS g).w ∧
      ∃ q ∈ (s.harmDone g).formed.drop s.formed.length, q.cls = clsSPC := by
  rw [State.harmDone_of hfind]
  obtain ⟨hsame, hcount, hf, hs⟩ := s.harmRec_after g d
  have hcls := (s.harmMeters g d).harmRec_cls g d
  generalize (s.harmMeters g d).harmRec g d = p at hsame hcount hf hs hcls ⊢
  obtain ⟨r, l, u⟩ := p
  dsimp only at hsame hcount hf hs hcls ⊢
  obtain ⟨hwait', hcount', hformed', hf', hs'⟩ := u.harmGiven_result g d l
  generalize u.harmGiven g d l = v at hwait' hcount' hformed' hf' hs' ⊢
  obtain ⟨q, hq, hqcls, -⟩ := State.emit_newest r (hf'.trans (hf.trans hforms)) ((congrArg v.starved hcls).trans (hs'.trans (hs.trans hfed)))
  have hemit : State.TrackSame v (v.emit r) := (State.TrackSame.refl v).emit
  have hemitCount : (v.emit r).gf (SPEC_STAT_WINDOWS g) = v.gf (SPEC_STAT_WINDOWS g) :=
    (State.emit_keeps (Nat.and_self _) (.refl _ v)).specWindows rfl g
  generalize v.emit r = e at hq hemit hemitCount ⊢
  have hev := e.harmEvents_same g d l
  refine ⟨?_, ?_, q, mem_drop_of_prefix (hformed' ▸ hsame.formed) (hq ▸ hev.formed), hqcls.trans hcls⟩
  · rw [((hemit.trans hev).wait _ g).waiting, hwait', (hsame.wait _ g).waiting]
  · rw [State.harmEvents_windows, hemitCount, hcount', hcount]

theorem execHarmRecordComplete_of {s : State} {g : Fin 2} (hready : s.isReady = true) (hw : s.wedged 2 = false) (hspec : (s.grp[g]).spec = true)
    (hany : (s.grp[g]).wdone.any (fun x => x.spec.isNone) = true) : exec (.harmRecordComplete g) s = .next ((s.harmDone g).aggFeed g) := by
  show execHarmRecordComplete g s = _
  unfold execHarmRecordComplete
  simp only [hready, hw, hspec, hany, Bool.not_false, Bool.and_self, if_true]

theorem execFlickerSettleEnd_of {s : State} {g : Fin 2} (hready : s.isReady = true) (hrun : (s.grp[g]).running = true) :
    exec (.flickerSettleEnd g) s = .next (s.sf (SPEC_STAT_FSETTLE g) 0) := by
  have hcond : (s.isReady && (s.grp[g]).running) = true := by rw [hready, hrun]; rfl
  exact congrArg Host.Outcome.next (if_pos hcond)

theorem State.aggFeed_windows (s : State) (g : Fin 2) : (s.aggFeed g).gf (SPEC_STAT_WINDOWS g) = s.gf (SPEC_STAT_WINDOWS g) :=
  (State.aggFeed_keeps (Nat.and_self _) (.refl _ s)).specWindows rfl g

/-- Settles O32: a window's end by what it moves, records by the first window that lacks one; feeding the levels takes none that waits. -/
theorem windowsAndRecords : Obligations.WindowsAndRecords := by
  refine ⟨fun s g u pts w hready hrun hmon hshadow hwins hlow hhigh hfull hpts => ?_, fun s g d hforms hsw hfind hcyc hhalf => ?_,
    fun s g hforms hw hspec hany => ?_, fun s g hready hrun => execFlickerSettleEnd_of hready hrun⟩
  · refine ⟨_, execResamplerWindowEnd_of hready hrun hwins hlow hhigh hfull hpts, ?_⟩
    obtain ⟨⟨d, hd, hgrp⟩, hcount⟩ := s.winEnd_full u pts hwins
    generalize s.winEnd g u 0 pts = v at hgrp hcount ⊢
    have hopen : State.TrackSame v (v.winOpen g u 0) := (State.TrackSame.refl v).winOpen
    have hwdone : ((v.winOpen g u 0).grp[g]).wdone = (v.grp[g]).wdone := congrArg Track.wdone (hopen.get g)
    refine ⟨?_, ?_, ?_⟩
    · rw [State.winOpen_wins u 0 (by rw [hgrp]; exact hshadow) (by rw [hgrp]; exact hmon), hgrp]
      rfl
    · rw [hwdone, hgrp]
      simp [hd]
    · rw [State.winOpen_windows, hcount]
  · refine ⟨_, execCycleIntervalClose_of (State.isReady_of_forms hforms) hsw hfind hcyc hhalf, ?_⟩
    have hfeed := (s.cycDone g).aggFeed_wait (p := fun x => x.civ.isNone) (fun d c v hc _ => by simp [hc]) g
    refine ⟨?_, fun hfed hn => ?_⟩
    · rw [hfeed.waiting, State.cycDone_waiting hfind]
      exact length_tail_filter hfind
    · obtain ⟨q, hq, hcls⟩ := State.cycDone_record hfind hforms hfed hn
      exact ⟨q, mem_drop_of_prefix (List.prefix_refl _) (hq.trans hfeed.formed), hcls⟩
  · obtain ⟨d, hfind⟩ : ∃ d, (s.grp[g]).wdone.find? (fun x => x.spec.isNone) = some d :=
      Option.isSome_iff_exists.1 (List.find?_isSome.2 (List.any_eq_true.1 hany))
    refine ⟨_, execHarmRecordComplete_of (State.isReady_of_forms hforms) hw hspec hany, ?_⟩
    obtain ⟨hwait, hcount, q, hq, hcls⟩ := State.harmDone_result hfind hforms hw
    have hfeed := (s.harmDone g).aggFeed_wait (p := fun x => x.spec.isNone) (fun d c v _ hv => by simp [hv]) g
    refine ⟨?_, ?_, q, (hfeed.formed.drop _).subset hq, hcls⟩
    · rw [hfeed.waiting, hwait]
      exact length_tail_filter hfind
    · rw [State.aggFeed_windows, hcount]

end Sys2Proof.Machine
end

section
/-! SUPPORT. Calibration (R161 to R165) and the CF outputs (R166 to R170): what writes of their registers make of them inside a session,
what a commit leaves waiting and what it makes active, and what a pulse counts. -/

namespace Sys2Proof.Machine

/-! ### Writes of the metrology block (R428, R515) -/

/-- A write of the metrology block is made while registers are served and no switch-over runs. -/
theorem next_orDefer {s : State} {p : Port} {off : Nat} {v : Word} {f : State → State} (hs : s.serving = true) (hw : s.switching = false) :
    (.next (if s.serving then s.orDefer p off v f else s) : Host.Outcome State Fault Refusal) = .next (f s) := by
  rw [next_ite_serving hs, State.orDefer, hw, if_neg Bool.false_ne_true]

/-- A write that reaches a sealed field in a session of its port leaves the metrology engine as its handling does. -/
theorem State.rws_inside_met {s : State} {p : Port} {off : Nat} {v : Word} {ctx : Nat} {plain : State → State}
    {inside : State → Bool × State} (h : s.sealOpen p = true) : (s.rws p off v ctx true plain inside).met = (inside s).2.met := by
  simp only [State.rws, h, Bool.not_true, Bool.false_eq_true, if_false, if_true]
  split
  · exact (State.sealList_keeps (Nat.and_self _) (.refl _ _)).part .met rfl
  · rfl

/-! ### Shadow constants (R161, R164) -/

/-- The constants that a channel's registers can hold: each is cut to its field's width. -/
def CalSet.cut (k : CalSet) : CalSet :=
  { scale := k.scale % 2 ^ 32, e := k.e % 2 ^ 4, ph := k.ph % 2 ^ 10, ofs := k.ofs % 2 ^ 24 }

/-- The shadow set after a write of register `r` of a channel: 0 CAL_SCALE, 1 CAL_CFG, 2 CAL_OFS. -/
def CalSet.written (k : CalSet) (r w : Nat) : CalSet :=
  match r with
  | 0 => { k with scale := w }
  | 1 => { k with e := max (w % 16) 6, ph := w / 65536 % 1024 }
  | _ => { k with ofs := w % 2 ^ 24 }

theorem State.setCalShadow_calShadow (s : State) (c : Nat) (k : CalSet) : (s.setCalShadow c k).calShadow c = k.cut := by
  unfold State.calShadow State.setCalShadow
  rw [s.gf_sfs_get _ 0 (CAL_SCALE_SCALE c) _ rfl (by simp [Fld.key]; omega), s.gf_sfs_get _ 1 (CAL_CFG_E c) _ rfl (by simp [Fld.key]),
    s.gf_sfs_get _ 2 (CAL_CFG_PH c) _ rfl (by simp [Fld.key]; omega), s.gf_sfs_get _ 3 (CAL_OFS_OFS c) _ rfl rfl]
  rfl

theorem State.calShadow_of_regs {s t : State} {c : Nat} (h : t.regs = s.regs) : t.calShadow c = s.calShadow c := by
  unfold State.calShadow State.gf
  rw [h]

theorem State.setCalShadow_met (s : State) (c : Nat) (k : CalSet) : (s.setCalShadow c k).met = s.met := by
  unfold State.setCalShadow
  rw [State.sfs_eq]

theorem State.wrCal_of_present {s : State} {p : Port} {n : Fin 16} {r : Nat} {v : Word} (hpres : s.chPresent n = true) :
    s.wrCal p n r v = s.rws p (0xB00 + 16 * n.val + 4 * r) v 0
      (decide ((s.calShadow n).written r v.toNat ≠ s.calShadow n)) id
      (fun u => (true, u.setCalShadow n ((s.calShadow n).written r v.toNat))) := by
  unfold State.wrCal
  rw [hpres]
  rfl

/-- In a session a write of a constant is read back from the shadow set where the registers can hold it, and no active set changes. -/
theorem State.wrCal_inside {α : Type} (π : CalSet → α) {s : State} {p : Port} {n : Fin 16} {r : Nat} {v : Word} (ho : s.sealOpen p = true)
    (hpres : s.chPresent n = true) (hfits : π ((s.calShadow n).written r v.toNat).cut = π ((s.calShadow n).written r v.toNat)) :
    π ((s.wrCal p n r v).calShadow n) = π ((s.calShadow n).written r v.toNat) ∧ (s.wrCal p n r v).met = s.met := by
  rw [State.wrCal_of_present hpres]
  by_cases heq : (s.calShadow n).written r v.toNat = s.calShadow n
  · rw [decide_eq_false (not_not_intro heq), State.rws_plain, heq]
    exact ⟨rfl, rfl⟩
  · rw [decide_eq_true heq, State.rws_inside_met ho, State.setCalShadow_met, ← hfits]
    exact ⟨congrArg π ((State.calShadow_of_regs (State.rws_inside_regs ho)).trans (s.setCalShadow_calShadow n _)), rfl⟩

/-! ### Commits (R161 to R163, R165) -/

/-- The commit that CAL_CTRL makes of a group's shadow sets. -/
def State.nextCommit (s : State) (g : Fin 2) : Commit :=
  { sets := s.shadowSets g, id := (s.gf (calIdFld g) + 1) % 2 ^ (calIdFld g).w, seq := s.nvm.seqs[(2 : Fin 10)] }

/-- Inside a session a write of CAL_CTRL that names one group commits that group alone. -/
theorem State.wrCalCtrl_one {s : State} {p : Port} {g : Fin 2} {v : Word} (hv : v.toNat % 4 = 2 ^ g.val) :
    s.wrCalCtrl p v = s.rws p 0xA04 v 0 true id (fun u => u.calCommit g) := by
  have hbit : ∀ i, i < 2 → v.toNat.testBit i = (2 ^ g.val).testBit i := fun i hi => by
    rw [← hv, show 4 = 2 ^ 2 from rfl, Nat.testBit_mod_two_pow, decide_eq_true hi, Bool.true_and]
  unfold State.wrCalCtrl
  simp only [hbit 0 (by decide), hbit 1 (by decide)]
  fin_cases g
  · simp [Nat.testBit]
  · simp [Nat.testBit]

/-- The commit of a stopped group that is there advances CAL_ID and is added to those that wait; the active sets stay. -/
theorem State.calCommit_stopped {s : State} {g : Fin 2} (hfused : s.grpFused g = false) (hrun : (s.grp[g]).running = false) :
    (s.calCommit g).2.gf (calIdFld g) = (s.nextCommit g).id ∧
      (s.calCommit g).2.met = { s.met with calPend := s.met.calPend.set g (s.met.calPend[g] ++ [s.nextCommit g]) } := by
  unfold State.calCommit
  extract_lets gr sets s1 c _ s2
  rw [if_neg (ne_true_of_eq_false hfused), if_neg (by rw [hrun, Bool.false_and]; exact Bool.false_ne_true)]
  have hid : s1.gf (calIdFld g) = (s.nextCommit g).id := s.gf_sf _ _
  have hc : c = s.nextCommit g := by
    unfold c
    rw [hid]
    rfl
  exact ⟨hid, by rw [← hc]; rfl⟩

theorem State.log_met (s : State) (kind sub : Nat) (l : List Byte) : (s.log kind sub l).met = s.met :=
  (State.log_keeps (Nat.and_self _) (.refl _ s)).part .met rfl

theorem State.log_grp (s : State) (kind sub : Nat) (l : List Byte) : (s.log kind sub l).grp = s.grp :=
  (State.log_keeps (Nat.and_self _) (.refl _ s)).part .grp rfl

/-- A commit that takes effect makes its constants and its CAL_ID those of its group. -/
theorem State.calApply_active (s : State) (g : Fin 2) (n : Nat) (c : Commit) :
    (s.calApply g n c).met.actId[g] = c.id ∧ ∀ i : Fin 8, (s.calApply g n c).met.cal[chanOf g i] = c.sets.getD i {} := by
  unfold State.calApply
  rw [State.log_met, State.setGrp_met]
  refine ⟨by simp, fun i => ?_⟩
  have hgrp : grpOf (chanOf g i).val = g := by
    fin_cases g <;> simp [grpOf, chanOf]
  have hidx : (chanOf g i).val % 8 = i.val := by
    simp only [chanOf]
    omega
  simp [hgrp, hidx]

theorem State.calApply_calPend (s : State) (g : Fin 2) (n : Nat) (c : Commit) : (s.calApply g n c).met.calPend = s.met.calPend := by
  unfold State.calApply
  rw [State.log_met, State.setGrp_met]

theorem State.calApply_calAt (s : State) (g : Fin 2) (n : Nat) (c : Commit) : ((s.calApply g n c).grp[g]).calAt = (s.grp[g]).calAt := by
  unfold State.calApply
  rw [State.log_grp, State.setGrp_get]

/-- Commits that take effect in order leave the newest one's constants and CAL_ID active. -/
theorem State.foldl_calApply_active {g : Fin 2} {n : Nat} {l : List Commit} {c : Commit} (s : State) (h : l.getLast? = some c) :
    (l.foldl (fun u d => u.calApply g n d) s).met.actId[g] = c.id ∧
      ∀ i : Fin 8, (l.foldl (fun u d => u.calApply g n d) s).met.cal[chanOf g i] = c.sets.getD i {} := by
  obtain ⟨l', rfl⟩ := List.getLast?_eq_some_iff.1 h
  rw [List.foldl_concat]
  exact State.calApply_active _ g n c

/-- The first `k` waiting commits take effect: those after them wait, for no interval yet. -/
theorem State.calApplyN_result {s : State} {g : Fin 2} {n k : Nat} {c : Commit} (h : (s.met.calPend[g].take k).getLast? = some c) :
    (((s.calApplyN g n k).grp[g]).calAt = none ∧ (s.calApplyN g n k).met.calPend[g] = s.met.calPend[g].drop k) ∧
      (s.calApplyN g n k).met.actId[g] = c.id ∧ ∀ i : Fin 8, (s.calApplyN g n k).met.cal[chanOf g i] = c.sets.getD i {} := by
  unfold State.calApplyN
  extract_lets l _ s1 s2
  refine ⟨⟨?_, ?_⟩, State.foldl_calApply_active s2 h⟩
  · rw [State.foldl_same (fun u => (u.grp[g]).calAt) (fun u d => u.calApply_calAt g n d) _ s2]
    exact congrArg Grp.calAt (s1.setGrp_get g _)
  · rw [State.foldl_same (fun u => u.met.calPend) (fun u d => u.calApply_calPend g n d) _ s2]
    simp [s2, s1, l]

/-- The interval that the commits wait for has begun: the step is cut there, and they take effect from some SI on. -/
theorem State.calSettle_of {s : State} {g : Fin 2} {a k : Nat} (h : (s.grp[g]).calAt = some (a, k)) :
    ∃ n, s.calSettle g = (s.cutStep g a).calApplyN g n k := by
  unfold State.calSettle
  rw [h]
  exact ⟨_, rfl⟩

/-- Settles O34: a constant is read back from its shadow set, a commit of a stopped group is the newest that waits, and of those that take
effect the last one applied stays active. -/
theorem calibrationCommits : Obligations.CalibrationCommits := by
  refine ⟨fun s p n v hs hw ho hpres => ⟨?_, ?_, ?_⟩, fun s p g v hs hw ho hv hfused hrun => ?_, fun s g a k c hready hat hlast => ?_⟩
  · obtain ⟨hscale, hmet⟩ := s.wrCal_inside (r := 0) CalSet.scale ho hpres (Nat.mod_eq_of_lt v.isLt)
    exact ⟨_, next_orDefer hs hw, hscale, congrArg Met.cal hmet⟩
  · have hfits : max (v.toNat % 16) 6 % 2 ^ 4 = max (v.toNat % 16) 6 := Nat.mod_eq_of_lt (by omega)
    obtain ⟨he, hmet⟩ := s.wrCal_inside (r := 1) CalSet.e ho hpres hfits
    obtain ⟨hph, -⟩ := s.wrCal_inside (r := 1) CalSet.ph ho hpres (Nat.mod_mod _ _)
    exact ⟨_, next_orDefer hs hw, he, hph, congrArg Met.cal hmet⟩
  · obtain ⟨hofs, hmet⟩ := s.wrCal_inside (r := 2) CalSet.ofs ho hpres (Nat.mod_mod _ _)
    exact ⟨_, next_orDefer hs hw, hofs, congrArg Met.cal hmet⟩
  · obtain ⟨hid, hmet⟩ := State.calCommit_stopped hfused hrun
    refine ⟨_, next_orDefer hs hw, ?_⟩
    rw [State.wrCalCtrl_one hv, State.rws_inside_gf ho, State.rws_inside_met ho, hid, hmet]
    exact ⟨rfl, rfl, rfl, s.nextCommit g, by simp, rfl, rfl, rfl⟩
  · obtain ⟨n, hsettle⟩ := State.calSettle_of hat
    obtain ⟨⟨hnone, hrest⟩, hactive⟩ := State.calApplyN_result (s := s.cutStep g a) (n := n) hlast
    refine ⟨s.calSettle g, congrArg Host.Outcome.next (if_pos hready), ?_⟩
    rw [hsettle]
    exact ⟨hnone, hrest, hactive⟩

/-! ### CF outputs: pulses (R167 to R169) -/

/-- The state once output `m` has started an owed pulse. -/
def State.cfPulsed (s : State) (m : Nat) : State :=
  ((s.sf (CF_STAT_OWED m) (s.gf (CF_STAT_OWED m) - 1)).incWrap (CF_COUNT_COUNT m) 1).sf (CF_STAT_ACTIVE m) 1

theorem execCfPulse_of {s : State} {m : Fin 4} (hready : s.isReady = true) (hgo : s.met.cfGo = true) (hen : s.gb (CF_CFG_EN m) = true)
    (howed : 0 < s.gf (CF_STAT_OWED m)) (hact : s.gb (CF_STAT_ACTIVE m) = false) (hw : s.switching = false)
    (hlost : s.gb SLICE_STAT_LOST = false) (hfused : s.grpFused (s.gf (CF_CFG_GROUP m)) = false) :
    exec (.cfPulse m) s = .next (s.cfPulsed m) := by
  show execCfPulse m s = _
  unfold execCfPulse
  simp only [hready, hgo, hen, decide_eq_true howed, hact, hw, hlost, hfused, Bool.not_false, Bool.and_self, if_true]
  rfl

/-- A pulse takes one from OWED, counts it and is in progress. -/
theorem State.cfPulsed_result (s : State) (m : Nat) :
    (s.cfPulsed m).gf (CF_STAT_OWED m) = (s.gf (CF_STAT_OWED m) - 1) % 2 ^ (CF_STAT_OWED m).w ∧
      (s.cfPulsed m).gf (CF_COUNT_COUNT m) = (s.gf (CF_COUNT_COUNT m) + 1) % 2 ^ (CF_COUNT_COUNT m).w ∧
      (s.cfPulsed m).gb (CF_STAT_ACTIVE m) = true := by
  have hactOwed : (CF_STAT_ACTIVE m).key ≠ (CF_STAT_OWED m).key := by simp [Fld.key]
  have hactCount : (CF_STAT_ACTIVE m).key ≠ (CF_COUNT_COUNT m).key := by simp [Fld.key]; omega
  have hcountOwed : (CF_COUNT_COUNT m).key ≠ (CF_STAT_OWED m).key := by simp [Fld.key]
  unfold State.cfPulsed State.incWrap
  refine ⟨?_, ?_, State.gb_sf _ _ _⟩
  · rw [State.gf_sf_ne _ _ hactOwed, State.gf_sf_ne _ _ hcountOwed, State.gf_sf]
  · rw [State.gf_sf_ne _ _ hactCount, State.gf_sf, State.gf_sf_ne _ _ hcountOwed.symm]

/-! ### CF outputs: settings and constant (R166, R170) -/

/-- In a session a write of CF_CFGm of a disabled output sets its five fields, or finds them as it asks for them. -/
theorem State.wrCfCfg_disabled {s : State} {p : Port} {m : Fin 4} {v : Word} (ho : s.sealOpen p = true) (hen : s.gb (CF_CFG_EN m) = false) :
    (s.wrCfCfg p m v).gf (CF_CFG_EN m) = v.toNat % 2 ∧ (s.wrCfCfg p m v).gf (CF_CFG_INV m) = v.toNat / 2 % 2 ∧
      (s.wrCfCfg p m v).gf (CF_CFG_GROUP m) = v.toNat / 4 % 2 ∧ (s.wrCfCfg p m v).gf (CF_CFG_PHASE m) = v.toNat / 8 % 4 ∧
      (s.wrCfCfg p m v).gf (CF_CFG_QMASK m) = v.toNat / 256 % 256 := by
  unfold State.wrCfCfg
  extract_lets w old new put fresh
  by_cases hreach : old = new
  · rw [decide_eq_false (not_not_intro hreach), State.rws_plain]
    simpa [old, new, w] using hreach
  · have hput : ∀ f : Fld, f.off = 0xA60 + 16 * m.val → f.lo < 32 →
        (if w.testBit 0 then fresh none (put s) else put s).gf f = (put s).gf f := fun f hoff hlo => by
      split
      · exact State.gf_sf_ne _ _ (Fld.key_ne (by dsimp only; decide) hlo (.inl (by rw [hoff]; dsimp only; omega)))
      · rfl
    simp only [decide_eq_true hreach, State.rws_inside_gf ho, hen, Bool.false_eq_true, if_false]
    rw [hput _ rfl (by dsimp only; decide), hput _ rfl (by dsimp only; decide), hput _ rfl (by dsimp only; decide),
      hput _ rfl (by dsimp only; decide), hput _ rfl (by dsimp only; decide)]
    exact ⟨s.gf_sfs_get _ 0 _ _ rfl (by simp [Fld.key]), s.gf_sfs_get _ 1 _ _ rfl (by simp [Fld.key]),
      s.gf_sfs_get _ 2 _ _ rfl (by simp [Fld.key]), s.gf_sfs_get _ 3 _ _ rfl (by simp [Fld.key]), s.gf_sfs_get _ 4 _ _ rfl rfl⟩

/-- In a session a disabled output takes its constant, clamped. -/
theorem State.wrCfConst_disabled {s : State} {p : Port} {m : Fin 4} {v : Word} (ho : s.sealOpen p = true) (hen : s.gb (CF_CFG_EN m) = false) :
    (s.wrCfConst p m v).gf (CF_CONST_C m) = min (max (v.toNat % 2 ^ 30) 1) 1000000000 := by
  unfold State.wrCfConst
  extract_lets c
  by_cases heq : c = s.gf (CF_CONST_C m)
  · rw [decide_eq_false (not_not_intro heq), State.rws_plain]
    exact heq.symm
  · simp only [decide_eq_true heq, State.rws_inside_gf ho, hen, Bool.false_eq_true, if_false, State.gf_sf]
    exact Nat.mod_eq_of_lt (by dsimp only [c]; omega)

/-- In a session an enabled output keeps its constant and reports the write of another one. -/
theorem State.wrCfConst_enabled {s : State} {p : Port} {m : Fin 4} {v : Word} (ho : s.sealOpen p = true) (hen : s.gb (CF_CFG_EN m) = true)
    (hne : min (max (v.toNat % 2 ^ 30) 1) 1000000000 ≠ s.gf (CF_CONST_C m)) :
    (s.wrCfConst p m v).gb MET_ERR_CF_RUNNING = true ∧ (s.wrCfConst p m v).gf (CF_CONST_C m) = s.gf (CF_CONST_C m) := by
  have hkey : (MET_ERR_CF_RUNNING).key ≠ (CF_CONST_C m).key :=
    Fld.key_ne (by decide) (by dsimp only; decide) (.inl (by dsimp only; omega))
  unfold State.wrCfConst
  simp only [decide_eq_true hne, State.rws_inside_gf ho, State.rws_inside_gb ho, hen, if_true]
  exact ⟨s.gb_sf _ _, s.gf_sf_ne _ hkey⟩

/-- A one-bit field that holds a bit of a word. -/
theorem State.gb_of_gf {s : State} {f : Fld} {w i : Nat} (h : s.gf f = w / 2 ^ i % 2) : s.gb f = w.testBit i := by
  rw [State.gb, h, Nat.testBit_eq_decide_div_mod_eq]

/-- Settles O35: a pulse by the three fields it writes; a write inside a session by whether the output is enabled. -/
theorem cfOutputs : Obligations.CfOutputs := by
  refine ⟨fun s m hready hgo hen howed hact hw hlost hfused => ?_, fun s m hw => ?_, fun s p m v hs hw ho hen => ⟨?_, ?_⟩,
    fun s p m v hs hw ho hen hne => ?_⟩
  · exact ⟨_, execCfPulse_of hready hgo hen howed hact hw hlost hfused, s.cfPulsed_result m⟩
  · exact congrArg Host.Outcome.next (if_neg (ne_true_of_eq_false hw))
  · obtain ⟨hEn, hinv, hrest⟩ := s.wrCfCfg_disabled (v := v) ho hen
    exact ⟨_, next_orDefer hs hw, State.gb_of_gf (i := 0) (by simpa using hEn), State.gb_of_gf (i := 1) hinv, hrest⟩
  · exact ⟨_, next_orDefer hs hw, State.wrCfConst_disabled ho hen⟩
  · exact ⟨_, next_orDefer hs hw, State.wrCfConst_enabled ho hen hne⟩

end Sys2Proof.Machine
end

section
/-! SUPPORT. The capture engine (R214 to R219): what arming, a refusal and a forced trigger leave of it, and that the readout of a window
forms a record of every sample that it holds. -/

namespace Sys2Proof.Machine

/-! ### Arming and refusals (R215) -/

/-- The capture engine and the registers that show it are the same. -/
structure State.CapSame (s t : State) : Prop where
  cap : t.cap = s.cap
  reg : ∀ f : Fld, f.lo < 32 → regGroup f.off = .capStat → t.gf f = s.gf f

theorem State.CapSame.gb {s t : State} (h : State.CapSame s t) (f : Fld) (hlo : f.lo < 32) (hg : regGroup f.off = .capStat) :
    t.gb f = s.gb f := by
  unfold State.gb
  rw [h.reg f hlo hg]

/-- The completion of a command leaves the engine alone. -/
theorem State.finish_capSame (s : State) (st d : Nat) (res : List Byte) : State.CapSame s (s.finish st d res) := by
  have hk : State.Keeps _ s (s.finish st d res) := State.finish_keeps (Nat.and_self _) (.refl _ s)
  exact ⟨hk.part .cap rfl, fun f hlo hg => hk.reg f hlo (by rw [hg]; rfl)⟩

theorem State.capArm_state (s : State) : s.capArm.gf CAP_STAT_STATE = 1 := State.gf_sf _ _ _

theorem State.capArm_cap (s : State) : s.capArm.cap = { armT := s.now, since := s.now } := rfl

theorem State.gb_ite_sf_ne (s : State) {c : Prop} [Decidable c] {f g : Fld} (v : Nat) (h : f.key ≠ g.key) :
    (if c then s.sf f v else s).gb g = s.gb g := by
  split
  · exact s.gb_sf_ne v h
  · rfl

/-- A refusal sets the CAP_ERR bits that its mask names. -/
theorem State.capErr_gb (s : State) (m : Nat) :
    (m.testBit 0 = true → (s.capErr m).gb CAP_ERR_TOO_DEEP = true) ∧ (m.testBit 1 = true → (s.capErr m).gb CAP_ERR_NO_BANK = true) ∧
      (m.testBit 2 = true → (s.capErr m).gb CAP_ERR_NO_SRC = true) ∧ (m.testBit 3 = true → (s.capErr m).gb CAP_ERR_BUSY = true) := by
  unfold State.capErr
  simp only [List.foldl_cons, List.foldl_nil]
  refine ⟨fun h => ?_, fun h => ?_, fun h => ?_, fun h => ?_⟩
  · rw [State.gb_ite_sf_ne _ _ (by decide), State.gb_ite_sf_ne _ _ (by decide), State.gb_ite_sf_ne _ _ (by decide), if_pos h, State.gb_sf]
    rfl
  · rw [State.gb_ite_sf_ne _ _ (by decide), State.gb_ite_sf_ne _ _ (by decide), if_pos h, State.gb_sf]
    rfl
  · rw [State.gb_ite_sf_ne _ _ (by decide), if_pos h, State.gb_sf]
    rfl
  · rw [if_pos h, State.gb_sf]
    rfl

/-- A refusal leaves the engine and its state. -/
theorem State.capErr_rest (s : State) (m : Nat) :
    (s.capErr m).cap = s.cap ∧ (s.capErr m).gf CAP_STAT_STATE = s.gf CAP_STAT_STATE := by
  unfold State.capErr
  refine ⟨State.foldl_same State.cap (fun u a => ?_) _ s, State.foldl_gf _ _ _ s (fun u a ha => ?_)⟩
  · split <;> rfl
  · split
    · refine u.gf_sf_ne 1 ?_
      fin_cases ha <;> decide
    · rfl

theorem execCaptureArm_of_executes {s : State} {c : Cmd} (h : s.executes 5 c) : exec .captureArm s = .next s.doArm :=
  congrArg Host.Outcome.next (h.onCmd _)

/-- CAPTURE_ARM that nothing refuses. -/
theorem State.doArm_accepted {s : State} {c : Cmd} (h : s.Executing c) (hm : s.capRefusal = 0) :
    s.doArm.completed c 0 ∧ s.doArm.gf CAP_STAT_STATE = 1 ∧ s.doArm.cap = { armT := s.now, since := s.now } := by
  have harm : s.capArm.Executing c := h.of_keeps (State.capArm_keeps (Nat.and_self _) (.refl _ s)) rfl rfl rfl
  have hsame := s.capArm.finish_capSame 0 0 []
  unfold State.doArm
  simp only [hm, if_true]
  exact ⟨harm.finish _ _ _, (hsame.reg _ (by decide) rfl).trans s.capArm_state, hsame.cap.trans s.capArm_cap⟩

/-- CAPTURE_ARM that is refused: its completion leaves what the refusal left. -/
theorem State.doArm_refused {s : State} {c : Cmd} (h : s.Executing c) (hm : s.capRefusal ≠ 0) :
    s.doArm.completed c 3 ∧ State.CapSame (s.capErr s.capRefusal) s.doArm := by
  have herr : (s.capErr s.capRefusal).Executing c := h.of_keeps (State.capErr_keeps (Nat.and_self _) (.refl _ s)) rfl rfl rfl
  unfold State.doArm
  simp only [hm, if_false]
  exact ⟨herr.finish _ _ _, State.finish_capSame _ _ _ _⟩

/-! ### The forced trigger (R216, R217) -/

theorem State.now_lt (s : State) : s.now < 2 ^ 64 := Nat.mod_lt _ (Nat.two_pow_pos 64)

/-- A 64-bit value is read back from its _LO and its _HI register. -/
theorem State.g64_s64 (s : State) {lo hi : Fld} {v : Nat} (hlo : lo.w = 32) (hhi : hi.w = 32) (hne : hi.key ≠ lo.key) (hv : v < 2 ^ 64) :
    (s.s64 lo hi v).g64 lo hi = v := by
  unfold State.g64 State.s64
  rw [State.gf_sf, State.gf_sf_ne _ _ hne, State.gf_sf, hlo, hhi]
  omega

/-- A trigger list shows its first instant and leaves the engine's state and its capture number. -/
theorem State.capList_cons (s : State) (a : CapTrig) (l : List CapTrig) (ha : a.t < 2 ^ 64) :
    (s.capList (a :: l)).cap.trigs = a :: l ∧ (s.capList (a :: l)).g64 CAP_TRIG_T_LO_FRAC CAP_TRIG_T_HI_SEC = a.t ∧
      ∀ f : Fld, f.lo < 32 → f.off = 0x0D60 → (s.capList (a :: l)).gf f = s.gf f := by
  refine ⟨rfl, State.g64_s64 _ rfl rfl (by decide) ha, fun f hlo hoff => ?_⟩
  have hkey : ∀ g : Fld, g.lo = 0 → 0x0D70 ≤ g.off → g.key ≠ f.key := fun g h0 h1 => Fld.key_ne (by omega) hlo (.inl (by omega))
  unfold State.capList State.s64
  rw [State.gf_sf_ne _ _ (hkey _ rfl (by decide)), State.gf_sf_ne _ _ (hkey _ rfl (by decide))]
  rfl

/-- The first trigger of an armed engine opens the window: a new capture number, and post-trigger begins. -/
theorem State.capTrigger_opens {s : State} {kind src : Nat} {t : DevTime} (hst : s.gf CAP_STAT_STATE = 1) (harm : s.cap.armT ≤ t)
    (ht : t < 2 ^ 64) :
    (s.capTrigger kind src t).gf CAP_STAT_STATE = 2 ∧
      (s.capTrigger kind src t).gf CAP_STAT_CAPID = (s.gf CAP_STAT_CAPID + 1) % 2 ^ CAP_STAT_CAPID.w ∧
      (s.capTrigger kind src t).cap.trigs = [{ kind := kind, src := src, t := t }] ∧
      (s.capTrigger kind src t).g64 CAP_TRIG_T_LO_FRAC CAP_TRIG_T_HI_SEC = t := by
  have hmissed : ¬(¬(s.gf CAP_STAT_STATE = 1 ∨ s.gf CAP_STAT_STATE = 2) ∨ t < s.cap.armT) := by
    rintro (h | h)
    · exact h (.inl hst)
    · exact absurd harm (Nat.not_le.2 h)
  unfold State.capTrigger
  simp only []
  rw [if_neg hmissed, if_pos hst]
  generalize hu : State.sfs _ _ = u
  obtain ⟨htrigs, htime, hreg⟩ := u.capList_cons { kind := kind, src := src, t := t } [] ht
  refine ⟨?_, ?_, htrigs, htime⟩
  · rw [hreg _ (by decide) rfl, ← hu]
    exact State.gf_sfs_head _ CAP_STAT_STATE 2 _ (by simp; decide)
  · rw [hreg _ (by decide) rfl, ← hu]
    exact State.gf_sfs_get _ _ 1 CAP_STAT_CAPID _ rfl rfl

theorem execCaptureForce_of_executes {s : State} {c : Cmd} (h : s.executes 6 c) : exec .captureForce s = .next s.doForce :=
  congrArg Host.Outcome.next (h.onCmd _)

/-- CAPTURE_FORCE of an armed engine: its completion leaves what the trigger left. -/
theorem State.doForce_armed {s : State} {c : Cmd} (h : s.Executing c) (hst : s.gf CAP_STAT_STATE = 1) :
    s.doForce.completed c 0 ∧ State.CapSame (s.capTrigger 0x0A 0xFF s.now) s.doForce := by
  have htrig : (s.capTrigger 0x0A 0xFF s.now).Executing c := h.of_keeps (State.capTrigger_keeps (Nat.and_self _) (.refl _ s)) rfl rfl rfl
  unfold State.doForce
  rw [if_pos hst]
  exact ⟨htrig.finish _ _ _, State.finish_capSame _ _ _ _⟩

/-- CAPTURE_FORCE of an engine that is not armed. -/
theorem State.doForce_refused {s : State} {c : Cmd} (h : s.Executing c) (hst : s.gf CAP_STAT_STATE ≠ 1) :
    s.doForce.completed c 3 ∧ s.doForce.gb CAP_ERR_BUSY = true ∧ s.doForce.cap = s.cap := by
  have herr : (s.sf CAP_ERR_BUSY 1).Executing c := h.sfs (l := [(CAP_ERR_BUSY, 1)]) (by decide)
  have hsame := (s.sf CAP_ERR_BUSY 1).finish_capSame 3 8 []
  unfold State.doForce
  rw [if_neg hst]
  exact ⟨herr.finish _ _ _, (hsame.gb _ (by decide) rfl).trans (State.gb_sf _ _ _), hsame.cap⟩

/-! ### The records of a source: every sample of the window lies in one (R219) -/

/-- Pieces of at most `n` items take nothing from a list. -/
theorem chunks_flatten {α : Type} {n : Nat} (hn : 0 < n) (k : Nat) (l : List α) (hk : l.length ≤ k) : (chunks n k l).flatten = l := by
  induction k generalizing l with
  | zero => rw [List.eq_nil_of_length_eq_zero (Nat.le_zero.1 hk)]; rfl
  | succ k ih =>
    cases l with
    | nil => rfl
    | cons a l =>
      have hrest : ((a :: l).drop n).length ≤ k := by
        rw [List.length_drop]
        omega
      rw [chunks, List.flatten_cons, ih _ hrest, List.take_append_drop]
      exact List.cons_ne_nil a l

theorem pieces_flatten {α : Type} {n : Nat} (hn : 0 < n) (l : List α) : (pieces n l).flatten = l := chunks_flatten hn _ l (Nat.le_refl _)

/-- The runs of a list of samples are that list. -/
theorem capRuns_flatten (l : List CapSmp) : (capRuns l).flatten = l := by
  induction l with
  | nil => rfl
  | cons x l ih =>
    unfold capRuns
    split
    · rename_i y r rs hl
      rw [hl] at ih
      split
      · exact congrArg (x :: ·) ih
      · exact congrArg (x :: ·) ih
    · exact congrArg (x :: ·) ih

/-- A record in order of T_START takes its place among the others. -/
theorem mem_insHold {r q : Rec} {l : List Rec} : q ∈ insHold r l ↔ q = r ∨ q ∈ l := by
  induction l with
  | nil => exact List.mem_cons
  | cons a l ih =>
    unfold insHold
    split
    · exact List.mem_cons
    · rw [List.mem_cons, ih, List.mem_cons]
      exact or_left_comm

theorem mem_foldl_insHold {q : Rec} {l a : List Rec} : q ∈ l.foldl (fun l r => insHold r l) a ↔ q ∈ a ∨ q ∈ l := by
  induction l generalizing a with
  | nil => simp
  | cons r l ih =>
    rw [List.foldl_cons, ih, mem_insHold, List.mem_cons]
    tauto

/-- A source that holds a sample in the window has a CAP record. -/
theorem State.capRecords_of_sample {s : State} {x : CapSmp} {act : DevTime} (lastSrc : Bool) (req : DevTime) (part : Nat) (hx : x ∈ s.cap.buf)
    (hact : act ≤ x.t) (hend : x.t < s.cap.wEnd) :
    ∃ r ∈ s.capRecords x.src lastSrc req act part, r.cls = clsCAP ∧ r.src = x.src := by
  unfold State.capRecords
  extract_lets fmt smp ps known gaps fl recs
  have hsmp : x ∈ smp := List.mem_filter.2 ⟨hx, by simp [hact, hend]⟩
  obtain ⟨run, hrun, hxrun⟩ := List.mem_flatten.1 ((capRuns_flatten smp).symm ▸ hsmp)
  obtain ⟨p, hp, hxp⟩ := List.mem_flatten.1 ((pieces_flatten (n := if fmt = 0 then 2000 else 4000) (by split <;> decide) run).symm ▸ hxrun)
  obtain ⟨i, hi⟩ := List.mem_iff_getElem?.1 (List.mem_flatMap.2 ⟨run, hrun, hp⟩ : p ∈ ps)
  obtain ⟨a, l, rfl⟩ := List.exists_cons_of_ne_nil (List.ne_nil_of_mem hxp)
  exact ⟨_, mem_foldl_insHold.2 (.inr (List.mem_append_right _ (List.mem_filterMap.2 ⟨_, List.mk_mem_zipIdx_iff_getElem?.2 hi, rfl⟩))), rfl, rfl⟩

/-! ### The window's end (R218, R219) -/

/-- The window begins no later than a held sample that lies in what was requested. -/
theorem State.capStart_le {s : State} {x : CapSmp} {req : DevTime} (hx : x ∈ s.cap.buf) (hreq : max req s.cap.armT ≤ x.t) :
    (s.capStart req).1 ≤ x.t := by
  unfold State.capStart
  split
  · split
    · exact (Nat.le_max_right _ _).trans hreq
    · exact (Nat.le_max_left _ _).trans hreq
  · have hmem : x.t ∈ s.cap.buf.map CapSmp.t := List.mem_map_of_mem hx
    split
    · rename_i hnil
      rw [hnil] at hmem
      cases hmem
    · rename_i t l hcons
      rw [hcons] at hmem
      exact max_le hreq ((List.min?_eq_some_iff.1 (List.min?_cons' (x := t) (xs := l))).2 _ hmem)

/-- The requested start of the window. -/
def State.capReq (s : State) : DevTime :=
  (match s.cap.trigs with | a :: _ => a.t | [] => 0) - usTime (s.gf CAP_PRE_US)

/-- The sources that hold samples of the window. -/
def State.capFull (s : State) : List Nat :=
  ((List.range 24).filter s.capSel).filter
    (fun src => s.cap.buf.any (fun x => x.src == src && decide ((s.capStart s.capReq).1 ≤ x.t) && decide (x.t < s.cap.wEnd)))

/-- The records that the window's end reads out. -/
def State.capReadout (s : State) : List Rec :=
  ((List.range 24).filter s.capSel).flatMap
    (fun src => s.capRecords src (decide (s.capFull.getLast? = some src)) s.capReq (s.capStart s.capReq).1 (s.capStart s.capReq).2)

theorem execCaptureWindowEnd_of {s : State} (hst : s.gf CAP_STAT_STATE = 2) (hshadow : s.gb TIME_STATUS_SHADOW = false) :
    exec .captureWindowEnd s = .next ((s.sf CAP_STAT_STATE 3).emits s.capReadout) := by
  show execCaptureWindowEnd s = _
  have hshadow' : (s.sf CAP_STAT_STATE 3).gb TIME_STATUS_SHADOW = false := (s.gb_sf_ne 3 (by decide)).trans hshadow
  unfold execCaptureWindowEnd
  rw [if_pos hst]
  exact congrArg Host.Outcome.next (if_neg (ne_true_of_eq_false hshadow'))

theorem State.capReadout_of_sample {s : State} {a : CapTrig} {l : List CapTrig} {x : CapSmp} (htrigs : s.cap.trigs = a :: l) (hx : x ∈ s.cap.buf)
    (hsrc : x.src < 24) (hsel : s.capSel x.src = true) (hend : x.t < s.cap.wEnd)
    (hreq : max (a.t - usTime (s.gf CAP_PRE_US)) s.cap.armT ≤ x.t) : ∃ r ∈ s.capReadout, r.cls = clsCAP ∧ r.src = x.src := by
  have hcapReq : s.capReq = a.t - usTime (s.gf CAP_PRE_US) := by
    unfold State.capReq
    rw [htrigs]
  obtain ⟨r, hr, hcls⟩ := s.capRecords_of_sample (decide (s.capFull.getLast? = some x.src)) s.capReq (s.capStart s.capReq).2 hx
    (State.capStart_le hx (hcapReq ▸ hreq)) hend
  exact ⟨r, List.mem_flatMap.2 ⟨x.src, List.mem_filter.2 ⟨List.mem_range.2 hsrc, hsel⟩, hr⟩, hcls⟩

/-! ### Records in order -/

theorem State.sliced_shadowed_src (s : State) (r : Rec) : (s.sliced (s.shadowed r)).src = r.src := by
  have hshadowed : (s.shadowed r).src = r.src := by
    unfold State.shadowed
    split <;> rfl
  unfold State.sliced
  split <;> exact hshadowed

theorem State.Keeps.starved {m : Nat} {s t : State} (h : State.Keeps m s t) (hm : m.testBit (64 + RegGroup.wdogStat.ctorIdx) = false)
    (cls : Nat) : t.starved cls = s.starved cls := by
  have hbit : ∀ i, t.wedged i = s.wedged i := fun i => h.mbit WDOG_STAT_WEDGED (by decide) hm i
  unfold State.starved
  simp only [hbit]

/-- Each of the records formed in order is formed, with its class and its source. -/
theorem State.emits_forms {s : State} {l : List Rec} {r : Rec} (hr : r ∈ l) (hforms : s.forms = true) (hfed : s.starved r.cls = false) :
    ∃ q ∈ (s.emits l).formed.drop s.formed.length, q.cls = r.cls ∧ q.src = r.src := by
  refine State.foldl_reaches (fun u => s.formed <+: u.formed ∧ u.forms = true ∧ u.starved r.cls = false)
    (fun u => ∃ q ∈ u.formed.drop s.formed.length, q.cls = r.cls ∧ q.src = r.src) hr ?_ ?_ ?_ ⟨List.prefix_refl _, hforms, hfed⟩
  · rintro u b ⟨hpre, hf, hs⟩
    have hk : State.Keeps _ u (u.emit b) := State.emit_keeps (Nat.and_self _) (.refl _ u)
    exact ⟨hpre.trans (u.emitL_formed_prefix 0 b), (hk.forms rfl rfl).trans hf, (hk.starved rfl _).trans hs⟩
  · rintro u b ⟨q, hq, hqr⟩
    exact ⟨q, ((u.emitL_formed_prefix 0 b).drop _).subset hq, hqr⟩
  · rintro u ⟨hpre, hf, hs⟩
    exact ⟨_, mem_drop_of_prefix hpre (u.emitL_formed 0 r hf hs ▸ List.prefix_refl _), (u.sliced_shadowed_head r).1, u.sliced_shadowed_src r⟩

/-! ### The end of the readout (R219) -/

theorem execCaptureReadoutDone_of {s : State} (hst : s.gf CAP_STAT_STATE = 3) :
    exec .captureReadoutDone s =
      .next (if s.gb CAP_CTRL_AUTOREARM then s.capArm else State.sf { s with cap := {} } CAP_STAT_STATE 0) :=
  congrArg Host.Outcome.next (if_pos hst)

/-- Settles O38: a command's completion leaves what arming, a refusal or the trigger made of the engine, and every sample of the window lies
in a record that its end forms. -/
theorem captureEngine : Obligations.CaptureEngine := by
  refine ⟨fun s c hx => ⟨fun hm => ?_, fun hm => ?_⟩, fun s c hx => ⟨fun hst harm => ?_, fun hst => ?_⟩,
    fun s a l x hforms hst hshadow htrigs hbuf hsrc hsel hend hreq hfed => ?_, fun s hst => ⟨fun hauto => ?_, fun hauto => ?_⟩⟩
  · obtain ⟨hdone, hstate, hcap⟩ := State.doArm_accepted hx.executing hm
    exact ⟨_, execCaptureArm_of_executes hx, hdone, hstate, by rw [hcap], by rw [hcap]⟩
  · obtain ⟨hdone, hsame⟩ := State.doArm_refused hx.executing hm
    obtain ⟨hcap, hstate⟩ := s.capErr_rest s.capRefusal
    obtain ⟨hdeep, hbank, hnone, hbusy⟩ := s.capErr_gb s.capRefusal
    exact ⟨_, execCaptureArm_of_executes hx, hdone, (hsame.reg _ (by decide) rfl).trans hstate, hsame.cap.trans hcap,
      fun h => (hsame.gb _ (by decide) rfl).trans (hdeep h), fun h => (hsame.gb _ (by decide) rfl).trans (hbank h),
      fun h => (hsame.gb _ (by decide) rfl).trans (hnone h), fun h => (hsame.gb _ (by decide) rfl).trans (hbusy h)⟩
  · obtain ⟨hdone, hsame⟩ := State.doForce_armed hx.executing hst
    obtain ⟨hstate, hid, htrigs, htime⟩ := State.capTrigger_opens (kind := 0x0A) (src := 0xFF) hst harm s.now_lt
    refine ⟨_, execCaptureForce_of_executes hx, hdone, (hsame.reg _ (by decide) rfl).trans hstate,
      (hsame.reg _ (by decide) rfl).trans hid, (congrArg Cap.trigs hsame.cap).trans htrigs, ?_⟩
    unfold State.g64 at htime ⊢
    rw [hsame.reg _ (by decide) rfl, hsame.reg _ (by decide) rfl, htime]
  · exact ⟨_, execCaptureForce_of_executes hx, State.doForce_refused hx.executing hst⟩
  · obtain ⟨r, hr, hcls, hrsrc⟩ := State.capReadout_of_sample htrigs hbuf hsrc hsel hend hreq
    have hk : State.Keeps _ s (s.sf CAP_STAT_STATE 3) := State.sf_keeps (w := 2 ^ 120) (.inl ⟨by decide, rfl⟩) (.refl _ s)
    have hemit : State.Keeps _ (s.sf CAP_STAT_STATE 3) ((s.sf CAP_STAT_STATE 3).emits s.capReadout) :=
      State.emits_keeps (Nat.and_self _) (.refl _ _)
    obtain ⟨q, hq, hqcls, hqsrc⟩ := State.emits_forms hr ((hk.forms rfl rfl).trans hforms) (hcls ▸ (hk.starved rfl _).trans hfed)
    exact ⟨_, execCaptureWindowEnd_of hst hshadow, (hemit.reg _ (by decide) rfl).trans (State.gf_sf _ _ _), q, hq, hqcls.trans hcls,
      hqsrc.trans hrsrc⟩
  · exact ⟨_, execCaptureReadoutDone_of hst, by rw [if_pos hauto]; exact ⟨s.capArm_state, rfl, rfl⟩⟩
  · exact ⟨_, execCaptureReadoutDone_of hst, by rw [if_neg (ne_true_of_eq_false hauto)]; exact ⟨State.gf_sf _ _ _, rfl⟩⟩

end Sys2Proof.Machine
end

section
/-! SUPPORT. The statistics engine (R234, R236, R237, R239, R246 to R248): what an increment makes of the cells and of its histogram, that
the ends of aggregates behind it touch neither, and what a committed descriptor makes of its histogram when it is taken and when it is
refused. -/

namespace Sys2Proof.Machine

/-! ### Histograms and cells (R233, R318) -/

@[simp] theorem State.hist_setHist (s : State) (i : Nat) (f : Hist → Hist) : (s.setHist i f).hist i = f (s.hist i) :=
  SMap.get_set_eq _ _ _ _

@[simp] theorem State.cell_setHist (s : State) (i : Nat) (f : Hist → Hist) (c : Nat) : (s.setHist i f).cell c = s.cell c := rfl

theorem State.hist_sf (s : State) (f : Fld) (v i : Nat) : (s.sf f v).hist i = s.hist i := rfl

/-- The map of logical banks is above every register that the engine's own work writes. -/
theorem State.cell_sf (s : State) {f : Fld} (v c : Nat) (hlo : f.lo < 32) (hoff : f.off < 0x0E50) : (s.sf f v).cell c = s.cell c := by
  have hok : (s.sf f v).cellOk c = s.cellOk c :=
    s.gb_sf_ne v (Fld.key_ne hlo (by dsimp only; omega) (.inl (by dsimp only; omega)))
  unfold State.cell
  rw [hok, State.sf_stat]

/-- The state with other cells, under the same map of banks. -/
def State.withCells (s : State) (m : SMap Nat) : State := { s with stat := { s.stat with cells := m } }

theorem State.cell_withCells (s : State) (m : SMap Nat) (c : Nat) :
    (s.withCells m).cell c = if s.cellOk c = true then SMap.get (fun _ => 0) m c else 0 := rfl

theorem State.cell_putCell (s : State) (k v c : Nat) :
    (s.withCells (SMap.set (fun _ => 0) s.stat.cells k v)).cell c = if k = c ∧ s.cellOk c = true then v else s.cell c := by
  rw [State.cell_withCells, SMap.get_set, State.cell]
  by_cases hok : s.cellOk c = true
  · simp [hok]
  · simp [hok]

theorem State.cell_cellsClear (s : State) (a n c : Nat) : (s.cellsClear a n).cell c = if a ≤ c ∧ c < a + n then 0 else s.cell c := by
  rw [show s.cellsClear a n = s.withCells (SMap.clearRange s.stat.cells a n) from rfl, State.cell_withCells, SMap.get_clearRange, State.cell]
  by_cases hok : s.cellOk c = true
  · simp [hok]
  · simp [hok]

/-! ### An increment (R236, R237) -/

/-- The cell that a value counts in, by its histogram's descriptor. -/
def State.cellOf (s : State) (i : Nat) (v : Rat) : Nat := (s.hist i).base + ((s.hist i).bin v).1

/-- A value that is a number adds 1 to its own cell, below the highest count and where the cell's bank is served, and to no other. -/
theorem State.statInc_cell {s : State} {i : Nat} {x : Option Nat} {v : Rat} (hx : x.bind f32val = some v) (c : Nat) :
    (s.statInc i x).cell c =
      if s.cellOf i v = c ∧ s.cellOk c = true ∧ s.cell c < 2 ^ 32 - 1 then s.cell c + 1 else s.cell c := by
  simp only [State.statInc, hx, State.cell_setHist, Bool.and_eq_true, decide_eq_true_eq]
  by_cases hc : s.cellOf i v = c
  · subst hc
    split
    · rename_i hroom
      rw [if_pos ⟨rfl, hroom⟩]
      exact (s.cell_putCell _ _ _).trans (if_pos ⟨rfl, hroom.1⟩)
    · rename_i hfull
      exact (if_neg fun h => hfull h.2).symm
  · rw [if_neg (c := s.cellOf i v = c ∧ _) fun h => hc h.1]
    split
    · exact (s.cell_putCell _ _ _).trans (if_neg fun h => hc h.1)
    · rfl

theorem State.statInc_n {s : State} {i : Nat} {x : Option Nat} {v : Rat} (hx : x.bind f32val = some v) :
    ((s.statInc i x).hist i).n = satAdd 32 (s.hist i).n 1 := by
  simp only [State.statInc, hx, State.hist_setHist]
  split <;> rfl

/-- A value that is no number adds 1 to its histogram's undefined count alone. -/
theorem State.statInc_undefined {s : State} {i : Nat} {x : Option Nat} (hx : x.bind f32val = none) :
    (s.statInc i x).hist i = { s.hist i with hndef := satAdd 32 (s.hist i).hndef 1 } ∧ ∀ c, (s.statInc i x).cell c = s.cell c := by
  simp only [State.statInc, hx, State.hist_setHist, State.cell_setHist, implies_true, and_self]

theorem State.statInc_waits (s : State) (i : Nat) (x : Option Nat) : (s.statInc i x).stat.waits = s.stat.waits := by
  unfold State.statInc
  split
  · rfl
  · simp only [State.setHist]
    split <;> rfl

/-! ### What follows an increment (R244, R245) -/

/-- Every histogram and every cell read the same, and of what waits only items at the front have gone. -/
structure State.CountsSame (s t : State) : Prop where
  hist : ∀ i, t.hist i = s.hist i
  cell : ∀ c, t.cell c = s.cell c
  waits : t.stat.waits <:+ s.stat.waits

theorem State.CountsSame.refl (s : State) : State.CountsSame s s := ⟨fun _ => rfl, fun _ => rfl, List.suffix_refl _⟩

theorem State.CountsSame.sf {s t : State} (h : State.CountsSame s t) {f : Fld} (v : Nat) (hlo : f.lo < 32) (hoff : f.off < 0x0E50) :
    State.CountsSame s (t.sf f v) :=
  ⟨h.hist, fun c => (t.cell_sf v c hlo hoff).trans (h.cell c), h.waits⟩

theorem State.CountsSame.statMarks {s t : State} (h : State.CountsSame s t) (k : Nat) : State.CountsSame s (State.statMarks k t) := by
  induction k generalizing t with
  | zero => exact h
  | succ k ih =>
    unfold State.statMarks
    split
    · rename_i l q r hw
      have hpop : State.CountsSame s { t with stat := { t.stat with waits := r } } :=
        ⟨h.hist, h.cell, (List.suffix_cons _ r).trans (hw ▸ h.waits)⟩
      exact ih (hpop.sf q (by dsimp only; decide) (by dsimp only; omega))
    · exact h

theorem State.CountsSame.statDepth {s t : State} (h : State.CountsSame s t) : State.CountsSame s t.statDepth := by
  unfold State.statDepth
  extract_lets n q _ u
  have hu : State.CountsSame s u := by
    unfold u
    split
    · have hdrain : State.CountsSame s { t with stat := { t.stat with drainT := some t.now } } := ⟨h.hist, h.cell, h.waits⟩
      exact hdrain.sf (f := AGG_STAT_DRAINING) 1 (by decide) (by decide)
    · exact h
  exact (hu.sf (f := AGG_STAT_QDEPTH) q (by decide) (by decide)).sf (f := AGG_QMAX_QHWM) _ (by decide) (by decide)

/-- An increment at the front is applied with what remains behind it; then ends of aggregates and the depth follow. -/
theorem execStatIncrementApply_of {s : State} {i : Nat} {x : Option Nat} {r : List StatItem} (hen : s.gb STAT_CTRL_EN = true)
    (hheld : s.gb AGG_STAT_HELD = false) (hw : s.stat.waits = .inc i x :: r) :
    ∃ t, exec .statIncrementApply s = .next t ∧
      State.CountsSame (State.statInc { s with stat := { s.stat with waits := r } } i x) t ∧ t.stat.waits <:+ r := by
  have hsame := ((State.CountsSame.refl (State.statInc { s with stat := { s.stat with waits := r } } i x)).statMarks r.length).statDepth
  have hwaits := hsame.waits
  rw [State.statInc_waits] at hwaits
  refine ⟨_, ?_, hsame, hwaits⟩
  show execStatIncrementApply s = _
  unfold execStatIncrementApply
  rw [if_neg (by simp [hen, hheld]), hw]
  simp only [State.statInc_waits]

/-! ### A committed descriptor (R234, R239) -/

/-- A histogram with the words of a committed descriptor. -/
def State.descHist (s : State) (i : Nat) (d : List Nat) : Hist :=
  { s.hist i with d0 := d.getD 0 0, d1 := d.getD 1 0, d2 := d.getD 2 0, d3 := d.getD 3 0 }

/-- The STAT_ERR bits of a refused descriptor are raised. -/
def State.descRefuse (s : State) (bad : List Bool) : State :=
  (List.zip bad statErrs).foldl (fun (u : State) e => if e.1 then u.sf e.2 1 else u) s

/-- A descriptor is in force: an enabled histogram begins anew. -/
def State.descTake (s : State) (i : Nat) (h : Hist) : State :=
  if h.en then (s.setHist i fun _ => h).histClear i else s.setHist i fun _ => h

theorem State.descApply_refused {s : State} {i : Nat} {d : List Nat} (h : (s.descBad i (s.descHist i d)).any id = true) :
    s.descApply i d = s.descRefuse (s.descBad i (s.descHist i d)) := if_pos h

theorem State.descApply_taken {s : State} {i : Nat} {d : List Nat} (h : (s.descBad i (s.descHist i d)).any id = false) :
    s.descApply i d = (s.descTake i (s.descHist i d)).sf STAT_LOAD_LOAD (s.descTake i (s.descHist i d)).statLoad :=
  if_neg (ne_true_of_eq_false h)

/-- A taken descriptor: what its histogram and the cells read, with STAT_LOAD brought up to date. -/
theorem State.descApply_taken_same {s : State} {i : Nat} {d : List Nat} (h : (s.descBad i (s.descHist i d)).any id = false) :
    (s.descApply i d).hist i = (s.descTake i (s.descHist i d)).hist i ∧
      ∀ c, (s.descApply i d).cell c = (s.descTake i (s.descHist i d)).cell c := by
  rw [State.descApply_taken h, State.hist_sf]
  exact ⟨rfl, fun c => State.cell_sf _ _ c (by decide) (by decide)⟩

/-- A refusal changes registers alone. -/
theorem State.descRefuse_stat (s : State) (bad : List Bool) : (s.descRefuse bad).stat = s.stat :=
  State.foldl_same State.stat (fun u e => by split <;> rfl) _ s

/-- Setting a one-bit field clears no field. -/
theorem State.gb_sf_one {s : State} {f g : Fld} (hf : f.w = 1) (h : f.key = g.key ∨ s.gb g = true) : (s.sf f 1).gb g = true := by
  by_cases hk : f.key = g.key
  · have hgf : (s.sf f 1).gf g = (s.sf f 1).gf f := by
      unfold State.gf
      rw [hk]
    rw [State.gb, hgf, State.gf_sf, hf]
    rfl
  · rw [State.gb_sf_ne _ _ hk]
    exact h.resolve_left hk

theorem statErrs_w {f : Fld} (hf : f ∈ statErrs) : f.w = 1 :=
  (by decide : ∀ f ∈ statErrs, f.w = 1) f hf

/-- A refusal raises a STAT_ERR bit of a condition that holds, and no later one takes it back. -/
theorem State.descRefuse_raises (s : State) {bad : List Bool} {f : Fld} (hf : (true, f) ∈ List.zip bad statErrs) :
    (s.descRefuse bad).gb f = true := by
  obtain ⟨l, m, hl⟩ := List.append_of_mem hf
  have hm : ∀ e ∈ m, e.2 ∈ statErrs := fun e he =>
    (List.of_mem_zip (show (e.1, e.2) ∈ List.zip bad statErrs by rw [hl]; exact List.mem_append_right l (List.mem_cons_of_mem _ he))).2
  unfold State.descRefuse
  rw [hl, List.foldl_append, List.foldl_cons]
  refine List.foldlRecOn (motive := fun u => State.gb u f = true) m _ ?_ fun u hu e he => ?_
  · exact State.gb_sf_one (statErrs_w (List.of_mem_zip hf).2) (.inl rfl)
  · split
    · exact State.gb_sf_one (statErrs_w (hm e he)) (.inr hu)
    · exact hu

/-- Each condition of R234 has its STAT_ERR bit. -/
theorem State.descBad_zip {s : State} {i : Nat} {h : Hist} (hbad : (s.descBad i h).any id = true) :
    ∃ f, (true, f) ∈ List.zip (s.descBad i h) statErrs := by
  obtain ⟨b, hb, rfl⟩ := List.any_eq_true.1 hbad
  obtain ⟨k, hk, hget⟩ := List.mem_iff_getElem.1 hb
  have hk' : k < statErrs.length := hk
  exact ⟨statErrs[k], List.mem_iff_getElem.2 ⟨k, by simpa using ⟨hk, hk'⟩, by simp [hget]⟩⟩

theorem State.histClear_hist (s : State) (i : Nat) :
    (s.histClear i).hist i =
      { s.hist i with sat := false, under := false, above := false, n := 0, hseq := s.lvlSeq (s.hist i).level } :=
  State.hist_setHist _ _ _

theorem State.histClear_cell (s : State) (i c : Nat) :
    (s.histClear i).cell c = if (s.hist i).base ≤ c ∧ c < (s.hist i).base + (s.hist i).size then 0 else s.cell c :=
  s.cell_cellsClear _ _ c

/-- A descriptor in force is the one committed. -/
theorem State.descTake_words (s : State) (i : Nat) (h : Hist) :
    ((s.descTake i h).hist i).d0 = h.d0 ∧ ((s.descTake i h).hist i).d1 = h.d1 ∧ ((s.descTake i h).hist i).d2 = h.d2 ∧
      ((s.descTake i h).hist i).d3 = h.d3 := by
  unfold State.descTake
  split
  · rw [State.histClear_hist, State.hist_setHist]
    exact ⟨rfl, rfl, rfl, rfl⟩
  · rw [State.hist_setHist]
    exact ⟨rfl, rfl, rfl, rfl⟩

/-- An enabled histogram begins with no count, and its cells at 0. -/
theorem State.descTake_enabled {s : State} {i : Nat} {h : Hist} (hen : h.en = true) :
    ((s.descTake i h).hist i).n = 0 ∧ ∀ c, h.base ≤ c → c < h.base + h.size → (s.descTake i h).cell c = 0 := by
  unfold State.descTake
  rw [if_pos hen]
  refine ⟨by rw [State.histClear_hist], fun c hlo hhi => ?_⟩
  rw [State.histClear_cell, State.hist_setHist, if_pos ⟨hlo, hhi⟩]

/-! ### Drains (R247) -/

/-- A drain in progress: the flag, its beginning and the commits that wait for its end. -/
def State.drain (s : State) : Bool × Option DevTime × List (Nat × List Nat) := (s.gb AGG_STAT_DRAINING, s.stat.drainT, s.stat.commits)

/-- A descriptor that is taken or refused is no matter of a drain. -/
theorem State.descApply_drain (s : State) (i : Nat) (d : List Nat) : (s.descApply i d).drain = s.drain := by
  have hflag : (s.descApply i d).gb AGG_STAT_DRAINING = s.gb AGG_STAT_DRAINING :=
    (State.descApply_keeps (Nat.and_self _) (.refl _ s)).gb _ (by decide) rfl
  have hrest : (s.descApply i d).stat.drainT = s.stat.drainT ∧ (s.descApply i d).stat.commits = s.stat.commits := by
    cases hbad : (s.descBad i (s.descHist i d)).any id with
    | true =>
      rw [State.descApply_refused hbad, State.descRefuse_stat]
      exact ⟨rfl, rfl⟩
    | false =>
      rw [State.descApply_taken hbad, State.sf_stat, State.descTake]
      split <;> exact ⟨rfl, rfl⟩
  obtain ⟨hdrainT, hcommits⟩ := hrest
  unfold State.drain
  rw [hflag, hdrainT, hcommits]

theorem State.foldl_descApply_drain (s : State) (l : List (Nat × List Nat)) :
    (l.foldl (fun u e => u.descApply e.1 e.2) s).drain = s.drain :=
  State.foldl_same (α := Nat × List Nat) State.drain (fun u e => u.descApply_drain e.1 e.2) l s

/-- The state as a drain ends, before the commits that waited: nothing drains, and the longest drain's time is `m`. -/
def State.drainEnd (s : State) (m : Nat) : State :=
  State.sfs { s with stat := { s.stat with drainT := none, commits := [] } } [(AGG_STAT_DRAINING, 0), (AGG_QMAX_DRAIN_MAX, m)]

theorem State.drainEnd_drain (s : State) (m : Nat) : (s.drainEnd m).drain = (false, none, []) := by
  have hkey : AGG_QMAX_DRAIN_MAX.key ≠ AGG_STAT_DRAINING.key := Fld.key_ne (by decide) (by decide) (.inl (by decide))
  have hflag : (s.drainEnd m).gf AGG_STAT_DRAINING = 0 := by
    unfold State.drainEnd
    rw [State.gf_sfs_head _ _ _ _ fun e he => List.mem_singleton.1 he ▸ hkey, Nat.zero_mod]
  have hstat : (s.drainEnd m).stat = { s.stat with drainT := none, commits := [] } := by
    rw [State.drainEnd, State.sfs_eq]
  unfold State.drain State.gb
  rw [hflag, hstat]
  rfl

/-- A drain with nothing left ends, and the commits that waited are taken in their order. -/
theorem execStatQueueDrained_of {s : State} (hdrain : s.gb AGG_STAT_DRAINING = true) (hw : s.stat.waits = []) :
    ∃ m, exec .statQueueDrained s = .next (s.stat.commits.foldl (fun u e => u.descApply e.1 e.2) (s.drainEnd m)) := by
  have hend : (s.gb AGG_STAT_DRAINING && s.stat.waits.isEmpty) = true := by rw [hdrain, hw]; rfl
  show ∃ m, execStatQueueDrained s = _
  unfold execStatQueueDrained
  rw [if_pos hend]
  exact ⟨_, rfl⟩

/-! ### The descriptor registers (R248) -/

theorem State.wrDsel_index (s : State) (v : Word) : (s.wrDsel v).gf STAT_DSEL_INDEX = v.toNat % 4096 := by
  rw [State.wrDsel, State.gf_sf]
  exact Nat.mod_mod _ _

/-- The words that a write of STAT_DESC0 commits, with the staging. -/
def State.descWords (s : State) (v : Word) : List Nat :=
  [v.toNat % 2 ^ 29 + v.toNat / 2 ^ 31 * 2 ^ 31, s.stat.stag1, s.stat.stag2, s.stat.stag3]

theorem State.descHist_descWords (s : State) (i : Nat) (v : Word) :
    s.descHist i (s.descWords v) =
      { s.hist i with
        d0 := v.toNat % 2 ^ 29 + v.toNat / 2 ^ 31 * 2 ^ 31, d1 := s.stat.stag1, d2 := s.stat.stag2, d3 := s.stat.stag3 } := by
  simp only [State.descHist, State.descWords, List.getD_cons_zero, List.getD_cons_succ]

theorem execStatDescCommit_now {s : State} {v : Word} (hs : s.serving = true) (hdrain : s.gb AGG_STAT_DRAINING = false) :
    exec (.statDescCommit v) s = .next (s.descApply (s.gf STAT_DSEL_INDEX) (s.descWords v)) :=
  (next_ite_serving hs).trans (congrArg Host.Outcome.next (if_neg (ne_true_of_eq_false hdrain)))

theorem execStatDescCommit_waits {s : State} {v : Word} (hs : s.serving = true) (hdrain : s.gb AGG_STAT_DRAINING = true) :
    exec (.statDescCommit v) s =
      .next { s with stat := { s.stat with commits := s.stat.commits ++ [(s.gf STAT_DSEL_INDEX, s.descWords v)] } } :=
  (next_ite_serving hs).trans (congrArg Host.Outcome.next (if_pos hdrain))

/-- Settles O36: an increment by what it makes of its histogram and of each cell, both left alone by what follows it; a drain's end by the
commits' indifference to drains; a commit by whether its descriptor is refused. -/
theorem incrementsAndDescriptors : Obligations.IncrementsAndDescriptors := by
  refine ⟨fun s i x v r hen hheld hw hx => ?_, fun s i x r hen hheld hw hx => ?_, fun s hdrain hw => ?_, fun s v hs => ?_,
    fun s v h hs hdrain hh => ⟨fun hok => ?_, fun hbad => ?_⟩, fun s v hs hdrain => ?_⟩
  · obtain ⟨t, ht, hsame, hwaits⟩ := execStatIncrementApply_of hen hheld hw
    refine ⟨t, ht, hwaits, ?_, fun hok hroom => ?_, fun c hc => ?_⟩
    · rw [hsame.hist, State.statInc_n hx]
      rfl
    · rw [hsame.cell, State.statInc_cell hx]
      exact if_pos ⟨rfl, hok, hroom⟩
    · rw [hsame.cell, State.statInc_cell hx]
      exact if_neg fun h => hc h.1.symm
  · obtain ⟨t, ht, hsame, hwaits⟩ := execStatIncrementApply_of hen hheld hw
    obtain ⟨hhist, hcell⟩ := State.statInc_undefined (s := { s with stat := { s.stat with waits := r } }) (i := i) hx
    refine ⟨t, ht, hwaits, ?_, ?_, fun c => (hsame.cell c).trans (hcell c)⟩
    · rw [hsame.hist, hhist]
      rfl
    · rw [hsame.hist, hhist]
      rfl
  · obtain ⟨m, hexec⟩ := execStatQueueDrained_of hdrain hw
    have hend := ((s.drainEnd m).foldl_descApply_drain s.stat.commits).trans (s.drainEnd_drain m)
    simp only [State.drain, Prod.mk.injEq] at hend
    obtain ⟨hflag, hstart, hcommits⟩ := hend
    exact ⟨_, hexec, hflag, hcommits, hstart⟩
  · exact ⟨_, next_ite_serving hs, s.wrDsel_index v, rfl, rfl, rfl, rfl⟩
  · rw [← State.descHist_descWords] at hh
    subst hh
    obtain ⟨hd0, hd1, hd2, hd3⟩ := s.descTake_words (s.gf STAT_DSEL_INDEX) (s.descHist (s.gf STAT_DSEL_INDEX) (s.descWords v))
    refine ⟨_, execStatDescCommit_now hs hdrain, ?_⟩
    obtain ⟨hhist, hcell⟩ := State.descApply_taken_same hok
    rw [hhist]
    refine ⟨hd0, hd1, hd2, hd3, fun hen => ?_⟩
    obtain ⟨hn, hcells⟩ := State.descTake_enabled (s := s) (i := s.gf STAT_DSEL_INDEX) hen
    exact ⟨hn, fun c hlo hhi => (hcell c).trans (hcells c hlo hhi)⟩
  · rw [← State.descHist_descWords] at hh
    subst hh
    obtain ⟨f, hf⟩ := State.descBad_zip hbad
    refine ⟨_, execStatDescCommit_now hs hdrain, ?_⟩
    rw [State.descApply_refused hbad]
    exact ⟨congrArg StatSt.hists (s.descRefuse_stat _), f, (List.of_mem_zip hf).2, s.descRefuse_raises hf⟩
  · exact ⟨_, execStatDescCommit_waits hs hdrain, rfl, rfl⟩

end Sys2Proof.Machine
end

section
/-! SUPPORT. Billing (R252, R253, R255, R261, R269): what a write of BIL_CTRL makes of the tariff registers and of the closes that wait, what
writes of the calendar registers make of the passive image, and what BIL_SEL latches. -/

namespace Sys2Proof.Machine

/-! ### Sealed writes inside a session, and LOG records (R323, R348, R440, R515) -/

/-- What listing an accepted sealed write in the session's change list may change. -/
def changesScope : Nat := scopeMask ([.session] : List StatePart) []

/-- A write that reaches a sealed field in a session of its port is as its handling leaves it, but for the session's list of changes. -/
theorem State.rws_inside_keeps {s : State} {p : Port} {off : Nat} {v : Word} {ctx : Nat} {plain : State → State}
    {inside : State → Bool × State} (ho : s.sealOpen p = true) :
    State.Keeps changesScope (inside s).2 (s.rws p off v ctx true plain inside) := by
  simp only [State.rws, ho, Bool.not_true, Bool.false_eq_true, if_false, if_true]
  split
  · exact State.sealList_keeps rfl (.refl _ _)
  · exact .refl _ _

/-- LOG depends on no master that may be wedged. -/
theorem State.starved_log (s : State) : s.starved clsLOG = false := rfl

theorem State.log_newest {s : State} (kind sub : Nat) (l : List Byte) (hforms : s.forms = true) :
    ∃ q, (s.log kind sub l).formed = s.formed ++ [q] ∧ q.cls = clsLOG ∧ q.aux = kind + 256 * sub :=
  State.emit_newest (s.logRec kind sub l) hforms s.starved_log

/-- Where records are formed, registers are served. -/
theorem State.serving_of_forms (s : State) (h : s.forms = true) : s.serving = true := by
  have hready : decide (s.rst.phase = .ready) = true := State.isReady_of_forms h
  rw [State.serving, hready, Bool.true_or, Bool.true_or]

/-! ### Fields and one group's billing state -/

/-- A field of a list of writes holds its value when none of the fields after it is the same. The fields stand apart from the values, so
that `rfl` compares keys in a closed term. -/
theorem State.gf_sfs_fields (s : State) {l : List (Fld × Nat)} {fs : List Fld} (hfs : l.map Prod.fst = fs) (i : Nat) {f : Fld} {v : Nat}
    (h : l[i]? = some (f, v)) (hk : (fs.drop (i + 1)).all (fun g => decide (g.key ≠ f.key)) = true) : (s.sfs l).gf f = v % 2 ^ f.w := by
  rw [← hfs, ← List.map_drop, List.all_map] at hk
  exact s.gf_sfs_get l i f v h hk

theorem State.setBil_get_ne (s : State) {g k : Fin 2} (f : Bil → Bil) (h : g ≠ k) : (s.setBil g f).bil[k] = s.bil[k] :=
  Vector.getElem_set_ne g.isLt k.isLt (Fin.val_ne_of_ne h)

/-! ### Requests to close a period (R261) -/

/-- The close of a group that waits after a write of BIL_CTRL: one that waited already, else the one that the write asks for. -/
def State.closeAfter (s : State) (w : Nat) (g : Fin 2) : Option DevTime :=
  if w.testBit g && !s.grpFused g && s.bil[g].close.isNone then some ((s.now / minuteT + 1) * minuteT) else s.bil[g].close

/-- The state once a write of BIL_CTRL has asked for a group's close. -/
def State.closeAsked (s : State) (w : Nat) (g : Fin 2) : State := s.setBil g (fun x => { x with close := s.closeAfter w g })

/-- The state once it has asked for the closes of both groups. -/
def State.closesAsked (s : State) (w : Nat) : State := (s.closeAsked w 0).closeAsked w 1

theorem State.closeAsked_eq (s : State) (w : Nat) (g : Fin 2) :
    (if w.testBit g && !s.grpFused g && s.bil[g].close.isNone then
      s.setBil g (fun x => { x with close := some ((s.now / minuteT + 1) * minuteT) }) else s) = s.closeAsked w g := by
  unfold State.closeAsked State.closeAfter
  split
  · rfl
  · exact (congrArg (fun b => { s with bil := b }) (Vector.set_getElem_self _)).symm

/-- A request leaves all of a group's billing state but the close that waits. -/
theorem State.closesAsked_bil (s : State) (w : Nat) (k : Fin 2) :
    (s.closesAsked w).bil[k] = { s.bil[k] with close := s.closeAfter w k } := by
  have hother : ∀ (u : State) (i j : Fin 2), i ≠ j → (u.closeAsked w i).bil[j] = u.bil[j] := fun u i j hij =>
    u.setBil_get_ne _ hij
  match k with
  | 0 =>
    rw [State.closesAsked, hother _ 1 0 (by decide)]
    exact s.setBil_get 0 _
  | 1 =>
    have hafter : (s.closeAsked w 0).closeAfter w 1 = s.closeAfter w 1 := by
      unfold State.closeAfter
      rw [hother s 0 1 (by decide)]
      rfl
    rw [State.closesAsked, State.closeAsked, State.setBil_get, hafter, hother s 0 1 (by decide)]

/-- A request that is made for a group that is there waits for the next whole minute, unless a close waits already. -/
theorem State.closeAfter_of {s : State} {w : Nat} {g : Fin 2} (hw : w.testBit g = true) (hfused : s.grpFused g = false) :
    s.closeAfter w g = if s.bil[g].close.isNone = true then some ((s.now / minuteT + 1) * minuteT) else s.bil[g].close := by
  simp only [State.closeAfter, hw, hfused, Bool.not_false, Bool.true_and]

theorem State.closesAsked_gf (s : State) (w : Nat) (f : Fld) : (s.closesAsked w).gf f = s.gf f := rfl

/-! ### Tariff clears (R252) -/

/-- A group's tariff registers and maximum demands are 0, and so is its PERIOD. -/
def State.TariffZero (s : State) (g : Fin 2) : Prop :=
  s.bil[g].treg = [] ∧ s.bil[g].poison = [] ∧ s.bil[g].maxd = [] ∧ s.gf (BIL_STAT_PERIOD g) = 0

theorem State.tariffReset_zero (s : State) (g : Fin 2) : (s.tariffReset g).TariffZero g := by
  unfold State.tariffReset State.TariffZero
  rw [State.sf_bil, State.setBil_get, State.gf_sf]
  exact ⟨rfl, rfl, rfl, rfl⟩

theorem State.tariffReset_other {s : State} {g k : Fin 2} (hne : g ≠ k) (h : s.TariffZero k) : (s.tariffReset g).TariffZero k := by
  have hkey : (BIL_STAT_PERIOD g).key ≠ (BIL_STAT_PERIOD k).key :=
    Fld.key_ne (by dsimp only; decide) (by dsimp only; decide) (.inl (by dsimp only; omega))
  unfold State.tariffReset State.TariffZero
  rw [State.sf_bil, State.setBil_get_ne _ _ hne, State.gf_sf_ne _ _ hkey]
  exact h

theorem regGroup_bilStatPeriod (g : Fin 2) : regGroup (BIL_STAT_PERIOD g).off = .bilStat := by
  match g with
  | 0 => rfl
  | 1 => rfl

theorem State.TariffZero.of_keeps {m : Nat} {s t : State} {g : Fin 2} (h : s.TariffZero g) (hk : State.Keeps m s t)
    (hbil : m.testBit StatePart.bil.ctorIdx = false) (hreg : m.testBit (64 + RegGroup.bilStat.ctorIdx) = false) : t.TariffZero g := by
  have hsame : t.bil = s.bil := hk.part .bil hbil
  unfold State.TariffZero
  rw [hsame, hk.reg (BIL_STAT_PERIOD g) (by dsimp only; decide) (by rw [regGroup_bilStatPeriod]; exact hreg)]
  exact h

/-- The state once both groups are logged and cleared, with their high cells in the store. -/
def State.tariffsCleared (s : State) : State := ((((s.logTariff 0).logTariff 1).tariffReset 0).tariffReset 1).highClear 64 192

theorem State.tariffsCleared_zero (s : State) (g : Fin 2) : s.tariffsCleared.TariffZero g := by
  have hboth : ((((s.logTariff 0).logTariff 1).tariffReset 0).tariffReset 1).TariffZero g := by
    match g with
    | 0 => exact State.tariffReset_other (by decide) (State.tariffReset_zero _ 0)
    | 1 => exact State.tariffReset_zero _ 1
  exact hboth.of_keeps (State.highClear_keeps (Nat.and_self _) (.refl _ _)) rfl rfl

/-! ### Writes of BIL_CTRL (R252, R261) -/

/-- What a write of BIL_CTRL makes of the state inside a session, and whether it enters the session's list of changes. -/
def State.bilCtrlHandled (w : Nat) (s : State) : Bool × State :=
  if w.testBit 2 then
    if s.grp[(0 : Fin 2)].running || s.grp[(1 : Fin 2)].running then (decide (w % 4 ≠ 0), (s.closesAsked w).sf BIL_ERR_TCLR_RUNNING 1)
    else (true, (s.closesAsked w).tariffsCleared)
  else (true, s.closesAsked w)

theorem State.wrBilCtrl_eq (s : State) (p : Port) (v : Word) :
    s.wrBilCtrl p v = s.rws p 0x1000 v 0 (decide (v.toNat % 8 ≠ 0)) id (State.bilCtrlHandled v.toNat) := by
  simp only [State.wrBilCtrl, State.closeAsked_eq]
  rfl

/-- A write that names a group or TCLR is handled inside a session. -/
theorem State.wrBilCtrl_keeps_handled {s : State} {p : Port} {v : Word} {i : Nat} (ho : s.sealOpen p = true) (hi : i < 3)
    (hv : v.toNat.testBit i = true) :
    State.Keeps changesScope (State.bilCtrlHandled v.toNat s).2 (s.wrBilCtrl p v) := by
  have hne : v.toNat % 8 ≠ 0 := fun h => by
    have hbit := Nat.testBit_mod_two_pow v.toNat 3 i
    rw [show 2 ^ 3 = 8 from rfl, h, hv, Nat.zero_testBit, decide_eq_true hi] at hbit
    cases hbit
  rw [State.wrBilCtrl_eq, decide_eq_true hne]
  exact State.rws_inside_keeps ho

theorem State.bilCtrlHandled_clear {s : State} {w : Nat} (hw : w.testBit 2 = true) (h0 : (s.grp[(0 : Fin 2)]).running = false)
    (h1 : (s.grp[(1 : Fin 2)]).running = false) : (State.bilCtrlHandled w s).2 = (s.closesAsked w).tariffsCleared := by
  simp only [State.bilCtrlHandled, hw, h0, h1, Bool.or_self, Bool.false_eq_true, if_true, if_false]

theorem State.bilCtrlHandled_refused {s : State} {w : Nat} {g : Fin 2} (hw : w.testBit 2 = true) (hrun : (s.grp[g]).running = true) :
    (State.bilCtrlHandled w s).2 = (s.closesAsked w).sf BIL_ERR_TCLR_RUNNING 1 := by
  have hany : (s.grp[(0 : Fin 2)].running || s.grp[(1 : Fin 2)].running) = true := by
    match g with
    | 0 => rw [hrun, Bool.true_or]
    | 1 => rw [hrun, Bool.or_true]
  simp only [State.bilCtrlHandled, hw, hany, if_true]

theorem State.bilCtrlHandled_request {s : State} {w : Nat} (hw : w.testBit 2 = false) :
    (State.bilCtrlHandled w s).2 = s.closesAsked w := by
  simp only [State.bilCtrlHandled, hw, Bool.false_eq_true, if_false]

/-- Settles O39: a clear by what its last step leaves of each group, a refusal and a request by what a request leaves of a group's billing
state, which is all but the close that waits. -/
theorem tariffClearAndClose : Obligations.TariffClearAndClose := by
  refine ⟨fun s p v hs hw ho hv h0 h1 => ?_, fun s p v g hs hw ho hv hrun => ?_, fun s p v g hs hw ho hv hclr hfused => ?_⟩
  · have hk := State.wrBilCtrl_keeps_handled ho (by decide) hv
    rw [State.bilCtrlHandled_clear hv h0 h1] at hk
    exact ⟨_, next_orDefer hs hw, fun g => ((s.closesAsked v.toNat).tariffsCleared_zero g).of_keeps hk rfl rfl⟩
  · have hk := State.wrBilCtrl_keeps_handled ho (by decide) hv
    rw [State.bilCtrlHandled_refused hv hrun] at hk
    have hbil : (s.wrBilCtrl p v).bil = (s.closesAsked v.toNat).bil := hk.part .bil rfl
    refine ⟨_, next_orDefer hs hw, (hk.gb BIL_ERR_TCLR_RUNNING (by decide) rfl).trans (State.gb_sf _ _ _), fun k => ?_⟩
    have hkey : (BIL_ERR_TCLR_RUNNING).key ≠ (BIL_STAT_PERIOD k).key :=
      Fld.key_ne (by decide) (by dsimp only; decide) (.inr (by dsimp only; decide))
    rw [hbil, State.closesAsked_bil, hk.reg (BIL_STAT_PERIOD k) (by dsimp only; decide) (by rw [regGroup_bilStatPeriod]; rfl),
      State.gf_sf_ne _ _ hkey, State.closesAsked_gf]
    exact ⟨rfl, rfl, rfl⟩
  · have hk := State.wrBilCtrl_keeps_handled ho (by omega) hv
    rw [State.bilCtrlHandled_request hclr] at hk
    have hbil : (s.wrBilCtrl p v).bil = (s.closesAsked v.toNat).bil := hk.part .bil rfl
    refine ⟨_, next_orDefer hs hw, ?_⟩
    rw [hbil, State.closesAsked_bil]
    refine ⟨rfl, fun hnone => ?_, fun hsome => ?_⟩
    · exact (State.closeAfter_of hv hfused).trans (if_pos (by rw [hnone]; rfl))
    · exact (State.closeAfter_of hv hfused).trans (if_neg (by rw [Option.isNone_iff_eq_none]; exact Option.isSome_iff_ne_none.1 hsome))

/-! ### The calendar's words (R253) -/

/-- The state with another word in the passive image, which no commit then stands for. -/
def State.passiveWord (s : State) (a w : Nat) : State :=
  State.sf { s with cals := { s.cals with pas := SMap.set (fun _ => 0) s.cals.pas a w } } BIL_CAL_CTRL_PVALID 0

theorem imgWord_passiveWord_same (s : State) (a w : Nat) : imgWord (s.passiveWord a w).cals.pas a = w := SMap.get_set_eq _ _ _ _

theorem imgWord_passiveWord_ne (s : State) {a b : Nat} (w : Nat) (h : a ≠ b) :
    imgWord (s.passiveWord a w).cals.pas b = imgWord s.cals.pas b := SMap.get_set_ne _ _ _ h

theorem State.passiveWord_pvalid (s : State) (a w : Nat) : (s.passiveWord a w).gb BIL_CAL_CTRL_PVALID = false := State.gb_sf _ _ _

theorem State.wrBilCalData_eq {s : State} {p : Port} {v : Word} (ha : s.gf BIL_CAL_ADDR_ADDR ≤ 0x150) :
    s.wrBilCalData p v = s.rws p 0x1044 v (s.gf BIL_CAL_ADDR_ADDR)
      (decide (v.toNat &&& imgMask (s.gf BIL_CAL_ADDR_ADDR) ≠ imgWord s.cals.pas (s.gf BIL_CAL_ADDR_ADDR))) id
      (fun u => (true, u.passiveWord (s.gf BIL_CAL_ADDR_ADDR) (v.toNat &&& imgMask (s.gf BIL_CAL_ADDR_ADDR)))) :=
  if_neg (Nat.not_lt.2 ha)

/-- A write that finds its word in the image reaches nothing sealed. -/
theorem State.wrBilCalData_same {s : State} {p : Port} {v : Word} (ha : s.gf BIL_CAL_ADDR_ADDR ≤ 0x150)
    (heq : v.toNat &&& imgMask (s.gf BIL_CAL_ADDR_ADDR) = imgWord s.cals.pas (s.gf BIL_CAL_ADDR_ADDR)) : s.wrBilCalData p v = s := by
  rw [State.wrBilCalData_eq ha, decide_eq_false (not_not_intro heq), State.rws_plain]
  rfl

theorem State.wrBilCalData_keeps_word {s : State} {p : Port} {v : Word} (ho : s.sealOpen p = true) (ha : s.gf BIL_CAL_ADDR_ADDR ≤ 0x150)
    (hne : v.toNat &&& imgMask (s.gf BIL_CAL_ADDR_ADDR) ≠ imgWord s.cals.pas (s.gf BIL_CAL_ADDR_ADDR)) :
    State.Keeps changesScope (s.passiveWord (s.gf BIL_CAL_ADDR_ADDR) (v.toNat &&& imgMask (s.gf BIL_CAL_ADDR_ADDR))) (s.wrBilCalData p v) := by
  rw [State.wrBilCalData_eq ha, decide_eq_true hne]
  exact State.rws_inside_keeps (inside := fun u => (true, u.passiveWord _ _)) ho

/-! ### Commits of the calendar (R255) -/

theorem State.wrBilCalCtrl_keeps_commit {s : State} {p : Port} {v : Word} (ho : s.sealOpen p = true) (hv : v.toNat.testBit 0 = true) :
    State.Keeps changesScope s.calendarCommit.2 (s.wrBilCalCtrl p v) := by
  rw [State.wrBilCalCtrl, hv]
  exact State.rws_inside_keeps ho

/-- The state once the record of a commit is queued and its page is guarded in place of the page of the commit before it. -/
def State.commitGuarded (s : State) : State :=
  let page := slotPage 4 (s.nvm.nextSlot 4)
  let u := s.storeRecord 4 3 6 NvmKind.calendar (imgBytes s.cals.pas s.pcalAct)
  (u.unguardOpt u.cals.pasPage).guard page

/-- The state that has taken a commit: the passive image has its instant, and PVALID is set. -/
def State.commitTaken (s : State) : State :=
  let u := s.commitGuarded
  State.sf { u with cals := { u.cals with pasT := s.pcalAct, pasPage := some (slotPage 4 (s.nvm.nextSlot 4)) } } BIL_CAL_CTRL_PVALID 1

theorem State.commitGuarded_keeps (s : State) : State.Keeps (scopeMask ([.nvm, .arch] : List StatePart) []) s s.commitGuarded :=
  State.guard_keeps rfl (State.unguardOpt_keeps rfl (State.storeRecord_keeps rfl (.refl _ s)))

theorem State.commitTaken_keeps (s : State) : State.Keeps (scopeMask ([.nvm, .arch, .cals] : List StatePart) [.bilCal]) s s.commitTaken :=
  State.sf_keeps (.inl ⟨by decide, rfl⟩) (State.Keeps.upd_cals rfl (s.commitGuarded_keeps.mono (m := scopeMask [.nvm, .arch] []) rfl))

theorem State.commitTaken_image (s : State) : s.commitTaken.cals.pasT = s.pcalAct ∧ s.commitTaken.cals.pas = s.cals.pas := by
  have hcals : s.commitGuarded.cals = s.cals := s.commitGuarded_keeps.part .cals rfl
  have hpas : s.commitTaken.cals.pas = s.commitGuarded.cals.pas := rfl
  exact ⟨rfl, by rw [hpas, hcals]⟩

/-- A commit that passes is taken and logged. -/
theorem State.calendarCommit_accepted {s : State} (himg : imgValid s.cals.pas = true) (hmin : s.pcalAct % minuteT = 0)
    (hhwm : s.ket.hwm < s.pcalAct) : ∃ l, s.calendarCommit.2 = s.commitTaken.log 9 1 l := by
  simp only [State.calendarCommit, himg, decide_eq_true hmin, decide_eq_true hhwm, Bool.and_self, if_true]
  exact ⟨_, rfl⟩

/-- A commit of an image that fails raises CAL_INVALID and changes neither the calendars nor PVALID. -/
theorem State.calendarCommit_invalid {s : State} (himg : imgValid s.cals.pas = false) :
    s.calendarCommit.2.gb BIL_ERR_CAL_INVALID = true ∧ s.calendarCommit.2.cals = s.cals ∧
      s.calendarCommit.2.gb BIL_CAL_CTRL_PVALID = s.gb BIL_CAL_CTRL_PVALID := by
  unfold State.calendarCommit
  extract_lets t okI okT s1 s2 page s3 s4 s5
  have hI : okI = false := himg
  have h1 : s1 = s.sf BIL_ERR_CAL_INVALID 1 := if_neg (ne_true_of_eq_false hI)
  rw [if_pos (by rw [hI]; rfl)]
  dsimp only [s2]
  rw [h1]
  split
  · exact ⟨State.gb_sf _ _ _, rfl, State.gb_sf_ne _ _ (by decide)⟩
  · rw [State.gb_sf_ne _ _ (by decide), State.gb_sf, State.gb_sf_ne _ _ (by decide), State.gb_sf_ne _ _ (by decide)]
    exact ⟨rfl, rfl, rfl⟩

/-! ### BIL_SEL (R269) -/

/-- The selection that a write of BIL_SEL stores. -/
def State.bilSelect (s : State) (w : Nat) : State :=
  s.sfs [(BIL_SEL_KIND, w), (BIL_SEL_GROUP, w / 4), (BIL_SEL_TARIFF, w / 16), (BIL_SEL_QTY, w / 256), (BIL_SEL_SNAP, w / 4096)]

theorem State.bilSelect_bil (s : State) (w : Nat) : (s.bilSelect w).bil = s.bil := by
  rw [State.bilSelect, State.sfs_eq]

/-- BIL_VAL0 to BIL_VAL4 latch a value. -/
def State.bilVal (s : State) (v0 v1 v2 v3 period valid poison : Nat) : State :=
  s.sfs [(BIL_VAL0_V0, v0), (BIL_VAL1_V1, v1), (BIL_VAL2_V2, v2), (BIL_VAL3_V3, v3), (BIL_VAL4_PERIOD, period), (BIL_VAL4_VALID, valid),
    (BIL_VAL4_POISON, poison)]

/-- The fields of BIL_VAL0 to BIL_VAL4, in the order in which they latch. -/
def bilValFields : List Fld :=
  [BIL_VAL0_V0, BIL_VAL1_V1, BIL_VAL2_V2, BIL_VAL3_V3, BIL_VAL4_PERIOD, BIL_VAL4_VALID, BIL_VAL4_POISON]

theorem State.bilVal_values (s : State) (v0 v1 v2 v3 period valid poison : Nat) :
    (s.bilVal v0 v1 v2 v3 period valid poison).gb BIL_VAL4_VALID = decide (valid % 2 = 1) ∧
      (s.bilVal v0 v1 v2 v3 period valid poison).gf BIL_VAL0_V0 = v0 % 2 ^ 32 ∧
      (s.bilVal v0 v1 v2 v3 period valid poison).gf BIL_VAL1_V1 = v1 % 2 ^ 32 ∧
      (s.bilVal v0 v1 v2 v3 period valid poison).gf BIL_VAL2_V2 = v2 % 2 ^ 32 := by
  have hvalid : (s.bilVal v0 v1 v2 v3 period valid poison).gf BIL_VAL4_VALID = valid % 2 ^ 1 :=
    s.gf_sfs_fields (fs := bilValFields) rfl 5 rfl rfl
  exact ⟨congrArg (fun n => decide (n = 1)) hvalid, s.gf_sfs_fields (fs := bilValFields) rfl 0 rfl rfl,
    s.gf_sfs_fields (fs := bilValFields) rfl 1 rfl rfl, s.gf_sfs_fields (fs := bilValFields) rfl 2 rfl rfl⟩

/-- The group that a write of BIL_SEL names. -/
theorem bilSel_group {w : Nat} {g : Fin 2} (h : w.testBit 2 = decide (g = 1)) : (if w.testBit 2 then (1 : Fin 2) else 0) = g := by
  rw [h]
  match g with
  | 0 => rfl
  | 1 => rfl

section
variable {s : State} {v : Word} {g : Fin 2}

theorem State.wrBilSel_absent (hg : v.toNat.testBit 2 = decide (g = 1)) (hfused : s.grpFused g = true) :
    s.wrBilSel v = (s.bilSelect v.toNat).bilVal 0 0 0 0 0 0 0 := by
  obtain rfl := bilSel_group hg
  unfold State.wrBilSel
  extract_lets w kind g' i age u x put reg dem
  rw [if_pos (show u.grpFused g' = true from hfused)]
  rfl

theorem State.wrBilSel_register (hg : v.toNat.testBit 2 = decide (g = 1)) (hkind : v.toNat % 4 = 0) (hfused : s.grpFused g = false) {n : Nat}
    (hn : n = SMap.get (fun _ => 0) (s.bil[g]).treg (8 * (v.toNat / 16 % 8) + v.toNat / 256 % 8)) :
    ∃ poison, s.wrBilSel v = (s.bilSelect v.toNat).bilVal n (n / 2 ^ 32) (n / 2 ^ 64) 0 0 1 poison := by
  obtain rfl := bilSel_group hg
  unfold State.wrBilSel
  extract_lets w kind g' i age u x put reg dem
  have hk : kind = 0 := hkind
  rw [if_neg (show ¬u.grpFused g' = true from ne_true_of_eq_false hfused), hk]
  have hx : x = s.bil[g'] := congrArg (fun b => b[g']) (s.bilSelect_bil w)
  rw [hn, ← hx]
  exact ⟨_, rfl⟩

theorem State.wrBilSel_notHeld (hg : v.toNat.testBit 2 = decide (g = 1)) (hkind : 2 ≤ v.toNat % 4)
    (hnone : (s.bil[g]).snaps[v.toNat / 4096 % 16]? = none) : s.wrBilSel v = (s.bilSelect v.toNat).bilVal 0 0 0 0 0 0 0 := by
  obtain rfl := bilSel_group hg
  unfold State.wrBilSel
  extract_lets w kind g' i age u x put reg dem
  have hx : x.snaps[age]? = none := (congrArg (fun b => b[g'].snaps[age]?) (s.bilSelect_bil w)).trans hnone
  obtain ⟨k, hk⟩ : ∃ k, kind = k + 2 := ⟨kind - 2, (Nat.sub_add_cancel hkind).symm⟩
  split
  · rfl
  · rw [hk, hx]
    rfl

end

/-- Settles O40: the calendar's words by the one that a write puts, a commit by what it stores, BIL_SEL by the value that it latches. -/
theorem calendarAndSelection : Obligations.CalendarAndSelection := by
  refine ⟨fun s p v hs hw ho ha => ?_, fun s p v hf hw ho hv himg hmin hhwm => ?_, fun s p v hs hw ho hv himg => ?_,
    fun s v g hs hw hkind hg => ⟨fun hfused => ?_, fun hfused => ?_⟩, fun s v g hs hw hkind hg hnone => ?_⟩
  · refine ⟨_, next_orDefer hs hw, ?_⟩
    by_cases heq : v.toNat &&& imgMask (s.gf BIL_CAL_ADDR_ADDR) = imgWord s.cals.pas (s.gf BIL_CAL_ADDR_ADDR)
    · rw [State.wrBilCalData_same ha heq]
      exact ⟨heq.symm, fun _ _ => rfl, rfl, fun hne => absurd heq hne, fun _ => rfl⟩
    · have hk := State.wrBilCalData_keeps_word ho ha heq
      have hcals : (s.wrBilCalData p v).cals = _ := hk.part .cals rfl
      rw [hcals]
      exact ⟨imgWord_passiveWord_same s _ _, fun a hne => imgWord_passiveWord_ne s _ hne.symm, rfl,
        fun _ => (hk.gb BIL_CAL_CTRL_PVALID (by decide) rfl).trans (s.passiveWord_pvalid _ _), fun h => absurd h heq⟩
  · have hk := State.wrBilCalCtrl_keeps_commit ho hv
    have hs : s.serving = true := s.serving_of_forms hf
    obtain ⟨l, hl⟩ := State.calendarCommit_accepted himg hmin hhwm
    have hlog : State.Keeps _ s.commitTaken s.calendarCommit.2 := hl ▸ State.log_keeps (Nat.and_self _) (.refl _ _)
    have hcals : (s.wrBilCalCtrl p v).cals = s.commitTaken.cals := Eq.trans (hk.part .cals rfl) (hlog.part .cals rfl)
    have hformed : (s.wrBilCalCtrl p v).formed = (s.commitTaken.log 9 1 l).formed := (congrArg State.formed hl) ▸ hk.part .formed rfl
    have hbefore : s.commitTaken.formed = s.formed := s.commitTaken_keeps.part .formed rfl
    obtain ⟨q, hq, hcls, haux⟩ := State.log_newest 9 1 l ((s.commitTaken_keeps.forms rfl rfl).trans hf)
    obtain ⟨hpasT, hpas⟩ := s.commitTaken_image
    refine ⟨_, next_orDefer hs hw, ?_, hcals ▸ hpasT, hcals ▸ hpas, q, ?_, hcls, haux⟩
    · exact (hk.gb _ (by decide) rfl).trans ((hlog.gb _ (by decide) rfl).trans (State.gb_sf _ _ _))
    · rw [hformed, hq, hbefore, List.drop_left]
      exact List.mem_singleton_self q
  · have hk := State.wrBilCalCtrl_keeps_commit ho hv
    have hcals : (s.wrBilCalCtrl p v).cals = _ := hk.part .cals rfl
    obtain ⟨herr, hsame, hpv⟩ := State.calendarCommit_invalid himg
    exact ⟨_, next_orDefer hs hw, (hk.gb _ (by decide) rfl).trans herr, hcals.trans hsame, (hk.gb _ (by decide) rfl).trans hpv⟩
  · obtain ⟨poison, hexec⟩ := State.wrBilSel_register hg hkind hfused rfl
    refine ⟨_, next_orDefer hs hw, ?_⟩
    rw [hexec]
    exact State.bilVal_values _ _ _ _ _ _ _ _
  · refine ⟨_, next_orDefer hs hw, ?_⟩
    rw [State.wrBilSel_absent hg hfused]
    obtain ⟨hvalid, h0, -⟩ := State.bilVal_values (s.bilSelect v.toNat) 0 0 0 0 0 0 0
    exact ⟨hvalid, h0⟩
  · refine ⟨_, next_orDefer hs hw, ?_⟩
    rw [State.wrBilSel_notHeld hg hkind hnone]
    exact (State.bilVal_values _ _ _ _ _ _ _ _).1

end Sys2Proof.Machine
end

section
/-! SUPPORT. What writing records leaves (R272, R283, R286, R289): a record that takes its place on a ring leaves every other ring, what its
own ring shows beside its records, and the link's configuration; so does a record that is formed, for the rings of other classes. -/

namespace Sys2Proof.Machine

/-! ### Readings -/

/-- What a ring shows beside its records: its standing, its settings, the host's index, and what its last write-back showed. -/
def Ring.face (r : Ring) : Ring :=
  { st := r.st, waiting := r.waiting, err := r.err, cls := r.cls, base := r.base, wb := r.wb, log2 := r.log2, vec := r.vec, irq := r.irq,
    param := r.param, mod := r.mod, tmo := r.tmo, host := r.host, pub := r.pub, lastVis := r.lastVis }

@[simp] theorem Ring.face_eq_iff (x y : Ring) : x.face = y.face ↔
    x.st = y.st ∧ x.waiting = y.waiting ∧ x.err = y.err ∧ x.cls = y.cls ∧ x.base = y.base ∧ x.wb = y.wb ∧ x.log2 = y.log2 ∧ x.vec = y.vec ∧
      x.irq = y.irq ∧ x.param = y.param ∧ x.mod = y.mod ∧ x.tmo = y.tmo ∧ x.host = y.host ∧ x.pub = y.pub ∧ x.lastVis = y.lastVis := by
  simp [Ring.face]

/-- The link's configuration: all but the vectors that wait and PME_Status. -/
def Link.config (l : Link) : Link := { l with pba := 0, pmeStatus := false }

/-- A reading of every ring. -/
def State.readRings {β : Type} (π : Ring → β) (s : State) (m : Fin 64) : β := π s.rings[m]

/-- The link's configuration and the faces of the rings. -/
def State.faces (s : State) : Link × (Fin 64 → Ring) := (s.link.config, s.readRings Ring.face)

/-- The link's configuration, every ring but n, and the face of ring n. -/
def State.aside (n : Fin 64) (s : State) : Link × (Fin 64 → Ring) :=
  (s.link.config, fun m => if m = n then (s.rings[m]).face else s.rings[m])

theorem State.setRing_get_ne (s : State) {n m : Fin 64} (f : Ring → Ring) (h : m ≠ n) : (s.setRing n f).rings[m] = s.rings[m] := by
  simp [State.setRing, Vector.getElem_set_ne, Fin.val_ne_of_ne (Ne.symm h)]

/-- A reading of the rings after one of them changed. -/
theorem State.setRing_readRings {β : Type} (π : Ring → β) (s : State) (n : Fin 64) (f : Ring → Ring) :
    (s.setRing n f).readRings π = Function.update (s.readRings π) n (π (f s.rings[n])) := by
  funext m
  by_cases h : m = n
  · subst h
    rw [Function.update_self]
    exact congrArg π (s.setRing_get m f)
  · rw [Function.update_of_ne h]
    exact congrArg π (s.setRing_get_ne f h)

/-- A change of a ring that a reading does not see. -/
theorem State.setRing_readRings_same {β : Type} (π : Ring → β) (s : State) (n : Fin 64) {f : Ring → Ring} (h : ∀ x, π (f x) = π x) :
    (s.setRing n f).readRings π = s.readRings π := by
  rw [State.setRing_readRings, h]
  exact Function.update_eq_self n _

theorem State.aside_eq_iff {n : Fin 64} {s t : State} : t.aside n = s.aside n ↔
    t.link.config = s.link.config ∧ (t.rings[n]).face = (s.rings[n]).face ∧ ∀ m, m ≠ n → t.rings[m] = s.rings[m] := by
  unfold State.aside
  rw [Prod.mk.injEq, funext_iff]
  refine and_congr_right fun _ => ⟨fun h => ⟨by simpa using h n, fun m hm => by simpa [hm] using h m⟩, fun ⟨hn, ho⟩ m => ?_⟩
  by_cases hm : m = n
  · subst hm
    simpa using hn
  · simpa [hm] using ho m hm

theorem State.faces_of_aside {n : Fin 64} {s t : State} (h : t.aside n = s.aside n) : t.faces = s.faces := by
  obtain ⟨hl, hn, ho⟩ := State.aside_eq_iff.1 h
  refine Prod.ext hl (funext fun m => ?_)
  by_cases hm : m = n
  · exact hm ▸ hn
  · exact congrArg Ring.face (ho m hm)

theorem State.face_of_faces {s t : State} (h : t.faces = s.faces) (m : Fin 64) : (t.rings[m]).face = (s.rings[m]).face :=
  congrFun (congrArg Prod.snd h) m

theorem State.config_of_faces {s t : State} (h : t.faces = s.faces) : t.link.config = s.link.config := congrArg Prod.fst h

theorem State.Keeps.config {m : Nat} {s t : State} (h : State.Keeps m s t) (hl : m.testBit StatePart.link.ctorIdx = false) :
    t.link.config = s.link.config :=
  have hlink : ({ t.link with pba := 0 } : Link) = { s.link with pba := 0 } := h.part .link hl
  (congrArg Link.config hlink :)

theorem State.Keeps.aside {m : Nat} {s t : State} (h : State.Keeps m s t) (n : Fin 64) (hl : m.testBit StatePart.link.ctorIdx = false)
    (hr : m.testBit StatePart.rings.ctorIdx = false) : t.aside n = s.aside n := by
  have hrings : t.rings = s.rings := h.part .rings hr
  unfold State.aside
  rw [h.config hl, hrings]

theorem State.Keeps.faces {m : Nat} {s t : State} (h : State.Keeps m s t) (hl : m.testBit StatePart.link.ctorIdx = false)
    (hr : m.testBit StatePart.rings.ctorIdx = false) : t.faces = s.faces := State.faces_of_aside (h.aside 0 hl hr)

@[simp] theorem State.setRing_aside (s : State) (n : Fin 64) {f : Ring → Ring} (h : ∀ x, (f x).face = x.face) :
    (s.setRing n f).aside n = s.aside n :=
  State.aside_eq_iff.2 ⟨rfl, by rw [State.setRing_get, h], fun _ hm => s.setRing_get_ne f hm⟩

@[simp] theorem State.setRing_faces (s : State) (n : Fin 64) {f : Ring → Ring} (h : ∀ x, (f x).face = x.face) :
    (s.setRing n f).faces = s.faces := State.faces_of_aside (s.setRing_aside n h)

@[simp] theorem State.setStream_aside (s : State) (n : Fin 64) (src : Nat) (f : Stream → Stream) :
    (s.setRing n fun g => g.setStream src f).aside n = s.aside n := s.setRing_aside n fun _ => rfl

@[simp] theorem State.ite_aside (c : Prop) [Decidable c] (n : Fin 64) (s t : State) :
    (if c then s else t).aside n = if c then s.aside n else t.aside n := apply_ite (State.aside n) c s t

@[simp] theorem State.sf_aside (s : State) (n : Fin 64) (f : Fld) (v : Nat) : (s.sf f v).aside n = s.aside n := rfl

@[simp] theorem State.sfs_faces (s : State) (l : List (Fld × Nat)) : (s.sfs l).faces = s.faces := by
  rw [State.sfs_eq]
  rfl

@[simp] theorem State.incSat_aside (s : State) (n : Fin 64) (f : Fld) (v : Nat) : (s.incSat f v).aside n = s.aside n := rfl

/-! ### A record takes its place -/

@[simp] theorem State.raise_aside (s : State) {k : Nat} (hk : k < 32) (n : Fin 64) : (s.raise k).aside n = s.aside n :=
  (State.raise_keeps (Nat.and_self _) (.refl _ s) (.inl hk)).aside n rfl rfl

@[simp] theorem State.pmeUpd_aside (s : State) (n : Fin 64) : s.pmeUpd.aside n = s.aside n := by
  unfold State.pmeUpd
  split <;> rfl

@[simp] theorem State.reserveUpd_aside (s : State) (n : Fin 64) : s.reserveUpd.aside n = s.aside n := by
  unfold State.reserveUpd
  simp

@[simp] theorem State.takePlace_aside (s : State) (n : Fin 64) : (s.takePlace n).aside n = s.aside n := s.setRing_aside n fun _ => rfl

@[simp] theorem State.writeRec_aside (s : State) (n : Fin 64) (seq : Nat) (r : Rec) : (s.writeRec n seq r).aside n = s.aside n :=
  State.setRing_aside _ n fun _ => rfl

@[simp] theorem State.pump_aside (n : Fin 64) (k : Nat) (s : State) : (State.pump n k s).aside n = s.aside n := by
  induction k generalizing s with
  | zero => rfl
  | succ k ih =>
    unfold State.pump
    extract_lets g
    cases g.q with
    | nil => rfl
    | cons i q => simp [ih]

@[simp] theorem State.pumpRing_aside (s : State) (n : Fin 64) : (s.pumpRing n).aside n = s.aside n := by
  unfold State.pumpRing
  simp

@[simp] theorem State.aggNote_aside (s : State) (n m : Fin 64) (seq : Nat) (r : Rec) : (s.aggNote m seq r).aside n = s.aside n :=
  (State.aggNote_keeps (Nat.and_self _) (.refl _ s)).aside n rfl rfl

@[simp] theorem State.placeLossless_aside (s : State) (n : Fin 64) (r : Rec) : (s.placeLossless n r).aside n = s.aside n := by
  unfold State.placeLossless
  extract_lets g mine seq1 seq2 s2 s3
  split_ifs <;> simp [s2, s3]

@[simp] theorem State.writeNow_aside (s : State) (n : Fin 64) (r : Rec) : (s.writeNow n r).aside n = s.aside n := by
  unfold State.writeNow
  simp

@[simp] theorem State.writeGaps_aside (n : Fin 64) (cls src : Nat) (all : Bool) (l : List Gap) (s : State) :
    (State.writeGaps n cls src all l s).aside n = s.aside n := by
  induction l generalizing s with
  | nil => simp [State.writeGaps]
  | cons g l ih => simp [State.writeGaps, ih]

@[simp] theorem State.pumpGaps_aside (s : State) (n : Fin 64) : (s.pumpGaps n).aside n = s.aside n :=
  State.foldl_same (State.aside n) (fun u t => by split <;> simp) _ s

@[simp] theorem State.placeLossy_aside (s : State) (n : Fin 64) (r : Rec) : (s.placeLossy n r).aside n = s.aside n := by
  unfold State.placeLossy
  extract_lets g gaps own
  split_ifs <;> simp

@[simp] theorem State.place_aside (s : State) (n : Fin 64) (r : Rec) : (s.place n r).aside n = s.aside n := by
  unfold State.place
  simp

@[simp] theorem State.releaseGo_aside (n : Fin 64) (k : Nat) (s : State) : (State.releaseGo n k s).aside n = s.aside n := by
  induction k generalizing s with
  | zero => rfl
  | succ k ih =>
    unfold State.releaseGo
    split
    · rfl
    · simp [ih]

@[simp] theorem State.offer_aside (s : State) (n : Fin 64) (r : Rec) : (s.offer n r).aside n = s.aside n := by
  unfold State.offer
  extract_lets s1 s2
  have hs1 : s1.aside n = s.aside n := by simp [s1]
  have hs2 : s2.aside n = s.aside n := by simp [s2, hs1]
  split <;> simp [hs2]

/-! ### A record is formed -/

theorem State.holdLog_aside (s : State) (n : Fin 64) (r : Rec) : (s.holdLog r).aside n = s.aside n := by
  unfold State.holdLog
  extract_lets o
  split_ifs
  · rfl
  · rw [State.reserveUpd_aside, State.raise_aside _ (by decide)]
    rfl
  · rw [State.reserveUpd_aside]
    rfl

theorem State.carrier_carries {s : State} {cls src lvl : Nat} {n : Fin 64} (h : s.carrier cls src lvl = some n) :
    (s.rings[n]).cls = cls := by
  unfold State.carrier at h
  have hc := List.find?_some h
  unfold Ring.carries at hc
  simp only [Bool.and_eq_true, decide_eq_true_eq] at hc
  exact hc.1.2

/-- A record that is formed is written into a ring of its class at most. -/
theorem State.emitL_aside (s : State) (lvl : Nat) (r : Rec) :
    ∃ m, (s.emitL lvl r).aside m = s.aside m ∧ ((s.rings[m]).cls = r.cls ∨ (s.emitL lvl r).rings = s.rings) := by
  have harch : ∀ u : State, u.archFlush.rings = u.rings ∧ u.archFlush.aside 0 = u.aside 0 := fun u =>
    have hk : State.Keeps _ u u.archFlush := State.archFlush_keeps (Nat.and_self _) (.refl _ u)
    ⟨hk.part .rings rfl, hk.aside 0 rfl rfl⟩
  have hhold : ∀ u : State, (u.holdLog (s.sliced (s.shadowed r))).rings = u.rings := fun u =>
    (State.holdLog_keeps (Nat.and_self _) (.refl _ u)).part .rings rfl
  have hupd : ∀ u : State, u.reserveUpd.rings = u.rings := fun u => (State.reserveUpd_keeps (Nat.and_self _) (.refl _ u)).part .rings rfl
  obtain ⟨hcls, -⟩ := s.sliced_shadowed_head r
  unfold State.emitL
  extract_lets r' nvm1 s1 nvm2 s2
  have hrings : s2.rings = s.rings := by unfold s2; split <;> rfl
  have haside : ∀ m, s2.aside m = s.aside m := fun m => by unfold s2; split <;> rfl
  by_cases hfed : (!s.isReady || s.starved r'.cls) = true
  · rw [if_pos hfed]
    exact ⟨0, rfl, .inr rfl⟩
  rw [if_neg hfed]
  by_cases hspi : s.spiOnly = true
  · rw [if_pos hspi]
    split
    · exact ⟨0, (harch _).2, .inr (harch _).1⟩
    · exact ⟨0, rfl, .inr rfl⟩
  rw [if_neg hspi]
  cases hcar : s2.carrier r'.cls r'.src lvl with
  | some m =>
    refine ⟨m, ?_, .inl ?_⟩
    · dsimp only
      rw [State.ite_aside, State.offer_aside, haside, ite_self]
    · rw [← hcls, ← State.carrier_carries hcar, hrings]
  | none =>
    dsimp only
    split_ifs
    · exact ⟨0, (State.holdLog_aside _ _ _).trans (haside 0), .inr ((hhold _).trans hrings)⟩
    · exact ⟨0, (State.reserveUpd_aside _ _).trans (haside 0), .inr ((hupd _).trans hrings)⟩
    · exact ⟨0, haside 0, .inr hrings⟩

@[simp] theorem State.emit_faces (s : State) (r : Rec) : (s.emit r).faces = s.faces := by
  obtain ⟨m, h, -⟩ := s.emitL_aside 0 r
  exact State.faces_of_aside h

/-- A record that is formed leaves the rings of other classes. -/
theorem State.emit_ring {s : State} {r : Rec} {n : Fin 64} (h : (s.rings[n]).cls ≠ r.cls) : (s.emit r).rings[n] = s.rings[n] := by
  obtain ⟨m, ha, hm | hr⟩ := s.emitL_aside 0 r
  · have hne : n ≠ m := fun e => h (e ▸ hm)
    exact (State.aside_eq_iff.1 ha).2.2 n hne
  · exact congrArg (fun v : Vector Ring 64 => v[n]) hr

/-! ### Completions, and records that become visible -/

theorem State.tryCpl_of_none {s : State} (h : s.cmd.cpl = none) : s.tryCpl = s := by
  unfold State.tryCpl
  rw [h]

theorem State.tryCpl_of_waiting {s : State} {c : Cpl} (h : s.cmd.cpl = some c) (hc : s.cplReady c = false) : s.tryCpl = s := by
  unfold State.tryCpl
  simp [h, hc]

/-- A completion that waited is taken. -/
def State.cplTaken (s : State) : State :=
  if s.gb AGG_STAT_HELD then State.sf { s with cmd := { s.cmd with cpl := none } } AGG_STAT_HELD 0
  else { s with cmd := { s.cmd with cpl := none } }

theorem State.cplTaken_faces (s : State) : s.cplTaken.faces = s.faces := by
  unfold State.cplTaken
  split <;> rfl

theorem State.tryCpl_of_ring {s : State} {c : Cpl} (h : s.cmd.cpl = some c) (hc : s.cplReady c = true) (hm : c.mbox = none) :
    s.tryCpl = s.cplTaken.emit c.r := by
  unfold State.tryCpl
  simp only [h, hc, hm]
  rfl

theorem State.tryCpl_of_mailbox {s : State} {c : Cpl} {status detail : Nat} {results : List Byte} (h : s.cmd.cpl = some c)
    (hc : s.cplReady c = true) (hm : c.mbox = some (status, detail, results)) :
    s.tryCpl = ((s.cplTaken.mboxData results).sfs [(MBOX_STATUS_STATUS, status), (MBOX_DETAIL_DETAIL, detail), (MBOX_STATUS_BUSY, 0),
      (MBOX_STATUS_DONE, 1)]).raise 0 := by
  unfold State.tryCpl
  simp only [h, hc, hm]
  rfl

@[simp] theorem State.tryCpl_faces (s : State) : s.tryCpl.faces = s.faces := by
  cases h : s.cmd.cpl with
  | none => rw [State.tryCpl_of_none h]
  | some c =>
    cases hc : s.cplReady c with
    | false => rw [State.tryCpl_of_waiting h hc]
    | true =>
      cases hm : c.mbox with
      | none => rw [State.tryCpl_of_ring h hc hm, State.emit_faces, State.cplTaken_faces]
      | some m =>
        have hdata : (s.cplTaken.mboxData m.2.2).faces = s.cplTaken.faces := (State.mboxData_keeps (Nat.and_self _) (.refl _ _)).faces rfl rfl
        rw [State.tryCpl_of_mailbox h hc hm, State.faces_of_aside (State.raise_aside _ (by decide) 0), State.sfs_faces, hdata, State.cplTaken_faces]

/-- A seal that becomes due is noted in its ring: no reading that leaves the seals out sees it. -/
theorem State.makeDue_readRings {β : Type} (π : Ring → β) (h : ∀ x a b, π { x with sealed := a, sealOld := b } = π x) (s : State)
    (n : Fin 64) (cause : Nat) : (s.makeDue n cause).readRings π = s.readRings π := by
  have hsign : ∀ u : State, u.startSign.readRings π = u.readRings π := by
    intro u
    unfold State.startSign
    split
    · split_ifs
      · rfl
      · exact State.setRing_readRings_same π _ _ fun x => h x _ _
      · rfl
    · rfl
  unfold State.makeDue
  rw [apply_ite (State.readRings π), hsign]
  exact ite_self _

@[simp] theorem State.makeDue_faces (s : State) (n : Fin 64) (cause : Nat) : (s.makeDue n cause).faces = s.faces :=
  Prod.ext ((State.makeDue_keeps (Nat.and_self _) (.refl _ s)).config rfl) (s.makeDue_readRings Ring.face (fun _ _ _ => rfl) n cause)

/-- The seals that become due when records of ring n become visible: by count, of a session's close, and those that a completion waits for. -/
def State.sealsDue (s : State) (n : Fin 64) : State :=
  let g := s.rings[n]
  let s1 := if g.unsealed && decide (s.gf SEC_SEAL_CFG_COUNT ≤ g.unsealedCount) then s.makeDue n 2 else s
  let s2 :=
    match s1.sec.closeSeq with
    | some q => if g.cls == clsLOG && g.visible q then ({ s1 with sec := { s1.sec with closeSeq := none } }).makeDue n 3 else s1
    | none => s1
  match s2.cmd.cpl with
  | some c => c.seals.foldl (fun (u : State) (e : Nat × Nat) => if h : e.1 < 64 then u.makeDue ⟨e.1, h⟩ 3 else u) s2
  | none => s2

theorem State.afterVisible_eq (s : State) (n : Fin 64) : s.afterVisible n = (s.sealsDue n).tryCpl := rfl

/-- A reading that sees neither a seal that becomes due nor the record that a session's close waits for. -/
theorem State.sealsDue_same {β : Type} (π : State → β) (hdue : ∀ u n cause, π (State.makeDue u n cause) = π u)
    (hclose : ∀ u : State, π { u with sec := { u.sec with closeSeq := none } } = π u) (s : State) (n : Fin 64) :
    π (s.sealsDue n) = π s := by
  unfold State.sealsDue
  extract_lets g s1 sec s2
  have hs1 : π s1 = π s := by
    unfold s1
    split
    · exact hdue _ _ _
    · rfl
  have hs2 : π s2 = π s := by
    rw [← hs1]
    unfold s2
    split
    · split
      · exact (hdue _ _ _).trans (hclose s1)
      · rfl
    · rfl
  rw [← hs2]
  split
  · refine State.foldl_same π (fun u e => ?_) _ s2
    split
    · exact hdue _ _ _
    · rfl
  · rfl

@[simp] theorem State.afterVisible_faces (s : State) (n : Fin 64) : (s.afterVisible n).faces = s.faces := by
  rw [State.afterVisible_eq, State.tryCpl_faces]
  exact State.sealsDue_same State.faces State.makeDue_faces (fun _ => rfl) s n

/-- With no completion that waits, records that become visible change no command, and of the rings nothing but their seals. -/
theorem State.afterVisible_of_none {s : State} (h : s.cmd.cpl = none) (n : Fin 64) :
    (s.afterVisible n).cmd = s.cmd ∧ ∀ m : Fin 64, ((s.afterVisible n).rings[m]).dev = (s.rings[m]).dev := by
  have hcmd : (s.sealsDue n).cmd = s.cmd :=
    State.sealsDue_same State.cmd (fun u _ _ => (State.makeDue_keeps (Nat.and_self _) (.refl _ u)).part .cmd rfl) (fun _ => rfl) s n
  have hdev : (s.sealsDue n).readRings Ring.dev = s.readRings Ring.dev :=
    State.sealsDue_same (State.readRings Ring.dev) (State.makeDue_readRings Ring.dev fun _ _ _ => rfl) (fun _ => rfl) s n
  rw [State.afterVisible_eq, State.tryCpl_of_none (hcmd ▸ h)]
  exact ⟨hcmd, congrFun hdev⟩

end Sys2Proof.Machine
end

section
/-! SUPPORT. The link and the interrupt vectors (R270 to R273, R280): what training, the loss of the link, its service and L1 make of LINK_STAT, and
the messages that go when a vector opens. -/

namespace Sys2Proof.Machine

/-! ### Messages to the host -/

theorem State.issue_rings (s : State) (w : DmaWr) : (s.issue w).rings = s.rings := by
  unfold State.issue
  split <;> rfl

theorem State.issue_link (s : State) (w : DmaWr) : (s.issue w).link = s.link := by
  unfold State.issue
  split <;> rfl

theorem State.mem_out_issue {s : State} {w : DmaWr} (h : s.mayDma = true) : w ∈ (s.issue w).out := by
  simp [State.issue, h]

theorem State.vecOpen_mayDma {s : State} {v : Fin 32} (h : s.vecOpen v = true) : s.link.msixEn = true ∧ s.mayDma = true := by
  simp only [State.vecOpen, Bool.and_eq_true] at h
  exact ⟨h.1.1.1, h.2⟩

/-- An open vector's message goes. -/
theorem State.sendVec_of_open {s : State} {v : Fin 32} (h : s.vecOpen v = true) :
    s.sendVec v = { s with out := s.out ++ [.msix v s.link.msix[v].addr s.link.msix[v].data] } := by
  obtain ⟨hen, hdma⟩ := State.vecOpen_mayDma h
  simp [State.sendVec, State.issue, h, hen, hdma]

/-! ### The vectors that wait (R280) -/

/-- What the end of a mask does for one vector. -/
def State.msixStep (s : State) (k : Fin 32) : State :=
  if s.link.pba.testBit k && s.vecOpen k then State.sendVec { s with link := { s.link with pba := s.link.pba ^^^ 2 ^ k.val } } k else s

theorem State.msixFlush_eq (s : State) : s.msixFlush = (fins 32).foldl State.msixStep s := rfl

theorem State.msixStep_of_open {s : State} {k : Fin 32} (hb : s.link.pba.testBit k = true) (ho : s.vecOpen k = true) :
    s.msixStep k = { s with link := { s.link with pba := s.link.pba ^^^ 2 ^ k.val }
                            out := s.out ++ [.msix k s.link.msix[k].addr s.link.msix[k].data] } := by
  unfold State.msixStep
  rw [if_pos (by rw [hb, ho]; rfl)]
  exact State.sendVec_of_open ho

theorem State.msixStep_of_closed {s : State} {k : Fin 32} (h : s.vecOpen k = false) : s.msixStep k = s := by
  unfold State.msixStep
  rw [if_neg (by simp [h])]

theorem State.msixStep_of_clear {s : State} {k : Fin 32} (h : s.link.pba.testBit k = false) : s.msixStep k = s := by
  unfold State.msixStep
  rw [if_neg (by simp [h])]

/-- With every vector closed nothing goes. -/
theorem State.msixFlush_of_closed {s : State} (h : ∀ k, s.vecOpen k = false) : s.msixFlush = s :=
  List.foldl_fixed' (fun k => State.msixStep_of_closed (h k)) _

/-- A step for one vector: it stays as open as it was, its message is the same, and another vector waits as before. -/
theorem State.msixStep_rest (s : State) (k v : Fin 32) : (s.msixStep k).vecOpen v = s.vecOpen v ∧ (s.msixStep k).link.msix = s.link.msix ∧
    s.out <+: (s.msixStep k).out ∧ (s.link.pba.testBit v = false ∨ k ≠ v → (s.msixStep k).link.pba.testBit v = s.link.pba.testBit v) := by
  cases ho : s.vecOpen k with
  | false =>
    rw [State.msixStep_of_closed ho]
    exact ⟨rfl, rfl, List.prefix_refl _, fun _ => rfl⟩
  | true =>
    cases hb : s.link.pba.testBit k with
    | false =>
      rw [State.msixStep_of_clear hb]
      exact ⟨rfl, rfl, List.prefix_refl _, fun _ => rfl⟩
    | true =>
      rw [State.msixStep_of_open hb ho]
      refine ⟨rfl, rfl, List.prefix_append _ _, fun h => ?_⟩
      have hne : k.val ≠ v.val := fun e => h.elim (fun h0 => by rw [← e, hb] at h0; cases h0) fun h1 => h1 (Fin.ext e)
      show (s.link.pba ^^^ 2 ^ k.val).testBit v = _
      rw [Nat.testBit_xor, Nat.testBit_two_pow_of_ne hne, Bool.xor_false]

/-- The message of vector v, as state s would send it, has gone, and the vector waits no more. -/
def State.vecSent (s : State) (v : Fin 32) (u : State) : Prop :=
  u.link.pba.testBit v = false ∧ DmaWr.msix v s.link.msix[v].addr s.link.msix[v].data ∈ u.out

theorem State.vecSent_msixStep {s u : State} {v : Fin 32} (h : s.vecSent v u) (k : Fin 32) : s.vecSent v (u.msixStep k) := by
  obtain ⟨-, -, hout, hpba⟩ := u.msixStep_rest k v
  exact ⟨(hpba (.inl h.1)).trans h.1, hout.subset h.2⟩

theorem State.vecSent_of_open {s u : State} {v : Fin 32} (hm : u.link.msix = s.link.msix) (hb : u.link.pba.testBit v = true)
    (ho : u.vecOpen v = true) : s.vecSent v (u.msixStep v) := by
  rw [State.msixStep_of_open hb ho, State.vecSent, ← hm]
  exact ⟨testBit_xor_pow hb, List.mem_append_right _ (List.mem_singleton_self _)⟩

/-- A vector that waits and is open: its message goes and it waits no more. -/
theorem State.msixFlush_sends {s : State} {v : Fin 32} (hb : s.link.pba.testBit v = true) (ho : s.vecOpen v = true) :
    s.vecSent v s.msixFlush := by
  rw [State.msixFlush_eq]
  refine State.foldl_reaches (fun u => u.vecOpen v = true ∧ u.link.msix = s.link.msix ∧ (u.link.pba.testBit v = true ∨ s.vecSent v u))
    (s.vecSent v) (List.mem_finRange v) (fun u k ⟨hu, hm, hw⟩ => ?_) (fun u k hu => State.vecSent_msixStep hu k)
    (fun u ⟨hu, hm, hw⟩ => ?_) ⟨ho, rfl, .inl hb⟩
  · obtain ⟨hopen, hmsix, -, hpba⟩ := u.msixStep_rest k v
    refine ⟨hopen.trans hu, hmsix.trans hm, ?_⟩
    rcases hw with hw | hw
    · by_cases hk : k = v
      · subst hk
        exact .inr (State.vecSent_of_open hm hw hu)
      · exact .inl ((hpba (.inr hk)).trans hw)
    · exact .inr (State.vecSent_msixStep hw k)
  · rcases hw with hw | hw
    · exact State.vecSent_of_open hm hw hu
    · exact State.vecSent_msixStep hw v

theorem State.msixFlush_config (s : State) : s.msixFlush.link.config = s.link.config :=
  (State.msixFlush_keeps (Nat.and_self _) (.refl _ s)).config rfl

/-! ### Service resumes (R272) -/

theorem State.publish_config (s : State) (n : Fin 64) : (s.publish n).link.config = s.link.config := by
  unfold State.publish
  rw [State.issue_link]
  rfl

theorem State.haltWb_config (s : State) (n : Fin 64) : (s.haltWb n).link.config = s.link.config := by
  unfold State.haltWb
  split
  · rw [State.config_of_faces (State.afterVisible_faces _ _), State.publish_config]
  · rfl

/-- What waited for the host's service goes on; the link's configuration stays. -/
theorem State.resume_config (s : State) : s.resume.link.config = s.link.config := by
  unfold State.resume
  rw [State.config_of_faces (State.tryCpl_faces _), State.msixFlush_config]
  refine State.foldl_same (fun u => u.link.config) (fun u n => ?_) _ s
  split
  · exact u.haltWb_config n
  · exact State.config_of_faces (State.faces_of_aside ((State.pumpGaps_aside _ _).trans (u.pumpRing_aside n)))

/-! ### Link state -/

theorem b2n_mod_two (b : Bool) : decide (b2n b % 2 = 1) = b := by cases b <;> rfl

theorem State.gb_sb (s : State) {f : Fld} (hw : f.w = 1) (b : Bool) : (s.sb f b).gb f = b := by
  unfold State.sb
  rw [State.gb_sf, hw]
  exact b2n_mod_two b

theorem State.sendVec_regs (s : State) (v : Fin 32) : (s.sendVec v).regs = s.regs := by
  unfold State.sendVec State.issue
  split_ifs <;> rfl

/-- A cause sets its bit of INT_STAT and no other register field. -/
theorem State.raise_regs (s : State) (k : Nat) : (s.raise k).regs = (s.sf (intBit k) 1).regs := by
  unfold State.raise State.intEdge
  split
  · exact State.sendVec_regs _ 0
  · rfl

theorem State.raise_gb (s : State) (k : Nat) : (s.raise k).gb (intBit k) = true := by
  rw [State.gb_of_regs (s.raise_regs k), State.gb_sf]
  rfl

theorem State.raise_gf_ne (s : State) {k : Nat} {f : Fld} (h : (intBit k).key ≠ f.key) : (s.raise k).gf f = s.gf f := by
  rw [State.gf_of_regs (s.raise_regs k), State.gf_sf_ne _ _ h]

theorem State.raise_gb_ne (s : State) {k : Nat} {f : Fld} (h : (intBit k).key ≠ f.key) : (s.raise k).gb f = s.gb f := by
  rw [State.gb_of_regs (s.raise_regs k), State.gb_sf_ne _ _ h]

/-- LINK_STAT of a link that has trained. -/
def State.linkUp (s : State) (x2 gen2 : Bool) : State :=
  s.sfs [(LINK_STAT_WIDTH, if x2 && !s.mbit FENCE_MISC_LANE 1 then 2 else 1), (LINK_STAT_SPEED, if gen2 then 2 else 1), (LINK_STAT_UP, 1)]

theorem State.linkUp_fields (s : State) (x2 gen2 : Bool) : (s.linkUp x2 gen2).gb LINK_STAT_UP = true ∧
    (s.linkUp x2 gen2).gf LINK_STAT_WIDTH = (if x2 = true ∧ s.mbit FENCE_MISC_LANE 1 = false then 2 else 1) ∧
    (s.linkUp x2 gen2).gf LINK_STAT_SPEED = (if gen2 then 2 else 1) := by
  unfold State.linkUp
  simp only [State.sfs_cons, State.sfs_nil]
  refine ⟨State.gb_sf _ _ _, ?_, ?_⟩
  · rw [State.gf_sf_ne _ _ (by decide), State.gf_sf_ne _ _ (by decide), State.gf_sf]
    cases x2 <;> cases s.mbit FENCE_MISC_LANE 1 <;> decide
  · rw [State.gf_sf_ne _ _ (by decide), State.gf_sf]
    cases gen2 <;> decide

/-- LINK_STAT of a link that went down. -/
def State.linkOff (s : State) : State :=
  ({ s with link := { s.link with dead := true } }).sfs
    [(LINK_STAT_WIDTH, 0), (LINK_STAT_SPEED, 0), (LINK_STAT_UP, 0), (LINK_STAT_L1, 0), (LINK_STAT_LOST, 1)]

theorem State.linkLost_eq (s : State) : s.linkLost = s.linkOff.raise 10 := rfl

theorem State.linkOff_fields (s : State) : s.linkOff.gb LINK_STAT_UP = false ∧ s.linkOff.gf LINK_STAT_WIDTH = 0 ∧
    s.linkOff.gf LINK_STAT_SPEED = 0 ∧ s.linkOff.gb LINK_STAT_L1 = false ∧ s.linkOff.gb LINK_STAT_LOST = true := by
  unfold State.linkOff State.gb
  rw [State.gf_sfs_get _ _ 0 LINK_STAT_WIDTH 0 rfl rfl, State.gf_sfs_get _ _ 1 LINK_STAT_SPEED 0 rfl rfl,
    State.gf_sfs_get _ _ 2 LINK_STAT_UP 0 rfl rfl, State.gf_sfs_get _ _ 3 LINK_STAT_L1 0 rfl rfl, State.gf_sfs_get _ _ 4 LINK_STAT_LOST 1 rfl rfl]
  decide

/-- Without an UP link the host is not served. -/
theorem State.served_of_down {s : State} (h : s.gb LINK_STAT_UP = false) : s.served = false := by
  simp [State.served, State.mayDma, h]

/-- The state in which a host's write of Bus Master Enable, the D-state and PME_En takes effect. -/
def State.serviceSet (s : State) (bme d0 pmeEn clrPme : Bool) : State :=
  State.setServed { s with link := { s.link with bme := bme, d0 := d0, pmeEn := pmeEn, pmeStatus := s.link.pmeStatus && !clrPme } }

/-- What follows a change of the service: what waited goes on, or a wake-up is noted. -/
def State.serviceFollows (s : State) : State := if s.mayDma then s.resume else s.pmeUpd

theorem State.serviceFollows_config (s : State) : s.serviceFollows.link.config = s.link.config := by
  unfold State.serviceFollows
  split
  · exact s.resume_config
  · exact State.config_of_faces (State.faces_of_aside (s.pmeUpd_aside 0))

theorem State.serviceFollows_served (s : State) : s.serviceFollows.gb LINK_STAT_SERVED = s.gb LINK_STAT_SERVED := by
  unfold State.serviceFollows
  split
  · exact (State.resume_keeps (Nat.and_self _) (.refl _ s)).gb _ (by decide) rfl
  · exact (State.pmeUpd_keeps (Nat.and_self _) (.refl _ s)).gb _ (by decide) rfl

theorem State.serviceFollows_of_stopped {s : State} (h : (s.link.bme && s.link.d0) = false) :
    s.serviceFollows.out = s.out ∧ s.serviceFollows.rings = s.rings := by
  have hdma : s.mayDma = false := by rw [State.mayDma, Bool.and_assoc, h, Bool.and_false]
  have hk : State.Keeps _ s s.pmeUpd := State.pmeUpd_keeps (Nat.and_self _) (.refl _ s)
  unfold State.serviceFollows
  rw [hdma]
  exact ⟨hk.part .out rfl, hk.part .rings rfl⟩

theorem execLinkServiceChange_of {s : State} (hs : s.serving = true) (hup : s.gb LINK_STAT_UP = true) (bme d0 pmeEn clrPme : Bool) :
    exec (.linkServiceChange bme d0 pmeEn clrPme) s = .next (s.serviceSet bme d0 pmeEn clrPme).serviceFollows :=
  congrArg Host.Outcome.next (if_neg (by rw [hs, hup]; decide))

/-- The host's write of MSI-X Enable, Function Mask and one entry of the table. -/
def State.msixSet (s : State) (en fmask : Bool) (v : Fin 32) (e : MsixEntry) : State :=
  { s with link := { s.link with msixEn := en, msixMask := fmask, msix := s.link.msix.set v e } }

theorem execMsiXMaskChange_of {s : State} (hs : s.serving = true) (hup : s.gb LINK_STAT_UP = true) (en fmask : Bool) (v : Fin 32)
    (addr : Nat) (data : Word) (masked : Bool) : exec (.msiXMaskChange en fmask v addr data masked) s =
      .next (s.msixSet en fmask v { addr := addr, data := data.toNat, masked := masked }).msixFlush :=
  congrArg Host.Outcome.next (if_pos (by rw [hs, hup]; rfl))

theorem State.msixSet_entry (s : State) (en fmask : Bool) (v : Fin 32) (e : MsixEntry) : (s.msixSet en fmask v e).link.msix[v] = e := by
  simp [State.msixSet]

/-- The host's settings stay when messages go. -/
theorem State.msixSet_flushed (s : State) (en fmask : Bool) (v : Fin 32) (e : MsixEntry) :
    (s.msixSet en fmask v e).msixFlush.link.msixEn = en ∧ (s.msixSet en fmask v e).msixFlush.link.msixMask = fmask ∧
      (s.msixSet en fmask v e).msixFlush.link.msix[v] = e := by
  have hlink := (s.msixSet en fmask v e).msixFlush_config
  have hmsix : (s.msixSet en fmask v e).msixFlush.link.msix = (s.msixSet en fmask v e).link.msix := (congrArg Link.msix hlink :)
  exact ⟨(congrArg Link.msixEn hlink :), (congrArg Link.msixMask hlink :), by rw [hmsix, s.msixSet_entry]⟩

/-- A masked function sends nothing. -/
theorem State.msixSet_masked (s : State) (en : Bool) (v : Fin 32) (e : MsixEntry) : (s.msixSet en true v e).msixFlush = s.msixSet en true v e :=
  State.msixFlush_of_closed fun k => by simp [State.vecOpen, State.msixSet]

/-- A vector that waits and that the host opens sends its message. -/
theorem State.msixSet_sends {s : State} {v : Fin 32} {e : MsixEntry} (he : e.masked = false) (hdma : s.mayDma = true)
    (hw : s.link.pba.testBit v = true) : (s.msixSet true false v e).msixFlush.link.pba.testBit v = false ∧
      DmaWr.msix v e.addr e.data ∈ (s.msixSet true false v e).msixFlush.out := by
  have hopen : (s.msixSet true false v e).vecOpen v = true := by
    have hmay : (s.msixSet true false v e).mayDma = true := hdma
    rw [State.vecOpen, s.msixSet_entry, he, hmay]
    rfl
  have hsent := State.msixFlush_sends (s := s.msixSet true false v e) hw hopen
  rwa [State.vecSent, s.msixSet_entry] at hsent

/-- Settles O41, each clause by what its command makes of LINK_STAT; a mask that ends by the fold over the vectors that wait. -/
theorem linkAndVectors : Obligations.LinkAndVectors := by
  refine ⟨fun s x2 gen2 hlane hspi hreset hlost => ?_, fun s hup => ?_, fun s bme d0 pmeEn clrPme hs hup => ?_, fun s enter hup => ?_,
    fun s en fmask v addr data masked hs hup => ?_⟩
  · obtain ⟨hUp, hWidth, hSpeed⟩ := s.linkUp_fields x2 gen2
    have hlink : (s.linkUp x2 gen2).link = s.link := by rw [State.linkUp, State.sfs_eq]
    refine ⟨(s.linkUp x2 gen2).setServed, congrArg Host.Outcome.next (if_neg (by simp [hlane, hspi, hreset, hlost])), ?_, ?_, ?_, ?_⟩
    · exact (State.gb_sf_ne _ _ (by decide)).trans hUp
    · exact (State.gf_sf_ne _ _ (by decide)).trans hWidth
    · exact (State.gf_sf_ne _ _ (by decide)).trans hSpeed
    · exact (State.gb_sb _ rfl _).trans (by rw [hlink])
  · obtain ⟨hUp, hWidth, hSpeed, hL1, hLost⟩ := s.linkOff_fields
    have hdown : (s.linkOff.raise 10).gb LINK_STAT_UP = false := (State.raise_gb_ne _ (by decide)).trans hUp
    exact ⟨s.linkOff.raise 10, congrArg Host.Outcome.next ((if_pos hup).trans s.linkLost_eq), hdown,
      (State.raise_gf_ne _ (by decide)).trans hWidth, (State.raise_gf_ne _ (by decide)).trans hSpeed,
      (State.raise_gb_ne _ (by decide)).trans hL1, (State.raise_gb_ne _ (by decide)).trans hLost, State.raise_gb _ 10,
      State.served_of_down hdown⟩
  · have hlink := (s.serviceSet bme d0 pmeEn clrPme).serviceFollows_config
    exact ⟨_, execLinkServiceChange_of hs hup bme d0 pmeEn clrPme, (congrArg Link.bme hlink :), (congrArg Link.d0 hlink :),
      (congrArg Link.pmeEn hlink :), (State.serviceFollows_served _).trans (State.gb_sb _ rfl _),
      State.serviceFollows_of_stopped (s := s.serviceSet bme d0 pmeEn clrPme)⟩
  · exact congrArg Host.Outcome.next (if_pos hup)
  · obtain ⟨hen, hmask, hentry⟩ := s.msixSet_flushed en fmask v { addr := addr, data := data.toNat, masked := masked }
    refine ⟨_, execMsiXMaskChange_of hs hup en fmask v addr data masked, hen, hmask, hentry, fun hf => ?_, fun hen hf hm hdma hw => ?_⟩
    · rw [hf, State.msixSet_masked]
      exact ⟨rfl, rfl⟩
    · rw [hen, hf]
      exact State.msixSet_sends hm hdma hw

end Sys2Proof.Machine
end

section
/-! SUPPORT. Rings (R281, R283, R284, R286 to R289): what a write of RING_ENABLE asks for, how the entry of the only ring that waits is decided,
what a ring that goes on shows, and what doorbells, write-backs and a ring's timer make of it. -/

namespace Sys2Proof.Machine

/-! ### RING_ENABLE (R284) -/

/-- The ring of bit i of RING_ENABLE_LO or _HI. -/
def enableRing (hi : Bool) (i : Fin 32) : Fin 64 := if hi then ⟨32 + i.val, by omega⟩ else ⟨i.val, by omega⟩

/-- A ring that is asked to go on. -/
def Ring.asked (g : Ring) : Ring :=
  if (decide (g.st = .off) || decide (g.st = .refused)) && !g.waiting then
    { g with waiting := true, entry := none, retried := false, st := .off, err := 0 }
  else g

/-- One bit of a write of RING_ENABLE. -/
def State.enableBit (hi : Bool) (v : Word) (s : State) (i : Fin 32) : State :=
  if v.toNat.testBit i.val then
    let n := enableRing hi i
    let g := s.rings[n]
    if (decide (g.st = .off) || decide (g.st = .refused)) && !g.waiting then
      s.setRing n (fun g => { g with waiting := true, entry := none, retried := false, st := .off, err := 0 })
    else s
  else s

theorem State.wrRingEnable_eq (s : State) (hi : Bool) (v : Word) : s.wrRingEnable hi v = (fins 32).foldl (State.enableBit hi v) s := rfl

theorem State.enableBit_self (s : State) (hi : Bool) (v : Word) (i : Fin 32) : (s.enableBit hi v i).rings[enableRing hi i] =
    if v.toNat.testBit i.val then (s.rings[enableRing hi i]).asked else s.rings[enableRing hi i] := by
  unfold State.enableBit Ring.asked
  extract_lets n g
  split_ifs
  · exact s.setRing_get n _
  · rfl
  · rfl

theorem State.enableBit_other (s : State) (hi : Bool) (v : Word) {i : Fin 32} {n : Fin 64} (h : n ≠ enableRing hi i) :
    (s.enableBit hi v i).rings[n] = s.rings[n] := by
  unfold State.enableBit
  extract_lets m g
  split_ifs
  · exact s.setRing_get_ne _ h
  · rfl
  · rfl

theorem enableRing_inj {hi : Bool} {i k : Fin 32} (h : enableRing hi i = enableRing hi k) : i = k := by
  have hv := congrArg Fin.val h
  cases hi <;> simp [enableRing] at hv <;> exact Fin.ext (by omega)

theorem exists_enableRing {hi : Bool} {n : Fin 64} (h : hi = decide (32 ≤ n.val)) : ∃ i : Fin 32, enableRing hi i = n ∧ i.val = n.val % 32 := by
  refine ⟨⟨n.val % 32, Nat.mod_lt _ (by decide)⟩, Fin.ext ?_, rfl⟩
  subst h
  by_cases h32 : 32 ≤ n.val
  · simp only [enableRing, h32, decide_true, if_true]
    omega
  · simp only [enableRing, h32, decide_false, Bool.false_eq_true, if_false]
    omega

/-- A write of RING_ENABLE asks the rings of its bits, and no other. -/
theorem State.wrRingEnable_ring (s : State) {hi : Bool} (v : Word) {n : Fin 64} (h : hi = decide (32 ≤ n.val)) :
    (s.wrRingEnable hi v).rings[n] = if v.toNat.testBit (n.val % 32) then (s.rings[n]).asked else s.rings[n] := by
  obtain ⟨i, rfl, hi'⟩ := exists_enableRing h
  rw [State.wrRingEnable_eq, ← hi']
  exact State.foldl_fins (fun u => u.rings[enableRing hi i]) (fun g => if v.toNat.testBit i.val then g.asked else g) i
    (fun u => u.enableBit_self hi v i) (fun u k hk => u.enableBit_other hi v fun e => hk (enableRing_inj e).symm) s

theorem Ring.asked_of_off {g : Ring} (h : g.st = .off) : g.asked.waiting = true ∧ g.asked.st = .off := by
  unfold Ring.asked
  cases hw : g.waiting <;> simp [h, hw]

theorem Ring.asked_of_on {g : Ring} (h : g.st = .on) : g.asked = g := by
  simp [Ring.asked, h]

/-! ### The entry of the only ring that waits (R284) -/

theorem filter_fins_eq {N : Nat} (n : Fin N) : (fins N).filter (fun m => decide (m = n)) = [n] := by
  rw [List.filter_eq, fins, List.count_eq_one_of_mem (List.nodup_finRange N) (List.mem_finRange n), List.replicate_one]

/-- When ring n alone waits and its entry has been read, it is decided. -/
theorem State.ringsDecide_of_one {s : State} {n : Fin 64} (hw : ∀ m : Fin 64, (s.rings[m]).waiting = decide (m = n))
    (he : (s.rings[n]).entry.isSome = true) : s.ringsDecide = s.ringDecide n := by
  have hwaits : (fins 64).filter (fun (m : Fin 64) => (s.rings[m]).waiting) = [n] := by simp only [hw, filter_fins_eq]
  unfold State.ringsDecide
  simp only [hwaits, List.all_cons, List.all_nil, he, Bool.and_self, if_true]
  rfl

theorem State.ringDecide_of_data {s : State} {n : Fin 64} {b : List Byte} (he : (s.rings[n]).entry = some (.data b))
    (h : s.entryErr (.data b) = 0) : s.ringDecide n = s.ringOn n (entryRing b) := by
  unfold State.ringDecide
  rw [he]
  simp only [h]

theorem State.ringDecide_of_bad {s : State} {n : Fin 64} {d : DmaRead} (he : (s.rings[n]).entry = some d) (h : s.entryErr d ≠ 0) :
    s.ringDecide n = s.setRing n (fun g => { g with st := .refused, waiting := false, entry := none, err := s.entryErr d }) := by
  unfold State.ringDecide
  rw [he]
  dsimp only
  split
  · contradiction
  · rfl

/-- What decides an entry are the state, the class and the sources of every ring, and the part. -/
theorem State.entryErr_setRing (s : State) (n : Fin 64) {f : Ring → Ring} (hst : ∀ x, (f x).st = x.st) (hcls : ∀ x, (f x).cls = x.cls)
    (hparam : ∀ x, (f x).param = x.param) (d : DmaRead) : (s.setRing n f).entryErr d = s.entryErr d := by
  have h1 : ∀ m : Fin 64, ((s.setRing n f).rings[m]).st = (s.rings[m]).st := congrFun (s.setRing_readRings_same Ring.st n hst)
  have h2 : ∀ m : Fin 64, ((s.setRing n f).rings[m]).cls = (s.rings[m]).cls := congrFun (s.setRing_readRings_same Ring.cls n hcls)
  have h3 : ∀ m : Fin 64, ((s.setRing n f).rings[m]).param = (s.rings[m]).param := congrFun (s.setRing_readRings_same Ring.param n hparam)
  unfold State.entryErr State.ringDup State.paramFused State.grpFused
  simp only [h1, h2, h3, State.setRing_chip]

/-! ### A ring goes on (R284, R286, R333) -/

/-- Ring n with the settings of its entry and indices of its own. -/
def State.ringStarts (s : State) (n : Fin 64) (e : Ring) : State :=
  s.setRing n (fun g =>
    { g with
      st := .on, waiting := false, entry := none, err := 0, cls := e.cls, base := e.base, wb := e.wb, log2 := e.log2
      vec := e.vec, irq := e.irq, param := e.param, mod := e.mod, tmo := e.tmo, dev := 0, host := 0, pub := 0, sig := 0
      oldest := none, onT := s.now, openSeq := g.nextSeq, sealed := none, sealOld := none, streams := [], unvis := [], bilU := []
      chain := s.chainInit n g.nextSeq, visChain := s.chainInit n g.nextSeq })

@[simp] theorem State.issue_aside (s : State) (n : Fin 64) (w : DmaWr) : (s.issue w).aside n = s.aside n := by
  unfold State.issue
  split <;> rfl

@[simp] theorem State.statRingOn_aside (s : State) (n : Fin 64) (lvl seq : Nat) : (s.statRingOn lvl seq).aside n = s.aside n :=
  (State.statRingOn_keeps (Nat.and_self _) (.refl _ s)).aside n rfl rfl

@[simp] theorem State.offerItem_aside (s : State) (n : Fin 64) (i : QItem) : (s.offerItem n i).aside n = s.aside n := by
  cases i with
  | placed q r => exact s.offer_aside n r
  | summary q f l b => simp [State.offerItem]

/-- A ring that goes on shows what its entry says, whatever is written into it at once. -/
theorem State.ringOn_aside (s : State) (n : Fin 64) (e : Ring) : (s.ringOn n e).aside n = (s.ringStarts n e).aside n := by
  unfold State.ringOn
  extract_lets s1 s2 s3 s4
  have h2 : s2.aside n = s1.aside n := s1.issue_aside n _
  have h3 : s3.aside n = s1.aside n := (s2.place_aside n _).trans h2
  have h4 : s4.aside n = s1.aside n := by
    unfold s4
    split
    · exact (s3.statRingOn_aside n _ _).trans h3
    · exact h3
  split_ifs
  · exact h2
  · exact (State.foldl_same (State.aside n) (fun u i => u.offerItem_aside n i) _ _).trans h4
  · exact (State.foldl_same (State.aside n) (fun u r => u.offer_aside n r) _ _).trans h4
  · exact (State.foldl_same (State.aside n) (fun u r => u.place_aside n r) _ _).trans h4
  · exact h4

/-! ### Write-back (R289) -/

/-- What a write-back makes of a ring: it shows the device's index and the last record written. -/
theorem Ring.shown_eq (g : Ring) (now : DevTime) : ∃ l so,
    g.shown now = { g with streams := l, pub := g.dev, lastVis := if g.cls = clsCMD ∨ g.unvis = [] then g.lastVis else g.wSeq, visChain := g.chain,
                           unvis := [], bilU := [], sealOld := so, wbDue := false } := by
  have hfold : ∀ (l : List (Nat × DevTime)) (g : Ring), ∃ st,
      l.foldl (fun (g : Ring) e => g.setStream e.1 (fun t => { t with covT := max t.covT e.2 })) g = { g with streams := st } := by
    intro l
    induction l with
    | nil => exact fun g => ⟨g.streams, rfl⟩
    | cons e l ih => exact fun g => ih _
  obtain ⟨st, hst⟩ := hfold g.unvis g
  unfold Ring.shown
  rw [hst]
  exact ⟨st, _, rfl⟩

theorem State.publish_get (s : State) (n : Fin 64) : (s.publish n).rings[n] = (s.rings[n]).shown s.now := by
  unfold State.publish
  extract_lets s1
  rw [State.issue_rings]
  exact s.setRing_get n _

theorem State.served_mayDma {s : State} (h : s.served = true) : s.mayDma = true := by
  simp only [State.served, Bool.and_eq_true] at h
  exact h.1.1.1

/-- The write-back word leaves, and holds the device's index. -/
theorem State.publish_writes {s : State} {n : Fin 64} (hs : s.served = true) (hon : (s.rings[n]).st = .on) :
    DmaWr.writeBack n ((s.rings[n]).dev + 2 ^ 32 + 2 ^ 40 * (s.rings[n]).err) ∈ (s.publish n).out := by
  have hword : ((s.rings[n]).shown s.now).wbWord = (s.rings[n]).dev + 2 ^ 32 + 2 ^ 40 * (s.rings[n]).err := by
    obtain ⟨l, so, h⟩ := (s.rings[n]).shown_eq s.now
    rw [h, Ring.wbWord]
    simp only [hon, Nat.mul_one]
  unfold State.publish
  extract_lets s1
  have hget : s1.rings[n] = (s.rings[n]).shown s.now := s.setRing_get n _
  rw [hget, hword]
  exact State.mem_out_issue (s := s1) (State.served_mayDma hs)

theorem State.ring_of_rings {s t : State} (h : t.rings = s.rings) (n : Fin 64) : t.rings[n] = s.rings[n] :=
  congrArg (fun v : Vector Ring 64 => v[n]) h

/-- Messages leave the rings as they are. -/
theorem State.sendVec_ring (s : State) (v : Fin 32) (n : Fin 64) : (s.sendVec v).rings[n] = s.rings[n] :=
  State.ring_of_rings ((State.sendVec_keeps (Nat.and_self _) (.refl _ s)).part .rings rfl) n

/-- A ring's message: what it covers. -/
theorem State.ringSend_get (s : State) (n : Fin 64) : (s.ringSend n).rings[n] = { s.rings[n] with sig := (s.rings[n]).pub, oldest := none } := by
  unfold State.ringSend
  extract_lets s1
  have hget : s1.rings[n] = { s.rings[n] with sig := (s.rings[n]).pub, oldest := none } := s.setRing_get n _
  split
  · exact (s1.sendVec_ring _ n).trans hget
  · exact hget

/-- The message is that of the ring's vector. -/
theorem State.ringSend_msix {s : State} {n : Fin 64} {v : Fin 32} (hv : (s.rings[n]).vec = v.val) (h : s.vecOpen v = true) :
    DmaWr.msix v (s.link.msix[v]).addr (s.link.msix[v]).data ∈ (s.ringSend n).out := by
  unfold State.ringSend
  extract_lets s1
  have hvec : (s1.rings[n]).vec = v.val := by rw [← hv, s.setRing_get n]
  split
  case isTrue hlt =>
    have hfin : (⟨(s1.rings[n]).vec, hlt⟩ : Fin 32) = v := Fin.ext hvec
    rw [hfin, State.sendVec_of_open (s := s1) h]
    exact List.mem_concat_self
  case isFalse hge => exact absurd (hvec ▸ v.isLt) hge

theorem State.ringSend_faces (s : State) (n : Fin 64) : (s.ringSend n).faces = s.faces := by
  unfold State.ringSend
  extract_lets s1
  have h1 : s1.faces = s.faces := s.setRing_faces n fun _ => rfl
  split
  · exact ((State.sendVec_keeps (Nat.and_self _) (.refl _ s1)).faces rfl rfl).trans h1
  · exact h1

theorem State.ringIrq_faces (s : State) (n : Fin 64) : (s.ringIrq n).faces = s.faces := by
  unfold State.ringIrq
  extract_lets g
  split_ifs
  · exact s.ringSend_faces n
  · exact s.setRing_faces n fun _ => rfl
  · rfl

/-- What follows a write-back changes nothing that a ring shows, and takes no message back. -/
theorem State.afterWriteBack (s : State) (n : Fin 64) :
    ((s.ringIrq n).afterVisible n).faces = s.faces ∧ s.out <+: ((s.ringIrq n).afterVisible n).out :=
  ⟨(State.afterVisible_faces _ n).trans (s.ringIrq_faces n),
    (State.ringIrq_keeps (Nat.and_self _) (.refl _ s)).out.trans (State.afterVisible_keeps (Nat.and_self _) (.refl _ (s.ringIrq n))).out⟩

/-! ### Halts (R289) -/

/-- The state, the error and the host's index of a ring: what a write-back leaves. -/
def Ring.halt (r : Ring) : RingState × Nat × Nat := (r.st, r.err, r.host)

theorem Ring.halt_eq_iff {g : Ring} {st : RingState} {err host : Nat} :
    g.halt = (st, err, host) ↔ g.st = st ∧ g.err = err ∧ g.host = host := by
  rw [Ring.halt, Prod.mk.injEq, Prod.mk.injEq]

theorem State.halt_of_faces {s t : State} (h : t.faces = s.faces) (n : Fin 64) : (t.rings[n]).halt = (s.rings[n]).halt := by
  have hf := State.face_of_faces h n
  rw [Ring.face_eq_iff] at hf
  unfold Ring.halt
  simp only [hf]

theorem State.haltWb_halt (s : State) (n : Fin 64) : ((s.haltWb n).rings[n]).halt = (s.rings[n]).halt := by
  unfold State.haltWb
  split
  · obtain ⟨l, so, h⟩ := (s.rings[n]).shown_eq s.now
    rw [State.halt_of_faces (State.afterVisible_faces _ n), State.publish_get, h]
    rfl
  · rw [State.setRing_get]
    rfl

/-- A ring that halts keeps the host's index. -/
theorem State.haltRing_halt (s : State) (n : Fin 64) (err : Nat) : ((s.haltRing n err).rings[n]).st = .halted ∧
    ((s.haltRing n err).rings[n]).err = err ∧ ((s.haltRing n err).rings[n]).host = (s.rings[n]).host := by
  rw [← Ring.halt_eq_iff]
  unfold State.haltRing
  rw [State.halt_of_faces (State.faces_of_aside (State.raise_aside _ (by decide) n)), State.haltWb_halt, State.setRing_get]
  rfl

/-- With no completion that waits, a halt changes no command and not the device's index. -/
theorem State.haltRing_of_none {s : State} (h : s.cmd.cpl = none) (n : Fin 64) (err : Nat) :
    (s.haltRing n err).cmd = s.cmd ∧ ((s.haltRing n err).rings[n]).dev = (s.rings[n]).dev := by
  have hraise : ∀ u : State, (u.raise 9).cmd = u.cmd ∧ ((u.raise 9).rings[n]).dev = (u.rings[n]).dev := fun u =>
    have hk : State.Keeps _ u (u.raise 9) := State.raise_keeps (Nat.and_self _) (.refl _ u) (.inl (by decide))
    ⟨hk.part .cmd rfl, congrArg Ring.dev (State.ring_of_rings (hk.part .rings rfl) n)⟩
  have hwb : ∀ u : State, u.cmd.cpl = none → (u.haltWb n).cmd = u.cmd ∧ ((u.haltWb n).rings[n]).dev = (u.rings[n]).dev := by
    intro u hu
    have hpub : (u.publish n).cmd = u.cmd := (State.publish_keeps (Nat.and_self _) (.refl _ u)).part .cmd rfl
    obtain ⟨l, so, hshown⟩ := (u.rings[n]).shown_eq u.now
    unfold State.haltWb
    split
    · obtain ⟨hcmd, hdev⟩ := State.afterVisible_of_none (hpub ▸ hu) n
      exact ⟨hcmd.trans hpub, by rw [hdev, State.publish_get, hshown]⟩
    · exact ⟨rfl, by rw [State.setRing_get]⟩
  obtain ⟨hc, hd⟩ := hwb (s.setRing n (fun g => { g with st := .halted, err := err })) h
  exact ⟨(hraise _).1.trans hc, (hraise _).2.trans (hd.trans (by rw [State.setRing_get]))⟩

/-! ### Doorbells (R287, R288) -/

theorem execDoorbell_of {s : State} (hs : s.serving = true) (hspi : s.spiOnly = false) (n : Fin 64) (v : Word) :
    exec (.doorbell n v) s = .next (s.wrDoorbell n v) :=
  congrArg Host.Outcome.next (if_pos (by rw [hs, hspi]; rfl))

theorem State.wrDoorbell_of_off {s : State} {n : Fin 64} (v : Word) (h : (s.rings[n]).st ≠ .on) :
    s.wrDoorbell n v = s.sf HOST_ERR_DB_OFF 1 := if_pos h

theorem State.wrDoorbell_of_bad {s : State} {n : Fin 64} {v : Word} (hon : (s.rings[n]).st = .on) (h : (s.rings[n]).dbOk v.toNat = false) :
    s.wrDoorbell n v = s.haltRing n 0x10 := by
  unfold State.wrDoorbell
  simp only [hon, h, ne_eq, not_true_eq_false, if_false, Bool.false_eq_true]

/-- An accepted doorbell: what can be written is written, and the ring shows the host's index. -/
theorem State.wrDoorbell_faces {s : State} {n : Fin 64} {v : Word} (hon : (s.rings[n]).st = .on) (h : (s.rings[n]).dbOk v.toNat = true) :
    (s.wrDoorbell n v).faces = (s.setRing n (fun g => { g with host := v.toNat })).faces := by
  unfold State.wrDoorbell
  simp only [hon, h, ne_eq, not_true_eq_false, if_false, if_true]
  split
  · rfl
  · rw [State.tryCpl_faces]
    exact State.faces_of_aside ((State.pumpGaps_aside _ n).trans (State.pumpRing_aside _ n))

/-! ### The commands -/

theorem execRingEnable_of {s : State} (hs : s.serving = true) (hspi : s.spiOnly = false) (p : Port) (hi : Bool) (v : Word) :
    exec (.ringEnable p hi v) s = .next (s.wrRingEnable hi v) := congrArg Host.Outcome.next (if_pos (by rw [hs, hspi]; rfl))

/-- The entry of ring n has been read. -/
def State.entryRead (s : State) (n : Fin 64) (d : DmaRead) : State := s.setRing n (fun g => { g with entry := some d, retried := false })

theorem State.entryRead_entry (s : State) (n : Fin 64) (d : DmaRead) : ((s.entryRead n d).rings[n]).entry = some d :=
  congrArg Ring.entry (s.setRing_get n (fun g => { g with entry := some d, retried := false }))

theorem State.entryRead_err (s : State) (n : Fin 64) (d : DmaRead) : (s.entryRead n d).entryErr d = s.entryErr d :=
  s.entryErr_setRing n (f := fun g => { g with entry := some d, retried := false }) (fun _ => rfl) (fun _ => rfl) (fun _ => rfl) d

/-- The entry of the only ring that waits is decided at once. -/
theorem execRingEntryReadDone_of {s : State} {n : Fin 64} (hs : s.served = true) (hw : s.wedged 7 = false)
    (hentry : (s.rings[n]).entry = none) (hwait : ∀ m : Fin 64, (s.rings[m]).waiting = decide (m = n)) (d : DmaRead) :
    exec (.ringEntryReadDone n d) s = .next ((s.entryRead n d).ringDecide n) := by
  have hwait' : ∀ m : Fin 64, ((s.entryRead n d).rings[m]).waiting = decide (m = n) := fun m =>
    (congrFun (s.setRing_readRings_same Ring.waiting n (f := fun g => { g with entry := some d, retried := false }) fun _ => rfl) m).trans (hwait m)
  rw [← State.ringsDecide_of_one hwait' (by rw [s.entryRead_entry]; rfl)]
  exact congrArg Host.Outcome.next (if_pos (by simp [-Fin.getElem_fin, hs, hw, hentry, hwait]))

/-- An entry in order: the ring is on, with its class and its base, and with indices of its own. -/
theorem State.entryRead_on {s : State} {n : Fin 64} {b : List Byte} (h0 : s.entryErr (.data b) = 0) :
    (((s.entryRead n (.data b)).ringDecide n).rings[n]).face = (((s.entryRead n (.data b)).ringStarts n (entryRing b)).rings[n]).face := by
  rw [State.ringDecide_of_data (s.entryRead_entry n _) ((s.entryRead_err n _).trans h0)]
  exact (State.aside_eq_iff.1 (State.ringOn_aside _ n (entryRing b))).2.1

theorem execWriteBack_of {s : State} {n : Fin 64} (hs : s.served = true) (hon : (s.rings[n]).st = .on)
    (hne : (s.rings[n]).dev ≠ (s.rings[n]).pub) : exec (.writeBack n) s = .next (((s.publish n).ringIrq n).afterVisible n) :=
  congrArg Host.Outcome.next (if_pos (by simp [-Fin.getElem_fin, hs, hon, hne]))

/-- A write-back shows the device's index and the last record written. -/
theorem State.writeBack_shows (s : State) (n : Fin 64) :
    ((((s.publish n).ringIrq n).afterVisible n).rings[n]).pub = (s.rings[n]).dev ∧
      ((s.rings[n]).cls ≠ clsCMD → (s.rings[n]).unvis ≠ [] → ((((s.publish n).ringIrq n).afterVisible n).rings[n]).lastVis = (s.rings[n]).wSeq) := by
  obtain ⟨l, so, hshown⟩ := (s.rings[n]).shown_eq s.now
  have hface := State.face_of_faces ((s.publish n).afterWriteBack n).1 n
  rw [State.publish_get, hshown, Ring.face_eq_iff] at hface
  obtain ⟨-, -, -, -, -, -, -, -, -, -, -, -, -, hpub, hvis⟩ := hface
  exact ⟨hpub, fun hcls hun => hvis.trans (if_neg fun h => h.elim hcls hun)⟩

theorem execRingInterruptTimer_of {s : State} {n : Fin 64} (hs : s.served = true) (hon : (s.rings[n]).st = .on) (hirq : (s.rings[n]).irq = true)
    (hold : (s.rings[n]).oldest.isSome = true) (hsig : (s.rings[n]).pub ≠ (s.rings[n]).sig) :
    exec (.ringInterruptTimer n) s = .next (s.ringSend n) :=
  congrArg Host.Outcome.next (if_pos (by simp [-Fin.getElem_fin, hs, hon, hirq, hold, hsig]))

/-- Settles O43: RING_ENABLE by the fold over its bits, an entry by the decision of the only ring that waits, and the others by what
records, write-backs and messages leave of a ring. -/
theorem ringCommands : Obligations.RingCommands := by
  refine ⟨fun s p hi v n hs hspi hhi => ⟨_, execRingEnable_of hs hspi p hi v, fun hoff hb => ?_, fun hon => ?_⟩,
    fun s n d hs hw hentry hwait => ⟨fun b hb h0 => ?_, fun h0 => ?_⟩,
    fun s n v hs hspi => ⟨fun hoff => ?_, fun hon hok => ?_, fun hon hbad => ?_⟩,
    fun s n hs hon hne => ?_, fun s n v hs hon hirq hold hsig hvec => ?_⟩
  · rw [s.wrRingEnable_ring v hhi, if_pos hb]
    exact Ring.asked_of_off hoff
  · rw [s.wrRingEnable_ring v hhi, Ring.asked_of_on hon, ite_self]
  · subst hb
    have hface := State.entryRead_on (n := n) h0
    rw [State.ringStarts, State.setRing_get, Ring.face_eq_iff] at hface
    obtain ⟨hst, hwaiting, -, hcls, hbase, -, -, -, -, -, -, -, hhost, hpub, -⟩ := hface
    exact ⟨_, execRingEntryReadDone_of hs hw hentry hwait _, hst, hwaiting, hcls, hbase, hhost, hpub⟩
  · refine ⟨_, execRingEntryReadDone_of hs hw hentry hwait d, ?_⟩
    rw [State.ringDecide_of_bad (s.entryRead_entry n d) (by rwa [s.entryRead_err]), State.setRing_get, s.entryRead_err]
    exact ⟨rfl, rfl, rfl⟩
  · rw [execDoorbell_of hs hspi, State.wrDoorbell_of_off v hoff]
  · have hhalt := State.halt_of_faces (State.wrDoorbell_faces hon hok) n
    rw [State.setRing_get] at hhalt
    obtain ⟨hst, -, hhost⟩ := Ring.halt_eq_iff.1 hhalt
    exact ⟨_, execDoorbell_of hs hspi n v, hhost, hst.trans hon⟩
  · obtain ⟨hst, herr, hhost⟩ := s.haltRing_halt n 0x10
    exact ⟨_, (execDoorbell_of hs hspi n v).trans (by rw [State.wrDoorbell_of_bad hon hbad]), hhost, hst, herr, State.raise_gb _ 9⟩
  · obtain ⟨hpub, hvis⟩ := s.writeBack_shows n
    exact ⟨_, execWriteBack_of hs hon hne, hpub, ((s.publish n).afterWriteBack n).2.subset (State.publish_writes hs hon), hvis⟩
  · have hget := s.ringSend_get n
    exact ⟨s.ringSend n, execRingInterruptTimer_of hs hon hirq hold hsig, by rw [hget], by rw [hget], State.ringSend_msix hvec⟩

end Sys2Proof.Machine
end

section
/-! SUPPORT. Commands and the mailbox (R290, R293, R296, R298, R299): the fetch of a command by the status of its entry, what a completion
leaves of the CMD ring, reads that fail, and what the mailbox is done with. -/

namespace Sys2Proof.Machine

/-! ### The fetch of a command (R290, R293) -/

theorem State.cmdRing_spec {s : State} {n : Fin 64} (h : s.cmdRing = some n) : (s.rings[n]).st = .on ∧ (s.rings[n]).cls = clsCMD := by
  have hn := List.find?_some h
  rw [Bool.and_eq_true, decide_eq_true_eq, beq_iff_eq] at hn
  exact hn

/-- The next command may be fetched: nothing executes and no completion waits. -/
theorem State.canFetch_idle {s : State} (h : s.canFetch = true) : s.cmd.cur = none ∧ s.cmd.cpl = none := by
  simp only [State.canFetch, Bool.and_eq_true, Option.isNone_iff_eq_none] at h
  exact ⟨h.1.1.1.1.2, h.1.1.1.2⟩

/-- The command of ring n with this entry begins to execute, and the ring is past it. -/
def State.cmdBegun (s : State) (n : Fin 64) (e : List Byte) : State :=
  let u := s.setRing n (fun g => { g with dev := (g.dev + 1) % 2 ^ 32 })
  { u with cmd := { u.cmd with cur := some { entry := e, via := .ring (s.rings[n]).dev, seq0 := u.seqs }, retried := false } }

theorem State.cmdBegun_ring (s : State) (n : Fin 64) (e : List Byte) :
    (s.cmdBegun n e).rings[n] = { s.rings[n] with dev := ((s.rings[n]).dev + 1) % 2 ^ 32 } :=
  s.setRing_get n (fun g => { g with dev := (g.dev + 1) % 2 ^ 32 })

/-- A fetch by the status of the entry. -/
theorem execCommandFetch_of {s : State} {n : Fin 64} (hf : s.canFetch = true) (hn : s.cmdRing = some n) (e : List Byte) :
    exec (.commandFetch e) s = .next (match entryStatus e false with
      | none => s.haltRing n 0x11
      | some st => if st = 0 then s.cmdBegun n e else (s.cmdBegun n e).finish st 0 []) := by
  refine (congrArg Host.Outcome.next (if_pos hf)).trans ?_
  rw [hn]
  rfl

theorem execCommandFetch_of_bad {s : State} {n : Fin 64} {e : List Byte} (hf : s.canFetch = true) (hn : s.cmdRing = some n)
    (he : entryStatus e false = none) : exec (.commandFetch e) s = .next (s.haltRing n 0x11) := by
  rw [execCommandFetch_of hf hn, he]

theorem execCommandFetch_of_ok {s : State} {n : Fin 64} {e : List Byte} (hf : s.canFetch = true) (hn : s.cmdRing = some n)
    (he : entryStatus e false = some 0) : exec (.commandFetch e) s = .next (s.cmdBegun n e) := by
  rw [execCommandFetch_of hf hn, he]
  rfl

theorem execCommandFetch_of_refused {s : State} {n : Fin 64} {e : List Byte} {st : Nat} (hf : s.canFetch = true) (hn : s.cmdRing = some n)
    (he : entryStatus e false = some st) (h0 : st ≠ 0) : exec (.commandFetch e) s = .next ((s.cmdBegun n e).finish st 0 []) := by
  rw [execCommandFetch_of hf hn, he]
  dsimp only
  rw [if_neg h0]

theorem entryStatus_of_crc {e : List Byte} (mbox : Bool) (h : crc32c (e.take 60) ≠ leAt e 60 4) : entryStatus e mbox = none :=
  if_pos (.inr h)

theorem entryStatus_of_opcode {e : List Byte} (mbox : Bool) (hlen : e.length = 64) (h : crc32c (e.take 60) = leAt e 60 4)
    (hop : leAt e 0 1 = 0 ∨ 15 < leAt e 0 1) : entryStatus e mbox = some 1 :=
  (if_neg fun hbad => hbad.elim (absurd hlen) (absurd h)).trans (if_pos hop)

/-! ### What a completion leaves of the rings (R292, R325) -/

theorem State.cplTaken_rest (s : State) : s.cplTaken.cmd = { s.cmd with cpl := none } ∧ s.cplTaken.rings = s.rings := by
  unfold State.cplTaken
  split <;> exact ⟨rfl, rfl⟩

/-- The completion of a ring's command is a CPL record: a ring of another class stays as it is. -/
theorem State.tryCpl_ring {s : State} {c : Cpl} {n : Fin 64} (h : s.cmd.cpl = some c) (hm : c.mbox = none)
    (hcls : (s.rings[n]).cls ≠ c.r.cls) : s.tryCpl.rings[n] = s.rings[n] := by
  have hrings := s.cplTaken_rest.2
  cases hc : s.cplReady c with
  | false => rw [State.tryCpl_of_waiting h hc]
  | true => rw [State.tryCpl_of_ring h hc hm, State.emit_ring (by rwa [hrings]), hrings]

theorem State.finish_ring {s : State} {c : Cmd} {i : Nat} {n : Fin 64} (hc : s.cmd.cur = some c) (hv : c.via = .ring i)
    (hcls : (s.rings[n]).cls ≠ clsCPL) (st d : Nat) (res : List Byte) : (s.finish st d res).rings[n] = s.rings[n] := by
  unfold State.finish State.finishW State.finishC
  simp only [hc, hv]
  exact State.tryCpl_ring rfl rfl hcls

/-- Settles O44: a bad CRC by the halt of a ring with no completion that waits, an unknown opcode by the completion of the command that
began, which is a CPL record and leaves the CMD ring as it is. -/
theorem badCommandEntries : Obligations.BadCommandEntries := by
  intro s n e hforms hf hn hlen
  obtain ⟨hon, hcmd⟩ := State.cmdRing_spec hn
  refine ⟨fun hcrc => ?_, fun hcrc hop => ?_⟩
  · obtain ⟨hsame, hdev⟩ := State.haltRing_of_none (State.canFetch_idle hf).2 n 0x11
    obtain ⟨hst, herr, -⟩ := s.haltRing_halt n 0x11
    exact ⟨_, execCommandFetch_of_bad hf hn (entryStatus_of_crc false hcrc), hst, herr, hsame, hdev⟩
  · have hring : ((s.cmdBegun n e).finish 1 0 []).rings[n] = { s.rings[n] with dev := ((s.rings[n]).dev + 1) % 2 ^ 32 } := by
      rw [State.finish_ring rfl rfl (by rw [s.cmdBegun_ring, hcmd]; decide), s.cmdBegun_ring]
    have hdone := State.finish_completed (s.cmdBegun n e) _ 1 0 [] hforms rfl ⟨_, rfl⟩
    refine ⟨_, execCommandFetch_of_refused hf hn (entryStatus_of_opcode false hlen hcrc hop) one_ne_zero, hdone, ?_, ?_⟩
    · rw [hring]
      exact hon
    · rw [hring]

end Sys2Proof.Machine
end

section
/-! SUPPORT. Reads that fail and the mailbox (R296, R298, R299). -/

namespace Sys2Proof.Machine

/-! ### Reads that fail (R296) -/

/-- A read that had been retried: the failure shows, and the read counts as new. -/
def State.readGivenUp (s : State) (what : DmaReadOf) (how : DmaFail) : State := (s.sf (dmaFailBit how) 1).setRetried false what

theorem State.sf_wasRetried (s : State) (f : Fld) (v : Nat) (what : DmaReadOf) : (s.sf f v).wasRetried what = s.wasRetried what := by
  cases what <;> rfl

theorem execDmaReadTimeout_of_first {s : State} {what : DmaReadOf} (hr : s.reading what = true) (h : s.wasRetried what = false) (how : DmaFail) :
    exec (.dmaReadTimeout what how) s = .next ((s.sf (dmaFailBit how) 1).setRetried true what) := by
  refine (congrArg Host.Outcome.next (if_pos hr)).trans (congrArg Host.Outcome.next (if_pos ?_))
  rw [State.sf_wasRetried, h]
  rfl

theorem State.readFailed_command {s : State} {n : Fin 64} (h : s.wasRetried .command = true) (hn : s.cmdRing = some n) (how : DmaFail) :
    s.readFailed .command how = (s.readGivenUp .command how).haltRing n 0x12 := by
  unfold State.readFailed
  extract_lets u1 u2
  have hring : u2.cmdRing = some n := hn
  rw [if_neg (by rw [State.sf_wasRetried, h]; decide), hring]
  rfl

theorem State.readFailed_buffer {s : State} (h : s.wasRetried .buffer = true) (how : DmaFail) :
    s.readFailed .buffer how = (s.readGivenUp .buffer how).finish 0x0A 0 [] := by
  refine if_neg ?_
  rw [State.sf_wasRetried, h]
  decide

theorem State.readFailed_ringEntry {s : State} {n : Fin 64} (h : s.wasRetried (.ringEntry n) = true) (how : DmaFail) :
    s.readFailed (.ringEntry n) how = ((s.readGivenUp (.ringEntry n) how).setRing n (fun g => { g with entry := some .failed })).ringsDecide := by
  refine if_neg ?_
  rw [State.sf_wasRetried, h]
  decide

theorem execDmaReadTimeout_of {s : State} {what : DmaReadOf} (hr : s.reading what = true) (how : DmaFail) :
    exec (.dmaReadTimeout what how) s = .next (s.readFailed what how) := congrArg Host.Outcome.next (if_pos hr)

theorem State.reading_command {s : State} (h : s.reading .command = true) : s.canFetch = true := by
  simp only [State.reading, Bool.and_eq_true] at h
  exact h.2

/-- A failed read that is retried: its bit stands, and rings and commands go on. -/
theorem State.readRetried (s : State) (what : DmaReadOf) (how : DmaFail) :
    ((s.sf (dmaFailBit how) 1).setRetried true what).wasRetried what = true ∧
    ((s.sf (dmaFailBit how) 1).setRetried true what).gb (dmaFailBit how) = true ∧
    ((s.sf (dmaFailBit how) 1).setRetried true what).formed = s.formed ∧
    ((s.sf (dmaFailBit how) 1).setRetried true what).cmd.cur = s.cmd.cur ∧
    ∀ m : Fin 64, (((s.sf (dmaFailBit how) 1).setRetried true what).rings[m]).st = (s.rings[m]).st := by
  have hbit : (s.sf (dmaFailBit how) 1).gb (dmaFailBit how) = true := by
    rw [State.gb_sf]
    cases how <;> rfl
  cases what with
  | command => exact ⟨rfl, hbit, rfl, rfl, fun _ => rfl⟩
  | buffer => exact ⟨rfl, hbit, rfl, rfl, fun _ => rfl⟩
  | ringEntry n =>
    refine ⟨?_, hbit, rfl, rfl, congrFun ((s.sf (dmaFailBit how) 1).setRing_readRings_same Ring.st n fun _ => rfl)⟩
    exact congrArg Ring.retried ((s.sf (dmaFailBit how) 1).setRing_get n (fun g => { g with retried := true }))

/-- The only ring that waits is refused when its entry cannot be read. -/
theorem State.ringsDecide_of_failed {s : State} {n : Fin 64} (hw : ∀ m : Fin 64, (s.rings[m]).waiting = decide (m = n)) :
    (((s.setRing n (fun g => { g with entry := some .failed })).ringsDecide).rings[n]).st = .refused ∧
    (((s.setRing n (fun g => { g with entry := some .failed })).ringsDecide).rings[n]).err = 9 := by
  have hread : ((s.setRing n (fun g => { g with entry := some .failed })).rings[n]).entry = some .failed := by rw [State.setRing_get]
  have hwait := fun m => (congrFun (s.setRing_readRings_same Ring.waiting n (f := fun g => { g with entry := some .failed }) fun _ => rfl) m).trans
    (hw m)
  have herr : ∀ u : State, u.entryErr .failed = 9 := fun _ => rfl
  rw [State.ringsDecide_of_one hwait (by rw [hread]; rfl), State.ringDecide_of_bad hread (by rw [herr]; decide), State.setRing_get]
  exact ⟨rfl, rfl⟩

/-! ### The mailbox (R298, R299) -/

/-- The mailbox command begins. -/
def State.mboxTaken (s : State) : State :=
  { s with cmd := { s.cmd with cur := some { entry := s.mboxEntry, via := .mailbox s.cmd.mboxPort, seq0 := s.seqs } } }

theorem execMailboxExecute_of {s : State} (hr : s.isReady = true) (hb : s.gb MBOX_STATUS_BUSY = true) (hcur : s.cmd.cur = none)
    (hcpl : s.cmd.cpl = none) (ce : Nat) (ue : List Nat) : exec (.mailboxExecute ce ue) s = .next (s.mboxBegin ce ue) := by
  refine congrArg Host.Outcome.next ((if_neg (by rw [hr, hb]; decide)).trans ?_)
  rw [hcur, hcpl]
  rfl

theorem State.mboxBegin_of_bad {s : State} (h : entryStatus s.mboxEntry true = none) (ce : Nat) (ue : List Nat) :
    s.mboxBegin ce ue = s.mboxTaken.finish 2 0 [] := by
  unfold State.mboxBegin
  simp only [h]
  rfl

theorem State.mboxBegin_of_arm {s : State} (h : entryStatus s.mboxEntry true = some 0) (hop : leAt s.mboxEntry 0 1 = 5) (ce : Nat) (ue : List Nat) :
    s.mboxBegin ce ue = s.mboxTaken.doArm := by
  unfold State.mboxBegin State.mboxRun
  simp only [h, hop]
  rfl

/-- No ring gave a place since now. -/
theorem State.marksSince_seqs (s : State) : s.marksSince s.seqs = [] := by
  have hnone : ∀ n : Fin 64, (s.rings[n]).nextSeq = s.seqs[n] := fun n => by simp [State.seqs]
  unfold State.marksSince
  simp only [hnone, ne_eq, not_true_eq_false, decide_false, Bool.false_and, List.filter_false, List.map_nil]

/-- A mailbox command is done. -/
structure State.MboxDone (t : State) (status : Nat) : Prop where
  busy : t.gb MBOX_STATUS_BUSY = false
  done : t.gb MBOX_STATUS_DONE = true
  status : t.gf MBOX_STATUS_STATUS = status % 2 ^ MBOX_STATUS_STATUS.w
  interrupt : t.gb (intBit 0) = true
  cur : t.cmd.cur = none

theorem State.mboxWritten_done {s : State} (h : s.cmd.cur = none) (status detail : Nat) :
    ((s.sfs [(MBOX_STATUS_STATUS, status), (MBOX_DETAIL_DETAIL, detail), (MBOX_STATUS_BUSY, 0), (MBOX_STATUS_DONE, 1)]).raise 0).MboxDone
      status := by
  simp only [State.sfs_cons, State.sfs_nil]
  refine ⟨?_, ?_, ?_, State.raise_gb _ 0, ?_⟩
  · rw [State.raise_gb_ne _ (by decide), State.gb_sf_ne _ _ (by decide), State.gb_sf]
    rfl
  · rw [State.raise_gb_ne _ (by decide), State.gb_sf]
    rfl
  · rw [State.raise_gf_ne _ (by decide), State.gf_sf_ne _ _ (by decide), State.gf_sf_ne _ _ (by decide), State.gf_sf_ne _ _ (by decide),
      State.gf_sf]
  · rw [(State.raise_keeps (Nat.and_self _) (.refl _ _) (.inl (by decide))).part .cmd rfl]
    exact h

/-- A mailbox command that gave no record a place is done at once. -/
theorem State.finish_mailbox {s : State} {c : Cmd} {p : Port} (hc : s.cmd.cur = some c) (hv : c.via = .mailbox p) (hseq : c.seq0 = s.seqs)
    (st d : Nat) : (s.finish st d []).MboxDone st := by
  unfold State.finish State.finishW State.finishC
  simp only [hc, hv, hseq, s.marksSince_seqs]
  rw [State.tryCpl_of_mailbox rfl rfl rfl]
  refine State.mboxWritten_done ?_ st d
  rw [(State.mboxData_keeps (Nat.and_self _) (.refl _ _)).part .cmd rfl, (State.cplTaken_rest _).1]

/-- Settles O45: a fetch by the status of its entry, a failed read by whether it had been retried, and a mailbox command by the completion
of a command that gave no record a place. -/
theorem commandsAndMailbox : Obligations.CommandsAndMailbox := by
  refine ⟨fun s n e hf hn he => ?_, fun s what how hr h => ⟨_, execDmaReadTimeout_of_first hr h how, s.readRetried what how⟩,
    fun s n how hr h hn => ?_, fun s op c how hx hr h => ?_, fun s n how hr h hw => ?_, fun s p hs => ⟨fun hb => ?_, fun hb => ?_⟩,
    fun s ce ue hr hb hcur hcpl => ⟨fun he => ?_, fun he hop hm => ?_⟩⟩
  · exact ⟨_, execCommandFetch_of_ok hf hn he, rfl, rfl, by rw [s.cmdBegun_ring], rfl⟩
  · have hnone : (s.readGivenUp .command how).cmd.cpl = none := (State.canFetch_idle (State.reading_command hr)).2
    obtain ⟨hst, herr, -⟩ := (s.readGivenUp .command how).haltRing_halt n 0x12
    refine ⟨_, (execDmaReadTimeout_of hr how).trans (by rw [State.readFailed_command h hn]), hst, herr, ?_⟩
    rw [(State.haltRing_of_none hnone n 0x12).1]
    rfl
  · have hsf : (s.sfs [(dmaFailBit how, 1)]).Executing c := hx.executing.sfs (by cases how <;> decide)
    have hgiven : (s.readGivenUp .buffer how).Executing c := ⟨hsf.forms, hsf.cur, hsf.ring⟩
    exact ⟨_, (execDmaReadTimeout_of hr how).trans (by rw [State.readFailed_buffer h]), hgiven.finish _ _ _⟩
  · have hwait : ∀ m : Fin 64, ((s.readGivenUp (.ringEntry n) how).rings[m]).waiting = decide (m = n) := fun m =>
      (congrFun ((s.sf (dmaFailBit how) 1).setRing_readRings_same Ring.waiting n (f := fun g => { g with retried := false }) fun _ => rfl) m).trans
        (hw m)
    exact ⟨_, (execDmaReadTimeout_of hr how).trans (by rw [State.readFailed_ringEntry h]), State.ringsDecide_of_failed hwait⟩
  · refine ⟨_, congrArg Host.Outcome.next ((if_pos hs).trans (if_neg (by rw [hb]; decide))), ?_, rfl⟩
    rw [State.gb_sf]
    rfl
  · exact congrArg Host.Outcome.next ((if_pos hs).trans (if_pos hb))
  · have hdone := State.finish_mailbox (s := s.mboxTaken) rfl rfl rfl 2 0
    exact ⟨_, (execMailboxExecute_of hr hb hcur hcpl ce ue).trans (by rw [State.mboxBegin_of_bad he]), hdone.busy, hdone.done, hdone.status,
      hdone.interrupt, hdone.cur⟩
  · have hdone := State.finish_mailbox (s := s.mboxTaken.capArm) rfl rfl rfl 0 0
    have hsame := s.mboxTaken.capArm.finish_capSame 0 0 []
    have harm : s.mboxTaken.doArm = s.mboxTaken.capArm.finish 0 0 [] := if_pos hm
    refine ⟨_, (execMailboxExecute_of hr hb hcur hcpl ce ue).trans (by rw [State.mboxBegin_of_arm he hop, harm]), hdone.busy, hdone.done,
      hdone.status, (hsame.reg _ (by decide) rfl).trans (State.capArm_state _), ?_⟩
    rw [hsame.cap, State.capArm_cap]
    rfl

end Sys2Proof.Machine
end

section
/-! SUPPORT. The aux bank port and BAR2 (R279, R386 to R390): the bytes that a write of a bank's memory changes, the lanes of an entry of the
write buffer, and accesses that meet nothing. -/

namespace Sys2Proof.Machine

/-! ### Bytes of the banks (R370) -/

theorem State.memSet_memByte (s : State) (a : Nat) (b : Byte) (x : Nat) : (s.memSet a b).memByte x = if a = x then b else s.memByte x :=
  SMap.get_set _ _ _ _ _

theorem State.memByte_of_mem {s t : State} (h : t.mem = s.mem) (x : Nat) : t.memByte x = s.memByte x := by
  unfold State.memByte
  rw [h]

/-- The first k bytes of a write. -/
def State.memPut (s : State) (a mask : Nat) (bs : List Byte) (k : Nat) : State :=
  (List.range k).foldl (fun s i => if mask.testBit i then s.memSet (a + i) (bs.getD i 0) else s) s

theorem State.memPut_succ (s : State) (a mask : Nat) (bs : List Byte) (k : Nat) : s.memPut a mask bs (k + 1) =
    if mask.testBit k then (s.memPut a mask bs k).memSet (a + k) (bs.getD k 0) else s.memPut a mask bs k := by
  unfold State.memPut
  rw [List.range_succ, List.foldl_append]
  rfl

theorem State.memPut_memByte (s : State) (a mask : Nat) (bs : List Byte) (k x : Nat) : (s.memPut a mask bs k).memByte x =
    if a ≤ x ∧ x < a + k ∧ mask.testBit (x - a) = true then bs.getD (x - a) 0 else s.memByte x := by
  induction k with
  | zero => exact (if_neg fun h => absurd h.2.1 (Nat.not_lt.2 h.1)).symm
  | succ k ih =>
    rw [State.memPut_succ]
    by_cases hx : x = a + k
    · subst hx
      cases hm : mask.testBit k <;> simp [State.memSet_memByte, ih, hm]
    · have hlt : x < a + (k + 1) ↔ x < a + k := by omega
      have hset : ((s.memPut a mask bs k).memSet (a + k) (bs.getD k 0)).memByte x = (s.memPut a mask bs k).memByte x := by
        rw [State.memSet_memByte, if_neg (Ne.symm hx)]
      simp only [apply_ite (fun u : State => u.memByte x), hset, ite_self, ih, hlt]

/-- A write changes the bytes of its range whose lanes its mask has, and no others. -/
theorem State.memWrite_memByte (s : State) (a mask : Nat) (bs : List Byte) (x : Nat) : (s.memWrite a mask bs).memByte x =
    if a ≤ x ∧ x < a + bs.length ∧ mask.testBit (x - a) = true then bs.getD (x - a) 0 else s.memByte x :=
  s.memPut_memByte a mask bs bs.length x

theorem State.memWrite_inside (s : State) (a mask : Nat) (bs : List Byte) {i : Nat} (h : i < bs.length) :
    (s.memWrite a mask bs).memByte (a + i) = if mask.testBit i then bs.getD i 0 else s.memByte (a + i) := by
  rw [State.memWrite_memByte]
  simp [h]

theorem State.memWrite_outside (s : State) (a mask : Nat) (bs : List Byte) {x : Nat} (h : x < a ∨ a + bs.length ≤ x) :
    (s.memWrite a mask bs).memByte x = s.memByte x := by
  rw [State.memWrite_memByte, if_neg (by omega)]

/-! ### The write buffer (R388) -/

theorem State.abpFlush_of_empty {s : State} (h : s.abp.wbuf = []) : s.abpFlush = s := by
  have habp : { s.abp with wbuf := [] } = s.abp := by rw [← h]
  unfold State.abpFlush
  rw [h, habp]
  rfl

theorem State.abpPerform_mem (s : State) (e : AbpEntry) : (s.abpPerform e).mem = (s.memWrite (32 * e.word) e.mask e.data).mem := by
  unfold State.abpPerform
  extract_lets u
  split <;> rfl

theorem State.abpPerform_wbuf (s : State) (e : AbpEntry) : (s.abpPerform e).abp.wbuf = s.abp.wbuf := by
  have habp : (s.memWrite (32 * e.word) e.mask e.data).abp = s.abp := (State.memWrite_keeps (Nat.and_self _) (.refl _ s)).part .abp rfl
  unfold State.abpPerform
  extract_lets u
  split <;> exact (congrArg Abp.wbuf habp :)

theorem State.abpFlush_of_one {s : State} {e : AbpEntry} (h : s.abp.wbuf = [e]) : s.abpFlush.abp.wbuf = [] ∧
    ∀ x, s.abpFlush.memByte x = (s.memWrite (32 * e.word) e.mask e.data).memByte x := by
  unfold State.abpFlush
  rw [h, List.foldl_cons, List.foldl_nil]
  refine ⟨State.abpPerform_wbuf _ e, fun x => ?_⟩
  rw [State.memByte_of_mem (State.abpPerform_mem _ e), State.memWrite_memByte, State.memWrite_memByte]
  rfl

/-! ### The lanes of an entry (R386) -/

theorem leBytes_length (n v : Nat) : (leBytes n v).length = n := by
  induction n generalizing v with
  | zero => rfl
  | succ n ih => simp [leBytes, ih]

theorem abpEntryOf_length {w l be v : Nat} (h : l < 8) : (abpEntryOf w l be v).data.length = 32 := by
  simp only [abpEntryOf, List.length_append, zeros, List.length_replicate, leBytes_length]
  omega

theorem abpEntryOf_data {w l be v i : Nat} (h : i < 4) : (abpEntryOf w l be v).data.getD (4 * l + i) 0 = (leBytes 4 v).getD i 0 := by
  simp [abpEntryOf, zeros, List.getD_eq_getElem?_getD, List.getElem?_append, leBytes_length, h]

theorem abpEntryOf_mask (w l be v j : Nat) : (abpEntryOf w l be v).mask.testBit j = (decide (4 * l ≤ j) && be.testBit (j - 4 * l)) :=
  Nat.testBit_mul_two_pow ..

/-- An entry that is performed changes the bytes of its word that its lanes enable, and no others. -/
theorem State.abpEntry_performed (s : State) (w : Nat) {l : Nat} (be : BitVec 4) (v : Nat) (hl : l < 8) :
    (∀ i, i < 4 → (s.memWrite (32 * w) (abpEntryOf w l be.toNat v).mask (abpEntryOf w l be.toNat v).data).memByte (32 * w + 4 * l + i) =
      if be.getLsbD i then (leBytes 4 v).getD i 0 else s.memByte (32 * w + 4 * l + i)) ∧
    ∀ x, x < 32 * w + 4 * l ∨ 32 * w + 4 * l + 4 ≤ x →
      (s.memWrite (32 * w) (abpEntryOf w l be.toNat v).mask (abpEntryOf w l be.toNat v).data).memByte x = s.memByte x := by
  refine ⟨fun i hi => ?_, fun x hx => ?_⟩
  · rw [Nat.add_assoc, State.memWrite_inside _ _ _ _ (by rw [abpEntryOf_length hl]; omega), abpEntryOf_data hi, abpEntryOf_mask]
    simp [BitVec.getLsbD]
  · rw [State.memWrite_memByte]
    refine if_neg fun ⟨h1, _, h3⟩ => ?_
    rw [abpEntryOf_mask, Bool.and_eq_true, decide_eq_true_eq] at h3
    have hbit : be.toNat.testBit (x - 32 * w - 4 * l) = false :=
      Nat.testBit_lt_two_pow (be.isLt.trans_le (Nat.pow_le_pow_right Nat.two_pos (by omega)))
    exact absurd h3.2 (by rw [hbit]; decide)

/-! ### Accesses of the aux port (R386 to R390) -/

/-- CORE cycles have passed since the last access of BAR2 or the aux port. -/
def State.afterCycles (s : State) (dc : Nat) : State := { s with fab := { s.fab with cycle := s.fab.cycle + dc } }

theorem execAbpWrite_of_located {s : State} {a : BitVec 20} {w l : Nat} (hr : s.isReady = true) (hb : s.abp.busy = none)
    (hl : s.abpLocate a.toNat = some (w, l)) (hbar : s.abp.lastBar2 = none) (hw : s.abp.wbuf = []) (be : BitVec 4) (v : Word) (dc : Nat) :
    exec (.abpWrite a be v dc) s =
      .next (((s.afterCycles dc).abpNote (8 * w + l) be.toNat true).abpBuffer (abpEntryOf w l be.toNat v.toNat)) := by
  refine congrArg Host.Outcome.next ((if_neg (by simp [State.abpOpen, hr, hb])).trans ?_)
  extract_lets _ u
  have hloc : u.abpLocate a.toNat = some (w, l) := hl
  have hlast : u.abp.lastBar2 = none := hbar
  have hroom : (u.abpNote (8 * w + l) be.toNat true).abp.wbuf = [] := hw
  rw [hloc]
  simp only [hlast, collide, hroom, Bool.false_eq_true, if_false]
  rfl

theorem execAbpWrite_of_missed {s : State} {a : BitVec 20} (hr : s.isReady = true) (hb : s.abp.busy = none)
    (hl : s.abpLocate a.toNat = none) (be : BitVec 4) (v : Word) (dc : Nat) :
    exec (.abpWrite a be v dc) s = .next ((s.afterCycles dc).abpMiss a.toNat true) := by
  refine congrArg Host.Outcome.next ((if_neg (by simp [State.abpOpen, hr, hb])).trans ?_)
  extract_lets _ u
  have hloc : u.abpLocate a.toNat = none := hl
  rw [hloc]
  rfl

theorem execAbpRead_of_located {s : State} {a : BitVec 20} {w l : Nat} (hr : s.isReady = true) (hb : s.abp.busy = none)
    (hl : s.abpLocate a.toNat = some (w, l)) (hbar : s.abp.lastBar2 = none) (be : BitVec 4) (e : Ecc) (dc : Nat) :
    exec (.abpRead a be e dc) s = .next
      (if s.abp.rbuf = some w then { (s.afterCycles dc).abpNote (8 * w + l) be.toNat false with
        abp := { ((s.afterCycles dc).abpNote (8 * w + l) be.toNat false).abp with dout := ofLe (s.memRead (32 * w + 4 * l) 4) } }
      else { (s.afterCycles dc).abpNote (8 * w + l) be.toNat false with
        abp := { ((s.afterCycles dc).abpNote (8 * w + l) be.toNat false).abp with busy := some ⟨false, a.toNat, w, l, be.toNat, 0, e, false⟩ } }) := by
  refine congrArg Host.Outcome.next ((if_neg (by simp [State.abpOpen, hr, hb])).trans ?_)
  extract_lets _ u
  have hloc : u.abpLocate a.toNat = some (w, l) := hl
  have hlast : u.abp.lastBar2 = none := hbar
  rw [hloc]
  simp only [hlast, collide, Bool.false_eq_true, if_false]
  rfl

/-- What a read leaves: the word's data are driven, and the word stands in the read buffer. -/
theorem execAbpAccessComplete_of_read {s : State} {x : AbpAcc} (hr : s.isReady = true) (hb : s.abp.busy = some x) (hwr : x.write = false)
    (hu : x.undef = false) (hecc : x.ecc = .ok) (hw : s.abp.wbuf = []) (hbank : s.bankServes (x.word / 8192) 10 = true) :
    exec .abpAccessComplete s = .next
      { s with abp := { s.abp with busy := none, dout := ofLe (s.memRead (32 * x.word + 4 * x.lane) 4), rbuf := some x.word } } := by
  have hflush : State.abpFlush { s with abp := { s.abp with busy := none } } = { s with abp := { s.abp with busy := none } } :=
    State.abpFlush_of_empty hw
  have hserves : State.bankServes { s with abp := { s.abp with busy := none } } (x.word / 8192) 10 = true := hbank
  unfold exec execAbpAccessComplete
  simp only [hb, hr, hflush, hserves, hwr, hu, hecc, eccLost, State.eccCount, Bool.not_true, Bool.false_eq_true, if_false]
  rfl

theorem execAbpAccessComplete_of_idle {s : State} (hr : s.isReady = true) (hb : s.abp.busy = none) :
    exec .abpAccessComplete s = .next s.abpFlush := by
  unfold exec execAbpAccessComplete
  simp only [hb, hr, if_true]

/-- A miss leaves its address, its direction and its interrupt. -/
theorem State.abpMiss_fields (s : State) (a : BitVec 20) : (s.abpMiss a.toNat true).gb ABP_ERR_MISS = true ∧
    (s.abpMiss a.toNat true).gf ABP_MISS_ADDR_ADDR = a.toNat ∧ (s.abpMiss a.toNat true).gb ABP_MISS_ADDR_WRITE = true ∧
    (s.abpMiss a.toNat true).gb (intBit 8) = true ∧ (s.abpMiss a.toNat true).mem = s.mem := by
  unfold State.abpMiss
  simp only [State.sfs_cons, State.sfs_nil]
  refine ⟨?_, ?_, ?_, State.raise_gb _ 8, ?_⟩
  · rw [State.raise_gb_ne _ (by decide), State.gb_sf_ne _ _ (by decide), State.gb_sf_ne _ _ (by decide), State.gb_sf]
    rfl
  · rw [State.raise_gf_ne _ (by decide), State.gf_sf_ne _ _ (by decide), State.gf_sf]
    exact Nat.mod_eq_of_lt a.isLt
  · rw [State.raise_gb_ne _ (by decide), State.gb_sf]
    rfl
  · exact (State.raise_keeps (Nat.and_self _) (.refl _ _) (.inl (by decide))).part .mem rfl

/-! ### BAR2 (R279) -/

theorem any_collide_none (l : List (Nat × Nat)) (cycle : Nat) (write : Bool) :
    l.any (fun w => collide none cycle w.1 w.2 write) = false := List.any_eq_false.2 fun _ _ => Bool.false_ne_true

/-- A read that meets nothing delivers the bytes and changes the port alone. -/
theorem execBar2Read_of_served {s : State} {off : Fin 16777216} {n : Fin 513} (hup : s.bar2Up = true) (hn : n.val ≠ 0) (hw : s.abp.wbuf = [])
    (haux : s.abp.lastAux = none) (hbank : s.bankServes (off.val / bankBytes) 6 = true) (hin : off.val % bankBytes + n.val ≤ bankBytes) (dc : Nat) :
    ∃ t, exec (.bar2Read off n .ok dc) s = .next t ∧ t.abp.bar2Out = some (s.memRead off.val n.val) ∧ t.mem = s.mem := by
  refine ⟨_, congrArg Host.Outcome.next (if_neg (by simp [hup, hn])), ?_⟩
  extract_lets +onlyGivenNames _ u b v
  have hv : v = u := State.abpFlush_of_empty hw
  have hserves : u.bankServes b 6 = true := hbank
  have hlast : u.abp.lastAux = none := haux
  rw [hv, hserves, if_neg (by simpa using hin)]
  simp only [State.eccCount, hlast, any_collide_none, Bool.false_eq_true, if_false, eccLost]
  exact ⟨rfl, rfl⟩

theorem execBar2Read_of_missed {s : State} {off : Fin 16777216} {n : Fin 513} (hup : s.bar2Up = true) (hn : n.val ≠ 0) (hw : s.abp.wbuf = [])
    (hbank : s.bankServes (off.val / bankBytes) 6 = false) (dc : Nat) :
    exec (.bar2Read off n .ok dc) s = .next
      (State.sf { s.afterCycles dc with abp := { s.abp with bar2Out := some (List.replicate n.val 0xFF) } } HOST_ERR_W2_MISS 1) := by
  refine congrArg Host.Outcome.next ((if_neg (by simp [hup, hn])).trans ?_)
  extract_lets +onlyGivenNames _ u b v
  have hv : v = u := State.abpFlush_of_empty hw
  have hserves : u.bankServes b 6 = false := hbank
  rw [hv, hserves]
  rfl

/-- A write that meets nothing changes the banks' memory, and nothing else but the port. -/
theorem execBar2Write_of_served {s : State} {off : Fin 16777216} {bs : List Byte} (hup : s.bar2Up = true) (hbs : bs ≠ []) (hw : s.abp.wbuf = [])
    (haux : s.abp.lastAux = none) (hbank : s.bankServes (off.val / bankBytes) 7 = true) (hin : off.val % bankBytes + bs.length ≤ bankBytes)
    (be dc : Nat) : ∃ t, exec (.bar2Write off bs be dc) s = .next t ∧ t.mem = ((s.afterCycles dc).memWrite off.val be bs).mem := by
  refine ⟨_, congrArg Host.Outcome.next (if_neg (by simp [hup, hbs])), ?_⟩
  extract_lets +onlyGivenNames _ u b n v
  have hv : v = u := State.abpFlush_of_empty hw
  have hserves : u.bankServes b 7 = true := hbank
  have hlast : u.abp.lastAux = none := haux
  rw [hv, hserves, if_neg (by simpa using hin)]
  simp only [hlast, any_collide_none, Bool.false_eq_true, if_false]
  split <;> rfl

/-- Settles O57: an access that meets nothing by the one branch it takes, the bytes by what a write of a bank's memory changes. -/
theorem auxPortAndBar2 : Obligations.AuxPortAndBar2 := by
  refine ⟨fun s a be v dc hr hb => ⟨fun w l hl hbar hw => ?_, fun hl => ?_⟩, fun s w l be v hr hb hl hw => ?_,
    fun s a be e w l dc hr hb hbar hl => ⟨fun hrb => ?_, fun hrb => ?_⟩, fun s x hr hb hwr hu hecc hw hbank => ?_,
    fun s off n dc hup hn hw => ⟨fun haux hbank hin => ?_, fun hbank => ?_⟩, fun s off bs be dc hup hbs hw haux hbank hin => ?_⟩
  · have hbuf : ((s.afterCycles dc).abpNote (8 * w + l) be.toNat true).abp.wbuf = [] := hw
    refine ⟨_, execAbpWrite_of_located hr hb hl hbar hw be v dc, ?_, rfl⟩
    unfold State.abpBuffer
    rw [hbuf]
    rfl
  · exact ⟨_, execAbpWrite_of_missed hr hb hl be v dc, (s.afterCycles dc).abpMiss_fields a⟩
  · obtain ⟨hempty, hbytes⟩ := State.abpFlush_of_one hw
    obtain ⟨hin, hout⟩ := s.abpEntry_performed w be v.toNat hl
    exact ⟨_, execAbpAccessComplete_of_idle hr hb, hempty, fun i hi => (hbytes _).trans (hin i hi), fun x hx => (hbytes x).trans (hout x hx)⟩
  · exact ⟨_, (execAbpRead_of_located hr hb hl hbar be e dc).trans (congrArg Host.Outcome.next (if_pos hrb)), rfl, hb⟩
  · exact ⟨_, (execAbpRead_of_located hr hb hl hbar be e dc).trans (congrArg Host.Outcome.next (if_neg hrb)), rfl⟩
  · exact ⟨_, execAbpAccessComplete_of_read hr hb hwr hu hecc hw hbank, rfl, rfl, rfl, rfl⟩
  · exact execBar2Read_of_served hup hn hw haux hbank hin dc
  · refine ⟨_, execBar2Read_of_missed hup hn hw hbank dc, rfl, ?_, rfl⟩
    rw [State.gb_sf]
    rfl
  · obtain ⟨t, hexec, hmem⟩ := execBar2Write_of_served hup hbs hw haux hbank hin be dc
    refine ⟨t, hexec, fun i hi => ?_, fun x hx => ?_⟩
    · rw [State.memByte_of_mem hmem, State.memWrite_inside _ _ _ _ hi]
      rfl
    · rw [State.memByte_of_mem hmem, State.memWrite_outside _ _ _ _ hx]
      rfl

end Sys2Proof.Machine
end

section
/-! SUPPORT. Canonical form (O4), the state after reset (O3) and the interrupt registers (O46). -/

namespace Sys2Proof.Machine

/-- Settles O4: the canonical forms are among what every command and the idle cycle keep, and none reads the queue. -/
theorem stepKeepsCanonical : Obligations.StepKeepsCanonical := by
  intro s t hs h
  obtain ⟨hregs, hmem, hnvm⟩ := hs
  obtain ⟨w, hk⟩ := step_keeps h
  exact ⟨hk.regs hregs, hk.memWf hmem, hk.nvmWf hnvm⟩

/-- Settles O3: after reset nothing is listed, so every field reads its reset value. -/
theorem stateAfterReset : Obligations.StateAfterReset := by
  refine ⟨rfl, ⟨rfl, rfl, rfl⟩, rfl, rfl, rfl, rfl, fun _ => rfl, fun n => ?_, fun g => ?_⟩
  · show ((Vector.replicate 64 ({} : Ring))[n]).st = .off
    simp
  · show ((Vector.replicate 2 ({} : Grp))[g]).running = false
    simp

/-! ### INT_STAT, INT_SET, INT_EN (R498, R499) -/

/-- What a write of INT_STAT (b = 0) or of INT_SET (b = 1) makes of the bits. -/
def State.intBits (s : State) (v b : Nat) : State :=
  (List.range 15).foldl (fun s k => if v.testBit k then s.sf (intBit k) b else s) s

theorem intBit_key_ne {i k : Nat} (h : i ≠ k) : (intBit i).key ≠ (intBit k).key := by
  simp only [intBit, Fld.key]
  omega

theorem State.intBits_gb (s : State) (v : Nat) {b k : Nat} (hk : k < 15) :
    (s.intBits v b).gb (intBit k) = if v.testBit k then decide (b % 2 = 1) else s.gb (intBit k) := by
  refine State.foldl_nodup (fun u => u.gb (intBit k)) (fun x => if v.testBit k then decide (b % 2 = 1) else x) List.nodup_range
    (List.mem_range.2 hk) (fun u => ?_) (fun u i _ hi => ?_) s
  · split
    · exact State.gb_sf _ _ _
    · rfl
  · split
    · exact State.gb_sf_ne _ _ (intBit_key_ne hi)
    · rfl

/-- Writes of the bits change registers and nothing else. -/
theorem State.intBits_same {β : Type} (π : State → β) (h : ∀ (u : State) (f : Fld) (x : Nat), π (u.sf f x) = π u) (s : State) (v b : Nat) :
    π (s.intBits v b) = π s :=
  State.foldl_same π (fun u k => by split <;> simp [h]) _ s

theorem State.vecOpen_of_link {s t : State} (hl : t.link = s.link) (hu : t.gb LINK_STAT_UP = s.gb LINK_STAT_UP) (v : Fin 32) :
    t.vecOpen v = s.vecOpen v := by
  simp only [State.vecOpen, State.mayDma, hl, hu]

/-- The bits of INT_STAT lie in no other register, so vector 0 is as open as before. -/
theorem State.intBits_vecOpen (s : State) (v b : Nat) : (s.intBits v b).vecOpen 0 = s.vecOpen 0 := by
  refine State.vecOpen_of_link (s.intBits_same State.link (fun _ _ _ => rfl) v b) ?_ 0
  unfold State.gb
  refine congrArg (fun x => decide (x = 1)) (State.foldl_gf LINK_STAT_UP _ _ s fun u k hk => ?_)
  have hlt : k < 15 := List.mem_range.1 hk
  split
  · exact State.gf_sf_ne _ _ (Fld.key_ne (by simp only [intBit]; omega) (by decide) (.inl (by simp only [intBit]; decide)))
  · rfl

theorem State.intAfterWrite_regs (s : State) : s.intAfterWrite.regs = s.regs := by
  unfold State.intAfterWrite
  split
  · exact s.sendVec_regs 0
  · rfl

theorem State.intE_of_regs {s t : State} (h : t.regs = s.regs) : t.intE = s.intE := by
  simp only [State.intE, State.mbit, State.gb_of_regs h, State.gf_of_regs h]

theorem State.intAfterWrite_intE (s : State) : s.intAfterWrite.intE = s.intE := State.intE_of_regs s.intAfterWrite_regs

/-- With an enabled bit standing and vector 0 open the message goes. -/
theorem State.intAfterWrite_sends {s : State} (h : s.intAfterWrite.intE = true) (ho : s.vecOpen 0 = true) :
    DmaWr.msix 0 (s.link.msix[(0 : Fin 32)]).addr (s.link.msix[(0 : Fin 32)]).data ∈ s.intAfterWrite.out := by
  rw [State.intAfterWrite_intE] at h
  rw [State.intAfterWrite, if_pos h, State.sendVec_of_open ho]
  exact List.mem_append_right _ List.mem_cons_self

theorem State.intAfterWrite_silent {s : State} (h : s.intAfterWrite.intE = false) : s.intAfterWrite.out = s.out := by
  rw [State.intAfterWrite_intE] at h
  rw [State.intAfterWrite, if_neg (by rw [h]; exact Bool.false_ne_true)]

/-- A write whose bits are set sends the message of the state before it, where it leaves the link and the vector alone. -/
theorem State.intBits_sends {s : State} (v b : Nat) (h : (s.intBits v b).intAfterWrite.intE = true) (ho : s.vecOpen 0 = true) :
    DmaWr.msix 0 (s.link.msix[(0 : Fin 32)]).addr (s.link.msix[(0 : Fin 32)]).data ∈ (s.intBits v b).intAfterWrite.out := by
  have hlink : (s.intBits v b).link = s.link := s.intBits_same State.link (fun _ _ _ => rfl) v b
  have hm := State.intAfterWrite_sends h ((s.intBits_vecOpen v b).trans ho)
  rwa [hlink] at hm

theorem execIntStatClear_of {s : State} (hs : s.serving = true) (v : Word) :
    exec (.intStatClear v) s = .next (s.intBits v.toNat 0).intAfterWrite := congrArg Host.Outcome.next (if_pos hs)

theorem execIntSet_of {s : State} (hs : s.serving = true) (v : Word) :
    exec (.intSet v) s = .next (s.intBits v.toNat 1).intAfterWrite := congrArg Host.Outcome.next (if_pos hs)

theorem execIntEnWrite_of {s : State} (hs : s.serving = true) (v : Word) :
    exec (.intEnWrite v) s = .next (s.sf INT_EN_EN v.toNat).intAfterWrite := congrArg Host.Outcome.next (if_pos hs)

/-- Settles O46: each write sets or clears its bits, then E as it stands decides the message. -/
theorem interruptRegisters : Obligations.InterruptRegisters := by
  refine ⟨fun s v hs => ⟨_, execIntStatClear_of hs v, fun k hk => ?_, State.intBits_sends _ _, fun h => ?_⟩,
    fun s v hs => ⟨_, execIntSet_of hs v, fun k hk => ?_, State.intBits_sends _ _⟩,
    fun s v hs => ⟨_, execIntEnWrite_of hs v, ?_, fun k _ => ?_, fun h ho => ?_⟩⟩
  · rw [State.gb_of_regs (State.intAfterWrite_regs _), State.intBits_gb s _ hk]
    cases v.toNat.testBit k <;> simp
  · rw [State.intAfterWrite_silent h]
    exact s.intBits_same State.out (fun _ _ _ => rfl) _ _
  · rw [State.gb_of_regs (State.intAfterWrite_regs _), State.intBits_gb s _ hk]
    cases v.toNat.testBit k <;> simp
  · rw [State.gf_of_regs (State.intAfterWrite_regs _), State.gf_sf]
  · rw [State.gb_of_regs (State.intAfterWrite_regs _), State.gb_sf_ne]
    simp only [intBit, Fld.key]
    omega
  · have hv : (s.sf INT_EN_EN v.toNat).vecOpen 0 = s.vecOpen 0 :=
      State.vecOpen_of_link (s := s) (t := s.sf INT_EN_EN v.toNat) rfl (State.gb_sf_ne _ _ (by decide)) 0
    exact State.intAfterWrite_sends h (hv.trans ho)

end Sys2Proof.Machine
end

section
/-! SUPPORT. Resets and readiness (R43, R333, R335, R407, R409, R479 to R484, R491): what the begin of a save, the entry into reset and
readiness leave of the state. -/

namespace Sys2Proof.Machine

/-! ### The entry into reset (R43, R480, R409) -/

theorem execPowerOnReset_eq (ns : Nat) (s : State) : exec (.powerOnReset ns) s =
    .next (if !(s.pulse ns 500 2001).1 || (s.pulse ns 500 2001).2.rst.phase = .por then (s.pulse ns 500 2001).2
      else
        let u := if (s.pulse ns 500 2001).2.rst.phase = .ready then (s.pulse ns 500 2001).2.leave else (s.pulse ns 500 2001).2
        ({ u.nvmAbandon with rst := { u.rst with cause := 0, gasped := false } } : State).wiped .por) := rfl

/-- A supply out of range for long enough wipes the device; what it did in operation is noted in the persistent part first. -/
theorem execPowerOnReset_of {s : State} {ns : Nat} (h : 2000 < ns) (hp : s.rst.phase ≠ .por) : ∃ (p : Persist) (r : RstSt),
    exec (.powerOnReset ns) s = .next (({ State.nvmAbandon { s with persist := p } with rst := r } : State).wiped .por) ∧ r.cause = 0 := by
  rw [execPowerOnReset_eq, pulse_hit s (by omega) (by omega)]
  by_cases hready : s.rst.phase = .ready
  · exact ⟨_, _, by simp only [Bool.not_true, Bool.false_or, decide_eq_true_eq, if_neg hp, if_pos hready]; rfl, rfl⟩
  · exact ⟨s.persist, _, by simp only [Bool.not_true, Bool.false_or, decide_eq_true_eq, if_neg hp, if_neg hready]; rfl, rfl⟩

/-- What the abandoned write leaves is what the reset keeps. -/
theorem abandoned_leaves {s u : State} {p : Persist} (hu : u = { s with persist := p }) (r : RstSt) (ph : Phase) :
    s.ResetLeaves (({ u.nvmAbandon with rst := r } : State).wiped ph) := by
  obtain ⟨v, k, hv⟩ := nvmAbandon_nvm u
  have hret : s.nvm.retired <:+ u.nvmAbandon.nvm.retired := by
    have h := (State.nvmAbandon_keeps (Nat.and_self _) (.refl _ u)).retired
    rwa [show u.nvm = s.nvm by rw [hu]] at h
  rw [hv, hu] at *
  exact wiped_leaves s _ ph (fun _ _ _ => rfl) rfl rfl rfl rfl rfl (fun _ => rfl) hret

/-- The end of a save leaves what the reset keeps. -/
theorem gaspEnd_leaves (s : State) (ph : Phase) : s.ResetLeaves (s.gaspEnd.wiped ph) := by
  obtain ⟨v, hv⟩ := gaspEnd_nvm s
  have hret := (State.gaspEnd_keeps (Nat.and_self _) (.refl _ s)).retired
  rw [hv] at *
  exact wiped_leaves s _ ph (fun _ _ _ => rfl) rfl rfl rfl rfl rfl (fun _ => rfl) hret

theorem gaspEnd_cause (s : State) (ph : Phase) : (s.gaspEnd.wiped ph).rst.cause = s.rst.cause := by
  obtain ⟨v, hv⟩ := gaspEnd_nvm s
  rw [hv]
  rfl

/-- Settles O8: each way into reset wipes a state that differs from the one before only in what the store's end of a write leaves. -/
theorem resetsLoseAndKeep : Obligations.ResetsLoseAndKeep := by
  refine ⟨fun s ns hns hp => ?_, fun s hp => ?_, fun s hp => ?_, fun s ns hns => ?_⟩
  · obtain ⟨p, r, ht, hcause⟩ := execPowerOnReset_of hns hp
    exact ⟨_, ht, rfl, hcause, abandoned_leaves rfl r .por⟩
  · exact ⟨_, congrArg Host.Outcome.next (if_pos hp), rfl, gaspEnd_cause s _, gaspEnd_leaves s .inReset⟩
  · exact ⟨_, congrArg Host.Outcome.next (if_pos hp), rfl, gaspEnd_cause s _, gaspEnd_leaves s .gaspHeld⟩
  · rw [execPowerOnReset_eq, pulse_miss s hns]
    rfl

/-! ### The sources of a full reset (R479, R480, R271, R295, R348) -/

/-- A completion that the host is shown at once leaves the phase. -/
theorem State.publish_phase (s : State) (n : Fin 64) : (s.publish n).rst.phase = s.rst.phase :=
  (State.publish_keeps (Nat.and_self _) (.refl _ s)).part .phase rfl

theorem State.finish_phase (s : State) (a b : Nat) (l : List Byte) : (s.finish a b l).rst.phase = s.rst.phase :=
  (State.finish_keeps (Nat.and_self _) (.refl _ s)).part .phase rfl

/-- FULL_RESET on a ring completes, its completion may become visible, and the device is still ready when the reset begins. -/
theorem State.doFullReset_ring {s : State} {c : Cmd} (h : s.executes 0x0F c) : ∃ u : State, s.doFullReset c = u.beginReset 4 ∧ u.rst.phase = .ready := by
  obtain ⟨-, i, hvia⟩ := h.cur
  have hboxed : c.boxed = false := by
    unfold Cmd.boxed
    rw [hvia]
  have hready : s.rst.phase = .ready := of_decide_eq_true h.ready
  unfold State.doFullReset
  rw [hboxed, if_neg Bool.false_ne_true]
  refine ⟨_, rfl, ?_⟩
  split
  · split
    · exact (State.publish_phase _ _).trans ((State.finish_phase _ _ _ _).trans hready)
    · exact (State.finish_phase _ _ _ _).trans hready
  · exact (State.finish_phase _ _ _ _).trans hready

theorem State.beginReset_saving {s : State} (h : s.rst.phase = .saving) (k : Nat) :
    s.beginReset k = { s with rst := { s.rst with cause := k } } := by
  unfold State.beginReset
  rw [h]

theorem execResetNAssert_eq (ns : Nat) (s : State) : exec (.resetNAssert ns) s =
    .next (if (s.pulse ns 500 1000).1 then (s.pulse ns 500 1000).2.beginReset 1 else (s.pulse ns 500 1000).2) := rfl

theorem execResetNAssert_hit {s : State} {ns : Nat} (h : 1000 ≤ ns) : exec (.resetNAssert ns) s = .next (s.beginReset 1) := by
  rw [execResetNAssert_eq, pulse_hit s h (by omega)]
  rfl

theorem execPerstNAssert_eq (ns : Nat) (s : State) : exec (.perstNAssert ns) s =
    .next (if (s.pulse ns 500 1000).1 then (s.pulse ns 500 1000).2.beginReset 2 else (s.pulse ns 500 1000).2) := rfl

theorem execPerstNAssert_hit {s : State} {ns : Nat} (h : 1000 ≤ ns) : exec (.perstNAssert ns) s = .next (s.beginReset 2) := by
  rw [execPerstNAssert_eq, pulse_hit s h (by omega)]
  rfl

/-- Settles O9: from operation every source begins the reset with its cause; in a save the cause alone changes. -/
theorem fullResetSources : Obligations.FullResetSources := by
  refine ⟨fun s ns hns hp => ⟨⟨_, execResetNAssert_hit hns, beginReset_ready s 1 hp⟩, ⟨_, execPerstNAssert_hit hns, beginReset_ready s 2 hp⟩⟩,
    fun s hp hup => ⟨_, congrArg Host.Outcome.next (if_pos hup), beginReset_ready s 3 hp⟩, fun s c hx => ?_, fun s hp hw hg => ?_,
    fun s ns hns => ⟨?_, ?_⟩, fun s ns hns hp => ⟨?_, ?_⟩⟩
  · obtain ⟨u, hu, hphase⟩ := State.doFullReset_ring hx
    refine ⟨u.beginReset 4, ?_, beginReset_ready u 4 hphase⟩
    rw [← hu]
    exact congrArg Host.Outcome.next (hx.onCmd _)
  · have hcond : (s.isReady && decide (s.gf WDOG_STAT_WEDGED ≠ 0) && decide (s.gf WDOG_CTRL_GRACE ≠ 0)) = true := by
      simp [State.isReady, hp, hw, hg]
    exact ⟨_, congrArg Host.Outcome.next (if_pos hcond), beginReset_ready s 5 hp⟩
  · rw [execResetNAssert_eq, pulse_miss s hns]
    rfl
  · rw [execPerstNAssert_eq, pulse_miss s hns]
    rfl
  · rw [execResetNAssert_hit hns, State.beginReset_saving hp]
  · rw [execPerstNAssert_hit hns, State.beginReset_saving hp]

/-! ### Readiness (R333, R484, R491) -/

theorem State.bankFenced_of_fence {s t : State} (hlo : t.gf FENCE_BANK_LO_BANK = s.gf FENCE_BANK_LO_BANK)
    (hhi : t.gf FENCE_BANK_HI_BANK = s.gf FENCE_BANK_HI_BANK) (b : Nat) : t.bankFenced b = s.bankFenced b := by
  simp only [State.bankFenced, State.mbit, hlo, hhi]

/-- The state in which readiness has been noted and the fences of start-up are set. -/
def State.readyBegun (s : State) (dt : Nat) (bb : List (Fin 64)) (bl : List (Fin 2)) : State :=
  ((s.timeTo (dt * 2 ^ 32)).startFences bb bl).readyState

/-- The registers, interrupts and LOG records of readiness. -/
def State.readyTold (s : State) (units : List (Nat × Nat)) : State :=
  ((s.readyRegs (!units.isEmpty)).readyInts).startLogs units

theorem State.goReady_eq (s : State) (dt : Nat) (bb : List (Fin 64)) (bl : List (Fin 2)) : ∃ units,
    s.goReady dt bb bl = (((s.readyBegun dt bb bl).readyTold units).readySlices).autostart.calReach := ⟨_, rfl⟩

theorem State.readyBegun_rst (s : State) (dt : Nat) (bb : List (Fin 64)) (bl : List (Fin 2)) :
    (s.readyBegun dt bb bl).rst.phase = .ready ∧ (s.readyBegun dt bb bl).rst.cause = s.rst.cause ∧
    (s.readyBegun dt bb bl).rst.saved = s.rst.saved ∧
    (s.readyBegun dt bb bl).persist.rcount = s.persist.rcount + (if s.rst.cause = 0 then 0 else 1) ∧
    (s.readyBegun dt bb bl).now = max s.time.t (dt * 2 ^ 32) / 2 ^ 32 % 2 ^ 64 := by
  have hk := State.startFences_keeps (x1 := bb) (x2 := bl) (Nat.and_self _) (.refl _ (s.timeTo (dt * 2 ^ 32)))
  have hrst : ((s.timeTo (dt * 2 ^ 32)).startFences bb bl).rst = s.rst := hk.part .rst rfl
  have hper : ((s.timeTo (dt * 2 ^ 32)).startFences bb bl).persist = s.persist := hk.part .persist rfl
  have htime : ((s.timeTo (dt * 2 ^ 32)).startFences bb bl).time = (s.timeTo (dt * 2 ^ 32)).time := hk.clock rfl rfl
  unfold State.readyBegun State.readyState State.now
  rw [hrst, hper, htime]
  exact ⟨rfl, rfl, rfl, rfl, rfl⟩

/-- What follows the registers of readiness leaves phase, cause and count, and the registers of the reset, the fences and the slices. -/
theorem State.readyTold_rst (s : State) (units : List (Nat × Nat)) :
    (s.readyTold units).rst = s.rst ∧ (s.readyTold units).persist = s.persist := by
  have hr := State.readyRegs_keeps (x1 := !units.isEmpty) (Nat.and_self _) (.refl _ s)
  have hi := State.readyInts_keeps (Nat.and_self _) (.refl _ (s.readyRegs (!units.isEmpty)))
  have hl := State.startLogs_keeps (x1 := units) (Nat.and_self _) (.refl _ (s.readyRegs (!units.isEmpty)).readyInts)
  exact ⟨(hl.part .rst rfl).trans ((hi.part .rst rfl).trans (hr.part .rst rfl)),
    (hl.part .persist rfl).trans ((hi.part .persist rfl).trans (hr.part .persist rfl))⟩

theorem State.readyTold_gf (s : State) (units : List (Nat × Nat)) {f : Fld} (hf : f.lo < 32) {g : RegGroup} (hg : regGroup f.off = g)
    (hm : g = .rst ∨ g = .fence ∨ g = .slice) : (s.readyTold units).gf f = (s.readyRegs (!units.isEmpty)).gf f := by
  have hi := State.readyInts_keeps (Nat.and_self _) (.refl _ (s.readyRegs (!units.isEmpty)))
  have hl := State.startLogs_keeps (x1 := units) (Nat.and_self _) (.refl _ (s.readyRegs (!units.isEmpty)).readyInts)
  rcases hm with rfl | rfl | rfl <;> exact (hl.reg f hf (by rw [hg]; rfl)).trans (hi.reg f hf (by rw [hg]; rfl))

/-- Outside the registers of the reset readiness tells nothing. -/
theorem State.readyTold_gf_ne (s : State) (units : List (Nat × Nat)) {f : Fld} (hf : f.lo < 32) {g : RegGroup} (hg : regGroup f.off = g)
    (hm : g = .fence ∨ g = .slice) : (s.readyTold units).gf f = s.gf f := by
  refine (s.readyTold_gf units hf hg (.inr hm)).trans ((readyRegs_gf s _).2.2.2.2.2 f hf ?_)
  rw [hg]
  rcases hm with rfl | rfl <;> decide

/-- While a slice is active the units that start leave the registers of the reset, and START's effects leave the fences. -/
theorem State.started_gf (s : State) {f : Fld} (hl : f.lo < 32) (hr : regGroup f.off = .rst) (h1 : f.key ≠ RST_STAT_AUTO_RUN.key)
    (h2 : f.key ≠ RST_STAT_AUTO_REF.key) (h3 : f.key ≠ RST_STAT_AUTO_PAIRS.key) : s.autostart.calReach.gf f = s.gf f :=
  ((State.calReach_keeps (Nat.and_self _) (.refl _ s.autostart)).reg f hl (by rw [hr]; rfl)).trans (autostart_gf s f hl hr h1 h2 h3)

theorem State.started_fence (s : State) {f : Fld} (hl : f.lo < 32) (hr : regGroup f.off = .fence) : s.autostart.calReach.gf f = s.gf f :=
  ((State.calReach_keeps (Nat.and_self _) (.refl _ s.autostart)).reg f hl (by rw [hr]; rfl)).trans
    ((State.autostart_keeps (Nat.and_self _) (.refl _ s)).reg f hl (by rw [hr]; rfl))

theorem State.readyBegun_slice (s : State) (dt : Nat) (bb : List (Fin 64)) (bl : List (Fin 2)) :
    (s.readyBegun dt bb bl).gf SLICE_STAT_ACTIVE = s.gf SLICE_STAT_ACTIVE :=
  (State.startFences_keeps (x1 := bb) (x2 := bl) (Nat.and_self _) (.refl _ (s.timeTo (dt * 2 ^ 32)))).reg SLICE_STAT_ACTIVE (by decide) rfl

/-- Readiness has come, whatever the units that start do then: phase and count of full resets. -/
theorem State.goReady_phase (s : State) (dt : Nat) (bb : List (Fin 64)) (bl : List (Fin 2)) :
    (s.goReady dt bb bl).rst.phase = .ready ∧
    (s.goReady dt bb bl).persist.rcount = s.persist.rcount + (if s.rst.cause = 0 then 0 else 1) := by
  obtain ⟨units, hgo⟩ := s.goReady_eq dt bb bl
  obtain ⟨hphase, -, -, hcount, -⟩ := s.readyBegun_rst dt bb bl
  obtain ⟨hrst, hpersist⟩ := (s.readyBegun dt bb bl).readyTold_rst units
  have h1 := State.readySlices_keeps (Nat.and_self _) (.refl _ ((s.readyBegun dt bb bl).readyTold units))
  have h2 := State.autostart_keeps (Nat.and_self _) (.refl _ ((s.readyBegun dt bb bl).readyTold units).readySlices)
  have h3 := State.calReach_keeps (Nat.and_self _) (.refl _ ((s.readyBegun dt bb bl).readyTold units).readySlices.autostart)
  rw [hgo]
  refine ⟨(h3.part .phase rfl).trans ((h2.part .phase rfl).trans ((h1.part .phase rfl).trans ?_)), ?_⟩
  · exact (congrArg RstSt.phase hrst).trans hphase
  · exact (congrArg Persist.rcount ((h3.part .persist rfl).trans ((h2.part .persist rfl).trans ((h1.part .persist rfl).trans hpersist)))).trans hcount

/-- With an active slice nothing is lost at readiness. -/
theorem State.goReady_active (s : State) (dt : Nat) (bb : List (Fin 64)) (bl : List (Fin 2)) (hs : s.gf SLICE_STAT_ACTIVE ≠ 3) :
    ∃ units, s.goReady dt bb bl = ((s.readyBegun dt bb bl).readyTold units).autostart.calReach := by
  obtain ⟨units, hgo⟩ := s.goReady_eq dt bb bl
  have hact : ((s.readyBegun dt bb bl).readyTold units).gf SLICE_STAT_ACTIVE = s.gf SLICE_STAT_ACTIVE :=
    ((s.readyBegun dt bb bl).readyTold_gf_ne units (by decide) rfl (.inr rfl)).trans (s.readyBegun_slice dt bb bl)
  refine ⟨units, hgo.trans ?_⟩
  rw [State.readySlices, if_neg (by rw [hact]; exact hs)]

/-- The registers of the reset at readiness. -/
theorem State.goReady_rst (s : State) (dt : Nat) (bb : List (Fin 64)) (bl : List (Fin 2)) (hs : s.gf SLICE_STAT_ACTIVE ≠ 3) :
    (s.goReady dt bb bl).gf RST_STAT_READY = 1 ∧ (s.goReady dt bb bl).gf RST_STAT_CAUSE = s.rst.cause % 8 ∧
    (s.goReady dt bb bl).gf RST_STAT_SAVED = b2n s.rst.saved % 2 ∧
    (s.goReady dt bb bl).g64 RST_TREADY_LO_FRAC RST_TREADY_HI_SEC = max s.time.t (dt * 2 ^ 32) / 2 ^ 32 % 2 ^ 64 := by
  obtain ⟨units, hgo⟩ := s.goReady_active dt bb bl hs
  obtain ⟨-, hcause, hsaved, -, hnow⟩ := s.readyBegun_rst dt bb bl
  have hlt : max s.time.t (dt * 2 ^ 32) / 2 ^ 32 % 2 ^ 64 < 2 ^ 64 := Nat.mod_lt _ (Nat.two_pow_pos 64)
  obtain ⟨hc, hr, hv, hlo, hhi, -⟩ := readyRegs_gf (s.readyBegun dt bb bl) (!units.isEmpty)
  have hkeep (f : Fld) (hl : f.lo < 32) (hg : regGroup f.off = .rst) (h1 : f.key ≠ RST_STAT_AUTO_RUN.key)
      (h2 : f.key ≠ RST_STAT_AUTO_REF.key) (h3 : f.key ≠ RST_STAT_AUTO_PAIRS.key) :
      (s.goReady dt bb bl).gf f = ((s.readyBegun dt bb bl).readyRegs (!units.isEmpty)).gf f := by
    rw [hgo, State.started_gf _ hl hg h1 h2 h3, State.readyTold_gf _ _ hl hg (.inl rfl)]
  refine ⟨?_, ?_, ?_, ?_⟩
  · rw [hkeep _ (by decide) rfl (by decide) (by decide) (by decide), hr]
  · rw [hkeep _ (by decide) rfl (by decide) (by decide) (by decide), hc, hcause]
  · rw [hkeep _ (by decide) rfl (by decide) (by decide) (by decide), hv, hsaved]
  · rw [State.g64, hkeep _ (by decide) rfl (by decide) (by decide) (by decide), hlo,
      hkeep _ (by decide) rfl (by decide) (by decide) (by decide), hhi, hnow]
    omega

/-- A fence that start-up set stands at readiness. -/
theorem State.goReady_fence (s : State) (dt : Nat) (bb : List (Fin 64)) (bl : List (Fin 2)) (hs : s.gf SLICE_STAT_ACTIVE ≠ 3) {f : Fld}
    (hl : f.lo < 32) (hg : regGroup f.off = .fence) : (s.goReady dt bb bl).gf f = ((s.timeTo (dt * 2 ^ 32)).startFences bb bl).gf f := by
  obtain ⟨units, hgo⟩ := s.goReady_active dt bb bl hs
  rw [hgo, State.started_fence _ hl hg, State.readyTold_gf_ne _ _ hl hg (.inl rfl)]
  rfl

/-- Settles O12: what readiness tells, and what start-up fenced, stands at its end. -/
theorem startUpEndsReady : Obligations.StartUpEndsReady := by
  intro s dt bb bl hs
  obtain ⟨hphase, hcount⟩ := s.goReady_phase dt bb bl
  refine ⟨_, congrArg Host.Outcome.next (if_pos hs), hphase, hcount, fun hact => ?_⟩
  obtain ⟨hready, hcause, hsaved, htime⟩ := s.goReady_rst dt bb bl hact
  refine ⟨decide_eq_true hready, hcause, ?_, htime, fun b hb => ?_, fun k hk => ?_⟩
  · rw [State.gb, hsaved, b2n_mod_two]
  · rw [State.bankFenced_of_fence (s.goReady_fence dt bb bl hact (by decide) rfl) (s.goReady_fence dt bb bl hact (by decide) rfl)]
    exact startFences_bank _ bb bl b hb
  · rw [State.mbit, s.goReady_fence dt bb bl hact (by decide) rfl]
    exact startFences_lane _ bb bl k hk

end Sys2Proof.Machine
end

section
/-! SUPPORT. Locks lost and found (R15, R16, R500). -/

namespace Sys2Proof.Machine

/-- The pairs that a lost lock ends leave the clock registers. -/
theorem State.tsEndAll_gf (s : State) {f : Fld} (hf : f.lo < 32) (hg : regGroup f.off = .clk) :
    ((fins 8).foldl (fun (s : State) (n : Fin 8) => if s.tsOn n then s.tsEnd n gapHalt else s) s).gf f = s.gf f := by
  refine State.foldl_same (fun u => u.gf f) (fun u n => ?_) _ s
  split
  · exact (State.tsEnd_keeps (Nat.and_self _) (.refl _ u)).reg f hf (by rw [hg]; rfl)
  · rfl

/-- The registers of a TPLL that loses lock, and the pairs that end with it. -/
def State.tpllLost (s : State) : State :=
  let u := s.sf CLK_STAT_TPLL_LOCK 0
  let v := if (List.range 8).any s.tsOn then u.sf CLK_EVT_TPLL_UNLOCK 1 else u
  (fins 8).foldl (fun (s : State) (n : Fin 8) => if s.tsOn n then s.tsEnd n gapHalt else s) v

theorem execTpllUnlock_of {s : State} (hr : s.isReady = true) (hf : s.time.frozen = false) (hl : s.gb CLK_STAT_TPLL_LOCK = true) :
    exec .tpllUnlock s = .next s.tpllLost := congrArg Host.Outcome.next (if_pos (by simp [hr, hf, hl]))

theorem execTpllRelock_of {s : State} (hr : s.isReady = true) (hf : s.time.frozen = false) :
    exec .tpllRelock s = .next (s.sf CLK_STAT_TPLL_LOCK 1) := congrArg Host.Outcome.next (if_pos (by simp [hr, hf]))

theorem State.tpllLost_lock (s : State) : s.tpllLost.gb CLK_STAT_TPLL_LOCK = false := by
  unfold State.tpllLost State.gb
  rw [State.tsEndAll_gf _ (by decide) rfl]
  split
  · rw [State.gf_sf_ne _ _ (by decide), State.gf_sf]
    rfl
  · rw [State.gf_sf]
    rfl

/-- The event is noted exactly with a pair that ran. -/
theorem State.tpllLost_event (s : State) :
    s.tpllLost.gf CLK_EVT_TPLL_UNLOCK = if (List.range 8).any s.tsOn then 1 else s.gf CLK_EVT_TPLL_UNLOCK := by
  unfold State.tpllLost
  rw [State.tsEndAll_gf _ (by decide) rfl]
  split
  · exact State.gf_sf _ _ _
  · exact State.gf_sf_ne _ _ (by decide)

/-- The stop of REFCLK is noted and the link is lost. -/
def State.refclkLost (s : State) : State := (s.sf CLK_STAT_REFCLK_LOST 1).linkLost

/-- CORE goes on from XO after its switch. -/
def State.coreToXo (s : State) : State :=
  State.sfs { s with time := { s.time with coreStop := true } } [(CLK_STAT_CORE_SRC, 1), (CLK_STAT_CORE_LOCK, 0), (CLK_EVT_CORE_SWITCH, 1)]

theorem State.coreToXo_fields (s : State) : s.coreToXo.gb CLK_STAT_CORE_SRC = true ∧ s.coreToXo.gb CLK_STAT_CORE_LOCK = false ∧
    s.coreToXo.gb CLK_EVT_CORE_SWITCH = true ∧ s.coreToXo.time.coreStop = true := by
  unfold State.coreToXo State.gb
  rw [State.gf_sfs_get _ _ 0 CLK_STAT_CORE_SRC 1 rfl (by decide), State.gf_sfs_get _ _ 1 CLK_STAT_CORE_LOCK 0 rfl (by decide),
    State.gf_sfs_get _ _ 2 CLK_EVT_CORE_SWITCH 1 rfl (by decide)]
  exact ⟨rfl, rfl, rfl, rfl⟩

theorem State.coreToXo_gb (s : State) {f : Fld} (h0 : CLK_STAT_CORE_SRC.key ≠ f.key) (h1 : CLK_STAT_CORE_LOCK.key ≠ f.key)
    (h2 : CLK_EVT_CORE_SWITCH.key ≠ f.key) : s.coreToXo.gb f = s.gb f := by
  unfold State.coreToXo State.gb
  rw [State.gf_sfs_ne _ _ (by simp [h0, h1, h2])]
  rfl

theorem execRefclkStop_of {s : State} (hr : s.isReady = true) (hp : s.spiOnly = false) (hl : s.gb CLK_STAT_REFCLK_LOST = false) :
    exec .refclkStop s = .next (if s.refclkLost.coreXo then s.refclkLost else s.refclkLost.coreToXo) :=
  congrArg Host.Outcome.next (if_neg (by simp [hr, hp, hl]))

theorem State.refclkLost_fields (s : State) : s.refclkLost.gb CLK_STAT_REFCLK_LOST = true ∧ s.refclkLost.gb LINK_STAT_UP = false ∧
    s.refclkLost.gb LINK_STAT_LOST = true ∧ s.refclkLost.coreXo = s.gb CLK_STAT_CORE_SRC := by
  have hk := State.linkLost_keeps (Nat.and_self _) (.refl _ (s.sf CLK_STAT_REFCLK_LOST 1))
  obtain ⟨hup, -, -, -, hlost⟩ := (s.sf CLK_STAT_REFCLK_LOST 1).linkOff_fields
  refine ⟨(hk.gb _ (by decide) rfl).trans (State.gb_sf _ _ _), ?_, ?_, (hk.gb _ (by decide) rfl).trans (State.gb_sf_ne _ _ (by decide))⟩
  · rw [State.refclkLost, State.linkLost_eq, State.raise_gb_ne _ (by decide), hup]
  · rw [State.refclkLost, State.linkLost_eq, State.raise_gb_ne _ (by decide), hlost]

/-- The state in which the CORE PLL has locked again. -/
def State.coreLocked (s : State) : State := State.sf { s with time := { s.time with coreStop := false } } CLK_STAT_CORE_LOCK 1

theorem execCorePllRelock_of {s : State} (hr : s.isReady = true) (hc : s.time.coreStop = true) (hh : s.time.lateHalt = false) :
    exec .corePllRelock s = .next s.coreLocked.fifoDrain.tsDrain.startSign := congrArg Host.Outcome.next (if_pos (by simp [hr, hc, hh]))

/-- What waited for CORE leaves its clock. -/
theorem State.coreResumed_clock (s : State) : s.fifoDrain.tsDrain.startSign.gb CLK_STAT_CORE_LOCK = s.gb CLK_STAT_CORE_LOCK ∧
    s.fifoDrain.tsDrain.startSign.time = s.time := by
  have h1 := State.fifoDrain_keeps (Nat.and_self _) (.refl _ s)
  have h2 := State.tsDrain_keeps (Nat.and_self _) (.refl _ s.fifoDrain)
  have h3 := State.startSign_keeps (Nat.and_self _) (.refl _ s.fifoDrain.tsDrain)
  exact ⟨(h3.gb _ (by decide) rfl).trans ((h2.gb _ (by decide) rfl).trans (h1.gb _ (by decide) rfl)),
    (h3.clock rfl rfl).trans ((h2.clock rfl rfl).trans (h1.clock rfl rfl))⟩

/-- Settles O15: the registers of each lost or found lock, which what ends or resumes with it leaves. -/
theorem locksLostAndFound : Obligations.LocksLostAndFound := by
  refine ⟨fun s hr hf hl => ⟨_, execTpllUnlock_of hr hf hl, s.tpllLost_lock, fun h => ?_, fun h => ?_⟩,
    fun s hr hf => ⟨_, execTpllRelock_of hr hf, rfl, State.gb_sf _ _ _, fun f hne => State.gf_sf_ne _ _ hne.symm⟩,
    fun s hr hp hl => ⟨_, execRefclkStop_of hr hp hl, ?_⟩,
    fun s hr => ⟨_, congrArg Host.Outcome.next (if_pos hr), State.gb_sf _ _ _, rfl⟩, fun s hr hc hh => ?_⟩
  · rw [State.gb, s.tpllLost_event, if_pos h]
    rfl
  · rw [s.tpllLost_event, if_neg (by simp [h])]
  · obtain ⟨href, hup, hlost, hcore⟩ := s.refclkLost_fields
    rw [hcore]
    cases s.gb CLK_STAT_CORE_SRC with
    | true => exact ⟨href, hup, hlost, fun h => Bool.noConfusion h⟩
    | false =>
      have hgb (f : Fld) (h0 : CLK_STAT_CORE_SRC.key ≠ f.key) (h1 : CLK_STAT_CORE_LOCK.key ≠ f.key) (h2 : CLK_EVT_CORE_SWITCH.key ≠ f.key) :=
        s.refclkLost.coreToXo_gb h0 h1 h2
      exact ⟨(hgb _ (by decide) (by decide) (by decide)).trans href, (hgb _ (by decide) (by decide) (by decide)).trans hup,
        (hgb _ (by decide) (by decide) (by decide)).trans hlost, fun _ => s.refclkLost.coreToXo_fields⟩
  · obtain ⟨hlock, htime⟩ := s.coreLocked.coreResumed_clock
    exact ⟨_, execCorePllRelock_of hr hc hh, hlock.trans (State.gb_sf _ _ _), congrArg TimeSt.coreStop htime⟩

end Sys2Proof.Machine
end

section
/-! SUPPORT. Correctable words (R343). -/

namespace Sys2Proof.Machine

/-- A correctable word is counted and located; nothing but these registers changes. -/
theorem State.eccCount_corrected (s : State) (region word : Nat) :
    ∃ r, s.eccCount .corrected region word = { s with regs := r } ∧
      (s.eccCount .corrected region word).gf ERR_CE_COUNT = min (s.gf ERR_CE_COUNT + 1) (2 ^ 32 - 1) ∧
      (s.eccCount .corrected region word).gf ERR_CE_LAST_REGION = region % 2 ^ 8 ∧
      (s.eccCount .corrected region word).gf ERR_CE_LAST_WORD = word % 2 ^ 16 := by
  refine ⟨_, (State.sfs_eq _ _).trans rfl, ?_, ?_, ?_⟩
  · refine (State.gf_sfs_ne _ _ (by simp; decide)).trans ((State.gf_sf _ _ _).trans (Nat.mod_eq_of_lt ?_))
    exact Nat.lt_of_le_of_lt (Nat.min_le_right _ _) (by decide)
  · exact State.gf_sfs_get _ _ 0 ERR_CE_LAST_REGION region rfl (by simp; decide)
  · exact State.gf_sfs_get _ _ 1 ERR_CE_LAST_WORD word rfl (by rfl)

theorem execFabricAccessComplete_of_corrected {s : State} {reqs : List FabPresent} {word region : Nat} {hits : List UeHit}
    (h : (hits.findSome? UeHit.fifo).orElse (fun _ => (s.fabRun reqs).1) = some region) :
    exec (.fabricAccessComplete reqs .corrected word hits) s = .next ((s.fabRun reqs).2.eccCount .corrected region word) := by
  show Host.Outcome.next _ = _
  rw [h]
  rfl

/-- A BAR2 read of a correctable word that meets nothing counts it and delivers the bytes of the memory. -/
theorem execBar2Read_of_corrected {s : State} {off : Fin 16777216} {n : Fin 513} (hup : s.bar2Up = true) (hn : n.val ≠ 0) (hw : s.abp.wbuf = [])
    (haux : s.abp.lastAux = none) (hbank : s.bankServes (off.val / bankBytes) 6 = true) (hin : off.val % bankBytes + n.val ≤ bankBytes) (dc : Nat) :
    ∃ a, a.bar2Out = some (s.memRead off.val n.val) ∧ exec (.bar2Read off n .corrected dc) s =
      .next { (s.afterCycles dc).eccCount .corrected (off.val / bankBytes) (off.val % bankBytes / 32) with abp := a } := by
  let u := s.afterCycles dc
  have hlast (b w : Nat) : (u.eccCount .corrected b w).abp.lastAux = none := by
    obtain ⟨r, hr, -⟩ := u.eccCount_corrected b w
    rw [hr]
    exact haux
  have hmem (b w : Nat) : (u.eccCount .corrected b w).memRead off.val n.val = s.memRead off.val n.val := by
    obtain ⟨r, hr, -⟩ := u.eccCount_corrected b w
    rw [hr]
    rfl
  suffices h : ∃ a, a.bar2Out = some (s.memRead off.val n.val) ∧ _ =
      { u.eccCount .corrected (off.val / bankBytes) (off.val % bankBytes / 32) with abp := a } from
    h.imp fun a ha => ⟨ha.1, congrArg Host.Outcome.next ((if_neg (by simp [hup, hn])).trans ha.2)⟩
  extract_lets +onlyGivenNames _ _ b v
  have hv : v = u := State.abpFlush_of_empty hw
  have hserves : u.bankServes b 6 = true := hbank
  rw [hv, hserves, if_neg (by simpa using hin)]
  simp only [hlast, any_collide_none, Bool.false_eq_true, if_false, eccLost, hmem]
  exact ⟨_, rfl, rfl⟩

/-- Settles O52: the word is counted and located, and the rest is what the access leaves. -/
theorem correctableWords : Obligations.CorrectableWords := by
  refine ⟨fun s reqs word region hits h => ?_, fun s off n dc hup hn hw haux hbank hin => ?_⟩
  · obtain ⟨r, hr, hcount, hregion, hword⟩ := (s.fabRun reqs).2.eccCount_corrected region word
    have hk := State.fabRun_keeps (x1 := reqs) (Nat.and_self _) (.refl _ s)
    refine ⟨_, execFabricAccessComplete_of_corrected h, ?_, hregion, hword, ?_⟩
    · rw [hcount, hk.reg ERR_CE_COUNT (by decide) rfl]
    · rw [hr]
      exact ⟨hk.part .formed rfl, hk.part .rings rfl, hk.part .grp rfl, hk.part .mem rfl, hk.part .heldLog rfl⟩
  · obtain ⟨a, ha, hexec⟩ := execBar2Read_of_corrected hup hn hw haux hbank hin dc
    obtain ⟨r, hr, hcount, hregion, hword⟩ := (s.afterCycles dc).eccCount_corrected (off.val / bankBytes) (off.val % bankBytes / 32)
    refine ⟨_, hexec, hcount, hregion, hword.trans (Nat.mod_eq_of_lt ?_), ha, ?_⟩
    · have := Nat.mod_lt off.val (show 0 < bankBytes by decide)
      simp only [bankBytes] at this ⊢
      omega
    · rw [hr]
      exact ⟨rfl, rfl, rfl⟩

end Sys2Proof.Machine
end

section
/-! SUPPORT. The background test (R381 to R385). -/

namespace Sys2Proof.Machine

theorem State.lastGasp_of_ready {s : State} (h : s.isReady = true) : s.lastGasp = false := by
  simp [State.lastGasp, of_decide_eq_true h]

/-- A region in test in the bank is restored and counted as deferred. -/
theorem State.mtestDefer_of_active {s : State} (h : s.mtest.active = true) :
    s.mtestDefer s.mtest.bank = ({ s with mtest := { s.mtest with active := false } } : State).incSat MTEST_DEFER_COUNT 1 :=
  if_pos (by simp [h])

theorem execMtestRegionStart_of {s : State} {r : Nat} {w : Bool} (hr : s.isReady = true) (hen : s.gb MTEST_CTRL_EN = true)
    (ha : s.mtest.active = false) (hn : s.mtestNext 66 s.mtest.next false = some (r, w)) (hi : s.bankIdle (r / 128) = true) :
    ∃ regs, exec .mtestRegionStart s =
      .next { s with mtest := { active := true, bank := r / 128, region := r % 128, next := r + 1, step := 0 }, regs := regs } := by
  have hcond : (!s.gb MTEST_CTRL_EN || s.mtest.active || !s.isReady || s.lastGasp) = false := by
    simp [hen, ha, hr, State.lastGasp_of_ready hr]
  suffices h : ∃ regs, _ = ({ s with mtest := { active := true, bank := r / 128, region := r % 128, next := r + 1, step := 0 }, regs := regs } : State) by
    obtain ⟨regs, h⟩ := h
    exact ⟨regs, congrArg Host.Outcome.next h⟩
  rw [hcond, if_neg Bool.false_ne_true, hn]
  simp only [hi, if_true]
  cases w <;> exact ⟨_, rfl⟩

/-- The bank in test is claimed for the accesses of a step. -/
def State.mtestBusy (s : State) : State :=
  { s with fab := { s.fab with busy := SMap.set (fun _ => 0) s.fab.busy s.mtest.bank (s.fab.cycle + 32) } }

/-- A March read that differs ends the test of the region and shows the place. -/
def State.mtestFailed (s : State) (w : Fin 8192) (i : Fin 275) : State :=
  ({ s.mtestBusy with mtest := { s.mtest with active := false } } : State).sfs [(MTEST_FAIL_BANK, s.mtest.bank), (MTEST_FAIL_WORD, w),
    (MTEST_FAIL_BIT, i), (MTEST_FAIL_VALID, 1)]

theorem State.mtestFailed_shows (s : State) (w : Fin 8192) (i : Fin 275) (hb : s.mtest.bank < 64) :
    (s.mtestFailed w i).mtest.active = false ∧ (s.mtestFailed w i).gb MTEST_FAIL_VALID = true ∧
    (s.mtestFailed w i).gf MTEST_FAIL_BANK = s.mtest.bank ∧ (s.mtestFailed w i).gf MTEST_FAIL_WORD = w.val ∧
    (s.mtestFailed w i).gf MTEST_FAIL_BIT = i.val := by
  refine ⟨rfl, State.gb_sf _ MTEST_FAIL_VALID 1, ?_, ?_, ?_⟩
  · exact (State.gf_sfs_get _ _ 0 MTEST_FAIL_BANK s.mtest.bank rfl (by simp; decide)).trans (Nat.mod_eq_of_lt hb)
  · exact (State.gf_sfs_get _ _ 1 MTEST_FAIL_WORD w.val rfl (by simp; decide)).trans (Nat.mod_eq_of_lt w.isLt)
  · exact (State.gf_sfs_get _ _ 2 MTEST_FAIL_BIT i.val rfl (by simp; decide)).trans (Nat.mod_eq_of_lt (Nat.lt_trans i.isLt (by decide)))

theorem execMtestStep_eq {s : State} (hr : s.isReady = true) (ha : s.mtest.active = true) (hi : s.bankIdle s.mtest.bank = true)
    (fail : Option (Fin 8192 × Fin 275)) :
    exec (.mtestStep fail) s = .next (match (if 4 ≤ s.mtest.step && s.mtest.step < 40 then fail else none) with
      | some (w, i) => (s.mtestFailed w i).fenceBank s.mtest.bank
      | none =>
        if s.mtest.step = 43 then { s.mtestBusy with mtest := { s.mtest with active := false, step := 0 } }
        else { s.mtestBusy with mtest := { s.mtest with step := s.mtest.step + 1 } }) :=
  congrArg Host.Outcome.next (if_neg (by simp [ha, hi, State.lastGasp_of_ready hr]))

theorem execMtestStep_passed {s : State} (hr : s.isReady = true) (ha : s.mtest.active = true) (hi : s.bankIdle s.mtest.bank = true) :
    exec (.mtestStep none) s = .next (if s.mtest.step = 43 then { s.mtestBusy with mtest := { s.mtest with active := false, step := 0 } }
      else { s.mtestBusy with mtest := { s.mtest with step := s.mtest.step + 1 } }) := by
  rw [execMtestStep_eq hr ha hi, ite_self]

theorem execMtestStep_failed {s : State} (hr : s.isReady = true) (ha : s.mtest.active = true) (hi : s.bankIdle s.mtest.bank = true)
    (h4 : 4 ≤ s.mtest.step) (h40 : s.mtest.step < 40) (w : Fin 8192) (i : Fin 275) :
    exec (.mtestStep (some (w, i))) s = .next ((s.mtestFailed w i).fenceBank s.mtest.bank) := by
  rw [execMtestStep_eq hr ha hi, if_pos (by simp [h4, h40])]

/-- The FENCE bit is set, whatever the effects by owner. -/
theorem State.fenceBit_mbit (s : State) (f : Fld) (i : Nat) (hi : i < f.w) (hm : f.key ≠ FENCE_MISC_RUNCOUNT.key)
    (hint : f.key ≠ (intBit 6).key) : (s.fenceBit f i).mbit f i = true := by
  have h : (s.fenceBit f i).gf f = (s.smbit f i true).gf f :=
    (State.raise_gf_ne _ hint.symm).trans (State.gf_sf_ne _ _ hm.symm)
  unfold State.mbit
  rw [h]
  exact (State.mbit_smbit s f i i true hi).trans (if_pos rfl)

/-- What a fence means to the owner of the bank: the sums, capture or spectra lose it, and LOG tells it. -/
def State.fenceEffects (s : State) (o b : Nat) : State :=
  let h := if o = 0 then s.statBankLost b else ([], s)
  let u := if o = 1 then h.2.capBankLost b else h.2
  let v := if o = 2 then (u.specBankLost b).supSync u.supraOn else u
  v.unitLost 2 b 0 h.1

theorem State.fenceBank_eq (s : State) (b : Nat) : s.fenceBank b = (if b < 32 then (s.abpBankLost b).fenceBit FENCE_BANK_LO_BANK b
    else (s.abpBankLost b).fenceBit FENCE_BANK_HI_BANK (b - 32)).fenceEffects (s.gf (BANK_OWNER_OWNER b)) b := rfl

theorem State.fenceEffects_fence (s : State) (o b : Nat) {f : Fld} (hf : f.lo < 32) (hg : regGroup f.off = .fence) :
    (s.fenceEffects o b).gf f = s.gf f := by
  have hbit {w : Nat} {t u : State} (hk : State.Keeps w t u) (hw : w.testBit (64 + RegGroup.fence.ctorIdx) = false) : u.gf f = t.gf f :=
    hk.reg f hf (by rw [hg]; exact hw)
  unfold State.fenceEffects
  extract_lets h u v
  have hh : h.2.gf f = s.gf f := by
    simp only [h]
    split
    · exact hbit (State.statBankLost_keeps (Nat.and_self _) (.refl _ s)) rfl
    · rfl
  have hu : u.gf f = h.2.gf f := by
    simp only [u]
    split
    · exact hbit (State.capBankLost_keeps (Nat.and_self _) (.refl _ h.2)) rfl
    · rfl
  have hv : v.gf f = u.gf f := by
    simp only [v]
    split
    · exact (hbit (State.supSync_keeps (Nat.and_self _) (.refl _ (u.specBankLost b))) rfl).trans
        (hbit (State.specBankLost_keeps (Nat.and_self _) (.refl _ u)) rfl)
    · rfl
  exact (hbit (State.unitLost_keeps (Nat.and_self _) (.refl _ v)) rfl).trans (hv.trans (hu.trans hh))

/-- A bank that is fenced is shown fenced, whoever owned it. -/
theorem State.fenceBank_fenced (s : State) {b : Nat} (hb : b < 64) : (s.fenceBank b).bankFenced b = true := by
  rw [State.fenceBank_eq, State.bankFenced_of_fence (State.fenceEffects_fence _ _ _ (by decide) rfl)
    (State.fenceEffects_fence _ _ _ (by decide) rfl)]
  unfold State.bankFenced
  by_cases hlt : b < 32
  · rw [if_pos hlt, if_pos hlt]
    exact State.fenceBit_mbit _ _ _ hlt (by decide) (by decide)
  · rw [if_neg hlt, if_neg hlt]
    exact State.fenceBit_mbit _ _ _ (show b - 32 < 32 by omega) (by decide) (by decide)

/-- Settles O56: each command does what the state of the test says; a failed read fences the bank after its place is shown. -/
theorem backgroundTest : Obligations.BackgroundTest := by
  refine ⟨fun s r w hr hen ha hn hi => ?_, fun s hr ha hi => ⟨fun h43 => ?_, fun h43 => ?_⟩, fun s w i hr ha hi h4 h40 hb => ?_, fun s ha => ?_⟩
  · obtain ⟨regs, ht⟩ := execMtestRegionStart_of hr hen ha hn hi
    exact ⟨_, ht, rfl, rfl⟩
  · exact ⟨_, (execMtestStep_passed hr ha hi).trans (congrArg _ (if_neg h43)), rfl, rfl⟩
  · exact ⟨_, (execMtestStep_passed hr ha hi).trans (congrArg _ (if_pos h43)), rfl, rfl⟩
  · obtain ⟨hactive, hvalid, hbank, hword, hbit⟩ := s.mtestFailed_shows w i hb
    have hk := State.fenceBank_keeps (x1 := s.mtest.bank) (Nat.and_self _) (.refl _ (s.mtestFailed w i))
    exact ⟨_, execMtestStep_failed hr ha hi h4 h40 w i, (congrArg MTest.active (hk.part .mtest rfl)).trans hactive,
      State.fenceBank_fenced _ hb, (hk.gb _ (by decide) rfl).trans hvalid, (hk.reg _ (by decide) rfl).trans hbank,
      (hk.reg _ (by decide) rfl).trans hword, (hk.reg _ (by decide) rfl).trans hbit⟩
  · exact ⟨_, congrArg Host.Outcome.next (State.mtestDefer_of_active ha), rfl, rfl,
      (State.gf_sf _ _ _).trans (Nat.mod_eq_of_lt (Nat.lt_of_le_of_lt (Nat.min_le_right _ _) (by decide)))⟩

end Sys2Proof.Machine
end

section
/-! SUPPORT. The JTAG port (R453 to R456): a nonce drawn afresh, and what the port's blocks make of the security engine. -/

namespace Sys2Proof.Machine

/-- A fresh nonce changes the nonce, and draws on the free values. -/
theorem State.newNonce_eq (s : State) : ∃ n k, s.newNonce = { s with sec := { s.sec with nonce := n }, free := k } := by
  unfold State.newNonce
  split <;> exact ⟨_, _, rfl⟩

/-- The engine's counters, seals and port stay with the part of the state that holds them. -/
theorem State.Keeps.secRest {m : Nat} {s t : State} (h : State.Keeps m s t) (hm : m.testBit StatePart.sec.ctorIdx = false) :
    { t.sec with owner := none, dbg := false, zeroised := false, session := none, nonce := [] } =
      { s.sec with owner := none, dbg := false, zeroised := false, session := none, nonce := [] } := h.part .sec hm

/-- A ring without an unsealed record gets no seal. -/
theorem State.makeDue_of_sealed {s : State} {n : Fin 64} (h : (s.rings[n]).unsealed = false) (cause : Nat) : s.makeDue n cause = s :=
  if_neg (by simp [-Fin.getElem_fin, h])

theorem State.makeDueAll_of_sealed {s : State} (h : ∀ n : Fin 64, (s.rings[n]).unsealed = false) (cause : Nat) (l : List (Fin 64)) :
    l.foldl (fun s n => s.makeDue n cause) s = s := by
  induction l with
  | nil => rfl
  | cons n l ih => rw [List.foldl_cons, State.makeDue_of_sealed (h n), ih]

/-- With its seals signed the debug unlock ends: the key is zeroised and the fuse blown. -/
theorem State.unlockEnd_of {s : State} (hu : s.sec.unlocking = true) (hg : s.sec.signing = none) (hd : s.sec.due = []) :
    s.unlockEnd.sec.dbg = true ∧ s.unlockEnd.sec.zeroised = true ∧ s.unlockEnd.sec.consent = s.sec.consent := by
  rw [State.unlockEnd, if_pos (by simp [hu, hg, hd])]
  have hk := State.storeKeyZero_keeps (Nat.and_self _)
    (.refl _ ({ s with sec := { s.sec with unlocking := false, zeroised := true, dbg := true } } : State))
  exact ⟨hk.part .dbg rfl, hk.part .zeroised rfl, (congrArg Sec.consent (hk.secRest rfl) :)⟩

/-- The consent is spent. -/
def State.unconsented (s : State) : State := { s with sec := { s.sec with consent := false } }

/-- An accepted unlock block: the consent is spent, the rings are sealed, and the unlock waits for its seals. -/
def State.unlockBegun (s : State) : State :=
  let u := (fins 64).foldl (fun s n => s.makeDue n 3) s.unconsented.newNonce
  { u with sec := { u.sec with unlocking := true } }

theorem execDebugUnlock_accepted {s : State} {b k : List Byte} (hd : s.sec.dbg = false) (hir : s.sec.ir = .secchal)
    (ho : s.sec.owner = none ∨ s.sec.consent = true) (hk : sha256 k = s.chip.debugHash)
    (hb : s.blkAccept b 5 (decide (blkParam b = zeros 32)) k = true) : exec (.debugUnlock b k) s = .next s.unlockBegun.unlockEnd := by
  have hcond : ((s.sec.owner.isNone || s.sec.consent) && decide (sha256 k = s.chip.debugHash) &&
      s.blkAccept b 5 (decide (blkParam b = zeros 32)) k) = true := by rcases ho with ho | ho <;> simp [ho, hk, hb]
  show execDebugUnlock b k s = _
  unfold execDebugUnlock
  rw [if_neg (by simp [hd, hir]), if_pos hcond]
  unfold State.unlockBegun State.unconsented
  rfl

theorem execDebugUnlock_foreign {s : State} {k : List Byte} (b : List Byte) (hd : s.sec.dbg = false) (hir : s.sec.ir = .secchal)
    (hk : sha256 k ≠ s.chip.debugHash) :
    exec (.debugUnlock b k) s = .next s.unconsented.newNonce :=
  congrArg Host.Outcome.next ((if_neg (by simp [hd, hir])).trans (if_neg (by simp [hk])))

theorem execDebugConsent_eq {s : State} {b : List Byte} (hd : s.sec.dbg = false) (hir : s.sec.ir = .secchal) (ho : s.sec.owner.isSome = true) :
    exec (.debugConsent b) s = .next (if s.blkAccept b 6 (decide (blkParam b = zeros 32)) s.ownerKey then
      { s with sec := { s.sec with consent := true } } else s.unconsented.newNonce) :=
  congrArg Host.Outcome.next (if_neg (by simp [hd, hir, Option.isNone_eq_false_iff.2 ho]))

/-- With no seal outstanding the unlock goes on to its end. -/
theorem State.unlockBegun_end {s : State} (hg : s.sec.signing = none) (hd : s.sec.due = []) (hr : ∀ n : Fin 64, (s.rings[n]).unsealed = false) :
    s.unlockBegun.unlockEnd.sec.dbg = true ∧ s.unlockBegun.unlockEnd.sec.zeroised = true ∧ s.unlockBegun.unlockEnd.sec.consent = false := by
  obtain ⟨n, k, hn⟩ := s.unconsented.newNonce_eq
  have hu : s.unlockBegun = { s with sec := { s.sec with nonce := n, consent := false, unlocking := true }, free := k } := by
    unfold State.unlockBegun
    rw [State.makeDueAll_of_sealed (by rw [hn]; exact hr), hn]
    rfl
  rw [hu]
  exact State.unlockEnd_of rfl hg hd

/-- The instruction in force after a load (R454). -/
def State.jtagEffect (s : State) (ir : JtagIr) : JtagIr :=
  match ir with
  | .extest => if s.sec.owner.isNone && !s.rst.grpStarted then .extest else .bypass
  | .clamp => if s.sec.owner.isNone && !s.rst.grpStarted then .clamp else .bypass
  | .debug => if s.sec.dbg then .debug else .bypass
  | .secchal => if s.sec.dbg then .bypass else .secchal
  | i => i

theorem execJtagInstructionLoad_ir (s : State) (ir : JtagIr) : ∃ t, exec (.jtagInstructionLoad ir) s = .next t ∧ t.sec.ir = s.jtagEffect ir := by
  cases ir <;> exact ⟨_, rfl, rfl⟩

/-- Settles O51: the port's instructions by the state of owner, groups and fuse, and its blocks by their acceptance. -/
theorem debugPort : Obligations.DebugPort := by
  refine ⟨fun s => ⟨fun ho hg => ?_, fun h => ?_, fun hd => ?_, fun hd => ?_⟩, fun s hd => ?_, fun s b hd hir ho => ⟨fun hb => ?_, fun hb => ?_⟩,
    fun s b k hd hir => ⟨fun ho hk hb hg hdue hr => ?_, fun hk => ?_⟩⟩
  · obtain ⟨t, ht, hir⟩ := execJtagInstructionLoad_ir s .extest
    exact ⟨t, ht, hir.trans (if_pos (by simp [ho, hg]))⟩
  · obtain ⟨t, ht, hir⟩ := execJtagInstructionLoad_ir s .extest
    exact ⟨t, ht, hir.trans (if_neg (by rcases h with h | h <;> simp [Option.isNone_eq_false_iff.2, h]))⟩
  · obtain ⟨t, ht, hir⟩ := execJtagInstructionLoad_ir s .debug
    exact ⟨t, ht, hir.trans (if_neg (by simp [hd]))⟩
  · obtain ⟨t, ht, hir⟩ := execJtagInstructionLoad_ir s .debug
    exact ⟨t, ht, hir.trans (if_pos hd)⟩
  · exact ⟨_, congrArg Host.Outcome.next (if_neg (by simp [hd])), rfl, rfl, rfl⟩
  · exact (execDebugConsent_eq hd hir ho).trans (congrArg _ (if_pos hb))
  · obtain ⟨n, k, hn⟩ := s.unconsented.newNonce_eq
    exact ⟨_, (execDebugConsent_eq hd hir ho).trans (congrArg _ ((if_neg (by simp [hb])).trans hn)), rfl, rfl⟩
  · exact ⟨_, execDebugUnlock_accepted hd hir ho hk hb, State.unlockBegun_end hg hdue hr⟩
  · obtain ⟨n, j, hn⟩ := s.unconsented.newNonce_eq
    exact ⟨_, (execDebugUnlock_foreign b hd hir hk).trans (congrArg _ hn), hd, rfl, rfl⟩

end Sys2Proof.Machine
end


section
/-! SUPPORT. Signed blocks, sessions, the owner's key, the certificate and clearing (R434 to R443, R474). -/

namespace Sys2Proof.Machine

/-! ### Verification of a block (R437) -/

theorem State.verify_accepted {s : State} {b key : List Byte} {kind : Nat} {ok : Bool} (h : s.blkAccept b kind ok key = true) :
    s.verify b kind ok key = (true, 0, s.newNonce) := if_pos h

/-- A block that is refused sets AUTH and leaves the session, the owner's key and the executing command. -/
theorem State.verify_refused {s : State} {b key : List Byte} {kind : Nat} {ok : Bool} (h : s.blkAccept b kind ok key = false) :
    (s.verify b kind ok key).1 = false ∧ (s.verify b kind ok key).2.2.gb SEC_ERR_AUTH = true ∧
    (s.verify b kind ok key).2.2.sec.session = s.sec.session := by
  have hv : s.verify b kind ok key = (false, if decide (blkNonce b ≠ s.sec.nonce) then 3 else 1,
      (if decide (blkNonce b ≠ s.sec.nonce) then (s.sf SEC_ERR_AUTH 1).sf SEC_ERR_NONCE 1 else s.sf SEC_ERR_AUTH 1).newNonce) :=
    if_neg (by simp [h])
  rw [hv]
  refine ⟨rfl, ?_, ?_⟩
  · refine ((State.newNonce_keeps (Nat.and_self _) (.refl _ _)).gb SEC_ERR_AUTH (by decide) rfl).trans ?_
    split
    · rw [State.gb_sf_ne _ _ (by decide), State.gb_sf]
      rfl
    · exact State.gb_sf _ _ _
  · refine ((State.newNonce_keeps (Nat.and_self _) (.refl _ _)).part .session rfl : _ = _).trans ?_
    split <;> rfl

theorem State.Executing.verify {s : State} {c : Cmd} (h : s.Executing c) (b : List Byte) (kind : Nat) (ok : Bool) (key : List Byte) :
    (s.verify b kind ok key).2.2.Executing c :=
  h.of_keeps (State.verify_keeps (Nat.and_self _) (.refl _ s)) rfl rfl rfl

/-- What a completion leaves: the registers of the security engine, and the engine itself. -/
theorem State.finish_sec (s : State) (st d : Nat) (l : List Byte) {f : Fld} (hf : f.lo < 32) (hg : regGroup f.off = .sec) :
    (s.finish st d l).gb f = s.gb f ∧ (s.finish st d l).sec.session = s.sec.session ∧ (s.finish st d l).sec.owner = s.sec.owner := by
  have hk := State.finish_keeps (x1 := st) (x2 := d) (x3 := l) (Nat.and_self _) (.refl _ s)
  exact ⟨hk.gb f hf (by rw [hg]; rfl), hk.part .session rfl, hk.part .owner rfl⟩

/-! ### Sessions (R438 to R441) -/

/-- The session that an opening begins. -/
def State.newSession (s : State) (p : Port) (timeout : Nat) : Session :=
  { port := p, number := s.sec.sessNo + 1, left := timeout, changes := [] }

theorem State.openSession_opens (s : State) (p : Port) (timeout : Nat) : (s.openSession p timeout).sec.session = some (s.newSession p timeout) ∧
    (s.openSession p timeout).sec.sessNo = s.sec.sessNo + 1 ∧ (s.openSession p timeout).sec.owner = s.sec.owner := by
  unfold State.openSession
  extract_lets n _ u
  have h1 := State.storeOwner_keeps (Nat.and_self _) (.refl _ u)
  have h2 := State.log_keeps (x1 := 0x0E) (x2 := 1) (x3 := leBytes 4 n ++ leBytes 4 0) (Nat.and_self _) (.refl _ u.storeOwner)
  refine ⟨(h2.part .session rfl).trans (h1.part .session rfl), ?_, (h2.part .owner rfl).trans (h1.part .owner rfl)⟩
  exact (congrArg Sec.sessNo (h2.secRest rfl) :).trans (congrArg Sec.sessNo (h1.secRest rfl) :)

theorem State.Executing.openSession {s : State} {c : Cmd} (h : s.Executing c) (p : Port) (timeout : Nat) : (s.openSession p timeout).Executing c :=
  h.of_keeps (State.openSession_keeps (Nat.and_self _) (.refl _ s)) rfl rfl rfl

/-- The completion of a command that opened a session: it waits for the owner record. -/
def State.openDone (s : State) : State := s.finishC 0 0 (leBytes 4 s.sec.sessNo) (fun c => { c with owner := true })

theorem State.openDone_of {s : State} {c : Cmd} (h : s.Executing c) : s.openDone.completed c 0 ∧ s.openDone.sec.session = s.sec.session ∧
    s.openDone.sec.sessNo = s.sec.sessNo ∧ s.openDone.sec.owner = s.sec.owner := by
  have hk := State.finishC_keeps (x1 := 0) (x2 := 0) (x3 := leBytes 4 s.sec.sessNo) (x4 := fun c => { c with owner := true }) (Nat.and_self _)
    (.refl _ s)
  exact ⟨s.finishC_completed c 0 0 _ _ (fun _ => ⟨rfl, rfl⟩) h.forms h.cur h.ring, hk.part .session rfl,
    (congrArg Sec.sessNo (hk.secRest rfl) :), hk.part .owner rfl⟩

theorem Cmd.port_of_ring {c : Cmd} (h : ∃ i, c.via = .ring i) : c.port = .pcie := by
  obtain ⟨i, hi⟩ := h
  rw [Cmd.port, hi]

/-- An OPEN_SEAL_SESSION that nothing refuses verifies its block. -/
theorem State.doOpen_block {s : State} {b : List Byte} (c : Cmd) (hf : s.sec.trngFail = false) (ho : s.sec.owner.isSome = true)
    (hs : s.sec.session = none) (hl : s.gb KET_STAT_LOCK = false) (hlen : b.length = 128) (hk : blkKind b = 2) (ht : leAt b 0x20 4 ≤ 3600) :
    s.doOpen c b = if (s.verify b 2 (decide ((b.drop 0x24).take 28 = zeros 28)) s.ownerKey).1
      then ((s.verify b 2 (decide ((b.drop 0x24).take 28 = zeros 28)) s.ownerKey).2.2.openSession c.port
        (if leAt b 0x20 4 = 0 then 600 else leAt b 0x20 4)).openDone
      else (s.verify b 2 (decide ((b.drop 0x24).take 28 = zeros 28)) s.ownerKey).2.2.finish 4
        (s.verify b 2 (decide ((b.drop 0x24).take 28 = zeros 28)) s.ownerKey).2.1 [] := by
  unfold State.doOpen
  rw [if_neg (by simp [hlen]), if_neg (by simp [hf]), hk]
  rw [if_neg (by omega), if_neg (by simp [hs, hl, Option.isNone_eq_false_iff.2 ho]), if_neg (by decide)]
  rfl

theorem State.blkAccept_block {s : State} {b key : List Byte} {kind : Nat} {ok : Bool} (h : s.blkAccept b kind ok key = true) :
    b.length = 128 ∧ blkKind b = kind := by
  simp only [State.blkAccept, State.blkFields, Bool.and_eq_true, decide_eq_true_eq] at h
  obtain ⟨⟨⟨⟨⟨⟨⟨⟨hlen, -⟩, -⟩, -⟩, hk⟩, -⟩, -⟩, -⟩, -⟩ := h
  exact ⟨hlen, hk⟩

/-- An INSTALL block that is accepted. -/
def State.installed (s : State) (b : List Byte) : State :=
  let u := s.newNonce
  { u with sec := { u.sec with owner := some (leAt b 1 1, ofBe (blkParam b)), installT := u.now } }

theorem State.doOpen_install {s : State} {b : List Byte} (c : Cmd) (hf : s.sec.trngFail = false) (ho : s.sec.owner = none)
    (hs : s.sec.session = none) (hl : s.gb KET_STAT_LOCK = false)
    (h : s.blkAccept b 1 true (decompress (leAt b 1 1) (ofBe (blkParam b))) = true) :
    s.doOpen c b = ((s.installed b).openSession c.port 600).openDone := by
  obtain ⟨hlen, hk⟩ := State.blkAccept_block h
  unfold State.doOpen
  rw [if_neg (by simp [hlen]), if_neg (by simp [hf]), hk, if_neg (by omega), if_neg (by simp [hs, hl, ho]), if_pos rfl]
  extract_lets x
  rw [State.verify_accepted h]
  rfl

theorem State.Executing.errIf {s : State} {c : Cmd} (h : s.Executing c) {f : Fld} (q : Bool) (hf : f.key ≠ STRAP_MODE.key) :
    (s.errIf f q).Executing c := by
  cases q with
  | true => exact State.Executing.sfs (l := [(f, 1)]) h (by simpa using hf)
  | false => exact h

theorem State.errIf_gb_ne (s : State) {f g : Fld} (q : Bool) (h : f.key ≠ g.key) : (s.errIf f q).gb g = s.gb g := by
  cases q with
  | true => exact s.gb_sf_ne 1 h
  | false => rfl

theorem State.errIf_owner (s : State) (f : Fld) (q : Bool) : (s.errIf f q).sec = s.sec := by cases q <;> rfl

/-- With an owner an INSTALL block is refused, whatever else refuses it. -/
theorem State.doOpen_ownerSet {s : State} {b : List Byte} (c : Cmd) (hf : s.sec.trngFail = false) (ho : s.sec.owner.isSome = true)
    (hlen : b.length = 128) (hk : blkKind b = 1) : ∃ d, s.doOpen c b =
      (((s.errIf SEC_ERR_OWNER_SET true).errIf SEC_ERR_SESSION_BUSY s.sec.session.isSome).errIf SEC_ERR_LOCKED (s.gb KET_STAT_LOCK)).finish 3 d [] := by
  unfold State.doOpen
  rw [if_neg (by simp [hlen]), if_neg (by simp [hf]), hk]
  simp only [ho]
  exact ⟨_, rfl⟩

/-- A close leaves no session. -/
theorem State.closeSession_closed (s : State) : s.closeSession.sec.session = none := by
  unfold State.closeSession
  split
  · assumption
  · extract_lets u _ v w
    have hk : State.Keeps _ v w := State.log_keeps (Nat.and_self _) (.refl _ v)
    exact hk.part .session rfl

theorem State.Executing.closeSession {s : State} {c : Cmd} (h : s.Executing c) : s.closeSession.Executing c :=
  h.of_keeps (State.closeSession_keeps (Nat.and_self _) (.refl _ s)) rfl rfl rfl

theorem State.doClose_open {s : State} {c : Cmd} (h : s.Executing c) (ho : s.sec.session.isSome = true) :
    s.doClose.completed c 0 ∧ s.doClose.sec.session = none := by
  obtain ⟨ss, hss⟩ := Option.isSome_iff_exists.1 ho
  have hx := h.closeSession
  unfold State.doClose
  rw [hss]
  exact ⟨State.finishC_completed _ c 0 0 _ _ (fun _ => ⟨rfl, rfl⟩) hx.forms hx.cur hx.ring,
    ((State.finishC_keeps (Nat.and_self _) (.refl _ _)).part .session rfl).trans s.closeSession_closed⟩

theorem State.doClose_none {s : State} (h : s.sec.session = none) : s.doClose = (s.sf SEC_ERR_NO_SESSION 1).finish 3 0x200 [] := by
  unfold State.doClose
  rw [h]

/-! ### READ_CERT (R434, R456) -/

theorem State.doReadCert_of {s : State} {c : Cmd} (hring : ∃ i, c.via = .ring i) (hd : s.sec.dbg = false)
    (hl : leAt c.entry 0x10 4 + leAt c.entry 0x14 4 ≤ s.chip.cert.length) : s.doReadCert c =
      (s.issue (.buffer (leAt c.entry 8 8) ((s.chip.cert.drop (leAt c.entry 0x10 4)).take (leAt c.entry 0x14 4)))).finish 0 0
        (leBytes 4 (leAt c.entry 0x14 4)) := by
  obtain ⟨i, hi⟩ := hring
  unfold State.doReadCert
  rw [hi, if_neg (by simp [hd]), if_neg (by simpa using hl)]
  rfl

/-! ### TAMPER_CLEAR (R443, R474) -/

theorem State.ketClear_src (s : State) (k j : Fin 12) : (s.ketClear k).ket.src[j] = if k = j then {} else s.ket.src[j] := by
  unfold State.ketClear
  extract_lets r
  rw [(State.emit_keeps (x1 := r) (Nat.and_self _) (.refl _ _)).ket rfl]
  by_cases h : k = j
  · subst h
    simp
  · rw [if_neg h]
    exact Vector.getElem_set_ne k.isLt j.isLt (fun e => h (Fin.ext e))

/-- Exactly the named sources are cleared. -/
theorem State.ketClears_src (l : List (Fin 12)) (s : State) (j : Fin 12) :
    (l.foldl State.ketClear s).ket.src[j] = if j ∈ l then {} else s.ket.src[j] := by
  induction l generalizing s with
  | nil => rfl
  | cons k l ih =>
    rw [List.foldl_cons, ih, State.ketClear_src]
    by_cases hj : j ∈ l
    · simp [hj]
    · by_cases hk : k = j
      · simp [hk]
      · simp [hj, hk, Ne.symm hk]

/-- A block that is accepted clears the named sources whose condition is gone. -/
theorem State.doTamperClear_of {s : State} {b : List Byte} (hf : s.sec.trngFail = false) (ho : s.sec.owner.isSome = true) (hlen : b.length = 128)
    (h : s.blkAccept b 4 (decide ((b.drop 0x24).take 28 = zeros 28)) s.ownerKey = true) : ∃ d, s.doTamperClear b =
      ((((fins 12).filter (fun (k : Fin 12) => (leAt b 0x20 4).testBit k.val && !s.newNonce.ketCond k)).foldl State.ketClear
        s.newNonce).ketSync).finish 0 0 d := by
  unfold State.doTamperClear
  rw [if_neg (by simp [hlen]), if_neg (by simp [hf]), if_neg (by simp [Option.isNone_eq_false_iff.2 ho]), State.verify_accepted h]
  exact ⟨_, rfl⟩

theorem State.ketCond_newNonce (s : State) (k : Nat) : s.newNonce.ketCond k = s.ketCond k := by
  obtain ⟨n, j, hn⟩ := s.newNonce_eq
  rw [hn]
  rfl

theorem State.newNonce_sessNo (s : State) : s.newNonce.sec.sessNo = s.sec.sessNo := by
  obtain ⟨n, k, hn⟩ := s.newNonce_eq
  rw [hn]

/-- The clears go on in the command that asked for them. -/
theorem State.Executing.ketClears {s : State} {c : Cmd} (h : s.Executing c) (l : List (Fin 12)) : (l.foldl State.ketClear s).Executing c := by
  induction l generalizing s with
  | nil => exact h
  | cons k l ih => exact ih (h.of_keeps (State.ketClear_keeps (Nat.and_self _) (.refl _ s)) rfl rfl rfl)

/-- The evidence after the command: the sync of the Kettle's copy and the completion leave it. -/
theorem State.cleared_src (s : State) (l : List (Fin 12)) (st d : Nat) (r : List Byte) (j : Fin 12) :
    ((l.foldl State.ketClear s).ketSync.finish st d r).ket.src[j] = if j ∈ l then {} else s.ket.src[j] := by
  rw [(State.finish_keeps (Nat.and_self _) (.refl _ (l.foldl State.ketClear s).ketSync)).ket rfl,
    (State.ketSync_keeps (Nat.and_self _) (.refl _ (l.foldl State.ketClear s))).ket rfl]
  exact State.ketClears_src l s j

/-- A session that opens and whose command completes. -/
theorem State.opened_of {s : State} {c : Cmd} (h : s.Executing c) (p : Port) (timeout : Nat) :
    (s.openSession p timeout).openDone.completed c 0 ∧ (s.openSession p timeout).openDone.sec.sessNo = s.sec.sessNo + 1 ∧
    (s.openSession p timeout).openDone.sec.session = some (s.newSession p timeout) ∧
    (s.openSession p timeout).openDone.sec.owner = s.sec.owner := by
  obtain ⟨hsession, hno, howner⟩ := s.openSession_opens p timeout
  obtain ⟨hdone, hs, hn, ho⟩ := State.openDone_of (h.openSession p timeout)
  exact ⟨hdone, hn.trans hno, hs.trans hsession, ho.trans howner⟩

/-- Settles O50: each command does what its block and the state of owner and session say. -/
theorem sessionsAndOwner : Obligations.SessionsAndOwner := by
  refine ⟨fun s c b hx hf ho hs hl hlen hk ht => ?_, fun s c b hx hf ho hs hl hacc => ?_, fun s c b hx hf ho hlen hk => ?_,
    fun s c hx => ⟨fun ho => ?_, fun hn => ?_⟩, fun s hr ho => ?_, fun s c hx => ⟨fun hd hdma hl => ?_, fun hd => ?_⟩, fun s c b hx hf ho hlen hacc => ?_⟩
  · have hexec : exec (.openSealSession b) s = .next (s.doOpen c b) :=
      congrArg Host.Outcome.next ((if_neg (by rw [hk]; decide)).trans (hx.onCmd _))
    rw [hexec, State.doOpen_block c hf ho hs hl hlen hk ht, Cmd.port_of_ring hx.cur.2]
    refine ⟨fun hacc => ?_, fun hrej => ?_⟩
    · obtain ⟨hdone, hno, hsession, -⟩ := State.opened_of (State.newNonce_executing hx.executing) .pcie
        (if leAt b 0x20 4 = 0 then 600 else leAt b 0x20 4)
      have hsame : s.newNonce.sec.sessNo = s.sec.sessNo := s.newNonce_sessNo
      rw [State.newSession] at hsession
      rw [hsame] at hno hsession
      rw [State.verify_accepted hacc, if_pos rfl]
      exact ⟨_, rfl, hdone, hno, hsession⟩
    · obtain ⟨hv, hauth, hsession⟩ := State.verify_refused hrej
      rw [hv, if_neg Bool.false_ne_true]
      obtain ⟨hgb, hsess, -⟩ := State.finish_sec (s.verify b 2 (decide ((b.drop 0x24).take 28 = zeros 28)) s.ownerKey).2.2 4
        (s.verify b 2 (decide ((b.drop 0x24).take 28 = zeros 28)) s.ownerKey).2.1 [] (f := SEC_ERR_AUTH) (by decide) rfl
      exact ⟨_, rfl, (hx.executing.verify _ _ _ _).finish _ _ _, (hsess.trans hsession).trans hs, hgb.trans hauth⟩
  · obtain ⟨hdone, hno, hsession, howner⟩ := State.opened_of (s := s.installed b) (c := c)
      ⟨(State.newNonce_executing hx.executing).forms, (State.newNonce_executing hx.executing).cur, hx.cur.2⟩ .pcie 600
    have hsame : (s.installed b).sec.sessNo = s.sec.sessNo := s.newNonce_sessNo
    rw [State.newSession, hsame] at hsession
    refine ⟨_, congrArg Host.Outcome.next ((if_pos (State.blkAccept_block hacc).2).trans ((hx.onCmd _).trans (State.doOpen_install c hf ho hs hl hacc))), ?_⟩
    rw [Cmd.port_of_ring hx.cur.2]
    exact ⟨hdone, howner, hsession⟩
  · obtain ⟨d, hd⟩ := State.doOpen_ownerSet c hf ho hlen hk
    refine ⟨_, congrArg Host.Outcome.next ((if_pos hk).trans ((hx.onCmd _).trans hd)), ?_⟩
    have hex := ((hx.executing.errIf (f := SEC_ERR_OWNER_SET) true (by decide)).errIf (f := SEC_ERR_SESSION_BUSY) s.sec.session.isSome
      (by decide)).errIf (f := SEC_ERR_LOCKED) (s.gb KET_STAT_LOCK) (by decide)
    obtain ⟨hgb, -, howner⟩ := State.finish_sec (((s.errIf SEC_ERR_OWNER_SET true).errIf SEC_ERR_SESSION_BUSY s.sec.session.isSome).errIf
      SEC_ERR_LOCKED (s.gb KET_STAT_LOCK)) 3 d [] (f := SEC_ERR_OWNER_SET) (by decide) rfl
    refine ⟨hex.finish _ _ _, howner.trans ?_, hgb.trans ?_⟩
    · rw [State.errIf_owner, State.errIf_owner, State.errIf_owner]
    · rw [State.errIf_gb_ne _ _ (by decide), State.errIf_gb_ne _ _ (by decide)]
      exact State.gb_sf _ _ _
  · exact ⟨_, congrArg Host.Outcome.next (hx.onCmd _), State.doClose_open hx.executing ho⟩
  · refine ⟨_, congrArg Host.Outcome.next ((hx.onCmd _).trans (State.doClose_none hn)), ?_, ?_⟩
    · exact (State.Executing.sfs (l := [(SEC_ERR_NO_SESSION, 1)]) hx.executing (by simp; decide)).finish _ _ _
    · exact (State.finish_sec _ _ _ _ (by decide) rfl).1.trans (State.gb_sf _ _ _)
  · exact ⟨_, congrArg Host.Outcome.next (if_pos (by simp [hr, ho])), s.closeSession_closed, State.gb_sf _ _ _⟩
  · refine ⟨_, congrArg Host.Outcome.next ((hx.onCmd _).trans (State.doReadCert_of hx.cur.2 hd hl)), ?_, ?_⟩
    · exact (hx.executing.of_keeps (State.issue_keeps (Nat.and_self _) (.refl _ s)) rfl rfl rfl).finish _ _ _
    · exact (State.finish_keeps (Nat.and_self _) (.refl _ _)).out.subset (State.mem_out_issue hdma)
  · exact ⟨_, congrArg Host.Outcome.next ((hx.onCmd _).trans (if_pos hd)), hx.executing.finish _ _ _⟩
  · obtain ⟨d, hd⟩ := State.doTamperClear_of hf ho hlen hacc
    have hsrc (k : Fin 12) : s.newNonce.ket.src[k] = s.ket.src[k] := by
      obtain ⟨n, j, hn⟩ := s.newNonce_eq
      rw [hn]
    have hmem (k : Fin 12) : k ∈ (fins 12).filter (fun (k : Fin 12) => (leAt b 0x20 4).testBit k.val && !s.newNonce.ketCond k) ↔
        (leAt b 0x20 4).testBit k.val = true ∧ s.ketCond k = false := by
      simp [State.ketCond_newNonce, fins]
    refine ⟨_, congrArg Host.Outcome.next ((hx.onCmd _).trans hd), ?_, fun k => ⟨fun hm hc => ?_, fun h => ?_⟩⟩
    · exact (((State.newNonce_executing hx.executing).ketClears _).of_keeps (State.ketSync_keeps (Nat.and_self _) (.refl _ _)) rfl rfl rfl).finish _ _ _
    · rw [State.cleared_src, if_pos ((hmem k).2 ⟨hm, hc⟩)]
    · rw [State.cleared_src, if_neg fun hin => ?_, hsrc k]
      obtain ⟨hm, hc⟩ := (hmem k).1 hin
      rcases h with h | h
      · rw [hm] at h
        cases h
      · rw [hc] at h
        cases h

end Sys2Proof.Machine
end

section
/-! SUPPORT. The store's controller (R392 to R395): its requests, NVM_READ and NVM_WRITE. -/

namespace Sys2Proof.Machine

/-! ### The requests of the controller (R395) -/

/-- The request that runs and those that wait. -/
def Nvm.requests (v : Nvm) : List NvmReq := v.running.toList ++ v.queue

/-- What is taken and what is left are the requests that waited. -/
theorem nvmPick_perm {l : List NvmReq} {b : NvmReq} (h : nvmPick l = some b) : (b :: nvmDrop b.cls l).Perm l := by
  induction l generalizing b with
  | nil => cases h
  | cons r l ih =>
    rw [nvmPick] at h
    cases hp : nvmPick l with
    | none =>
      rw [hp] at h
      cases h
      rw [nvmDrop, if_pos rfl]
    | some p =>
      rw [hp] at h
      dsimp only at h
      split at h
      · cases h
        rw [nvmDrop, if_pos rfl]
      · next hlt =>
        cases h
        rw [nvmDrop, if_neg (by omega)]
        exact (List.Perm.swap _ _ _).trans ((ih hp).cons r)

theorem Nvm.next_requests (v : Nvm) : v.next.requests.Perm v.requests := by
  unfold Nvm.next
  cases hr : v.running with
  | some r => exact .refl _
  | none =>
    cases hp : nvmPick v.queue with
    | none => exact .refl _
    | some b =>
      simp only [Nvm.requests, hr]
      exact nvmPick_perm hp

/-- A request that is queued waits or runs. -/
theorem State.mem_nvmQueue (s : State) (r : NvmReq) : r ∈ (s.nvmQueue r).nvm.requests :=
  (Nvm.next_requests _).mem_iff.2 (by simp [Nvm.requests])

theorem State.hostWriting_of_mem {s : State} {r : NvmReq} (hm : r ∈ s.nvm.requests) (hk : r.kind = .host) : s.hostWriting = true :=
  List.any_eq_true.2 ⟨r, hm, decide_eq_true hk⟩

/-! ### NVM_READ and NVM_WRITE (R392, R393, R402) -/

/-- A run of words is the run of their bytes. -/
theorem flatMap_words {α : Type} (f : Nat → α) (k : Nat) :
    (List.range k).flatMap (fun i => (List.range 8).map (fun j => f (8 * i + j))) = (List.range (8 * k)).map f := by
  induction k with
  | zero => rfl
  | succ k ih =>
    rw [List.range_succ (n := k), List.flatMap_append, ih, Nat.mul_succ, List.range_add, List.map_append, List.map_map, List.flatMap_singleton]
    rfl

theorem Cmd.boxed_of_ring {c : Cmd} (h : ∃ i, c.via = .ring i) : c.boxed = false := by
  obtain ⟨i, hi⟩ := h
  rw [Cmd.boxed, hi]

theorem State.Executing.sf {s : State} {c : Cmd} (h : s.Executing c) {f : Fld} (v : Nat) (hf : f.key ≠ STRAP_MODE.key) : (s.sf f v).Executing c :=
  State.Executing.sfs (l := [(f, v)]) h (by simpa using hf)

theorem State.Executing.issue {s : State} {c : Cmd} (h : s.Executing c) (w : DmaWr) : (s.issue w).Executing c :=
  h.of_keeps (State.issue_keeps (Nat.and_self _) (.refl _ s)) rfl rfl rfl

/-- A ring command's bytes are written to its buffer, where the link may be used, and it completes. -/
theorem State.Executing.deliver {s : State} {c : Cmd} (h : s.Executing c) (st : Nat) (d : List Byte) : (s.deliver c st d).completed c st ∧
    (s.mayDma = true → DmaWr.buffer (leAt c.entry 8 8) d ∈ (s.deliver c st d).out) := by
  rw [State.deliver, Cmd.boxed_of_ring h.ring, if_neg Bool.false_ne_true]
  exact ⟨(h.issue _).finish _ _ _, fun hd => (State.finish_keeps (Nat.and_self _) (.refl _ _)).out.subset (State.mem_out_issue hd)⟩

/-- The words that an NVM_READ finds uncorrectable. -/
def nvmBad (addr len : Nat) (ue : List Nat) : List Nat := (List.range (len / 8)).filter (fun i => ue.contains (addr + 8 * i))

theorem nvmBad_nil {addr len : Nat} {ue : List Nat} (h : ∀ a ∈ ue, a < addr ∨ addr + len ≤ a) : nvmBad addr len ue = [] := by
  refine List.filter_eq_nil_iff.2 fun i hi => ?_
  have hlt : i < len / 8 := List.mem_range.1 hi
  intro hc
  have := h _ (List.contains_iff_mem.1 hc)
  omega

theorem nvmBad_ne_nil {addr len i : Nat} {ue : List Nat} (hi : 8 * i < len) (hl : len % 8 = 0) (h : addr + 8 * i ∈ ue) : nvmBad addr len ue ≠ [] :=
  List.ne_nil_of_mem (List.mem_filter.2 ⟨List.mem_range.2 (by omega), List.contains_iff_mem.2 h⟩)

/-- The counts of an NVM_READ. -/
def State.nvmCounted (s : State) (ce ue : Nat) : State := (s.incSat NVM_CE_COUNT ce).incSat NVM_UE_COUNT ue

theorem State.Executing.nvmCounted {s : State} {c : Cmd} (h : s.Executing c) (ce ue : Nat) : (s.nvmCounted ce ue).Executing c :=
  (h.sf _ (by decide)).sf _ (by decide)

theorem State.nvmCounted_mayDma (s : State) (ce ue : Nat) : (s.nvmCounted ce ue).mayDma = s.mayDma := by
  have h : (s.nvmCounted ce ue).gb LINK_STAT_UP = s.gb LINK_STAT_UP := (State.gb_sf_ne _ _ (by decide)).trans (State.gb_sf_ne _ _ (by decide))
  simp only [State.mayDma, h]
  rfl

/-- The data of an NVM_READ: ones for a word that is uncorrectable. -/
def Nvm.readData (v : Nvm) (addr len : Nat) (bad : List Nat) : List Byte :=
  (List.range (len / 8)).flatMap (fun i => if bad.contains i then List.replicate 8 0xFF else v.read (addr + 8 * i) 8)

theorem Nvm.readData_clean (v : Nvm) (addr : Nat) {len : Nat} (hl : len % 8 = 0) :
    v.readData addr len [] = (List.range len).map (fun i => v.byte (addr + i)) := by
  have h := flatMap_words (fun i => v.byte (addr + i)) (len / 8)
  rw [show 8 * (len / 8) = len by omega] at h
  rw [← h]
  simp only [Nvm.readData, Nvm.read, List.contains_nil, Bool.false_eq_true, if_false, Nat.add_assoc]

/-- The arguments of an NVM command on a ring, and the range of NVM_READ. -/
theorem nvmArgOk_ring {c : Cmd} (h : ∃ i, c.via = .ring i) (addr len : Nat) :
    nvmArgOk c addr len = (decide (addr % 8 = 0) && decide (len % 8 = 0) && decide (len ≤ 4096)) := by
  simp only [nvmArgOk, Cmd.boxed_of_ring h, Bool.false_eq_true, if_false]

theorem State.doNvmRead_of {s : State} {c : Cmd} (hring : ∃ i, c.via = .ring i) (ce : Nat) (ue : List Nat) (ha : leAt c.entry 0x10 4 % 8 = 0)
    (hl : leAt c.entry 0x14 4 % 8 = 0) (hmax : leAt c.entry 0x14 4 ≤ 4096) (hlo : 0x4000 ≤ leAt c.entry 0x10 4)
    (hhi : leAt c.entry 0x10 4 + leAt c.entry 0x14 4 ≤ 0x80000) (hrun : s.nvm.running = none) :
    s.doNvmRead c ce ue = (s.nvmCounted (min ce (leAt c.entry 0x14 4 / 8)) (nvmBad (leAt c.entry 0x10 4) (leAt c.entry 0x14 4) ue).length).deliver c
      (if (nvmBad (leAt c.entry 0x10 4) (leAt c.entry 0x14 4) ue).isEmpty then 0 else 0x0B)
      (s.nvm.readData (leAt c.entry 0x10 4) (leAt c.entry 0x14 4) (nvmBad (leAt c.entry 0x10 4) (leAt c.entry 0x14 4) ue)) := by
  have hok : nvmArgOk c (leAt c.entry 0x10 4) (leAt c.entry 0x14 4) = true := by simp [nvmArgOk_ring hring, ha, hl, hmax]
  exact (if_neg (by simp [hok, nvmSecurity, nvmBytes]; omega)).trans (if_neg (by simp [hrun]))

theorem State.doNvmRead_refused {s : State} {c : Cmd} (ce : Nat) (ue : List Nat)
    (h : leAt c.entry 0x10 4 % 8 ≠ 0 ∨ leAt c.entry 0x10 4 < 0x4000 ∨ 0x80000 < leAt c.entry 0x10 4 + leAt c.entry 0x14 4) :
    s.doNvmRead c ce ue = s.finish 2 0 [] :=
  if_pos (by simp only [nvmArgOk]; rcases h with h | h | h <;> simp [h])

/-- An NVM_WRITE that the arguments allow waits for its pages, or has none. -/
theorem State.doNvmWrite_of {s : State} {c : Cmd} (hring : ∃ i, c.via = .ring i) {d : List Byte} (hw : s.hostWriting = false)
    (ha : leAt c.entry 0x10 4 % 256 = 0) (hl : leAt c.entry 0x14 4 % 8 = 0) (hmax : leAt c.entry 0x14 4 ≤ 4096)
    (hlo : 0x70000 ≤ leAt c.entry 0x10 4) (htop : leAt c.entry 0x10 4 < 0x80000) (hhi : leAt c.entry 0x10 4 + leAt c.entry 0x14 4 ≤ 0x80000)
    (hd : leAt c.entry 0x14 4 ≤ d.length) :
    s.doNvmWrite c d = if leAt c.entry 0x14 4 = 0 then s.finish 0 0 (leBytes 4 0)
      else s.nvmQueue { cls := 8, kind := .host, ops := groupOps (hostWrites (leAt c.entry 0x10 4) (d.take (leAt c.entry 0x14 4)) 16) } := by
  have hok : nvmArgOk c (leAt c.entry 0x10 4) (leAt c.entry 0x14 4) = true := by
    rw [nvmArgOk_ring hring, hl]
    simp [hmax]
    omega
  refine (if_neg (by simp [hw])).trans (if_neg ?_)
  simp [hok, ha, nvmHost, nvmBytes]
  omega

theorem State.doNvmWrite_refused {s : State} {c : Cmd} {d : List Byte} (hw : s.hostWriting = false)
    (h : leAt c.entry 0x10 4 % 8 ≠ 0 ∨ leAt c.entry 0x10 4 < 0x70000 ∨ 0x80000 ≤ leAt c.entry 0x10 4) :
    s.doNvmWrite c d = s.finish 2 0 [] := by
  refine (if_neg (by simp [hw])).trans (if_pos ?_)
  simp only [nvmArgOk]
  rcases h with h | h | h <;> simp [h]

theorem State.finish_bytes (s : State) (st d : Nat) (l : List Byte) : (s.finish st d l).nvm.bytes = s.nvm.bytes :=
  (State.finish_keeps (Nat.and_self _) (.refl _ s)).part .nvmBytes rfl

/-- Settles O47: each command does what its arguments say, on the store as it is. -/
theorem nvmCommands : Obligations.NvmCommands := by
  refine ⟨fun s c ce ue hx ha hl hmax hlo hhi hrun => ⟨fun hdma hue => ?_, fun i hi hbad => ?_⟩, fun s c ce ue hx h => ?_,
    fun s c d hx hw ha hl hmax hlo htop hhi hd => ⟨fun hpos => ?_, fun hz => ?_⟩, fun s c d hx hw h => ?_⟩
  · obtain ⟨hdone, hout⟩ := (hx.executing.nvmCounted (min ce (leAt c.entry 0x14 4 / 8)) 0).deliver 0
      (s.nvm.readData (leAt c.entry 0x10 4) (leAt c.entry 0x14 4) [])
    refine ⟨_, congrArg Host.Outcome.next ((hx.onCmd _).trans ((State.doNvmRead_of hx.cur.2 ce ue ha hl hmax hlo hhi hrun).trans ?_)),
      hdone, ?_⟩
    · rw [nvmBad_nil hue]
      rfl
    · rw [← Nvm.readData_clean _ _ hl]
      exact hout ((s.nvmCounted_mayDma _ _).trans hdma)
  · have hne : (nvmBad (leAt c.entry 0x10 4) (leAt c.entry 0x14 4) ue).isEmpty = false := by
      simpa using nvmBad_ne_nil hi hl hbad
    refine ⟨_, congrArg Host.Outcome.next ((hx.onCmd _).trans (State.doNvmRead_of hx.cur.2 ce ue ha hl hmax hlo hhi hrun)), ?_⟩
    rw [hne]
    exact ((hx.executing.nvmCounted _ _).deliver _ _).1
  · exact ⟨_, congrArg Host.Outcome.next ((hx.onCmd _).trans (State.doNvmRead_refused ce ue h)), hx.executing.finish _ _ _⟩
  · have hdo := State.doNvmWrite_of hx.cur.2 hw ha hl hmax hlo htop hhi hd
    rw [if_neg (by omega)] at hdo
    exact ⟨_, congrArg Host.Outcome.next ((hx.onCmd _).trans hdo), rfl, State.hostWriting_of_mem (s.mem_nvmQueue _) rfl, Nvm.next_bytes _⟩
  · have hdo := State.doNvmWrite_of hx.cur.2 hw ha hl hmax hlo htop hhi hd
    rw [if_pos hz] at hdo
    exact ⟨_, congrArg Host.Outcome.next ((hx.onCmd _).trans hdo), hx.executing.finish _ _ _⟩
  · exact ⟨_, congrArg Host.Outcome.next ((hx.onCmd _).trans (State.doNvmWrite_refused hw h)), hx.executing.finish _ _ _, s.finish_bytes _ _ _⟩

end Sys2Proof.Machine
end


section
/-! SUPPORT. The end of write operations and the records that are queued (R394 to R405). -/

namespace Sys2Proof.Machine

/-! ### The bytes of a page write (R394, R396) -/

/-- The first k bytes of a run. -/
def Nvm.put (v : Nvm) (a : Nat) (bs : List Byte) (k : Nat) : Nvm :=
  (List.range k).foldl (fun v i => { v with bytes := SMap.set (fun _ => 0) v.bytes (a + i) (bs.getD i 0) }) v

theorem Nvm.put_byte (v : Nvm) (a : Nat) (bs : List Byte) (k x : Nat) :
    (v.put a bs k).byte x = if a ≤ x ∧ x < a + k then bs.getD (x - a) 0 else v.byte x := by
  induction k with
  | zero => exact (if_neg fun h => absurd h.2 (Nat.not_lt.2 h.1)).symm
  | succ k ih =>
    have hstep : (v.put a bs (k + 1)).byte x = if a + k = x then bs.getD k 0 else (v.put a bs k).byte x := by
      rw [Nvm.put, List.range_succ, List.foldl_append]
      exact SMap.get_set _ _ _ _ _
    rw [hstep, ih]
    by_cases hx : a + k = x
    · subst hx
      simp
    · rw [if_neg hx]
      congr 1
      exact propext ⟨fun h => ⟨h.1, by omega⟩, fun h => ⟨h.1, by omega⟩⟩

theorem Nvm.writeWord_eq (v : Nvm) (page pos : Nat) (bs : List Byte) : v.writeWord page pos bs = v.put (256 * page + 8 * (pos % 32)) bs 8 := rfl

/-- The first k words of a write of a page from its first word. -/
def Nvm.words (v : Nvm) (w : NvmWr) (k : Nat) : Nvm :=
  (List.range k).foldl (fun v i => v.writeWord w.page (w.word + i) ((w.bytes.drop (8 * i)).take 8)) v

theorem Nvm.words_byte (v : Nvm) {w : NvmWr} (h0 : w.word = 0) {k : Nat} (hk : k ≤ 32) (x : Nat) :
    (v.words w k).byte x = if 256 * w.page ≤ x ∧ x < 256 * w.page + 8 * k then w.bytes.getD (x - 256 * w.page) 0 else v.byte x := by
  induction k with
  | zero => exact (if_neg fun h => absurd h.2 (Nat.not_lt.2 h.1)).symm
  | succ k ih =>
    have hstep : v.words w (k + 1) = (v.words w k).put (256 * w.page + 8 * k) ((w.bytes.drop (8 * k)).take 8) 8 := by
      rw [Nvm.words, List.range_succ, List.foldl_append]
      show (v.words w k).writeWord w.page (w.word + k) _ = _
      rw [Nvm.writeWord_eq, h0, Nat.zero_add, Nat.mod_eq_of_lt (by omega)]
    rw [hstep, Nvm.put_byte, ih (by omega)]
    by_cases hx : 256 * w.page + 8 * k ≤ x ∧ x < 256 * w.page + 8 * k + 8
    · rw [if_pos hx, if_pos (by omega), List.getD_eq_getElem?_getD, List.getD_eq_getElem?_getD, List.getElem?_take_of_lt (by omega),
        List.getElem?_drop]
      congr 2
      omega
    · rw [if_neg hx]
      congr 1
      exact propext ⟨fun h => by omega, fun h => by omega⟩

/-- A whole page is written with its bytes, and no other page. -/
theorem Nvm.writeAll_byte (v : Nvm) {w : NvmWr} (h0 : w.word = 0) (hl : w.bytes.length = 256) (x : Nat) :
    (v.writeAll w).byte x = if 256 * w.page ≤ x ∧ x < 256 * w.page + 256 then w.bytes.getD (x - 256 * w.page) 0 else v.byte x := by
  have h : v.writeAll w = v.words w 32 := by rw [Nvm.writeAll, Nvm.writeSome, hl]; rfl
  rw [h, Nvm.words_byte v h0 (le_refl 32)]

theorem Nvm.writeAll_other (v : Nvm) {w : NvmWr} (h0 : w.word = 0) (hl : w.bytes.length = 256) {x : Nat} (hx : x / 256 ≠ w.page) :
    (v.writeAll w).byte x = v.byte x := by
  rw [Nvm.writeAll_byte v h0 hl, if_neg (by omega)]

theorem Nvm.byte_of_bytes {v u : Nvm} (h : v.bytes = u.bytes) (x : Nat) : v.byte x = u.byte x := by
  unfold Nvm.byte
  rw [h]

/-! ### The end of a host write (R402) -/

/-- The controller goes on to its next request. -/
def State.nvmFree (s : State) : State := { s with nvm := Nvm.next { s.nvm with running := none } }

theorem State.nvmFree_bytes (s : State) : s.nvmFree.nvm.bytes = s.nvm.bytes := Nvm.next_bytes _

theorem State.executes.opcode {s : State} {op : Nat} {c : Cmd} (h : s.executes op c) : leAt c.entry 0 1 = op := by
  obtain ⟨hcur, i, hvia⟩ := h.cur
  have h2 := h.2
  unfold State.curOp at h2
  rw [hcur] at h2
  simp only [hvia, Option.some.injEq, Prod.mk.injEq] at h2
  exact h2.1

/-- The command whose write is over completes. -/
theorem State.hostDone_of {s : State} {c : Cmd} (hx : s.Executing c) (hop : leAt c.entry 0 1 = 8) (st n : Nat) :
    (s.hostDone st n).completed c st ∧ (s.hostDone st n).nvm.bytes = s.nvm.bytes := by
  have h : s.hostDone st n = s.finish st 0 (if st = 0 then leBytes 4 n else []) := by
    unfold State.hostDone
    rw [hx.cur]
    exact if_pos hop
  rw [h]
  exact ⟨hx.finish _ _ _, s.finish_bytes _ _ _⟩

theorem State.nvmOpDone_host {s : State} {r : NvmReq} {w : NvmWr} (hr : s.nvm.running = some r) (hk : r.kind = .host) (ho : r.ops = [[w]]) :
    ∃ n, s.nvmOpDone none = ({ s with nvm := s.nvm.writeAll w } : State).nvmFree.hostDone 0 n := by
  unfold State.nvmOpDone
  rw [hr]
  simp only [ho, List.headD_cons, State.opWrite, List.foldl_cons, List.foldl_nil, opFails, Bool.false_eq_true, if_false, List.tail_cons,
    List.isEmpty_nil, if_true]
  unfold State.nvmComplete
  simp only [hk]
  exact ⟨_, rfl⟩

theorem State.nvmOpDone_hostFailed {s : State} {r : NvmReq} {w : NvmWr} {p : Fin 8} (hr : s.nvm.running = some r) (hk : r.kind = .host)
    (ho : r.ops = [[w]]) (hp : w.page % 8 = p.val) : ∃ (b : List Byte) (k : Nat), b.length = w.bytes.length ∧
    s.nvmOpDone (some p) = ({ s with nvm := s.nvm.writeAll { w with bytes := b }, free := k } : State).nvmFree.hostDone 0x0B 0 := by
  unfold State.nvmOpDone
  rw [hr]
  simp only [ho, hk, List.headD_cons, State.opWrite, List.foldl_cons, List.foldl_nil, opFails, hp, if_true, List.any_cons, List.any_nil, Bool.or_false,
    decide_true]
  exact ⟨(s.drawBytes w.bytes.length).1, _, by simp [State.drawBytes], rfl⟩

/-! ### A failed verify of another record (R400) -/

theorem State.nvmFail_gb (s : State) (r : NvmReq) {f : Fld} (h0 : NVM_STAT_DEGRADED.key ≠ f.key) (h1 : NVM_RETIRED_PAGE.key ≠ f.key)
    (h2 : NVM_RETIRED_COUNT.key ≠ f.key) : (s.nvmFail r).gb f = ((s.sf NVM_ERR_VERIFY 1).raise 7).gb f := by
  unfold State.nvmFail
  split
  · rfl
  · extract_lets u _ v k page ops v' t t'
    have ht : t'.gb f = t.gb f := by
      unfold t'
      split
      · exact State.gb_sf_ne _ _ h0
      · rfl
    exact (State.gb_sf_ne _ _ h2).trans ((State.gb_sf_ne _ _ h1).trans ht)

theorem State.nvmFail_shown (s : State) (r : NvmReq) : (s.nvmFail r).gb NVM_ERR_VERIFY = true ∧ (s.nvmFail r).gb (intBit 7) = true := by
  constructor
  · rw [State.nvmFail_gb _ _ (by decide) (by decide) (by decide), State.raise_gb_ne _ (by decide), State.gb_sf]
    rfl
  · rw [State.nvmFail_gb _ _ (by decide) (by decide) (by decide), State.raise_gb]

theorem State.nvmOpDone_failed {s : State} {r : NvmReq} {w : NvmWr} {p : Fin 8} {l : List NvmWr} {o : List (List NvmWr)}
    (hr : s.nvm.running = some r) (hk : r.kind ≠ .host) (ho : r.ops = (w :: l) :: o) (hp : w.page % 8 = p.val) :
    ∃ u : State, s.nvmOpDone (some p) = u.nvmFail r := by
  unfold State.nvmOpDone
  rw [hr]
  simp only [ho, List.headD_cons, opFails, List.any_cons, hp, decide_true, Bool.true_or, if_true, if_neg hk]
  exact ⟨_, rfl⟩

/-! ### Records that are queued (R403, R405, R406) -/

theorem Nvm.next_ckTurn (v : Nvm) : v.next.ckTurn = v.ckTurn := by
  unfold Nvm.next
  split
  · rfl
  · split <;> rfl

theorem State.nvmQueue_mem {s : State} {q : NvmReq} (r : NvmReq) (h : q ∈ s.nvm.requests) : q ∈ (s.nvmQueue r).nvm.requests := by
  refine (Nvm.next_requests _).mem_iff.2 ?_
  simp only [Nvm.requests, List.mem_append] at h ⊢
  exact h.imp_right Or.inl

/-- A record that is queued takes its slot's kind; the turn of the checkpoint rings stays. -/
theorem State.storeRecord_queued (s : State) (ring seqKind : Fin 10) (cls : Nat) (mk : Nat → NvmKind) (b : List Byte) :
    (∃ q ∈ (s.storeRecord ring seqKind cls mk b).nvm.requests, ∃ k, q.kind = mk k) ∧
    (s.storeRecord ring seqKind cls mk b).nvm.ckTurn = s.nvm.ckTurn :=
  ⟨⟨_, State.mem_nvmQueue _ _, _, rfl⟩, Nvm.next_ckTurn _⟩

/-- Archive entries are queued behind what waits. -/
theorem State.archFlush_requests (s : State) : s.archFlush.nvm.ckTurn = s.nvm.ckTurn ∧ ∀ q ∈ s.nvm.requests, q ∈ s.archFlush.nvm.requests := by
  unfold State.archFlush
  generalize s.nvm.arch = l
  suffices h : ∀ u : State, u.nvm.ckTurn = s.nvm.ckTurn → (∀ q ∈ s.nvm.requests, q ∈ u.nvm.requests) →
      (l.foldl _ u).nvm.ckTurn = s.nvm.ckTurn ∧ ∀ q ∈ s.nvm.requests, q ∈ (l.foldl _ u).nvm.requests from h _ rfl fun q hq => hq
  induction l with
  | nil => exact fun u h1 h2 => ⟨h1, h2⟩
  | cons e l ih => exact fun u h1 h2 => ih _ ((Nvm.next_ckTurn _).trans h1) fun q hq => State.nvmQueue_mem _ (h2 q hq)

/-- A checkpoint is queued into the ring whose turn it is, and the turn passes on. -/
theorem State.checkpointW_queued (s : State) (cause closing : Nat) (a b : List Byte) :
    (s.checkpointW cause closing a b).nvm.ckTurn = 1 - s.nvm.ckTurn ∧
    ∃ q ∈ (s.checkpointW cause closing a b).nvm.requests, ∃ k, q.kind = .checkpoint s.nvm.ckTurn k := by
  unfold State.checkpointW
  extract_lets r ring page body _ u v w
  obtain ⟨⟨q, hq, k, hk⟩, hturn⟩ := u.storeRecord_queued ring 0 4 (NvmKind.checkpoint r) body
  have hw : w.nvm.ckTurn = v.nvm.ckTurn ∧ w.nvm.requests = v.nvm.requests := by
    unfold w
    split <;> exact ⟨rfl, rfl⟩
  obtain ⟨hflush, hmem⟩ := w.archFlush_requests
  exact ⟨hflush.trans (hw.1.trans hturn), q, hmem q (hw.2 ▸ hq), k, hk⟩

theorem State.checkpoint_stored (s : State) (cause : Nat) : (s.checkpoint cause).nvm.ckTurn = 1 - s.nvm.ckTurn ∧
    (s.checkpoint cause).nvm.bytes = s.nvm.bytes ∧ ∃ q ∈ (s.checkpoint cause).nvm.requests, ∃ k, q.kind = .checkpoint s.nvm.ckTurn k := by
  obtain ⟨hturn, hq⟩ := s.checkpointW_queued cause 0 s.bil[(0 : Fin 2)].maxBytes s.bil[(1 : Fin 2)].maxBytes
  exact ⟨hturn, (State.checkpointW_keeps (Nat.and_self _) (.refl _ s)).part .nvmBytes rfl, hq⟩

/-- The timer's checkpoint, of either copy of the slices' state. -/
theorem State.ckptTimer_stored (s : State) : s.ckptTimer.nvm.ckTurn = 1 - s.nvm.ckTurn ∧ s.ckptTimer.nvm.bytes = s.nvm.bytes ∧
    ∃ q ∈ s.ckptTimer.nvm.requests, ∃ k, q.kind = .checkpoint s.nvm.ckTurn k := by
  unfold State.ckptTimer
  split
  · exact State.checkpoint_stored _ 0
  · exact s.checkpoint_stored 0

/-- Settles O48: the page's bytes, the command's end, VERIFY, and what is queued. -/
theorem nvmOperations : Obligations.NvmOperations := by
  refine ⟨fun s c r w hx hr hk ho h0 hl => ⟨?_, fun p hp => ?_⟩, fun s r w p l o hr hk ho hp => ?_, fun s hr hh => ?_, fun s hs => ?_⟩
  · obtain ⟨n, hn⟩ := State.nvmOpDone_host hr hk ho
    have hx' : ({ s with nvm := s.nvm.writeAll w } : State).nvmFree.Executing c := ⟨hx.1, hx.cur.1, hx.cur.2⟩
    obtain ⟨hdone, hbytes⟩ := State.hostDone_of hx' hx.opcode 0 n
    have hbyte (x : Nat) := (Nvm.byte_of_bytes (hbytes.trans (State.nvmFree_bytes _)) x).trans rfl
    refine ⟨_, congrArg Host.Outcome.next hn, hdone, fun i hi => (hbyte _).trans ?_, fun a ha => (hbyte a).trans (Nvm.writeAll_other _ h0 hl ha)⟩
    refine (Nvm.writeAll_byte _ h0 hl _).trans ((if_pos (by omega)).trans ?_)
    rw [Nat.add_sub_cancel_left]
  · obtain ⟨b, k, hb, hn⟩ := State.nvmOpDone_hostFailed hr hk ho hp
    have hx' : ({ s with nvm := s.nvm.writeAll { w with bytes := b }, free := k } : State).nvmFree.Executing c := ⟨hx.1, hx.cur.1, hx.cur.2⟩
    obtain ⟨hdone, hbytes⟩ := State.hostDone_of hx' hx.opcode 0x0B 0
    exact ⟨_, congrArg Host.Outcome.next hn, hdone, fun a ha => (Nvm.byte_of_bytes (hbytes.trans (State.nvmFree_bytes _)) a).trans
      (Nvm.writeAll_other (w := { w with bytes := b }) _ h0 (hb.trans hl) ha)⟩
  · obtain ⟨u, hu⟩ := State.nvmOpDone_failed hr hk ho hp
    exact ⟨_, congrArg Host.Outcome.next hu, u.nvmFail_shown r⟩
  · exact ⟨_, congrArg Host.Outcome.next (if_pos (by simp [hr, hh])), s.ckptTimer_stored⟩
  · obtain ⟨⟨q, hq, k, hk⟩, -⟩ := s.storeRecord_queued 5 4 6 (fun k => .config (if k = 0 then 0 else 1)) s.cfgBytes
    exact ⟨_, congrArg Host.Outcome.next (if_pos hs), (State.configSave_keeps (Nat.and_self _) (.refl _ s)).part .nvmBytes rfl, rfl,
      q, hq, _, hk⟩

end Sys2Proof.Machine
end


section
/-! SUPPORT. Random numbers and seals (R432, R446 to R452). -/

namespace Sys2Proof.Machine

/-! ### Random numbers (R432) -/

theorem State.newNonce_of {s : State} (h : s.sec.trngFail = false) : s.newNonce =
    { s with sec := { s.sec with nonce := (s.drawBytes 16).1 }, free := s.free + 16 } := if_neg (by simp [h])

/-- The first window that passes puts a nonce of 16 bytes in force. -/
theorem execTrngReady_of {s : State} (hp : s.rst.phase = .ready) (hf : s.sec.trngFail = false) (ho : s.sec.trngOk = false) :
    exec .trngReady s = .next (State.seedLoops { s with sec := { s.sec with trngOk := true, nonce := (s.drawBytes 16).1 }, free := s.free + 16 }) := by
  have hn := State.newNonce_of (s := { s with sec := { s.sec with trngOk := true } }) hf
  exact congrArg Host.Outcome.next ((if_pos (by simp [hp, hf, ho])).trans (congrArg State.seedLoops hn))

/-! ### What the start of a signature can do (R446) -/

/-- The seal that is fixed when its signature starts. -/
def State.sealOf (s : State) (n : Fin 64) (cause : Nat) : Signing :=
  { ring := n, cause := cause, seqFirst := (match s.rings[n].sealed with | none => s.rings[n].openSeq | some q => (q + 1) % 2 ^ 32),
    seqLast := s.rings[n].lastVis, chain := s.rings[n].visChain, time := s.stamp }

/-- The seal of ring n is in signing, over the records visible now. -/
def State.signs (s : State) (n : Fin 64) (cause : Nat) (rest : List (Nat × Nat)) : State :=
  ({ s with sec := { s.sec with signing := some (s.sealOf n cause), due := rest } } : State).setRing n
    (fun g => { g with sealed := some g.lastVis, sealOld := none })

/-- Nothing starts, or the oldest due seal is in signing, or a seal of no ring is forgotten. -/
theorem State.startSign_cases (s : State) : s.startSign = s ∨
    (∃ (n : Fin 64) (cause : Nat) (rest : List (Nat × Nat)), s.sec.signing = none ∧ s.sec.due = (n.val, cause) :: rest ∧ s.startSign = s.signs n cause rest) ∨
    ∃ (n cause : Nat) (rest : List (Nat × Nat)), s.sec.due = (n, cause) :: rest ∧ 64 ≤ n ∧ s.startSign = { s with sec := { s.sec with due := rest } } := by
  unfold State.startSign
  split
  · next n c l hsig hdue =>
    split_ifs with hwait hn
    · exact .inl rfl
    · exact .inr (.inl ⟨⟨n, hn⟩, c, l, hsig, hdue, rfl⟩)
    · exact .inr (.inr ⟨n, c, l, hdue, by omega, rfl⟩)
  · exact .inl rfl

/-- With nothing in signing, the engine working and a reservation above MCOUNT the oldest due seal is fixed at once. -/
theorem State.startSign_of {s : State} {n : Fin 64} {cause : Nat} {rest : List (Nat × Nat)} (hsig : s.sec.signing = none)
    (hdue : s.sec.due = (n.val, cause) :: rest) (hc : s.time.coreStop = false) (hw : s.wedged 8 = false) (hm : s.sec.mcount < s.sec.mres)
    (hf : s.forms = true) : s.startSign = s.signs n cause rest := by
  unfold State.startSign
  rw [hsig, hdue]
  simp only [hc, hw, hf, Bool.not_true, Bool.or_false, Bool.or_self, Bool.false_or, decide_eq_true_eq, if_neg (Nat.not_le.2 hm), dif_pos n.isLt]
  rfl

/-- A seal that may become due, with none before it, is due at once. -/
theorem State.makeDue_of {s : State} {n : Fin 64} (cause : Nat) (hf : s.forms = true) (hu : (s.rings[n]).unsealed = true)
    (hw : s.sealWaits n = false) (hd : s.sec.due = []) (hs : s.sec.signing = none) :
    s.makeDue n cause = State.startSign { s with sec := { s.sec with due := [(n.val, cause)] } } := by
  unfold State.makeDue
  rw [hf, hu, hw, hs, hd]
  rfl

/-! ### A seal that is due stays so until it is in signing (R446) -/

/-- The seal of ring n is due or in signing. -/
def State.sealTaken (s : State) (n : Fin 64) : Prop :=
  s.sec.due.any (fun d => d.1 == n.val) = true ∨ s.sec.signing.map Signing.ring = some n.val

/-- A seal of ring n may become due. -/
def State.sealable (s : State) (n : Fin 64) : Prop := s.forms = true ∧ (s.rings[n]).unsealed = true ∧ s.sealWaits n = false

theorem State.waitingItems_of {s t : State} (hq : ∀ m : Fin 64, (t.rings[m]).q = (s.rings[m]).q) (hl : t.heldLog = s.heldLog)
    (hs : t.heldSec = s.heldSec) : t.waitingItems = s.waitingItems := by
  have hmap : t.rings.map Ring.q = s.rings.map Ring.q := by
    ext1 i hi
    rw [Vector.getElem_map, Vector.getElem_map]
    exact hq ⟨i, hi⟩
  have hlist : t.rings.toList.map Ring.q = s.rings.toList.map Ring.q := by
    rw [← Vector.toList_map, ← Vector.toList_map, hmap]
  unfold State.waitingItems
  rw [List.flatMap_def, List.flatMap_def, hlist, hl, hs]

theorem State.signs_sealWaits (s : State) (m : Fin 64) (cause : Nat) (rest : List (Nat × Nat)) (n : Nat) :
    (s.signs m cause rest).sealWaits n = s.sealWaits n := by
  have hq : ∀ k : Fin 64, ((s.signs m cause rest).rings[k]).q = (s.rings[k]).q := congrFun (State.setRing_readRings_same Ring.q _ m fun _ => rfl)
  unfold State.sealWaits
  rw [State.waitingItems_of hq rfl rfl]

theorem State.startSign_taken {s : State} {n : Fin 64} (h : s.sealTaken n) : s.startSign.sealTaken n := by
  rcases s.startSign_cases with hs | ⟨m, cause, rest, hsig, hdue, hs⟩ | ⟨m, cause, rest, hdue, hm, hs⟩
  · rwa [hs]
  · rw [hs]
    rcases h with h | h
    · rw [hdue, List.any_cons, Bool.or_eq_true] at h
      rcases h with h | h
      · exact .inr (congrArg some (eq_of_beq h))
      · exact .inl h
    · rw [hsig] at h
      cases h
  · rw [hs]
    rcases h with h | h
    · rw [hdue, List.any_cons, Bool.or_eq_true] at h
      rcases h with h | h
      · have := eq_of_beq h
        omega
      · exact .inl h
    · exact .inr h

/-- A seal that may become due is taken by the start of a signature, or may become due after it. -/
theorem State.startSign_sealable {s : State} {n : Fin 64} (h : s.sealable n) : s.startSign.sealTaken n ∨ s.startSign.sealable n := by
  obtain ⟨hf, hu, hw⟩ := h
  rcases s.startSign_cases with hs | ⟨m, cause, rest, hsig, hdue, hs⟩ | ⟨m, cause, rest, hdue, hm, hs⟩
  · rw [hs]
    exact .inr ⟨hf, hu, hw⟩
  · rw [hs]
    by_cases hmn : m = n
    · exact .inl (.inr (congrArg some (congrArg Fin.val hmn)))
    · refine .inr ⟨hf, ?_, (s.signs_sealWaits m cause rest n).trans hw⟩
      rw [State.signs, State.setRing_get_ne _ _ (Ne.symm hmn)]
      exact hu
  · rw [hs]
    exact .inr ⟨hf, hu, hw⟩

/-- A seal that becomes due waits behind those that are due. -/
def State.dueNext (s : State) (n : Fin 64) (cause : Nat) : State := { s with sec := { s.sec with due := s.sec.due ++ [(n.val, cause)] } }

theorem State.makeDue_cases (s : State) (n : Fin 64) (cause : Nat) : s.makeDue n cause = (s.dueNext n cause).startSign ∨ s.makeDue n cause = s :=
  ite_eq_or_eq _ _ _

theorem State.dueNext_taken {s : State} {n : Fin 64} (h : s.sealTaken n) (m : Fin 64) (cause : Nat) : (s.dueNext m cause).sealTaken n :=
  h.imp_left fun h => by simp only [State.dueNext, List.any_append, h, Bool.true_or]

theorem State.makeDue_taken {s : State} {n : Fin 64} (h : s.sealTaken n) (m : Fin 64) (cause : Nat) : (s.makeDue m cause).sealTaken n := by
  rcases s.makeDue_cases m cause with hs | hs
  · rw [hs]
    exact State.startSign_taken (State.dueNext_taken h m cause)
  · rwa [hs]

theorem State.makeDue_sealable {s : State} {n : Fin 64} (h : s.sealable n) (m : Fin 64) (cause : Nat) :
    (s.makeDue m cause).sealTaken n ∨ (s.makeDue m cause).sealable n := by
  rcases s.makeDue_cases m cause with hs | hs
  · rw [hs]
    exact State.startSign_sealable (s := s.dueNext m cause) h
  · rw [hs]
    exact .inr h

/-- A seal that may become due, and is not taken, is taken when it is asked for. -/
theorem State.makeDue_takes {s : State} {n : Fin 64} (h : s.sealable n) (cause : Nat) : (s.makeDue n cause).sealTaken n := by
  obtain ⟨hf, hu, hw⟩ := h
  by_cases ht : s.sealTaken n
  · exact State.makeDue_taken ht n cause
  · obtain ⟨hd, hs⟩ := not_or.1 ht
    have hdue : s.makeDue n cause = (s.dueNext n cause).startSign := by
      refine if_pos ?_
      rw [hf, hu, hw, Bool.eq_false_iff.2 hd]
      cases hsig : s.sec.signing with
      | none => rfl
      | some g =>
        rw [hsig] at hs
        simpa using hs
    rw [hdue]
    exact State.startSign_taken (.inl (by simp [State.dueNext]))

theorem State.makeDues_taken {n : Fin 64} (cause : Nat) {l : List (Fin 64)} (hn : n ∈ l) {s : State} (h : s.sealTaken n ∨ s.sealable n) :
    (l.foldl (fun s m => s.makeDue m cause) s).sealTaken n := by
  have hkeep (l : List (Fin 64)) : ∀ u : State, u.sealTaken n → (l.foldl (fun s m => s.makeDue m cause) u).sealTaken n := by
    induction l with
    | nil => exact fun u hu => hu
    | cons m l ih => exact fun u hu => ih _ (State.makeDue_taken hu m cause)
  induction l generalizing s with
  | nil => cases hn
  | cons m l ih =>
    rcases List.mem_cons.1 hn with rfl | hm
    · exact hkeep l _ (h.elim (fun h => State.makeDue_taken h n cause) fun h => State.makeDue_takes h cause)
    · exact ih hm (h.elim (fun h => .inl (State.makeDue_taken h m cause)) fun h => State.makeDue_sealable h m cause)

/-! ### SEAL_NOW (R450) -/

/-- The rings that SEAL_NOW names, and those of them that it asks a seal of. -/
def State.sealNamed (s : State) (c : Cmd) : List (Fin 64) :=
  (fins 64).filter (fun (n : Fin 64) => (leAt c.entry 0x10 8).testBit n && (decide (s.rings[n].st = .on)) && s.rings[n].cls != clsCMD && s.rings[n].cls != clsSEC)
def State.sealAsked (s : State) (c : Cmd) : List (Fin 64) :=
  (s.sealNamed c).filter (fun n => s.rings[n].unsealed || s.sec.due.any (fun d => d.1 == n.val) ||
    (match s.sec.signing with | some g => g.ring == n.val | none => false))

theorem State.doSealNow_eq (s : State) (c : Cmd) : ∃ (r : List Byte) (w : Cpl → Cpl), (∀ p, (w p).r = p.r ∧ (w p).mbox = p.mbox) ∧
    s.doSealNow c = ((s.sealAsked c).foldl (fun s n => s.makeDue n 3) s).finishC 0 0 r w := by
  unfold State.doSealNow
  refine ⟨_, _, ?_, rfl⟩
  exact fun _ => ⟨rfl, rfl⟩

theorem State.mem_sealAsked {s : State} {c : Cmd} {n : Fin 64} (hm : (leAt c.entry 0x10 8).testBit n = true) (hon : (s.rings[n]).st = .on)
    (hu : (s.rings[n]).unsealed = true) : n ∈ s.sealAsked c := by
  have hcls : ((s.rings[n]).cls != clsCMD) = true ∧ ((s.rings[n]).cls != clsSEC) = true := by
    have h := hu
    unfold Ring.unsealed at h
    simp only [Bool.and_eq_true] at h
    obtain ⟨⟨⟨-, h0⟩, h1⟩, -⟩ := h
    exact ⟨h0, h1⟩
  refine List.mem_filter.2 ⟨List.mem_filter.2 ⟨List.mem_finRange n, ?_⟩, ?_⟩
  · rw [hm, hon, hcls.1, hcls.2]
    rfl
  · rw [hu]
    rfl

/-- A completion leaves the seals that are due and in signing. -/
theorem State.finishC_taken {s : State} {n : Fin 64} (h : s.sealTaken n) (st d : Nat) (r : List Byte) (w : Cpl → Cpl) :
    (s.finishC st d r w).sealTaken n := by
  have hk := (State.finishC_keeps (x1 := st) (x2 := d) (x3 := r) (x4 := w) (Nat.and_self _) (.refl _ s)).secRest rfl
  have hdue : (s.finishC st d r w).sec.due = s.sec.due := (congrArg Sec.due hk :)
  have hsig : (s.finishC st d r w).sec.signing = s.sec.signing := (congrArg Sec.signing hk :)
  unfold State.sealTaken
  rwa [hdue, hsig]

theorem State.Executing.makeDues {s : State} {c : Cmd} (h : s.Executing c) (cause : Nat) (l : List (Fin 64)) :
    (l.foldl (fun s n => s.makeDue n cause) s).Executing c := by
  induction l generalizing s with
  | nil => exact h
  | cons n l ih => exact ih (h.of_keeps (State.makeDue_keeps (Nat.and_self _) (.refl _ s)) rfl rfl rfl)

/-! ### A completed signature (R447, R448) -/

/-- The part of the engine is the same altogether when none of it may change. -/
theorem State.Keeps.secSame {m : Nat} {s t : State} (h : State.Keeps m s t) (hm : ∀ p ∈ [StatePart.sec, .owner, .dbg, .zeroised, .session, .nonce],
    m.testBit p.ctorIdx = false) : t.sec = s.sec := by
  have hrest := h.secRest (hm .sec (by simp))
  have ho : t.sec.owner = s.sec.owner := h.part .owner (hm .owner (by simp))
  have hd : t.sec.dbg = s.sec.dbg := h.part .dbg (hm .dbg (by simp))
  have hz : t.sec.zeroised = s.sec.zeroised := h.part .zeroised (hm .zeroised (by simp))
  have hs : t.sec.session = s.sec.session := h.part .session (hm .session (by simp))
  have hn : t.sec.nonce = s.sec.nonce := h.part .nonce (hm .nonce (by simp))
  calc t.sec = { ({ t.sec with owner := none, dbg := false, zeroised := false, session := none, nonce := [] } : Sec) with
        owner := t.sec.owner, dbg := t.sec.dbg, zeroised := t.sec.zeroised, session := t.sec.session, nonce := t.sec.nonce } := rfl
    _ = s.sec := by rw [hrest, ho, hd, hz, hs, hn]

/-- MCOUNT and SIGCNT. -/
def State.sealCounts (s : State) : Nat × Nat := (s.sec.mcount, s.sec.sigCount)

theorem State.startSign_counts (s : State) : s.startSign.sealCounts = s.sealCounts ∧ s.startSign.formed = s.formed := by
  rcases s.startSign_cases with hs | ⟨m, cause, rest, hsig, hdue, hs⟩ | ⟨m, cause, rest, hdue, hm, hs⟩ <;> (rw [hs]; exact ⟨rfl, rfl⟩)

theorem State.makeDue_counts (s : State) (n : Fin 64) (cause : Nat) : (s.makeDue n cause).sealCounts = s.sealCounts ∧ (s.makeDue n cause).formed = s.formed := by
  rcases s.makeDue_cases n cause with hs | hs
  · rw [hs]
    exact (s.dueNext n cause).startSign_counts
  · rw [hs]
    exact ⟨rfl, rfl⟩

theorem State.cplTaken_formed (s : State) : s.cplTaken.formed = s.formed := by
  unfold State.cplTaken
  split <;> rfl

theorem State.tryCpl_formed_prefix (s : State) : s.formed <+: s.tryCpl.formed := by
  cases h : s.cmd.cpl with
  | none => rw [State.tryCpl_of_none h]
  | some c =>
    cases hc : s.cplReady c with
    | false => rw [State.tryCpl_of_waiting h hc]
    | true =>
      cases hm : c.mbox with
      | none =>
        rw [State.tryCpl_of_ring h hc hm, ← s.cplTaken_formed]
        exact State.emitL_formed_prefix _ _ _
      | some m =>
        have hraise (u : State) : (u.raise 0).formed = u.formed := (State.raise_keeps (Nat.and_self _) (.refl _ u) (.inl (by decide))).part .formed rfl
        have hdata : (s.cplTaken.mboxData m.2.2).formed = s.cplTaken.formed :=
          (State.mboxData_keeps (Nat.and_self _) (.refl _ s.cplTaken)).part .formed rfl
        rw [State.tryCpl_of_mailbox h hc hm, hraise, State.sfs_eq]
        exact hdata.trans s.cplTaken_formed ▸ List.prefix_refl _

/-- The seals that a completion still waits for become due again. -/
theorem State.cplDues_counts (s : State) (ring : Nat) (l : List (Nat × Nat)) :
    (l.foldl (fun (s : State) (e : Nat × Nat) => if h : e.1 < 64 then (if e.1 = ring then s.makeDue ⟨e.1, h⟩ 3 else s) else s) s).sealCounts =
      s.sealCounts ∧
    (l.foldl (fun (s : State) (e : Nat × Nat) => if h : e.1 < 64 then (if e.1 = ring then s.makeDue ⟨e.1, h⟩ 3 else s) else s) s).formed =
      s.formed := by
  constructor
  · refine State.foldl_same State.sealCounts (fun u e => ?_) l s
    split_ifs
    · exact (u.makeDue_counts _ 3).1
    · rfl
    · rfl
  · refine State.foldl_same State.formed (fun u e => ?_) l s
    split_ifs
    · exact (u.makeDue_counts _ 3).2
    · rfl
    · rfl

/-- What waited for the seal goes on: the counts stay, and no record is taken back. -/
theorem State.cplSealed_counts (s : State) (ring last : Nat) :
    (s.cplSealed ring last).sealCounts = s.sealCounts ∧ s.formed <+: (s.cplSealed ring last).formed := by
  unfold State.cplSealed
  split
  · exact ⟨rfl, List.prefix_refl _⟩
  · next c hc =>
    split
    · extract_lets m left _ u
      have hu : u.sealCounts = s.sealCounts ∧ s.formed <+: u.formed := by
        refine ⟨?_, State.tryCpl_formed_prefix ({ s with cmd := { s.cmd with cpl := some { c with marks := c.marks ++ m, seals := left } } } : State)⟩
        have hsec : u.sec = s.sec := (State.tryCpl_keeps (Nat.and_self _)
          (.refl _ ({ s with cmd := { s.cmd with cpl := some { c with marks := c.marks ++ m, seals := left } } } : State))).secSame (by decide)
        rw [State.sealCounts, hsec]
        rfl
      obtain ⟨hcounts, hformed⟩ := u.cplDues_counts ring left
      exact ⟨hcounts.trans hu.1, hformed ▸ hu.2⟩
    · exact ⟨rfl, List.prefix_refl _⟩

/-- The signature of a seal, zeros once the key is gone; the seal's record; and the engine once the seal is counted. -/
def State.sealSig (s : State) (g : Signing) : List Byte :=
  if s.unsigned then zeros 64 else
    ecdsaSign s.chip.devKey (svetvaS ++ leBytes 8 s.chip.uid ++ g.body s.sec.mcount (if s.sec.prev = [] then zeros 32 else s.sec.prev))
def State.sealPayload (s : State) (g : Signing) : List Byte :=
  g.body s.sec.mcount (if s.sec.prev = [] then zeros 32 else s.sec.prev) ++ s.sealSig g
def State.sealRec (s : State) (g : Signing) : Rec :=
  { cls := clsSEC, src := srcNone, tStart := g.time, tEnd := g.time, aux := g.cause, payload := s.sealPayload g }
def State.sealCounted (s : State) (g : Signing) : State :=
  let u : State := { s with
    sec := { s.sec with signing := none, prev := sha256 (s.sealPayload g), mcount := s.sec.mcount + 1, sigCount := s.sec.sigCount + 1 } }
  if u.sec.mres < s.sec.mcount + 1 + 2 ^ 19 then u.storeSeals else u

theorem State.sealFinish_of {s : State} {g : Signing} (h : s.sec.signing = some g) :
    s.sealFinish = (((s.sealCounted g).emit (s.sealRec g)).cplSealed g.ring g.seqLast).startSign := by
  unfold State.sealFinish
  rw [h]
  rfl

theorem State.sealCounted_of (s : State) (g : Signing) : (s.sealCounted g).sealCounts = (s.sec.mcount + 1, s.sec.sigCount + 1) ∧
    (s.sealCounted g).formed = s.formed ∧ (s.sealCounted g).forms = s.forms := by
  unfold State.sealCounted
  extract_lets _ u
  split
  · obtain ⟨v, hv⟩ := storeSeals_rest u
    rw [hv]
    exact ⟨rfl, rfl, rfl⟩
  · exact ⟨rfl, rfl, rfl⟩

theorem State.sliced_shadowed_payload (s : State) (r : Rec) : (s.sliced (s.shadowed r)).payload = r.payload := by
  have hshadowed : (s.shadowed r).payload = r.payload := by
    unfold State.shadowed
    split <;> rfl
  unfold State.sliced
  split <;> exact hshadowed

/-- The end of the debug unlock counts no seal and forms no record. -/
theorem State.unlockEnd_counts (s : State) : s.unlockEnd.sealCounts = s.sealCounts ∧ s.unlockEnd.formed = s.formed := by
  unfold State.unlockEnd
  split
  · have hk := State.storeKeyZero_keeps (Nat.and_self _)
      (.refl _ ({ s with sec := { s.sec with unlocking := false, zeroised := true, dbg := true } } : State))
    exact ⟨(congrArg (fun x : Sec => (x.mcount, x.sigCount)) (hk.secRest rfl) :), hk.part .formed rfl⟩
  · exact ⟨rfl, rfl⟩

/-- A signature that completes counts its seal and forms its record. -/
theorem State.sealFinish_counts {s : State} {g : Signing} (h : s.sec.signing = some g) (hf : s.forms = true) :
    s.sealFinish.unlockEnd.sealCounts = (s.sec.mcount + 1, s.sec.sigCount + 1) ∧
    ∃ q : Rec, s.formed ++ [q] <+: s.sealFinish.unlockEnd.formed ∧ q.cls = clsSEC ∧ q.aux = g.cause ∧ q.payload = s.sealPayload g := by
  obtain ⟨hcount, hformed, hforms⟩ := s.sealCounted_of g
  have hemit : ((s.sealCounted g).emit (s.sealRec g)).sealCounts = (s.sealCounted g).sealCounts := by
    have hsec : ((s.sealCounted g).emit (s.sealRec g)).sec = (s.sealCounted g).sec :=
      (State.emit_keeps (Nat.and_self _) (.refl _ (s.sealCounted g))).secSame (by decide)
    rw [State.sealCounts, hsec]
    rfl
  have hrec : ((s.sealCounted g).emit (s.sealRec g)).formed = s.formed ++ [(s.sealCounted g).sliced ((s.sealCounted g).shadowed (s.sealRec g))] :=
    ((s.sealCounted g).emitL_formed 0 (s.sealRec g) (hforms.trans hf) rfl).trans (by rw [hformed])
  rw [State.sealFinish_of h]
  obtain ⟨hc1, hp1⟩ := ((s.sealCounted g).emit (s.sealRec g)).cplSealed_counts g.ring g.seqLast
  obtain ⟨hc2, hp2⟩ := (((s.sealCounted g).emit (s.sealRec g)).cplSealed g.ring g.seqLast).startSign_counts
  obtain ⟨hc3, hp3⟩ := (((s.sealCounted g).emit (s.sealRec g)).cplSealed g.ring g.seqLast).startSign.unlockEnd_counts
  obtain ⟨hcls, haux⟩ := (s.sealCounted g).sliced_shadowed_head (s.sealRec g)
  refine ⟨hc3.trans (hc2.trans (hc1.trans (hemit.trans hcount))), _, ?_, hcls, haux, State.sliced_shadowed_payload _ _⟩
  rw [hp3, hp2, ← hrec]
  exact hp1

/-- Settles O49: the nonce, the seals that are due or in signing, and what a completed signature forms. -/
theorem randomAndSeals : Obligations.RandomAndSeals := by
  refine ⟨fun s hp hf ho => ⟨_, execTrngReady_of hp hf ho, ?_⟩, fun s => ⟨_, rfl, rfl, rfl, rfl, State.gb_sf _ _ _⟩,
    fun s n hf hu hw hd hs hc hwd hm => ?_, fun s c hx => ?_, fun s g hf hc hg => ?_⟩
  · have hsec := (State.seedLoops_keeps (Nat.and_self _)
      (.refl _ ({ s with sec := { s.sec with trngOk := true, nonce := (s.drawBytes 16).1 }, free := s.free + 16 } : State))).secSame (by decide)
    rw [hsec]
    exact ⟨rfl, by simp [State.drawBytes]⟩
  · refine ⟨_, congrArg Host.Outcome.next ((State.makeDue_of 1 hf hu hw hd hs).trans (State.startSign_of hs rfl hc hwd hm hf)), rfl, rfl, rfl, rfl, ?_⟩
    rw [State.signs, State.setRing_get]
  · obtain ⟨r, w, hw, hdo⟩ := s.doSealNow_eq c
    have hex := hx.executing.makeDues 3 (s.sealAsked c)
    refine ⟨_, congrArg Host.Outcome.next ((hx.onCmd _).trans hdo), State.finishC_completed _ c 0 0 r w hw hex.forms hex.cur hex.ring,
      fun n hm hon hu hwait => ?_⟩
    exact State.finishC_taken (State.makeDues_taken 3 (State.mem_sealAsked hm hon hu) (.inr ⟨hx.1, hu, hwait⟩)) 0 0 r w
  · obtain ⟨hcount, q, hpre, hcls, haux, hpay⟩ := State.sealFinish_counts hg hf
    refine ⟨_, congrArg Host.Outcome.next (if_pos (by simp [hf, hc])), congrArg Prod.fst hcount, congrArg Prod.snd hcount,
      q, mem_drop_of_prefix List.prefix_rfl hpre, hcls, haux, s.sealSig g, hpay, fun h => if_pos h⟩

end Sys2Proof.Machine
end


section
/-! SUPPORT. A lone request (R352, R368): the latency register holds 16 bits, and the maximum is cut to them. -/

namespace Sys2Proof.Machine

/-- Master 0's request, presented alone. -/
def loneReq : FabReq := { tgt := 0x45, kind := .write, since := 0, age := 0 }

/-- A lone request of master 0 beside a latency register whose entry does not fit into its 16 bits. -/
def wideLatency : State :=
  { core.reset with
    regs := [((ARB_LAT_MAX 0).key, 2 ^ 16)]
    fab := { heads := (Vector.replicate 12 none).set 0 (some loneReq) } }

/-- The request is granted at once, and the greater maximum is cut to the register's width. -/
theorem wideLatency_granted : exec (.fabricAccessComplete [] .ok 0 []) wideLatency = .next (wideLatency.fabRun []).2 ∧
    (wideLatency.fabRun []).2.gf (ARB_LAT_MAX 0) = 0 := by
  constructor
  · rfl
  · decide

/-- Refutes O53: a maximum that does not fit into its register is not kept but cut to 0. -/
theorem not_fabricRegisters : ¬ Obligations.FabricRegisters := by
  rintro ⟨-, hlone, -⟩
  obtain ⟨t, ht, -, -, hlat⟩ := hlone wideLatency 0 loneReq 0 rfl (by decide) rfl rfl rfl (by decide) rfl (by decide)
  obtain ⟨hexec, hgf⟩ := wideLatency_granted
  cases hexec.symm.trans ht
  exact absurd (hgf.symm.trans hlat) (by decide)

end Sys2Proof.Machine
end


section
/-! SUPPORT. What an event of a tamper source changes in the Kettle (R467 to R473), what the refresh of the device's copy and the closing
of a session leave there, and what the decisions of switches, loops and limits make of one source. -/

namespace Sys2Proof.Machine

/-! ### What leaves the Kettle alone but for TIME_HWM -/

/-- The Kettle but for TIME_HWM. -/
def Kettle.own (k : Kettle) : Kettle := { k with hwm := 0 }

theorem State.Keeps.own {m : Nat} {s t : State} (h : State.Keeps m s t) (hm : m.testBit StatePart.ket.ctorIdx = false) :
    t.ket.own = s.ket.own :=
  h.part .ket hm

theorem Kettle.src_of_own {k l : Kettle} (h : k.own = l.own) : k.src = l.src :=
  (congrArg Kettle.src h :)

theorem Kettle.swAbn_of_own {k l : Kettle} (h : k.own = l.own) : k.swAbn = l.swAbn :=
  (congrArg Kettle.swAbn h :)

theorem Kettle.loop_of_own {k l : Kettle} (h : k.own = l.own) : k.loop = l.loop :=
  (congrArg Kettle.loop h :)

theorem Kettle.tempOut_of_own {k l : Kettle} (h : k.own = l.own) : k.tempOut = l.tempOut :=
  (congrArg Kettle.tempOut h :)

theorem Kettle.vbatLow_of_own {k l : Kettle} (h : k.own = l.own) : k.vbatLow = l.vbatLow :=
  (congrArg Kettle.vbatLow h :)

theorem State.ketSync_own (s : State) : s.ketSync.ket.own = s.ket.own :=
  (State.ketSync_keeps (Nat.and_self _) (.refl _ s)).own rfl

theorem State.emit_own (s : State) (r : Rec) : (s.emit r).ket.own = s.ket.own :=
  (State.emit_keeps (Nat.and_self _) (.refl _ s)).own rfl

theorem State.raise_own (s : State) {n : Nat} (hn : n < 32) : (s.raise n).ket.own = s.ket.own :=
  (State.raise_keeps (Nat.and_self _) (.refl _ s) (.inl hn)).own rfl

theorem State.zeroise_own (s : State) : s.zeroise.ket.own = s.ket.own := by
  have hkey := (State.storeKeyZero_keeps (Nat.and_self _) (.refl _ (State.sealFinish { s with sec := { s.sec with zeroised := true } }))).own rfl
  have hseal := (State.sealFinish_keeps (Nat.and_self _) (.refl _ { s with sec := { s.sec with zeroised := true } })).own rfl
  exact hkey.trans hseal

/-! ### Events -/

/-- The Kettle but for TIME_HWM, the alarm pulse and what a zeroise response sets. -/
def Kettle.sensed (k : Kettle) : Kettle := { k with pulse := false, zeroised := false, zeroDemand := false, hwm := 0 }

theorem Kettle.sensed_of_own {k l : Kettle} (h : k.own = l.own) : k.sensed = l.sensed :=
  (congrArg Kettle.sensed h :)

theorem State.ketZero_sensed (s : State) : s.ketZero.ket.sensed = s.ket.sensed := by
  unfold State.ketZero
  split
  · exact (Kettle.sensed_of_own (State.zeroise_own _)).trans rfl
  · rfl

theorem State.ketEvent_skipped {s : State} {k : Fin 12} (h : s.gb (KET_SRC_EN k) = false ∨ s.ketTested k = true) : s.ketEvent k = s := by
  unfold State.ketEvent
  rcases h with hen | htest
  · rw [hen]
    rfl
  · unfold State.ketTested at htest
    rw [htest]
    simp

/-- The event of an enabled source that is not under test counts once in its own evidence. -/
theorem State.ketEvent_counted {s : State} {k : Fin 12} (hen : s.gb (KET_SRC_EN k) = true) (htest : s.ketTested k = false) :
    ∃ e : KSrc, e.count = min (s.ket.src[k].count + 1) 0xFFFF ∧
      (s.ketEvent k).ket.sensed = { s.ket.sensed with src := s.ket.src.set k e } := by
  unfold State.ketTested at htest
  generalize ht : s.ketEvent k = t
  unfold State.ketEvent at ht
  rw [hen, htest, if_neg (by decide), if_neg (by decide)] at ht
  extract_lets -merge -useContext +onlyGivenNames e alarm live mark e' _ u v at ht
  have hcount : e'.count = min (s.ket.src[k].count + 1) 0xFFFF := rfl
  refine ⟨e', hcount, ?_⟩
  have hu : u.ket.sensed = { s.ket.sensed with src := s.ket.src.set k e' } := rfl
  have hv : v.ket.sensed = u.ket.sensed := by
    unfold v
    split
    · exact (Kettle.sensed_of_own (State.raise_own _ (by decide))).trans (Kettle.sensed_of_own (State.emit_own _ _))
    · rfl
  clear_value v
  rw [← ht]
  split
  · exact hu
  · split
    · exact (v.ketZero_sensed.trans hv).trans hu
    · exact hv.trans hu

/-- Decided or not, an event changes the evidence of no other source and nothing else that the Kettle senses. -/
theorem State.ketEvent_sensed (s : State) (k : Fin 12) :
    ∃ e : KSrc, (s.ketEvent k).ket.sensed = { s.ket.sensed with src := s.ket.src.set k e } := by
  by_cases h : s.gb (KET_SRC_EN k) = false ∨ s.ketTested k = true
  · refine ⟨s.ket.src[k], ?_⟩
    rw [State.ketEvent_skipped h, Fin.getElem_fin, Vector.set_getElem_self]
    rfl
  · rw [not_or, Bool.not_eq_false, Bool.not_eq_true] at h
    obtain ⟨e, -, he⟩ := State.ketEvent_counted h.1 h.2
    exact ⟨e, he⟩

theorem State.ketEvent_src_ne (s : State) {k : Fin 12} {j : Nat} (hj : j < 12) (h : k.val ≠ j) : (s.ketEvent k).ket.src[j] = s.ket.src[j] := by
  obtain ⟨e, he⟩ := s.ketEvent_sensed k
  have hsrc : (s.ketEvent k).ket.src = s.ket.src.set k e := (congrArg Kettle.src he :)
  rw [hsrc, Vector.getElem_set_ne _ _ h]

theorem State.ketEvent_bist (s : State) (k : Fin 12) : (s.ketEvent k).ket.bist = s.ket.bist := by
  obtain ⟨e, he⟩ := s.ketEvent_sensed k
  exact (congrArg Kettle.bist he :)

theorem State.ketEvent_count {s : State} {k : Fin 12} (hen : s.gb (KET_SRC_EN k) = true) (hbist : s.ket.bist = none) :
    ((s.ketEvent k).ket.src[k]).count = min (s.ket.src[k].count + 1) 0xFFFF := by
  have htest : s.ketTested k = false := by
    unfold State.ketTested
    rw [hbist]
  obtain ⟨e, hcount, he⟩ := State.ketEvent_counted hen htest
  have hsrc : (s.ketEvent k).ket.src = s.ket.src.set k e := (congrArg Kettle.src he :)
  rw [Fin.getElem_fin, hsrc, Vector.getElem_set_self, hcount, Fin.getElem_fin]

/-- What the event of a source may change: its evidence, its record, and what a zeroise response erases. -/
def ketEventScope : Nat :=
  scopeMask (reporting ++ ([.cmd, .stat, .link, .nvm, .sec, .zeroised, .ket] : List StatePart))
    (reportRegs ++ ([.aggStat, .statSeq, .mbox] : List RegGroup))

theorem State.ketEvent_gf (s : State) (k : Fin 12) {f : Fld} (hlo : f.lo < 32)
    (hm : ketEventScope.testBit (64 + (regGroup f.off).ctorIdx) = false) : (s.ketEvent k).gf f = s.gf f :=
  (State.ketEvent_keeps (w := ketEventScope) rfl (.refl _ s)).reg f hlo hm

theorem regGroup_ketSrc : ∀ k : Fin 12, regGroup (0x1E80 + 4 * k.val) = .ketSrc := by decide

theorem State.ketEvent_enabled (s : State) (j k : Fin 12) : (s.ketEvent j).gb (KET_SRC_EN k.val) = s.gb (KET_SRC_EN k.val) := by
  unfold State.gb
  rw [s.ketEvent_gf j (show 0 < 32 by decide) (by rw [regGroup_ketSrc k]; rfl)]

/-- A mark of the self-test changes nothing else. -/
theorem State.bistHit_unmarked (s : State) (k : Nat) : ∃ m, s.bistHit k = { s with ket := { s.ket with bistMark := m } } := by
  unfold State.bistHit
  split
  · exact ⟨_, rfl⟩
  · exact ⟨s.ket.bistMark, rfl⟩

/-! ### Switches (R463) -/

/-- A fold over a list without repetitions meets each element once, between two spans that a relation bridges when the steps of all
other elements do. -/
theorem State.foldl_meets {α : Type} {R : State → State → Prop} {f : State → α → State} {l : List α} {a : α} (hl : l.Nodup) (ha : a ∈ l)
    (hrefl : ∀ u, R u u) (hstep : ∀ s u b, b ≠ a → R s u → R s (f u b)) (s : State) : ∃ u, R s u ∧ R (f u a) (l.foldl f s) := by
  obtain ⟨l₁, l₂, rfl⟩ := List.append_of_mem ha
  obtain ⟨-, hcons, hdisj⟩ := List.nodup_append.1 hl
  have hnot : a ∉ l₂ := (List.nodup_cons.1 hcons).1
  rw [List.foldl_append, List.foldl_cons]
  refine ⟨l₁.foldl f s, List.foldlRecOn l₁ f (hrefl s) fun u hu b hb => ?_, List.foldlRecOn l₂ f (hrefl _) fun u hu b hb => ?_⟩
  · exact hstep s u b (hdisj b hb a List.mem_cons_self) hu
  · exact hstep _ u b (fun h => hnot (h ▸ hb)) hu

/-- Switch k, its settings, its source's evidence and the self-test stand in `t` as in `s`. -/
structure State.SwitchSame (k : Fin 4) (s t : State) : Prop where
  abn : t.ket.swAbn[k] = s.ket.swAbn[k]
  diff : t.ket.swDiff[k] = s.ket.swDiff[k]
  src : t.ket.src[k.val]'(by omega) = s.ket.src[k.val]'(by omega)
  bist : t.ket.bist = s.ket.bist
  en : t.gb (KET_SRC_EN k.val) = s.gb (KET_SRC_EN k.val)
  norm : t.mbit KET_SWCFG_NORM_OPEN k.val = s.mbit KET_SWCFG_NORM_OPEN k.val

theorem State.SwitchSame.refl (k : Fin 4) (s : State) : s.SwitchSame k s := ⟨rfl, rfl, rfl, rfl, rfl, rfl⟩

theorem State.SwitchSame.trans {k : Fin 4} {s t u : State} (h : s.SwitchSame k t) (h' : t.SwitchSame k u) : s.SwitchSame k u :=
  ⟨h'.abn.trans h.abn, h'.diff.trans h.diff, h'.src.trans h.src, h'.bist.trans h.bist, h'.en.trans h.en, h'.norm.trans h.norm⟩

/-- A switch after its sample: its debounced state, and that of the self-test. -/
def State.switchLatched (s : State) (isOpen : BitVec 4) (k : Fin 4) : State :=
  let isAbn := isOpen.getLsbD k != s.mbit KET_SWCFG_NORM_OPEN k
  let x := swStep s.ket.swAbn[k] s.ket.swDiff[k] isAbn
  let y := swStep s.ket.bistAbn[k] s.ket.bistDiff[k] (!isAbn)
  { s with ket := { s.ket with swAbn := s.ket.swAbn.set k x.1, swDiff := s.ket.swDiff.set k x.2.1, bistAbn := s.ket.bistAbn.set k y.1, bistDiff := s.ket.bistDiff.set k y.2.1 } }

/-- A switch after its sample, with the self-test's mark, before its event. -/
def State.switchSampled (s : State) (isOpen : BitVec 4) (k : Fin 4) : State :=
  let y := swStep s.ket.bistAbn[k] s.ket.bistDiff[k] (!(isOpen.getLsbD k != s.mbit KET_SWCFG_NORM_OPEN k))
  if y.2.2 then (s.switchLatched isOpen k).bistHit k else s.switchLatched isOpen k

/-- The sample of a switch enters the abnormal state. -/
def State.switchEvent (s : State) (isOpen : BitVec 4) (k : Fin 4) : Bool :=
  (swStep s.ket.swAbn[k] s.ket.swDiff[k] (isOpen.getLsbD k != s.mbit KET_SWCFG_NORM_OPEN k)).2.2

theorem State.ketSwitch_enabled {s : State} {isOpen : BitVec 4} {k : Fin 4} (hen : s.gb (KET_SRC_EN k) = true) :
    s.ketSwitch isOpen k =
      if s.switchEvent isOpen k then (s.switchSampled isOpen k).ketEvent ⟨k.val, by omega⟩ else s.switchSampled isOpen k := by
  unfold State.ketSwitch
  rw [hen]
  rfl

theorem State.ketSwitch_disabled {s : State} {isOpen : BitVec 4} {k : Fin 4} (hen : s.gb (KET_SRC_EN k) = false) :
    s.ketSwitch isOpen k = s := by
  unfold State.ketSwitch
  rw [hen]
  rfl

/-- What a sample of switch k makes of the Kettle, before its event. -/
theorem State.switchSampled_ket (s : State) (isOpen : BitVec 4) (k : Fin 4) :
    (s.switchSampled isOpen k).ket.swAbn =
        s.ket.swAbn.set k (swStep s.ket.swAbn[k] s.ket.swDiff[k] (isOpen.getLsbD k != s.mbit KET_SWCFG_NORM_OPEN k)).1 ∧
      (s.switchSampled isOpen k).ket.swDiff =
        s.ket.swDiff.set k (swStep s.ket.swAbn[k] s.ket.swDiff[k] (isOpen.getLsbD k != s.mbit KET_SWCFG_NORM_OPEN k)).2.1 ∧
      (s.switchSampled isOpen k).ket.src = s.ket.src ∧ (s.switchSampled isOpen k).ket.bist = s.ket.bist ∧
      (s.switchSampled isOpen k).regs = s.regs := by
  unfold State.switchSampled
  extract_lets y
  split
  · obtain ⟨m, hm⟩ := (s.switchLatched isOpen k).bistHit_unmarked k
    rw [hm]
    exact ⟨rfl, rfl, rfl, rfl, rfl⟩
  · exact ⟨rfl, rfl, rfl, rfl, rfl⟩

theorem State.SwitchSame.of_event {k : Fin 4} {s : State} {j : Fin 12} (h : j.val ≠ k.val) : s.SwitchSame k (s.ketEvent j) := by
  obtain ⟨e, he⟩ := s.ketEvent_sensed j
  refine ⟨?_, ?_, s.ketEvent_src_ne _ h, s.ketEvent_bist j, s.ketEvent_enabled j ⟨k.val, by omega⟩, ?_⟩
  · exact (congrArg (fun kt : Kettle => kt.swAbn[k]) he :)
  · exact (congrArg (fun kt : Kettle => kt.swDiff[k]) he :)
  · unfold State.mbit
    rw [s.ketEvent_gf j (by decide) rfl]

/-- The sample of another switch. -/
theorem State.SwitchSame.of_ketSwitch {j k : Fin 4} (h : j ≠ k) (s : State) (isOpen : BitVec 4) : s.SwitchSame k (s.ketSwitch isOpen j) := by
  have hval : j.val ≠ k.val := fun hv => h (Fin.ext hv)
  cases hen : s.gb (KET_SRC_EN j) with
  | false => rw [State.ketSwitch_disabled hen]; exact .refl k s
  | true =>
    have hsample : s.SwitchSame k (s.switchSampled isOpen j) := by
      obtain ⟨habn, hdiff, hsrc, hbist, hregs⟩ := s.switchSampled_ket isOpen j
      refine ⟨?_, ?_, by rw [hsrc], hbist, ?_, ?_⟩
      · rw [habn, Fin.getElem_fin, Vector.getElem_set_ne _ _ hval, Fin.getElem_fin]
      · rw [hdiff, Fin.getElem_fin, Vector.getElem_set_ne _ _ hval, Fin.getElem_fin]
      · unfold State.gb State.gf
        rw [hregs]
      · unfold State.mbit State.gf
        rw [hregs]
    rw [State.ketSwitch_enabled hen]
    split
    · exact hsample.trans (.of_event hval)
    · exact hsample

/-- The second sample in a row that reads abnormal is an event of the switch's source. -/
theorem State.ketSwitch_enters {s : State} {isOpen : BitVec 4} {k : Fin 4} (hbist : s.ket.bist = none) (hen : s.gb (KET_SRC_EN k) = true)
    (habn : (isOpen.getLsbD k != s.mbit KET_SWCFG_NORM_OPEN k) = true) (hnormal : s.ket.swAbn[k] = false) (hdiff : s.ket.swDiff[k] = true) :
    (s.ketSwitch isOpen k).ket.swAbn[k] = true ∧
      ((s.ketSwitch isOpen k).ket.src[k.val]'(by omega)).count = min ((s.ket.src[k.val]'(by omega)).count + 1) 0xFFFF := by
  obtain ⟨hsw, -, hsrc, hb, hregs⟩ := s.switchSampled_ket isOpen k
  have hevent : s.switchEvent isOpen k = true := by
    unfold State.switchEvent
    rw [hnormal, hdiff, habn]
    rfl
  rw [hnormal, hdiff, habn] at hsw
  rw [State.ketSwitch_enabled hen, if_pos hevent]
  generalize hu : s.switchSampled isOpen k = u at *
  have henU : u.gb (KET_SRC_EN k) = true := by
    unfold State.gb State.gf at hen ⊢
    rw [hregs, hen]
  constructor
  · obtain ⟨e, he⟩ := u.ketEvent_sensed ⟨k.val, by omega⟩
    have hset : (u.ketEvent ⟨k.val, by omega⟩).ket.swAbn = u.ket.swAbn := (congrArg Kettle.swAbn he :)
    rw [hset, hsw, Fin.getElem_fin, Vector.getElem_set_self]
    rfl
  · have hcount := State.ketEvent_count (s := u) (k := ⟨k.val, by omega⟩) henU (hb.trans hbist)
    rw [hsrc] at hcount
    exact hcount

/-- The sample of all switches: switch k stands as its own sample leaves it. -/
theorem execTamperSwitchSample_own (s : State) (isOpen : BitVec 4) (n : Nat) (k : Fin 4) :
    ∃ u t, exec (.tamperSwitchSample isOpen n) s = .next t ∧ (s.ketRun n).SwitchSame k u ∧
      t.ket.swAbn[k] = (u.ketSwitch isOpen k).ket.swAbn[k] ∧
      t.ket.src[k.val]'(by omega) = (u.ketSwitch isOpen k).ket.src[k.val]'(by omega) := by
  obtain ⟨u, hu, ht⟩ := State.foldl_meets (R := State.SwitchSame k) (f := fun s k => s.ketSwitch isOpen k) (List.nodup_finRange 4)
    (List.mem_finRange k) (State.SwitchSame.refl k) (fun s v j hj hv => hv.trans (.of_ketSwitch hj v isOpen)) (s.ketRun n)
  have hsync := State.ketSync_own ((fins 4).foldl (fun s k => s.ketSwitch isOpen k) (s.ketRun n))
  refine ⟨u, _, rfl, hu, ?_, ?_⟩
  · rw [← ht.abn]
    exact congrArg (fun v : Vector Bool 4 => v[k]) (Kettle.swAbn_of_own hsync)
  · rw [← ht.src]
    exact congrArg (fun v : Vector KSrc 12 => v[k.val]'(by omega)) (Kettle.src_of_own hsync)

/-! ### Loops (R464) -/

/-- A first mismatch after sixteen matches starts an episode. -/
theorem KLoop.step_episode {l : KLoop} (hep : l.episode = false) (hgood : 16 ≤ l.good) :
    l.step true = ({ l with episode := true, good := 0 }, true) := by
  unfold KLoop.step
  simp [hep, hgood]

/-- A loop after its comparison, with the self-test's mark, before its event. -/
def State.loopSampled (s : State) (k : Fin 4) (l : KLoop) (mis : Bool) : State :=
  let x := s.ket.bistLoop[k].step (!mis)
  let u : State := { s with ket := { s.ket with loop := s.ket.loop.set k l, bistLoop := s.ket.bistLoop.set k x.1 } }
  if x.2 then u.bistHit (4 + k.val) else u

theorem State.loopSampled_ket (s : State) (k : Fin 4) (l : KLoop) (mis : Bool) :
    (s.loopSampled k l mis).ket.loop = s.ket.loop.set k l ∧ (s.loopSampled k l mis).ket.src = s.ket.src ∧
      (s.loopSampled k l mis).ket.bist = s.ket.bist ∧ (s.loopSampled k l mis).regs = s.regs := by
  unfold State.loopSampled
  extract_lets x _ u
  split
  · obtain ⟨m, hm⟩ := u.bistHit_unmarked (4 + k.val)
    rw [hm]
    exact ⟨rfl, rfl, rfl, rfl⟩
  · exact ⟨rfl, rfl, rfl, rfl⟩

/-- A comparison of an enabled static loop. -/
theorem execTamperLoopSample_static {s : State} {n : Nat} {k : Fin 4} (level : Bool) (hen : s.gb (KET_SRC_EN (4 + k.val)) = true)
    (hmode : s.loopMode k.val = 0) :
    exec (.tamperLoopSample k level n) s =
      let x := s.ket.loop[k].step (!level)
      let u := (s.ketRun n).loopSampled k x.1 (!level)
      .next (if x.2 then u.ketEvent ⟨4 + k.val, by omega⟩ else u).ketSync := by
  have hen' : (s.ketRun n).gb (KET_SRC_EN (4 + k.val)) = true := hen
  have hmode' : (s.ketRun n).loopMode k.val = 0 := hmode
  show execTamperLoopSample k level n s = _
  unfold execTamperLoopSample
  simp only [hen', hmode', Bool.not_true, Bool.false_eq_true, if_false, if_true]
  rfl

theorem execTamperLoopSample_episode {s : State} {n : Nat} {k : Fin 4} (hbist : s.ket.bist = none)
    (hen : s.gb (KET_SRC_EN (4 + k.val)) = true) (hmode : s.loopMode k.val = 0) (hep : (s.ket.loop[k]).episode = false)
    (hgood : 16 ≤ (s.ket.loop[k]).good) :
    ∃ t, exec (.tamperLoopSample k false n) s = .next t ∧ (t.ket.loop[k]).episode = true ∧
      (t.ket.src[4 + k.val]'(by omega)).count = min ((s.ket.src[4 + k.val]'(by omega)).count + 1) 0xFFFF := by
  refine ⟨_, execTamperLoopSample_static false hen hmode, ?_⟩
  rw [Bool.not_false, KLoop.step_episode hep hgood]
  obtain ⟨hloop, hsrc, hb, hregs⟩ := (s.ketRun n).loopSampled_ket k { s.ket.loop[k] with episode := true, good := 0 } true
  dsimp only
  rw [if_pos rfl]
  generalize (s.ketRun n).loopSampled k { s.ket.loop[k] with episode := true, good := 0 } true = u at *
  have hsync := (u.ketEvent ⟨4 + k.val, by omega⟩).ketSync_own
  have henU : u.gb (KET_SRC_EN (4 + k.val)) = true := by
    unfold State.gb State.gf at hen ⊢
    rw [hregs]
    exact hen
  constructor
  · obtain ⟨e, he⟩ := u.ketEvent_sensed ⟨4 + k.val, by omega⟩
    have hset : (u.ketEvent ⟨4 + k.val, by omega⟩).ket.loop = u.ket.loop := (congrArg Kettle.loop he :)
    rw [Kettle.loop_of_own hsync, hset, hloop, Fin.getElem_fin, Vector.getElem_set_self]
  · have hcount := State.ketEvent_count (s := u) (k := ⟨4 + k.val, by omega⟩) henU (hb.trans hbist)
    rw [hsrc] at hcount
    rw [← Kettle.src_of_own hsync] at hcount
    exact hcount

/-! ### Temperature and VBAT (R466) -/

def State.tempOutside (s : State) (temp : Int) : Bool := decide (temp < s.gi KET_ENVCFG_TLO) || decide (s.gi KET_ENVCFG_THI < temp)

def State.vbatBelow (s : State) (mv : Nat) : Bool := decide (mv < 1800 + 10 * s.gf KET_ENVCFG_VTH)

/-- A bistHit that a condition may cause changes the self-test's mark alone. -/
theorem State.ite_bistHit_unmarked (s : State) (c : Bool) (k : Nat) :
    ∃ m, (if c = true then s.bistHit k else s) = { s with ket := { s.ket with bistMark := m } } := by
  cases c with
  | false => exact ⟨s.ket.bistMark, rfl⟩
  | true => exact s.bistHit_unmarked k

/-- A measurement shows both conditions, then each first one is its source's event. -/
theorem execKettleEnvMeasure_eq (s : State) (temp : Int) (mv n : Nat) :
    ∃ u : State, u.ket.tempOut = (s.gb (KET_SRC_EN 8) && s.tempOutside temp) ∧ u.ket.vbatLow = (s.gb (KET_SRC_EN 9) && s.vbatBelow mv) ∧
      u.ket.src = s.ket.src ∧ u.ket.bist = s.ket.bist ∧ u.regs = s.regs ∧
      exec (.kettleEnvMeasure temp mv n) s =
        let v := if s.gb (KET_SRC_EN 8) && s.tempOutside temp && !s.ket.tempOut then u.ketEvent 8 else u
        .next (if s.gb (KET_SRC_EN 9) && s.vbatBelow mv && !s.ket.vbatLow then v.ketEvent 9 else v).ketSync := by
  show ∃ u : State, _ ∧ _ ∧ _ ∧ _ ∧ _ ∧ execKettleEnvMeasure temp mv n s = _
  generalize ht : execKettleEnvMeasure temp mv n s = t
  unfold execKettleEnvMeasure at ht
  extract_lets -merge -useContext +onlyGivenNames r lo hi out tout low en8 en9 ev8 ev9 x y _ u v at ht
  have hx : x.ket.src = s.ket.src ∧ x.ket.bist = s.ket.bist ∧ x.regs = s.regs := by
    obtain ⟨m, hm⟩ := r.ite_bistHit_unmarked (en8 && tout && !r.ket.bistTemp) 8
    unfold x
    rw [hm]
    exact ⟨rfl, rfl, rfl⟩
  have hy : y.ket.src = s.ket.src ∧ y.ket.bist = s.ket.bist ∧ y.regs = s.regs := by
    obtain ⟨m, hm⟩ := x.ite_bistHit_unmarked (en9 && !low && !x.ket.bistVbat) 9
    unfold y
    rw [hm]
    exact hx
  obtain ⟨hsrc, hbist, hregs⟩ := hy
  exact ⟨u, rfl, rfl, hsrc, hbist, hregs, ht.symm⟩

/-- What an event of another source leaves of source k and of the conditions of R466. -/
structure State.EnvSame (k : Fin 12) (s t : State) : Prop where
  tempOut : t.ket.tempOut = s.ket.tempOut
  vbatLow : t.ket.vbatLow = s.ket.vbatLow
  src : t.ket.src[k] = s.ket.src[k]
  bist : t.ket.bist = s.ket.bist
  en : t.gb (KET_SRC_EN k.val) = s.gb (KET_SRC_EN k.val)

theorem State.EnvSame.of_event {j k : Fin 12} (h : j.val ≠ k.val) (s : State) (c : Bool) :
    s.EnvSame k (if c = true then s.ketEvent j else s) := by
  cases c with
  | false => exact ⟨rfl, rfl, rfl, rfl, rfl⟩
  | true =>
    obtain ⟨e, he⟩ := s.ketEvent_sensed j
    exact ⟨(congrArg Kettle.tempOut he :), (congrArg Kettle.vbatLow he :), s.ketEvent_src_ne k.isLt h, s.ketEvent_bist j,
      s.ketEvent_enabled j k⟩

theorem execKettleEnvMeasure_temp {s : State} {temp : Int} {mv n : Nat} (hbist : s.ket.bist = none) (hen : s.gb (KET_SRC_EN 8) = true)
    (hout : s.tempOutside temp = true) (hfirst : s.ket.tempOut = false) :
    ∃ t, exec (.kettleEnvMeasure temp mv n) s = .next t ∧ t.ket.tempOut = true ∧
      (t.ket.src[(8 : Fin 12)]).count = min ((s.ket.src[(8 : Fin 12)]).count + 1) 0xFFFF := by
  obtain ⟨u, htemp, -, hsrc, hb, hregs, hexec⟩ := execKettleEnvMeasure_eq s temp mv n
  refine ⟨_, hexec, ?_⟩
  rw [hen, hout] at htemp
  rw [hen, hout, hfirst, if_pos (show (true && true && !false) = true from rfl)]
  generalize (s.gb (KET_SRC_EN 9) && s.vbatBelow mv && !s.ket.vbatLow) = other
  have henU : u.gb (KET_SRC_EN 8) = true := by
    unfold State.gb State.gf at hen ⊢
    rw [hregs]
    exact hen
  have hcount := State.ketEvent_count (k := 8) henU (hb.trans hbist)
  obtain ⟨e, he⟩ := u.ketEvent_sensed 8
  have htempV : (u.ketEvent 8).ket.tempOut = u.ket.tempOut := (congrArg Kettle.tempOut he :)
  have hsame := State.EnvSame.of_event (j := 9) (k := 8) (by decide) (u.ketEvent 8) other
  have hsync := (if other = true then (u.ketEvent 8).ketEvent 9 else u.ketEvent 8).ketSync_own
  constructor
  · rw [Kettle.tempOut_of_own hsync, hsame.tempOut, htempV, htemp]
    rfl
  · rw [Kettle.src_of_own hsync, hsame.src, hcount, hsrc]

theorem execKettleEnvMeasure_vbat {s : State} {temp : Int} {mv n : Nat} (hbist : s.ket.bist = none) (hen : s.gb (KET_SRC_EN 9) = true)
    (hlow : s.vbatBelow mv = true) (hfirst : s.ket.vbatLow = false) :
    ∃ t, exec (.kettleEnvMeasure temp mv n) s = .next t ∧ t.ket.vbatLow = true ∧
      (t.ket.src[(9 : Fin 12)]).count = min ((s.ket.src[(9 : Fin 12)]).count + 1) 0xFFFF := by
  obtain ⟨u, -, hvbat, hsrc, hb, hregs, hexec⟩ := execKettleEnvMeasure_eq s temp mv n
  refine ⟨_, hexec, ?_⟩
  rw [hen, hlow] at hvbat
  rw [hen, hlow, hfirst]
  generalize (s.gb (KET_SRC_EN 8) && s.tempOutside temp && !s.ket.tempOut) = other
  have hsame := State.EnvSame.of_event (j := 8) (k := 9) (by decide) u other
  rw [if_pos (show (true && true && !false) = true from rfl)]
  generalize (if other = true then u.ketEvent 8 else u) = v at *
  have henV : v.gb (KET_SRC_EN 9) = true := by
    unfold State.gb State.gf at hen
    refine hsame.en.trans ?_
    unfold State.gb State.gf
    rw [hregs]
    exact hen
  have hcount := State.ketEvent_count (k := 9) henV (hsame.bist.trans (hb.trans hbist))
  obtain ⟨e, he⟩ := v.ketEvent_sensed 9
  have hvbatV : (v.ketEvent 9).ket.vbatLow = v.ket.vbatLow := (congrArg Kettle.vbatLow he :)
  have hsync := (v.ketEvent 9).ketSync_own
  constructor
  · rw [Kettle.vbatLow_of_own hsync, hvbatV, hsame.vbatLow, hvbat]
    rfl
  · rw [Kettle.src_of_own hsync, hcount, hsame.src, hsrc]

end Sys2Proof.Machine
end

section
/-! EXTRA THEOREM. Tamper sources decide their events. -/

namespace Sys2Proof.Machine

/-- Settles O59: an event changes the evidence of its own source alone, so each source is counted once by its own decision. -/
theorem tamperEvents : Obligations.TamperEvents := by
  refine ⟨?_, ?_, ?_, ?_, ?_⟩
  · intro s o n k hbist hen habn hnormal hdiff
    obtain ⟨u, t, ht, hu, hsw, hsrc⟩ := execTamperSwitchSample_own s o n k
    have hen' : u.gb (KET_SRC_EN k) = true := hu.en.trans hen
    have habn' : (o.getLsbD k != u.mbit KET_SWCFG_NORM_OPEN k) = true := by
      rw [hu.norm]
      exact habn
    obtain ⟨hentered, hcount⟩ := State.ketSwitch_enters (hu.bist.trans hbist) hen' habn' (hu.abn.trans hnormal) (hu.diff.trans hdiff)
    refine ⟨t, ht, hsw.trans hentered, ?_⟩
    rw [hsrc, hcount, hu.src]
    rfl
  · intro s o n k hen
    obtain ⟨u, t, ht, hu, hsw, hsrc⟩ := execTamperSwitchSample_own s o n k
    have hskip : u.ketSwitch o k = u := State.ketSwitch_disabled (hu.en.trans hen)
    rw [hskip] at hsw hsrc
    exact ⟨t, ht, hsw.trans hu.abn, hsrc.trans hu.src⟩
  · exact fun s n k hbist hen hmode hep hgood => execTamperLoopSample_episode hbist hen hmode hep hgood
  · refine fun s temp mv n hbist => ⟨fun hen hout hfirst => ?_, fun hen hlow hfirst => ?_⟩
    · exact execKettleEnvMeasure_temp hbist hen (by simpa [State.tempOutside] using hout) hfirst
    · exact execKettleEnvMeasure_vbat hbist hen (decide_eq_true hlow) hfirst
  · intro s
    have hsync := State.ketSync_own { s with ket := { s.ket with pulse := false } }
    exact ⟨_, rfl, (congrArg Kettle.pulse hsync :), (Kettle.src_of_own hsync).trans rfl⟩

end Sys2Proof.Machine
end


section
/-! SUPPORT. The Kettle port and the self-test (R465, R475, R478): what a write waits for and takes effect as, and what the device's copy
shows of the port. -/

namespace Sys2Proof.Machine

/-! ### Two's complement -/

theorem toSigned_ofSigned {w : Nat} {i : Int} (hlo : -(2 ^ w : Nat) ≤ 2 * i) (hhi : 2 * i < (2 ^ w : Nat)) :
    toSigned w (ofSigned w i % 2 ^ w) = i := by
  have hpos : (0 : Int) < (2 ^ w : Nat) := by positivity
  unfold toSigned ofSigned
  rw [Nat.mod_mod]
  generalize (2 ^ w : Nat) = m at *
  extract_lets r
  have hmod : ((i % (m : Int)).toNat : Int) = i % m := Int.toNat_of_nonneg (Int.emod_nonneg _ hpos.ne')
  have hr : (r : Int) = i % m := by
    unfold r
    rw [Int.natCast_mod, hmod, Int.emod_emod]
  by_cases hneg : i < 0
  · have hval : i % (m : Int) = i + m := by
      rw [← Int.add_emod_right, Int.emod_eq_of_lt (by omega) (by omega)]
    rw [if_neg (by omega)]
    omega
  · have hval : i % (m : Int) = i := Int.emod_eq_of_lt (by omega) (by omega)
    rw [if_pos (by omega)]
    omega

theorem clampInt_mem {lo hi : Int} (h : lo ≤ hi) (x : Int) : lo ≤ clampInt lo hi x ∧ clampInt lo hi x ≤ hi := by
  unfold clampInt
  omega

/-- What a signed field shows after a write of a number that it can hold. -/
theorem State.gi_si (s : State) (f : Fld) {i : Int} (hlo : -(2 ^ f.w : Nat) ≤ 2 * i) (hhi : 2 * i < (2 ^ f.w : Nat)) :
    (s.si f i).gi f = i := by
  unfold State.gi State.si
  rw [State.gf_sf]
  exact toSigned_ofSigned hlo hhi

/-! ### The device's copy (R478) -/

theorem State.ketCopy_busy (s : State) : s.ketCopy.gb KET_STAT_BUSY = !s.ket.writes.isEmpty := by
  unfold State.ketCopy State.gb
  rw [State.gf_sfs_get _ _ 3 KET_STAT_BUSY _ rfl (by simp; decide)]
  cases s.ket.writes.isEmpty <;> rfl

theorem State.ketCopy_bistBusy (s : State) : s.ketCopy.gb KET_STAT_BIST_BUSY = s.ket.bist.isSome := by
  unfold State.ketCopy State.gb
  rw [State.gf_sfs_get _ _ 4 KET_STAT_BIST_BUSY _ rfl (by simp; decide)]
  cases s.ket.bist.isSome <;> rfl

theorem State.ketCopy_esel (s : State) : s.ketCopy.gf KET_ESEL_SRC = s.gf KET_ESEL_SRC := by
  unfold State.ketCopy
  exact State.gf_sfs_ne _ _ (by simp; decide)

/-- What closing a session may change. -/
def closeScope : Nat :=
  scopeMask (reporting ++ ([.stat, .link, .nvm, .sec, .session] : List StatePart)) (reportRegs ++ ([.cal, .aggStat, .statSeq] : List RegGroup))

/-- The session that the onset of the lock closes leaves the copy. -/
theorem State.ketSync_gf (s : State) {f : Fld} (hlo : f.lo < 32) (hm : closeScope.testBit (64 + (regGroup f.off).ctorIdx) = false) :
    s.ketSync.gf f = s.ketCopy.gf f := by
  unfold State.ketSync
  dsimp only
  split
  · exact (State.closeSession_keeps (w := closeScope) rfl (.refl _ s.ketCopy)).reg f hlo hm
  · rfl

/-! ### The port (R478) -/

theorem State.ketQueue_waits (s : State) (off : Nat) (v : Word) :
    (s.ketQueue off v).ket.writes = s.ket.writes ++ [(off, v)] ∧ (s.ketQueue off v).gb KET_STAT_BUSY = true := by
  unfold State.ketQueue State.gb
  rw [State.gf_sf]
  exact ⟨rfl, rfl⟩

theorem execKettleWrite_of {s : State} (p : Port) (off : Fin 256) (v : Word) (h : s.serving = true) :
    exec (.kettleWrite p off v) s = .next (s.wrKettle p (0x1E00 + off.val) v) :=
  congrArg Host.Outcome.next (if_pos h)

theorem State.wrKettle_plain {s : State} {off : Nat} (p : Port) (v : Word) (hmain : s.ket.main = true) (hw : ketWritable off = true)
    (hsealed : ketSealed off = false) : s.wrKettle p off v = s.ketQueue off v := by
  unfold State.wrKettle
  rw [hw, hmain, hsealed]
  rfl

/-- A write that would change a sealed field, with no other in the port. -/
theorem State.wrKettle_sealed {s : State} {off : Nat} (p : Port) (v : Word) (hmain : s.ket.main = true) (hsealed : ketSealed off = true)
    (hempty : s.ket.writes = []) (hreach : (s.ketApply off v.toNat).regs ≠ s.regs) :
    s.wrKettle p off v = s.rws p off v 0 true (fun s => s) (fun s => (true, s.ketQueue off v)) := by
  unfold State.wrKettle ketWritable
  rw [hsealed, hmain, hempty, Bool.true_or, if_neg (by decide), List.foldl_nil]
  dsimp only
  rw [decide_eq_true hreach]
  rfl

theorem State.cfgReject_writes (s : State) (p : Port) (off : Nat) (v : Word) : (s.cfgReject p off v).ket.writes = s.ket.writes :=
  (congrArg Kettle.writes ((s.cfgReject_keeps_scope p off v).own rfl) :)

/-- The oldest write takes effect, and the copy shows whether another waits. -/
theorem execKettleWriteComplete_of {s : State} {w : Nat × Word} {l : List (Nat × Word)} (n : Nat) (h : s.ket.writes = w :: l) :
    exec (.kettleWriteComplete n) s =
      let u := s.ketRun n
      .next (State.ketApply { u with ket := { u.ket with writes := l } } w.1 w.2.toNat).ketSync := by
  have h' : (s.ketRun n).ket.writes = w :: l := h
  show execKettleWriteComplete n s = _
  unfold execKettleWriteComplete
  dsimp only
  rw [h']

/-! ### The analogue sense (R465) -/

theorem State.asenseApply_of {s : State} {v : Nat} (h : s.gb (KET_SRC_EN (4 + v % 4)) = false) :
    (s.asenseApply v).gf KET_ASENSE_LOOP = v % 4 ∧ (s.asenseApply v).gb KET_ASENSE_EN = v.testBit 2 := by
  unfold State.asenseApply
  rw [h, Bool.and_false, if_neg (by decide), State.gb, State.gf_sfs_get _ _ 0 KET_ASENSE_LOOP _ rfl (by simp; decide),
    State.gf_sfs_get _ _ 1 KET_ASENSE_EN _ rfl rfl]
  exact ⟨Nat.mod_mod _ _, decide_bit v 2⟩

theorem State.asenseApply_ignored {s : State} {v : Nat} (hen : s.gb (KET_SRC_EN (4 + v % 4)) = true) (hset : v.testBit 2 = true) :
    s.asenseApply v = s := by
  unfold State.asenseApply
  rw [hen, hset]
  rfl

/-! ### The self-test (R475) -/

theorem State.bistStart_of {s : State} {mask : Nat} (hmain : s.ket.main = true) (hidle : s.ket.bist = none) :
    (s.bistStart mask).gf KET_BIST_CTRL_MASK = mask % 2 ^ 12 ∧ (s.bistStart mask).gb KET_STAT_BIST_BUSY = true ∧
      (s.bistStart mask).ket.bist = some (maskOf ((List.range 11).filter (fun k => mask.testBit k && s.gb (KET_SRC_EN k)))) := by
  have hcond : ¬ ((s.sf KET_BIST_CTRL_MASK mask).ket.bist.isSome || !(s.sf KET_BIST_CTRL_MASK mask).ket.main) = true := by
    rw [State.sf_ket, hidle, hmain]
    decide
  have hkeep : ∀ k, (s.sf KET_BIST_CTRL_MASK mask).gb (KET_SRC_EN k) = s.gb (KET_SRC_EN k) := fun k =>
    s.gb_sf_ne mask (show 0x1E50 * 32 + 0 ≠ (0x1E80 + 4 * k) * 32 + 0 by omega)
  unfold State.bistStart
  dsimp only
  rw [if_neg hcond]
  simp only [hkeep]
  refine ⟨?_, State.ketCopy_bistBusy _, ?_⟩
  · unfold State.ketCopy
    rw [State.gf_sfs_ne _ _ (by simp; decide)]
    exact s.gf_sf KET_BIST_CTRL_MASK mask
  · unfold State.ketCopy
    rw [State.sfs_eq]

theorem testBit_bistMask (s : State) {mask k : Nat} (hk : k < 11) :
    (maskOf ((List.range 11).filter (fun k => mask.testBit k && s.gb (KET_SRC_EN k)))).testBit k =
      (mask.testBit k && s.gb (KET_SRC_EN k)) := by
  rw [testBit_maskOf]
  cases h : mask.testBit k && s.gb (KET_SRC_EN k) <;> simp [h, hk]

/-- What the self-test has shown, and that it has ended, stands in `t` as in `s`. -/
structure State.BistSame (s t : State) : Prop where
  bist : t.ket.bist = s.ket.bist
  result : ∀ f : Fld, f.lo < 32 → f.off = 0x1E54 → t.gf f = s.gf f

theorem State.BistSame.refl (s : State) : s.BistSame s := ⟨rfl, fun _ _ _ => rfl⟩

theorem State.BistSame.trans {s t u : State} (h : s.BistSame t) (h' : t.BistSame u) : s.BistSame u :=
  ⟨h'.bist.trans h.bist, fun f hlo hoff => (h'.result f hlo hoff).trans (h.result f hlo hoff)⟩

theorem State.BistSame.of_emit (s : State) (r : Rec) : s.BistSame (s.emit r) :=
  ⟨(congrArg Kettle.bist (s.emit_own r) :), fun _ hlo hoff => (State.emit_keeps (Nat.and_self _) (.refl _ s)).reg _ hlo (by rw [hoff]; rfl)⟩

theorem State.BistSame.of_ketEvent (s : State) (k : Fin 12) : s.BistSame (s.ketEvent k) :=
  ⟨s.ketEvent_bist k, fun _ hlo hoff => s.ketEvent_gf k hlo (by rw [hoff]; rfl)⟩

theorem State.BistSame.of_ketSync (s : State) : s.BistSame s.ketSync :=
  ⟨(congrArg Kettle.bist s.ketSync_own :), fun _ hlo hoff => (State.ketSync_keeps (Nat.and_self _) (.refl _ s)).reg _ hlo (by rw [hoff]; rfl)⟩

/-- A fold whose steps keep what the self-test has shown keeps it. -/
theorem State.BistSame.foldl {α : Type} {f : State → α → State} (h : ∀ u a, State.BistSame u (f u a)) (l : List α) (s : State) :
    s.BistSame (l.foldl f s) :=
  List.foldlRecOn l f (.refl s) fun u hu a _ => hu.trans (h u a)

/-- The results of a self-test of the sources of `m`. -/
def State.bistShown (s : State) (m : Nat) : State :=
  let u := s.sfs [(KET_BIST_RES_PASS, s.ket.bistMark &&& m), (KET_BIST_RES_TESTED, m), (KET_BIST_RES_DONE, 1)]
  { u with ket := { u.ket with bist := none } }

theorem State.bistShown_values (s : State) (m : Nat) :
    (s.bistShown m).gf KET_BIST_RES_PASS = (s.ket.bistMark &&& m) % 2 ^ 12 ∧ (s.bistShown m).gf KET_BIST_RES_TESTED = m % 2 ^ 12 ∧
      (s.bistShown m).gb KET_BIST_RES_DONE = true ∧ (s.bistShown m).ket.bist = none := by
  refine ⟨?_, ?_, ?_, rfl⟩
  · exact State.gf_sfs_get s _ 0 KET_BIST_RES_PASS _ rfl (by simp; decide)
  · exact State.gf_sfs_get s _ 1 KET_BIST_RES_TESTED _ rfl (by simp; decide)
  · exact decide_eq_true (State.gf_sfs_get s _ 2 KET_BIST_RES_DONE 1 rfl rfl)

/-- The records and events of the end leave what it shows. -/
theorem execKettleBistDone_of {s : State} {m : Nat} (n : Nat) (h : s.ket.bist = some m) :
    ∃ t, exec (.kettleBistDone n) s = .next t ∧ ((s.ketRun n).bistShown m).BistSame t := by
  have h' : (s.ketRun n).ket.bist = some m := h
  generalize ht : exec (.kettleBistDone n) s = t
  change execKettleBistDone n s = t at ht
  unfold execKettleBistDone at ht
  dsimp only at ht
  rw [h'] at ht
  refine ⟨_, ht.symm, ?_⟩
  refine .trans ?_ (.of_ketSync _)
  refine .trans (.foldl (fun u k => .of_emit u _) _ _) (.foldl (fun u k => ?_) _ _)
  split
  · exact .of_ketEvent u k
  · exact .refl u

end Sys2Proof.Machine
end

section
/-! EXTRA THEOREM. The Kettle port and the self-test. -/

namespace Sys2Proof.Machine

/-- A write of KET_TRIM that would change the trim enters the port inside a session of its port only. -/
theorem execKettleWrite_trim {s : State} (p : Port) (v : Word) (hserving : s.serving = true) (hmain : s.ket.main = true)
    (hempty : s.ket.writes = []) (hreach : (s.ketApply 0x1E14 v.toNat).regs ≠ s.regs) :
    (s.sealOpen p = true → ∃ t, exec (.kettleWrite p 0x14 v) s = .next t ∧ t.ket.writes = [(0x1E14, v)] ∧ t.gb KET_STAT_BUSY = true) ∧
      (s.sealOpen p = false → ∃ t, exec (.kettleWrite p 0x14 v) s = .next t ∧ t.ket.writes = []) := by
  have hrws := State.wrKettle_sealed p v hmain (off := 0x1E14) rfl hempty hreach
  constructor
  · refine fun hopen => ⟨_, execKettleWrite_of p 0x14 v hserving, ?_⟩
    show (s.wrKettle p 0x1E14 v).ket.writes = _ ∧ (s.wrKettle p 0x1E14 v).gb KET_STAT_BUSY = true
    obtain ⟨hwrites, hbusy⟩ := s.ketQueue_waits 0x1E14 v
    rw [hrws, State.rws_inside_gb hopen, hbusy]
    have hown := (State.rws_inside_keeps (off := 0x1E14) (v := v) (ctx := 0) (plain := fun s => s)
      (inside := fun s => (true, s.ketQueue 0x1E14 v)) hopen).own rfl
    refine ⟨(congrArg Kettle.writes hown :).trans (hwrites.trans ?_), rfl⟩
    rw [hempty]
    rfl
  · refine fun hclosed => ⟨_, execKettleWrite_of p 0x14 v hserving, ?_⟩
    show (s.wrKettle p 0x1E14 v).ket.writes = _
    rw [hrws, State.rws_outside hclosed, State.cfgReject_writes, hempty]

theorem execKettleWriteComplete_esel {s : State} {v : Word} {l : List (Nat × Word)} (n : Nat) (h : s.ket.writes = (0x1E1C, v) :: l) :
    ∃ t, exec (.kettleWriteComplete n) s = .next t ∧ t.gf KET_ESEL_SRC = v.toNat % 16 ∧ t.ket.writes = l ∧
      t.gb KET_STAT_BUSY = !l.isEmpty := by
  refine ⟨_, execKettleWriteComplete_of n h, ?_⟩
  have happly : ∀ u : State, u.ketApply 0x1E1C v.toNat = u.sf KET_ESEL_SRC v.toNat := fun _ => rfl
  dsimp only
  rw [happly, State.gb, State.ketSync_gf _ (by decide) rfl, State.ketSync_gf _ (by decide) rfl, State.ketCopy_esel, State.gf_sf]
  exact ⟨rfl, (congrArg Kettle.writes (State.ketSync_own _) :), State.ketCopy_busy _⟩

theorem execKettleWriteComplete_trim {s : State} {v : Word} {l : List (Nat × Word)} (n : Nat) (h : s.ket.writes = (0x1E14, v) :: l) :
    ∃ t, exec (.kettleWriteComplete n) s = .next t ∧ t.gi KET_TRIM_TRIM = clampInt (-200) 200 (toSigned 9 v.toNat) ∧ t.ket.writes = l := by
  refine ⟨_, execKettleWriteComplete_of n h, ?_⟩
  have happly : ∀ u : State, u.ketApply 0x1E14 v.toNat = u.si KET_TRIM_TRIM (clampInt (-200) 200 (toSigned 9 v.toNat)) := fun _ => rfl
  obtain ⟨hlo, hhi⟩ := clampInt_mem (lo := -200) (hi := 200) (by decide) (toSigned 9 v.toNat)
  dsimp only
  rw [happly, State.gi, (State.ketSync_keeps (Nat.and_self _) (.refl _ _)).reg _ (by decide) rfl]
  refine ⟨State.gi_si _ KET_TRIM_TRIM ?_ ?_, (congrArg Kettle.writes (State.ketSync_own _) :)⟩
  · show -((2 ^ 9 : Nat) : Int) ≤ _
    omega
  · show _ < ((2 ^ 9 : Nat) : Int)
    omega

/-- Settles O60, by cases on the command: what each write or test sets is kept by the refresh of the copy that follows. -/
theorem kettlePortAndBist : Obligations.KettlePortAndBist := by
  refine ⟨?_, ?_, ?_, ?_, ?_⟩
  · refine fun s p v hserving hmain => ⟨⟨_, execKettleWrite_of p 0x1C v hserving, ?_⟩, fun hempty hreach => ?_⟩
    · show (s.wrKettle p 0x1E1C v).ket.writes = _ ∧ (s.wrKettle p 0x1E1C v).gb KET_STAT_BUSY = true
      rw [State.wrKettle_plain p v hmain rfl rfl]
      exact s.ketQueue_waits 0x1E1C v
    · exact execKettleWrite_trim p v hserving hmain hempty hreach
  · exact fun s v l n => ⟨execKettleWriteComplete_esel n, execKettleWriteComplete_trim n⟩
  · intro s v hserving hmain hempty
    have hcond : (s.serving && s.ket.main && s.ket.writes.isEmpty) = true := by rw [hserving, hmain, hempty]; rfl
    have hexec : exec (.kettleAsenseWrite v) s = .next (s.asenseApply v.toNat) := congrArg Host.Outcome.next (if_pos hcond)
    refine ⟨fun hoff => ⟨_, hexec, State.asenseApply_of hoff⟩, fun hen hset => ?_⟩
    rw [hexec, State.asenseApply_ignored hen hset]
  · intro s m hserving hmain hempty hidle
    have hcond : (s.serving && s.ket.main && s.ket.writes.isEmpty) = true := by rw [hserving, hmain, hempty]; rfl
    obtain ⟨hmask, hbusy, hbist⟩ := State.bistStart_of (mask := m.toNat) hmain hidle
    refine ⟨_, congrArg Host.Outcome.next (if_pos hcond), hmask.trans (Nat.mod_eq_of_lt m.isLt), hbusy, fun q hq k hk => ?_⟩
    cases hbist.symm.trans hq
    exact testBit_bistMask s hk
  · intro s m n hbist hm
    obtain ⟨t, ht, hsame⟩ := execKettleBistDone_of n hbist
    obtain ⟨hpass, htested, hdone, hnone⟩ := (s.ketRun n).bistShown_values m
    refine ⟨t, ht, hsame.bist.trans hnone, ?_, ?_, ?_⟩
    · unfold State.gb at hdone ⊢
      rw [hsame.result KET_BIST_RES_DONE (by decide) rfl, hdone]
    · rw [hsame.result KET_BIST_RES_TESTED (by decide) rfl, htested, Nat.mod_eq_of_lt hm]
    · rw [hsame.result KET_BIST_RES_PASS (by decide) rfl, hpass]
      rfl

end Sys2Proof.Machine
end
